-- ==== Sys2Proof/Word.lean ====
section
/-! DEFINITION. The words of the EZ6480: a register word, a byte, and the widths the manual names. -/

namespace Sys2Proof

/-- A register word (chapter 0, Registers: registers are 32 bits wide). -/
abbrev Word := BitVec 32

/-- A byte of the audio SRAM, of an image or of a packet. -/
abbrev Byte := BitVec 8

/-- A raw code of a converter cell: 18 bits, offset binary (R37). -/
abbrev CellCode := BitVec 18

/-- A raw code of the control-sense converter (R333). -/
abbrev SenseCode := BitVec 16

end Sys2Proof
end

