-- ==== Sys2Proof/Syntax.lean ====
section
/-! DEFINITION. The commands the block takes: one constructor for each row of the operation table, in the table's order. A command is a host
transaction, a write of a register that has a row of its own, a received packet, or an event of the hardware with the values it brings
(a conversion code, a decoded microframe, a comparator's verdict). -/

namespace Sys2Proof

/-- One of the 36 half-band chains: decimation chain `n` of R112 or interpolation chain `m` of R115. -/
inductive ChainId where
  | dec (n : Nat)
  | int (m : Nat)
deriving DecidableEq, Repr

/-- An audio SRAM or coefficient word whose stored bits have flipped since the last command that names one: its local word address, and
whether the SECDED code can only detect the error (R440). -/
structure Upset where
  addr : Nat
  uncorrectable : Bool
deriving DecidableEq, Repr

/-- The K-code a receiver finds at byte 0 of a microframe slot (R384, R387). -/
inductive KCode where
  | k281
  | k285
  | other
deriving DecidableEq, Repr

/-- A microframe slot as the deserialiser hands it on: byte 0 as a K-code, bytes 1 to 19, the number of code and disparity violations seen in it,
whether the receive polarity is corrected, and at a marker its arrival after the own frame boundary in 1/8 ns (R386 to R388, R395, R405). -/
structure Microframe where
  kcode : KCode
  bytes : List Byte
  violations : Nat
  inverted : Bool
  rho : Int
deriving DecidableEq, Repr

/-- A management packet with its CRC-32 removed (R417). -/
structure Packet where
  type : Nat
  dst : Nat
  src : Nat
  epoch : Nat
  seq : Nat
  status : Nat
  payload : List Byte
deriving DecidableEq, Repr

/-- One received frame of a serial audio port (R267): the raw slots of the frame, most significant bit first and right-aligned, whether the
frame is complete, the FS edge's distance from its expected tick (R271), the tracker's phase error in 1/16 tick and the measured rate
deviation in ppm and frame period in 1/65536 tick (R281, SRC_TRK_PER). -/
structure SapFrameIn where
  slots : List Word
  complete : Bool
  fsOffset : Int
  phaseErr : Int
  ppm : Int
  period : Nat
deriving DecidableEq, Repr

/-- A privileged channel of R293. -/
inductive PrivChannel where
  | ia | va | ib | vb | pvdd
deriving DecidableEq, Repr

/-- The three control-sense sequences (R338). -/
inductive Seq where
  | a | b | inj
deriving DecidableEq, Repr

/-- A reference of the main PLL (R363), as the qualifier names it. -/
inductive RefName where
  | primary
  | crystal
deriving DecidableEq, Repr

/-- A protected lane in or bulk tap (R430, R432). -/
inductive ProtId where
  | lane (k : Nat)
  | bulk (k : Nat)
deriving DecidableEq, Repr

/-- How a self-test slice ended (R551). -/
structure SliceVerdict where
  applied : Nat
  mismatch : Bool
  signatureOk : Bool
deriving DecidableEq, Repr

/-- What the full self-test found of a target (R556): its verdict, and the cells, units, banks or lanes that failed. -/
structure TargetVerdict where
  verdict : SliceVerdict
  failed : List Nat
deriving DecidableEq, Repr

/-- The source of a PIN reset (PWR_RST.SRC of R547). -/
inductive PinCause where
  | resetN | rstkey | rail | dormantWake
deriving DecidableEq, Repr

/-- The commands of the operation table, in its order. -/
inductive Instr where
  /-- SPI_WRITE (R508): the 32-bit address word and the complete data words. -/
  | spiWrite (addr : Word) (words : List Word)
  /-- SPI_READ (R509): the address word, the number of words wholly shifted out, the positions of words not ready in time. -/
  | spiRead (addr : Word) (count : Nat) (late : List Nat) (upsets : List Upset)
  /-- SPI_STATUS (R512): the number of status words shifted out. -/
  | spiStatus (count : Nat)
  /-- IMAGE_STREAM (R493): the address word (target and stream offset) and the whole data words. -/
  | imageStream (addr : Word) (words : List Word)
  /-- UNKNOWN_OPCODE (R505). -/
  | unknownOpcode (op : Byte)
  /-- FRAME_BOUNDARY (R17). -/
  | frameBoundary
  /-- GRAPH_INSTANT (R179). -/
  | graphInstant (upsets : List Upset)
  /-- CELL_CONVERSION (R42): the cell, its raw code, and whether its redundant decisions form an impossible pattern (R58). -/
  | cellConversion (cell : Nat) (code : CellCode) (impossible : Bool)
  /-- SPARE_RETARGET (R58): the group. -/
  | spareRetarget (g : Nat)
  /-- MON_CONVERSION (R51): the group, the raw code, and whether its redundant decisions form an impossible pattern (R608). -/
  | monConversion (g : Nat) (code : CellCode) (impossible : Bool)
  /-- OUT_SWAP (R52). -/
  | outSwap (g : Nat)
  /-- OUT_RAMP_END (R52). -/
  | outRampEnd (g : Nat)
  /-- ROT_NOW (R61). -/
  | rotNow (g : Nat)
  /-- RETRY (R53). -/
  | retry (g : Nat)
  /-- SLICE_QUEUE (R61). -/
  | sliceQueue (g : Nat)
  /-- SLICE_START (R64). -/
  | sliceStart
  /-- RECOVERY_SLICE (R62). -/
  | recoverySlice
  /-- PROMOTION_SLICE (R72). -/
  | promotionSlice
  /-- SCARF_IN_END (R64): whether the ladder comparison of R69 held on every tick (output groups). -/
  | scarfInEnd (laddersMatch : Bool)
  /-- SLICE_PATTERN (R65): whether the pattern's result matched. -/
  | slicePattern (matched : Bool)
  /-- TEST_PHASE_END (R64). -/
  | testPhaseEnd
  /-- SLICE_END (R65): whether the scarf-out tracking held. -/
  | sliceEnd (tracked : Bool)
  /-- SPARE_LEARN (R48). -/
  | spareLearn (g : Nat)
  /-- GAIN_WRITE (R84): the port and TARGET. -/
  | gainWrite (n : Nat) (target : Nat)
  /-- GAIN_STEP (R82). -/
  | gainStep (n : Nat)
  /-- GAIN_TIMEOUT (R83). -/
  | gainTimeout (n : Nat)
  /-- GAIN_RAMP_END (R84). -/
  | gainRampEnd (n : Nat)
  /-- MBIAS_ENABLE (R89): the supply, EN and VSET as written. -/
  | mbiasEnable (m : Nat) (en : Bool) (vset : Nat)
  /-- BIAS_SETTLED (R89). -/
  | biasSettled (m : Nat)
  /-- MBIAS_CURRENT_LIMIT (R90). -/
  | mbiasCurrentLimit (m : Nat)
  /-- CM_RISE_END (R92). -/
  | cmRiseEnd (n : Nat)
  /-- CM_FALL_END (R94). -/
  | cmFallEnd (n : Nat)
  /-- RANGE_WRITE (R95, R324): the output (0-15 UAP, 16 HPL, 17 HPR) and RANGE. -/
  | rangeWrite (o : Nat) (high : Bool)
  /-- RANGE_SWITCH (R95). -/
  | rangeSwitch (o : Nat)
  /-- RANGE_CHANGE_END (R95). -/
  | rangeChangeEnd (o : Nat)
  /-- OUTPUT_RELEASE (R93). -/
  | outputRelease (o : Nat)
  /-- CLOCHE_SHUT (R100). -/
  | clocheShut
  /-- CLOCHE_OPEN (R101). -/
  | clocheOpen
  /-- CLOCHE_OPEN_DONE (R101). -/
  | clocheOpenDone
  /-- CHAIN_OUTPUT (R127). -/
  | chainOutput (c : ChainId)
  /-- SRST (R121). -/
  | srst (c : ChainId)
  /-- CHAIN_SHIFT_WRITE (R129): the word written to CHAIN_DSHIFT or CHAIN_ISHIFT. -/
  | chainShiftWrite (c : ChainId) (w : Word)
  /-- CHAIN_RESTART (R122). -/
  | chainRestart (c : ChainId)
  /-- XP_GAIN_WRITE (R141): output, input and the 18-bit gain. -/
  | xpGainWrite (o inp : Nat) (gain : BitVec 18)
  /-- XP_CROSSING_STEP (R141). -/
  | xpCrossingStep (o inp : Nat)
  /-- XP_GAIN_TIMEOUT (R142). -/
  | xpGainTimeout (o inp : Nat)
  /-- XP_RAMP_END (R145). -/
  | xpRampEnd (o inp : Nat)
  /-- DIR_HOLD_RELEASE (R144). -/
  | dirHoldRelease
  /-- BQ_SWAP (R150). -/
  | bqSwap (o : Nat)
  /-- BQ_SWAP_END (R150). -/
  | bqSwapEnd (o : Nat)
  /-- ROUTE_SCARF_END (R160). -/
  | routeScarfEnd (o : Nat)
  /-- ALT_WRITE (R174): the select and ALT. -/
  | altWrite (k : Nat) (alt : Nat)
  /-- SELECT_SWITCH_END (R248). -/
  | selectSwitchEnd (k : Nat)
  /-- SELHOLD_RELEASE (R176). -/
  | selholdRelease
  /-- RING_INDEX_WRITE (R195): the ring, whether WR (else RD) is written, and the value. -/
  | ringIndexWrite (t : Nat) (isWr : Bool) (v : Word)
  /-- APPLY (R201): the block number of R166. -/
  | apply (b : Nat)
  /-- BLOCK_SCARF_END (R245). -/
  | blockScarfEnd (b : Nat)
  /-- CNV_SWAP (R223). -/
  | cnvSwap (c : Nat)
  /-- CNV_COEF_WRITE (R222): the local address in coefficient memory and the word. -/
  | cnvCoefWrite (addr : Nat) (w : Word)
  /-- LFORST (R224). -/
  | lforst (m : Nat)
  /-- DELAY_JUMP (R229): the delay, the channel (0 left, 1 right) and TIME. -/
  | delayJump (d : Nat) (ch : Nat) (time : Nat)
  /-- PRE_DELAY_WRITE (R231): the reverb and PRE. -/
  | preDelayWrite (v : Nat) (pre : Nat)
  /-- PRST (R236). -/
  | prst (g : Nat)
  /-- TG_SYNC (R236): the mask written to EFX_TGSYNC. -/
  | tgSync (mask : BitVec 8)
  /-- COMMIT (R254). -/
  | commit
  /-- GRAFT_FREEZE_END (R254). -/
  | graftFreezeEnd
  /-- GRAFT_SWITCH (R255). -/
  | graftSwitch
  /-- GRAFT_SETTLE_END (R254). -/
  | graftSettleEnd
  /-- ABORT (R257). -/
  | abort
  /-- SAP_FRAME (R267). -/
  | sapFrame (p : Nat) (f : SapFrameIn)
  /-- FS_TIMEOUT (R281). -/
  | fsTimeout (p : Nat)
  /-- SPK_RELEASE (R298): channel 0 A, 1 B. -/
  | spkRelease (c : Nat)
  /-- SPK_SWITCH_START (R298). -/
  | spkSwitchStart (c : Nat)
  /-- SPK_RAMPUP_START (R298). -/
  | spkRampupStart (c : Nat)
  /-- SPK_RUN (R298). -/
  | spkRun (c : Nat)
  /-- SPK_HOLD (R299). -/
  | spkHold (c : Nat)
  /-- SPK_OFF (R299). -/
  | spkOff (c : Nat)
  /-- PRIVILEGED_CONVERSION (R293): the channel and its code. -/
  | privilegedConversion (ch : PrivChannel) (code : SenseCode)
  /-- CURRENT_LIMIT (R302). -/
  | currentLimit (c : Nat)
  /-- HARD_SHORT (R302). -/
  | hardShort (c : Nat)
  /-- LOAD_CHECK (R304). -/
  | loadCheck (c : Nat)
  /-- LOAD_CHECK_END (R304). -/
  | loadCheckEnd (c : Nat)
  /-- RETRY_CLEAR (R305). -/
  | retryClear (c : Nat)
  /-- SPK_CLR (R305). -/
  | spkClr (c : Nat)
  /-- CHECK (R306). -/
  | check (c : Nat)
  /-- THERMAL_UPDATE (R307). -/
  | thermalUpdate (c : Nat)
  /-- POWER_DIE_OVERTEMP (R580). -/
  | powerDieOvertemp
  /-- JACK_SAMPLE (R313): the jack, and whether its pin reads below the threshold of R312. -/
  | jackSample (n : Nat) (below : Bool)
  /-- JACK_DEBOUNCED (R316). -/
  | jackDebounced (n : Nat)
  /-- IDENTIFICATION_STEP (R317): the jack and, for the last step, the amplitude of the 24 kHz test in units of 10 ohm. -/
  | identificationStep (n : Nat) (zac : Nat)
  /-- IDENTIFICATION_END (R318). -/
  | identificationEnd (n : Nat)
  /-- JACK_REMOVAL (R320). -/
  | jackRemoval (n : Nat)
  /-- REMOVAL_MUTE_END (R320): the output (0-17). -/
  | removalMuteEnd (o : Nat)
  /-- REIDENTIFY (R319). -/
  | reidentify (n : Nat)
  /-- REID (R319). -/
  | reid (n : Nat)
  /-- CPOK (R325). -/
  | cpok
  /-- HP_STAGE_ON (R325): side 0 HPL, 1 HPR. -/
  | hpStageOn (side : Nat)
  /-- PUMPFAIL (R325). -/
  | pumpfail
  /-- HP_TRIP (R326). -/
  | hpTrip (side : Nat)
  /-- HP_CLR (R326). -/
  | hpClr (side : Nat)
  /-- SEQUENCE_TRIGGER (R338). -/
  | sequenceTrigger (q : Seq)
  /-- CSC_START (R338): STARTA, STARTB and STARTI as written. -/
  | cscStart (mask : BitVec 3)
  /-- CSC_TIMER (R339). -/
  | cscTimer (t : Nat)
  /-- CSC_CONVERSION (R336): the unit (0 A, 1 B) and the code. -/
  | cscConversion (unit : Nat) (code : SenseCode)
  /-- SNAPSHOT_GO (R351). -/
  | snapshotGo
  /-- REF_READY (R348). -/
  | refReady
  /-- X32_FAIL (R361). -/
  | x32Fail
  /-- RING_MEASURE (R362): the deviation in 0.01 %. -/
  | ringMeasure (dev : Int)
  /-- PLL_LOCKED (R366). -/
  | pllLocked
  /-- REFERENCE_LOST (R371). -/
  | referenceLost
  /-- COAST_LIMIT (R373): phase error and frequency difference of the crystal it may take. -/
  | coastLimit (phi : Int) (ppm : Int)
  /-- REFERENCE_QUALIFIED (R374): which, its phase error in 1/8 ns and its frequency difference in ppm. -/
  | referenceQualified (r : RefName) (phi : Int) (ppm : Int)
  /-- SLEW_DONE (R376). -/
  | slewDone
  /-- SNAP_PAUSE (R377). -/
  | snapPause
  /-- SNAP_END (R377). -/
  | snapEnd
  /-- CLK_COMMIT (R369). -/
  | clkCommit
  /-- SHADOW_APPLY (R369): phase error and frequency difference of the reference it may take. -/
  | shadowApply (phi : Int) (ppm : Int)
  /-- XTI_QUAL_LOSS (R373). -/
  | xtiQualLoss
  /-- LINK_PLL_LOCK (R380). -/
  | linkPllLock
  /-- LINK_PLL_LOSS (R380). -/
  | linkPllLoss
  /-- SIGNAL_DETECT (R393). -/
  | signalDetect (p : Nat)
  /-- LOSS_OF_SIGNAL (R393). -/
  | lossOfSignal (p : Nat)
  /-- MICROFRAME_RECEIVE (R402). -/
  | microframeReceive (p : Nat) (mf : Microframe)
  /-- FAILED_RETRY (R393). -/
  | failedRetry (p : Nat)
  /-- RETRAIN (R404). -/
  | retrain (p : Nat)
  /-- GRID_ALIGN (R398). -/
  | gridAlign
  /-- TWOROOT (R407). -/
  | tworoot (p : Nat)
  /-- NOROOT (R408). -/
  | noroot
  /-- CENSUS_START (R409). -/
  | censusStart
  /-- START (R409). -/
  | start
  /-- CENSUS (R410). -/
  | census (p : Nat) (pkt : Packet)
  /-- CENRET (R410). -/
  | cenret (p : Nat) (pkt : Packet)
  /-- CENDONE (R412). -/
  | cendone (p : Nat) (pkt : Packet)
  /-- TOPO (R410). -/
  | topo (p : Nat) (pkt : Packet)
  /-- WRITE (R424). -/
  | write (p : Nat) (pkt : Packet)
  /-- WACK (R421). -/
  | wack (p : Nat) (pkt : Packet)
  /-- READ (R422). -/
  | read (p : Nat) (pkt : Packet)
  /-- RDATA (R422). -/
  | rdata (p : Nat) (pkt : Packet)
  /-- LOFFER (R426). -/
  | loffer (p : Nat) (pkt : Packet)
  /-- LANSWER (R426). -/
  | lanswer (p : Nat) (pkt : Packet)
  /-- NOTIFY (R517). -/
  | notify (p : Nat) (pkt : Packet)
  /-- IMG (R494). -/
  | img (p : Nat) (pkt : Packet)
  /-- CENSUS_REPEAT (R411). -/
  | censusRepeat (p : Nat)
  /-- CENFAIL (R411). -/
  | cenfail
  /-- CENSUS_RESTART (R411). -/
  | censusRestart
  /-- EPOCH_DISCARD (R411). -/
  | epochDiscard
  /-- REQUEST_REPEAT (R421): the SEQ of the outstanding request. -/
  | requestRepeat (seq : Nat)
  /-- HANDSHAKE_TIMEOUT (R427). -/
  | handshakeTimeout (p : Nat)
  /-- PROTECTION_SWITCH (R431). -/
  | protectionSwitch (l : ProtId)
  /-- PROTECTION_REVERT (R432). -/
  | protectionRevert (l : ProtId)
  /-- FORCE (R432): lane in k. -/
  | force (k : Nat)
  /-- SCRUB_WRITEBACK (R441): the local word address. -/
  | scrubWriteback (addr : Nat)
  /-- SRAM_CLEAR_DONE (R446). -/
  | sramClearDone
  /-- DMA_GO (R460). -/
  | dmaGo (c : Nat)
  /-- DESCRIPTOR_FETCH (R463). -/
  | descriptorFetch (c : Nat)
  /-- DMA_BEAT (R462): the channel, and the eight bytes an xSPI source answers. -/
  | dmaBeat (c : Nat) (ext : List Byte) (upsets : List Upset)
  /-- DMA_COMPLETE (R465): the channel, and the bytes an xSPI destination reads back. -/
  | dmaComplete (c : Nat) (ext : List Byte) (upsets : List Upset)
  /-- STOP (R467). -/
  | stop (c : Nat)
  /-- DMA_ABORT (R467): whether the write falls in the completion cycle. -/
  | dmaAbort (c : Nat) (inCompletion : Bool)
  /-- SKIP (R464). -/
  | skip (c : Nat)
  /-- RESTART (R464). -/
  | restart (c : Nat)
  /-- PAGE_GAP (R453). -/
  | pageGap
  /-- BUSY_POLL (R453): the status byte the memory answers. -/
  | busyPoll (status : Byte)
  /-- POLL_TIMEOUT (R454). -/
  | pollTimeout
  /-- INDIRECT_COMMAND (R455). -/
  | indirectCommand
  /-- INDIRECT_DONE (R455): the data bytes a read command returned. -/
  | indirectDone (data : List Byte)
  /-- XSPI_BOOT_READ (R491): the bytes the memory answers to the boot read in progress. -/
  | xspiBootRead (bytes : List Byte)
  /-- XSPI_BOOT_RETRY (R490). -/
  | xspiBootRetry
  /-- SIGNATURE_VERIFIED (R495). -/
  | signatureVerified
  /-- ADMISSION (R496). -/
  | admission
  /-- ADMISSION_END (R24). -/
  | admissionEnd
  /-- LOAD (R496). -/
  | load
  /-- DISCARD (R502). -/
  | discard
  /-- REARM (R516). -/
  | rearm
  /-- REARM_END (R516). -/
  | rearmEnd
  /-- KICK (R520): the value written. -/
  | kick (v : Word)
  /-- WDWARN (R520). -/
  | wdwarn
  /-- WDOG_EXPIRY (R520). -/
  | wdogExpiry
  /-- RSTKEY (R521): the key written. -/
  | rstkey (v : BitVec 16)
  /-- SOFTWARE_RESET (R521). -/
  | softwareReset
  /-- WAKE_EVENT (R519). -/
  | wakeEvent
  /-- MODE_REQUEST (R526): the mode code written to REQ. -/
  | modeRequest (req : Nat)
  /-- MODE_ENTRY_DONE (R527). -/
  | modeEntryDone
  /-- WAKE_READY (R533). -/
  | wakeReady
  /-- TL0_SIGNAL_DETECT (R531). -/
  | tl0SignalDetect
  /-- AON_TIMER_MATCH (R534). -/
  | aonTimerMatch
  /-- HOST_WAKE (R531). -/
  | hostWake
  /-- TSLATCH (R535). -/
  | tslatch
  /-- LISTEN_SAMPLE (R536): the codes of the 48 conversions of the Listen cell the decimator takes. -/
  | listenSample (codes : List CellCode)
  /-- ONSET_BLOCK (R537). -/
  | onsetBlock
  /-- HANDOFF (R540). -/
  | handoff
  /-- LSNEND (R540). -/
  | lsnend
  /-- RINGSTOP (R540). -/
  | ringstop
  /-- RAIL_FAULT (R542): the rail, in PWR_RAIL order. -/
  | railFault (r : Nat)
  /-- RAIL_RECOVERY (R528): the rails now in range and whether the logic die is below 120 °C. -/
  | railRecovery (rails : BitVec 8) (cool : Bool)
  /-- RAIL_RESET (R542): the rails below their reset threshold. -/
  | railReset (rails : BitVec 8)
  /-- POR (R544). -/
  | por
  /-- PIN_RESET (R545): the cause. -/
  | pinReset (cause : PinCause)
  /-- OVERTEMP (R34): the temperature code. -/
  | overtemp (code : SenseCode)
  /-- CORE_RELEASE (R543). -/
  | coreRelease
  /-- OTP_LOAD_DONE (R543): the level of BOOT[1:0]. -/
  | otpLoadDone (boot : BitVec 2)
  /-- BST_SLICE (R548): the target. -/
  | bstSlice (t : Nat)
  /-- BST_SLICE_END (R551). -/
  | bstSliceEnd (v : SliceVerdict)
  /-- BST_CYCLE_END (R550). -/
  | bstCycleEnd
  /-- FULL (R556). -/
  | full
  /-- SERVICE_END (R556): the result of each target of R548. -/
  | serviceEnd (results : List TargetVerdict)
  /-- LC_TRANSITION (R557): TARGET and KEY. -/
  | lcTransition (target : Nat) (key : BitVec 16)
  /-- LC_PROGRAMMED (R557). -/
  | lcProgrammed
  /-- SEC_PROGRAM (R558): SEL and OPT as written. -/
  | secProgram (sel : Nat) (opt : Bool)
  /-- REVOKE (R558): SEL as written. -/
  | revoke (sel : Nat)
  /-- SCANEN (R560). -/
  | scanen
  /-- FLT_CLR (R561). -/
  | fltClr
  /-- ACK (R561). -/
  | ack
  /-- POWER_LOSS (R542): whether the supply goes altogether. -/
  | powerLoss (off : Bool)
  /-- RESET_RELEASE (R545). -/
  | resetRelease
  /-- PROGDONE (R558): whether the OTP verified. -/
  | progdone (verified : Bool)
  /-- SLOW_CLOCK_SWITCH (R360). -/
  | slowClockSwitch
  /-- MBIAS_OK_LOST (R89). -/
  | mbiasOkLost (m : Nat)
deriving DecidableEq, Repr

end Sys2Proof
end

