-- ==== Sys2Proof/Decode.lean ====
section
/-! DEFINITION. The words of the opcode table: its rows give no bits, so no word spells a command. -/

namespace Sys2Proof

/-- The command that a word spells by the table's bits. No row of the table gives bits. -/
def decodeTableWord (_nbits _w : Nat) : Option Instr := none

end Sys2Proof
end

