-- ==== Sys2Proof/Machine/RegDef.lean ====
section
/-! DEFINITION. What a register table of the manual says of a register: its fields with their access codes (R8), reset values and retention
classes (R11), and where its instances lie. -/

namespace Sys2Proof.Machine

/-- The access codes of R8. -/
inductive Access where
  | ro | rw | wo | w1c | w1p | rol
deriving DecidableEq, Repr

/-- The retention classes of R11. -/
inductive Kept where
  | a | h | s | v
deriving DecidableEq, Repr

/-- A row of a register table. `image` is set where the Reset column reads "image". -/
structure FieldDef where
  name : String
  lo : Nat
  width : Nat
  access : Access
  reset : Nat
  kept : Kept
  image : Bool
deriving DecidableEq, Repr

/-- A register kind: the address of its first instance and the (count, stride) of each of its indices. -/
structure RegDef where
  name : String
  base : Nat
  dims : List (Nat × Nat)
  fields : List FieldDef
deriving DecidableEq, Repr

/-- A field by place: the address of its word, its lowest bit, its width. -/
structure Fld where
  addr : Nat
  lo : Nat
  width : Nat
deriving DecidableEq, Repr

/-- The indices of the instance at offset `off` from the first instance; none where no instance lies there. -/
def instIndices : List (Nat × Nat) → Nat → Option (List Nat)
  | [], off => if off = 0 then some [] else none
  | (c, s) :: rest, off =>
    if off / s < c then (instIndices rest (off % s)).map (off / s :: ·) else none

/-- The indices of the instance of `r` at an address. -/
def RegDef.indices (r : RegDef) (addr : Nat) : Option (List Nat) :=
  if addr < r.base then none else instIndices r.dims (addr - r.base)

/-- Whether an instance of the register lies at the address. -/
def RegDef.covers (r : RegDef) (addr : Nat) : Bool := (r.indices addr).isSome

/-- The reset values of the fields, put together. -/
def RegDef.resetValue (r : RegDef) : Nat :=
  r.fields.foldl (fun w f => w + f.reset * 2 ^ f.lo) 0

/-- The ones of a field within its word. -/
def FieldDef.mask (f : FieldDef) : Word := BitVec.ofNat 32 ((2 ^ f.width - 1) * 2 ^ f.lo)

/-- The group a cell belongs to (R39): five cells for each port, then three for each headphone side. -/
def groupOfCell (k : Nat) : Nat := if k < 80 then k / 5 else if k < 83 then 16 else 17

end Sys2Proof.Machine
end

