-- ==== Sys2Proof/Machine/RegA.lean ====
section
/-! DEFINITION. The fields of the registers by name (system, power, clocks, image, security, self-test, cells, ports): the address of the word that holds the field, its lowest bit and its width, as the
register tables of the manual give them. A register with several instances takes its indices as arguments, in the order of its table entry. -/

namespace Sys2Proof.Machine.Reg

/-- Address of SYS_PART (R523). -/
def SYS_PART : Nat := 0x000000
/-- SYS_PART.PART: part number (R4). -/
def SYS_PART_PART : Fld := ⟨SYS_PART, 0, 32⟩
/-- Address of SYS_STEP (R523). -/
def SYS_STEP : Nat := 0x000004
/-- SYS_STEP.STEP: silicon step. -/
def SYS_STEP_STEP : Fld := ⟨SYS_STEP, 0, 32⟩
/-- Address of SYS_UID_LO (R523). -/
def SYS_UID_LO : Nat := 0x000008
/-- SYS_UID_LO.UID: unique ID, bits [31:0]. -/
def SYS_UID_LO_UID : Fld := ⟨SYS_UID_LO, 0, 32⟩
/-- Address of SYS_UID_HI (R523). -/
def SYS_UID_HI : Nat := 0x00000C
/-- SYS_UID_HI.UID: unique ID, bits [63:32]. -/
def SYS_UID_HI_UID : Fld := ⟨SYS_UID_HI, 0, 32⟩
/-- Address of SYS_IRQ_SUMMARY (R523). -/
def SYS_IRQ_SUMMARY : Nat := 0x000010
/-- SYS_IRQ_SUMMARY.SUM: bit g: group g has a cause (R514). -/
def SYS_IRQ_SUMMARY_SUM : Fld := ⟨SYS_IRQ_SUMMARY, 0, 16⟩
/-- Address of SYS_CTRL (R523). -/
def SYS_CTRL : Nat := 0x000014
/-- SYS_CTRL.RSTKEY: software reset key (R521). -/
def SYS_CTRL_RSTKEY : Fld := ⟨SYS_CTRL, 0, 16⟩
/-- SYS_CTRL.FAULTOUT: 1: hold FAULT_N low (R518). -/
def SYS_CTRL_FAULTOUT : Fld := ⟨SYS_CTRL, 16, 1⟩
/-- Address of SYS_EVT (R523). -/
def SYS_EVT : Nat := 0x000018
/-- SYS_EVT.OPC: unknown opcode. -/
def SYS_EVT_OPC : Fld := ⟨SYS_EVT, 0, 1⟩
/-- SYS_EVT.RSV: address bits [31:30] set. -/
def SYS_EVT_RSV : Fld := ⟨SYS_EVT, 1, 1⟩
/-- SYS_EVT.LATE: read word not ready (R509). -/
def SYS_EVT_LATE : Fld := ⟨SYS_EVT, 2, 1⟩
/-- SYS_EVT.NOCORE: transaction refused under R511. -/
def SYS_EVT_NOCORE : Fld := ⟨SYS_EVT, 3, 1⟩
/-- SYS_EVT.WDWARN: watchdog at half count. -/
def SYS_EVT_WDWARN : Fld := ⟨SYS_EVT, 4, 1⟩
/-- SYS_EVT.WDBAD: wrong kick value. -/
def SYS_EVT_WDBAD : Fld := ⟨SYS_EVT, 5, 1⟩
/-- Address of SYS_MASK (R523). -/
def SYS_MASK : Nat := 0x00001C
/-- SYS_MASK.MASK: 1 passes the matching SYS_EVT bit to the interrupt tree. -/
def SYS_MASK_MASK : Fld := ⟨SYS_MASK, 0, 6⟩
/-- Address of SYS_WDOG_CFG (R523). -/
def SYS_WDOG_CFG : Nat := 0x000020
/-- SYS_WDOG_CFG.PERIOD: count in 8 slow-clock periods (0.977 ms nominal), 1–4095; 0 is taken as 1. -/
def SYS_WDOG_CFG_PERIOD : Fld := ⟨SYS_WDOG_CFG, 0, 12⟩
/-- SYS_WDOG_CFG.EN: watchdog runs; locked once 1 (R520). -/
def SYS_WDOG_CFG_EN : Fld := ⟨SYS_WDOG_CFG, 31, 1⟩
/-- Address of SYS_WDOG_KICK (R523). -/
def SYS_WDOG_KICK : Nat := 0x000024
/-- SYS_WDOG_KICK.KEY: 0x6480 restarts the count. -/
def SYS_WDOG_KICK_KEY : Fld := ⟨SYS_WDOG_KICK, 0, 16⟩
/-- Address of SYS_WDOG_STAT (R523). -/
def SYS_WDOG_STAT : Nat := 0x000028
/-- SYS_WDOG_STAT.LEFT: remaining count in 8 slow-clock periods. -/
def SYS_WDOG_STAT_LEFT : Fld := ⟨SYS_WDOG_STAT, 0, 12⟩
/-- SYS_WDOG_STAT.EXP: expired since the last PIN reset. -/
def SYS_WDOG_STAT_EXP : Fld := ⟨SYS_WDOG_STAT, 16, 1⟩
/-- Address of SYS_AON (R523). -/
def SYS_AON : Nat := 0x00002C
/-- SYS_AON.WAKEPOL: 0: WAKE active high; 1: active low. -/
def SYS_AON_WAKEPOL : Fld := ⟨SYS_AON, 0, 1⟩
/-- Address of SYS_SCRATCH (R523). -/
def SYS_SCRATCH : Nat := 0x000030
/-- SYS_SCRATCH.DATA: free for the host; kept through PIN reset. -/
def SYS_SCRATCH_DATA : Fld := ⟨SYS_SCRATCH, 0, 32⟩
/-- Address of FLT_STAT (R568). -/
def FLT_STAT : Nat := 0x000A00
/-- FLT_STAT.COUNT: valid entries, 0–16. -/
def FLT_STAT_COUNT : Fld := ⟨FLT_STAT, 0, 5⟩
/-- FLT_STAT.NEWEST: index of the newest entry. -/
def FLT_STAT_NEWEST : Fld := ⟨FLT_STAT, 8, 4⟩
/-- FLT_STAT.LOST: unread entries overwritten, saturating. -/
def FLT_STAT_LOST : Fld := ⟨FLT_STAT, 16, 16⟩
/-- Address of FLT_CTRL (R568). -/
def FLT_CTRL : Nat := 0x000A04
/-- FLT_CTRL.CLR: clear every entry; SEQ continues. -/
def FLT_CTRL_CLR : Fld := ⟨FLT_CTRL, 0, 1⟩
/-- FLT_CTRL.ACK: mark all entries read. -/
def FLT_CTRL_ACK : Fld := ⟨FLT_CTRL, 1, 1⟩
/-- Address of FLT_EVT (R568). -/
def FLT_EVT : Nat := 0x000A08
/-- FLT_EVT.NEW: entry written. -/
def FLT_EVT_NEW : Fld := ⟨FLT_EVT, 0, 1⟩
/-- FLT_EVT.LOST: unread entry overwritten. -/
def FLT_EVT_LOST : Fld := ⟨FLT_EVT, 1, 1⟩
/-- Address of FLT_MASK (R568). -/
def FLT_MASK : Nat := 0x000A0C
/-- FLT_MASK.MASK: 1 passes the matching FLT_EVT bit. -/
def FLT_MASK_MASK : Fld := ⟨FLT_MASK, 0, 2⟩
/-- Address of PWR_MODE (R547). -/
def PWR_MODE : Nat := 0x001000
/-- PWR_MODE.MODE: reported code (R525). -/
def PWR_MODE_MODE : Fld := ⟨PWR_MODE, 0, 4⟩
/-- PWR_MODE.BASE: base mode code. -/
def PWR_MODE_BASE : Fld := ⟨PWR_MODE, 4, 4⟩
/-- PWR_MODE.FLAGS: bit 8 COAST, 9 ISLAND, 10 SAFE, 11 SERVICE. -/
def PWR_MODE_FLAGS : Fld := ⟨PWR_MODE, 8, 4⟩
/-- PWR_MODE.TRANS: an entry runs (R527). -/
def PWR_MODE_TRANS : Fld := ⟨PWR_MODE, 12, 1⟩
/-- PWR_MODE.TARGET: target of the entry. -/
def PWR_MODE_TARGET : Fld := ⟨PWR_MODE, 16, 4⟩
/-- Address of PWR_CTRL (R547). -/
def PWR_CTRL : Nat := 0x001004
/-- PWR_CTRL.REQ: requested mode code. -/
def PWR_CTRL_REQ : Fld := ⟨PWR_CTRL, 0, 4⟩
/-- PWR_CTRL.GO: make the request (R526). -/
def PWR_CTRL_GO : Fld := ⟨PWR_CTRL, 8, 1⟩
/-- PWR_CTRL.TSLATCH: R535. -/
def PWR_CTRL_TSLATCH : Fld := ⟨PWR_CTRL, 9, 1⟩
/-- PWR_CTRL.RINGSTOP: stop the pre-roll ring (R540). -/
def PWR_CTRL_RINGSTOP : Fld := ⟨PWR_CTRL, 10, 1⟩
/-- Address of PWR_CFG (R547). -/
def PWR_CFG : Nat := 0x001008
/-- PWR_CFG.AUTOPLAY: enter PLAY at each entry to READY. -/
def PWR_CFG_AUTOPLAY : Fld := ⟨PWR_CFG, 0, 1⟩
/-- PWR_CFG.WTGT: wake from REST or LISTEN: 0 READY, 1 PLAY. -/
def PWR_CFG_WTGT : Fld := ⟨PWR_CFG, 1, 1⟩
/-- PWR_CFG.XTKEEP: keep XTI running in LISTEN; adds 0.25 mW typical. -/
def PWR_CFG_XTKEEP : Fld := ⟨PWR_CFG, 2, 1⟩
/-- Address of PWR_WAKE_EN (R547). -/
def PWR_WAKE_EN : Nat := 0x00100C
/-- PWR_WAKE_EN.EN: bit order of R531. -/
def PWR_WAKE_EN_EN : Fld := ⟨PWR_WAKE_EN, 0, 6⟩
/-- Address of PWR_WAKE (R547). -/
def PWR_WAKE : Nat := 0x001010
/-- PWR_WAKE.CAUSE: sources of the last wake. -/
def PWR_WAKE_CAUSE : Fld := ⟨PWR_WAKE, 0, 6⟩
/-- Address of PWR_WAKE_MASK (R547). -/
def PWR_WAKE_MASK : Nat := 0x001014
/-- PWR_WAKE_MASK.MASK: 1 passes the matching PWR_WAKE bit to the interrupt tree. -/
def PWR_WAKE_MASK_MASK : Fld := ⟨PWR_WAKE_MASK, 0, 6⟩
/-- Address of PWR_EVT (R547). -/
def PWR_EVT : Nat := 0x001018
/-- PWR_EVT.MODE: an entry completed. -/
def PWR_EVT_MODE : Fld := ⟨PWR_EVT, 0, 1⟩
/-- PWR_EVT.REQERR: request refused. -/
def PWR_EVT_REQERR : Fld := ⟨PWR_EVT, 1, 1⟩
/-- PWR_EVT.REQBUSY: request during a transition, load or graft. -/
def PWR_EVT_REQBUSY : Fld := ⟨PWR_EVT, 2, 1⟩
/-- PWR_EVT.ENTRYX: entry abandoned by a wake (R528). -/
def PWR_EVT_ENTRYX : Fld := ⟨PWR_EVT, 3, 1⟩
/-- PWR_EVT.RAIL: rail out of range. -/
def PWR_EVT_RAIL : Fld := ⟨PWR_EVT, 4, 1⟩
/-- PWR_EVT.OTEMP: logic die above 140 °C. -/
def PWR_EVT_OTEMP : Fld := ⟨PWR_EVT, 5, 1⟩
/-- PWR_EVT.HANDOFF: ring handed to the chain. -/
def PWR_EVT_HANDOFF : Fld := ⟨PWR_EVT, 6, 1⟩
/-- PWR_EVT.LSNEND: ring stopped. -/
def PWR_EVT_LSNEND : Fld := ⟨PWR_EVT, 7, 1⟩
/-- PWR_EVT.TIMER: PWR_AONT reached PWR_AONT_CMP. -/
def PWR_EVT_TIMER : Fld := ⟨PWR_EVT, 8, 1⟩
/-- Address of PWR_MASK (R547). -/
def PWR_MASK : Nat := 0x00101C
/-- PWR_MASK.MASK: 1 passes the matching PWR_EVT bit to the interrupt tree. -/
def PWR_MASK_MASK : Fld := ⟨PWR_MASK, 0, 9⟩
/-- Address of PWR_RST (R547). -/
def PWR_RST : Nat := 0x001020
/-- PWR_RST.KIND: last reset: 0 POR, 1 PIN. -/
def PWR_RST_KIND : Fld := ⟨PWR_RST, 0, 2⟩
/-- PWR_RST.SRC: 0 VAON, 1 RESET_N, 2 RSTKEY, 3 rail, 4 DORMANT wake. -/
def PWR_RST_SRC : Fld := ⟨PWR_RST, 4, 3⟩
/-- PWR_RST.RAILS: rails below threshold at the last rail reset, in PWR_RAIL order. -/
def PWR_RST_RAILS : Fld := ⟨PWR_RST, 8, 8⟩
/-- PWR_RST.PINCNT: PIN resets since POR, saturating. -/
def PWR_RST_PINCNT : Fld := ⟨PWR_RST, 16, 16⟩
/-- Address of PWR_RAIL (R547). -/
def PWR_RAIL : Nat := 0x001024
/-- PWR_RAIL.OK: bit r in range: 0 VAON, 1 AVDD5, 2 AVDD18, 3 DVDD, 4 IOVDD, 5 XVDD, 6 LVDD, 7 PVDD. -/
def PWR_RAIL_OK : Fld := ⟨PWR_RAIL, 0, 8⟩
/-- Address of PWR_SAFE (R547). -/
def PWR_SAFE : Nat := 0x001028
/-- PWR_SAFE.RAIL: SAFE entered on a rail. -/
def PWR_SAFE_RAIL : Fld := ⟨PWR_SAFE, 0, 1⟩
/-- PWR_SAFE.OTEMP: SAFE entered on temperature. -/
def PWR_SAFE_OTEMP : Fld := ⟨PWR_SAFE, 1, 1⟩
/-- PWR_SAFE.WDOG: SAFE entered on watchdog expiry. -/
def PWR_SAFE_WDOG : Fld := ⟨PWR_SAFE, 2, 1⟩
/-- PWR_SAFE.RAILNOW: a rail is out of range now. -/
def PWR_SAFE_RAILNOW : Fld := ⟨PWR_SAFE, 8, 1⟩
/-- PWR_SAFE.OTEMPNOW: logic die above 140 °C, until it falls below 120 °C. -/
def PWR_SAFE_OTEMPNOW : Fld := ⟨PWR_SAFE, 9, 1⟩
/-- Address of PWR_FRAME (R547). -/
def PWR_FRAME : Nat := 0x00102C
/-- PWR_FRAME.FRAME: frame index (R17). -/
def PWR_FRAME_FRAME : Fld := ⟨PWR_FRAME, 0, 32⟩
/-- Address of PWR_AONT_LO (R547). -/
def PWR_AONT_LO : Nat := 0x001030
/-- PWR_AONT_LO.T: always-on timer, bits [31:0]. -/
def PWR_AONT_LO_T : Fld := ⟨PWR_AONT_LO, 0, 32⟩
/-- Address of PWR_AONT_HI (R547). -/
def PWR_AONT_HI : Nat := 0x001034
/-- PWR_AONT_HI.T: always-on timer, bits [47:32]. -/
def PWR_AONT_HI_T : Fld := ⟨PWR_AONT_HI, 0, 16⟩
/-- Address of PWR_AONT_CMP_LO (R547). -/
def PWR_AONT_CMP_LO : Nat := 0x001038
/-- PWR_AONT_CMP_LO.CMP: compare, bits [31:0]. -/
def PWR_AONT_CMP_LO_CMP : Fld := ⟨PWR_AONT_CMP_LO, 0, 32⟩
/-- Address of PWR_AONT_CMP_HI (R547). -/
def PWR_AONT_CMP_HI : Nat := 0x00103C
/-- PWR_AONT_CMP_HI.CMP: compare, bits [47:32]. -/
def PWR_AONT_CMP_HI_CMP : Fld := ⟨PWR_AONT_CMP_HI, 0, 16⟩
/-- Address of PWR_TSF (R547). -/
def PWR_TSF : Nat := 0x001040
/-- PWR_TSF.FRAME: frame index of the latched pair. -/
def PWR_TSF_FRAME : Fld := ⟨PWR_TSF, 0, 32⟩
/-- Address of PWR_TSA_LO (R547). -/
def PWR_TSA_LO : Nat := 0x001044
/-- PWR_TSA_LO.T: always-on timer of the pair, bits [31:0]. -/
def PWR_TSA_LO_T : Fld := ⟨PWR_TSA_LO, 0, 32⟩
/-- Address of PWR_TSA_HI (R547). -/
def PWR_TSA_HI : Nat := 0x001048
/-- PWR_TSA_HI.T: bits [47:32]. -/
def PWR_TSA_HI_T : Fld := ⟨PWR_TSA_HI, 0, 16⟩
/-- Address of PWR_LSN_CFG (R547). -/
def PWR_LSN_CFG : Nat := 0x001050
/-- PWR_LSN_CFG.PORT: Listen port. -/
def PWR_LSN_CFG_PORT : Fld := ⟨PWR_LSN_CFG, 0, 4⟩
/-- PWR_LSN_CFG.ETHR: energy threshold −ETHR dBFS, 0–96. -/
def PWR_LSN_CFG_ETHR : Fld := ⟨PWR_LSN_CFG, 8, 7⟩
/-- PWR_LSN_CFG.FTHR: flux threshold in 0.25 dB. -/
def PWR_LSN_CFG_FTHR : Fld := ⟨PWR_LSN_CFG, 16, 8⟩
/-- Address of PWR_LSN_RING (R547). -/
def PWR_LSN_RING : Nat := 0x001054
/-- PWR_LSN_RING.LEN: ring length in samples (R538). -/
def PWR_LSN_RING_LEN : Fld := ⟨PWR_LSN_RING, 0, 16⟩
/-- PWR_LSN_RING.TAIL: samples after HANDOFF. -/
def PWR_LSN_RING_TAIL : Fld := ⟨PWR_LSN_RING, 16, 16⟩
/-- Address of PWR_LSN_STAT (R547). -/
def PWR_LSN_STAT : Nat := 0x001058
/-- PWR_LSN_STAT.STATE: 0 idle, 1 pre-roll, 2 waking, 3 handover, 4 tail, 5 STOPPED. -/
def PWR_LSN_STAT_STATE : Fld := ⟨PWR_LSN_STAT, 0, 3⟩
/-- PWR_LSN_STAT.CELL: Listen cell; 0x7F means none. -/
def PWR_LSN_STAT_CELL : Fld := ⟨PWR_LSN_STAT, 8, 7⟩
/-- Address of IRQ_SUM_MASK (R523). -/
def IRQ_SUM_MASK : Nat := 0x002000
/-- IRQ_SUM_MASK.MASK: bit g: group g reaches IRQ_N. -/
def IRQ_SUM_MASK_MASK : Fld := ⟨IRQ_SUM_MASK, 0, 16⟩
/-- Address of IRQ_STAT (R523). -/
def IRQ_STAT : Nat := 0x002004
/-- IRQ_STAT.PEND: SYS_IRQ_SUMMARY AND IRQ_SUM_MASK. -/
def IRQ_STAT_PEND : Fld := ⟨IRQ_STAT, 0, 16⟩
/-- IRQ_STAT.IRQN: IRQ_N asserted. -/
def IRQ_STAT_IRQN : Fld := ⟨IRQ_STAT, 16, 1⟩
/-- IRQ_STAT.RELEASE: REARM release running (R516). -/
def IRQ_STAT_RELEASE : Fld := ⟨IRQ_STAT, 17, 1⟩
/-- Address of IRQ_CTRL (R523). -/
def IRQ_CTRL : Nat := 0x002008
/-- IRQ_CTRL.REARM: R516. -/
def IRQ_CTRL_REARM : Fld := ⟨IRQ_CTRL, 0, 1⟩
/-- Address of IRQ_CNT (R523). -/
def IRQ_CNT : Nat := 0x00200C
/-- IRQ_CNT.ASSERTS: falling edges of IRQ_N, saturating. -/
def IRQ_CNT_ASSERTS : Fld := ⟨IRQ_CNT, 0, 16⟩
/-- Address of IRQ_GCAUSE_LO (R523). -/
def IRQ_GCAUSE_LO (i : Nat) : Nat := 0x002040 + 0x8 * i
/-- IRQ_GCAUSE_LO.CAUSE: cause bits 0–31 of group g (R514). -/
def IRQ_GCAUSE_LO_CAUSE (i : Nat) : Fld := ⟨IRQ_GCAUSE_LO i, 0, 32⟩
/-- Address of IRQ_GCAUSE_HI (R523). -/
def IRQ_GCAUSE_HI (i : Nat) : Nat := 0x002044 + 0x8 * i
/-- IRQ_GCAUSE_HI.CAUSE: cause bits 32–63 of group g. -/
def IRQ_GCAUSE_HI_CAUSE (i : Nat) : Fld := ⟨IRQ_GCAUSE_HI i, 0, 32⟩
/-- Address of CLK_CFG (R382). -/
def CLK_CFG : Nat := 0x003000
/-- CLK_CFG.PREF: primary reference (R363). -/
def CLK_CFG_PREF : Fld := ⟨CLK_CFG, 0, 2⟩
/-- CLK_CFG.MRATE: MCLKI: 0 6.144, 1 12.288, 2 24.576, 3 49.152 MHz. -/
def CLK_CFG_MRATE : Fld := ⟨CLK_CFG, 4, 2⟩
/-- CLK_CFG.XTAL: crystal fitted on XTI/XTO. -/
def CLK_CFG_XTAL : Fld := ⟨CLK_CFG, 6, 1⟩
/-- CLK_CFG.POLICY: 0 slew, 1 snap (R375). -/
def CLK_CFG_POLICY : Fld := ⟨CLK_CFG, 7, 1⟩
/-- CLK_CFG.AUTOREV: return to the primary automatically (R379). -/
def CLK_CFG_AUTOREV : Fld := ⟨CLK_CFG, 8, 1⟩
/-- CLK_CFG.MCLKO: 0 off, 1 6.144, 2 12.288, 3 24.576 MHz. -/
def CLK_CFG_MCLKO : Fld := ⟨CLK_CFG, 9, 2⟩
/-- CLK_CFG.COASTLIM: coast limit in 10 ms, 1–6000. -/
def CLK_CFG_COASTLIM : Fld := ⟨CLK_CFG, 16, 13⟩
/-- Address of CLK_CTRL (R382). -/
def CLK_CTRL : Nat := 0x003004
/-- CLK_CTRL.REFSEL: shadow: 0 primary, 1 crystal. -/
def CLK_CTRL_REFSEL : Fld := ⟨CLK_CTRL, 0, 1⟩
/-- CLK_CTRL.MCLKOEN: shadow: MCLKO enabled. -/
def CLK_CTRL_MCLKOEN : Fld := ⟨CLK_CTRL, 1, 1⟩
/-- CLK_CTRL.COMMIT: apply the shadow set (R369). -/
def CLK_CTRL_COMMIT : Fld := ⟨CLK_CTRL, 8, 1⟩
/-- Address of CLK_STAT (R382). -/
def CLK_STAT : Nat := 0x003008
/-- CLK_STAT.STATE: 0 OFF, 1 ACQUIRE, 2 LOCKED, 3 COAST, 4 SLEW, 5 SNAP. -/
def CLK_STAT_STATE : Fld := ⟨CLK_STAT, 0, 3⟩
/-- CLK_STAT.REF: reference in use: 0 crystal, 1 MCLKI, 2 Trellis. -/
def CLK_STAT_REF : Fld := ⟨CLK_STAT, 4, 2⟩
/-- CLK_STAT.PORT: Trellis port when REF is 2. -/
def CLK_STAT_PORT : Fld := ⟨CLK_STAT, 6, 2⟩
/-- CLK_STAT.PRIOK: primary qualified. -/
def CLK_STAT_PRIOK : Fld := ⟨CLK_STAT, 8, 1⟩
/-- CLK_STAT.XTOK: crystal qualified. -/
def CLK_STAT_XTOK : Fld := ⟨CLK_STAT, 9, 1⟩
/-- CLK_STAT.LONG: coast past its limit without fallback. -/
def CLK_STAT_LONG : Fld := ⟨CLK_STAT, 10, 1⟩
/-- CLK_STAT.CPEND: commit held (R379). -/
def CLK_STAT_CPEND : Fld := ⟨CLK_STAT, 11, 1⟩
/-- CLK_STAT.LLOCK: link PLL locked. -/
def CLK_STAT_LLOCK : Fld := ⟨CLK_STAT, 12, 1⟩
/-- CLK_STAT.RING: ring oscillator running. -/
def CLK_STAT_RING : Fld := ⟨CLK_STAT, 13, 1⟩
/-- Address of CLK_EVT (R382). -/
def CLK_EVT : Nat := 0x00300C
/-- CLK_EVT.LOSS: reference lost (R371). -/
def CLK_EVT_LOSS : Fld := ⟨CLK_EVT, 0, 1⟩
/-- CLK_EVT.LOCK: PLL locked from ACQUIRE. -/
def CLK_EVT_LOCK : Fld := ⟨CLK_EVT, 1, 1⟩
/-- CLK_EVT.LIMIT: coast limit reached. -/
def CLK_EVT_LIMIT : Fld := ⟨CLK_EVT, 2, 1⟩
/-- CLK_EVT.FALLBK: crystal taken at the limit. -/
def CLK_EVT_FALLBK : Fld := ⟨CLK_EVT, 3, 1⟩
/-- CLK_EVT.RETURN: a reference returned or qualified (R375, R379). -/
def CLK_EVT_RETURN : Fld := ⟨CLK_EVT, 4, 1⟩
/-- CLK_EVT.SLEWDONE: slew ended. -/
def CLK_EVT_SLEWDONE : Fld := ⟨CLK_EVT, 5, 1⟩
/-- CLK_EVT.SNAP: snap ended. -/
def CLK_EVT_SNAP : Fld := ⟨CLK_EVT, 6, 1⟩
/-- CLK_EVT.FSNAP: snap forced by frequency. -/
def CLK_EVT_FSNAP : Fld := ⟨CLK_EVT, 7, 1⟩
/-- CLK_EVT.NOREF: requested or needed reference unavailable. -/
def CLK_EVT_NOREF : Fld := ⟨CLK_EVT, 8, 1⟩
/-- CLK_EVT.X32FAIL: 32 kHz crystal failed (R361). -/
def CLK_EVT_X32FAIL : Fld := ⟨CLK_EVT, 9, 1⟩
/-- CLK_EVT.XTFAIL: XTI crystal lost qualification while not in use. -/
def CLK_EVT_XTFAIL : Fld := ⟨CLK_EVT, 10, 1⟩
/-- CLK_EVT.CMTDONE: shadow set applied. -/
def CLK_EVT_CMTDONE : Fld := ⟨CLK_EVT, 11, 1⟩
/-- CLK_EVT.LLOSS: link PLL lost lock. -/
def CLK_EVT_LLOSS : Fld := ⟨CLK_EVT, 12, 1⟩
/-- Address of CLK_MASK (R382). -/
def CLK_MASK : Nat := 0x003010
/-- CLK_MASK.MASK: 1 passes the matching CLK_EVT bit to the interrupt tree. -/
def CLK_MASK_MASK : Fld := ⟨CLK_MASK, 0, 13⟩
/-- Address of CLK_PHERR (R382). -/
def CLK_PHERR : Nat := 0x003014
/-- CLK_PHERR.PHI: φ of the last return, signed, in 1/8 ns. -/
def CLK_PHERR_PHI : Fld := ⟨CLK_PHERR, 0, 16⟩
/-- CLK_PHERR.PAUSE: d of the last snap, VCO cycles. -/
def CLK_PHERR_PAUSE : Fld := ⟨CLK_PHERR, 16, 8⟩
/-- Address of CLK_FREQ (R382). -/
def CLK_FREQ : Nat := 0x003018
/-- CLK_FREQ.PPM: VCO deviation from nominal against the reference or crystal, signed, in 0.1 ppm. -/
def CLK_FREQ_PPM : Fld := ⟨CLK_FREQ, 0, 16⟩
/-- Address of CLK_COAST (R382). -/
def CLK_COAST : Nat := 0x00301C
/-- CLK_COAST.MS: length of the current or last coast in ms, saturating. -/
def CLK_COAST_MS : Fld := ⟨CLK_COAST, 0, 32⟩
/-- Address of CLK_AON (R382). -/
def CLK_AON : Nat := 0x003020
/-- CLK_AON.X32EN: use the 32 kHz crystal (R360). -/
def CLK_AON_X32EN : Fld := ⟨CLK_AON, 0, 1⟩
/-- CLK_AON.SRC: slow clock from: 0 internal, 1 crystal. -/
def CLK_AON_SRC : Fld := ⟨CLK_AON, 1, 1⟩
/-- Address of CLK_RING (R382). -/
def CLK_RING : Nat := 0x003024
/-- CLK_RING.DEV: ring oscillator deviation, signed, in 0.01 % (R362). -/
def CLK_RING_DEV : Fld := ⟨CLK_RING, 0, 16⟩
/-- Address of CLK_CNT (R382). -/
def CLK_CNT : Nat := 0x003028
/-- CLK_CNT.LOSSES: references lost, saturating. -/
def CLK_CNT_LOSSES : Fld := ⟨CLK_CNT, 0, 16⟩
/-- CLK_CNT.SNAPS: snaps, saturating. -/
def CLK_CNT_SNAPS : Fld := ⟨CLK_CNT, 16, 16⟩
/-- Address of IMG_CTRL (R503). -/
def IMG_CTRL : Nat := 0x004000
/-- IMG_CTRL.COMMIT: graft the shadow (R254). -/
def IMG_CTRL_COMMIT : Fld := ⟨IMG_CTRL, 0, 1⟩
/-- IMG_CTRL.ABORT: abandon a graft (R257). -/
def IMG_CTRL_ABORT : Fld := ⟨IMG_CTRL, 1, 1⟩
/-- IMG_CTRL.LOAD: activate the shadow by full load (R496). -/
def IMG_CTRL_LOAD : Fld := ⟨IMG_CTRL, 2, 1⟩
/-- IMG_CTRL.DISCARD: invalidate the shadow (R502). -/
def IMG_CTRL_DISCARD : Fld := ⟨IMG_CTRL, 3, 1⟩
/-- Address of IMG_STAT (R503). -/
def IMG_STAT : Nat := 0x004004
/-- IMG_STAT.SVALID: shadow holds a verified image. -/
def IMG_STAT_SVALID : Fld := ⟨IMG_STAT, 0, 1⟩
/-- IMG_STAT.LOADING: a load runs. -/
def IMG_STAT_LOADING : Fld := ⟨IMG_STAT, 1, 1⟩
/-- IMG_STAT.SIGNED: active image was signed. -/
def IMG_STAT_SIGNED : Fld := ⟨IMG_STAT, 2, 1⟩
/-- IMG_STAT.ENC: active image had encrypted sections. -/
def IMG_STAT_ENC : Fld := ⟨IMG_STAT, 3, 1⟩
/-- IMG_STAT.GEN: latency table generation (R500). -/
def IMG_STAT_GEN : Fld := ⟨IMG_STAT, 16, 16⟩
/-- Address of IMG_GRAFT_STAT (R503). -/
def IMG_GRAFT_STAT : Nat := 0x004008
/-- IMG_GRAFT_STAT.PHASE: graft phase code (R254). -/
def IMG_GRAFT_STAT_PHASE : Fld := ⟨IMG_GRAFT_STAT, 0, 3⟩
/-- Address of IMG_PROG0 (R503). -/
def IMG_PROG0 : Nat := 0x00400C
/-- IMG_PROG0.ACCEPTED: bytes accepted. -/
def IMG_PROG0_ACCEPTED : Fld := ⟨IMG_PROG0, 0, 17⟩
/-- Address of IMG_PROG1 (R503). -/
def IMG_PROG1 : Nat := 0x004010
/-- IMG_PROG1.VERIFIED: sections verified. -/
def IMG_PROG1_VERIFIED : Fld := ⟨IMG_PROG1, 0, 4⟩
/-- IMG_PROG1.COMMITTED: sections decoded into the shadow. -/
def IMG_PROG1_COMMITTED : Fld := ⟨IMG_PROG1, 8, 4⟩
/-- IMG_PROG1.SECT: section in progress. -/
def IMG_PROG1_SECT : Fld := ⟨IMG_PROG1, 16, 4⟩
/-- IMG_PROG1.STATE: 0 IDLE, 1 HEADER, 2 SECTION, 3 SIGNATURE, 4 ADMIT, 5 DONE, 6 FAILED. -/
def IMG_PROG1_STATE : Fld := ⟨IMG_PROG1, 24, 3⟩
/-- Address of IMG_ERR (R503). -/
def IMG_ERR : Nat := 0x004014
/-- IMG_ERR.CODE: code of R497. -/
def IMG_ERR_CODE : Fld := ⟨IMG_ERR, 0, 8⟩
/-- IMG_ERR.SECT: section index. -/
def IMG_ERR_SECT : Fld := ⟨IMG_ERR, 8, 4⟩
/-- Address of IMG_ERRDET (R503). -/
def IMG_ERRDET : Nat := 0x004018
/-- IMG_ERRDET.DETAIL: DETAIL of R497. -/
def IMG_ERRDET_DETAIL : Fld := ⟨IMG_ERRDET, 0, 32⟩
/-- Address of IMG_VER (R503). -/
def IMG_VER : Nat := 0x00401C
/-- IMG_VER.IMGVER: IMGVER of the active image. -/
def IMG_VER_IMGVER : Fld := ⟨IMG_VER, 0, 32⟩
/-- Address of IMG_BUILD_HI (R503). -/
def IMG_BUILD_HI : Nat := 0x004020
/-- IMG_BUILD_HI.BUILD: BUILD of the active image. -/
def IMG_BUILD_HI_BUILD : Fld := ⟨IMG_BUILD_HI, 0, 32⟩
/-- Address of IMG_BUILD_LO (R503). -/
def IMG_BUILD_LO : Nat := 0x004024
/-- IMG_BUILD_LO.BUILD: BUILD of the active image. -/
def IMG_BUILD_LO_BUILD : Fld := ⟨IMG_BUILD_LO, 0, 32⟩
/-- Address of IMG_SRC (R503). -/
def IMG_SRC : Nat := 0x004028
/-- IMG_SRC.BOOT: BOOT[1:0] latched (R490). -/
def IMG_SRC_BOOT : Fld := ⟨IMG_SRC, 0, 2⟩
/-- IMG_SRC.ACT: active image from: 0 host SPI, 1 xSPI, 2 Trellis, 3 boot plan. -/
def IMG_SRC_ACT : Fld := ⟨IMG_SRC, 2, 2⟩
/-- IMG_SRC.FALLBK: xSPI failed; waiting for a host. -/
def IMG_SRC_FALLBK : Fld := ⟨IMG_SRC, 4, 1⟩
/-- Address of IMG_EVT (R503). -/
def IMG_EVT : Nat := 0x00402C
/-- IMG_EVT.LOADED: shadow verified. -/
def IMG_EVT_LOADED : Fld := ⟨IMG_EVT, 0, 1⟩
/-- IMG_EVT.ERR: load or admission failed. -/
def IMG_EVT_ERR : Fld := ⟨IMG_EVT, 1, 1⟩
/-- IMG_EVT.ADMITOK: admission passed. -/
def IMG_EVT_ADMITOK : Fld := ⟨IMG_EVT, 2, 1⟩
/-- IMG_EVT.OFSERR: stream words discarded (R493). -/
def IMG_EVT_OFSERR : Fld := ⟨IMG_EVT, 3, 1⟩
/-- IMG_EVT.GRAFTEND: PHASE returned to 0. -/
def IMG_EVT_GRAFTEND : Fld := ⟨IMG_EVT, 4, 1⟩
/-- IMG_EVT.LATE: abort at or after C (R257). -/
def IMG_EVT_LATE : Fld := ⟨IMG_EVT, 5, 1⟩
/-- IMG_EVT.ACTIVE: image activated by full load. -/
def IMG_EVT_ACTIVE : Fld := ⟨IMG_EVT, 6, 1⟩
/-- IMG_EVT.LATPUB: latency table republished. -/
def IMG_EVT_LATPUB : Fld := ⟨IMG_EVT, 7, 1⟩
/-- Address of IMG_MASK (R503). -/
def IMG_MASK : Nat := 0x004030
/-- IMG_MASK.MASK: 1 passes the matching IMG_EVT bit to the interrupt tree. -/
def IMG_MASK_MASK : Fld := ⟨IMG_MASK, 0, 8⟩
/-- Address of SEC_LC (R568). -/
def SEC_LC : Nat := 0x005000
/-- SEC_LC.STATE: 0 BLANK, 1 DEVELOP, 2 PRODUCT, 3 RETURN, 4 SCRAP. -/
def SEC_LC_STATE : Fld := ⟨SEC_LC, 0, 3⟩
/-- SEC_LC.NEXT: state taking effect at the next reset. -/
def SEC_LC_NEXT : Fld := ⟨SEC_LC, 4, 3⟩
/-- SEC_LC.PEND: NEXT differs from STATE. -/
def SEC_LC_PEND : Fld := ⟨SEC_LC, 7, 1⟩
/-- SEC_LC.SIGREQ: DEVELOP requires signatures (R489). -/
def SEC_LC_SIGREQ : Fld := ⟨SEC_LC, 8, 1⟩
/-- SEC_LC.SCANCLR: scan clears key slots (R560). -/
def SEC_LC_SCANCLR : Fld := ⟨SEC_LC, 9, 1⟩
/-- Address of SEC_LC_CTRL (R568). -/
def SEC_LC_CTRL : Nat := 0x005004
/-- SEC_LC_CTRL.TARGET: requested state. -/
def SEC_LC_CTRL_TARGET : Fld := ⟨SEC_LC_CTRL, 0, 3⟩
/-- SEC_LC_CTRL.KEY: 0xA5C3 (R557). -/
def SEC_LC_CTRL_KEY : Fld := ⟨SEC_LC_CTRL, 16, 16⟩
/-- Address of SEC_KEYSTAT (R568). -/
def SEC_KEYSTAT : Nat := 0x005008
/-- SEC_KEYSTAT.KEY: bits [2s+1:2s]: key slot s: 0 empty, 1 programmed, 2 cleared. -/
def SEC_KEYSTAT_KEY : Fld := ⟨SEC_KEYSTAT, 0, 8⟩
/-- SEC_KEYSTAT.HASH: bits [2s+9:2s+8]: hash slot s: 0 empty, 1 programmed, 3 revoked. -/
def SEC_KEYSTAT_HASH : Fld := ⟨SEC_KEYSTAT, 8, 8⟩
/-- Address of SEC_PROG (R568). -/
def SEC_PROG : Nat := 0x00500C
/-- SEC_PROG.SEL: 0–3 key slot, 4–7 hash slot 0–3. -/
def SEC_PROG_SEL : Fld := ⟨SEC_PROG, 0, 3⟩
/-- SEC_PROG.OPT: 1: program options SIGREQ and SCANCLR from SEC_DATA0 bits [1:0]. -/
def SEC_PROG_OPT : Fld := ⟨SEC_PROG, 4, 1⟩
/-- SEC_PROG.GO: program the selection. -/
def SEC_PROG_GO : Fld := ⟨SEC_PROG, 8, 1⟩
/-- SEC_PROG.REVOKE: revoke hash slot SEL − 4. -/
def SEC_PROG_REVOKE : Fld := ⟨SEC_PROG, 9, 1⟩
/-- SEC_PROG.BUSY: programming runs. -/
def SEC_PROG_BUSY : Fld := ⟨SEC_PROG, 16, 1⟩
/-- Address of SEC_CTRL (R568). -/
def SEC_CTRL : Nat := 0x005010
/-- SEC_CTRL.SCANEN: R560. -/
def SEC_CTRL_SCANEN : Fld := ⟨SEC_CTRL, 0, 1⟩
/-- Address of SEC_DATA (R568). -/
def SEC_DATA (i : Nat) : Nat := 0x005020 + 0x4 * i
/-- SEC_DATA.DATA: key or hash bits [255−32i:224−32i]; cleared after each GO. -/
def SEC_DATA_DATA (i : Nat) : Fld := ⟨SEC_DATA i, 0, 32⟩
/-- Address of SEC_EVT (R568). -/
def SEC_EVT : Nat := 0x005040
/-- SEC_EVT.LCDONE: transition programmed. -/
def SEC_EVT_LCDONE : Fld := ⟨SEC_EVT, 0, 1⟩
/-- SEC_EVT.PROGDONE: slot or option programmed. -/
def SEC_EVT_PROGDONE : Fld := ⟨SEC_EVT, 1, 1⟩
/-- SEC_EVT.PROGERR: programming refused or failed verify. -/
def SEC_EVT_PROGERR : Fld := ⟨SEC_EVT, 2, 1⟩
/-- SEC_EVT.KEYCLR: key slots cleared. -/
def SEC_EVT_KEYCLR : Fld := ⟨SEC_EVT, 3, 1⟩
/-- SEC_EVT.DENIED: request refused by life-cycle. -/
def SEC_EVT_DENIED : Fld := ⟨SEC_EVT, 4, 1⟩
/-- Address of SEC_MASK (R568). -/
def SEC_MASK : Nat := 0x005044
/-- SEC_MASK.MASK: 1 passes the matching SEC_EVT bit. -/
def SEC_MASK_MASK : Fld := ⟨SEC_MASK, 0, 5⟩
/-- Address of BST_CFG (R568). -/
def BST_CFG : Nat := 0x006000
/-- BST_CFG.EN: bit t: target t runs in the background. -/
def BST_CFG_EN : Fld := ⟨BST_CFG, 0, 7⟩
/-- Address of BST_CTRL (R568). -/
def BST_CTRL : Nat := 0x006004
/-- BST_CTRL.FULL: full self-test, in SERVICE only (R556). -/
def BST_CTRL_FULL : Fld := ⟨BST_CTRL, 0, 1⟩
/-- Address of BST_STAT (R568). -/
def BST_STAT : Nat := 0x006008
/-- BST_STAT.TGT: target of the running or last slice. -/
def BST_STAT_TGT : Fld := ⟨BST_STAT, 0, 3⟩
/-- BST_STAT.BUSY: a slice runs. -/
def BST_STAT_BUSY : Fld := ⟨BST_STAT, 3, 1⟩
/-- BST_STAT.CSCF: bit u: control-sense unit u failed (R555). -/
def BST_STAT_CSCF : Fld := ⟨BST_STAT, 4, 2⟩
/-- BST_STAT.CYCLES: cycles completed, saturating. -/
def BST_STAT_CYCLES : Fld := ⟨BST_STAT, 16, 16⟩
/-- Address of BST_RES (R568). -/
def BST_RES : Nat := 0x00600C
/-- BST_RES.RES: bits [2t+1:2t]: result of target t in the last cycle (R550). -/
def BST_RES_RES : Fld := ⟨BST_RES, 0, 14⟩
/-- Address of BST_PROG (R568). -/
def BST_PROG : Nat := 0x006010
/-- BST_PROG.SLICE_ID: slice identifier, incrementing per slice. -/
def BST_PROG_SLICE_ID : Fld := ⟨BST_PROG, 0, 16⟩
/-- BST_PROG.TGT: target. -/
def BST_PROG_TGT : Fld := ⟨BST_PROG, 16, 3⟩
/-- BST_PROG.LAST: 0 running, 1 pass, 2 fail, 3 incomplete. -/
def BST_PROG_LAST : Fld := ⟨BST_PROG, 20, 3⟩
/-- BST_PROG.DONE: full pattern count applied. -/
def BST_PROG_DONE : Fld := ⟨BST_PROG, 23, 1⟩
/-- Address of BST_PROG1 (R568). -/
def BST_PROG1 : Nat := 0x006014
/-- BST_PROG1.APPLIED: patterns applied. -/
def BST_PROG1_APPLIED : Fld := ⟨BST_PROG1, 0, 13⟩
/-- BST_PROG1.COUNT: full pattern count of the slice. -/
def BST_PROG1_COUNT : Fld := ⟨BST_PROG1, 16, 13⟩
/-- Address of BST_EVT (R568). -/
def BST_EVT : Nat := 0x006018
/-- BST_EVT.CYCLE: cycle ended. -/
def BST_EVT_CYCLE : Fld := ⟨BST_EVT, 0, 1⟩
/-- BST_EVT.FAIL: a slice failed. -/
def BST_EVT_FAIL : Fld := ⟨BST_EVT, 1, 1⟩
/-- BST_EVT.INC: a cycle ended with an incomplete target. -/
def BST_EVT_INC : Fld := ⟨BST_EVT, 2, 1⟩
/-- BST_EVT.CSCFAIL: control-sense unit failed. -/
def BST_EVT_CSCFAIL : Fld := ⟨BST_EVT, 3, 1⟩
/-- BST_EVT.PLLFAIL: PLL frequency slice failed. -/
def BST_EVT_PLLFAIL : Fld := ⟨BST_EVT, 4, 1⟩
/-- BST_EVT.CFGFAIL: configuration memory slice failed. -/
def BST_EVT_CFGFAIL : Fld := ⟨BST_EVT, 5, 1⟩
/-- Address of BST_MASK (R568). -/
def BST_MASK : Nat := 0x00601C
/-- BST_MASK.MASK: 1 passes the matching BST_EVT bit. -/
def BST_MASK_MASK : Fld := ⟨BST_MASK, 0, 6⟩
/-- Address of BST_FAILCNT (R568). -/
def BST_FAILCNT (i : Nat) : Nat := 0x006020 + 0x4 * i
/-- BST_FAILCNT.FAIL: failed slices of target t, saturating. -/
def BST_FAILCNT_FAIL (i : Nat) : Fld := ⟨BST_FAILCNT i, 0, 16⟩
/-- BST_FAILCNT.INC: incomplete slices, saturating. -/
def BST_FAILCNT_INC (i : Nat) : Fld := ⟨BST_FAILCNT i, 16, 16⟩
/-- Address of CELL_CFG (R77). -/
def CELL_CFG (i : Nat) : Nat := 0x010000 + 0x40 * i
/-- CELL_CFG.ROLE: role code of R38. -/
def CELL_CFG_ROLE (i : Nat) : Fld := ⟨CELL_CFG i, 0, 3⟩
/-- CELL_CFG.SLOT: interleave slot when ROLE is IN, or shadowed slot when ROLE is SPARE. -/
def CELL_CFG_SLOT (i : Nat) : Fld := ⟨CELL_CFG i, 4, 2⟩
/-- CELL_CFG.GROUP: group number, 0–17. -/
def CELL_CFG_GROUP (i : Nat) : Fld := ⟨CELL_CFG i, 8, 5⟩
/-- Address of CELL_STAT (R77). -/
def CELL_STAT (i : Nat) : Nat := 0x010004 + 0x40 * i
/-- CELL_STAT.FAILED: cell marked failed; cleared under R76. -/
def CELL_STAT_FAILED (i : Nat) : Fld := ⟨CELL_STAT i, 0, 1⟩
/-- CELL_STAT.LAST: last slice result: 0 none, 1 pass, 2 fail, 3 incomplete. -/
def CELL_STAT_LAST (i : Nat) : Fld := ⟨CELL_STAT i, 1, 2⟩
/-- Address of CELL_OFS (R77). -/
def CELL_OFS (i : Nat) : Nat := 0x010008 + 0x40 * i
/-- CELL_OFS.OFS: offset, signed, in Q1.23 LSB. -/
def CELL_OFS_OFS (i : Nat) : Fld := ⟨CELL_OFS i, 0, 24⟩
/-- Address of CELL_GAIN (R77). -/
def CELL_GAIN (i : Nat) : Nat := 0x01000C + 0x40 * i
/-- CELL_GAIN.GAIN: gain, unsigned Q2.22; a write is clamped to 0x3C_0000–0x44_0000 (0.9375–1.0625). -/
def CELL_GAIN_GAIN (i : Nat) : Fld := ⟨CELL_GAIN i, 0, 24⟩
/-- Address of CELL_SKEW (R77). -/
def CELL_SKEW (i : Nat) : Nat := 0x010010 + 0x40 * i
/-- CELL_SKEW.SKEW: skew, signed, in units of 2^−20 tick (77.6 fs). -/
def CELL_SKEW_SKEW (i : Nat) : Fld := ⟨CELL_SKEW i, 0, 16⟩
/-- Address of CELL_TRIMSEL (R77). -/
def CELL_TRIMSEL (i : Nat) : Nat := 0x010014 + 0x40 * i
/-- CELL_TRIMSEL.IDX: trim index: 0–62 segments, 63–74 bits 11 down to 0. -/
def CELL_TRIMSEL_IDX (i : Nat) : Fld := ⟨CELL_TRIMSEL i, 0, 7⟩
/-- Address of CELL_TRIMDAT (R77). -/
def CELL_TRIMDAT (i : Nat) : Nat := 0x010018 + 0x40 * i
/-- CELL_TRIMDAT.TRIM: trim selected by IDX, signed. -/
def CELL_TRIMDAT_TRIM (i : Nat) : Fld := ⟨CELL_TRIMDAT i, 0, 12⟩
/-- Address of CELL_SUBCNT (R77). -/
def CELL_SUBCNT (i : Nat) : Nat := 0x01001C + 0x40 * i
/-- CELL_SUBCNT.SUB: samples substituted for this cell, saturating. -/
def CELL_SUBCNT_SUB (i : Nat) : Fld := ⟨CELL_SUBCNT i, 0, 32⟩
/-- Address of CELL_CLIPCNT (R77). -/
def CELL_CLIPCNT (i : Nat) : Nat := 0x010020 + 0x40 * i
/-- CELL_CLIPCNT.CLIP: end-code conversions, saturating. -/
def CELL_CLIPCNT_CLIP (i : Nat) : Fld := ⟨CELL_CLIPCNT i, 0, 32⟩
/-- Address of CELL_SLICE (R77). -/
def CELL_SLICE (i : Nat) : Nat := 0x010024 + 0x40 * i
/-- CELL_SLICE.SLICE_ID: identifier of the current or last slice, incrementing per slice in the whole device. -/
def CELL_SLICE_SLICE_ID (i : Nat) : Fld := ⟨CELL_SLICE i, 0, 16⟩
/-- CELL_SLICE.PATTERNS: patterns applied, 0–128. -/
def CELL_SLICE_PATTERNS (i : Nat) : Fld := ⟨CELL_SLICE i, 16, 8⟩
/-- CELL_SLICE.PHASE: 0 none, 1 scarf-in, 2 test, 3 scarf-out, 4 ended. -/
def CELL_SLICE_PHASE (i : Nat) : Fld := ⟨CELL_SLICE i, 24, 3⟩
/-- CELL_SLICE.DONE: 1: the slice ran to its end; 0: it ended early. -/
def CELL_SLICE_DONE (i : Nat) : Fld := ⟨CELL_SLICE i, 27, 1⟩
/-- Address of CELL_FAILCNT (R77). -/
def CELL_FAILCNT (i : Nat) : Nat := 0x010028 + 0x40 * i
/-- CELL_FAILCNT.FAILS: times marked failed, saturating at 255. -/
def CELL_FAILCNT_FAILS (i : Nat) : Fld := ⟨CELL_FAILCNT i, 0, 8⟩
/-- Address of CELL_GRP_CTRL (R77). -/
def CELL_GRP_CTRL (i : Nat) : Nat := 0x011800 + 0x20 * i
/-- CELL_GRP_CTRL.ROT_EN: 1: rotation runs. -/
def CELL_GRP_CTRL_ROT_EN (i : Nat) : Fld := ⟨CELL_GRP_CTRL i, 0, 1⟩
/-- CELL_GRP_CTRL.PERIOD: slice interval in 2 ms units, 20–4095; a smaller value reads back as 20. -/
def CELL_GRP_CTRL_PERIOD (i : Nat) : Fld := ⟨CELL_GRP_CTRL i, 4, 12⟩
/-- CELL_GRP_CTRL.ROT_NOW: queue a slice now; ignored if the group has a slice queued or running. -/
def CELL_GRP_CTRL_ROT_NOW (i : Nat) : Fld := ⟨CELL_GRP_CTRL i, 16, 1⟩
/-- CELL_GRP_CTRL.RETRY: repeat the zero check after EXTFLT. -/
def CELL_GRP_CTRL_RETRY (i : Nat) : Fld := ⟨CELL_GRP_CTRL i, 17, 1⟩
/-- CELL_GRP_CTRL.INWIN: IN window exponent, 4–12; a value below 4, from a write or an image, is stored as 4, and above 12 as 12. -/
def CELL_GRP_CTRL_INWIN (i : Nat) : Fld := ⟨CELL_GRP_CTRL i, 20, 4⟩
/-- CELL_GRP_CTRL.OUTWIN: read-back window exponent, 4–12; a value below 4 is stored as 4, and above 12 as 12. -/
def CELL_GRP_CTRL_OUTWIN (i : Nat) : Fld := ⟨CELL_GRP_CTRL i, 24, 4⟩
/-- CELL_GRP_CTRL.OUTN: consecutive misses for an OUT fault, 1–7; a value of 0 is stored as 1. -/
def CELL_GRP_CTRL_OUTN (i : Nat) : Fld := ⟨CELL_GRP_CTRL i, 28, 3⟩
/-- Address of CELL_GRP_STAT (R77). -/
def CELL_GRP_STAT (i : Nat) : Nat := 0x011804 + 0x20 * i
/-- CELL_GRP_STAT.DEGRADED: group has no spare. -/
def CELL_GRP_STAT_DEGRADED (i : Nat) : Fld := ⟨CELL_GRP_STAT i, 0, 1⟩
/-- CELL_GRP_STAT.NO_ROT: rotation stopped. -/
def CELL_GRP_STAT_NO_ROT (i : Nat) : Fld := ⟨CELL_GRP_STAT i, 1, 1⟩
/-- CELL_GRP_STAT.CALV: R47 met. -/
def CELL_GRP_STAT_CALV (i : Nat) : Fld := ⟨CELL_GRP_STAT i, 2, 1⟩
/-- CELL_GRP_STAT.HOLDZ: output held at zero scale by EXTFLT or R75. -/
def CELL_GRP_STAT_HOLDZ (i : Nat) : Fld := ⟨CELL_GRP_STAT i, 3, 1⟩
/-- CELL_GRP_STAT.SPARE: index of the spare cell; 0x7F means none. -/
def CELL_GRP_STAT_SPARE (i : Nat) : Fld := ⟨CELL_GRP_STAT i, 4, 7⟩
/-- CELL_GRP_STAT.NEXT: cell to leave at the next slice. -/
def CELL_GRP_STAT_NEXT (i : Nat) : Fld := ⟨CELL_GRP_STAT i, 12, 7⟩
/-- Address of CELL_GRP_EVT (R77). -/
def CELL_GRP_EVT (i : Nat) : Nat := 0x011808 + 0x20 * i
/-- CELL_GRP_EVT.INFLT: IN fault declared. -/
def CELL_GRP_EVT_INFLT (i : Nat) : Fld := ⟨CELL_GRP_EVT i, 0, 1⟩
/-- CELL_GRP_EVT.OUTFLT: OUT fault declared. -/
def CELL_GRP_EVT_OUTFLT (i : Nat) : Fld := ⟨CELL_GRP_EVT i, 1, 1⟩
/-- CELL_GRP_EVT.MONFLT: MON fault declared. -/
def CELL_GRP_EVT_MONFLT (i : Nat) : Fld := ⟨CELL_GRP_EVT i, 2, 1⟩
/-- CELL_GRP_EVT.EXTFLT: external output fault. -/
def CELL_GRP_EVT_EXTFLT (i : Nat) : Fld := ⟨CELL_GRP_EVT i, 3, 1⟩
/-- CELL_GRP_EVT.SPUSED: spare took over after a fault. -/
def CELL_GRP_EVT_SPUSED (i : Nat) : Fld := ⟨CELL_GRP_EVT i, 4, 1⟩
/-- CELL_GRP_EVT.DEGR: group became degraded. -/
def CELL_GRP_EVT_DEGR (i : Nat) : Fld := ⟨CELL_GRP_EVT i, 5, 1⟩
/-- CELL_GRP_EVT.SLPASS: slice passed. -/
def CELL_GRP_EVT_SLPASS (i : Nat) : Fld := ⟨CELL_GRP_EVT i, 6, 1⟩
/-- CELL_GRP_EVT.SLFAIL: slice failed. -/
def CELL_GRP_EVT_SLFAIL (i : Nat) : Fld := ⟨CELL_GRP_EVT i, 7, 1⟩
/-- CELL_GRP_EVT.SLINC: slice incomplete. -/
def CELL_GRP_EVT_SLINC (i : Nat) : Fld := ⟨CELL_GRP_EVT i, 8, 1⟩
/-- Address of CELL_GRP_MASK (R77). -/
def CELL_GRP_MASK (i : Nat) : Nat := 0x01180C + 0x20 * i
/-- CELL_GRP_MASK.MASK: 1 passes the matching CELL_GRP_EVT bit to the interrupt tree. -/
def CELL_GRP_MASK_MASK (i : Nat) : Fld := ⟨CELL_GRP_MASK i, 0, 9⟩
/-- Address of CELL_GRP_CNT (R77). -/
def CELL_GRP_CNT (i : Nat) : Nat := 0x011810 + 0x20 * i
/-- CELL_GRP_CNT.PASS: slices passed, saturating. -/
def CELL_GRP_CNT_PASS (i : Nat) : Fld := ⟨CELL_GRP_CNT i, 0, 16⟩
/-- CELL_GRP_CNT.FAIL: slices failed, saturating. -/
def CELL_GRP_CNT_FAIL (i : Nat) : Fld := ⟨CELL_GRP_CNT i, 16, 8⟩
/-- CELL_GRP_CNT.INC: slices incomplete, saturating. -/
def CELL_GRP_CNT_INC (i : Nat) : Fld := ⟨CELL_GRP_CNT i, 24, 8⟩
/-- Address of CELL_GLB_CTRL (R77). -/
def CELL_GLB_CTRL : Nat := 0x011C00
/-- CELL_GLB_CTRL.FREEZE: R50. -/
def CELL_GLB_CTRL_FREEZE : Fld := ⟨CELL_GLB_CTRL, 0, 1⟩
/-- Address of CELL_GLB_STAT (R77). -/
def CELL_GLB_STAT : Nat := 0x011C04
/-- CELL_GLB_STAT.BUSY: a slice is running. -/
def CELL_GLB_STAT_BUSY : Fld := ⟨CELL_GLB_STAT, 0, 1⟩
/-- CELL_GLB_STAT.GRP: group of the running or last slice. -/
def CELL_GLB_STAT_GRP : Fld := ⟨CELL_GLB_STAT, 4, 5⟩
/-- CELL_GLB_STAT.CELL: cell under the running or last slice. -/
def CELL_GLB_STAT_CELL : Fld := ⟨CELL_GLB_STAT, 9, 7⟩
/-- CELL_GLB_STAT.QUEUED: slices queued, 0–18. -/
def CELL_GLB_STAT_QUEUED : Fld := ⟨CELL_GLB_STAT, 16, 5⟩
/-- Address of UAP_CFG (R107). -/
def UAP_CFG (i : Nat) : Nat := 0x020000 + 0x100 * i
/-- UAP_CFG.DIR: 0 unused, 1 input, 2 output. -/
def UAP_CFG_DIR (i : Nat) : Fld := ⟨UAP_CFG i, 0, 2⟩
/-- UAP_CFG.MODE: 0 LINE, 1 MIC, 2 INST. -/
def UAP_CFG_MODE (i : Nat) : Fld := ⟨UAP_CFG i, 2, 2⟩
/-- UAP_CFG.LP: 1: low-power input. -/
def UAP_CFG_LP (i : Nat) : Fld := ⟨UAP_CFG i, 4, 1⟩
/-- UAP_CFG.TALK: 1: talkback port. -/
def UAP_CFG_TALK (i : Nat) : Fld := ⟨UAP_CFG i, 5, 1⟩
/-- UAP_CFG.MBSEL: supply serving the port. -/
def UAP_CFG_MBSEL (i : Nat) : Fld := ⟨UAP_CFG i, 6, 2⟩
/-- UAP_CFG.MBMAP: 1: MBSEL is valid. -/
def UAP_CFG_MBMAP (i : Nat) : Fld := ⟨UAP_CFG i, 8, 1⟩
/-- Address of UAP_IN_GAIN (R107). -/
def UAP_IN_GAIN (i : Nat) : Nat := 0x020004 + 0x100 * i
/-- UAP_IN_GAIN.TARGET: requested gain in dB; a value above the mode maximum is clamped to it. -/
def UAP_IN_GAIN_TARGET (i : Nat) : Fld := ⟨UAP_IN_GAIN i, 0, 6⟩
/-- UAP_IN_GAIN.CUR: gain in force. -/
def UAP_IN_GAIN_CUR (i : Nat) : Fld := ⟨UAP_IN_GAIN i, 8, 6⟩
/-- UAP_IN_GAIN.PEND: a step waits for a crossing. -/
def UAP_IN_GAIN_PEND (i : Nat) : Fld := ⟨UAP_IN_GAIN i, 16, 1⟩
/-- UAP_IN_GAIN.COMP: the compensation ramp of R83 runs. -/
def UAP_IN_GAIN_COMP (i : Nat) : Fld := ⟨UAP_IN_GAIN i, 17, 1⟩
/-- Address of UAP_IN_CTRL (R107). -/
def UAP_IN_CTRL (i : Nat) : Nat := 0x020008 + 0x100 * i
/-- UAP_IN_CTRL.ZCTO: crossing timeout in ms; 0 steps at once under R83. -/
def UAP_IN_CTRL_ZCTO (i : Nat) : Fld := ⟨UAP_IN_CTRL i, 0, 8⟩
/-- Address of UAP_OUT_CTRL (R107). -/
def UAP_OUT_CTRL (i : Nat) : Nat := 0x02000C + 0x100 * i
/-- UAP_OUT_CTRL.RANGE: 0 LOW, 1 HIGH. -/
def UAP_OUT_CTRL_RANGE (i : Nat) : Fld := ⟨UAP_OUT_CTRL i, 0, 1⟩
/-- UAP_OUT_CTRL.MUTE: 1: hold at zero scale. -/
def UAP_OUT_CTRL_MUTE (i : Nat) : Fld := ⟨UAP_OUT_CTRL i, 1, 1⟩
/-- Address of UAP_STAT (R107). -/
def UAP_STAT (i : Nat) : Nat := 0x020010 + 0x100 * i
/-- UAP_STAT.CLOCHED: the cloche holds this port. -/
def UAP_STAT_CLOCHED (i : Nat) : Fld := ⟨UAP_STAT i, 0, 1⟩
/-- UAP_STAT.ZHOLD: input held at zero under R89 or R101. -/
def UAP_STAT_ZHOLD (i : Nat) : Fld := ⟨UAP_STAT i, 1, 1⟩
/-- UAP_STAT.CM: 0 at 0 V, 1 rising, 2 at AVDD5/2, 3 falling. -/
def UAP_STAT_CM (i : Nat) : Fld := ⟨UAP_STAT i, 2, 2⟩
/-- UAP_STAT.RNGBUSY: range change running. -/
def UAP_STAT_RNGBUSY (i : Nat) : Fld := ⟨UAP_STAT i, 4, 1⟩
/-- UAP_STAT.RNGPEND: range write held under R97. -/
def UAP_STAT_RNGPEND (i : Nat) : Fld := ⟨UAP_STAT i, 5, 1⟩
/-- UAP_STAT.ZSCALE: output at zero scale for any reason. -/
def UAP_STAT_ZSCALE (i : Nat) : Fld := ⟨UAP_STAT i, 6, 1⟩
/-- UAP_STAT.RANGE_NOW: range in force: 0 LOW, 1 HIGH. -/
def UAP_STAT_RANGE_NOW (i : Nat) : Fld := ⟨UAP_STAT i, 7, 1⟩
/-- Address of UAP_CAL_GAIN (R107). -/
def UAP_CAL_GAIN (i : Nat) : Nat := 0x020014 + 0x100 * i
/-- UAP_CAL_GAIN.GAIN: calibration gain, unsigned Q2.22. -/
def UAP_CAL_GAIN_GAIN (i : Nat) : Fld := ⟨UAP_CAL_GAIN i, 0, 24⟩
/-- Address of UAP_CAL_DLY (R107). -/
def UAP_CAL_DLY (i : Nat) : Nat := 0x020018 + 0x100 * i
/-- UAP_CAL_DLY.DLY: 11-bit signed, in 1/256 sample, −512 to +512 (R104). -/
def UAP_CAL_DLY_DLY (i : Nat) : Fld := ⟨UAP_CAL_DLY i, 0, 11⟩
/-- UAP_CAL_DLY.EN: 1: calibration stage in the path. -/
def UAP_CAL_DLY_EN (i : Nat) : Fld := ⟨UAP_CAL_DLY i, 16, 1⟩
/-- Address of UAP_EVT (R107). -/
def UAP_EVT (i : Nat) : Nat := 0x02001C + 0x100 * i
/-- UAP_EVT.GZC: gain step taken at a crossing. -/
def UAP_EVT_GZC (i : Nat) : Fld := ⟨UAP_EVT i, 0, 1⟩
/-- UAP_EVT.GTO: gain step taken at timeout. -/
def UAP_EVT_GTO (i : Nat) : Fld := ⟨UAP_EVT i, 1, 1⟩
/-- UAP_EVT.GOVR: pending gain step replaced or cancelled. -/
def UAP_EVT_GOVR (i : Nat) : Fld := ⟨UAP_EVT i, 2, 1⟩
/-- UAP_EVT.RNGDONE: range change ended. -/
def UAP_EVT_RNGDONE (i : Nat) : Fld := ⟨UAP_EVT i, 3, 1⟩
/-- UAP_EVT.CMUP: common-mode rise ended. -/
def UAP_EVT_CMUP (i : Nat) : Fld := ⟨UAP_EVT i, 4, 1⟩
/-- UAP_EVT.CMDN: common-mode fall ended. -/
def UAP_EVT_CMDN (i : Nat) : Fld := ⟨UAP_EVT i, 5, 1⟩
/-- UAP_EVT.BIASZ: input entered ZHOLD under R89. -/
def UAP_EVT_BIASZ (i : Nat) : Fld := ⟨UAP_EVT i, 6, 1⟩
/-- Address of UAP_MASK (R107). -/
def UAP_MASK (i : Nat) : Nat := 0x020020 + 0x100 * i
/-- UAP_MASK.MASK: 1 passes the matching UAP_EVT bit to the interrupt tree. -/
def UAP_MASK_MASK (i : Nat) : Fld := ⟨UAP_MASK i, 0, 7⟩
/-- Address of MB_CFG (R107). -/
def MB_CFG (i : Nat) : Nat := 0x021000 + 0x8 * i
/-- MB_CFG.VSET: voltage in 0.1 V, 20–90; other values clamp to the nearer limit. -/
def MB_CFG_VSET (i : Nat) : Fld := ⟨MB_CFG i, 0, 7⟩
/-- MB_CFG.EN: 1: supply on; 0 also clears ILIM. -/
def MB_CFG_EN (i : Nat) : Fld := ⟨MB_CFG i, 7, 1⟩
/-- MB_CFG.MAP: bit k set: supply serves UAPk. -/
def MB_CFG_MAP (i : Nat) : Fld := ⟨MB_CFG i, 8, 8⟩
/-- Address of MB_STAT (R107). -/
def MB_STAT (i : Nat) : Nat := 0x021004 + 0x8 * i
/-- MB_STAT.OK: within ±2 % of VSET. -/
def MB_STAT_OK (i : Nat) : Fld := ⟨MB_STAT i, 0, 1⟩
/-- MB_STAT.RAMP: rising or slewing. -/
def MB_STAT_RAMP (i : Nat) : Fld := ⟨MB_STAT i, 1, 1⟩
/-- MB_STAT.ILIM: switched off under R90. -/
def MB_STAT_ILIM (i : Nat) : Fld := ⟨MB_STAT i, 2, 1⟩
/-- MB_STAT.CUT: switch opened by the cloche. -/
def MB_STAT_CUT (i : Nat) : Fld := ⟨MB_STAT i, 3, 1⟩
/-- Address of CLOCHE_STAT (R107). -/
def CLOCHE_STAT : Nat := 0x021040
/-- CLOCHE_STAT.SHUT: cloche shut. -/
def CLOCHE_STAT_SHUT : Fld := ⟨CLOCHE_STAT, 0, 1⟩
/-- CLOCHE_STAT.OPENING: the sequence of R101 runs. -/
def CLOCHE_STAT_OPENING : Fld := ⟨CLOCHE_STAT, 1, 1⟩
/-- CLOCHE_STAT.LED: PRIV_LED sinking current. -/
def CLOCHE_STAT_LED : Fld := ⟨CLOCHE_STAT, 2, 1⟩
/-- CLOCHE_STAT.TALK: bit n set: UAPn is talkback. -/
def CLOCHE_STAT_TALK : Fld := ⟨CLOCHE_STAT, 16, 16⟩
/-- Address of CLOCHE_EVT (R107). -/
def CLOCHE_EVT : Nat := 0x021044
/-- CLOCHE_EVT.SHUT: cloche shut. -/
def CLOCHE_EVT_SHUT : Fld := ⟨CLOCHE_EVT, 0, 1⟩
/-- CLOCHE_EVT.OPEN: cloche open and ports ramped in. -/
def CLOCHE_EVT_OPEN : Fld := ⟨CLOCHE_EVT, 1, 1⟩
/-- CLOCHE_EVT.ILIM: bit 4 + n: MBIASn switched off under R90. -/
def CLOCHE_EVT_ILIM : Fld := ⟨CLOCHE_EVT, 4, 4⟩
/-- Address of CLOCHE_MASK (R107). -/
def CLOCHE_MASK : Nat := 0x021048
/-- CLOCHE_MASK.MASK: 1 passes the matching CLOCHE_EVT bit to the interrupt tree. -/
def CLOCHE_MASK_MASK : Fld := ⟨CLOCHE_MASK, 0, 8⟩
/-- Address of CLOCHE_CNT (R107). -/
def CLOCHE_CNT : Nat := 0x02104C
/-- CLOCHE_CNT.SHUTS: times the cloche has shut since POR, saturating. -/
def CLOCHE_CNT_SHUTS : Fld := ⟨CLOCHE_CNT, 0, 16⟩

end Sys2Proof.Machine.Reg
end

