-- ==== Sys2Proof/Machine/RegB.lean ====
section
/-! DEFINITION. The fields of the registers by name (headphone, jacks, speaker, chains, rate conversion, graph, parameter pages): the address of the word that holds the field, its lowest bit and its width, as the
register tables of the manual give them. A register with several instances takes its indices as arguments, in the order of its table entry. -/

namespace Sys2Proof.Machine.Reg

/-- Address of HP_CFG (R330). -/
def HP_CFG : Nat := 0x022000
/-- HP_CFG.EN: bit 0 HPL, bit 1 HPR enabled. -/
def HP_CFG_EN : Fld := ⟨HP_CFG, 0, 2⟩
/-- Address of HP_CTRL (R330). -/
def HP_CTRL : Nat := 0x022004
/-- HP_CTRL.RANGE: per side: 0 LOW, 1 HIGH. -/
def HP_CTRL_RANGE : Fld := ⟨HP_CTRL, 0, 2⟩
/-- HP_CTRL.MUTE: per side: 1 hold at zero scale. -/
def HP_CTRL_MUTE : Fld := ⟨HP_CTRL, 2, 2⟩
/-- HP_CTRL.CLR: per side: clear a trip (R326). -/
def HP_CTRL_CLR : Fld := ⟨HP_CTRL, 4, 2⟩
/-- Address of HP_STAT (R330). -/
def HP_STAT : Nat := 0x022008
/-- HP_STAT.CPOK: VNEG in range. -/
def HP_STAT_CPOK : Fld := ⟨HP_STAT, 0, 1⟩
/-- HP_STAT.REL: per side released. -/
def HP_STAT_REL : Fld := ⟨HP_STAT, 1, 2⟩
/-- HP_STAT.TRIPPED: per side tripped. -/
def HP_STAT_TRIPPED : Fld := ⟨HP_STAT, 3, 2⟩
/-- HP_STAT.RANGE_NOW: per side range in force. -/
def HP_STAT_RANGE_NOW : Fld := ⟨HP_STAT, 5, 2⟩
/-- Address of HP_EVT (R330). -/
def HP_EVT : Nat := 0x02200C
/-- HP_EVT.PUMPFAIL: pump not ready in 5 ms. -/
def HP_EVT_PUMPFAIL : Fld := ⟨HP_EVT, 0, 1⟩
/-- HP_EVT.TRIP: per side tripped. -/
def HP_EVT_TRIP : Fld := ⟨HP_EVT, 1, 2⟩
/-- HP_EVT.RNGDONE: per side range change ended. -/
def HP_EVT_RNGDONE : Fld := ⟨HP_EVT, 3, 2⟩
/-- Address of HP_MASK (R330). -/
def HP_MASK : Nat := 0x022010
/-- HP_MASK.MASK: 1 passes the matching HP_EVT bit. -/
def HP_MASK_MASK : Fld := ⟨HP_MASK, 0, 5⟩
/-- Address of JACK_CFG (R330). -/
def JACK_CFG (i : Nat) : Nat := 0x022100 + 0x20 * i
/-- JACK_CFG.EN: jack in use. -/
def JACK_CFG_EN (i : Nat) : Fld := ⟨JACK_CFG i, 0, 1⟩
/-- JACK_CFG.DEB: debounce code (R314). -/
def JACK_CFG_DEB (i : Nat) : Fld := ⟨JACK_CFG i, 1, 3⟩
/-- JACK_CFG.IDPIN: SENSE pin for identification. -/
def JACK_CFG_IDPIN (i : Nat) : Fld := ⟨JACK_CFG i, 8, 5⟩
/-- Address of JACK_STAT (R330). -/
def JACK_STAT (i : Nat) : Nat := 0x022104 + 0x20 * i
/-- JACK_STAT.PRES: present reading of the last sample. -/
def JACK_STAT_PRES (i : Nat) : Fld := ⟨JACK_STAT i, 0, 1⟩
/-- JACK_STAT.STATE: state code of R315. -/
def JACK_STAT_STATE (i : Nat) : Fld := ⟨JACK_STAT i, 4, 4⟩
/-- JACK_STAT.IDRUN: identification running. -/
def JACK_STAT_IDRUN (i : Nat) : Fld := ⟨JACK_STAT i, 8, 1⟩
/-- Address of JACK_ID (R330). -/
def JACK_ID (i : Nat) : Nat := 0x022108 + 0x20 * i
/-- JACK_ID.R: R in 0.1 Ω; 0x1F_FFFF at compliance. -/
def JACK_ID_R (i : Nat) : Fld := ⟨JACK_ID i, 0, 21⟩
/-- Address of JACK_IDL (R330). -/
def JACK_IDL (i : Nat) : Nat := 0x02210C + 0x20 * i
/-- JACK_IDL.L: L in 0.01 H. -/
def JACK_IDL_L (i : Nat) : Fld := ⟨JACK_IDL i, 0, 16⟩
/-- JACK_IDL.ZAC: Zac in 10 Ω; 0xFFFF not measured or above range. -/
def JACK_IDL_ZAC (i : Nat) : Fld := ⟨JACK_IDL i, 16, 16⟩
/-- Address of JACK_CTRL (R330). -/
def JACK_CTRL (i : Nat) : Nat := 0x022110 + 0x20 * i
/-- JACK_CTRL.REID: identify again (R319). -/
def JACK_CTRL_REID (i : Nat) : Fld := ⟨JACK_CTRL i, 0, 1⟩
/-- Address of JACK_OUTMAP (R330). -/
def JACK_OUTMAP (i : Nat) : Nat := 0x022200 + 0x4 * i
/-- JACK_OUTMAP.JACK: jack index. -/
def JACK_OUTMAP_JACK (i : Nat) : Fld := ⟨JACK_OUTMAP i, 0, 3⟩
/-- JACK_OUTMAP.USE: 1: output depends on the jack. -/
def JACK_OUTMAP_USE (i : Nat) : Fld := ⟨JACK_OUTMAP i, 3, 1⟩
/-- JACK_OUTMAP.MASK: bit k: state k releases the output; bit 1 reads 0. -/
def JACK_OUTMAP_MASK (i : Nat) : Fld := ⟨JACK_OUTMAP i, 8, 9⟩
/-- Address of JACK_AON (R330). -/
def JACK_AON : Nat := 0x022300
/-- JACK_AON.WAKE: bit n: JDn change wakes DORMANT. -/
def JACK_AON_WAKE : Fld := ⟨JACK_AON, 0, 8⟩
/-- JACK_AON.POL: bit 8 + n: R312 polarity. -/
def JACK_AON_POL : Fld := ⟨JACK_AON, 8, 8⟩
/-- Address of JACK_EVT (R330). -/
def JACK_EVT : Nat := 0x022304
/-- JACK_EVT.CHG: bit n: JDn state decided. -/
def JACK_EVT_CHG : Fld := ⟨JACK_EVT, 0, 8⟩
/-- JACK_EVT.ABORT: bit 8 + n: identification aborted (R321). -/
def JACK_EVT_ABORT : Fld := ⟨JACK_EVT, 8, 8⟩
/-- JACK_EVT.UNK: bit 16 + n: second UNKNOWN stood. -/
def JACK_EVT_UNK : Fld := ⟨JACK_EVT, 16, 8⟩
/-- Address of JACK_MASK (R330). -/
def JACK_MASK : Nat := 0x022308
/-- JACK_MASK.MASK: 1 passes the matching JACK_EVT bit. -/
def JACK_MASK_MASK : Fld := ⟨JACK_MASK, 0, 24⟩
/-- Address of SPK_CFG (R311). -/
def SPK_CFG (i : Nat) : Nat := 0x024000 + 0x80 * i
/-- SPK_CFG.EN: channel enabled. -/
def SPK_CFG_EN (i : Nat) : Fld := ⟨SPK_CFG i, 0, 1⟩
/-- SPK_CFG.MI: modulation index at full scale, Q1.15, 0–0.94. -/
def SPK_CFG_MI (i : Nat) : Fld := ⟨SPK_CFG i, 8, 16⟩
/-- Address of SPK_LEAD (R311). -/
def SPK_LEAD (i : Nat) : Nat := 0x024004 + 0x80 * i
/-- SPK_LEAD.NS: lead in ns (R295). -/
def SPK_LEAD_NS (i : Nat) : Fld := ⟨SPK_LEAD i, 0, 13⟩
/-- Address of SPK_CTRL (R311). -/
def SPK_CTRL (i : Nat) : Nat := 0x024008 + 0x80 * i
/-- SPK_CTRL.MUTE: 1: stop under R299. -/
def SPK_CTRL_MUTE (i : Nat) : Fld := ⟨SPK_CTRL i, 0, 1⟩
/-- SPK_CTRL.CLR: leave LOCKED (R305). -/
def SPK_CTRL_CLR (i : Nat) : Fld := ⟨SPK_CTRL i, 1, 1⟩
/-- SPK_CTRL.CHECK: host load check (R306). -/
def SPK_CTRL_CHECK (i : Nat) : Fld := ⟨SPK_CTRL i, 2, 1⟩
/-- Address of SPK_STAT (R311). -/
def SPK_STAT (i : Nat) : Nat := 0x02400C + 0x80 * i
/-- SPK_STAT.STATE: 0 OFF, 1 BOOT, 2 RAMPUP, 3 RUN, 4 RAMPDN, 5 BACKOFF, 6 CHECK, 7 LOCKED. -/
def SPK_STAT_STATE (i : Nat) : Fld := ⟨SPK_STAT i, 0, 3⟩
/-- SPK_STAT.RETRY: failed retries, 0–8. -/
def SPK_STAT_RETRY (i : Nat) : Fld := ⟨SPK_STAT i, 8, 4⟩
/-- SPK_STAT.LIMACT: thermal limiter gain below 1. -/
def SPK_STAT_LIMACT (i : Nat) : Fld := ⟨SPK_STAT i, 12, 1⟩
/-- SPK_STAT.OPEN: last check found an open load. -/
def SPK_STAT_OPEN (i : Nat) : Fld := ⟨SPK_STAT i, 13, 1⟩
/-- Address of SPK_PROT (R311). -/
def SPK_PROT (i : Nat) : Nat := 0x024010 + 0x80 * i
/-- SPK_PROT.BACKOFF: backoff in 10 ms, 1–255; 0 is taken as 1. -/
def SPK_PROT_BACKOFF (i : Nat) : Fld := ⟨SPK_PROT i, 0, 8⟩
/-- SPK_PROT.RMIN: check threshold in 1/16 Ω. -/
def SPK_PROT_RMIN (i : Nat) : Fld := ⟨SPK_PROT i, 8, 8⟩
/-- Address of SPK_RLOAD (R311). -/
def SPK_RLOAD (i : Nat) : Nat := 0x024014 + 0x80 * i
/-- SPK_RLOAD.R: resistance of the last check in mΩ, saturating. -/
def SPK_RLOAD_R (i : Nat) : Fld := ⟨SPK_RLOAD i, 0, 16⟩
/-- Address of SPK_TRIPCNT (R311). -/
def SPK_TRIPCNT (i : Nat) : Nat := 0x024018 + 0x80 * i
/-- SPK_TRIPCNT.TRIP: trips, saturating. -/
def SPK_TRIPCNT_TRIP (i : Nat) : Fld := ⟨SPK_TRIPCNT i, 0, 16⟩
/-- Address of SPK_ILIMCNT (R311). -/
def SPK_ILIMCNT (i : Nat) : Nat := 0x02401C + 0x80 * i
/-- SPK_ILIMCNT.ILIM: limited carrier periods, saturating. -/
def SPK_ILIMCNT_ILIM (i : Nat) : Fld := ⟨SPK_ILIMCNT i, 0, 32⟩
/-- Address of SPK_CLIPCNT (R311). -/
def SPK_CLIPCNT (i : Nat) : Nat := 0x024020 + 0x80 * i
/-- SPK_CLIPCNT.CLIP: summer saturations and duty clamps, saturating. -/
def SPK_CLIPCNT_CLIP (i : Nat) : Fld := ⟨SPK_CLIPCNT i, 0, 32⟩
/-- Address of SPK_THM_RE25 (R311). -/
def SPK_THM_RE25 (i : Nat) : Nat := 0x024030 + 0x80 * i
/-- SPK_THM_RE25.RE25: coil resistance at 25 °C in mΩ. -/
def SPK_THM_RE25_RE25 (i : Nat) : Fld := ⟨SPK_THM_RE25 i, 0, 16⟩
/-- Address of SPK_THM_RT (R311). -/
def SPK_THM_RT (i : Nat) : Nat := 0x024034 + 0x80 * i
/-- SPK_THM_RT.RTV: coil thermal resistance in 1/64 K/W. -/
def SPK_THM_RT_RTV (i : Nat) : Fld := ⟨SPK_THM_RT i, 0, 16⟩
/-- SPK_THM_RT.RTM: magnet thermal resistance in 1/64 K/W. -/
def SPK_THM_RT_RTM (i : Nat) : Fld := ⟨SPK_THM_RT i, 16, 16⟩
/-- Address of SPK_THM_TAU (R311). -/
def SPK_THM_TAU (i : Nat) : Nat := 0x024038 + 0x80 * i
/-- SPK_THM_TAU.TAUV: coil time constant in 0.1 s, 1–65,535. -/
def SPK_THM_TAU_TAUV (i : Nat) : Fld := ⟨SPK_THM_TAU i, 0, 16⟩
/-- SPK_THM_TAU.TAUM: magnet time constant in 1 s, 1–65,535. -/
def SPK_THM_TAU_TAUM (i : Nat) : Fld := ⟨SPK_THM_TAU i, 16, 16⟩
/-- Address of SPK_THM_LIM (R311). -/
def SPK_THM_LIM (i : Nat) : Nat := 0x02403C + 0x80 * i
/-- SPK_THM_LIM.TLIM: limit in °C, 60–250. -/
def SPK_THM_LIM_TLIM (i : Nat) : Fld := ⟨SPK_THM_LIM i, 0, 8⟩
/-- SPK_THM_LIM.REL: limiter release in ms per 12 dB, 1–65,535. -/
def SPK_THM_LIM_REL (i : Nat) : Fld := ⟨SPK_THM_LIM i, 16, 16⟩
/-- Address of SPK_THM_CORR (R311). -/
def SPK_THM_CORR (i : Nat) : Nat := 0x024040 + 0x80 * i
/-- SPK_THM_CORR.KCORR: correction weight in 1/256. -/
def SPK_THM_CORR_KCORR (i : Nat) : Fld := ⟨SPK_THM_CORR i, 0, 8⟩
/-- SPK_THM_CORR.IMIN: RMS current for an estimate, in 10 mA. -/
def SPK_THM_CORR_IMIN (i : Nat) : Fld := ⟨SPK_THM_CORR i, 8, 8⟩
/-- Address of SPK_THM_TC (R311). -/
def SPK_THM_TC (i : Nat) : Nat := 0x024044 + 0x80 * i
/-- SPK_THM_TC.TC: model coil temperature, signed, 1/64 °C. -/
def SPK_THM_TC_TC (i : Nat) : Fld := ⟨SPK_THM_TC i, 0, 16⟩
/-- Address of SPK_THM_DT (R311). -/
def SPK_THM_DT (i : Nat) : Nat := 0x024048 + 0x80 * i
/-- SPK_THM_DT.DTV: dTv in 1/64 K (R310). -/
def SPK_THM_DT_DTV (i : Nat) : Fld := ⟨SPK_THM_DT i, 0, 16⟩
/-- SPK_THM_DT.DTM: dTm in 1/64 K (R310). -/
def SPK_THM_DT_DTM (i : Nat) : Fld := ⟨SPK_THM_DT i, 16, 16⟩
/-- Address of SPK_THM_RMEAS (R311). -/
def SPK_THM_RMEAS (i : Nat) : Nat := 0x02404C + 0x80 * i
/-- SPK_THM_RMEAS.RM: last accepted estimate in mΩ. -/
def SPK_THM_RMEAS_RM (i : Nat) : Fld := ⟨SPK_THM_RMEAS i, 0, 16⟩
/-- SPK_THM_RMEAS.REJ: rejected estimates, saturating. -/
def SPK_THM_RMEAS_REJ (i : Nat) : Fld := ⟨SPK_THM_RMEAS i, 16, 16⟩
/-- Address of SPK_THM_P (R311). -/
def SPK_THM_P (i : Nat) : Nat := 0x024050 + 0x80 * i
/-- SPK_THM_P.P: mean power of the last 1 ms in 1/256 W. -/
def SPK_THM_P_P (i : Nat) : Fld := ⟨SPK_THM_P i, 0, 16⟩
/-- Address of SPK_THM_GAIN (R311). -/
def SPK_THM_GAIN (i : Nat) : Nat := 0x024054 + 0x80 * i
/-- SPK_THM_GAIN.ATT: limiter attenuation in 0.25 dB. -/
def SPK_THM_GAIN_ATT (i : Nat) : Fld := ⟨SPK_THM_GAIN i, 0, 8⟩
/-- Address of SPK_EVT (R311). -/
def SPK_EVT (i : Nat) : Nat := 0x024058 + 0x80 * i
/-- SPK_EVT.TRIP: channel tripped (R302). -/
def SPK_EVT_TRIP (i : Nat) : Fld := ⟨SPK_EVT i, 0, 1⟩
/-- SPK_EVT.ILIM: a carrier period was limited. -/
def SPK_EVT_ILIM (i : Nat) : Fld := ⟨SPK_EVT i, 1, 1⟩
/-- SPK_EVT.LOCK: channel locked out (R305). -/
def SPK_EVT_LOCK (i : Nat) : Fld := ⟨SPK_EVT i, 2, 1⟩
/-- SPK_EVT.CHKFAIL: load check failed. -/
def SPK_EVT_CHKFAIL (i : Nat) : Fld := ⟨SPK_EVT i, 3, 1⟩
/-- SPK_EVT.CHKOPEN: load check found an open load. -/
def SPK_EVT_CHKOPEN (i : Nat) : Fld := ⟨SPK_EVT i, 4, 1⟩
/-- SPK_EVT.LIMON: thermal limiter engaged. -/
def SPK_EVT_LIMON (i : Nat) : Fld := ⟨SPK_EVT i, 5, 1⟩
/-- SPK_EVT.THERM: thermal stop (R309). -/
def SPK_EVT_THERM (i : Nat) : Fld := ⟨SPK_EVT i, 6, 1⟩
/-- SPK_EVT.RUNNING: start sequence complete. -/
def SPK_EVT_RUNNING (i : Nat) : Fld := ⟨SPK_EVT i, 7, 1⟩
/-- SPK_EVT.STOPPED: stop sequence complete. -/
def SPK_EVT_STOPPED (i : Nat) : Fld := ⟨SPK_EVT i, 8, 1⟩
/-- Address of SPK_MASK (R311). -/
def SPK_MASK (i : Nat) : Nat := 0x02405C + 0x80 * i
/-- SPK_MASK.MASK: 1 passes the matching SPK_EVT bit to the interrupt tree. -/
def SPK_MASK_MASK (i : Nat) : Fld := ⟨SPK_MASK i, 0, 9⟩
/-- Address of SPK_GLB_CFG (R311). -/
def SPK_GLB_CFG : Nat := 0x024100
/-- SPK_GLB_CFG.FSW: 0: 768 kHz; 1: 384 kHz. -/
def SPK_GLB_CFG_FSW : Fld := ⟨SPK_GLB_CFG, 0, 1⟩
/-- SPK_GLB_CFG.INTLV: 1: channel B half a period late. -/
def SPK_GLB_CFG_INTLV : Fld := ⟨SPK_GLB_CFG, 1, 1⟩
/-- SPK_GLB_CFG.PVNOM: nominal PVDD in mV, 8000–22,000. -/
def SPK_GLB_CFG_PVNOM : Fld := ⟨SPK_GLB_CFG, 16, 16⟩
/-- Address of SPK_GLB_SNS (R311). -/
def SPK_GLB_SNS : Nat := 0x024104
/-- SPK_GLB_SNS.DLY: sense trigger delay in core cycles (R293). -/
def SPK_GLB_SNS_DLY : Fld := ⟨SPK_GLB_SNS, 0, 11⟩
/-- Address of SPK_GLB_PVDD (R311). -/
def SPK_GLB_PVDD : Nat := 0x024108
/-- SPK_GLB_PVDD.MEAN: mean PVDD over the last 1 ms in mV. -/
def SPK_GLB_PVDD_MEAN : Fld := ⟨SPK_GLB_PVDD, 0, 16⟩
/-- SPK_GLB_PVDD.MIN: lowest PVDD result in the last 1 ms in mV. -/
def SPK_GLB_PVDD_MIN : Fld := ⟨SPK_GLB_PVDD, 16, 16⟩
/-- Address of SPK_GLB_TAMB (R311). -/
def SPK_GLB_TAMB : Nat := 0x02410C
/-- SPK_GLB_TAMB.TAMB: ambient for the model, signed °C. -/
def SPK_GLB_TAMB_TAMB : Fld := ⟨SPK_GLB_TAMB, 0, 8⟩
/-- Address of CHAIN_DCFG (R132). -/
def CHAIN_DCFG (i : Nat) : Nat := 0x030000 + 0x40 * i
/-- CHAIN_DCFG.EN: 1: chain runs. -/
def CHAIN_DCFG_EN (i : Nat) : Fld := ⟨CHAIN_DCFG i, 0, 1⟩
/-- CHAIN_DCFG.ENTRY: 0 HB1, 1 HB2 (low power). -/
def CHAIN_DCFG_ENTRY (i : Nat) : Fld := ⟨CHAIN_DCFG i, 1, 1⟩
/-- CHAIN_DCFG.SHORT: 1: short HB8. -/
def CHAIN_DCFG_SHORT (i : Nat) : Fld := ⟨CHAIN_DCFG i, 2, 1⟩
/-- CHAIN_DCFG.HRT: 1: high-rate tap presented. -/
def CHAIN_DCFG_HRT (i : Nat) : Fld := ⟨CHAIN_DCFG i, 3, 1⟩
/-- CHAIN_DCFG.GRID: 1: a graft restart waits for the frame grid. -/
def CHAIN_DCFG_GRID (i : Nat) : Fld := ⟨CHAIN_DCFG i, 4, 1⟩
/-- Address of CHAIN_DSHIFT (R132). -/
def CHAIN_DSHIFT (i : Nat) : Nat := 0x030004 + 0x40 * i
/-- CHAIN_DSHIFT.SHIFT: bits [3k+2:3k]: SHIFT of stage HB(k+1), k = 0–7; unused stages ignored. -/
def CHAIN_DSHIFT_SHIFT (i : Nat) : Fld := ⟨CHAIN_DSHIFT i, 0, 24⟩
/-- Address of CHAIN_DSTAT (R132). -/
def CHAIN_DSTAT (i : Nat) : Nat := 0x030008 + 0x40 * i
/-- CHAIN_DSTAT.UNSET: outputs tagged U under R127; 0 while the chain is off (R128). -/
def CHAIN_DSTAT_UNSET (i : Nat) : Fld := ⟨CHAIN_DSTAT i, 0, 1⟩
/-- CHAIN_DSTAT.OFS: offset in ticks under R123; kept by a graft that does not restart the chain (R124). -/
def CHAIN_DSTAT_OFS (i : Nat) : Fld := ⟨CHAIN_DSTAT i, 8, 8⟩
/-- CHAIN_DSTAT.LEFT: outputs still to be tagged U. -/
def CHAIN_DSTAT_LEFT (i : Nat) : Fld := ⟨CHAIN_DSTAT i, 16, 15⟩
/-- Address of CHAIN_DDLY (R132). -/
def CHAIN_DDLY (i : Nat) : Nat := 0x03000C + 0x40 * i
/-- CHAIN_DDLY.DLY: chain delay in ticks, OFS included. -/
def CHAIN_DDLY_DLY (i : Nat) : Fld := ⟨CHAIN_DDLY i, 0, 16⟩
/-- Address of CHAIN_DSAT (R132). -/
def CHAIN_DSAT (i : Nat) : Nat := 0x030010 + 0x40 * i
/-- CHAIN_DSAT.SAT: saturations under R110, saturating. -/
def CHAIN_DSAT_SAT (i : Nat) : Fld := ⟨CHAIN_DSAT i, 0, 32⟩
/-- Address of CHAIN_DCTRL (R132). -/
def CHAIN_DCTRL (i : Nat) : Nat := 0x030014 + 0x40 * i
/-- CHAIN_DCTRL.SRST: SYNC reset of this chain under R121. -/
def CHAIN_DCTRL_SRST (i : Nat) : Fld := ⟨CHAIN_DCTRL i, 0, 1⟩
/-- Address of CHAIN_DEVT (R132). -/
def CHAIN_DEVT (i : Nat) : Nat := 0x030018 + 0x40 * i
/-- CHAIN_DEVT.SETTLED: first settled output delivered. -/
def CHAIN_DEVT_SETTLED (i : Nat) : Fld := ⟨CHAIN_DEVT i, 0, 1⟩
/-- CHAIN_DEVT.SAT: a saturation occurred. -/
def CHAIN_DEVT_SAT (i : Nat) : Fld := ⟨CHAIN_DEVT i, 1, 1⟩
/-- CHAIN_DEVT.SHIFT: a shift write took effect. -/
def CHAIN_DEVT_SHIFT (i : Nat) : Fld := ⟨CHAIN_DEVT i, 2, 1⟩
/-- CHAIN_DEVT.RESTART: restarted by a graft; OFS valid. -/
def CHAIN_DEVT_RESTART (i : Nat) : Fld := ⟨CHAIN_DEVT i, 3, 1⟩
/-- Address of CHAIN_DMASK (R132). -/
def CHAIN_DMASK (i : Nat) : Nat := 0x03001C + 0x40 * i
/-- CHAIN_DMASK.MASK: 1 passes the matching CHAIN_DEVT bit to the interrupt tree. -/
def CHAIN_DMASK_MASK (i : Nat) : Fld := ⟨CHAIN_DMASK i, 0, 4⟩
/-- Address of CHAIN_ICFG (R132). -/
def CHAIN_ICFG (i : Nat) : Nat := 0x030800 + 0x40 * i
/-- CHAIN_ICFG.EN: 1: chain runs. -/
def CHAIN_ICFG_EN (i : Nat) : Fld := ⟨CHAIN_ICFG i, 0, 1⟩
/-- CHAIN_ICFG.SHORT: 1: short HB8. -/
def CHAIN_ICFG_SHORT (i : Nat) : Fld := ⟨CHAIN_ICFG i, 2, 1⟩
/-- CHAIN_ICFG.HRT: 1: input from a high-rate source. -/
def CHAIN_ICFG_HRT (i : Nat) : Fld := ⟨CHAIN_ICFG i, 3, 1⟩
/-- CHAIN_ICFG.SINK: sink code of R115. -/
def CHAIN_ICFG_SINK (i : Nat) : Fld := ⟨CHAIN_ICFG i, 8, 5⟩
/-- Address of CHAIN_ISHIFT (R132). -/
def CHAIN_ISHIFT (i : Nat) : Nat := 0x030804 + 0x40 * i
/-- CHAIN_ISHIFT.SHIFT: bits [3k+2:3k]: SHIFT of stage HB(k+1), k = 0–7; unused stages ignored. -/
def CHAIN_ISHIFT_SHIFT (i : Nat) : Fld := ⟨CHAIN_ISHIFT i, 0, 24⟩
/-- Address of CHAIN_ISTAT (R132). -/
def CHAIN_ISTAT (i : Nat) : Nat := 0x030808 + 0x40 * i
/-- CHAIN_ISTAT.UNSET: outputs tagged U under R127; 0 while the chain is off (R128). -/
def CHAIN_ISTAT_UNSET (i : Nat) : Fld := ⟨CHAIN_ISTAT i, 0, 1⟩
/-- CHAIN_ISTAT.OFS: always 0 under R125. -/
def CHAIN_ISTAT_OFS (i : Nat) : Fld := ⟨CHAIN_ISTAT i, 8, 8⟩
/-- CHAIN_ISTAT.LEFT: outputs still to be tagged U. -/
def CHAIN_ISTAT_LEFT (i : Nat) : Fld := ⟨CHAIN_ISTAT i, 16, 15⟩
/-- Address of CHAIN_IDLY (R132). -/
def CHAIN_IDLY (i : Nat) : Nat := 0x03080C + 0x40 * i
/-- CHAIN_IDLY.DLY: chain delay in ticks. -/
def CHAIN_IDLY_DLY (i : Nat) : Fld := ⟨CHAIN_IDLY i, 0, 16⟩
/-- Address of CHAIN_ISAT (R132). -/
def CHAIN_ISAT (i : Nat) : Nat := 0x030810 + 0x40 * i
/-- CHAIN_ISAT.SAT: saturations under R110, saturating. -/
def CHAIN_ISAT_SAT (i : Nat) : Fld := ⟨CHAIN_ISAT i, 0, 32⟩
/-- Address of CHAIN_ICTRL (R132). -/
def CHAIN_ICTRL (i : Nat) : Nat := 0x030814 + 0x40 * i
/-- CHAIN_ICTRL.SRST: SYNC reset of this chain under R121. -/
def CHAIN_ICTRL_SRST (i : Nat) : Fld := ⟨CHAIN_ICTRL i, 0, 1⟩
/-- Address of CHAIN_IEVT (R132). -/
def CHAIN_IEVT (i : Nat) : Nat := 0x030818 + 0x40 * i
/-- CHAIN_IEVT.SETTLED: first settled output delivered. -/
def CHAIN_IEVT_SETTLED (i : Nat) : Fld := ⟨CHAIN_IEVT i, 0, 1⟩
/-- CHAIN_IEVT.SAT: a saturation occurred. -/
def CHAIN_IEVT_SAT (i : Nat) : Fld := ⟨CHAIN_IEVT i, 1, 1⟩
/-- CHAIN_IEVT.SHIFT: a shift write took effect. -/
def CHAIN_IEVT_SHIFT (i : Nat) : Fld := ⟨CHAIN_IEVT i, 2, 1⟩
/-- CHAIN_IEVT.RESTART: restarted by a graft. -/
def CHAIN_IEVT_RESTART (i : Nat) : Fld := ⟨CHAIN_IEVT i, 3, 1⟩
/-- Address of CHAIN_IMASK (R132). -/
def CHAIN_IMASK (i : Nat) : Nat := 0x03081C + 0x40 * i
/-- CHAIN_IMASK.MASK: 1 passes the matching CHAIN_IEVT bit to the interrupt tree. -/
def CHAIN_IMASK_MASK (i : Nat) : Fld := ⟨CHAIN_IMASK i, 0, 4⟩
/-- Address of CHAIN_GLB_CFG (R132). -/
def CHAIN_GLB_CFG : Nat := 0x030F00
/-- CHAIN_GLB_CFG.FG: 0: Fg = 48 kHz; 1: Fg = 96 kHz. -/
def CHAIN_GLB_CFG_FG : Fld := ⟨CHAIN_GLB_CFG, 0, 1⟩
/-- Address of CHAIN_GLB_SYNC (R132). -/
def CHAIN_GLB_SYNC : Nat := 0x030F04
/-- CHAIN_GLB_SYNC.FRAME: frame index of the last common sync. -/
def CHAIN_GLB_SYNC_FRAME : Fld := ⟨CHAIN_GLB_SYNC, 0, 32⟩
/-- Address of CHAIN_GLB_UNSET (R132). -/
def CHAIN_GLB_UNSET : Nat := 0x030F08
/-- CHAIN_GLB_UNSET.DEC: bit n: decimation chain n has UNSET = 1. -/
def CHAIN_GLB_UNSET_DEC : Fld := ⟨CHAIN_GLB_UNSET, 0, 16⟩
/-- Address of CHAIN_GLB_UNSET2 (R132). -/
def CHAIN_GLB_UNSET2 : Nat := 0x030F0C
/-- CHAIN_GLB_UNSET2.INT: bit m: interpolation chain m has UNSET = 1. -/
def CHAIN_GLB_UNSET2_INT : Fld := ⟨CHAIN_GLB_UNSET2, 0, 20⟩
/-- Address of SRC_CFG (R287). -/
def SRC_CFG (i : Nat) : Nat := 0x038000 + 0x20 * i
/-- SRC_CFG.EN: channel in use. -/
def SRC_CFG_EN (i : Nat) : Fld := ⟨SRC_CFG i, 0, 1⟩
/-- SRC_CFG.DIR: 0 port to graph, 1 graph to port. -/
def SRC_CFG_DIR (i : Nat) : Fld := ⟨SRC_CFG i, 1, 1⟩
/-- SRC_CFG.SAP: port served. -/
def SRC_CFG_SAP (i : Nat) : Fld := ⟨SRC_CFG i, 2, 2⟩
/-- SRC_CFG.SLOT: slot served. -/
def SRC_CFG_SLOT (i : Nat) : Fld := ⟨SRC_CFG i, 4, 4⟩
/-- SRC_CFG.K: tap or output slot index. -/
def SRC_CFG_K (i : Nat) : Fld := ⟨SRC_CFG i, 8, 5⟩
/-- SRC_CFG.STAGES: port-side stages, 0–2 (R276). -/
def SRC_CFG_STAGES (i : Nat) : Fld := ⟨SRC_CFG i, 14, 2⟩
/-- Address of SRC_DLY (R287). -/
def SRC_DLY (i : Nat) : Nat := 0x038004 + 0x20 * i
/-- SRC_DLY.D: delay in ticks (R279). -/
def SRC_DLY_D (i : Nat) : Fld := ⟨SRC_DLY i, 0, 16⟩
/-- Address of SRC_STAT (R287). -/
def SRC_STAT (i : Nat) : Nat := 0x038008 + 0x20 * i
/-- SRC_STAT.LOCK: tracker locked. -/
def SRC_STAT_LOCK (i : Nat) : Fld := ⟨SRC_STAT i, 0, 1⟩
/-- SRC_STAT.MUTE: delivering zero tagged Z. -/
def SRC_STAT_MUTE (i : Nat) : Fld := ⟨SRC_STAT i, 1, 1⟩
/-- SRC_STAT.RAMP: ramp-in running. -/
def SRC_STAT_RAMP (i : Nat) : Fld := ⟨SRC_STAT i, 2, 1⟩
/-- SRC_STAT.FILL: FIFO fill in core input samples. -/
def SRC_STAT_FILL (i : Nat) : Fld := ⟨SRC_STAT i, 4, 8⟩
/-- Address of SRC_XCNT (R287). -/
def SRC_XCNT (i : Nat) : Nat := 0x03800C + 0x20 * i
/-- SRC_XCNT.XRUN: FIFO presets under R282, saturating. -/
def SRC_XCNT_XRUN (i : Nat) : Fld := ⟨SRC_XCNT i, 0, 16⟩
/-- SRC_XCNT.SAT: core saturations, saturating. -/
def SRC_XCNT_SAT (i : Nat) : Fld := ⟨SRC_XCNT i, 16, 16⟩
/-- Address of SRC_TRK_CFG (R287). -/
def SRC_TRK_CFG (i : Nat) : Nat := 0x038400 + 0x20 * i
/-- SRC_TRK_CFG.BW: loop bandwidth (R281). -/
def SRC_TRK_CFG_BW (i : Nat) : Fld := ⟨SRC_TRK_CFG i, 0, 2⟩
/-- Address of SRC_TRK_PER (R287). -/
def SRC_TRK_PER (i : Nat) : Nat := 0x038404 + 0x20 * i
/-- SRC_TRK_PER.PER: measured frame period, ticks in Q16.16. -/
def SRC_TRK_PER_PER (i : Nat) : Fld := ⟨SRC_TRK_PER i, 0, 32⟩
/-- Address of SRC_TRK_STAT (R287). -/
def SRC_TRK_STAT (i : Nat) : Nat := 0x038408 + 0x20 * i
/-- SRC_TRK_STAT.STATE: 0 IDLE, 1 ACQUIRE, 2 LOCKED. -/
def SRC_TRK_STAT_STATE (i : Nat) : Fld := ⟨SRC_TRK_STAT i, 0, 2⟩
/-- SRC_TRK_STAT.RANGE: rate beyond ±2000 ppm. -/
def SRC_TRK_STAT_RANGE (i : Nat) : Fld := ⟨SRC_TRK_STAT i, 2, 1⟩
/-- SRC_TRK_STAT.PPM: deviation from nominal, signed ppm. -/
def SRC_TRK_STAT_PPM (i : Nat) : Fld := ⟨SRC_TRK_STAT i, 16, 16⟩
/-- Address of SRC_GLB_EVT (R287). -/
def SRC_GLB_EVT : Nat := 0x038600
/-- SRC_GLB_EVT.LOCK: bit p: tracker p locked. -/
def SRC_GLB_EVT_LOCK : Fld := ⟨SRC_GLB_EVT, 0, 4⟩
/-- SRC_GLB_EVT.UNLOCK: bit 4 + p: tracker p lost lock. -/
def SRC_GLB_EVT_UNLOCK : Fld := ⟨SRC_GLB_EVT, 4, 4⟩
/-- SRC_GLB_EVT.XRUN: a channel preset its FIFO. -/
def SRC_GLB_EVT_XRUN : Fld := ⟨SRC_GLB_EVT, 8, 1⟩
/-- Address of SRC_GLB_MASK (R287). -/
def SRC_GLB_MASK : Nat := 0x038604
/-- SRC_GLB_MASK.MASK: 1 passes the matching SRC_GLB_EVT bit to the interrupt tree. -/
def SRC_GLB_MASK_MASK : Fld := ⟨SRC_GLB_MASK, 0, 9⟩
/-- Address of SRC_GLB_XRUN (R287). -/
def SRC_GLB_XRUN : Nat := 0x038608
/-- SRC_GLB_XRUN.CH: bit c: channel c preset since the last read. -/
def SRC_GLB_XRUN_CH : Fld := ⟨SRC_GLB_XRUN, 0, 16⟩
/-- Address of GRF_GLB_CFG (R198). -/
def GRF_GLB_CFG : Nat := 0x040000
/-- GRF_GLB_CFG.FG: 0: Fg = 48 kHz; 1: Fg = 96 kHz. -/
def GRF_GLB_CFG_FG : Fld := ⟨GRF_GLB_CFG, 0, 1⟩
/-- Address of GRF_GLB_CTRL (R198). -/
def GRF_GLB_CTRL : Nat := 0x040004
/-- GRF_GLB_CTRL.SELHOLD: 1: ALT writes stored, not acted on (R176). -/
def GRF_GLB_CTRL_SELHOLD : Fld := ⟨GRF_GLB_CTRL, 0, 1⟩
/-- Address of GRF_GLB_STAT (R198). -/
def GRF_GLB_STAT : Nat := 0x040008
/-- GRF_GLB_STAT.NPEND: selects with a stored or waiting switch, 0–196. -/
def GRF_GLB_STAT_NPEND : Fld := ⟨GRF_GLB_STAT, 0, 8⟩
/-- GRF_GLB_STAT.HELD: at least one ALT write stored under SELHOLD. -/
def GRF_GLB_STAT_HELD : Fld := ⟨GRF_GLB_STAT, 8, 1⟩
/-- GRF_GLB_STAT.SWITCH: a select switch runs. -/
def GRF_GLB_STAT_SWITCH : Fld := ⟨GRF_GLB_STAT, 9, 1⟩
/-- Address of GRF_BUDGET (R198). -/
def GRF_BUDGET : Nat := 0x04000C
/-- GRF_BUDGET.BASE: block slot cost (R182). -/
def GRF_BUDGET_BASE : Fld := ⟨GRF_BUDGET, 0, 16⟩
/-- GRF_BUDGET.RES: scarf reserve (R183). -/
def GRF_BUDGET_RES : Fld := ⟨GRF_BUDGET, 16, 16⟩
/-- Address of GRF_LIMIT (R198). -/
def GRF_LIMIT : Nat := 0x040010
/-- GRF_LIMIT.LIMIT: slot limit, 32,768 or 16,384. -/
def GRF_LIMIT_LIMIT : Fld := ⟨GRF_LIMIT, 0, 16⟩
/-- GRF_LIMIT.FREE: LIMIT − BASE − RES. -/
def GRF_LIMIT_FREE : Fld := ⟨GRF_LIMIT, 16, 16⟩
/-- Address of GRF_LANE (R198). -/
def GRF_LANE : Nat := 0x040014
/-- GRF_LANE.FAIL: bit l: MAC lane l declared failed. -/
def GRF_LANE_FAIL : Fld := ⟨GRF_LANE, 0, 8⟩
/-- Address of GRF_EVT (R198). -/
def GRF_EVT : Nat := 0x040018
/-- GRF_EVT.SAT: a block saturated (R187). -/
def GRF_EVT_SAT : Fld := ⟨GRF_EVT, 0, 1⟩
/-- GRF_EVT.SELDONE: a select switch ended. -/
def GRF_EVT_SELDONE : Fld := ⟨GRF_EVT, 1, 1⟩
/-- GRF_EVT.SELOVR: a select request replaced a waiting one. -/
def GRF_EVT_SELOVR : Fld := ⟨GRF_EVT, 2, 1⟩
/-- GRF_EVT.XFREF: scarf request refused (R184). -/
def GRF_EVT_XFREF : Fld := ⟨GRF_EVT, 3, 1⟩
/-- GRF_EVT.LANEFAIL: a MAC lane was declared failed. -/
def GRF_EVT_LANEFAIL : Fld := ⟨GRF_EVT, 4, 1⟩
/-- GRF_EVT.ALTERR: ALT write out of range (R175). -/
def GRF_EVT_ALTERR : Fld := ⟨GRF_EVT, 5, 1⟩
/-- Address of GRF_MASK (R198). -/
def GRF_MASK : Nat := 0x04001C
/-- GRF_MASK.MASK: 1 passes the matching GRF_EVT bit to the interrupt tree. -/
def GRF_MASK_MASK : Fld := ⟨GRF_MASK, 0, 6⟩
/-- Address of GRF_SEL (R198). -/
def GRF_SEL (i : Nat) : Nat := 0x040400 + 0x10 * i
/-- GRF_SEL.ALT: requested alternative. -/
def GRF_SEL_ALT (i : Nat) : Fld := ⟨GRF_SEL i, 0, 2⟩
/-- GRF_SEL.NALT: number of alternatives minus 1. -/
def GRF_SEL_NALT (i : Nat) : Fld := ⟨GRF_SEL i, 4, 2⟩
/-- GRF_SEL.PEND: switch stored or waiting. -/
def GRF_SEL_PEND (i : Nat) : Fld := ⟨GRF_SEL i, 8, 1⟩
/-- GRF_SEL.SW: switch running. -/
def GRF_SEL_SW (i : Nat) : Fld := ⟨GRF_SEL i, 9, 1⟩
/-- GRF_SEL.CUR: source ID in force; during a switch, the new source. -/
def GRF_SEL_CUR (i : Nat) : Fld := ⟨GRF_SEL i, 16, 10⟩
/-- Address of GRF_SEL_ALT01 (R198). -/
def GRF_SEL_ALT01 (i : Nat) : Nat := 0x040404 + 0x10 * i
/-- GRF_SEL_ALT01.ALT0: source ID of alternative 0. -/
def GRF_SEL_ALT01_ALT0 (i : Nat) : Fld := ⟨GRF_SEL_ALT01 i, 0, 10⟩
/-- GRF_SEL_ALT01.ALT1: source ID of alternative 1; 0 if absent. -/
def GRF_SEL_ALT01_ALT1 (i : Nat) : Fld := ⟨GRF_SEL_ALT01 i, 16, 10⟩
/-- Address of GRF_SEL_ALT23 (R198). -/
def GRF_SEL_ALT23 (i : Nat) : Nat := 0x040408 + 0x10 * i
/-- GRF_SEL_ALT23.ALT2: source ID of alternative 2; 0 if absent. -/
def GRF_SEL_ALT23_ALT2 (i : Nat) : Fld := ⟨GRF_SEL_ALT23 i, 0, 10⟩
/-- GRF_SEL_ALT23.ALT3: source ID of alternative 3; 0 if absent. -/
def GRF_SEL_ALT23_ALT3 (i : Nat) : Fld := ⟨GRF_SEL_ALT23 i, 16, 10⟩
/-- Address of GRF_DRET (R198). -/
def GRF_DRET (i : Nat) : Nat := 0x041800 + 0x4 * i
/-- GRF_DRET.EN: return enabled. -/
def GRF_DRET_EN (i : Nat) : Fld := ⟨GRF_DRET i, 0, 1⟩
/-- GRF_DRET.OUT: mirrored matrix output, 0–23. -/
def GRF_DRET_OUT (i : Nat) : Fld := ⟨GRF_DRET i, 8, 5⟩
/-- GRF_DRET.NXP: mirrored crosspoints, 0–16. -/
def GRF_DRET_NXP (i : Nat) : Fld := ⟨GRF_DRET i, 16, 5⟩
/-- Address of GRF_RING_CFG (R198). -/
def GRF_RING_CFG (i : Nat) : Nat := 0x041C00 + 0x20 * i
/-- GRF_RING_CFG.OFS: byte offset in audio SRAM, multiple of 4N. -/
def GRF_RING_CFG_OFS (i : Nat) : Fld := ⟨GRF_RING_CFG i, 0, 22⟩
/-- GRF_RING_CFG.LOG2N: ring length 2^LOG2N words, 4–20. -/
def GRF_RING_CFG_LOG2N (i : Nat) : Fld := ⟨GRF_RING_CFG i, 24, 5⟩
/-- GRF_RING_CFG.EN: ring enabled. -/
def GRF_RING_CFG_EN (i : Nat) : Fld := ⟨GRF_RING_CFG i, 31, 1⟩
/-- Address of GRF_RING_WR (R198). -/
def GRF_RING_WR (i : Nat) : Nat := 0x041C04 + 0x20 * i
/-- GRF_RING_WR.WR: write index (R191, R197). -/
def GRF_RING_WR_WR (i : Nat) : Fld := ⟨GRF_RING_WR i, 0, 32⟩
/-- Address of GRF_RING_RD (R198). -/
def GRF_RING_RD (i : Nat) : Nat := 0x041C08 + 0x20 * i
/-- GRF_RING_RD.RD: read index (R191, R197). -/
def GRF_RING_RD_RD (i : Nat) : Fld := ⟨GRF_RING_RD i, 0, 32⟩
/-- Address of GRF_RING_STAT (R198). -/
def GRF_RING_STAT (i : Nat) : Nat := 0x041C0C + 0x20 * i
/-- GRF_RING_STAT.FILL: WR − RD at the last graph instant. -/
def GRF_RING_STAT_FILL (i : Nat) : Fld := ⟨GRF_RING_STAT i, 0, 21⟩
/-- GRF_RING_STAT.EMPTY: fill is 0. -/
def GRF_RING_STAT_EMPTY (i : Nat) : Fld := ⟨GRF_RING_STAT i, 24, 1⟩
/-- GRF_RING_STAT.FULL: fill is N. -/
def GRF_RING_STAT_FULL (i : Nat) : Fld := ⟨GRF_RING_STAT i, 25, 1⟩
/-- Address of GRF_RING_XCNT (R198). -/
def GRF_RING_XCNT (i : Nat) : Nat := 0x041C10 + 0x20 * i
/-- GRF_RING_XCNT.XRUN: underruns (in) or dropped samples (out), saturating. -/
def GRF_RING_XCNT_XRUN (i : Nat) : Fld := ⟨GRF_RING_XCNT i, 0, 32⟩
/-- Address of GRF_RING_THR (R198). -/
def GRF_RING_THR (i : Nat) : Nat := 0x041C14 + 0x20 * i
/-- GRF_RING_THR.THR: watermark of R196. -/
def GRF_RING_THR_THR (i : Nat) : Fld := ⟨GRF_RING_THR i, 0, 21⟩
/-- Address of GRF_RING_EVT (R198). -/
def GRF_RING_EVT (i : Nat) : Nat := 0x041C18 + 0x20 * i
/-- GRF_RING_EVT.WM: watermark crossed. -/
def GRF_RING_EVT_WM (i : Nat) : Fld := ⟨GRF_RING_EVT i, 0, 1⟩
/-- GRF_RING_EVT.XRUN: underrun or drop. -/
def GRF_RING_EVT_XRUN (i : Nat) : Fld := ⟨GRF_RING_EVT i, 1, 1⟩
/-- GRF_RING_EVT.IDXERR: index write ignored (R195). -/
def GRF_RING_EVT_IDXERR (i : Nat) : Fld := ⟨GRF_RING_EVT i, 2, 1⟩
/-- Address of GRF_RING_MASK (R198). -/
def GRF_RING_MASK (i : Nat) : Nat := 0x041C1C + 0x20 * i
/-- GRF_RING_MASK.MASK: 1 passes the matching GRF_RING_EVT bit to the interrupt tree. -/
def GRF_RING_MASK_MASK (i : Nat) : Fld := ⟨GRF_RING_MASK i, 0, 3⟩
/-- Address of GRF_BLK_CFG (R198). -/
def GRF_BLK_CFG (i : Nat) : Nat := 0x042000 + 0x10 * i
/-- GRF_BLK_CFG.PRESENT: block present. -/
def GRF_BLK_CFG_PRESENT (i : Nat) : Fld := ⟨GRF_BLK_CFG i, 0, 1⟩
/-- GRF_BLK_CFG.XF: crossfadable; reserve held (R183). -/
def GRF_BLK_CFG_XF (i : Nat) : Fld := ⟨GRF_BLK_CFG i, 1, 1⟩
/-- GRF_BLK_CFG.LINK: even bus 2j only: pair (2j, 2j + 1) linked; 0 on odd buses and other blocks (R167). -/
def GRF_BLK_CFG_LINK (i : Nat) : Fld := ⟨GRF_BLK_CFG i, 2, 1⟩
/-- GRF_BLK_CFG.SLOTS: cost under R182, 0–2048. -/
def GRF_BLK_CFG_SLOTS (i : Nat) : Fld := ⟨GRF_BLK_CFG i, 4, 12⟩
/-- Address of GRF_BLK_STAT (R198). -/
def GRF_BLK_STAT (i : Nat) : Nat := 0x042004 + 0x10 * i
/-- GRF_BLK_STAT.SCARF: a scarf of this block runs. -/
def GRF_BLK_STAT_SCARF (i : Nat) : Fld := ⟨GRF_BLK_STAT i, 0, 1⟩
/-- GRF_BLK_STAT.PEND: a scarf of this block waits. -/
def GRF_BLK_STAT_PEND (i : Nat) : Fld := ⟨GRF_BLK_STAT i, 1, 1⟩
/-- Address of GRF_BLK_SAT (R198). -/
def GRF_BLK_SAT (i : Nat) : Nat := 0x042008 + 0x10 * i
/-- GRF_BLK_SAT.SAT: saturations under R187, saturating. -/
def GRF_BLK_SAT_SAT (i : Nat) : Fld := ⟨GRF_BLK_SAT i, 0, 32⟩
/-- Address of GRF_SCARF_CFG (R264). -/
def GRF_SCARF_CFG : Nat := 0x040020
/-- GRF_SCARF_CFG.BLEN: block scarf length code (R239). -/
def GRF_SCARF_CFG_BLEN : Fld := ⟨GRF_SCARF_CFG, 0, 3⟩
/-- GRF_SCARF_CFG.BLAW: block scarf law: 0 equal-gain, 1 equal-power. -/
def GRF_SCARF_CFG_BLAW : Fld := ⟨GRF_SCARF_CFG, 3, 1⟩
/-- GRF_SCARF_CFG.SLEN: select switch length code. -/
def GRF_SCARF_CFG_SLEN : Fld := ⟨GRF_SCARF_CFG, 4, 3⟩
/-- GRF_SCARF_CFG.SLAW: select switch law. -/
def GRF_SCARF_CFG_SLAW : Fld := ⟨GRF_SCARF_CFG, 7, 1⟩
/-- Address of GRF_SCARF_STAT (R264). -/
def GRF_SCARF_STAT : Nat := 0x040024
/-- GRF_SCARF_STAT.RUN: blocks with a scarf running, 0–62. -/
def GRF_SCARF_STAT_RUN : Fld := ⟨GRF_SCARF_STAT, 0, 6⟩
/-- GRF_SCARF_STAT.PEND: blocks with a scarf pending, 0–62. -/
def GRF_SCARF_STAT_PEND : Fld := ⟨GRF_SCARF_STAT, 8, 6⟩
/-- GRF_SCARF_STAT.FREEZE: a graft holds new requests (R254). -/
def GRF_SCARF_STAT_FREEZE : Fld := ⟨GRF_SCARF_STAT, 16, 1⟩
/-- Address of GRF_SCARF_EVT (R264). -/
def GRF_SCARF_EVT : Nat := 0x040028
/-- GRF_SCARF_EVT.BDONE: a block scarf reached its sample N. -/
def GRF_SCARF_EVT_BDONE : Fld := ⟨GRF_SCARF_EVT, 0, 1⟩
/-- GRF_SCARF_EVT.OVR: a request met a pending one (R244). -/
def GRF_SCARF_EVT_OVR : Fld := ⟨GRF_SCARF_EVT, 1, 1⟩
/-- GRF_SCARF_EVT.DROP: a pending request was discarded at C (R255). -/
def GRF_SCARF_EVT_DROP : Fld := ⟨GRF_SCARF_EVT, 2, 1⟩
/-- Address of GRF_SCARF_MASK (R264). -/
def GRF_SCARF_MASK : Nat := 0x04002C
/-- GRF_SCARF_MASK.MASK: 1 passes the matching GRF_SCARF_EVT bit to the interrupt tree. -/
def GRF_SCARF_MASK_MASK : Fld := ⟨GRF_SCARF_MASK, 0, 3⟩
/-- Address of GRF_BLK_PROG (R264). -/
def GRF_BLK_PROG (i : Nat) : Nat := 0x04200C + 0x10 * i
/-- GRF_BLK_PROG.DONE: crossfade samples completed in the running or last scarf or cut stage. -/
def GRF_BLK_PROG_DONE (i : Nat) : Fld := ⟨GRF_BLK_PROG i, 0, 11⟩
/-- GRF_BLK_PROG.KIND: 0 none, 1 APPLY, 2 convolver swap, 3 delay jump, 4 pre-delay, 5 graft scarf, 6 cut out, 7 cut in. -/
def GRF_BLK_PROG_KIND (i : Nat) : Fld := ⟨GRF_BLK_PROG i, 12, 3⟩
/-- GRF_BLK_PROG.LEN: N of that scarf, or 64 for a cut stage. -/
def GRF_BLK_PROG_LEN (i : Nat) : Fld := ⟨GRF_BLK_PROG i, 16, 11⟩
/-- GRF_BLK_PROG.ACTIVE: DONE is counting now. -/
def GRF_BLK_PROG_ACTIVE (i : Nat) : Fld := ⟨GRF_BLK_PROG i, 31, 1⟩
/-- Address of STR_CFG (R238). -/
def STR_CFG (i : Nat) : Nat := 0x044000 + 0x100 * i
/-- STR_CFG.STEREO: stereo pair member (R215). -/
def STR_CFG_STEREO (i : Nat) : Fld := ⟨STR_CFG i, 0, 1⟩
/-- STR_CFG.ADLY: alignment delay in graph samples (R208). -/
def STR_CFG_ADLY (i : Nat) : Fld := ⟨STR_CFG i, 4, 10⟩
/-- Address of STR_TRIM (R238). -/
def STR_TRIM (i : Nat) : Nat := 0x044004 + 0x100 * i
/-- STR_TRIM.GAIN: trim, Q4.20. -/
def STR_TRIM_GAIN (i : Nat) : Fld := ⟨STR_TRIM i, 0, 24⟩
/-- STR_TRIM.POL: 1: polarity inverted; takes effect at the next graph sample. -/
def STR_TRIM_POL (i : Nat) : Fld := ⟨STR_TRIM i, 24, 1⟩
/-- Address of STR_LEVEL (R238). -/
def STR_LEVEL (i : Nat) : Nat := 0x044008 + 0x100 * i
/-- STR_LEVEL.GAIN: level, Q4.20. -/
def STR_LEVEL_GAIN (i : Nat) : Fld := ⟨STR_LEVEL i, 0, 24⟩
/-- Address of STR_PAN (R238). -/
def STR_PAN (i : Nat) : Nat := 0x04400C + 0x100 * i
/-- STR_PAN.PAN: pan or balance, Q1.15. -/
def STR_PAN_PAN (i : Nat) : Fld := ⟨STR_PAN i, 0, 16⟩
/-- STR_PAN.WIDTH: width, Q2.14, 0–2.0. -/
def STR_PAN_WIDTH (i : Nat) : Fld := ⟨STR_PAN i, 16, 16⟩
/-- Address of STR_CTRL (R238). -/
def STR_CTRL (i : Nat) : Nat := 0x044010 + 0x100 * i
/-- STR_CTRL.APPLY: request a scarf (R201). -/
def STR_CTRL_APPLY (i : Nat) : Fld := ⟨STR_CTRL i, 0, 1⟩
/-- STR_CTRL.MUTE: R209. -/
def STR_CTRL_MUTE (i : Nat) : Fld := ⟨STR_CTRL i, 1, 1⟩
/-- Address of STR_STAT (R238). -/
def STR_STAT (i : Nat) : Nat := 0x044014 + 0x100 * i
/-- STR_STAT.GR: dynamics gain change in 0.25 dB, saturating at 255. -/
def STR_STAT_GR (i : Nat) : Fld := ⟨STR_STAT i, 0, 8⟩
/-- STR_STAT.OPEN: gate open. -/
def STR_STAT_OPEN (i : Nat) : Fld := ⟨STR_STAT i, 8, 1⟩
/-- Address of STR_SEND (R238). -/
def STR_SEND (i : Nat) (j : Nat) : Nat := 0x044020 + 0x100 * i + 0x4 * j
/-- STR_SEND.LEVEL: send level, Q4.20. -/
def STR_SEND_LEVEL (i : Nat) (j : Nat) : Fld := ⟨STR_SEND i j, 0, 24⟩
/-- STR_SEND.POST: 1: post tap. -/
def STR_SEND_POST (i : Nat) (j : Nat) : Fld := ⟨STR_SEND i j, 24, 1⟩
/-- STR_SEND.DEST: bus, or the even bus of a pair. -/
def STR_SEND_DEST (i : Nat) (j : Nat) : Fld := ⟨STR_SEND i j, 25, 5⟩
/-- STR_SEND.PAIR: 1: destination is a linked pair. -/
def STR_SEND_PAIR (i : Nat) (j : Nat) : Fld := ⟨STR_SEND i j, 30, 1⟩
/-- STR_SEND.EN: send enabled. -/
def STR_SEND_EN (i : Nat) (j : Nat) : Fld := ⟨STR_SEND i j, 31, 1⟩
/-- Address of STR_DYN_A (R238). -/
def STR_DYN_A (i : Nat) : Nat := 0x044040 + 0x100 * i
/-- STR_DYN_A.MODE: staged: 0 off, 1 gate, 2 compressor. -/
def STR_DYN_A_MODE (i : Nat) : Fld := ⟨STR_DYN_A i, 0, 2⟩
/-- STR_DYN_A.DET: staged: 0 peak, 1 RMS. -/
def STR_DYN_A_DET (i : Nat) : Fld := ⟨STR_DYN_A i, 2, 1⟩
/-- STR_DYN_A.THR: staged: threshold −0.25 × THR dBFS. -/
def STR_DYN_A_THR (i : Nat) : Fld := ⟨STR_DYN_A i, 4, 9⟩
/-- STR_DYN_A.RATIO: staged: R211. -/
def STR_DYN_A_RATIO (i : Nat) : Fld := ⟨STR_DYN_A i, 16, 8⟩
/-- STR_DYN_A.KNEE: staged: knee in 0.25 dB. -/
def STR_DYN_A_KNEE (i : Nat) : Fld := ⟨STR_DYN_A i, 24, 8⟩
/-- Address of BP_DYN_A (R238). -/
def BP_DYN_A (i : Nat) : Nat := 0x046040 + 0x100 * i
/-- BP_DYN_A.MODE: staged: 0 off, 1 gate, 2 compressor. -/
def BP_DYN_A_MODE (i : Nat) : Fld := ⟨BP_DYN_A i, 0, 2⟩
/-- BP_DYN_A.DET: staged: 0 peak, 1 RMS. -/
def BP_DYN_A_DET (i : Nat) : Fld := ⟨BP_DYN_A i, 2, 1⟩
/-- BP_DYN_A.THR: staged: threshold −0.25 × THR dBFS. -/
def BP_DYN_A_THR (i : Nat) : Fld := ⟨BP_DYN_A i, 4, 9⟩
/-- BP_DYN_A.RATIO: staged: R211. -/
def BP_DYN_A_RATIO (i : Nat) : Fld := ⟨BP_DYN_A i, 16, 8⟩
/-- BP_DYN_A.KNEE: staged: knee in 0.25 dB. -/
def BP_DYN_A_KNEE (i : Nat) : Fld := ⟨BP_DYN_A i, 24, 8⟩
/-- Address of STR_DYN_B (R238). -/
def STR_DYN_B (i : Nat) : Nat := 0x044044 + 0x100 * i
/-- STR_DYN_B.ATK: staged: attack in 10 µs. -/
def STR_DYN_B_ATK (i : Nat) : Fld := ⟨STR_DYN_B i, 0, 12⟩
/-- STR_DYN_B.REL: staged: release in 1 ms. -/
def STR_DYN_B_REL (i : Nat) : Fld := ⟨STR_DYN_B i, 16, 12⟩
/-- Address of BP_DYN_B (R238). -/
def BP_DYN_B (i : Nat) : Nat := 0x046044 + 0x100 * i
/-- BP_DYN_B.ATK: staged: attack in 10 µs. -/
def BP_DYN_B_ATK (i : Nat) : Fld := ⟨BP_DYN_B i, 0, 12⟩
/-- BP_DYN_B.REL: staged: release in 1 ms. -/
def BP_DYN_B_REL (i : Nat) : Fld := ⟨BP_DYN_B i, 16, 12⟩
/-- Address of STR_DYN_C (R238). -/
def STR_DYN_C (i : Nat) : Nat := 0x044048 + 0x100 * i
/-- STR_DYN_C.HOLD: staged: gate hold in ms. -/
def STR_DYN_C_HOLD (i : Nat) : Fld := ⟨STR_DYN_C i, 0, 10⟩
/-- STR_DYN_C.RANGE: staged: gate range in dB. -/
def STR_DYN_C_RANGE (i : Nat) : Fld := ⟨STR_DYN_C i, 10, 7⟩
/-- STR_DYN_C.HYST: staged: gate hysteresis in 0.25 dB. -/
def STR_DYN_C_HYST (i : Nat) : Fld := ⟨STR_DYN_C i, 17, 7⟩
/-- STR_DYN_C.MAKEUP: staged: makeup in 0.25 dB. -/
def STR_DYN_C_MAKEUP (i : Nat) : Fld := ⟨STR_DYN_C i, 24, 8⟩
/-- Address of BP_DYN_C (R238). -/
def BP_DYN_C (i : Nat) : Nat := 0x046048 + 0x100 * i
/-- BP_DYN_C.HOLD: staged: gate hold in ms. -/
def BP_DYN_C_HOLD (i : Nat) : Fld := ⟨BP_DYN_C i, 0, 10⟩
/-- BP_DYN_C.RANGE: staged: gate range in dB. -/
def BP_DYN_C_RANGE (i : Nat) : Fld := ⟨BP_DYN_C i, 10, 7⟩
/-- BP_DYN_C.HYST: staged: gate hysteresis in 0.25 dB. -/
def BP_DYN_C_HYST (i : Nat) : Fld := ⟨BP_DYN_C i, 17, 7⟩
/-- BP_DYN_C.MAKEUP: staged: makeup in 0.25 dB. -/
def BP_DYN_C_MAKEUP (i : Nat) : Fld := ⟨BP_DYN_C i, 24, 8⟩
/-- Address of STR_BQEN (R238). -/
def STR_BQEN (i : Nat) : Nat := 0x04404C + 0x100 * i
/-- STR_BQEN.EN: staged: bit k enables biquad k. -/
def STR_BQEN_EN (i : Nat) : Fld := ⟨STR_BQEN i, 0, 8⟩
/-- Address of BP_BQEN (R238). -/
def BP_BQEN (i : Nat) : Nat := 0x04604C + 0x100 * i
/-- BP_BQEN.EN: staged: bit k enables biquad k. -/
def BP_BQEN_EN (i : Nat) : Fld := ⟨BP_BQEN i, 0, 8⟩
/-- Address of STR_BQ (R238). -/
def STR_BQ (i : Nat) (j : Nat) (k : Nat) : Nat := 0x044050 + 0x100 * i + 0x14 * j + 0x4 * k
/-- STR_BQ.COEF: staged: j = 0 B0, 1 B1, 2 B2, 3 A1, 4 A2; Q2.30. -/
def STR_BQ_COEF (i : Nat) (j : Nat) (k : Nat) : Fld := ⟨STR_BQ i j k, 0, 32⟩
/-- Address of BP_BQ (R238). -/
def BP_BQ (i : Nat) (j : Nat) (k : Nat) : Nat := 0x046050 + 0x100 * i + 0x14 * j + 0x4 * k
/-- BP_BQ.COEF: staged: j = 0 B0, 1 B1, 2 B2, 3 A1, 4 A2; Q2.30. -/
def BP_BQ_COEF (i : Nat) (j : Nat) (k : Nat) : Fld := ⟨BP_BQ i j k, 0, 32⟩
/-- Address of BP_CFG (R238). -/
def BP_CFG (i : Nat) : Nat := 0x046000 + 0x100 * i
/-- BP_CFG.LA: look-ahead in graph samples (R219). -/
def BP_CFG_LA (i : Nat) : Fld := ⟨BP_CFG i, 0, 9⟩
/-- Address of BP_INGAIN (R238). -/
def BP_INGAIN (i : Nat) : Nat := 0x046004 + 0x100 * i
/-- BP_INGAIN.GAIN: input gain, Q4.20. -/
def BP_INGAIN_GAIN (i : Nat) : Fld := ⟨BP_INGAIN i, 0, 24⟩
/-- Address of BP_OUTGAIN (R238). -/
def BP_OUTGAIN (i : Nat) : Nat := 0x046008 + 0x100 * i
/-- BP_OUTGAIN.GAIN: output gain, Q4.20. -/
def BP_OUTGAIN_GAIN (i : Nat) : Fld := ⟨BP_OUTGAIN i, 0, 24⟩
/-- Address of BP_LIM (R238). -/
def BP_LIM (i : Nat) : Nat := 0x04600C + 0x100 * i
/-- BP_LIM.CEIL: ceiling −0.25 × CEIL dBFS. -/
def BP_LIM_CEIL (i : Nat) : Fld := ⟨BP_LIM i, 0, 8⟩
/-- BP_LIM.LREL: limiter release in ms, 1–4095; 0 is taken as 1. -/
def BP_LIM_LREL (i : Nat) : Fld := ⟨BP_LIM i, 16, 12⟩
/-- BP_LIM.LEN: limiter enabled. -/
def BP_LIM_LEN (i : Nat) : Fld := ⟨BP_LIM i, 31, 1⟩
/-- Address of BP_CTRL (R238). -/
def BP_CTRL (i : Nat) : Nat := 0x046010 + 0x100 * i
/-- BP_CTRL.APPLY: request a scarf (R201). -/
def BP_CTRL_APPLY (i : Nat) : Fld := ⟨BP_CTRL i, 0, 1⟩
/-- Address of BP_STAT (R238). -/
def BP_STAT (i : Nat) : Nat := 0x046014 + 0x100 * i
/-- BP_STAT.CGR: compressor gain change in 0.25 dB. -/
def BP_STAT_CGR (i : Nat) : Fld := ⟨BP_STAT i, 0, 8⟩
/-- BP_STAT.LGR: limiter gain change in 0.25 dB. -/
def BP_STAT_LGR (i : Nat) : Fld := ⟨BP_STAT i, 8, 8⟩
/-- BP_STAT.LIMACT: limiter gain below 1. -/
def BP_STAT_LIMACT (i : Nat) : Fld := ⟨BP_STAT i, 16, 1⟩
/-- Address of CNV_CFG (R238). -/
def CNV_CFG (i : Nat) : Nat := 0x046800 + 0x40 * i
/-- CNV_CFG.NTAPSM1: NTAPS − 1. -/
def CNV_CFG_NTAPSM1 (i : Nat) : Fld := ⟨CNV_CFG i, 0, 11⟩
/-- Address of CNV_CTRL (R238). -/
def CNV_CTRL (i : Nat) : Nat := 0x046804 + 0x40 * i
/-- CNV_CTRL.SWAP: request a bank swap (R223). -/
def CNV_CTRL_SWAP (i : Nat) : Fld := ⟨CNV_CTRL i, 0, 1⟩
/-- Address of CNV_STAT (R238). -/
def CNV_STAT (i : Nat) : Nat := 0x046808 + 0x40 * i
/-- CNV_STAT.ACTIVE: active bank: 0 A, 1 B. -/
def CNV_STAT_ACTIVE (i : Nat) : Fld := ⟨CNV_STAT i, 0, 1⟩
/-- CNV_STAT.XF: swap running. -/
def CNV_STAT_XF (i : Nat) : Fld := ⟨CNV_STAT i, 1, 1⟩
/-- CNV_STAT.PEND: swap waiting. -/
def CNV_STAT_PEND (i : Nat) : Fld := ⟨CNV_STAT i, 2, 1⟩
/-- Address of CNV_GAIN (R238). -/
def CNV_GAIN (i : Nat) : Nat := 0x04680C + 0x40 * i
/-- CNV_GAIN.GAIN: output gain, Q4.20. -/
def CNV_GAIN_GAIN (i : Nat) : Fld := ⟨CNV_GAIN i, 0, 24⟩
/-- Address of MOD_CFG (R238). -/
def MOD_CFG (i : Nat) : Nat := 0x046A00 + 0x40 * i
/-- MOD_CFG.TYPE: R225. -/
def MOD_CFG_TYPE (i : Nat) : Fld := ⟨MOD_CFG i, 0, 3⟩
/-- MOD_CFG.LINE: line length per channel. -/
def MOD_CFG_LINE (i : Nat) : Fld := ⟨MOD_CFG i, 8, 12⟩
/-- Address of MOD_LFO (R238). -/
def MOD_LFO (i : Nat) : Nat := 0x046A04 + 0x40 * i
/-- MOD_LFO.RATE: LFO rate in mHz. -/
def MOD_LFO_RATE (i : Nat) : Fld := ⟨MOD_LFO i, 0, 16⟩
/-- MOD_LFO.SHAPE: 0 sine, 1 triangle. -/
def MOD_LFO_SHAPE (i : Nat) : Fld := ⟨MOD_LFO i, 16, 1⟩
/-- MOD_LFO.SPREAD: right-channel lead in degrees. -/
def MOD_LFO_SPREAD (i : Nat) : Fld := ⟨MOD_LFO i, 18, 9⟩
/-- Address of MOD_P (R238). -/
def MOD_P (i : Nat) (j : Nat) : Nat := 0x046A08 + 0x40 * i + 0x4 * j
/-- MOD_P.P: R225. -/
def MOD_P_P (i : Nat) (j : Nat) : Fld := ⟨MOD_P i j, 0, 32⟩
/-- Address of MOD_MIX (R238). -/
def MOD_MIX (i : Nat) : Nat := 0x046A14 + 0x40 * i
/-- MOD_MIX.DRY: dry, Q1.15. -/
def MOD_MIX_DRY (i : Nat) : Fld := ⟨MOD_MIX i, 0, 16⟩
/-- MOD_MIX.WET: wet, Q1.15. -/
def MOD_MIX_WET (i : Nat) : Fld := ⟨MOD_MIX i, 16, 16⟩
/-- Address of MOD_CTRL (R238). -/
def MOD_CTRL (i : Nat) : Nat := 0x046A18 + 0x40 * i
/-- MOD_CTRL.LFORST: LFO phase reset. -/
def MOD_CTRL_LFORST (i : Nat) : Fld := ⟨MOD_CTRL i, 0, 1⟩
/-- Address of DLY_LEN (R238). -/
def DLY_LEN (i : Nat) (j : Nat) : Nat := 0x046B00 + 0x40 * i + 0x4 * j
/-- DLY_LEN.LEN: line length in words. -/
def DLY_LEN_LEN (i : Nat) (j : Nat) : Fld := ⟨DLY_LEN i j, 0, 19⟩
/-- Address of DLY_TIME (R238). -/
def DLY_TIME (i : Nat) (j : Nat) : Nat := 0x046B08 + 0x40 * i + 0x4 * j
/-- DLY_TIME.TIME: delay in 1/256 sample (R229). -/
def DLY_TIME_TIME (i : Nat) (j : Nat) : Fld := ⟨DLY_TIME i j, 0, 26⟩
/-- Address of DLY_FB (R238). -/
def DLY_FB (i : Nat) : Nat := 0x046B10 + 0x40 * i
/-- DLY_FB.FB: feedback, Q1.15. -/
def DLY_FB_FB (i : Nat) : Fld := ⟨DLY_FB i, 0, 16⟩
/-- DLY_FB.XFB: cross-feedback, Q1.15. -/
def DLY_FB_XFB (i : Nat) : Fld := ⟨DLY_FB i, 16, 16⟩
/-- Address of DLY_DAMP (R238). -/
def DLY_DAMP (i : Nat) : Nat := 0x046B14 + 0x40 * i
/-- DLY_DAMP.A: damping, Q1.15. -/
def DLY_DAMP_A (i : Nat) : Fld := ⟨DLY_DAMP i, 0, 16⟩
/-- Address of DLY_LEVEL (R238). -/
def DLY_LEVEL (i : Nat) : Nat := 0x046B18 + 0x40 * i
/-- DLY_LEVEL.GAIN: wet level, Q4.20. -/
def DLY_LEVEL_GAIN (i : Nat) : Fld := ⟨DLY_LEVEL i, 0, 24⟩
/-- Address of DLY_CTRL (R238). -/
def DLY_CTRL (i : Nat) : Nat := 0x046B1C + 0x40 * i
/-- DLY_CTRL.MODE: 0 glide, 1 jump. -/
def DLY_CTRL_MODE (i : Nat) : Fld := ⟨DLY_CTRL i, 0, 1⟩
/-- DLY_CTRL.SLEW: glide rate in 1/256 sample per sample; 0 is taken as 1. -/
def DLY_CTRL_SLEW (i : Nat) : Fld := ⟨DLY_CTRL i, 8, 8⟩
/-- Address of RVB_CFG (R238). -/
def RVB_CFG (i : Nat) : Nat := 0x046C00 + 0x100 * i
/-- RVB_CFG.PREMAX: largest pre-delay. -/
def RVB_CFG_PREMAX (i : Nat) : Fld := ⟨RVB_CFG i, 0, 13⟩
/-- Address of RVB_PRE (R238). -/
def RVB_PRE (i : Nat) : Nat := 0x046C04 + 0x100 * i
/-- RVB_PRE.PRE: pre-delay in samples; clamped to 1–PREMAX (R231). -/
def RVB_PRE_PRE (i : Nat) : Fld := ⟨RVB_PRE i, 0, 13⟩
/-- Address of RVB_LEVEL (R238). -/
def RVB_LEVEL (i : Nat) : Nat := 0x046C08 + 0x100 * i
/-- RVB_LEVEL.GAIN: output level, Q4.20. -/
def RVB_LEVEL_GAIN (i : Nat) : Fld := ⟨RVB_LEVEL i, 0, 24⟩
/-- Address of RVB_LEN (R238). -/
def RVB_LEN (i : Nat) (j : Nat) : Nat := 0x046C40 + 0x100 * i + 0x4 * j
/-- RVB_LEN.LEN: line length L_i. -/
def RVB_LEN_LEN (i : Nat) (j : Nat) : Fld := ⟨RVB_LEN i j, 0, 14⟩
/-- Address of RVB_DAMP (R238). -/
def RVB_DAMP (i : Nat) (j : Nat) : Nat := 0x046C80 + 0x100 * i + 0x4 * j
/-- RVB_DAMP.G: loop gain G_i, Q1.15. -/
def RVB_DAMP_G (i : Nat) (j : Nat) : Fld := ⟨RVB_DAMP i j, 0, 16⟩
/-- RVB_DAMP.A: damping A_i, Q1.15. -/
def RVB_DAMP_A (i : Nat) (j : Nat) : Fld := ⟨RVB_DAMP i j, 16, 16⟩
/-- Address of TG_CFG (R238). -/
def TG_CFG (i : Nat) : Nat := 0x046E00 + 0x20 * i
/-- TG_CFG.WAVE: staged: R234. -/
def TG_CFG_WAVE (i : Nat) : Fld := ⟨TG_CFG i, 0, 3⟩
/-- Address of TG_INC (R238). -/
def TG_INC (i : Nat) : Nat := 0x046E04 + 0x20 * i
/-- TG_INC.INC: phase increment (R232). -/
def TG_INC_INC (i : Nat) : Fld := ⟨TG_INC i, 0, 32⟩
/-- Address of TG_LEVEL (R238). -/
def TG_LEVEL (i : Nat) : Nat := 0x046E08 + 0x20 * i
/-- TG_LEVEL.GAIN: level, Q4.20. -/
def TG_LEVEL_GAIN (i : Nat) : Fld := ⟨TG_LEVEL i, 0, 24⟩
/-- Address of TG_PHASE0 (R238). -/
def TG_PHASE0 (i : Nat) : Nat := 0x046E0C + 0x20 * i
/-- TG_PHASE0.PHASE: phase loaded by PRST. -/
def TG_PHASE0_PHASE (i : Nat) : Fld := ⟨TG_PHASE0 i, 0, 32⟩
/-- Address of TG_SEED (R238). -/
def TG_SEED (i : Nat) : Nat := 0x046E10 + 0x20 * i
/-- TG_SEED.SEED: LFSR seed. -/
def TG_SEED_SEED (i : Nat) : Fld := ⟨TG_SEED i, 0, 32⟩
/-- Address of TG_CTRL (R238). -/
def TG_CTRL (i : Nat) : Nat := 0x046E14 + 0x20 * i
/-- TG_CTRL.PRST: phase and seed reset (R236). -/
def TG_CTRL_PRST (i : Nat) : Fld := ⟨TG_CTRL i, 0, 1⟩
/-- TG_CTRL.APPLY: request a scarf (R201). -/
def TG_CTRL_APPLY (i : Nat) : Fld := ⟨TG_CTRL i, 1, 1⟩
/-- Address of EFX_TGSYNC (R238). -/
def EFX_TGSYNC : Nat := 0x046F00
/-- EFX_TGSYNC.SYNC: bit g: reset generator g at the common instant. -/
def EFX_TGSYNC_SYNC : Fld := ⟨EFX_TGSYNC, 0, 8⟩
/-- Address of EFX_EVT (R238). -/
def EFX_EVT : Nat := 0x046F04
/-- EFX_EVT.CNVDONE: bit c: convolver c swap ended. -/
def EFX_EVT_CNVDONE : Fld := ⟨EFX_EVT, 0, 4⟩
/-- EFX_EVT.CWERR: coefficient write ignored (R222). -/
def EFX_EVT_CWERR : Fld := ⟨EFX_EVT, 4, 1⟩
/-- Address of EFX_MASK (R238). -/
def EFX_MASK : Nat := 0x046F08
/-- EFX_MASK.MASK: 1 passes the matching EFX_EVT bit to the interrupt tree. -/
def EFX_MASK_MASK : Fld := ⟨EFX_MASK, 0, 5⟩

end Sys2Proof.Machine.Reg
end

