-- ==== Sys2Proof/Machine/RegC.lean ====
section
/-! DEFINITION. The fields of the registers by name (Direct Path, control sense, Trellis, memory, DMA, serial ports, xSPI): the address of the word that holds the field, its lowest bit and its width, as the
register tables of the manual give them. A register with several instances takes its indices as arguments, in the order of its table entry. -/

namespace Sys2Proof.Machine.Reg

/-- Address of DIR_XP (R162). -/
def DIR_XP (i : Nat) (j : Nat) : Nat := 0x060000 + 0x80 * i + 0x4 * j
/-- DIR_XP.GAIN: target gain, Q2.16 (R139); reads 0 when EN is 0. -/
def DIR_XP_GAIN (i : Nat) (j : Nat) : Fld := ⟨DIR_XP i j, 0, 18⟩
/-- DIR_XP.EN: crosspoint enabled (R136). -/
def DIR_XP_EN (i : Nat) (j : Nat) : Fld := ⟨DIR_XP i j, 24, 1⟩
/-- DIR_XP.PEND: step waits for a crossing. -/
def DIR_XP_PEND (i : Nat) (j : Nat) : Fld := ⟨DIR_XP i j, 25, 1⟩
/-- DIR_XP.RAMP: 64-tick ramp runs. -/
def DIR_XP_RAMP (i : Nat) (j : Nat) : Fld := ⟨DIR_XP i j, 26, 1⟩
/-- Address of DIR_OCFG (R162). -/
def DIR_OCFG (i : Nat) : Nat := 0x061000 + 0x40 * i
/-- DIR_OCFG.NBQ: Direct biquads, 0–2. -/
def DIR_OCFG_NBQ (i : Nat) : Fld := ⟨DIR_OCFG i, 0, 2⟩
/-- DIR_OCFG.LSRC: ladder source (R152). -/
def DIR_OCFG_LSRC (i : Nat) : Fld := ⟨DIR_OCFG i, 2, 2⟩
/-- Address of DIR_OCTRL (R162). -/
def DIR_OCTRL (i : Nat) : Nat := 0x061004 + 0x40 * i
/-- DIR_OCTRL.ZCMODE: 1: gain changes ramp at once (R143). -/
def DIR_OCTRL_ZCMODE (i : Nat) : Fld := ⟨DIR_OCTRL i, 0, 1⟩
/-- Address of DIR_OSTAT (R162). -/
def DIR_OSTAT (i : Nat) : Nat := 0x061008 + 0x40 * i
/-- DIR_OSTAT.BQSET: active coefficient set, 0 or 1. -/
def DIR_OSTAT_BQSET (i : Nat) : Fld := ⟨DIR_OSTAT i, 0, 1⟩
/-- DIR_OSTAT.BQXF: biquad swap running. -/
def DIR_OSTAT_BQXF (i : Nat) : Fld := ⟨DIR_OSTAT i, 1, 1⟩
/-- DIR_OSTAT.BQPEND: biquad swap pending (R151). -/
def DIR_OSTAT_BQPEND (i : Nat) : Fld := ⟨DIR_OSTAT i, 2, 1⟩
/-- DIR_OSTAT.RAMPS: a crosspoint into this output is ramping. -/
def DIR_OSTAT_RAMPS (i : Nat) : Fld := ⟨DIR_OSTAT i, 3, 1⟩
/-- DIR_OSTAT.RSCARF: route scarf of R160 running. -/
def DIR_OSTAT_RSCARF (i : Nat) : Fld := ⟨DIR_OSTAT i, 4, 1⟩
/-- Address of DIR_OSAT (R162). -/
def DIR_OSAT (i : Nat) : Nat := 0x06100C + 0x40 * i
/-- DIR_OSAT.SAT: saturations under R137, R149 and R152, saturating. -/
def DIR_OSAT_SAT (i : Nat) : Fld := ⟨DIR_OSAT i, 0, 32⟩
/-- Address of DIR_BQCTRL (R162). -/
def DIR_BQCTRL (i : Nat) : Nat := 0x061010 + 0x40 * i
/-- DIR_BQCTRL.SWAP: request a biquad swap. -/
def DIR_BQCTRL_SWAP (i : Nat) : Fld := ⟨DIR_BQCTRL i, 0, 1⟩
/-- Address of DIR_BQ (R162). -/
def DIR_BQ (i : Nat) (j : Nat) (k : Nat) : Nat := 0x061014 + 0x40 * i + 0x14 * j + 0x4 * k
/-- DIR_BQ.COEF: staging coefficient of biquad 0, Q2.30. -/
def DIR_BQ_COEF (i : Nat) (j : Nat) (k : Nat) : Fld := ⟨DIR_BQ i j k, 0, 32⟩
/-- Address of DIR_GLB_CTRL (R162). -/
def DIR_GLB_CTRL : Nat := 0x061800
/-- DIR_GLB_CTRL.HOLD: 1: gain writes stored, not acted on (R144). -/
def DIR_GLB_CTRL_HOLD : Fld := ⟨DIR_GLB_CTRL, 0, 1⟩
/-- DIR_GLB_CTRL.ZCTO: crossing timeout in ms, 0–255. -/
def DIR_GLB_CTRL_ZCTO : Fld := ⟨DIR_GLB_CTRL, 8, 8⟩
/-- Address of DIR_GLB_STAT (R162). -/
def DIR_GLB_STAT : Nat := 0x061804
/-- DIR_GLB_STAT.NPEND: crosspoints with a pending step, 0–576. -/
def DIR_GLB_STAT_NPEND : Fld := ⟨DIR_GLB_STAT, 0, 10⟩
/-- DIR_GLB_STAT.HELD: at least one target stored under HOLD. -/
def DIR_GLB_STAT_HELD : Fld := ⟨DIR_GLB_STAT, 16, 1⟩
/-- Address of DIR_XPSEL (R162). -/
def DIR_XPSEL : Nat := 0x061808
/-- DIR_XPSEL.IN: input index for DIR_XPCUR. -/
def DIR_XPSEL_IN : Fld := ⟨DIR_XPSEL, 0, 5⟩
/-- DIR_XPSEL.OUT: output index for DIR_XPCUR. -/
def DIR_XPSEL_OUT : Fld := ⟨DIR_XPSEL, 8, 5⟩
/-- Address of DIR_XPCUR (R162). -/
def DIR_XPCUR : Nat := 0x06180C
/-- DIR_XPCUR.CUR: gain in force of the selected crosspoint. -/
def DIR_XPCUR_CUR : Fld := ⟨DIR_XPCUR, 0, 18⟩
/-- Address of DIR_EVT (R162). -/
def DIR_EVT : Nat := 0x061810
/-- DIR_EVT.GTO: gain ramp started at timeout. -/
def DIR_EVT_GTO : Fld := ⟨DIR_EVT, 0, 1⟩
/-- DIR_EVT.GOVR: pending step replaced or cancelled. -/
def DIR_EVT_GOVR : Fld := ⟨DIR_EVT, 1, 1⟩
/-- DIR_EVT.SAT: an output saturated. -/
def DIR_EVT_SAT : Fld := ⟨DIR_EVT, 2, 1⟩
/-- DIR_EVT.BQDONE: biquad swap ended. -/
def DIR_EVT_BQDONE : Fld := ⟨DIR_EVT, 3, 1⟩
/-- DIR_EVT.BQOVR: swap request met a pending swap. -/
def DIR_EVT_BQOVR : Fld := ⟨DIR_EVT, 4, 1⟩
/-- DIR_EVT.INSF: an input presented S or F (R159). -/
def DIR_EVT_INSF : Fld := ⟨DIR_EVT, 5, 1⟩
/-- Address of DIR_MASK (R162). -/
def DIR_MASK : Nat := 0x061814
/-- DIR_MASK.MASK: 1 passes the matching DIR_EVT bit to the interrupt tree. -/
def DIR_MASK_MASK : Fld := ⟨DIR_MASK, 0, 6⟩
/-- Address of DIR_GLB_INSF (R162). -/
def DIR_GLB_INSF : Nat := 0x061818
/-- DIR_GLB_INSF.IN: bit i: input i presented S or F since the last read. -/
def DIR_GLB_INSF_IN : Fld := ⟨DIR_GLB_INSF, 0, 24⟩
/-- Address of CSC_REF (R358). -/
def CSC_REF : Nat := 0x070000
/-- CSC_REF.EN: host request for the reference buffer (R348). -/
def CSC_REF_EN : Fld := ⟨CSC_REF, 0, 1⟩
/-- CSC_REF.AUTO: buffer held on by jack or speaker use. -/
def CSC_REF_AUTO : Fld := ⟨CSC_REF, 1, 1⟩
/-- CSC_REF.RDY: reference ready. -/
def CSC_REF_RDY : Fld := ⟨CSC_REF, 8, 1⟩
/-- Address of CSC_RSEQ (R358). -/
def CSC_RSEQ : Nat := 0x070004
/-- CSC_RSEQ.NA: entries in sequence A, 0–32 (R335). -/
def CSC_RSEQ_NA : Fld := ⟨CSC_RSEQ, 0, 6⟩
/-- CSC_RSEQ.NB: entries in sequence B. -/
def CSC_RSEQ_NB : Fld := ⟨CSC_RSEQ, 8, 6⟩
/-- CSC_RSEQ.SIMUL: R340. -/
def CSC_RSEQ_SIMUL : Fld := ⟨CSC_RSEQ, 16, 1⟩
/-- Address of CSC_TRG (R358). -/
def CSC_TRG (i : Nat) : Nat := 0x070008 + 0x4 * i
/-- CSC_TRG.SRC: trigger source (R338). -/
def CSC_TRG_SRC (i : Nat) : Fld := ⟨CSC_TRG i, 0, 3⟩
/-- CSC_TRG.TMR: timer for SRC 2. -/
def CSC_TRG_TMR (i : Nat) : Fld := ⟨CSC_TRG i, 4, 2⟩
/-- CSC_TRG.DIV: event divider for SRC 3–5. -/
def CSC_TRG_DIV (i : Nat) : Fld := ⟨CSC_TRG i, 8, 8⟩
/-- CSC_TRG.DLY: delay in core cycles. -/
def CSC_TRG_DLY (i : Nat) : Fld := ⟨CSC_TRG i, 16, 11⟩
/-- Address of CSC_CTRL (R358). -/
def CSC_CTRL : Nat := 0x070014
/-- CSC_CTRL.STARTA: software trigger, sequence A. -/
def CSC_CTRL_STARTA : Fld := ⟨CSC_CTRL, 0, 1⟩
/-- CSC_CTRL.STARTB: software trigger, sequence B. -/
def CSC_CTRL_STARTB : Fld := ⟨CSC_CTRL, 1, 1⟩
/-- CSC_CTRL.STARTI: software trigger, injected. -/
def CSC_CTRL_STARTI : Fld := ⟨CSC_CTRL, 2, 1⟩
/-- Address of CSC_STAT (R358). -/
def CSC_STAT : Nat := 0x070018
/-- CSC_STAT.RUNA: sequence A runs. -/
def CSC_STAT_RUNA : Fld := ⟨CSC_STAT, 0, 1⟩
/-- CSC_STAT.RUNB: sequence B runs. -/
def CSC_STAT_RUNB : Fld := ⟨CSC_STAT, 1, 1⟩
/-- CSC_STAT.RUNI: injected run in progress. -/
def CSC_STAT_RUNI : Fld := ⟨CSC_STAT, 2, 1⟩
/-- CSC_STAT.PRIV: speaker stage owns the privileged conversions. -/
def CSC_STAT_PRIV : Fld := ⟨CSC_STAT, 3, 1⟩
/-- Address of CSC_EVT (R358). -/
def CSC_EVT : Nat := 0x07001C
/-- CSC_EVT.OVRA: trigger of A dropped (R346). -/
def CSC_EVT_OVRA : Fld := ⟨CSC_EVT, 0, 1⟩
/-- CSC_EVT.OVRB: trigger of B dropped. -/
def CSC_EVT_OVRB : Fld := ⟨CSC_EVT, 1, 1⟩
/-- CSC_EVT.OVRI: injected trigger dropped. -/
def CSC_EVT_OVRI : Fld := ⟨CSC_EVT, 2, 1⟩
/-- CSC_EVT.REFNR: conversion excluded for the reference. -/
def CSC_EVT_REFNR : Fld := ⟨CSC_EVT, 3, 1⟩
/-- CSC_EVT.DONEA: run of A ended. -/
def CSC_EVT_DONEA : Fld := ⟨CSC_EVT, 4, 1⟩
/-- CSC_EVT.DONEB: run of B ended. -/
def CSC_EVT_DONEB : Fld := ⟨CSC_EVT, 5, 1⟩
/-- CSC_EVT.DONEI: injected run ended. -/
def CSC_EVT_DONEI : Fld := ⟨CSC_EVT, 6, 1⟩
/-- CSC_EVT.CFGERR: write or trigger refused (R335, R340). -/
def CSC_EVT_CFGERR : Fld := ⟨CSC_EVT, 7, 1⟩
/-- Address of CSC_MASK (R358). -/
def CSC_MASK : Nat := 0x070020
/-- CSC_MASK.MASK: 1 passes the matching CSC_EVT bit to the interrupt tree. -/
def CSC_MASK_MASK : Fld := ⟨CSC_MASK, 0, 8⟩
/-- Address of CSC_OVRCNT (R358). -/
def CSC_OVRCNT : Nat := 0x070024
/-- CSC_OVRCNT.A: dropped triggers of A, saturating. -/
def CSC_OVRCNT_A : Fld := ⟨CSC_OVRCNT, 0, 10⟩
/-- CSC_OVRCNT.B: dropped triggers of B, saturating. -/
def CSC_OVRCNT_B : Fld := ⟨CSC_OVRCNT, 10, 10⟩
/-- CSC_OVRCNT.I: dropped injected triggers, saturating. -/
def CSC_OVRCNT_I : Fld := ⟨CSC_OVRCNT, 20, 10⟩
/-- Address of CSC_SNAP_MASK0 (R358). -/
def CSC_SNAP_MASK0 : Nat := 0x070028
/-- CSC_SNAP_MASK0.MASK: bit a: accumulator a taken by GO. -/
def CSC_SNAP_MASK0_MASK : Fld := ⟨CSC_SNAP_MASK0, 0, 32⟩
/-- Address of CSC_SNAP_CTRL (R358). -/
def CSC_SNAP_CTRL : Nat := 0x07002C
/-- CSC_SNAP_CTRL.MASK1: bit j: accumulator 32 + j taken by GO. -/
def CSC_SNAP_CTRL_MASK1 : Fld := ⟨CSC_SNAP_CTRL, 0, 4⟩
/-- CSC_SNAP_CTRL.CLR: 1: GO also clears (R351). -/
def CSC_SNAP_CTRL_CLR : Fld := ⟨CSC_SNAP_CTRL, 8, 1⟩
/-- CSC_SNAP_CTRL.GO: take the snapshot. -/
def CSC_SNAP_CTRL_GO : Fld := ⟨CSC_SNAP_CTRL, 16, 1⟩
/-- Address of CSC_PRIVCNT (R358). -/
def CSC_PRIVCNT : Nat := 0x070030
/-- CSC_PRIVCNT.A: conversions aborted on unit A, saturating. -/
def CSC_PRIVCNT_A : Fld := ⟨CSC_PRIVCNT, 0, 16⟩
/-- CSC_PRIVCNT.B: conversions aborted on unit B, saturating. -/
def CSC_PRIVCNT_B : Fld := ⟨CSC_PRIVCNT, 16, 16⟩
/-- Address of CSC_TMR (R358). -/
def CSC_TMR (i : Nat) : Nat := 0x070040 + 0x4 * i
/-- CSC_TMR.PER: period − 1 in µs (R339). -/
def CSC_TMR_PER (i : Nat) : Fld := ⟨CSC_TMR i, 0, 16⟩
/-- CSC_TMR.EN: timer runs. -/
def CSC_TMR_EN (i : Nat) : Fld := ⟨CSC_TMR i, 31, 1⟩
/-- Address of CSC_RENT (R358). -/
def CSC_RENT (i : Nat) : Nat := 0x070100 + 0x4 * i
/-- CSC_RENT.CH: channel code (R333). -/
def CSC_RENT_CH (i : Nat) : Fld := ⟨CSC_RENT i, 0, 6⟩
/-- CSC_RENT.DISC: discard count, 0–7. -/
def CSC_RENT_DISC (i : Nat) : Fld := ⟨CSC_RENT i, 8, 3⟩
/-- Address of CSC_IENT (R358). -/
def CSC_IENT (i : Nat) : Nat := 0x070180 + 0x4 * i
/-- CSC_IENT.CH: channel code. -/
def CSC_IENT_CH (i : Nat) : Fld := ⟨CSC_IENT i, 0, 6⟩
/-- CSC_IENT.DISC: discard count. -/
def CSC_IENT_DISC (i : Nat) : Fld := ⟨CSC_IENT i, 8, 3⟩
/-- CSC_IENT.UNIT: 0 unit A, 1 unit B. -/
def CSC_IENT_UNIT (i : Nat) : Fld := ⟨CSC_IENT i, 16, 1⟩
/-- CSC_IENT.EN: entry in the injected run. -/
def CSC_IENT_EN (i : Nat) : Fld := ⟨CSC_IENT i, 31, 1⟩
/-- Address of CSC_ACC_CFG (R358). -/
def CSC_ACC_CFG (i : Nat) : Nat := 0x070200 + 0x10 * i
/-- CSC_ACC_CFG.LIM: count limit 2^LIM (R350). -/
def CSC_ACC_CFG_LIM (i : Nat) : Fld := ⟨CSC_ACC_CFG i, 0, 4⟩
/-- Address of CSC_SNAP_SUM (R358). -/
def CSC_SNAP_SUM (i : Nat) : Nat := 0x070204 + 0x10 * i
/-- CSC_SNAP_SUM.SUM: sum of kept codes. -/
def CSC_SNAP_SUM_SUM (i : Nat) : Fld := ⟨CSC_SNAP_SUM i, 0, 32⟩
/-- Address of CSC_SNAP_CNT (R358). -/
def CSC_SNAP_CNT (i : Nat) : Nat := 0x070208 + 0x10 * i
/-- CSC_SNAP_CNT.COUNT: kept codes, 0–1024. -/
def CSC_SNAP_CNT_COUNT (i : Nat) : Fld := ⟨CSC_SNAP_CNT i, 0, 11⟩
/-- CSC_SNAP_CNT.FULL: limit reached. -/
def CSC_SNAP_CNT_FULL (i : Nat) : Fld := ⟨CSC_SNAP_CNT i, 11, 1⟩
/-- CSC_SNAP_CNT.REFX: a conversion was excluded for the reference. -/
def CSC_SNAP_CNT_REFX (i : Nat) : Fld := ⟨CSC_SNAP_CNT i, 12, 1⟩
/-- CSC_SNAP_CNT.UNS: excluded conversions, saturating. -/
def CSC_SNAP_CNT_UNS (i : Nat) : Fld := ⟨CSC_SNAP_CNT i, 16, 16⟩
/-- Address of CSC_SNAP_MM (R358). -/
def CSC_SNAP_MM (i : Nat) : Nat := 0x07020C + 0x10 * i
/-- CSC_SNAP_MM.MIN: least kept code. -/
def CSC_SNAP_MM_MIN (i : Nat) : Fld := ⟨CSC_SNAP_MM i, 0, 16⟩
/-- CSC_SNAP_MM.MAX: greatest kept code. -/
def CSC_SNAP_MM_MAX (i : Nat) : Fld := ⟨CSC_SNAP_MM i, 16, 16⟩
/-- Address of CSC_WC_CFG (R358). -/
def CSC_WC_CFG (i : Nat) : Nat := 0x070500 + 0x10 * i
/-- CSC_WC_CFG.ACC: accumulator watched, 0–35. -/
def CSC_WC_CFG_ACC (i : Nat) : Fld := ⟨CSC_WC_CFG i, 0, 6⟩
/-- CSC_WC_CFG.AVG: averaging 2^AVG codes. -/
def CSC_WC_CFG_AVG (i : Nat) : Fld := ⟨CSC_WC_CFG i, 8, 3⟩
/-- CSC_WC_CFG.MODE: 0 one-shot, 1 track (R355). -/
def CSC_WC_CFG_MODE (i : Nat) : Fld := ⟨CSC_WC_CFG i, 12, 1⟩
/-- CSC_WC_CFG.EN: comparator enabled; cleared by a one-shot event. -/
def CSC_WC_CFG_EN (i : Nat) : Fld := ⟨CSC_WC_CFG i, 15, 1⟩
/-- CSC_WC_CFG.HALF: half band width for track mode. -/
def CSC_WC_CFG_HALF (i : Nat) : Fld := ⟨CSC_WC_CFG i, 16, 16⟩
/-- Address of CSC_WC_BAND (R358). -/
def CSC_WC_BAND (i : Nat) : Nat := 0x070504 + 0x10 * i
/-- CSC_WC_BAND.LO: lower limit, inclusive. -/
def CSC_WC_BAND_LO (i : Nat) : Fld := ⟨CSC_WC_BAND i, 0, 16⟩
/-- CSC_WC_BAND.HI: upper limit, inclusive. -/
def CSC_WC_BAND_HI (i : Nat) : Fld := ⟨CSC_WC_BAND i, 16, 16⟩
/-- Address of CSC_WC_VAL (R358). -/
def CSC_WC_VAL (i : Nat) : Nat := 0x070508 + 0x10 * i
/-- CSC_WC_VAL.VAL: value that last left the band. -/
def CSC_WC_VAL_VAL (i : Nat) : Fld := ⟨CSC_WC_VAL i, 0, 16⟩
/-- Address of CSC_WC_EVT (R358). -/
def CSC_WC_EVT : Nat := 0x070600
/-- CSC_WC_EVT.OUT: bit c: comparator c value left its band. -/
def CSC_WC_EVT_OUT : Fld := ⟨CSC_WC_EVT, 0, 16⟩
/-- Address of CSC_WC_MASK (R358). -/
def CSC_WC_MASK : Nat := 0x070604
/-- CSC_WC_MASK.MASK: 1 passes the matching CSC_WC_EVT bit to the interrupt tree. -/
def CSC_WC_MASK_MASK : Fld := ⟨CSC_WC_MASK, 0, 16⟩
/-- Address of TRL_PCFG (R405). -/
def TRL_PCFG (i : Nat) : Nat := 0x080000 + 0x100 * i
/-- TRL_PCFG.EN: port enabled. -/
def TRL_PCFG_EN (i : Nat) : Fld := ⟨TRL_PCFG i, 0, 1⟩
/-- TRL_PCFG.TXINV: transmit polarity inverted. -/
def TRL_PCFG_TXINV (i : Nat) : Fld := ⟨TRL_PCFG i, 1, 1⟩
/-- TRL_PCFG.EQ: equaliser (R385). -/
def TRL_PCFG_EQ (i : Nat) : Fld := ⟨TRL_PCFG i, 2, 2⟩
/-- TRL_PCFG.TXAMP: transmit swing code; levels in Electrical Characteristics. -/
def TRL_PCFG_TXAMP (i : Nat) : Fld := ⟨TRL_PCFG i, 4, 2⟩
/-- TRL_PCFG.TXDE: transmit de-emphasis code. -/
def TRL_PCFG_TXDE (i : Nat) : Fld := ⟨TRL_PCFG i, 6, 2⟩
/-- Address of TRL_PCTRL (R405). -/
def TRL_PCTRL (i : Nat) : Nat := 0x080004 + 0x100 * i
/-- TRL_PCTRL.RETRAIN: enter MEASURE (R404). -/
def TRL_PCTRL_RETRAIN (i : Nat) : Fld := ⟨TRL_PCTRL i, 0, 1⟩
/-- Address of TRL_LSTAT (R405). -/
def TRL_LSTAT (i : Nat) : Nat := 0x080008 + 0x100 * i
/-- TRL_LSTAT.STATE: state code of R393. -/
def TRL_LSTAT_STATE (i : Nat) : Fld := ⟨TRL_LSTAT i, 0, 3⟩
/-- TRL_LSTAT.RXINV: receive polarity corrected. -/
def TRL_LSTAT_RXINV (i : Nat) : Fld := ⟨TRL_LSTAT i, 3, 1⟩
/-- TRL_LSTAT.PEERRX: peer's RDI reads 0. -/
def TRL_LSTAT_PEERRX (i : Nat) : Fld := ⟨TRL_LSTAT i, 4, 1⟩
/-- TRL_LSTAT.UPSTRM: port is the clock upstream. -/
def TRL_LSTAT_UPSTRM (i : Nat) : Fld := ⟨TRL_LSTAT i, 5, 1⟩
/-- TRL_LSTAT.A: retiming in ticks, signed. -/
def TRL_LSTAT_A (i : Nat) : Fld := ⟨TRL_LSTAT i, 8, 8⟩
/-- TRL_LSTAT.LIVE: bit L: received LIVE of lane L. -/
def TRL_LSTAT_LIVE (i : Nat) : Fld := ⟨TRL_LSTAT i, 16, 4⟩
/-- Address of TRL_RXDLY (R405). -/
def TRL_RXDLY (i : Nat) : Nat := 0x08000C + 0x100 * i
/-- TRL_RXDLY.HD: Direct hop delay, 1/8 ns. -/
def TRL_RXDLY_HD (i : Nat) : Fld := ⟨TRL_RXDLY i, 0, 16⟩
/-- TRL_RXDLY.HB: bulk hop delay, signed, 1/8 ns. -/
def TRL_RXDLY_HB (i : Nat) : Fld := ⟨TRL_RXDLY i, 16, 16⟩
/-- Address of TRL_RHO (R405). -/
def TRL_RHO (i : Nat) : Nat := 0x080010 + 0x100 * i
/-- TRL_RHO.RHO: ρ, signed, 1/8 ns. -/
def TRL_RHO_RHO (i : Nat) : Fld := ⟨TRL_RHO i, 0, 32⟩
/-- Address of TRL_CABLE (R405). -/
def TRL_CABLE (i : Nat) : Nat := 0x080014 + 0x100 * i
/-- TRL_CABLE.DELTA: δ, 1/8 ns. -/
def TRL_CABLE_DELTA (i : Nat) : Fld := ⟨TRL_CABLE i, 0, 16⟩
/-- Address of TRL_PEERID_LO (R405). -/
def TRL_PEERID_LO (i : Nat) : Nat := 0x080018 + 0x100 * i
/-- TRL_PEERID_LO.ID: peer unique ID, bits [31:0]. -/
def TRL_PEERID_LO_ID (i : Nat) : Fld := ⟨TRL_PEERID_LO i, 0, 32⟩
/-- Address of TRL_PEERID_HI (R405). -/
def TRL_PEERID_HI (i : Nat) : Nat := 0x08001C + 0x100 * i
/-- TRL_PEERID_HI.ID: peer unique ID, bits [63:32]. -/
def TRL_PEERID_HI_ID (i : Nat) : Fld := ⟨TRL_PEERID_HI i, 0, 32⟩
/-- Address of TRL_CNT_CRC (R405). -/
def TRL_CNT_CRC (i : Nat) : Nat := 0x080020 + 0x100 * i
/-- TRL_CNT_CRC.CRC: failed checks, saturating. -/
def TRL_CNT_CRC_CRC (i : Nat) : Fld := ⟨TRL_CNT_CRC i, 0, 32⟩
/-- Address of TRL_CNT_MISS (R405). -/
def TRL_CNT_MISS (i : Nat) : Nat := 0x080024 + 0x100 * i
/-- TRL_CNT_MISS.MISS: missing slots, saturating. -/
def TRL_CNT_MISS_MISS (i : Nat) : Fld := ⟨TRL_CNT_MISS i, 0, 32⟩
/-- Address of TRL_CNT_LINK (R405). -/
def TRL_CNT_LINK (i : Nat) : Nat := 0x080028 + 0x100 * i
/-- TRL_CNT_LINK.FAILS: failures declared, saturating. -/
def TRL_CNT_LINK_FAILS (i : Nat) : Fld := ⟨TRL_CNT_LINK i, 0, 16⟩
/-- TRL_CNT_LINK.TRAINS: entries to UP, saturating. -/
def TRL_CNT_LINK_TRAINS (i : Nat) : Fld := ⟨TRL_CNT_LINK i, 16, 16⟩
/-- Address of TRL_CNT_CV (R405). -/
def TRL_CNT_CV (i : Nat) : Nat := 0x08002C + 0x100 * i
/-- TRL_CNT_CV.CV: code and disparity violations, saturating. -/
def TRL_CNT_CV_CV (i : Nat) : Fld := ⟨TRL_CNT_CV i, 0, 32⟩
/-- Address of TRL_EVT (R405). -/
def TRL_EVT (i : Nat) : Nat := 0x080030 + 0x100 * i
/-- TRL_EVT.UP: link entered UP. -/
def TRL_EVT_UP (i : Nat) : Fld := ⟨TRL_EVT i, 0, 1⟩
/-- TRL_EVT.FAIL: link declared failed. -/
def TRL_EVT_FAIL (i : Nat) : Fld := ⟨TRL_EVT i, 1, 1⟩
/-- TRL_EVT.CRC: a slot failed its check. -/
def TRL_EVT_CRC (i : Nat) : Fld := ⟨TRL_EVT i, 2, 1⟩
/-- TRL_EVT.MISS: a slot was missing. -/
def TRL_EVT_MISS (i : Nat) : Fld := ⟨TRL_EVT i, 3, 1⟩
/-- TRL_EVT.BURST: failure by check burst. -/
def TRL_EVT_BURST (i : Nat) : Fld := ⟨TRL_EVT i, 4, 1⟩
/-- TRL_EVT.RDI: peer reported RDI while this receiver was UP. -/
def TRL_EVT_RDI (i : Nat) : Fld := ⟨TRL_EVT i, 5, 1⟩
/-- TRL_EVT.ALGNERR: |A| beyond 32 (R396). -/
def TRL_EVT_ALGNERR (i : Nat) : Fld := ⟨TRL_EVT i, 6, 1⟩
/-- TRL_EVT.RETIME: A changed (R399). -/
def TRL_EVT_RETIME (i : Nat) : Fld := ⟨TRL_EVT i, 7, 1⟩
/-- Address of TRL_MASK (R405). -/
def TRL_MASK (i : Nat) : Nat := 0x080034 + 0x100 * i
/-- TRL_MASK.MASK: 1 passes the matching TRL_EVT bit to the interrupt tree. -/
def TRL_MASK_MASK (i : Nat) : Fld := ⟨TRL_MASK i, 0, 8⟩
/-- Address of TRL_GLB_STAT (R405). -/
def TRL_GLB_STAT : Nat := 0x080400
/-- TRL_GLB_STAT.GRIDOK: grid aligned (R398). -/
def TRL_GLB_STAT_GRIDOK : Fld := ⟨TRL_GLB_STAT, 0, 1⟩
/-- TRL_GLB_STAT.UPV: an upstream port is chosen. -/
def TRL_GLB_STAT_UPV : Fld := ⟨TRL_GLB_STAT, 1, 1⟩
/-- TRL_GLB_STAT.UPPORT: upstream port when UPV is 1. -/
def TRL_GLB_STAT_UPPORT : Fld := ⟨TRL_GLB_STAT, 2, 2⟩
/-- Address of TRL_GLB_EVT (R405). -/
def TRL_GLB_EVT : Nat := 0x080404
/-- TRL_GLB_EVT.GRID: grid aligned. -/
def TRL_GLB_EVT_GRID : Fld := ⟨TRL_GLB_EVT, 0, 1⟩
/-- Address of TRL_GLB_MASK (R405). -/
def TRL_GLB_MASK : Nat := 0x080408
/-- TRL_GLB_MASK.MASK: 1 passes GRID to the interrupt tree. -/
def TRL_GLB_MASK_MASK : Fld := ⟨TRL_GLB_MASK, 0, 1⟩
/-- Address of TRL_RT_CFG (R436). -/
def TRL_RT_CFG : Nat := 0x081000
/-- TRL_RT_CFG.ROOT: clock root (R406). -/
def TRL_RT_CFG_ROOT : Fld := ⟨TRL_RT_CFG, 0, 1⟩
/-- TRL_RT_CFG.REQ: bit 4 + p: port p must be accepted (R427). -/
def TRL_RT_CFG_REQ : Fld := ⟨TRL_RT_CFG, 4, 4⟩
/-- TRL_RT_CFG.NOTE: address for NOTIFY packets; 0 none. -/
def TRL_RT_CFG_NOTE : Fld := ⟨TRL_RT_CFG, 8, 6⟩
/-- Address of TRL_RT_STAT (R436). -/
def TRL_RT_STAT : Nat := 0x081004
/-- TRL_RT_STAT.ADDR: own address. -/
def TRL_RT_STAT_ADDR : Fld := ⟨TRL_RT_STAT, 0, 6⟩
/-- TRL_RT_STAT.HOP: hop distance. -/
def TRL_RT_STAT_HOP : Fld := ⟨TRL_RT_STAT, 8, 6⟩
/-- TRL_RT_STAT.PARENT: parent port. -/
def TRL_RT_STAT_PARENT : Fld := ⟨TRL_RT_STAT, 16, 2⟩
/-- TRL_RT_STAT.PV: PARENT valid. -/
def TRL_RT_STAT_PV : Fld := ⟨TRL_RT_STAT, 18, 1⟩
/-- TRL_RT_STAT.CENRUN: census state held. -/
def TRL_RT_STAT_CENRUN : Fld := ⟨TRL_RT_STAT, 19, 1⟩
/-- TRL_RT_STAT.EPOCH: epoch in force. -/
def TRL_RT_STAT_EPOCH : Fld := ⟨TRL_RT_STAT, 24, 8⟩
/-- Address of TRL_RT_CTRL (R436). -/
def TRL_RT_CTRL : Nat := 0x081008
/-- TRL_RT_CTRL.START: start a census; root only. -/
def TRL_RT_CTRL_START : Fld := ⟨TRL_RT_CTRL, 0, 1⟩
/-- Address of TRL_RT_ROOT (R436). -/
def TRL_RT_ROOT : Nat := 0x08100C
/-- TRL_RT_ROOT.COUNT: devices found. -/
def TRL_RT_ROOT_COUNT : Fld := ⟨TRL_RT_ROOT, 0, 6⟩
/-- TRL_RT_ROOT.OVF: more than 62 devices (R413). -/
def TRL_RT_ROOT_OVF : Fld := ⟨TRL_RT_ROOT, 8, 1⟩
/-- Address of TRL_RT_EVT (R436). -/
def TRL_RT_EVT : Nat := 0x081010
/-- TRL_RT_EVT.EVT: 0 CENDONE, 1 CENFAIL, 2 ADDRCHG, 3 OVF, 4 TWOROOT, 5 PKTERR, 6 HSFAIL, 7 PSW, 8 EQERR, 9 RADONE, 10 RAERR, 11 NOTIFY, 12 NOROOT (R408). -/
def TRL_RT_EVT_EVT : Fld := ⟨TRL_RT_EVT, 0, 13⟩
/-- Address of TRL_RT_MASK (R436). -/
def TRL_RT_MASK : Nat := 0x081014
/-- TRL_RT_MASK.MASK: 1 passes the matching TRL_RT_EVT bit. -/
def TRL_RT_MASK_MASK : Fld := ⟨TRL_RT_MASK, 0, 13⟩
/-- Address of TRL_RT_CNT (R436). -/
def TRL_RT_CNT : Nat := 0x081018
/-- TRL_RT_CNT.PKTERR: packets discarded (R418), saturating. -/
def TRL_RT_CNT_PKTERR : Fld := ⟨TRL_RT_CNT, 0, 16⟩
/-- TRL_RT_CNT.NOROUTE: NOROUTE answers, saturating. -/
def TRL_RT_CNT_NOROUTE : Fld := ⟨TRL_RT_CNT, 16, 16⟩
/-- Address of TRL_RA_CFG (R436). -/
def TRL_RA_CFG : Nat := 0x081020
/-- TRL_RA_CFG.NWORDS: words per remote fetch − 1. -/
def TRL_RA_CFG_NWORDS : Fld := ⟨TRL_RA_CFG, 0, 6⟩
/-- Address of TRL_RA_STAT (R436). -/
def TRL_RA_STAT : Nat := 0x081024
/-- TRL_RA_STAT.RPEND: fetch running. -/
def TRL_RA_STAT_RPEND : Fld := ⟨TRL_RA_STAT, 0, 1⟩
/-- TRL_RA_STAT.RDONE: fetch in the buffer. -/
def TRL_RA_STAT_RDONE : Fld := ⟨TRL_RA_STAT, 1, 1⟩
/-- TRL_RA_STAT.WPEND: writes unanswered. -/
def TRL_RA_STAT_WPEND : Fld := ⟨TRL_RA_STAT, 2, 1⟩
/-- TRL_RA_STAT.ERR: 0 none, 1 NOROUTE, 2 BADADDR, 3 DENIED, 4 STALE, 5 TIMEOUT, 6 FULL. -/
def TRL_RA_STAT_ERR : Fld := ⟨TRL_RA_STAT, 4, 3⟩
/-- TRL_RA_STAT.QFREE: free queue places. -/
def TRL_RA_STAT_QFREE : Fld := ⟨TRL_RA_STAT, 8, 4⟩
/-- Address of TRL_RA_PROG (R436). -/
def TRL_RA_PROG : Nat := 0x081028
/-- TRL_RA_PROG.SEQTX: last SEQ sent. -/
def TRL_RA_PROG_SEQTX : Fld := ⟨TRL_RA_PROG, 0, 8⟩
/-- TRL_RA_PROG.SEQACK: last SEQ answered. -/
def TRL_RA_PROG_SEQACK : Fld := ⟨TRL_RA_PROG, 8, 8⟩
/-- TRL_RA_PROG.OUT: requests outstanding. -/
def TRL_RA_PROG_OUT : Fld := ⟨TRL_RA_PROG, 16, 4⟩
/-- TRL_RA_PROG.STATE: last request: 0 none, 1 SENT, 2 OK, 3 error, 4 TIMEOUT. -/
def TRL_RA_PROG_STATE : Fld := ⟨TRL_RA_PROG, 20, 3⟩
/-- TRL_RA_PROG.DST: its target. -/
def TRL_RA_PROG_DST : Fld := ⟨TRL_RA_PROG, 24, 6⟩
/-- Address of TRL_RA_NOTE (R436). -/
def TRL_RA_NOTE : Nat := 0x08102C
/-- TRL_RA_NOTE.SUM: last NOTIFY payload. -/
def TRL_RA_NOTE_SUM : Fld := ⟨TRL_RA_NOTE, 0, 16⟩
/-- TRL_RA_NOTE.SRC: its sender. -/
def TRL_RA_NOTE_SRC : Fld := ⟨TRL_RA_NOTE, 16, 6⟩
/-- Address of TRL_RT_PSTAT (R436). -/
def TRL_RT_PSTAT (i : Nat) : Nat := 0x081040 + 0x4 * i
/-- TRL_RT_PSTAT.ROLE: 0 not UP, 1 parent, 2 child, 3 non-tree. -/
def TRL_RT_PSTAT_ROLE (i : Nat) : Fld := ⟨TRL_RT_PSTAT i, 0, 2⟩
/-- TRL_RT_PSTAT.PEER: peer address. -/
def TRL_RT_PSTAT_PEER (i : Nat) : Fld := ⟨TRL_RT_PSTAT i, 8, 6⟩
/-- TRL_RT_PSTAT.HS: 0 none, 1 accepted, 2 refused, 3 deferred. -/
def TRL_RT_PSTAT_HS (i : Nat) : Fld := ⟨TRL_RT_PSTAT i, 16, 2⟩
/-- Address of TRL_RT_DEST (R436). -/
def TRL_RT_DEST (i : Nat) : Nat := 0x081100 + 0x4 * i
/-- TRL_RT_DEST.PORT: port toward address d. -/
def TRL_RT_DEST_PORT (i : Nat) : Fld := ⟨TRL_RT_DEST i, 0, 2⟩
/-- TRL_RT_DEST.VIA: route exists. -/
def TRL_RT_DEST_VIA (i : Nat) : Fld := ⟨TRL_RT_DEST i, 2, 1⟩
/-- TRL_RT_DEST.LOCAL: d is own address. -/
def TRL_RT_DEST_LOCAL (i : Nat) : Fld := ⟨TRL_RT_DEST i, 3, 1⟩
/-- Address of TRL_TOPO (R436). -/
def TRL_TOPO (i : Nat) (j : Nat) : Nat := 0x081400 + 0x10 * i + 0x4 * j
/-- TRL_TOPO.REC: root only: bytes 4w to 4w + 3 of the record of address a. -/
def TRL_TOPO_REC (i : Nat) (j : Nat) : Fld := ⟨TRL_TOPO i j, 0, 32⟩
/-- Address of TRL_LOUT (R436). -/
def TRL_LOUT (i : Nat) : Nat := 0x081800 + 0x4 * i
/-- TRL_LOUT.EN: lane out k reserved. -/
def TRL_LOUT_EN (i : Nat) : Fld := ⟨TRL_LOUT i, 0, 1⟩
/-- TRL_LOUT.W: [4:3] port, [2:1] lane of the working route. -/
def TRL_LOUT_W (i : Nat) : Fld := ⟨TRL_LOUT i, 1, 4⟩
/-- TRL_LOUT.PEN: protect route sent. -/
def TRL_LOUT_PEN (i : Nat) : Fld := ⟨TRL_LOUT i, 5, 1⟩
/-- TRL_LOUT.P: port and lane of the protect route. -/
def TRL_LOUT_P (i : Nat) : Fld := ⟨TRL_LOUT i, 6, 4⟩
/-- Address of TRL_LIN (R436). -/
def TRL_LIN (i : Nat) : Nat := 0x081810 + 0x4 * i
/-- TRL_LIN.ROUTE: lane in k routes. -/
def TRL_LIN_ROUTE (i : Nat) : Fld := ⟨TRL_LIN i, 0, 10⟩
/-- TRL_LIN.HOPS: working hops. -/
def TRL_LIN_HOPS (i : Nat) : Fld := ⟨TRL_LIN i, 10, 4⟩
/-- TRL_LIN.PHOPS: protect hops. -/
def TRL_LIN_PHOPS (i : Nat) : Fld := ⟨TRL_LIN i, 14, 4⟩
/-- TRL_LIN.ACT: 0 working, 1 protect in force. -/
def TRL_LIN_ACT (i : Nat) : Fld := ⟨TRL_LIN i, 18, 1⟩
/-- TRL_LIN.PGOOD: other route good. -/
def TRL_LIN_PGOOD (i : Nat) : Fld := ⟨TRL_LIN i, 19, 1⟩
/-- TRL_LIN.EQ: equaliser ticks (R430). -/
def TRL_LIN_EQ (i : Nat) : Fld := ⟨TRL_LIN i, 20, 8⟩
/-- TRL_LIN.FORCE: R432. -/
def TRL_LIN_FORCE (i : Nat) : Fld := ⟨TRL_LIN i, 28, 1⟩
/-- Address of TRL_XIT (R436). -/
def TRL_XIT (i : Nat) : Nat := 0x081820 + 0x4 * i
/-- TRL_XIT.ROUTE: [0] EN; [4:1] in port and lane; [8:5] out port and lane. -/
def TRL_XIT_ROUTE (i : Nat) : Fld := ⟨TRL_XIT i, 0, 9⟩
/-- TRL_XIT.HOPS: hops on arrival. -/
def TRL_XIT_HOPS (i : Nat) : Fld := ⟨TRL_XIT i, 9, 4⟩
/-- Address of TRL_BOUT (R436). -/
def TRL_BOUT (i : Nat) : Nat := 0x081880 + 0x4 * i
/-- TRL_BOUT.ROUTE: [0] EN; [2:1] port; [9:3] channel; [10] PEN; [12:11] protect port; [19:13] protect channel. -/
def TRL_BOUT_ROUTE (i : Nat) : Fld := ⟨TRL_BOUT i, 0, 20⟩
/-- Address of TRL_BIN (R436). -/
def TRL_BIN (i : Nat) : Nat := 0x081900 + 0x4 * i
/-- TRL_BIN.ROUTE: as TRL_BOUT. -/
def TRL_BIN_ROUTE (i : Nat) : Fld := ⟨TRL_BIN i, 0, 20⟩
/-- TRL_BIN.ACT: protect in force. -/
def TRL_BIN_ACT (i : Nat) : Fld := ⟨TRL_BIN i, 20, 1⟩
/-- TRL_BIN.PGOOD: other route good. -/
def TRL_BIN_PGOOD (i : Nat) : Fld := ⟨TRL_BIN i, 21, 1⟩
/-- Address of TRL_BXIT (R436). -/
def TRL_BXIT (i : Nat) : Nat := 0x081980 + 0x4 * i
/-- TRL_BXIT.ROUTE: [0] EN; [2:1] in port; [9:3] first channel in; [11:10] out port; [18:12] first channel out; [25:19] channels − 1. -/
def TRL_BXIT_ROUTE (i : Nat) : Fld := ⟨TRL_BXIT i, 0, 26⟩
/-- Address of TRL_PROT (R436). -/
def TRL_PROT : Nat := 0x0819C0
/-- TRL_PROT.HOLD: microframes, 64–4096 (R431). -/
def TRL_PROT_HOLD : Fld := ⟨TRL_PROT, 0, 13⟩
/-- TRL_PROT.REV: revert delay in 100 ms; 0 never. -/
def TRL_PROT_REV : Fld := ⟨TRL_PROT, 16, 8⟩
/-- Address of MEM_CFG (R470). -/
def MEM_CFG : Nat := 0x090C00
/-- MEM_CFG.SCRUB: write back corrected words (R441). -/
def MEM_CFG_SCRUB : Fld := ⟨MEM_CFG, 0, 1⟩
/-- Address of MEM_RET (R470). -/
def MEM_RET : Nat := 0x090C04
/-- MEM_RET.BANKS: bit k: bank k kept in REST (R445). -/
def MEM_RET_BANKS : Fld := ⟨MEM_RET, 0, 16⟩
/-- Address of MEM_BANK_STAT (R470). -/
def MEM_BANK_STAT : Nat := 0x090C08
/-- MEM_BANK_STAT.FAILED: bit k: bank k failed (R443). -/
def MEM_BANK_STAT_FAILED : Fld := ⟨MEM_BANK_STAT, 0, 16⟩
/-- Address of MEM_CE_CNT (R470). -/
def MEM_CE_CNT : Nat := 0x090C0C
/-- MEM_CE_CNT.CE: corrected words, saturating. -/
def MEM_CE_CNT_CE : Fld := ⟨MEM_CE_CNT, 0, 32⟩
/-- Address of MEM_UE_CNT (R470). -/
def MEM_UE_CNT : Nat := 0x090C10
/-- MEM_UE_CNT.UE: uncorrectable words, saturating. -/
def MEM_UE_CNT_UE : Fld := ⟨MEM_UE_CNT, 0, 32⟩
/-- Address of MEM_UE_ADDR (R470). -/
def MEM_UE_ADDR : Nat := 0x090C14
/-- MEM_UE_ADDR.ADDR: local address of the last uncorrectable word. -/
def MEM_UE_ADDR_ADDR : Fld := ⟨MEM_UE_ADDR, 0, 24⟩
/-- MEM_UE_ADDR.RDR: reader: 0 graph, 1 DMA, 2 host, 3 self-test, 4 convolver. -/
def MEM_UE_ADDR_RDR : Fld := ⟨MEM_UE_ADDR, 28, 3⟩
/-- Address of MEM_EVT (R470). -/
def MEM_EVT : Nat := 0x090C18
/-- MEM_EVT.CE: word corrected. -/
def MEM_EVT_CE : Fld := ⟨MEM_EVT, 0, 1⟩
/-- MEM_EVT.UE: uncorrectable word. -/
def MEM_EVT_UE : Fld := ⟨MEM_EVT, 1, 1⟩
/-- MEM_EVT.BANKFAIL: bank declared failed. -/
def MEM_EVT_BANKFAIL : Fld := ⟨MEM_EVT, 2, 1⟩
/-- MEM_EVT.COEFUE: uncorrectable coefficient (R447). -/
def MEM_EVT_COEFUE : Fld := ⟨MEM_EVT, 3, 1⟩
/-- MEM_EVT.CFGWR: host write to configuration memory ignored. -/
def MEM_EVT_CFGWR : Fld := ⟨MEM_EVT, 4, 1⟩
/-- Address of MEM_MASK (R470). -/
def MEM_MASK : Nat := 0x090C1C
/-- MEM_MASK.MASK: 1 passes the matching MEM_EVT bit to the interrupt tree. -/
def MEM_MASK_MASK : Fld := ⟨MEM_MASK, 0, 5⟩
/-- Address of MEM_PART (R470). -/
def MEM_PART (i : Nat) : Nat := 0x090C20 + 0x4 * i
/-- MEM_PART.START: start in 4 KiB; n: 0 delay, 1 reverb, 2 modulation, 3 stream rings, 4 pre-roll, 5 DMA buffers. -/
def MEM_PART_START (i : Nat) : Fld := ⟨MEM_PART i, 0, 10⟩
/-- MEM_PART.SIZE: size in 4 KiB, 0–1024. -/
def MEM_PART_SIZE (i : Nat) : Fld := ⟨MEM_PART i, 16, 11⟩
/-- Address of DMA_CH_CFG (R470). -/
def DMA_CH_CFG (i : Nat) : Nat := 0x090000 + 0x40 * i
/-- DMA_CH_CFG.PRIO: priority, 3 highest (R466). -/
def DMA_CH_CFG_PRIO (i : Nat) : Fld := ⟨DMA_CH_CFG i, 0, 2⟩
/-- DMA_CH_CFG.COUNTM1: ring length − 1, 1–255. -/
def DMA_CH_CFG_COUNTM1 (i : Nat) : Fld := ⟨DMA_CH_CFG i, 8, 8⟩
/-- Address of DMA_CH_BASE (R470). -/
def DMA_CH_BASE (i : Nat) : Nat := 0x090004 + 0x40 * i
/-- DMA_CH_BASE.BASE: ring base, local; bits [3:0] read 0 (R459); the ring must lie in audio SRAM; a write sets IDX to 0. -/
def DMA_CH_BASE_BASE (i : Nat) : Fld := ⟨DMA_CH_BASE i, 0, 24⟩
/-- Address of DMA_CH_CTRL (R470). -/
def DMA_CH_CTRL (i : Nat) : Nat := 0x090008 + 0x40 * i
/-- DMA_CH_CTRL.GO: start (R460). -/
def DMA_CH_CTRL_GO (i : Nat) : Fld := ⟨DMA_CH_CTRL i, 0, 1⟩
/-- DMA_CH_CTRL.STOP: stop at the descriptor boundary. -/
def DMA_CH_CTRL_STOP (i : Nat) : Fld := ⟨DMA_CH_CTRL i, 1, 1⟩
/-- DMA_CH_CTRL.ABORT: abort (R467). -/
def DMA_CH_CTRL_ABORT (i : Nat) : Fld := ⟨DMA_CH_CTRL i, 2, 1⟩
/-- DMA_CH_CTRL.SKIP: leave HALT past the descriptor. -/
def DMA_CH_CTRL_SKIP (i : Nat) : Fld := ⟨DMA_CH_CTRL i, 3, 1⟩
/-- DMA_CH_CTRL.RESTART: leave HALT by rerunning it. -/
def DMA_CH_CTRL_RESTART (i : Nat) : Fld := ⟨DMA_CH_CTRL i, 4, 1⟩
/-- Address of DMA_CH_STAT (R470). -/
def DMA_CH_STAT (i : Nat) : Nat := 0x09000C + 0x40 * i
/-- DMA_CH_STAT.STATE: 0 IDLE, 1 FETCH, 2 RUN, 3 READBACK, 4 HALT. -/
def DMA_CH_STAT_STATE (i : Nat) : Fld := ⟨DMA_CH_STAT i, 0, 3⟩
/-- DMA_CH_STAT.GOPEND: R460. -/
def DMA_CH_STAT_GOPEND (i : Nat) : Fld := ⟨DMA_CH_STAT i, 3, 1⟩
/-- DMA_CH_STAT.STOPREQ: stop held. -/
def DMA_CH_STAT_STOPREQ (i : Nat) : Fld := ⟨DMA_CH_STAT i, 4, 1⟩
/-- DMA_CH_STAT.IDX: next or current descriptor. -/
def DMA_CH_STAT_IDX (i : Nat) : Fld := ⟨DMA_CH_STAT i, 8, 8⟩
/-- Address of DMA_CH_PROG0 (R470). -/
def DMA_CH_PROG0 (i : Nat) : Nat := 0x090010 + 0x40 * i
/-- DMA_CH_PROG0.XFER: bytes written (R469). -/
def DMA_CH_PROG0_XFER (i : Nat) : Fld := ⟨DMA_CH_PROG0 i, 0, 24⟩
/-- Address of DMA_CH_PROG1 (R470). -/
def DMA_CH_PROG1 (i : Nat) : Nat := 0x090014 + 0x40 * i
/-- DMA_CH_PROG1.CONF: bytes confirmed. -/
def DMA_CH_PROG1_CONF (i : Nat) : Fld := ⟨DMA_CH_PROG1 i, 0, 24⟩
/-- DMA_CH_PROG1.IDX: descriptor of the record. -/
def DMA_CH_PROG1_IDX (i : Nat) : Fld := ⟨DMA_CH_PROG1 i, 24, 8⟩
/-- Address of DMA_CH_ERRADDR (R470). -/
def DMA_CH_ERRADDR (i : Nat) : Nat := 0x090018 + 0x40 * i
/-- DMA_CH_ERRADDR.ADDR: failing system address. -/
def DMA_CH_ERRADDR_ADDR (i : Nat) : Fld := ⟨DMA_CH_ERRADDR i, 0, 32⟩
/-- Address of DMA_CH_ERRINFO (R470). -/
def DMA_CH_ERRINFO (i : Nat) : Nat := 0x09001C + 0x40 * i
/-- DMA_CH_ERRINFO.DIR: 0 read, 1 write. -/
def DMA_CH_ERRINFO_DIR (i : Nat) : Fld := ⟨DMA_CH_ERRINFO i, 0, 1⟩
/-- DMA_CH_ERRINFO.CAUSE: 0 none, 1 ADDR, 2 RO, 3 ECC, 4 BANK, 5 XSPI, 6 CLOSED, 7 VERIFY, 8 LEN, 9 WRAP, 10 ALIGN, 11 OVSWAP, 12 OVWRAP. -/
def DMA_CH_ERRINFO_CAUSE (i : Nat) : Fld := ⟨DMA_CH_ERRINFO i, 1, 4⟩
/-- Address of DMA_CH_CNT (R470). -/
def DMA_CH_CNT (i : Nat) : Nat := 0x090020 + 0x40 * i
/-- DMA_CH_CNT.DONE: descriptors completed, saturating. -/
def DMA_CH_CNT_DONE (i : Nat) : Fld := ⟨DMA_CH_CNT i, 0, 16⟩
/-- DMA_CH_CNT.ERR: descriptor and bus errors, saturating. -/
def DMA_CH_CNT_ERR (i : Nat) : Fld := ⟨DMA_CH_CNT i, 16, 16⟩
/-- Address of DMA_EVT_DONE (R470). -/
def DMA_EVT_DONE : Nat := 0x090800
/-- DMA_EVT_DONE.DONE: bit c: a descriptor with IRQ completed. -/
def DMA_EVT_DONE_DONE : Fld := ⟨DMA_EVT_DONE, 0, 16⟩
/-- Address of DMA_EVT_ERR (R470). -/
def DMA_EVT_ERR : Nat := 0x090804
/-- DMA_EVT_ERR.ERR: bit c: DESCERR or bus error. -/
def DMA_EVT_ERR_ERR : Fld := ⟨DMA_EVT_ERR, 0, 16⟩
/-- DMA_EVT_ERR.LATE: bit 16 + c: abort lost to completion. -/
def DMA_EVT_ERR_LATE : Fld := ⟨DMA_EVT_ERR, 16, 16⟩
/-- Address of DMA_MASK_DONE (R470). -/
def DMA_MASK_DONE : Nat := 0x090808
/-- DMA_MASK_DONE.MASK: 1 passes the matching DONE bit. -/
def DMA_MASK_DONE_MASK : Fld := ⟨DMA_MASK_DONE, 0, 16⟩
/-- Address of DMA_MASK_ERR (R470). -/
def DMA_MASK_ERR : Nat := 0x09080C
/-- DMA_MASK_ERR.MASK: 1 passes the matching ERR or LATE bit. -/
def DMA_MASK_ERR_MASK : Fld := ⟨DMA_MASK_ERR, 0, 32⟩
/-- Address of DMA_GLB_STAT (R470). -/
def DMA_GLB_STAT : Nat := 0x090810
/-- DMA_GLB_STAT.BUSY: bit c: channel c not IDLE. -/
def DMA_GLB_STAT_BUSY : Fld := ⟨DMA_GLB_STAT, 0, 16⟩
/-- Address of SAP_CFG (R286). -/
def SAP_CFG (i : Nat) : Nat := 0x0A0000 + 0x100 * i
/-- SAP_CFG.FMT: 0 I2S, 1 left-justified, 2 TDM, 3 reserved. -/
def SAP_CFG_FMT (i : Nat) : Fld := ⟨SAP_CFG i, 0, 2⟩
/-- SAP_CFG.ROLE: 0 target, 1 controller. -/
def SAP_CFG_ROLE (i : Nat) : Fld := ⟨SAP_CFG i, 2, 1⟩
/-- SAP_CFG.SYNC: 1: synchronous (R270). -/
def SAP_CFG_SYNC (i : Nat) : Fld := ⟨SAP_CFG i, 3, 1⟩
/-- SAP_CFG.RATE: 0 44.1, 1 48, 2 88.2, 3 96, 4 176.4, 5 192 kHz. -/
def SAP_CFG_RATE (i : Nat) : Fld := ⟨SAP_CFG i, 4, 3⟩
/-- SAP_CFG.SLOTS: slots − 1. -/
def SAP_CFG_SLOTS (i : Nat) : Fld := ⟨SAP_CFG i, 8, 4⟩
/-- SAP_CFG.WIDTH: 0 16, 1 24, 2 32 bits. -/
def SAP_CFG_WIDTH (i : Nat) : Fld := ⟨SAP_CFG i, 12, 2⟩
/-- SAP_CFG.DLY: TDM: 1 BCLK data delay. -/
def SAP_CFG_DLY (i : Nat) : Fld := ⟨SAP_CFG i, 14, 1⟩
/-- SAP_CFG.BPOL: 1: data launched on the rising BCLK edge. -/
def SAP_CFG_BPOL (i : Nat) : Fld := ⟨SAP_CFG i, 15, 1⟩
/-- SAP_CFG.FPOL: 1: FS inverted. -/
def SAP_CFG_FPOL (i : Nat) : Fld := ⟨SAP_CFG i, 16, 1⟩
/-- SAP_CFG.FSW: controller TDM: 0 one BCLK, 1 one slot. -/
def SAP_CFG_FSW (i : Nat) : Fld := ⟨SAP_CFG i, 17, 1⟩
/-- SAP_CFG.TAGIN: R268. -/
def SAP_CFG_TAGIN (i : Nat) : Fld := ⟨SAP_CFG i, 18, 1⟩
/-- SAP_CFG.TAGOUT: R269. -/
def SAP_CFG_TAGOUT (i : Nat) : Fld := ⟨SAP_CFG i, 19, 1⟩
/-- SAP_CFG.EN: port in use. -/
def SAP_CFG_EN (i : Nat) : Fld := ⟨SAP_CFG i, 20, 1⟩
/-- Address of SAP_PHASE (R286). -/
def SAP_PHASE (i : Nat) : Nat := 0x0A0004 + 0x100 * i
/-- SAP_PHASE.FPH: frame phase in ticks (R271). -/
def SAP_PHASE_FPH (i : Nat) : Fld := ⟨SAP_PHASE i, 0, 8⟩
/-- SAP_PHASE.MEAS: last FS edge minus expected, signed ticks. -/
def SAP_PHASE_MEAS (i : Nat) : Fld := ⟨SAP_PHASE i, 16, 8⟩
/-- Address of SAP_STAT (R286). -/
def SAP_STAT (i : Nat) : Nat := 0x0A0008 + 0x100 * i
/-- SAP_STAT.RUN: frames passing. -/
def SAP_STAT_RUN (i : Nat) : Fld := ⟨SAP_STAT i, 0, 1⟩
/-- SAP_STAT.SYNCOK: synchronous port within its window. -/
def SAP_STAT_SYNCOK (i : Nat) : Fld := ⟨SAP_STAT i, 1, 1⟩
/-- Address of SAP_EVT (R286). -/
def SAP_EVT (i : Nat) : Nat := 0x0A000C + 0x100 * i
/-- SAP_EVT.FSERR: frame outside window. -/
def SAP_EVT_FSERR (i : Nat) : Fld := ⟨SAP_EVT i, 0, 1⟩
/-- SAP_EVT.LOST: sync lost. -/
def SAP_EVT_LOST (i : Nat) : Fld := ⟨SAP_EVT i, 1, 1⟩
/-- SAP_EVT.REGAIN: sync regained. -/
def SAP_EVT_REGAIN (i : Nat) : Fld := ⟨SAP_EVT i, 2, 1⟩
/-- SAP_EVT.PART: partial frame discarded. -/
def SAP_EVT_PART (i : Nat) : Fld := ⟨SAP_EVT i, 3, 1⟩
/-- SAP_EVT.SAT: 16-bit output saturated. -/
def SAP_EVT_SAT (i : Nat) : Fld := ⟨SAP_EVT i, 4, 1⟩
/-- Address of SAP_MASK (R286). -/
def SAP_MASK (i : Nat) : Nat := 0x0A0010 + 0x100 * i
/-- SAP_MASK.MASK: 1 passes the matching SAP_EVT bit to the interrupt tree. -/
def SAP_MASK_MASK (i : Nat) : Fld := ⟨SAP_MASK i, 0, 5⟩
/-- Address of SAP_CNT (R286). -/
def SAP_CNT (i : Nat) : Nat := 0x0A0014 + 0x100 * i
/-- SAP_CNT.FSERR: frames outside window, saturating. -/
def SAP_CNT_FSERR (i : Nat) : Fld := ⟨SAP_CNT i, 0, 16⟩
/-- SAP_CNT.PART: partial frames, saturating. -/
def SAP_CNT_PART (i : Nat) : Fld := ⟨SAP_CNT i, 16, 16⟩
/-- Address of SAP_SAT (R286). -/
def SAP_SAT (i : Nat) : Nat := 0x0A0018 + 0x100 * i
/-- SAP_SAT.SAT: output saturations, saturating. -/
def SAP_SAT_SAT (i : Nat) : Fld := ⟨SAP_SAT i, 0, 32⟩
/-- Address of SAP_RXMAP (R286). -/
def SAP_RXMAP (i : Nat) (j : Nat) : Nat := 0x0A0040 + 0x100 * i + 0x4 * j
/-- SAP_RXMAP.CODE: receive map code (R274). -/
def SAP_RXMAP_CODE (i : Nat) (j : Nat) : Fld := ⟨SAP_RXMAP i j, 0, 8⟩
/-- Address of SAP_TXMAP (R286). -/
def SAP_TXMAP (i : Nat) (j : Nat) : Nat := 0x0A0080 + 0x100 * i + 0x4 * j
/-- SAP_TXMAP.CODE: transmit map code (R274). -/
def SAP_TXMAP_CODE (i : Nat) (j : Nat) : Fld := ⟨SAP_TXMAP i j, 0, 8⟩
/-- Address of XSPI_CFG (R470). -/
def XSPI_CFG : Nat := 0x0B0000
/-- XSPI_CFG.MODE: 0 off, 1 1S-1S-1S, 2 8D-8D-8D. -/
def XSPI_CFG_MODE : Fld := ⟨XSPI_CFG, 0, 2⟩
/-- XSPI_CFG.DIV: XCLK divider (R451); in MODE 1 below PLL lock, XCLK is 6.144 MHz. -/
def XSPI_CFG_DIV : Fld := ⟨XSPI_CFG, 2, 2⟩
/-- XSPI_CFG.DUMMY: read dummy cycles. -/
def XSPI_CFG_DUMMY : Fld := ⟨XSPI_CFG, 4, 5⟩
/-- XSPI_CFG.MEMTYPE: 0 flash, 1 PSRAM. -/
def XSPI_CFG_MEMTYPE : Fld := ⟨XSPI_CFG, 9, 1⟩
/-- XSPI_CFG.DQS: 1: capture on XDQS. -/
def XSPI_CFG_DQS : Fld := ⟨XSPI_CFG, 10, 1⟩
/-- XSPI_CFG.PAGE: page 2^PAGE bytes, 8–12. -/
def XSPI_CFG_PAGE : Fld := ⟨XSPI_CFG, 12, 4⟩
/-- XSPI_CFG.MAXB: longest command in 16 bytes; 0 unlimited. -/
def XSPI_CFG_MAXB : Fld := ⟨XSPI_CFG, 16, 10⟩
/-- Address of XSPI_CMD (R470). -/
def XSPI_CMD : Nat := 0x0B0004
/-- XSPI_CMD.RDOPC: read command; 8D uses both bytes. -/
def XSPI_CMD_RDOPC : Fld := ⟨XSPI_CMD, 0, 16⟩
/-- XSPI_CMD.WROPC: program or write command. -/
def XSPI_CMD_WROPC : Fld := ⟨XSPI_CMD, 16, 16⟩
/-- Address of XSPI_CMD2 (R470). -/
def XSPI_CMD2 : Nat := 0x0B0008
/-- XSPI_CMD2.WREN: write enable command. -/
def XSPI_CMD2_WREN : Fld := ⟨XSPI_CMD2, 0, 16⟩
/-- XSPI_CMD2.RDSR: status read command. -/
def XSPI_CMD2_RDSR : Fld := ⟨XSPI_CMD2, 16, 16⟩
/-- Address of XSPI_POLL (R470). -/
def XSPI_POLL : Nat := 0x0B000C
/-- XSPI_POLL.BUSYMASK: status bits meaning busy. -/
def XSPI_POLL_BUSYMASK : Fld := ⟨XSPI_POLL, 0, 8⟩
/-- XSPI_POLL.SDUMMY: status read dummy cycles. -/
def XSPI_POLL_SDUMMY : Fld := ⟨XSPI_POLL, 8, 5⟩
/-- XSPI_POLL.POLLTO: poll timeout in ms (R454). -/
def XSPI_POLL_POLLTO : Fld := ⟨XSPI_POLL, 16, 16⟩
/-- Address of XSPI_ICMD (R470). -/
def XSPI_ICMD : Nat := 0x0B0010
/-- XSPI_ICMD.OPC: indirect command. -/
def XSPI_ICMD_OPC : Fld := ⟨XSPI_ICMD, 0, 16⟩
/-- XSPI_ICMD.ADDRB: address bytes: 0, 3 or 4. -/
def XSPI_ICMD_ADDRB : Fld := ⟨XSPI_ICMD, 16, 3⟩
/-- XSPI_ICMD.DUMMY: dummy cycles. -/
def XSPI_ICMD_DUMMY : Fld := ⟨XSPI_ICMD, 19, 5⟩
/-- XSPI_ICMD.NDATA: data bytes, 0–8. -/
def XSPI_ICMD_NDATA : Fld := ⟨XSPI_ICMD, 24, 4⟩
/-- XSPI_ICMD.DIR: 0 read, 1 write. -/
def XSPI_ICMD_DIR : Fld := ⟨XSPI_ICMD, 28, 1⟩
/-- XSPI_ICMD.POLL: poll busy after the command. -/
def XSPI_ICMD_POLL : Fld := ⟨XSPI_ICMD, 29, 1⟩
/-- XSPI_ICMD.GO: issue (R455). -/
def XSPI_ICMD_GO : Fld := ⟨XSPI_ICMD, 31, 1⟩
/-- Address of XSPI_IADDR (R470). -/
def XSPI_IADDR : Nat := 0x0B0014
/-- XSPI_IADDR.ADDR: indirect address. -/
def XSPI_IADDR_ADDR : Fld := ⟨XSPI_IADDR, 0, 32⟩
/-- Address of XSPI_IDATA (R470). -/
def XSPI_IDATA (i : Nat) : Nat := 0x0B0018 + 0x4 * i
/-- XSPI_IDATA.DATA: data bytes 0–3 and 4–7, first byte in [31:24]. -/
def XSPI_IDATA_DATA (i : Nat) : Fld := ⟨XSPI_IDATA i, 0, 32⟩
/-- Address of XSPI_STAT (R470). -/
def XSPI_STAT : Nat := 0x0B0020
/-- XSPI_STAT.BUSY: an access runs. -/
def XSPI_STAT_BUSY : Fld := ⟨XSPI_STAT, 0, 1⟩
/-- XSPI_STAT.IBUSY: an indirect command runs. -/
def XSPI_STAT_IBUSY : Fld := ⟨XSPI_STAT, 1, 1⟩
/-- XSPI_STAT.IERR: last indirect command timed out. -/
def XSPI_STAT_IERR : Fld := ⟨XSPI_STAT, 2, 1⟩
/-- XSPI_STAT.MODE_NOW: mode in force. -/
def XSPI_STAT_MODE_NOW : Fld := ⟨XSPI_STAT, 3, 2⟩
/-- Address of XSPI_WPROG0 (R470). -/
def XSPI_WPROG0 : Nat := 0x0B0024
/-- XSPI_WPROG0.ADDR: external address of the write or command last started. -/
def XSPI_WPROG0_ADDR : Fld := ⟨XSPI_WPROG0, 0, 29⟩
/-- Address of XSPI_WPROG1 (R470). -/
def XSPI_WPROG1 : Nat := 0x0B0028
/-- XSPI_WPROG1.STATE: 0 idle, 1 WREN sent, 2 data sent, 3 polling, 4 confirmed, 5 timeout. -/
def XSPI_WPROG1_STATE : Fld := ⟨XSPI_WPROG1, 0, 3⟩
/-- XSPI_WPROG1.KIND: 0 page program, 1 indirect command. -/
def XSPI_WPROG1_KIND : Fld := ⟨XSPI_WPROG1, 3, 1⟩
/-- XSPI_WPROG1.PAGES: pages confirmed in the present descriptor, saturating. -/
def XSPI_WPROG1_PAGES : Fld := ⟨XSPI_WPROG1, 16, 16⟩
/-- Address of XSPI_EVT (R470). -/
def XSPI_EVT : Nat := 0x0B002C
/-- XSPI_EVT.IDONE: indirect command ended. -/
def XSPI_EVT_IDONE : Fld := ⟨XSPI_EVT, 0, 1⟩
/-- XSPI_EVT.PTO: poll timeout. -/
def XSPI_EVT_PTO : Fld := ⟨XSPI_EVT, 1, 1⟩
/-- Address of XSPI_MASK (R470). -/
def XSPI_MASK : Nat := 0x0B0030
/-- XSPI_MASK.MASK: 1 passes the matching XSPI_EVT bit to the interrupt tree. -/
def XSPI_MASK_MASK : Fld := ⟨XSPI_MASK, 0, 2⟩

end Sys2Proof.Machine.Reg
end

