-- ==== Sys2Proof/Config.lean ====
section
/-! DEFINITION. What an implementation fixes and what the manual leaves open. Every constant here is opaque: nothing can be proved of its
values beyond its type, so a statement holds whatever they are. -/

namespace Sys2Proof.Config

/-- The k-th free value of a run: a value the manual does not state, used where a measurement or an undefined content enters the state
(assumption log 3). -/
opaque freeNat : Nat → Nat

/-- The length of slow-clock period k in ticks (nominal 1500; R359 to R361 give its tolerance), one less than the value used
(assumption log 4). -/
opaque slowPeriod : Nat → Nat

/-- A coefficient of the fifth-order noise shaper of R291, index 0 for the newest error: the manual does not give them (assumption log 46). -/
opaque shaperCoef (index : Nat) : Rat

/-- What a field stands for where its value lies outside the range the manual states and the manual gives no clamp: the register's address and
the field's value (assumption log 8). -/
opaque outOfRange (addr value : Nat) : Rat

/-- Depth of a resampler channel's FIFO in core input samples, less 4: not stated (assumption log 9). -/
opaque fifoDepth : Nat

/-- Frames by which the working route of protected bulk tap k is the earlier one, negative where the protect route is: neither the offers nor a register
give it (R426, R432, assumption log 93). -/
opaque bulkEq (k : Nat) : Int

/-- A gain of a ratio tracker's second-order loop: the bandwidth code of SRC_TRK_CFG.BW, and whether it is the integral gain. The manual gives the
bandwidths and not the gains (assumption log 91). -/
opaque loopGain (bw : Nat) (integral : Bool) : Rat

/-- A coefficient of a half-band stage at an odd distance of 3 or more from its centre, before the shift: the sets are fixed and cannot be read
(R108). Stages 1 to 8 are HB1 to HB8 sharp, 9 is HB8 short (assumption log 6). -/
opaque hbCoef (stage distance : Nat) : Rat

/-- A coefficient of the resampler's prototype (filter 0), of the Listen decimator (1), of the chain-path decimator (2) and of the onset detector's
band-passes (8 to 13), which the manual fixes by their responses only: filter number, phase, tap (assumption log 6). -/
opaque firCoef (filter : Nat) (phase : Rat) (tap : Nat) : Rat

/-- AES-256-GCM of NIST SP 800-38D (R487): key, IV, additional authenticated data, ciphertext, tag; the plaintext where the tag is right
(assumption log 10). -/
opaque gcm (key iv aad text tag : List Byte) : Option (List Byte)

/-- SHA-256 of FIPS 180-4 (R488) (assumption log 10). -/
opaque sha256 (bytes : List Byte) : List Byte

/-- Whether an ECDSA signature over P-256 with SHA-256 verifies (R488): message, public key X and Y, signature r and s (assumption log 10). -/
opaque ecdsa (message key signature : List Byte) : Bool

end Sys2Proof.Config
end

