-- ==== Sys2Proof/Machine/RegMapA.lean ====
section
/-! DEFINITION. The register tables of the manual (system, power, clocks, image, security, self-test, cells, ports), one entry for each register kind: name, address of its first instance, the (count, stride)
of each index, and its fields as bits, access code of R8, reset value, retention class of R11 and whether the reset column reads "image"
or names an OTP value. Where it reads "image" the entry holds the value of R479 (a record that writes nothing). -/

namespace Sys2Proof.Machine

/-- A part of `sysRegs`. -/
def sysRegs1 : List RegDef := [
  ⟨"SYS_PART", 0x000000, [],
    [⟨"PART", 0, 32, .ro, 0x6480, .a, false⟩]⟩,
  ⟨"SYS_STEP", 0x000004, [],
    [⟨"STEP", 0, 32, .ro, 0xA1, .a, false⟩]⟩,
  ⟨"SYS_UID_LO", 0x000008, [],
    [⟨"UID", 0, 32, .ro, 0, .a, false⟩]⟩,
  ⟨"SYS_UID_HI", 0x00000C, [],
    [⟨"UID", 0, 32, .ro, 0, .a, false⟩]⟩,
  ⟨"SYS_IRQ_SUMMARY", 0x000010, [],
    [⟨"SUM", 0, 16, .ro, 0, .v, false⟩]⟩,
  ⟨"SYS_CTRL", 0x000014, [],
    [⟨"RSTKEY", 0, 16, .wo, 0, .v, false⟩,
     ⟨"FAULTOUT", 16, 1, .rw, 0, .v, false⟩]⟩,
  ⟨"SYS_EVT", 0x000018, [],
    [⟨"OPC", 0, 1, .w1c, 0, .h, false⟩,
     ⟨"RSV", 1, 1, .w1c, 0, .h, false⟩,
     ⟨"LATE", 2, 1, .w1c, 0, .h, false⟩,
     ⟨"NOCORE", 3, 1, .w1c, 0, .h, false⟩,
     ⟨"WDWARN", 4, 1, .w1c, 0, .h, false⟩,
     ⟨"WDBAD", 5, 1, .w1c, 0, .h, false⟩]⟩,
  ⟨"SYS_MASK", 0x00001C, [],
    [⟨"MASK", 0, 6, .rw, 0x30, .h, false⟩]⟩,
  ⟨"SYS_WDOG_CFG", 0x000020, [],
    [⟨"PERIOD", 0, 12, .rw, 0, .h, false⟩,
     ⟨"EN", 31, 1, .rw, 0, .h, false⟩]⟩,
  ⟨"SYS_WDOG_KICK", 0x000024, [],
    [⟨"KEY", 0, 16, .wo, 0, .v, false⟩]⟩]

/-- A part of `sysRegs`. -/
def sysRegs2 : List RegDef := [
  ⟨"SYS_WDOG_STAT", 0x000028, [],
    [⟨"LEFT", 0, 12, .ro, 0, .v, false⟩,
     ⟨"EXP", 16, 1, .ro, 0, .h, false⟩]⟩,
  ⟨"SYS_AON", 0x00002C, [],
    [⟨"WAKEPOL", 0, 1, .rw, 0, .a, false⟩]⟩,
  ⟨"SYS_SCRATCH", 0x000030, [],
    [⟨"DATA", 0, 32, .rw, 0, .a, false⟩]⟩]

/-- Registers of 0x000000 to 0x0007FF (R523). -/
def sysRegs : List RegDef :=
  sysRegs1 ++ sysRegs2

/-- Registers of 0x000800 to 0x000FFF (R568). -/
def fltRegs : List RegDef := [
  ⟨"FLT_STAT", 0x000A00, [],
    [⟨"COUNT", 0, 5, .ro, 0, .a, false⟩,
     ⟨"NEWEST", 8, 4, .ro, 0, .a, false⟩,
     ⟨"LOST", 16, 16, .ro, 0, .a, false⟩]⟩,
  ⟨"FLT_CTRL", 0x000A04, [],
    [⟨"CLR", 0, 1, .w1p, 0, .v, false⟩,
     ⟨"ACK", 1, 1, .w1p, 0, .v, false⟩]⟩,
  ⟨"FLT_EVT", 0x000A08, [],
    [⟨"NEW", 0, 1, .w1c, 0, .a, false⟩,
     ⟨"LOST", 1, 1, .w1c, 0, .a, false⟩]⟩,
  ⟨"FLT_MASK", 0x000A0C, [],
    [⟨"MASK", 0, 2, .rw, 3, .a, false⟩]⟩]

/-- A part of `pwrRegs`. -/
def pwrRegs1 : List RegDef := [
  ⟨"PWR_MODE", 0x001000, [],
    [⟨"MODE", 0, 4, .ro, 4, .v, false⟩,
     ⟨"BASE", 4, 4, .ro, 4, .v, false⟩,
     ⟨"FLAGS", 8, 4, .ro, 0, .v, false⟩,
     ⟨"TRANS", 12, 1, .ro, 0, .v, false⟩,
     ⟨"TARGET", 16, 4, .ro, 0, .v, false⟩]⟩,
  ⟨"PWR_CTRL", 0x001004, [],
    [⟨"REQ", 0, 4, .rw, 0, .v, false⟩,
     ⟨"GO", 8, 1, .w1p, 0, .v, false⟩,
     ⟨"TSLATCH", 9, 1, .w1p, 0, .v, false⟩,
     ⟨"RINGSTOP", 10, 1, .w1p, 0, .v, false⟩]⟩,
  ⟨"PWR_CFG", 0x001008, [],
    [⟨"AUTOPLAY", 0, 1, .ro, 0, .s, true⟩,
     ⟨"WTGT", 1, 1, .ro, 0, .s, true⟩,
     ⟨"XTKEEP", 2, 1, .ro, 0, .s, true⟩]⟩,
  ⟨"PWR_WAKE_EN", 0x00100C, [],
    [⟨"EN", 0, 6, .rw, 1, .a, false⟩]⟩,
  ⟨"PWR_WAKE", 0x001010, [],
    [⟨"CAUSE", 0, 6, .w1c, 0, .a, false⟩]⟩,
  ⟨"PWR_WAKE_MASK", 0x001014, [],
    [⟨"MASK", 0, 6, .rw, 0x3F, .a, false⟩]⟩,
  ⟨"PWR_EVT", 0x001018, [],
    [⟨"MODE", 0, 1, .w1c, 0, .h, false⟩,
     ⟨"REQERR", 1, 1, .w1c, 0, .h, false⟩,
     ⟨"REQBUSY", 2, 1, .w1c, 0, .h, false⟩,
     ⟨"ENTRYX", 3, 1, .w1c, 0, .h, false⟩,
     ⟨"RAIL", 4, 1, .w1c, 0, .h, false⟩,
     ⟨"OTEMP", 5, 1, .w1c, 0, .h, false⟩,
     ⟨"HANDOFF", 6, 1, .w1c, 0, .h, false⟩,
     ⟨"LSNEND", 7, 1, .w1c, 0, .h, false⟩,
     ⟨"TIMER", 8, 1, .w1c, 0, .h, false⟩]⟩,
  ⟨"PWR_MASK", 0x00101C, [],
    [⟨"MASK", 0, 9, .rw, 0x7A, .h, false⟩]⟩,
  ⟨"PWR_RST", 0x001020, [],
    [⟨"KIND", 0, 2, .ro, 0, .a, false⟩,
     ⟨"SRC", 4, 3, .ro, 0, .a, false⟩,
     ⟨"RAILS", 8, 8, .ro, 0, .a, false⟩,
     ⟨"PINCNT", 16, 16, .ro, 0, .a, false⟩]⟩,
  ⟨"PWR_RAIL", 0x001024, [],
    [⟨"OK", 0, 8, .ro, 0, .v, false⟩]⟩]

/-- A part of `pwrRegs`. -/
def pwrRegs2 : List RegDef := [
  ⟨"PWR_SAFE", 0x001028, [],
    [⟨"RAIL", 0, 1, .w1c, 0, .h, false⟩,
     ⟨"OTEMP", 1, 1, .w1c, 0, .h, false⟩,
     ⟨"WDOG", 2, 1, .w1c, 0, .h, false⟩,
     ⟨"RAILNOW", 8, 1, .ro, 0, .v, false⟩,
     ⟨"OTEMPNOW", 9, 1, .ro, 0, .v, false⟩]⟩,
  ⟨"PWR_FRAME", 0x00102C, [],
    [⟨"FRAME", 0, 32, .ro, 0, .h, false⟩]⟩,
  ⟨"PWR_AONT_LO", 0x001030, [],
    [⟨"T", 0, 32, .ro, 0, .a, false⟩]⟩,
  ⟨"PWR_AONT_HI", 0x001034, [],
    [⟨"T", 0, 16, .ro, 0, .a, false⟩]⟩,
  ⟨"PWR_AONT_CMP_LO", 0x001038, [],
    [⟨"CMP", 0, 32, .rw, 0xFFFFFFFF, .a, false⟩]⟩,
  ⟨"PWR_AONT_CMP_HI", 0x00103C, [],
    [⟨"CMP", 0, 16, .rw, 0xFFFF, .a, false⟩]⟩,
  ⟨"PWR_TSF", 0x001040, [],
    [⟨"FRAME", 0, 32, .ro, 0, .h, false⟩]⟩,
  ⟨"PWR_TSA_LO", 0x001044, [],
    [⟨"T", 0, 32, .ro, 0, .h, false⟩]⟩,
  ⟨"PWR_TSA_HI", 0x001048, [],
    [⟨"T", 0, 16, .ro, 0, .h, false⟩]⟩,
  ⟨"PWR_LSN_CFG", 0x001050, [],
    [⟨"PORT", 0, 4, .ro, 0, .s, true⟩,
     ⟨"ETHR", 8, 7, .rw, 0, .s, true⟩,
     ⟨"FTHR", 16, 8, .rw, 0, .s, true⟩]⟩]

/-- A part of `pwrRegs`. -/
def pwrRegs3 : List RegDef := [
  ⟨"PWR_LSN_RING", 0x001054, [],
    [⟨"LEN", 0, 16, .ro, 0, .s, true⟩,
     ⟨"TAIL", 16, 16, .ro, 0, .s, true⟩]⟩,
  ⟨"PWR_LSN_STAT", 0x001058, [],
    [⟨"STATE", 0, 3, .ro, 0, .h, false⟩,
     ⟨"CELL", 8, 7, .ro, 0x7F, .h, false⟩]⟩]

/-- Registers of 0x001000 to 0x001FFF (R547). -/
def pwrRegs : List RegDef :=
  pwrRegs1 ++ pwrRegs2 ++ pwrRegs3

/-- Registers of 0x002000 to 0x002FFF (R523). -/
def irqRegs : List RegDef := [
  ⟨"IRQ_SUM_MASK", 0x002000, [],
    [⟨"MASK", 0, 16, .rw, 0xFFFF, .h, false⟩]⟩,
  ⟨"IRQ_STAT", 0x002004, [],
    [⟨"PEND", 0, 16, .ro, 0, .v, false⟩,
     ⟨"IRQN", 16, 1, .ro, 0, .v, false⟩,
     ⟨"RELEASE", 17, 1, .ro, 0, .v, false⟩]⟩,
  ⟨"IRQ_CTRL", 0x002008, [],
    [⟨"REARM", 0, 1, .w1p, 0, .v, false⟩]⟩,
  ⟨"IRQ_CNT", 0x00200C, [],
    [⟨"ASSERTS", 0, 16, .ro, 0, .s, false⟩]⟩,
  ⟨"IRQ_GCAUSE_LO", 0x002040, [(16, 0x8)],
    [⟨"CAUSE", 0, 32, .ro, 0, .v, false⟩]⟩,
  ⟨"IRQ_GCAUSE_HI", 0x002044, [(16, 0x8)],
    [⟨"CAUSE", 0, 32, .ro, 0, .v, false⟩]⟩]

/-- A part of `clkRegs`. -/
def clkRegs1 : List RegDef := [
  ⟨"CLK_CFG", 0x003000, [],
    [⟨"PREF", 0, 2, .ro, 0, .s, true⟩,
     ⟨"MRATE", 4, 2, .ro, 0, .s, true⟩,
     ⟨"XTAL", 6, 1, .ro, 0, .s, true⟩,
     ⟨"POLICY", 7, 1, .ro, 0, .s, true⟩,
     ⟨"AUTOREV", 8, 1, .ro, 0, .s, true⟩,
     ⟨"MCLKO", 9, 2, .ro, 0, .s, true⟩,
     ⟨"COASTLIM", 16, 13, .ro, 0, .s, true⟩]⟩,
  ⟨"CLK_CTRL", 0x003004, [],
    [⟨"REFSEL", 0, 1, .rw, 0, .s, false⟩,
     ⟨"MCLKOEN", 1, 1, .rw, 0, .s, true⟩,
     ⟨"COMMIT", 8, 1, .w1p, 0, .v, false⟩]⟩,
  ⟨"CLK_STAT", 0x003008, [],
    [⟨"STATE", 0, 3, .ro, 0, .v, false⟩,
     ⟨"REF", 4, 2, .ro, 0, .v, false⟩,
     ⟨"PORT", 6, 2, .ro, 0, .v, false⟩,
     ⟨"PRIOK", 8, 1, .ro, 0, .v, false⟩,
     ⟨"XTOK", 9, 1, .ro, 0, .v, false⟩,
     ⟨"LONG", 10, 1, .ro, 0, .v, false⟩,
     ⟨"CPEND", 11, 1, .ro, 0, .v, false⟩,
     ⟨"LLOCK", 12, 1, .ro, 0, .v, false⟩,
     ⟨"RING", 13, 1, .ro, 0, .v, false⟩]⟩,
  ⟨"CLK_EVT", 0x00300C, [],
    [⟨"LOSS", 0, 1, .w1c, 0, .h, false⟩,
     ⟨"LOCK", 1, 1, .w1c, 0, .h, false⟩,
     ⟨"LIMIT", 2, 1, .w1c, 0, .h, false⟩,
     ⟨"FALLBK", 3, 1, .w1c, 0, .h, false⟩,
     ⟨"RETURN", 4, 1, .w1c, 0, .h, false⟩,
     ⟨"SLEWDONE", 5, 1, .w1c, 0, .h, false⟩,
     ⟨"SNAP", 6, 1, .w1c, 0, .h, false⟩,
     ⟨"FSNAP", 7, 1, .w1c, 0, .h, false⟩,
     ⟨"NOREF", 8, 1, .w1c, 0, .h, false⟩,
     ⟨"X32FAIL", 9, 1, .w1c, 0, .a, false⟩,
     ⟨"XTFAIL", 10, 1, .w1c, 0, .h, false⟩,
     ⟨"CMTDONE", 11, 1, .w1c, 0, .h, false⟩,
     ⟨"LLOSS", 12, 1, .w1c, 0, .h, false⟩]⟩,
  ⟨"CLK_MASK", 0x003010, [],
    [⟨"MASK", 0, 13, .rw, 0x178D, .h, false⟩]⟩,
  ⟨"CLK_PHERR", 0x003014, [],
    [⟨"PHI", 0, 16, .ro, 0, .h, false⟩,
     ⟨"PAUSE", 16, 8, .ro, 0, .h, false⟩]⟩,
  ⟨"CLK_FREQ", 0x003018, [],
    [⟨"PPM", 0, 16, .ro, 0, .v, false⟩]⟩,
  ⟨"CLK_COAST", 0x00301C, [],
    [⟨"MS", 0, 32, .ro, 0, .h, false⟩]⟩,
  ⟨"CLK_AON", 0x003020, [],
    [⟨"X32EN", 0, 1, .rw, 0, .a, false⟩,
     ⟨"SRC", 1, 1, .ro, 0, .a, false⟩]⟩,
  ⟨"CLK_RING", 0x003024, [],
    [⟨"DEV", 0, 16, .ro, 0, .v, false⟩]⟩]

/-- A part of `clkRegs`. -/
def clkRegs2 : List RegDef := [
  ⟨"CLK_CNT", 0x003028, [],
    [⟨"LOSSES", 0, 16, .ro, 0, .s, false⟩,
     ⟨"SNAPS", 16, 16, .ro, 0, .s, false⟩]⟩]

/-- Registers of 0x003000 to 0x003FFF (R382). -/
def clkRegs : List RegDef :=
  clkRegs1 ++ clkRegs2

/-- A part of `imgRegs`. -/
def imgRegs1 : List RegDef := [
  ⟨"IMG_CTRL", 0x004000, [],
    [⟨"COMMIT", 0, 1, .w1p, 0, .v, false⟩,
     ⟨"ABORT", 1, 1, .w1p, 0, .v, false⟩,
     ⟨"LOAD", 2, 1, .w1p, 0, .v, false⟩,
     ⟨"DISCARD", 3, 1, .w1p, 0, .v, false⟩]⟩,
  ⟨"IMG_STAT", 0x004004, [],
    [⟨"SVALID", 0, 1, .ro, 0, .v, false⟩,
     ⟨"LOADING", 1, 1, .ro, 0, .v, false⟩,
     ⟨"SIGNED", 2, 1, .ro, 0, .s, false⟩,
     ⟨"ENC", 3, 1, .ro, 0, .s, false⟩,
     ⟨"GEN", 16, 16, .ro, 0, .s, false⟩]⟩,
  ⟨"IMG_GRAFT_STAT", 0x004008, [],
    [⟨"PHASE", 0, 3, .ro, 0, .v, false⟩]⟩,
  ⟨"IMG_PROG0", 0x00400C, [],
    [⟨"ACCEPTED", 0, 17, .ro, 0, .h, false⟩]⟩,
  ⟨"IMG_PROG1", 0x004010, [],
    [⟨"VERIFIED", 0, 4, .ro, 0, .h, false⟩,
     ⟨"COMMITTED", 8, 4, .ro, 0, .h, false⟩,
     ⟨"SECT", 16, 4, .ro, 0, .h, false⟩,
     ⟨"STATE", 24, 3, .ro, 0, .h, false⟩]⟩,
  ⟨"IMG_ERR", 0x004014, [],
    [⟨"CODE", 0, 8, .ro, 0, .h, false⟩,
     ⟨"SECT", 8, 4, .ro, 0, .h, false⟩]⟩,
  ⟨"IMG_ERRDET", 0x004018, [],
    [⟨"DETAIL", 0, 32, .ro, 0, .h, false⟩]⟩,
  ⟨"IMG_VER", 0x00401C, [],
    [⟨"IMGVER", 0, 32, .ro, 0, .s, false⟩]⟩,
  ⟨"IMG_BUILD_HI", 0x004020, [],
    [⟨"BUILD", 0, 32, .ro, 0, .s, false⟩]⟩,
  ⟨"IMG_BUILD_LO", 0x004024, [],
    [⟨"BUILD", 0, 32, .ro, 0, .s, false⟩]⟩]

/-- A part of `imgRegs`. -/
def imgRegs2 : List RegDef := [
  ⟨"IMG_SRC", 0x004028, [],
    [⟨"BOOT", 0, 2, .ro, 0, .h, false⟩,
     ⟨"ACT", 2, 2, .ro, 0, .s, false⟩,
     ⟨"FALLBK", 4, 1, .ro, 0, .h, false⟩]⟩,
  ⟨"IMG_EVT", 0x00402C, [],
    [⟨"LOADED", 0, 1, .w1c, 0, .h, false⟩,
     ⟨"ERR", 1, 1, .w1c, 0, .h, false⟩,
     ⟨"ADMITOK", 2, 1, .w1c, 0, .h, false⟩,
     ⟨"OFSERR", 3, 1, .w1c, 0, .h, false⟩,
     ⟨"GRAFTEND", 4, 1, .w1c, 0, .h, false⟩,
     ⟨"LATE", 5, 1, .w1c, 0, .h, false⟩,
     ⟨"ACTIVE", 6, 1, .w1c, 0, .h, false⟩,
     ⟨"LATPUB", 7, 1, .w1c, 0, .h, false⟩]⟩,
  ⟨"IMG_MASK", 0x004030, [],
    [⟨"MASK", 0, 8, .rw, 0x72, .h, false⟩]⟩]

/-- Registers of 0x004000 to 0x004FFF (R503). -/
def imgRegs : List RegDef :=
  imgRegs1 ++ imgRegs2

/-- Registers of 0x005000 to 0x005FFF (R568). -/
def secRegs : List RegDef := [
  ⟨"SEC_LC", 0x005000, [],
    [⟨"STATE", 0, 3, .ro, 0, .a, false⟩,
     ⟨"NEXT", 4, 3, .ro, 0, .a, false⟩,
     ⟨"PEND", 7, 1, .ro, 0, .a, false⟩,
     ⟨"SIGREQ", 8, 1, .ro, 0, .a, false⟩,
     ⟨"SCANCLR", 9, 1, .ro, 0, .a, false⟩]⟩,
  ⟨"SEC_LC_CTRL", 0x005004, [],
    [⟨"TARGET", 0, 3, .wo, 0, .v, false⟩,
     ⟨"KEY", 16, 16, .wo, 0, .v, false⟩]⟩,
  ⟨"SEC_KEYSTAT", 0x005008, [],
    [⟨"KEY", 0, 8, .ro, 0, .a, false⟩,
     ⟨"HASH", 8, 8, .ro, 0, .a, false⟩]⟩,
  ⟨"SEC_PROG", 0x00500C, [],
    [⟨"SEL", 0, 3, .rw, 0, .v, false⟩,
     ⟨"OPT", 4, 1, .rw, 0, .v, false⟩,
     ⟨"GO", 8, 1, .w1p, 0, .v, false⟩,
     ⟨"REVOKE", 9, 1, .w1p, 0, .v, false⟩,
     ⟨"BUSY", 16, 1, .ro, 0, .v, false⟩]⟩,
  ⟨"SEC_CTRL", 0x005010, [],
    [⟨"SCANEN", 0, 1, .w1p, 0, .v, false⟩]⟩,
  ⟨"SEC_DATA", 0x005020, [(8, 0x4)],
    [⟨"DATA", 0, 32, .wo, 0, .v, false⟩]⟩,
  ⟨"SEC_EVT", 0x005040, [],
    [⟨"LCDONE", 0, 1, .w1c, 0, .h, false⟩,
     ⟨"PROGDONE", 1, 1, .w1c, 0, .h, false⟩,
     ⟨"PROGERR", 2, 1, .w1c, 0, .h, false⟩,
     ⟨"KEYCLR", 3, 1, .w1c, 0, .h, false⟩,
     ⟨"DENIED", 4, 1, .w1c, 0, .h, false⟩]⟩,
  ⟨"SEC_MASK", 0x005044, [],
    [⟨"MASK", 0, 5, .rw, 0x1C, .h, false⟩]⟩]

/-- Registers of 0x006000 to 0x006FFF (R568). -/
def bstRegs : List RegDef := [
  ⟨"BST_CFG", 0x006000, [],
    [⟨"EN", 0, 7, .rw, 0, .s, true⟩]⟩,
  ⟨"BST_CTRL", 0x006004, [],
    [⟨"FULL", 0, 1, .w1p, 0, .v, false⟩]⟩,
  ⟨"BST_STAT", 0x006008, [],
    [⟨"TGT", 0, 3, .ro, 0, .v, false⟩,
     ⟨"BUSY", 3, 1, .ro, 0, .v, false⟩,
     ⟨"CSCF", 4, 2, .ro, 0, .s, false⟩,
     ⟨"CYCLES", 16, 16, .ro, 0, .h, false⟩]⟩,
  ⟨"BST_RES", 0x00600C, [],
    [⟨"RES", 0, 14, .ro, 0, .h, false⟩]⟩,
  ⟨"BST_PROG", 0x006010, [],
    [⟨"SLICE_ID", 0, 16, .ro, 0, .h, false⟩,
     ⟨"TGT", 16, 3, .ro, 0, .h, false⟩,
     ⟨"LAST", 20, 3, .ro, 0, .h, false⟩,
     ⟨"DONE", 23, 1, .ro, 0, .h, false⟩]⟩,
  ⟨"BST_PROG1", 0x006014, [],
    [⟨"APPLIED", 0, 13, .ro, 0, .h, false⟩,
     ⟨"COUNT", 16, 13, .ro, 0, .h, false⟩]⟩,
  ⟨"BST_EVT", 0x006018, [],
    [⟨"CYCLE", 0, 1, .w1c, 0, .h, false⟩,
     ⟨"FAIL", 1, 1, .w1c, 0, .h, false⟩,
     ⟨"INC", 2, 1, .w1c, 0, .h, false⟩,
     ⟨"CSCFAIL", 3, 1, .w1c, 0, .h, false⟩,
     ⟨"PLLFAIL", 4, 1, .w1c, 0, .h, false⟩,
     ⟨"CFGFAIL", 5, 1, .w1c, 0, .h, false⟩]⟩,
  ⟨"BST_MASK", 0x00601C, [],
    [⟨"MASK", 0, 6, .rw, 0x3A, .h, false⟩]⟩,
  ⟨"BST_FAILCNT", 0x006020, [(7, 0x4)],
    [⟨"FAIL", 0, 16, .ro, 0, .a, false⟩,
     ⟨"INC", 16, 16, .ro, 0, .s, false⟩]⟩]

/-- A part of `cellRegs`. -/
def cellRegs1 : List RegDef := [
  ⟨"CELL_CFG", 0x010000, [(86, 0x40)],
    [⟨"ROLE", 0, 3, .ro, 0, .v, false⟩,
     ⟨"SLOT", 4, 2, .ro, 0, .v, false⟩,
     ⟨"GROUP", 8, 5, .ro, 0, .a, false⟩]⟩,
  ⟨"CELL_STAT", 0x010004, [(86, 0x40)],
    [⟨"FAILED", 0, 1, .ro, 0, .s, false⟩,
     ⟨"LAST", 1, 2, .ro, 0, .h, false⟩]⟩,
  ⟨"CELL_OFS", 0x010008, [(86, 0x40)],
    [⟨"OFS", 0, 24, .rw, 0, .a, false⟩]⟩,
  ⟨"CELL_GAIN", 0x01000C, [(86, 0x40)],
    [⟨"GAIN", 0, 24, .rw, 0x400000, .a, false⟩]⟩,
  ⟨"CELL_SKEW", 0x010010, [(86, 0x40)],
    [⟨"SKEW", 0, 16, .rw, 0, .a, false⟩]⟩,
  ⟨"CELL_TRIMSEL", 0x010014, [(86, 0x40)],
    [⟨"IDX", 0, 7, .rw, 0, .v, false⟩]⟩,
  ⟨"CELL_TRIMDAT", 0x010018, [(86, 0x40)],
    [⟨"TRIM", 0, 12, .rw, 0, .a, false⟩]⟩,
  ⟨"CELL_SUBCNT", 0x01001C, [(86, 0x40)],
    [⟨"SUB", 0, 32, .ro, 0, .s, false⟩]⟩,
  ⟨"CELL_CLIPCNT", 0x010020, [(86, 0x40)],
    [⟨"CLIP", 0, 32, .ro, 0, .s, false⟩]⟩,
  ⟨"CELL_SLICE", 0x010024, [(86, 0x40)],
    [⟨"SLICE_ID", 0, 16, .ro, 0, .h, false⟩,
     ⟨"PATTERNS", 16, 8, .ro, 0, .h, false⟩,
     ⟨"PHASE", 24, 3, .ro, 0, .h, false⟩,
     ⟨"DONE", 27, 1, .ro, 0, .h, false⟩]⟩]

/-- A part of `cellRegs`. -/
def cellRegs2 : List RegDef := [
  ⟨"CELL_FAILCNT", 0x010028, [(86, 0x40)],
    [⟨"FAILS", 0, 8, .ro, 0, .a, false⟩]⟩,
  ⟨"CELL_GRP_CTRL", 0x011800, [(18, 0x20)],
    [⟨"ROT_EN", 0, 1, .rw, 1, .s, true⟩,
     ⟨"PERIOD", 4, 12, .rw, 0x7D, .s, true⟩,
     ⟨"ROT_NOW", 16, 1, .w1p, 0, .v, false⟩,
     ⟨"RETRY", 17, 1, .w1p, 0, .v, false⟩,
     ⟨"INWIN", 20, 4, .rw, 6, .s, false⟩,
     ⟨"OUTWIN", 24, 4, .rw, 8, .s, false⟩,
     ⟨"OUTN", 28, 3, .rw, 3, .s, false⟩]⟩,
  ⟨"CELL_GRP_STAT", 0x011804, [(18, 0x20)],
    [⟨"DEGRADED", 0, 1, .ro, 0, .s, false⟩,
     ⟨"NO_ROT", 1, 1, .ro, 0, .s, false⟩,
     ⟨"CALV", 2, 1, .ro, 0, .a, false⟩,
     ⟨"HOLDZ", 3, 1, .ro, 0, .v, false⟩,
     ⟨"SPARE", 4, 7, .ro, 0x7F, .v, false⟩,
     ⟨"NEXT", 12, 7, .ro, 0x7F, .v, false⟩]⟩,
  ⟨"CELL_GRP_EVT", 0x011808, [(18, 0x20)],
    [⟨"INFLT", 0, 1, .w1c, 0, .h, false⟩,
     ⟨"OUTFLT", 1, 1, .w1c, 0, .h, false⟩,
     ⟨"MONFLT", 2, 1, .w1c, 0, .h, false⟩,
     ⟨"EXTFLT", 3, 1, .w1c, 0, .h, false⟩,
     ⟨"SPUSED", 4, 1, .w1c, 0, .h, false⟩,
     ⟨"DEGR", 5, 1, .w1c, 0, .h, false⟩,
     ⟨"SLPASS", 6, 1, .w1c, 0, .h, false⟩,
     ⟨"SLFAIL", 7, 1, .w1c, 0, .h, false⟩,
     ⟨"SLINC", 8, 1, .w1c, 0, .h, false⟩]⟩,
  ⟨"CELL_GRP_MASK", 0x01180C, [(18, 0x20)],
    [⟨"MASK", 0, 9, .rw, 0xAF, .h, false⟩]⟩,
  ⟨"CELL_GRP_CNT", 0x011810, [(18, 0x20)],
    [⟨"PASS", 0, 16, .ro, 0, .h, false⟩,
     ⟨"FAIL", 16, 8, .ro, 0, .h, false⟩,
     ⟨"INC", 24, 8, .ro, 0, .h, false⟩]⟩,
  ⟨"CELL_GLB_CTRL", 0x011C00, [],
    [⟨"FREEZE", 0, 1, .rw, 0, .h, false⟩]⟩,
  ⟨"CELL_GLB_STAT", 0x011C04, [],
    [⟨"BUSY", 0, 1, .ro, 0, .v, false⟩,
     ⟨"GRP", 4, 5, .ro, 0, .v, false⟩,
     ⟨"CELL", 9, 7, .ro, 0, .v, false⟩,
     ⟨"QUEUED", 16, 5, .ro, 0, .v, false⟩]⟩]

/-- Registers of 0x010000 to 0x011FFF (R77). -/
def cellRegs : List RegDef :=
  cellRegs1 ++ cellRegs2

/-- A part of `uapRegs`. -/
def uapRegs1 : List RegDef := [
  ⟨"UAP_CFG", 0x020000, [(16, 0x100)],
    [⟨"DIR", 0, 2, .ro, 0, .s, true⟩,
     ⟨"MODE", 2, 2, .ro, 0, .s, true⟩,
     ⟨"LP", 4, 1, .ro, 0, .s, true⟩,
     ⟨"TALK", 5, 1, .ro, 0, .s, true⟩,
     ⟨"MBSEL", 6, 2, .ro, 0, .s, true⟩,
     ⟨"MBMAP", 8, 1, .ro, 0, .s, true⟩]⟩,
  ⟨"UAP_IN_GAIN", 0x020004, [(16, 0x100)],
    [⟨"TARGET", 0, 6, .rw, 0, .s, true⟩,
     ⟨"CUR", 8, 6, .ro, 0, .s, true⟩,
     ⟨"PEND", 16, 1, .ro, 0, .v, false⟩,
     ⟨"COMP", 17, 1, .ro, 0, .v, false⟩]⟩,
  ⟨"UAP_IN_CTRL", 0x020008, [(16, 0x100)],
    [⟨"ZCTO", 0, 8, .rw, 0x14, .s, false⟩]⟩,
  ⟨"UAP_OUT_CTRL", 0x02000C, [(16, 0x100)],
    [⟨"RANGE", 0, 1, .rw, 0, .s, true⟩,
     ⟨"MUTE", 1, 1, .rw, 0, .s, true⟩]⟩,
  ⟨"UAP_STAT", 0x020010, [(16, 0x100)],
    [⟨"CLOCHED", 0, 1, .ro, 0, .v, false⟩,
     ⟨"ZHOLD", 1, 1, .ro, 0, .v, false⟩,
     ⟨"CM", 2, 2, .ro, 0, .v, false⟩,
     ⟨"RNGBUSY", 4, 1, .ro, 0, .v, false⟩,
     ⟨"RNGPEND", 5, 1, .ro, 0, .v, false⟩,
     ⟨"ZSCALE", 6, 1, .ro, 1, .v, false⟩,
     ⟨"RANGE_NOW", 7, 1, .ro, 0, .s, true⟩]⟩,
  ⟨"UAP_CAL_GAIN", 0x020014, [(16, 0x100)],
    [⟨"GAIN", 0, 24, .rw, 0, .s, true⟩]⟩,
  ⟨"UAP_CAL_DLY", 0x020018, [(16, 0x100)],
    [⟨"DLY", 0, 11, .ro, 0, .s, true⟩,
     ⟨"EN", 16, 1, .ro, 0, .s, true⟩]⟩,
  ⟨"UAP_EVT", 0x02001C, [(16, 0x100)],
    [⟨"GZC", 0, 1, .w1c, 0, .h, false⟩,
     ⟨"GTO", 1, 1, .w1c, 0, .h, false⟩,
     ⟨"GOVR", 2, 1, .w1c, 0, .h, false⟩,
     ⟨"RNGDONE", 3, 1, .w1c, 0, .h, false⟩,
     ⟨"CMUP", 4, 1, .w1c, 0, .h, false⟩,
     ⟨"CMDN", 5, 1, .w1c, 0, .h, false⟩,
     ⟨"BIASZ", 6, 1, .w1c, 0, .h, false⟩]⟩,
  ⟨"UAP_MASK", 0x020020, [(16, 0x100)],
    [⟨"MASK", 0, 7, .rw, 0x44, .h, false⟩]⟩,
  ⟨"MB_CFG", 0x021000, [(4, 0x8)],
    [⟨"VSET", 0, 7, .rw, 0, .s, true⟩,
     ⟨"EN", 7, 1, .rw, 0, .s, true⟩,
     ⟨"MAP", 8, 8, .ro, 0, .s, true⟩]⟩]

/-- A part of `uapRegs`. -/
def uapRegs2 : List RegDef := [
  ⟨"MB_STAT", 0x021004, [(4, 0x8)],
    [⟨"OK", 0, 1, .ro, 0, .v, false⟩,
     ⟨"RAMP", 1, 1, .ro, 0, .v, false⟩,
     ⟨"ILIM", 2, 1, .ro, 0, .v, false⟩,
     ⟨"CUT", 3, 1, .ro, 0, .v, false⟩]⟩,
  ⟨"CLOCHE_STAT", 0x021040, [],
    [⟨"SHUT", 0, 1, .ro, 0, .v, false⟩,
     ⟨"OPENING", 1, 1, .ro, 0, .v, false⟩,
     ⟨"LED", 2, 1, .ro, 0, .v, false⟩,
     ⟨"TALK", 16, 16, .ro, 0, .s, true⟩]⟩,
  ⟨"CLOCHE_EVT", 0x021044, [],
    [⟨"SHUT", 0, 1, .w1c, 0, .h, false⟩,
     ⟨"OPEN", 1, 1, .w1c, 0, .h, false⟩,
     ⟨"ILIM", 4, 4, .w1c, 0, .h, false⟩]⟩,
  ⟨"CLOCHE_MASK", 0x021048, [],
    [⟨"MASK", 0, 8, .rw, 0xF3, .h, false⟩]⟩,
  ⟨"CLOCHE_CNT", 0x02104C, [],
    [⟨"SHUTS", 0, 16, .ro, 0, .a, false⟩]⟩]

/-- Registers of 0x020000 to 0x021FFF (R107). -/
def uapRegs : List RegDef :=
  uapRegs1 ++ uapRegs2

end Sys2Proof.Machine
end

