-- ==== Sys2Proof/Machine/RegMapB.lean ====
section
/-! DEFINITION. The register tables of the manual (headphone, jacks, speaker, chains, rate conversion, graph), one entry for each register kind: name, address of its first instance, the (count, stride)
of each index, and its fields as bits, access code of R8, reset value, retention class of R11 and whether the reset column reads "image"
or names an OTP value. Where it reads "image" the entry holds the value of R479 (a record that writes nothing). -/

namespace Sys2Proof.Machine

/-- A part of `hpJackRegs`. -/
def hpJackRegs1 : List RegDef := [
  ⟨"HP_CFG", 0x022000, [],
    [⟨"EN", 0, 2, .ro, 0, .s, true⟩]⟩,
  ⟨"HP_CTRL", 0x022004, [],
    [⟨"RANGE", 0, 2, .rw, 0, .s, true⟩,
     ⟨"MUTE", 2, 2, .rw, 0, .s, true⟩,
     ⟨"CLR", 4, 2, .w1p, 0, .v, false⟩]⟩,
  ⟨"HP_STAT", 0x022008, [],
    [⟨"CPOK", 0, 1, .ro, 0, .v, false⟩,
     ⟨"REL", 1, 2, .ro, 0, .v, false⟩,
     ⟨"TRIPPED", 3, 2, .ro, 0, .v, false⟩,
     ⟨"RANGE_NOW", 5, 2, .ro, 0, .s, true⟩]⟩,
  ⟨"HP_EVT", 0x02200C, [],
    [⟨"PUMPFAIL", 0, 1, .w1c, 0, .h, false⟩,
     ⟨"TRIP", 1, 2, .w1c, 0, .h, false⟩,
     ⟨"RNGDONE", 3, 2, .w1c, 0, .h, false⟩]⟩,
  ⟨"HP_MASK", 0x022010, [],
    [⟨"MASK", 0, 5, .rw, 7, .h, false⟩]⟩,
  ⟨"JACK_CFG", 0x022100, [(8, 0x20)],
    [⟨"EN", 0, 1, .ro, 0, .s, true⟩,
     ⟨"DEB", 1, 3, .ro, 0, .s, true⟩,
     ⟨"IDPIN", 8, 5, .ro, 0, .s, true⟩]⟩,
  ⟨"JACK_STAT", 0x022104, [(8, 0x20)],
    [⟨"PRES", 0, 1, .ro, 0, .v, false⟩,
     ⟨"STATE", 4, 4, .ro, 1, .v, false⟩,
     ⟨"IDRUN", 8, 1, .ro, 0, .v, false⟩]⟩,
  ⟨"JACK_ID", 0x022108, [(8, 0x20)],
    [⟨"R", 0, 21, .ro, 0, .h, false⟩]⟩,
  ⟨"JACK_IDL", 0x02210C, [(8, 0x20)],
    [⟨"L", 0, 16, .ro, 0, .h, false⟩,
     ⟨"ZAC", 16, 16, .ro, 0xFFFF, .h, false⟩]⟩,
  ⟨"JACK_CTRL", 0x022110, [(8, 0x20)],
    [⟨"REID", 0, 1, .w1p, 0, .v, false⟩]⟩]

/-- A part of `hpJackRegs`. -/
def hpJackRegs2 : List RegDef := [
  ⟨"JACK_OUTMAP", 0x022200, [(20, 0x4)],
    [⟨"JACK", 0, 3, .ro, 0, .s, true⟩,
     ⟨"USE", 3, 1, .ro, 0, .s, true⟩,
     ⟨"MASK", 8, 9, .ro, 0, .s, true⟩]⟩,
  ⟨"JACK_AON", 0x022300, [],
    [⟨"WAKE", 0, 8, .rw, 0, .a, false⟩,
     ⟨"POL", 8, 8, .rw, 0, .a, false⟩]⟩,
  ⟨"JACK_EVT", 0x022304, [],
    [⟨"CHG", 0, 8, .w1c, 0, .h, false⟩,
     ⟨"ABORT", 8, 8, .w1c, 0, .h, false⟩,
     ⟨"UNK", 16, 8, .w1c, 0, .h, false⟩]⟩,
  ⟨"JACK_MASK", 0x022308, [],
    [⟨"MASK", 0, 24, .rw, 0xFF, .h, false⟩]⟩]

/-- Registers of 0x022000 to 0x023FFF (R330). -/
def hpJackRegs : List RegDef :=
  hpJackRegs1 ++ hpJackRegs2

/-- A part of `spkRegs`. -/
def spkRegs1 : List RegDef := [
  ⟨"SPK_CFG", 0x024000, [(2, 0x80)],
    [⟨"EN", 0, 1, .ro, 0, .s, true⟩,
     ⟨"MI", 8, 16, .ro, 0, .s, true⟩]⟩,
  ⟨"SPK_LEAD", 0x024004, [(2, 0x80)],
    [⟨"NS", 0, 13, .ro, 0, .s, true⟩]⟩,
  ⟨"SPK_CTRL", 0x024008, [(2, 0x80)],
    [⟨"MUTE", 0, 1, .rw, 0, .s, true⟩,
     ⟨"CLR", 1, 1, .w1p, 0, .v, false⟩,
     ⟨"CHECK", 2, 1, .w1p, 0, .v, false⟩]⟩,
  ⟨"SPK_STAT", 0x02400C, [(2, 0x80)],
    [⟨"STATE", 0, 3, .ro, 0, .v, false⟩,
     ⟨"RETRY", 8, 4, .ro, 0, .h, false⟩,
     ⟨"LIMACT", 12, 1, .ro, 0, .v, false⟩,
     ⟨"OPEN", 13, 1, .ro, 0, .h, false⟩]⟩,
  ⟨"SPK_PROT", 0x024010, [(2, 0x80)],
    [⟨"BACKOFF", 0, 8, .rw, 25, .s, true⟩,
     ⟨"RMIN", 8, 8, .rw, 32, .s, true⟩]⟩,
  ⟨"SPK_RLOAD", 0x024014, [(2, 0x80)],
    [⟨"R", 0, 16, .ro, 0, .h, false⟩]⟩,
  ⟨"SPK_TRIPCNT", 0x024018, [(2, 0x80)],
    [⟨"TRIP", 0, 16, .ro, 0, .h, false⟩]⟩,
  ⟨"SPK_ILIMCNT", 0x02401C, [(2, 0x80)],
    [⟨"ILIM", 0, 32, .ro, 0, .s, false⟩]⟩,
  ⟨"SPK_CLIPCNT", 0x024020, [(2, 0x80)],
    [⟨"CLIP", 0, 32, .ro, 0, .s, false⟩]⟩,
  ⟨"SPK_THM_RE25", 0x024030, [(2, 0x80)],
    [⟨"RE25", 0, 16, .ro, 0, .s, true⟩]⟩]

/-- A part of `spkRegs`. -/
def spkRegs2 : List RegDef := [
  ⟨"SPK_THM_RT", 0x024034, [(2, 0x80)],
    [⟨"RTV", 0, 16, .ro, 0, .s, true⟩,
     ⟨"RTM", 16, 16, .ro, 0, .s, true⟩]⟩,
  ⟨"SPK_THM_TAU", 0x024038, [(2, 0x80)],
    [⟨"TAUV", 0, 16, .ro, 0, .s, true⟩,
     ⟨"TAUM", 16, 16, .ro, 0, .s, true⟩]⟩,
  ⟨"SPK_THM_LIM", 0x02403C, [(2, 0x80)],
    [⟨"TLIM", 0, 8, .ro, 0, .s, true⟩,
     ⟨"REL", 16, 16, .ro, 0, .s, true⟩]⟩,
  ⟨"SPK_THM_CORR", 0x024040, [(2, 0x80)],
    [⟨"KCORR", 0, 8, .rw, 0, .s, true⟩,
     ⟨"IMIN", 8, 8, .rw, 0, .s, true⟩]⟩,
  ⟨"SPK_THM_TC", 0x024044, [(2, 0x80)],
    [⟨"TC", 0, 16, .ro, 0, .h, false⟩]⟩,
  ⟨"SPK_THM_DT", 0x024048, [(2, 0x80)],
    [⟨"DTV", 0, 16, .rw, 0, .h, false⟩,
     ⟨"DTM", 16, 16, .rw, 0, .h, false⟩]⟩,
  ⟨"SPK_THM_RMEAS", 0x02404C, [(2, 0x80)],
    [⟨"RM", 0, 16, .ro, 0, .v, false⟩,
     ⟨"REJ", 16, 16, .ro, 0, .s, false⟩]⟩,
  ⟨"SPK_THM_P", 0x024050, [(2, 0x80)],
    [⟨"P", 0, 16, .ro, 0, .v, false⟩]⟩,
  ⟨"SPK_THM_GAIN", 0x024054, [(2, 0x80)],
    [⟨"ATT", 0, 8, .ro, 0, .v, false⟩]⟩,
  ⟨"SPK_EVT", 0x024058, [(2, 0x80)],
    [⟨"TRIP", 0, 1, .w1c, 0, .h, false⟩,
     ⟨"ILIM", 1, 1, .w1c, 0, .h, false⟩,
     ⟨"LOCK", 2, 1, .w1c, 0, .h, false⟩,
     ⟨"CHKFAIL", 3, 1, .w1c, 0, .h, false⟩,
     ⟨"CHKOPEN", 4, 1, .w1c, 0, .h, false⟩,
     ⟨"LIMON", 5, 1, .w1c, 0, .h, false⟩,
     ⟨"THERM", 6, 1, .w1c, 0, .h, false⟩,
     ⟨"RUNNING", 7, 1, .w1c, 0, .h, false⟩,
     ⟨"STOPPED", 8, 1, .w1c, 0, .h, false⟩]⟩]

/-- A part of `spkRegs`. -/
def spkRegs3 : List RegDef := [
  ⟨"SPK_MASK", 0x02405C, [(2, 0x80)],
    [⟨"MASK", 0, 9, .rw, 0x4D, .h, false⟩]⟩,
  ⟨"SPK_GLB_CFG", 0x024100, [],
    [⟨"FSW", 0, 1, .ro, 0, .s, true⟩,
     ⟨"INTLV", 1, 1, .ro, 0, .s, true⟩,
     ⟨"PVNOM", 16, 16, .ro, 0, .s, true⟩]⟩,
  ⟨"SPK_GLB_SNS", 0x024104, [],
    [⟨"DLY", 0, 11, .rw, 0, .s, true⟩]⟩,
  ⟨"SPK_GLB_PVDD", 0x024108, [],
    [⟨"MEAN", 0, 16, .ro, 0, .v, false⟩,
     ⟨"MIN", 16, 16, .ro, 0, .v, false⟩]⟩,
  ⟨"SPK_GLB_TAMB", 0x02410C, [],
    [⟨"TAMB", 0, 8, .rw, 0, .s, true⟩]⟩]

/-- Registers of 0x024000 to 0x025FFF (R311). -/
def spkRegs : List RegDef :=
  spkRegs1 ++ spkRegs2 ++ spkRegs3

/-- A part of `chainRegs`. -/
def chainRegs1 : List RegDef := [
  ⟨"CHAIN_DCFG", 0x030000, [(16, 0x40)],
    [⟨"EN", 0, 1, .ro, 0, .s, true⟩,
     ⟨"ENTRY", 1, 1, .ro, 0, .s, true⟩,
     ⟨"SHORT", 2, 1, .ro, 0, .s, true⟩,
     ⟨"HRT", 3, 1, .ro, 0, .s, true⟩,
     ⟨"GRID", 4, 1, .ro, 0, .s, true⟩]⟩,
  ⟨"CHAIN_DSHIFT", 0x030004, [(16, 0x40)],
    [⟨"SHIFT", 0, 24, .rw, 0x249249, .s, true⟩]⟩,
  ⟨"CHAIN_DSTAT", 0x030008, [(16, 0x40)],
    [⟨"UNSET", 0, 1, .ro, 0, .v, false⟩,
     ⟨"OFS", 8, 8, .ro, 0, .h, false⟩,
     ⟨"LEFT", 16, 15, .ro, 0, .v, false⟩]⟩,
  ⟨"CHAIN_DDLY", 0x03000C, [(16, 0x40)],
    [⟨"DLY", 0, 16, .ro, 0, .s, true⟩]⟩,
  ⟨"CHAIN_DSAT", 0x030010, [(16, 0x40)],
    [⟨"SAT", 0, 32, .ro, 0, .s, false⟩]⟩,
  ⟨"CHAIN_DCTRL", 0x030014, [(16, 0x40)],
    [⟨"SRST", 0, 1, .w1p, 0, .v, false⟩]⟩,
  ⟨"CHAIN_DEVT", 0x030018, [(16, 0x40)],
    [⟨"SETTLED", 0, 1, .w1c, 0, .h, false⟩,
     ⟨"SAT", 1, 1, .w1c, 0, .h, false⟩,
     ⟨"SHIFT", 2, 1, .w1c, 0, .h, false⟩,
     ⟨"RESTART", 3, 1, .w1c, 0, .h, false⟩]⟩,
  ⟨"CHAIN_DMASK", 0x03001C, [(16, 0x40)],
    [⟨"MASK", 0, 4, .rw, 9, .h, false⟩]⟩,
  ⟨"CHAIN_ICFG", 0x030800, [(20, 0x40)],
    [⟨"EN", 0, 1, .ro, 0, .s, true⟩,
     ⟨"SHORT", 2, 1, .ro, 0, .s, true⟩,
     ⟨"HRT", 3, 1, .ro, 0, .s, true⟩,
     ⟨"SINK", 8, 5, .ro, 0, .s, true⟩]⟩,
  ⟨"CHAIN_ISHIFT", 0x030804, [(20, 0x40)],
    [⟨"SHIFT", 0, 24, .rw, 0x249249, .s, true⟩]⟩]

/-- A part of `chainRegs`. -/
def chainRegs2 : List RegDef := [
  ⟨"CHAIN_ISTAT", 0x030808, [(20, 0x40)],
    [⟨"UNSET", 0, 1, .ro, 0, .v, false⟩,
     ⟨"OFS", 8, 8, .ro, 0, .s, false⟩,
     ⟨"LEFT", 16, 15, .ro, 0, .v, false⟩]⟩,
  ⟨"CHAIN_IDLY", 0x03080C, [(20, 0x40)],
    [⟨"DLY", 0, 16, .ro, 0, .s, true⟩]⟩,
  ⟨"CHAIN_ISAT", 0x030810, [(20, 0x40)],
    [⟨"SAT", 0, 32, .ro, 0, .s, false⟩]⟩,
  ⟨"CHAIN_ICTRL", 0x030814, [(20, 0x40)],
    [⟨"SRST", 0, 1, .w1p, 0, .v, false⟩]⟩,
  ⟨"CHAIN_IEVT", 0x030818, [(20, 0x40)],
    [⟨"SETTLED", 0, 1, .w1c, 0, .h, false⟩,
     ⟨"SAT", 1, 1, .w1c, 0, .h, false⟩,
     ⟨"SHIFT", 2, 1, .w1c, 0, .h, false⟩,
     ⟨"RESTART", 3, 1, .w1c, 0, .h, false⟩]⟩,
  ⟨"CHAIN_IMASK", 0x03081C, [(20, 0x40)],
    [⟨"MASK", 0, 4, .rw, 3, .h, false⟩]⟩,
  ⟨"CHAIN_GLB_CFG", 0x030F00, [],
    [⟨"FG", 0, 1, .ro, 0, .s, true⟩]⟩,
  ⟨"CHAIN_GLB_SYNC", 0x030F04, [],
    [⟨"FRAME", 0, 32, .ro, 0, .s, false⟩]⟩,
  ⟨"CHAIN_GLB_UNSET", 0x030F08, [],
    [⟨"DEC", 0, 16, .ro, 0, .v, false⟩]⟩,
  ⟨"CHAIN_GLB_UNSET2", 0x030F0C, [],
    [⟨"INT", 0, 20, .ro, 0, .v, false⟩]⟩]

/-- Registers of 0x030000 to 0x037FFF (R132). -/
def chainRegs : List RegDef :=
  chainRegs1 ++ chainRegs2

/-- Registers of 0x038000 to 0x03FFFF (R287). -/
def srcRegs : List RegDef := [
  ⟨"SRC_CFG", 0x038000, [(16, 0x20)],
    [⟨"EN", 0, 1, .ro, 0, .s, true⟩,
     ⟨"DIR", 1, 1, .ro, 0, .s, true⟩,
     ⟨"SAP", 2, 2, .ro, 0, .s, true⟩,
     ⟨"SLOT", 4, 4, .ro, 0, .s, true⟩,
     ⟨"K", 8, 5, .ro, 0, .s, true⟩,
     ⟨"STAGES", 14, 2, .ro, 0, .s, true⟩]⟩,
  ⟨"SRC_DLY", 0x038004, [(16, 0x20)],
    [⟨"D", 0, 16, .ro, 0, .s, true⟩]⟩,
  ⟨"SRC_STAT", 0x038008, [(16, 0x20)],
    [⟨"LOCK", 0, 1, .ro, 0, .v, false⟩,
     ⟨"MUTE", 1, 1, .ro, 1, .v, false⟩,
     ⟨"RAMP", 2, 1, .ro, 0, .v, false⟩,
     ⟨"FILL", 4, 8, .ro, 0, .v, false⟩]⟩,
  ⟨"SRC_XCNT", 0x03800C, [(16, 0x20)],
    [⟨"XRUN", 0, 16, .ro, 0, .s, false⟩,
     ⟨"SAT", 16, 16, .ro, 0, .s, false⟩]⟩,
  ⟨"SRC_TRK_CFG", 0x038400, [(4, 0x20)],
    [⟨"BW", 0, 2, .rw, 0, .s, true⟩]⟩,
  ⟨"SRC_TRK_PER", 0x038404, [(4, 0x20)],
    [⟨"PER", 0, 32, .ro, 0, .v, false⟩]⟩,
  ⟨"SRC_TRK_STAT", 0x038408, [(4, 0x20)],
    [⟨"STATE", 0, 2, .ro, 0, .v, false⟩,
     ⟨"RANGE", 2, 1, .ro, 0, .v, false⟩,
     ⟨"PPM", 16, 16, .ro, 0, .v, false⟩]⟩,
  ⟨"SRC_GLB_EVT", 0x038600, [],
    [⟨"LOCK", 0, 4, .w1c, 0, .h, false⟩,
     ⟨"UNLOCK", 4, 4, .w1c, 0, .h, false⟩,
     ⟨"XRUN", 8, 1, .w1c, 0, .h, false⟩]⟩,
  ⟨"SRC_GLB_MASK", 0x038604, [],
    [⟨"MASK", 0, 9, .rw, 0x1F0, .h, false⟩]⟩,
  ⟨"SRC_GLB_XRUN", 0x038608, [],
    [⟨"CH", 0, 16, .rol, 0, .v, false⟩]⟩]

/-- A part of `grfRegs`. -/
def grfRegs1 : List RegDef := [
  ⟨"GRF_GLB_CFG", 0x040000, [],
    [⟨"FG", 0, 1, .ro, 0, .s, true⟩]⟩,
  ⟨"GRF_GLB_CTRL", 0x040004, [],
    [⟨"SELHOLD", 0, 1, .rw, 0, .s, false⟩]⟩,
  ⟨"GRF_GLB_STAT", 0x040008, [],
    [⟨"NPEND", 0, 8, .ro, 0, .v, false⟩,
     ⟨"HELD", 8, 1, .ro, 0, .v, false⟩,
     ⟨"SWITCH", 9, 1, .ro, 0, .v, false⟩]⟩,
  ⟨"GRF_BUDGET", 0x04000C, [],
    [⟨"BASE", 0, 16, .ro, 0, .s, true⟩,
     ⟨"RES", 16, 16, .ro, 0, .s, true⟩]⟩,
  ⟨"GRF_LIMIT", 0x040010, [],
    [⟨"LIMIT", 0, 16, .ro, 0, .s, true⟩,
     ⟨"FREE", 16, 16, .ro, 0, .s, true⟩]⟩,
  ⟨"GRF_LANE", 0x040014, [],
    [⟨"FAIL", 0, 8, .ro, 0, .s, false⟩]⟩,
  ⟨"GRF_EVT", 0x040018, [],
    [⟨"SAT", 0, 1, .w1c, 0, .h, false⟩,
     ⟨"SELDONE", 1, 1, .w1c, 0, .h, false⟩,
     ⟨"SELOVR", 2, 1, .w1c, 0, .h, false⟩,
     ⟨"XFREF", 3, 1, .w1c, 0, .h, false⟩,
     ⟨"LANEFAIL", 4, 1, .w1c, 0, .h, false⟩,
     ⟨"ALTERR", 5, 1, .w1c, 0, .h, false⟩]⟩,
  ⟨"GRF_MASK", 0x04001C, [],
    [⟨"MASK", 0, 6, .rw, 0x38, .h, false⟩]⟩,
  ⟨"GRF_SEL", 0x040400, [(196, 0x10)],
    [⟨"ALT", 0, 2, .rw, 0, .s, true⟩,
     ⟨"NALT", 4, 2, .ro, 0, .s, true⟩,
     ⟨"PEND", 8, 1, .ro, 0, .v, false⟩,
     ⟨"SW", 9, 1, .ro, 0, .v, false⟩,
     ⟨"CUR", 16, 10, .ro, 0, .s, true⟩]⟩,
  ⟨"GRF_SEL_ALT01", 0x040404, [(196, 0x10)],
    [⟨"ALT0", 0, 10, .ro, 0, .s, true⟩,
     ⟨"ALT1", 16, 10, .ro, 0, .s, true⟩]⟩]

/-- A part of `grfRegs`. -/
def grfRegs2 : List RegDef := [
  ⟨"GRF_SEL_ALT23", 0x040408, [(196, 0x10)],
    [⟨"ALT2", 0, 10, .ro, 0, .s, true⟩,
     ⟨"ALT3", 16, 10, .ro, 0, .s, true⟩]⟩,
  ⟨"GRF_DRET", 0x041800, [(8, 0x4)],
    [⟨"EN", 0, 1, .ro, 0, .s, true⟩,
     ⟨"OUT", 8, 5, .ro, 0, .s, true⟩,
     ⟨"NXP", 16, 5, .ro, 0, .s, true⟩]⟩,
  ⟨"GRF_RING_CFG", 0x041C00, [(16, 0x20)],
    [⟨"OFS", 0, 22, .ro, 0, .s, true⟩,
     ⟨"LOG2N", 24, 5, .ro, 0, .s, true⟩,
     ⟨"EN", 31, 1, .ro, 0, .s, true⟩]⟩,
  ⟨"GRF_RING_WR", 0x041C04, [(16, 0x20)],
    [⟨"WR", 0, 32, .rw, 0, .h, false⟩]⟩,
  ⟨"GRF_RING_RD", 0x041C08, [(16, 0x20)],
    [⟨"RD", 0, 32, .rw, 0, .h, false⟩]⟩,
  ⟨"GRF_RING_STAT", 0x041C0C, [(16, 0x20)],
    [⟨"FILL", 0, 21, .ro, 0, .v, false⟩,
     ⟨"EMPTY", 24, 1, .ro, 1, .v, false⟩,
     ⟨"FULL", 25, 1, .ro, 0, .v, false⟩]⟩,
  ⟨"GRF_RING_XCNT", 0x041C10, [(16, 0x20)],
    [⟨"XRUN", 0, 32, .ro, 0, .s, false⟩]⟩,
  ⟨"GRF_RING_THR", 0x041C14, [(16, 0x20)],
    [⟨"THR", 0, 21, .rw, 0, .s, true⟩]⟩,
  ⟨"GRF_RING_EVT", 0x041C18, [(16, 0x20)],
    [⟨"WM", 0, 1, .w1c, 0, .h, false⟩,
     ⟨"XRUN", 1, 1, .w1c, 0, .h, false⟩,
     ⟨"IDXERR", 2, 1, .w1c, 0, .h, false⟩]⟩,
  ⟨"GRF_RING_MASK", 0x041C1C, [(16, 0x20)],
    [⟨"MASK", 0, 3, .rw, 6, .h, false⟩]⟩]

/-- A part of `grfRegs`. -/
def grfRegs3 : List RegDef := [
  ⟨"GRF_BLK_CFG", 0x042000, [(86, 0x10)],
    [⟨"PRESENT", 0, 1, .ro, 0, .s, true⟩,
     ⟨"XF", 1, 1, .ro, 0, .s, true⟩,
     ⟨"LINK", 2, 1, .ro, 0, .s, true⟩,
     ⟨"SLOTS", 4, 12, .ro, 0, .s, true⟩]⟩,
  ⟨"GRF_BLK_STAT", 0x042004, [(86, 0x10)],
    [⟨"SCARF", 0, 1, .ro, 0, .v, false⟩,
     ⟨"PEND", 1, 1, .ro, 0, .v, false⟩]⟩,
  ⟨"GRF_BLK_SAT", 0x042008, [(86, 0x10)],
    [⟨"SAT", 0, 32, .ro, 0, .s, false⟩]⟩,
  ⟨"GRF_SCARF_CFG", 0x040020, [],
    [⟨"BLEN", 0, 3, .rw, 3, .s, true⟩,
     ⟨"BLAW", 3, 1, .rw, 0, .s, true⟩,
     ⟨"SLEN", 4, 3, .rw, 2, .s, true⟩,
     ⟨"SLAW", 7, 1, .rw, 1, .s, true⟩]⟩,
  ⟨"GRF_SCARF_STAT", 0x040024, [],
    [⟨"RUN", 0, 6, .ro, 0, .v, false⟩,
     ⟨"PEND", 8, 6, .ro, 0, .v, false⟩,
     ⟨"FREEZE", 16, 1, .ro, 0, .v, false⟩]⟩,
  ⟨"GRF_SCARF_EVT", 0x040028, [],
    [⟨"BDONE", 0, 1, .w1c, 0, .h, false⟩,
     ⟨"OVR", 1, 1, .w1c, 0, .h, false⟩,
     ⟨"DROP", 2, 1, .w1c, 0, .h, false⟩]⟩,
  ⟨"GRF_SCARF_MASK", 0x04002C, [],
    [⟨"MASK", 0, 3, .rw, 6, .h, false⟩]⟩,
  ⟨"GRF_BLK_PROG", 0x04200C, [(86, 0x10)],
    [⟨"DONE", 0, 11, .ro, 0, .h, false⟩,
     ⟨"KIND", 12, 3, .ro, 0, .h, false⟩,
     ⟨"LEN", 16, 11, .ro, 0, .h, false⟩,
     ⟨"ACTIVE", 31, 1, .ro, 0, .v, false⟩]⟩]

/-- Registers of 0x040000 to 0x043FFF (R198, R264). -/
def grfRegs : List RegDef :=
  grfRegs1 ++ grfRegs2 ++ grfRegs3

end Sys2Proof.Machine
end

