-- ==== Sys2Proof/Machine/RegMapC.lean ====
section
/-! DEFINITION. The register tables of the manual (parameter pages, Direct Path, control sense), one entry for each register kind: name, address of its first instance, the (count, stride)
of each index, and its fields as bits, access code of R8, reset value, retention class of R11 and whether the reset column reads "image"
or names an OTP value. Where it reads "image" the entry holds the value of R479 (a record that writes nothing). -/

namespace Sys2Proof.Machine

/-- A part of `pageRegs`. -/
def pageRegs1 : List RegDef := [
  ⟨"STR_CFG", 0x044000, [(32, 0x100)],
    [⟨"STEREO", 0, 1, .ro, 0, .s, true⟩,
     ⟨"ADLY", 4, 10, .ro, 0, .s, true⟩]⟩,
  ⟨"STR_TRIM", 0x044004, [(32, 0x100)],
    [⟨"GAIN", 0, 24, .rw, 0, .s, true⟩,
     ⟨"POL", 24, 1, .rw, 0, .s, true⟩]⟩,
  ⟨"STR_LEVEL", 0x044008, [(32, 0x100)],
    [⟨"GAIN", 0, 24, .rw, 0, .s, true⟩]⟩,
  ⟨"STR_PAN", 0x04400C, [(32, 0x100)],
    [⟨"PAN", 0, 16, .rw, 0, .s, true⟩,
     ⟨"WIDTH", 16, 16, .rw, 0, .s, true⟩]⟩,
  ⟨"STR_CTRL", 0x044010, [(32, 0x100)],
    [⟨"APPLY", 0, 1, .w1p, 0, .v, false⟩,
     ⟨"MUTE", 1, 1, .rw, 0, .s, true⟩]⟩,
  ⟨"STR_STAT", 0x044014, [(32, 0x100)],
    [⟨"GR", 0, 8, .ro, 0, .v, false⟩,
     ⟨"OPEN", 8, 1, .ro, 0, .v, false⟩]⟩,
  ⟨"STR_SEND", 0x044020, [(32, 0x100), (8, 0x4)],
    [⟨"LEVEL", 0, 24, .rw, 0, .s, true⟩,
     ⟨"POST", 24, 1, .ro, 0, .s, true⟩,
     ⟨"DEST", 25, 5, .ro, 0, .s, true⟩,
     ⟨"PAIR", 30, 1, .ro, 0, .s, true⟩,
     ⟨"EN", 31, 1, .ro, 0, .s, true⟩]⟩,
  ⟨"STR_DYN_A", 0x044040, [(32, 0x100)],
    [⟨"MODE", 0, 2, .rw, 0, .s, true⟩,
     ⟨"DET", 2, 1, .rw, 0, .s, true⟩,
     ⟨"THR", 4, 9, .rw, 0, .s, true⟩,
     ⟨"RATIO", 16, 8, .rw, 0, .s, true⟩,
     ⟨"KNEE", 24, 8, .rw, 0, .s, true⟩]⟩,
  ⟨"BP_DYN_A", 0x046040, [(8, 0x100)],
    [⟨"MODE", 0, 2, .rw, 0, .s, true⟩,
     ⟨"DET", 2, 1, .rw, 0, .s, true⟩,
     ⟨"THR", 4, 9, .rw, 0, .s, true⟩,
     ⟨"RATIO", 16, 8, .rw, 0, .s, true⟩,
     ⟨"KNEE", 24, 8, .rw, 0, .s, true⟩]⟩,
  ⟨"STR_DYN_B", 0x044044, [(32, 0x100)],
    [⟨"ATK", 0, 12, .rw, 0, .s, true⟩,
     ⟨"REL", 16, 12, .rw, 0, .s, true⟩]⟩]

/-- A part of `pageRegs`. -/
def pageRegs2 : List RegDef := [
  ⟨"BP_DYN_B", 0x046044, [(8, 0x100)],
    [⟨"ATK", 0, 12, .rw, 0, .s, true⟩,
     ⟨"REL", 16, 12, .rw, 0, .s, true⟩]⟩,
  ⟨"STR_DYN_C", 0x044048, [(32, 0x100)],
    [⟨"HOLD", 0, 10, .rw, 0, .s, true⟩,
     ⟨"RANGE", 10, 7, .rw, 0, .s, true⟩,
     ⟨"HYST", 17, 7, .rw, 0, .s, true⟩,
     ⟨"MAKEUP", 24, 8, .rw, 0, .s, true⟩]⟩,
  ⟨"BP_DYN_C", 0x046048, [(8, 0x100)],
    [⟨"HOLD", 0, 10, .rw, 0, .s, true⟩,
     ⟨"RANGE", 10, 7, .rw, 0, .s, true⟩,
     ⟨"HYST", 17, 7, .rw, 0, .s, true⟩,
     ⟨"MAKEUP", 24, 8, .rw, 0, .s, true⟩]⟩,
  ⟨"STR_BQEN", 0x04404C, [(32, 0x100)],
    [⟨"EN", 0, 8, .rw, 0, .s, true⟩]⟩,
  ⟨"BP_BQEN", 0x04604C, [(8, 0x100)],
    [⟨"EN", 0, 8, .rw, 0, .s, true⟩]⟩,
  ⟨"STR_BQ", 0x044050, [(32, 0x100), (8, 0x14), (5, 0x4)],
    [⟨"COEF", 0, 32, .rw, 0, .s, true⟩]⟩,
  ⟨"BP_BQ", 0x046050, [(8, 0x100), (8, 0x14), (5, 0x4)],
    [⟨"COEF", 0, 32, .rw, 0, .s, true⟩]⟩,
  ⟨"BP_CFG", 0x046000, [(8, 0x100)],
    [⟨"LA", 0, 9, .ro, 0, .s, true⟩]⟩,
  ⟨"BP_INGAIN", 0x046004, [(8, 0x100)],
    [⟨"GAIN", 0, 24, .rw, 0, .s, true⟩]⟩,
  ⟨"BP_OUTGAIN", 0x046008, [(8, 0x100)],
    [⟨"GAIN", 0, 24, .rw, 0, .s, true⟩]⟩]

/-- A part of `pageRegs`. -/
def pageRegs3 : List RegDef := [
  ⟨"BP_LIM", 0x04600C, [(8, 0x100)],
    [⟨"CEIL", 0, 8, .rw, 0, .s, true⟩,
     ⟨"LREL", 16, 12, .rw, 0, .s, true⟩,
     ⟨"LEN", 31, 1, .rw, 0, .s, true⟩]⟩,
  ⟨"BP_CTRL", 0x046010, [(8, 0x100)],
    [⟨"APPLY", 0, 1, .w1p, 0, .v, false⟩]⟩,
  ⟨"BP_STAT", 0x046014, [(8, 0x100)],
    [⟨"CGR", 0, 8, .ro, 0, .v, false⟩,
     ⟨"LGR", 8, 8, .ro, 0, .v, false⟩,
     ⟨"LIMACT", 16, 1, .ro, 0, .v, false⟩]⟩,
  ⟨"CNV_CFG", 0x046800, [(4, 0x40)],
    [⟨"NTAPSM1", 0, 11, .ro, 0, .s, true⟩]⟩,
  ⟨"CNV_CTRL", 0x046804, [(4, 0x40)],
    [⟨"SWAP", 0, 1, .w1p, 0, .v, false⟩]⟩,
  ⟨"CNV_STAT", 0x046808, [(4, 0x40)],
    [⟨"ACTIVE", 0, 1, .ro, 0, .s, false⟩,
     ⟨"XF", 1, 1, .ro, 0, .v, false⟩,
     ⟨"PEND", 2, 1, .ro, 0, .v, false⟩]⟩,
  ⟨"CNV_GAIN", 0x04680C, [(4, 0x40)],
    [⟨"GAIN", 0, 24, .rw, 0, .s, true⟩]⟩,
  ⟨"MOD_CFG", 0x046A00, [(4, 0x40)],
    [⟨"TYPE", 0, 3, .ro, 0, .s, true⟩,
     ⟨"LINE", 8, 12, .ro, 0, .s, true⟩]⟩,
  ⟨"MOD_LFO", 0x046A04, [(4, 0x40)],
    [⟨"RATE", 0, 16, .rw, 0, .s, true⟩,
     ⟨"SHAPE", 16, 1, .rw, 0, .s, true⟩,
     ⟨"SPREAD", 18, 9, .rw, 0, .s, true⟩]⟩,
  ⟨"MOD_P", 0x046A08, [(4, 0x40), (3, 0x4)],
    [⟨"P", 0, 32, .rw, 0, .s, true⟩]⟩]

/-- A part of `pageRegs`. -/
def pageRegs4 : List RegDef := [
  ⟨"MOD_MIX", 0x046A14, [(4, 0x40)],
    [⟨"DRY", 0, 16, .rw, 0, .s, true⟩,
     ⟨"WET", 16, 16, .rw, 0, .s, true⟩]⟩,
  ⟨"MOD_CTRL", 0x046A18, [(4, 0x40)],
    [⟨"LFORST", 0, 1, .w1p, 0, .v, false⟩]⟩,
  ⟨"DLY_LEN", 0x046B00, [(4, 0x40), (2, 0x4)],
    [⟨"LEN", 0, 19, .ro, 0, .s, true⟩]⟩,
  ⟨"DLY_TIME", 0x046B08, [(4, 0x40), (2, 0x4)],
    [⟨"TIME", 0, 26, .rw, 0, .s, true⟩]⟩,
  ⟨"DLY_FB", 0x046B10, [(4, 0x40)],
    [⟨"FB", 0, 16, .rw, 0, .s, true⟩,
     ⟨"XFB", 16, 16, .rw, 0, .s, true⟩]⟩,
  ⟨"DLY_DAMP", 0x046B14, [(4, 0x40)],
    [⟨"A", 0, 16, .rw, 0, .s, true⟩]⟩,
  ⟨"DLY_LEVEL", 0x046B18, [(4, 0x40)],
    [⟨"GAIN", 0, 24, .rw, 0, .s, true⟩]⟩,
  ⟨"DLY_CTRL", 0x046B1C, [(4, 0x40)],
    [⟨"MODE", 0, 1, .rw, 0, .s, true⟩,
     ⟨"SLEW", 8, 8, .rw, 0, .s, true⟩]⟩,
  ⟨"RVB_CFG", 0x046C00, [(2, 0x100)],
    [⟨"PREMAX", 0, 13, .ro, 0, .s, true⟩]⟩,
  ⟨"RVB_PRE", 0x046C04, [(2, 0x100)],
    [⟨"PRE", 0, 13, .rw, 0, .s, true⟩]⟩]

/-- A part of `pageRegs`. -/
def pageRegs5 : List RegDef := [
  ⟨"RVB_LEVEL", 0x046C08, [(2, 0x100)],
    [⟨"GAIN", 0, 24, .rw, 0, .s, true⟩]⟩,
  ⟨"RVB_LEN", 0x046C40, [(2, 0x100), (16, 0x4)],
    [⟨"LEN", 0, 14, .ro, 0, .s, true⟩]⟩,
  ⟨"RVB_DAMP", 0x046C80, [(2, 0x100), (16, 0x4)],
    [⟨"G", 0, 16, .rw, 0, .s, true⟩,
     ⟨"A", 16, 16, .rw, 0, .s, true⟩]⟩,
  ⟨"TG_CFG", 0x046E00, [(8, 0x20)],
    [⟨"WAVE", 0, 3, .rw, 0, .s, true⟩]⟩,
  ⟨"TG_INC", 0x046E04, [(8, 0x20)],
    [⟨"INC", 0, 32, .rw, 0, .s, true⟩]⟩,
  ⟨"TG_LEVEL", 0x046E08, [(8, 0x20)],
    [⟨"GAIN", 0, 24, .rw, 0, .s, true⟩]⟩,
  ⟨"TG_PHASE0", 0x046E0C, [(8, 0x20)],
    [⟨"PHASE", 0, 32, .rw, 0, .s, true⟩]⟩,
  ⟨"TG_SEED", 0x046E10, [(8, 0x20)],
    [⟨"SEED", 0, 32, .rw, 0, .s, true⟩]⟩,
  ⟨"TG_CTRL", 0x046E14, [(8, 0x20)],
    [⟨"PRST", 0, 1, .w1p, 0, .v, false⟩,
     ⟨"APPLY", 1, 1, .w1p, 0, .v, false⟩]⟩,
  ⟨"EFX_TGSYNC", 0x046F00, [],
    [⟨"SYNC", 0, 8, .w1p, 0, .v, false⟩]⟩]

/-- A part of `pageRegs`. -/
def pageRegs6 : List RegDef := [
  ⟨"EFX_EVT", 0x046F04, [],
    [⟨"CNVDONE", 0, 4, .w1c, 0, .h, false⟩,
     ⟨"CWERR", 4, 1, .w1c, 0, .h, false⟩]⟩,
  ⟨"EFX_MASK", 0x046F08, [],
    [⟨"MASK", 0, 5, .rw, 0x10, .h, false⟩]⟩]

/-- Registers of 0x044000 to 0x04FFFF (R238). -/
def pageRegs : List RegDef :=
  pageRegs1 ++ pageRegs2 ++ pageRegs3 ++ pageRegs4 ++ pageRegs5 ++ pageRegs6

/-- A part of `dirRegs`. -/
def dirRegs1 : List RegDef := [
  ⟨"DIR_XP", 0x060000, [(24, 0x80), (24, 0x4)],
    [⟨"GAIN", 0, 18, .rw, 0, .s, true⟩,
     ⟨"EN", 24, 1, .ro, 0, .s, true⟩,
     ⟨"PEND", 25, 1, .ro, 0, .v, false⟩,
     ⟨"RAMP", 26, 1, .ro, 0, .v, false⟩]⟩,
  ⟨"DIR_OCFG", 0x061000, [(24, 0x40)],
    [⟨"NBQ", 0, 2, .ro, 0, .s, true⟩,
     ⟨"LSRC", 2, 2, .ro, 0, .s, true⟩]⟩,
  ⟨"DIR_OCTRL", 0x061004, [(24, 0x40)],
    [⟨"ZCMODE", 0, 1, .rw, 0, .s, true⟩]⟩,
  ⟨"DIR_OSTAT", 0x061008, [(24, 0x40)],
    [⟨"BQSET", 0, 1, .ro, 0, .v, false⟩,
     ⟨"BQXF", 1, 1, .ro, 0, .v, false⟩,
     ⟨"BQPEND", 2, 1, .ro, 0, .v, false⟩,
     ⟨"RAMPS", 3, 1, .ro, 0, .v, false⟩,
     ⟨"RSCARF", 4, 1, .ro, 0, .v, false⟩]⟩,
  ⟨"DIR_OSAT", 0x06100C, [(24, 0x40)],
    [⟨"SAT", 0, 32, .ro, 0, .s, false⟩]⟩,
  ⟨"DIR_BQCTRL", 0x061010, [(24, 0x40)],
    [⟨"SWAP", 0, 1, .w1p, 0, .v, false⟩]⟩,
  ⟨"DIR_BQ", 0x061014, [(24, 0x40), (2, 0x14), (5, 0x4)],
    [⟨"COEF", 0, 32, .rw, 0, .s, true⟩]⟩,
  ⟨"DIR_GLB_CTRL", 0x061800, [],
    [⟨"HOLD", 0, 1, .rw, 0, .s, false⟩,
     ⟨"ZCTO", 8, 8, .rw, 0x14, .s, false⟩]⟩,
  ⟨"DIR_GLB_STAT", 0x061804, [],
    [⟨"NPEND", 0, 10, .ro, 0, .v, false⟩,
     ⟨"HELD", 16, 1, .ro, 0, .v, false⟩]⟩,
  ⟨"DIR_XPSEL", 0x061808, [],
    [⟨"IN", 0, 5, .rw, 0, .v, false⟩,
     ⟨"OUT", 8, 5, .rw, 0, .v, false⟩]⟩]

/-- A part of `dirRegs`. -/
def dirRegs2 : List RegDef := [
  ⟨"DIR_XPCUR", 0x06180C, [],
    [⟨"CUR", 0, 18, .ro, 0, .v, false⟩]⟩,
  ⟨"DIR_EVT", 0x061810, [],
    [⟨"GTO", 0, 1, .w1c, 0, .h, false⟩,
     ⟨"GOVR", 1, 1, .w1c, 0, .h, false⟩,
     ⟨"SAT", 2, 1, .w1c, 0, .h, false⟩,
     ⟨"BQDONE", 3, 1, .w1c, 0, .h, false⟩,
     ⟨"BQOVR", 4, 1, .w1c, 0, .h, false⟩,
     ⟨"INSF", 5, 1, .w1c, 0, .h, false⟩]⟩,
  ⟨"DIR_MASK", 0x061814, [],
    [⟨"MASK", 0, 6, .rw, 0x14, .h, false⟩]⟩,
  ⟨"DIR_GLB_INSF", 0x061818, [],
    [⟨"IN", 0, 24, .rol, 0, .v, false⟩]⟩]

/-- Registers of 0x060000 to 0x06FFFF (R162). -/
def dirRegs : List RegDef :=
  dirRegs1 ++ dirRegs2

/-- A part of `cscRegs`. -/
def cscRegs1 : List RegDef := [
  ⟨"CSC_REF", 0x070000, [],
    [⟨"EN", 0, 1, .rw, 0, .s, true⟩,
     ⟨"AUTO", 1, 1, .ro, 0, .s, true⟩,
     ⟨"RDY", 8, 1, .ro, 0, .v, false⟩]⟩,
  ⟨"CSC_RSEQ", 0x070004, [],
    [⟨"NA", 0, 6, .rw, 0, .s, true⟩,
     ⟨"NB", 8, 6, .rw, 0, .s, true⟩,
     ⟨"SIMUL", 16, 1, .rw, 0, .s, true⟩]⟩,
  ⟨"CSC_TRG", 0x070008, [(3, 0x4)],
    [⟨"SRC", 0, 3, .rw, 0, .s, true⟩,
     ⟨"TMR", 4, 2, .rw, 0, .s, true⟩,
     ⟨"DIV", 8, 8, .rw, 0, .s, true⟩,
     ⟨"DLY", 16, 11, .rw, 0, .s, true⟩]⟩,
  ⟨"CSC_CTRL", 0x070014, [],
    [⟨"STARTA", 0, 1, .w1p, 0, .v, false⟩,
     ⟨"STARTB", 1, 1, .w1p, 0, .v, false⟩,
     ⟨"STARTI", 2, 1, .w1p, 0, .v, false⟩]⟩,
  ⟨"CSC_STAT", 0x070018, [],
    [⟨"RUNA", 0, 1, .ro, 0, .v, false⟩,
     ⟨"RUNB", 1, 1, .ro, 0, .v, false⟩,
     ⟨"RUNI", 2, 1, .ro, 0, .v, false⟩,
     ⟨"PRIV", 3, 1, .ro, 0, .v, false⟩]⟩,
  ⟨"CSC_EVT", 0x07001C, [],
    [⟨"OVRA", 0, 1, .w1c, 0, .h, false⟩,
     ⟨"OVRB", 1, 1, .w1c, 0, .h, false⟩,
     ⟨"OVRI", 2, 1, .w1c, 0, .h, false⟩,
     ⟨"REFNR", 3, 1, .w1c, 0, .h, false⟩,
     ⟨"DONEA", 4, 1, .w1c, 0, .h, false⟩,
     ⟨"DONEB", 5, 1, .w1c, 0, .h, false⟩,
     ⟨"DONEI", 6, 1, .w1c, 0, .h, false⟩,
     ⟨"CFGERR", 7, 1, .w1c, 0, .h, false⟩]⟩,
  ⟨"CSC_MASK", 0x070020, [],
    [⟨"MASK", 0, 8, .rw, 0x8F, .h, false⟩]⟩,
  ⟨"CSC_OVRCNT", 0x070024, [],
    [⟨"A", 0, 10, .ro, 0, .s, false⟩,
     ⟨"B", 10, 10, .ro, 0, .s, false⟩,
     ⟨"I", 20, 10, .ro, 0, .s, false⟩]⟩,
  ⟨"CSC_SNAP_MASK0", 0x070028, [],
    [⟨"MASK", 0, 32, .rw, 0, .h, false⟩]⟩,
  ⟨"CSC_SNAP_CTRL", 0x07002C, [],
    [⟨"MASK1", 0, 4, .rw, 0, .h, false⟩,
     ⟨"CLR", 8, 1, .rw, 0, .h, false⟩,
     ⟨"GO", 16, 1, .w1p, 0, .v, false⟩]⟩]

/-- A part of `cscRegs`. -/
def cscRegs2 : List RegDef := [
  ⟨"CSC_PRIVCNT", 0x070030, [],
    [⟨"A", 0, 16, .ro, 0, .s, false⟩,
     ⟨"B", 16, 16, .ro, 0, .s, false⟩]⟩,
  ⟨"CSC_TMR", 0x070040, [(4, 0x4)],
    [⟨"PER", 0, 16, .rw, 0, .s, true⟩,
     ⟨"EN", 31, 1, .rw, 0, .s, true⟩]⟩,
  ⟨"CSC_RENT", 0x070100, [(32, 0x4)],
    [⟨"CH", 0, 6, .rw, 0, .s, true⟩,
     ⟨"DISC", 8, 3, .rw, 0, .s, true⟩]⟩,
  ⟨"CSC_IENT", 0x070180, [(4, 0x4)],
    [⟨"CH", 0, 6, .rw, 0, .s, true⟩,
     ⟨"DISC", 8, 3, .rw, 0, .s, true⟩,
     ⟨"UNIT", 16, 1, .rw, 0, .s, true⟩,
     ⟨"EN", 31, 1, .rw, 0, .s, true⟩]⟩,
  ⟨"CSC_ACC_CFG", 0x070200, [(36, 0x10)],
    [⟨"LIM", 0, 4, .rw, 0, .s, true⟩]⟩,
  ⟨"CSC_SNAP_SUM", 0x070204, [(36, 0x10)],
    [⟨"SUM", 0, 32, .ro, 0, .v, false⟩]⟩,
  ⟨"CSC_SNAP_CNT", 0x070208, [(36, 0x10)],
    [⟨"COUNT", 0, 11, .ro, 0, .v, false⟩,
     ⟨"FULL", 11, 1, .ro, 0, .v, false⟩,
     ⟨"REFX", 12, 1, .ro, 0, .v, false⟩,
     ⟨"UNS", 16, 16, .ro, 0, .v, false⟩]⟩,
  ⟨"CSC_SNAP_MM", 0x07020C, [(36, 0x10)],
    [⟨"MIN", 0, 16, .ro, 0xFFFF, .v, false⟩,
     ⟨"MAX", 16, 16, .ro, 0, .v, false⟩]⟩,
  ⟨"CSC_WC_CFG", 0x070500, [(16, 0x10)],
    [⟨"ACC", 0, 6, .rw, 0, .s, true⟩,
     ⟨"AVG", 8, 3, .rw, 0, .s, true⟩,
     ⟨"MODE", 12, 1, .rw, 0, .s, true⟩,
     ⟨"EN", 15, 1, .rw, 0, .s, true⟩,
     ⟨"HALF", 16, 16, .rw, 0, .s, true⟩]⟩,
  ⟨"CSC_WC_BAND", 0x070504, [(16, 0x10)],
    [⟨"LO", 0, 16, .rw, 0, .s, true⟩,
     ⟨"HI", 16, 16, .rw, 0, .s, true⟩]⟩]

/-- A part of `cscRegs`. -/
def cscRegs3 : List RegDef := [
  ⟨"CSC_WC_VAL", 0x070508, [(16, 0x10)],
    [⟨"VAL", 0, 16, .ro, 0, .v, false⟩]⟩,
  ⟨"CSC_WC_EVT", 0x070600, [],
    [⟨"OUT", 0, 16, .w1c, 0, .h, false⟩]⟩,
  ⟨"CSC_WC_MASK", 0x070604, [],
    [⟨"MASK", 0, 16, .rw, 0xFFFF, .h, false⟩]⟩]

/-- Registers of 0x070000 to 0x07FFFF (R358). -/
def cscRegs : List RegDef :=
  cscRegs1 ++ cscRegs2 ++ cscRegs3

end Sys2Proof.Machine
end

