-- ==== Sys2Proof/Machine/RegMapD.lean ====
section
/-! DEFINITION. The register tables of the manual (Trellis, memory, DMA, serial ports, xSPI), one entry for each register kind: name, address of its first instance, the (count, stride)
of each index, and its fields as bits, access code of R8, reset value, retention class of R11 and whether the reset column reads "image"
or names an OTP value. Where it reads "image" the entry holds the value of R479 (a record that writes nothing). -/

namespace Sys2Proof.Machine

/-- A part of `trlLinkRegs`. -/
def trlLinkRegs1 : List RegDef := [
  ⟨"TRL_PCFG", 0x080000, [(4, 0x100)],
    [⟨"EN", 0, 1, .ro, 0, .s, true⟩,
     ⟨"TXINV", 1, 1, .ro, 0, .s, true⟩,
     ⟨"EQ", 2, 2, .ro, 0, .s, true⟩,
     ⟨"TXAMP", 4, 2, .ro, 0, .s, true⟩,
     ⟨"TXDE", 6, 2, .ro, 0, .s, true⟩]⟩,
  ⟨"TRL_PCTRL", 0x080004, [(4, 0x100)],
    [⟨"RETRAIN", 0, 1, .w1p, 0, .v, false⟩]⟩,
  ⟨"TRL_LSTAT", 0x080008, [(4, 0x100)],
    [⟨"STATE", 0, 3, .ro, 0, .v, false⟩,
     ⟨"RXINV", 3, 1, .ro, 0, .v, false⟩,
     ⟨"PEERRX", 4, 1, .ro, 0, .v, false⟩,
     ⟨"UPSTRM", 5, 1, .ro, 0, .v, false⟩,
     ⟨"A", 8, 8, .ro, 0, .v, false⟩,
     ⟨"LIVE", 16, 4, .ro, 0, .v, false⟩]⟩,
  ⟨"TRL_RXDLY", 0x08000C, [(4, 0x100)],
    [⟨"HD", 0, 16, .ro, 0, .v, false⟩,
     ⟨"HB", 16, 16, .ro, 0, .v, false⟩]⟩,
  ⟨"TRL_RHO", 0x080010, [(4, 0x100)],
    [⟨"RHO", 0, 32, .ro, 0, .v, false⟩]⟩,
  ⟨"TRL_CABLE", 0x080014, [(4, 0x100)],
    [⟨"DELTA", 0, 16, .ro, 0, .v, false⟩]⟩,
  ⟨"TRL_PEERID_LO", 0x080018, [(4, 0x100)],
    [⟨"ID", 0, 32, .ro, 0, .v, false⟩]⟩,
  ⟨"TRL_PEERID_HI", 0x08001C, [(4, 0x100)],
    [⟨"ID", 0, 32, .ro, 0, .v, false⟩]⟩,
  ⟨"TRL_CNT_CRC", 0x080020, [(4, 0x100)],
    [⟨"CRC", 0, 32, .ro, 0, .s, false⟩]⟩,
  ⟨"TRL_CNT_MISS", 0x080024, [(4, 0x100)],
    [⟨"MISS", 0, 32, .ro, 0, .s, false⟩]⟩]

/-- A part of `trlLinkRegs`. -/
def trlLinkRegs2 : List RegDef := [
  ⟨"TRL_CNT_LINK", 0x080028, [(4, 0x100)],
    [⟨"FAILS", 0, 16, .ro, 0, .s, false⟩,
     ⟨"TRAINS", 16, 16, .ro, 0, .s, false⟩]⟩,
  ⟨"TRL_CNT_CV", 0x08002C, [(4, 0x100)],
    [⟨"CV", 0, 32, .ro, 0, .s, false⟩]⟩,
  ⟨"TRL_EVT", 0x080030, [(4, 0x100)],
    [⟨"UP", 0, 1, .w1c, 0, .h, false⟩,
     ⟨"FAIL", 1, 1, .w1c, 0, .h, false⟩,
     ⟨"CRC", 2, 1, .w1c, 0, .h, false⟩,
     ⟨"MISS", 3, 1, .w1c, 0, .h, false⟩,
     ⟨"BURST", 4, 1, .w1c, 0, .h, false⟩,
     ⟨"RDI", 5, 1, .w1c, 0, .h, false⟩,
     ⟨"ALGNERR", 6, 1, .w1c, 0, .h, false⟩,
     ⟨"RETIME", 7, 1, .w1c, 0, .h, false⟩]⟩,
  ⟨"TRL_MASK", 0x080034, [(4, 0x100)],
    [⟨"MASK", 0, 8, .rw, 0xE3, .h, false⟩]⟩,
  ⟨"TRL_GLB_STAT", 0x080400, [],
    [⟨"GRIDOK", 0, 1, .ro, 0, .v, false⟩,
     ⟨"UPV", 1, 1, .ro, 0, .v, false⟩,
     ⟨"UPPORT", 2, 2, .ro, 0, .v, false⟩]⟩,
  ⟨"TRL_GLB_EVT", 0x080404, [],
    [⟨"GRID", 0, 1, .w1c, 0, .h, false⟩]⟩,
  ⟨"TRL_GLB_MASK", 0x080408, [],
    [⟨"MASK", 0, 1, .rw, 1, .h, false⟩]⟩]

/-- Registers of 0x080000 to 0x080FFF (R405). -/
def trlLinkRegs : List RegDef :=
  trlLinkRegs1 ++ trlLinkRegs2

/-- A part of `trlRouteRegs`. -/
def trlRouteRegs1 : List RegDef := [
  ⟨"TRL_RT_CFG", 0x081000, [],
    [⟨"ROOT", 0, 1, .ro, 0, .s, true⟩,
     ⟨"REQ", 4, 4, .ro, 0, .s, true⟩,
     ⟨"NOTE", 8, 6, .rw, 0, .s, true⟩]⟩,
  ⟨"TRL_RT_STAT", 0x081004, [],
    [⟨"ADDR", 0, 6, .ro, 0, .h, false⟩,
     ⟨"HOP", 8, 6, .ro, 0, .h, false⟩,
     ⟨"PARENT", 16, 2, .ro, 0, .h, false⟩,
     ⟨"PV", 18, 1, .ro, 0, .h, false⟩,
     ⟨"CENRUN", 19, 1, .ro, 0, .v, false⟩,
     ⟨"EPOCH", 24, 8, .ro, 0, .h, false⟩]⟩,
  ⟨"TRL_RT_CTRL", 0x081008, [],
    [⟨"START", 0, 1, .w1p, 0, .v, false⟩]⟩,
  ⟨"TRL_RT_ROOT", 0x08100C, [],
    [⟨"COUNT", 0, 6, .ro, 0, .h, false⟩,
     ⟨"OVF", 8, 1, .ro, 0, .h, false⟩]⟩,
  ⟨"TRL_RT_EVT", 0x081010, [],
    [⟨"EVT", 0, 13, .w1c, 0, .h, false⟩]⟩,
  ⟨"TRL_RT_MASK", 0x081014, [],
    [⟨"MASK", 0, 13, .rw, 0x1ED2, .h, false⟩]⟩,
  ⟨"TRL_RT_CNT", 0x081018, [],
    [⟨"PKTERR", 0, 16, .ro, 0, .s, false⟩,
     ⟨"NOROUTE", 16, 16, .ro, 0, .s, false⟩]⟩,
  ⟨"TRL_RA_CFG", 0x081020, [],
    [⟨"NWORDS", 0, 6, .rw, 0, .h, false⟩]⟩,
  ⟨"TRL_RA_STAT", 0x081024, [],
    [⟨"RPEND", 0, 1, .ro, 0, .v, false⟩,
     ⟨"RDONE", 1, 1, .ro, 0, .v, false⟩,
     ⟨"WPEND", 2, 1, .ro, 0, .v, false⟩,
     ⟨"ERR", 4, 3, .ro, 0, .v, false⟩,
     ⟨"QFREE", 8, 4, .ro, 8, .v, false⟩]⟩,
  ⟨"TRL_RA_PROG", 0x081028, [],
    [⟨"SEQTX", 0, 8, .ro, 0, .h, false⟩,
     ⟨"SEQACK", 8, 8, .ro, 0, .h, false⟩,
     ⟨"OUT", 16, 4, .ro, 0, .h, false⟩,
     ⟨"STATE", 20, 3, .ro, 0, .h, false⟩,
     ⟨"DST", 24, 6, .ro, 0, .h, false⟩]⟩]

/-- A part of `trlRouteRegs`. -/
def trlRouteRegs2 : List RegDef := [
  ⟨"TRL_RA_NOTE", 0x08102C, [],
    [⟨"SUM", 0, 16, .ro, 0, .v, false⟩,
     ⟨"SRC", 16, 6, .ro, 0, .v, false⟩]⟩,
  ⟨"TRL_RT_PSTAT", 0x081040, [(4, 0x4)],
    [⟨"ROLE", 0, 2, .ro, 0, .h, false⟩,
     ⟨"PEER", 8, 6, .ro, 0, .h, false⟩,
     ⟨"HS", 16, 2, .ro, 0, .v, false⟩]⟩,
  ⟨"TRL_RT_DEST", 0x081100, [(63, 0x4)],
    [⟨"PORT", 0, 2, .ro, 0, .h, false⟩,
     ⟨"VIA", 2, 1, .ro, 0, .h, false⟩,
     ⟨"LOCAL", 3, 1, .ro, 0, .h, false⟩]⟩,
  ⟨"TRL_TOPO", 0x081400, [(63, 0x10), (4, 0x4)],
    [⟨"REC", 0, 32, .ro, 0, .h, false⟩]⟩,
  ⟨"TRL_LOUT", 0x081800, [(4, 0x4)],
    [⟨"EN", 0, 1, .ro, 0, .s, true⟩,
     ⟨"W", 1, 4, .ro, 0, .s, true⟩,
     ⟨"PEN", 5, 1, .ro, 0, .s, true⟩,
     ⟨"P", 6, 4, .ro, 0, .s, true⟩]⟩,
  ⟨"TRL_LIN", 0x081810, [(4, 0x4)],
    [⟨"ROUTE", 0, 10, .ro, 0, .s, true⟩,
     ⟨"HOPS", 10, 4, .ro, 0, .s, true⟩,
     ⟨"PHOPS", 14, 4, .ro, 0, .s, true⟩,
     ⟨"ACT", 18, 1, .ro, 0, .v, false⟩,
     ⟨"PGOOD", 19, 1, .ro, 0, .v, false⟩,
     ⟨"EQ", 20, 8, .ro, 0, .v, false⟩,
     ⟨"FORCE", 28, 1, .w1p, 0, .v, false⟩]⟩,
  ⟨"TRL_XIT", 0x081820, [(16, 0x4)],
    [⟨"ROUTE", 0, 9, .ro, 0, .s, true⟩,
     ⟨"HOPS", 9, 4, .ro, 0, .s, true⟩]⟩,
  ⟨"TRL_BOUT", 0x081880, [(32, 0x4)],
    [⟨"ROUTE", 0, 20, .ro, 0, .s, true⟩]⟩,
  ⟨"TRL_BIN", 0x081900, [(32, 0x4)],
    [⟨"ROUTE", 0, 20, .ro, 0, .s, true⟩,
     ⟨"ACT", 20, 1, .ro, 0, .v, false⟩,
     ⟨"PGOOD", 21, 1, .ro, 0, .v, false⟩]⟩,
  ⟨"TRL_BXIT", 0x081980, [(16, 0x4)],
    [⟨"ROUTE", 0, 26, .ro, 0, .s, true⟩]⟩]

/-- A part of `trlRouteRegs`. -/
def trlRouteRegs3 : List RegDef := [
  ⟨"TRL_PROT", 0x0819C0, [],
    [⟨"HOLD", 0, 13, .ro, 704, .s, true⟩,
     ⟨"REV", 16, 8, .ro, 0, .s, true⟩]⟩]

/-- Registers of 0x081000 to 0x08FFFF (R436). -/
def trlRouteRegs : List RegDef :=
  trlRouteRegs1 ++ trlRouteRegs2 ++ trlRouteRegs3

/-- A part of `dmaMemRegs`. -/
def dmaMemRegs1 : List RegDef := [
  ⟨"MEM_CFG", 0x090C00, [],
    [⟨"SCRUB", 0, 1, .rw, 1, .h, false⟩]⟩,
  ⟨"MEM_RET", 0x090C04, [],
    [⟨"BANKS", 0, 16, .rw, 1, .h, false⟩]⟩,
  ⟨"MEM_BANK_STAT", 0x090C08, [],
    [⟨"FAILED", 0, 16, .ro, 0, .s, false⟩]⟩,
  ⟨"MEM_CE_CNT", 0x090C0C, [],
    [⟨"CE", 0, 32, .ro, 0, .s, false⟩]⟩,
  ⟨"MEM_UE_CNT", 0x090C10, [],
    [⟨"UE", 0, 32, .ro, 0, .s, false⟩]⟩,
  ⟨"MEM_UE_ADDR", 0x090C14, [],
    [⟨"ADDR", 0, 24, .ro, 0, .h, false⟩,
     ⟨"RDR", 28, 3, .ro, 0, .h, false⟩]⟩,
  ⟨"MEM_EVT", 0x090C18, [],
    [⟨"CE", 0, 1, .w1c, 0, .h, false⟩,
     ⟨"UE", 1, 1, .w1c, 0, .h, false⟩,
     ⟨"BANKFAIL", 2, 1, .w1c, 0, .h, false⟩,
     ⟨"COEFUE", 3, 1, .w1c, 0, .h, false⟩,
     ⟨"CFGWR", 4, 1, .w1c, 0, .h, false⟩]⟩,
  ⟨"MEM_MASK", 0x090C1C, [],
    [⟨"MASK", 0, 5, .rw, 0x1E, .h, false⟩]⟩,
  ⟨"MEM_PART", 0x090C20, [(6, 0x4)],
    [⟨"START", 0, 10, .ro, 0, .s, true⟩,
     ⟨"SIZE", 16, 11, .ro, 0, .s, true⟩]⟩,
  ⟨"DMA_CH_CFG", 0x090000, [(16, 0x40)],
    [⟨"PRIO", 0, 2, .rw, 0, .h, false⟩,
     ⟨"COUNTM1", 8, 8, .rw, 1, .h, false⟩]⟩]

/-- A part of `dmaMemRegs`. -/
def dmaMemRegs2 : List RegDef := [
  ⟨"DMA_CH_BASE", 0x090004, [(16, 0x40)],
    [⟨"BASE", 0, 24, .rw, 0x100000, .h, false⟩]⟩,
  ⟨"DMA_CH_CTRL", 0x090008, [(16, 0x40)],
    [⟨"GO", 0, 1, .w1p, 0, .v, false⟩,
     ⟨"STOP", 1, 1, .w1p, 0, .v, false⟩,
     ⟨"ABORT", 2, 1, .w1p, 0, .v, false⟩,
     ⟨"SKIP", 3, 1, .w1p, 0, .v, false⟩,
     ⟨"RESTART", 4, 1, .w1p, 0, .v, false⟩]⟩,
  ⟨"DMA_CH_STAT", 0x09000C, [(16, 0x40)],
    [⟨"STATE", 0, 3, .ro, 0, .v, false⟩,
     ⟨"GOPEND", 3, 1, .ro, 0, .v, false⟩,
     ⟨"STOPREQ", 4, 1, .ro, 0, .v, false⟩,
     ⟨"IDX", 8, 8, .ro, 0, .h, false⟩]⟩,
  ⟨"DMA_CH_PROG0", 0x090010, [(16, 0x40)],
    [⟨"XFER", 0, 24, .ro, 0, .h, false⟩]⟩,
  ⟨"DMA_CH_PROG1", 0x090014, [(16, 0x40)],
    [⟨"CONF", 0, 24, .ro, 0, .h, false⟩,
     ⟨"IDX", 24, 8, .ro, 0, .h, false⟩]⟩,
  ⟨"DMA_CH_ERRADDR", 0x090018, [(16, 0x40)],
    [⟨"ADDR", 0, 32, .ro, 0, .h, false⟩]⟩,
  ⟨"DMA_CH_ERRINFO", 0x09001C, [(16, 0x40)],
    [⟨"DIR", 0, 1, .ro, 0, .h, false⟩,
     ⟨"CAUSE", 1, 4, .ro, 0, .h, false⟩]⟩,
  ⟨"DMA_CH_CNT", 0x090020, [(16, 0x40)],
    [⟨"DONE", 0, 16, .ro, 0, .s, false⟩,
     ⟨"ERR", 16, 16, .ro, 0, .s, false⟩]⟩,
  ⟨"DMA_EVT_DONE", 0x090800, [],
    [⟨"DONE", 0, 16, .w1c, 0, .h, false⟩]⟩,
  ⟨"DMA_EVT_ERR", 0x090804, [],
    [⟨"ERR", 0, 16, .w1c, 0, .h, false⟩,
     ⟨"LATE", 16, 16, .w1c, 0, .h, false⟩]⟩]

/-- A part of `dmaMemRegs`. -/
def dmaMemRegs3 : List RegDef := [
  ⟨"DMA_MASK_DONE", 0x090808, [],
    [⟨"MASK", 0, 16, .rw, 0xFFFF, .h, false⟩]⟩,
  ⟨"DMA_MASK_ERR", 0x09080C, [],
    [⟨"MASK", 0, 32, .rw, 0xFFFF, .h, false⟩]⟩,
  ⟨"DMA_GLB_STAT", 0x090810, [],
    [⟨"BUSY", 0, 16, .ro, 0, .v, false⟩]⟩]

/-- Registers of 0x090000 to 0x09FFFF (R470). -/
def dmaMemRegs : List RegDef :=
  dmaMemRegs1 ++ dmaMemRegs2 ++ dmaMemRegs3

/-- Registers of 0x0A0000 to 0x0AFFFF (R286). -/
def sapRegs : List RegDef := [
  ⟨"SAP_CFG", 0x0A0000, [(4, 0x100)],
    [⟨"FMT", 0, 2, .ro, 0, .s, true⟩,
     ⟨"ROLE", 2, 1, .ro, 0, .s, true⟩,
     ⟨"SYNC", 3, 1, .ro, 0, .s, true⟩,
     ⟨"RATE", 4, 3, .ro, 0, .s, true⟩,
     ⟨"SLOTS", 8, 4, .ro, 0, .s, true⟩,
     ⟨"WIDTH", 12, 2, .ro, 0, .s, true⟩,
     ⟨"DLY", 14, 1, .ro, 0, .s, true⟩,
     ⟨"BPOL", 15, 1, .ro, 0, .s, true⟩,
     ⟨"FPOL", 16, 1, .ro, 0, .s, true⟩,
     ⟨"FSW", 17, 1, .ro, 0, .s, true⟩,
     ⟨"TAGIN", 18, 1, .ro, 0, .s, true⟩,
     ⟨"TAGOUT", 19, 1, .ro, 0, .s, true⟩,
     ⟨"EN", 20, 1, .ro, 0, .s, true⟩]⟩,
  ⟨"SAP_PHASE", 0x0A0004, [(4, 0x100)],
    [⟨"FPH", 0, 8, .ro, 0, .s, true⟩,
     ⟨"MEAS", 16, 8, .ro, 0, .v, false⟩]⟩,
  ⟨"SAP_STAT", 0x0A0008, [(4, 0x100)],
    [⟨"RUN", 0, 1, .ro, 0, .v, false⟩,
     ⟨"SYNCOK", 1, 1, .ro, 0, .v, false⟩]⟩,
  ⟨"SAP_EVT", 0x0A000C, [(4, 0x100)],
    [⟨"FSERR", 0, 1, .w1c, 0, .h, false⟩,
     ⟨"LOST", 1, 1, .w1c, 0, .h, false⟩,
     ⟨"REGAIN", 2, 1, .w1c, 0, .h, false⟩,
     ⟨"PART", 3, 1, .w1c, 0, .h, false⟩,
     ⟨"SAT", 4, 1, .w1c, 0, .h, false⟩]⟩,
  ⟨"SAP_MASK", 0x0A0010, [(4, 0x100)],
    [⟨"MASK", 0, 5, .rw, 0xA, .h, false⟩]⟩,
  ⟨"SAP_CNT", 0x0A0014, [(4, 0x100)],
    [⟨"FSERR", 0, 16, .ro, 0, .s, false⟩,
     ⟨"PART", 16, 16, .ro, 0, .s, false⟩]⟩,
  ⟨"SAP_SAT", 0x0A0018, [(4, 0x100)],
    [⟨"SAT", 0, 32, .ro, 0, .s, false⟩]⟩,
  ⟨"SAP_RXMAP", 0x0A0040, [(4, 0x100), (16, 0x4)],
    [⟨"CODE", 0, 8, .ro, 0, .s, true⟩]⟩,
  ⟨"SAP_TXMAP", 0x0A0080, [(4, 0x100), (16, 0x4)],
    [⟨"CODE", 0, 8, .ro, 0, .s, true⟩]⟩]

/-- A part of `xspiRegs`. -/
def xspiRegs1 : List RegDef := [
  ⟨"XSPI_CFG", 0x0B0000, [],
    [⟨"MODE", 0, 2, .rw, 1, .h, false⟩,
     ⟨"DIV", 2, 2, .rw, 0, .h, false⟩,
     ⟨"DUMMY", 4, 5, .rw, 8, .h, false⟩,
     ⟨"MEMTYPE", 9, 1, .rw, 0, .h, false⟩,
     ⟨"DQS", 10, 1, .rw, 0, .h, false⟩,
     ⟨"PAGE", 12, 4, .rw, 8, .h, false⟩,
     ⟨"MAXB", 16, 10, .rw, 0x40, .h, false⟩]⟩,
  ⟨"XSPI_CMD", 0x0B0004, [],
    [⟨"RDOPC", 0, 16, .rw, 3, .h, false⟩,
     ⟨"WROPC", 16, 16, .rw, 2, .h, false⟩]⟩,
  ⟨"XSPI_CMD2", 0x0B0008, [],
    [⟨"WREN", 0, 16, .rw, 6, .h, false⟩,
     ⟨"RDSR", 16, 16, .rw, 5, .h, false⟩]⟩,
  ⟨"XSPI_POLL", 0x0B000C, [],
    [⟨"BUSYMASK", 0, 8, .rw, 1, .h, false⟩,
     ⟨"SDUMMY", 8, 5, .rw, 0, .h, false⟩,
     ⟨"POLLTO", 16, 16, .rw, 0xBB8, .h, false⟩]⟩,
  ⟨"XSPI_ICMD", 0x0B0010, [],
    [⟨"OPC", 0, 16, .rw, 0, .v, false⟩,
     ⟨"ADDRB", 16, 3, .rw, 0, .v, false⟩,
     ⟨"DUMMY", 19, 5, .rw, 0, .v, false⟩,
     ⟨"NDATA", 24, 4, .rw, 0, .v, false⟩,
     ⟨"DIR", 28, 1, .rw, 0, .v, false⟩,
     ⟨"POLL", 29, 1, .rw, 0, .v, false⟩,
     ⟨"GO", 31, 1, .w1p, 0, .v, false⟩]⟩,
  ⟨"XSPI_IADDR", 0x0B0014, [],
    [⟨"ADDR", 0, 32, .rw, 0, .v, false⟩]⟩,
  ⟨"XSPI_IDATA", 0x0B0018, [(2, 0x4)],
    [⟨"DATA", 0, 32, .rw, 0, .v, false⟩]⟩,
  ⟨"XSPI_STAT", 0x0B0020, [],
    [⟨"BUSY", 0, 1, .ro, 0, .v, false⟩,
     ⟨"IBUSY", 1, 1, .ro, 0, .v, false⟩,
     ⟨"IERR", 2, 1, .ro, 0, .v, false⟩,
     ⟨"MODE_NOW", 3, 2, .ro, 1, .v, false⟩]⟩,
  ⟨"XSPI_WPROG0", 0x0B0024, [],
    [⟨"ADDR", 0, 29, .ro, 0, .h, false⟩]⟩,
  ⟨"XSPI_WPROG1", 0x0B0028, [],
    [⟨"STATE", 0, 3, .ro, 0, .h, false⟩,
     ⟨"KIND", 3, 1, .ro, 0, .h, false⟩,
     ⟨"PAGES", 16, 16, .ro, 0, .h, false⟩]⟩]

/-- A part of `xspiRegs`. -/
def xspiRegs2 : List RegDef := [
  ⟨"XSPI_EVT", 0x0B002C, [],
    [⟨"IDONE", 0, 1, .w1c, 0, .h, false⟩,
     ⟨"PTO", 1, 1, .w1c, 0, .h, false⟩]⟩,
  ⟨"XSPI_MASK", 0x0B0030, [],
    [⟨"MASK", 0, 2, .rw, 2, .h, false⟩]⟩]

/-- Registers of 0x0B0000 to 0x0BFFFF (R470). -/
def xspiRegs : List RegDef :=
  xspiRegs1 ++ xspiRegs2

end Sys2Proof.Machine
end

