-- ==== Sys2Proof/Machine/RegMap.lean ====
section
/-! DEFINITION. The local register map (R513) as one lookup: the table of a block by the block's address range, and the register that holds an address. -/

namespace Sys2Proof.Machine

/-- The register tables of the block that an address falls in (R513). -/
def regsOf (addr : Nat) : List RegDef :=
  if addr < 0x000800 then sysRegs
  else if addr < 0x001000 then fltRegs
  else if addr < 0x002000 then pwrRegs
  else if addr < 0x003000 then irqRegs
  else if addr < 0x004000 then clkRegs
  else if addr < 0x005000 then imgRegs
  else if addr < 0x006000 then secRegs
  else if addr < 0x007000 then bstRegs
  else if addr < 0x012000 then cellRegs
  else if addr < 0x022000 then uapRegs
  else if addr < 0x024000 then hpJackRegs
  else if addr < 0x026000 then spkRegs
  else if addr < 0x038000 then chainRegs
  else if addr < 0x040000 then srcRegs
  else if addr < 0x044000 then grfRegs
  else if addr < 0x050000 then pageRegs
  else if addr < 0x070000 then dirRegs
  else if addr < 0x080000 then cscRegs
  else if addr < 0x081000 then trlLinkRegs
  else if addr < 0x090000 then trlRouteRegs
  else if addr < 0x0A0000 then dmaMemRegs
  else if addr < 0x0B0000 then sapRegs
  else if addr < 0x0C0000 then xspiRegs
  else []

/-- The register that holds the word at a local address; none where the address is reserved (R10). -/
def findReg (addr : Nat) : Option RegDef := (regsOf addr).find? (fun r => r.covers addr)

/-- The word a register takes when every field of it takes its reset value; the GROUP field of a cell is fixed by the cell (R39). -/
def resetWord (addr : Nat) : Word :=
  match findReg addr with
  | none => 0
  | some r =>
    if r.base = 0x010000 then BitVec.ofNat 32 (groupOfCell ((addr - 0x010000) / 0x40) * 0x100)
    else BitVec.ofNat 32 r.resetValue

end Sys2Proof.Machine
end

