-- ==== Sys2Proof/Machine/Tab.lean ====
section
/-! DEFINITION. Sparse tables: the one form in which State holds anything it has many of (register words, memory bytes, cells, chains).
A table lists only the entries that differ from what an unlisted key reads as, at rising keys, so that equal contents are equal lists. -/

namespace Sys2Proof.Machine

/-- A sparse table: (key, value) pairs. -/
abbrev Tab (α : Type) := List (Nat × α)

/-- The value at a key; `d` says what an unlisted key reads as. -/
def Tab.get {α : Type} (d : Nat → α) : Tab α → Nat → α
  | [], k => d k
  | (j, v) :: rest, k => if j = k then v else Tab.get d rest k

/-- Put an entry in front of the first larger key. -/
def Tab.insert {α : Type} (k : Nat) (v : α) : Tab α → Tab α
  | [] => [(k, v)]
  | (j, w) :: rest => if k < j then (k, v) :: (j, w) :: rest else (j, w) :: Tab.insert k v rest

/-- Remove the entry at a key. -/
def Tab.erase {α : Type} (t : Tab α) (k : Nat) : Tab α := t.filter (fun p => p.1 != k)

/-- Write a value at a key, keeping the canonical form: a value equal to what the unlisted key reads as is not listed. -/
def Tab.set {α : Type} [DecidableEq α] (d : Nat → α) (t : Tab α) (k : Nat) (v : α) : Tab α :=
  if v = d k then t.erase k else Tab.insert k v (t.erase k)

/-- Rewrite the value at a key. -/
def Tab.upd {α : Type} [DecidableEq α] (d : Nat → α) (t : Tab α) (k : Nat) (f : α → α) : Tab α :=
  t.set d k (f (t.get d k))

/-- Rewrite every listed value, dropping those that become what the unlisted key reads as. -/
def Tab.mapAll {α : Type} [DecidableEq α] (d : Nat → α) (t : Tab α) (f : Nat → α → α) : Tab α :=
  t.filterMap (fun p => if f p.1 p.2 = d p.1 then none else some (p.1, f p.1 p.2))

/-- Keys strictly rise. -/
def Tab.rising {α : Type} : Tab α → Bool
  | [] => true
  | [_] => true
  | (j, _) :: (k, w) :: rest => decide (j < k) && Tab.rising ((k, w) :: rest)

/-- The canonical form: rising keys, no entry equal to what its key reads as unlisted. -/
def Tab.wf {α : Type} [DecidableEq α] (d : Nat → α) (t : Tab α) : Bool :=
  t.rising && t.all (fun p => decide (p.2 ≠ d p.1))

/-- Byte memory: a table whose unlisted bytes read as zero. -/
abbrev Memory := Tab Byte

/-- Read a byte. -/
def Memory.read (m : Memory) (a : Nat) : Byte := Tab.get (fun _ => 0) m a

/-- Write a byte. -/
def Memory.write (m : Memory) (a : Nat) (b : Byte) : Memory := Tab.set (fun _ => 0) m a b

/-- The bytes from an address on. -/
def Memory.readList (m : Memory) (a n : Nat) : List Byte := (List.range n).map (fun i => m.read (a + i))

/-- Write bytes at rising addresses. -/
def Memory.writeList (m : Memory) (a : Nat) : List Byte → Memory
  | [] => m
  | b :: bs => Memory.writeList (m.write a b) (a + 1) bs

/-- The canonical form of a byte memory. -/
def Memory.wf (m : Memory) : Bool := Tab.wf (fun _ => 0) m

/-- A number from bytes, the first the most significant: the order of the host port, of images and of packets. DEDUCED for words of the
audio SRAM. -/
def beNat (bs : List Byte) : Nat := bs.foldl (fun acc b => 256 * acc + b.toNat) 0

/-- The word of four bytes, the first the most significant. -/
def beWord (bs : List Byte) : Word := BitVec.ofNat 32 (beNat bs)

/-- The `n` bytes of a number, the first the most significant. -/
def beBytes (n v : Nat) : List Byte := (List.range n).map (fun i => BitVec.ofNat 8 (v / 256 ^ (n - 1 - i)))

/-- Read the word at a byte address. -/
def Memory.readWord (m : Memory) (a : Nat) : Word := beWord (m.readList a 4)

/-- Write the word at a byte address. -/
def Memory.writeWord (m : Memory) (a : Nat) (w : Word) : Memory := m.writeList a (beBytes 4 w.toNat)

end Sys2Proof.Machine
end

