-- ==== Sys2Proof/Machine/State.lean ====
section
/-! DEFINITION. The state of the block, as plain data. The register file holds every field of the register tables (R11, and the tables
R77, R107, ...); the structures beside it hold what the manual gives the machine without a register. -/

namespace Sys2Proof.Machine

/-- A tagged sample (R5): the audio value in Q1.23 and the tag byte. -/
structure Sample where
  /-- audio value, Q1.23 (R5) -/
  val : BitVec 24 := 0
  /-- tag byte (R5) -/
  tag : Byte := 0
deriving DecidableEq, Repr

/-- The grid (R14 to R16) and the slow clock (R359). -/
structure Time where
  /-- core cycles since POR -/
  now : Nat := 0
  /-- tick within the frame, 0 to 255 (R15) -/
  tick : Nat := 0
  /-- a frame boundary has come that no FRAME_BOUNDARY has served yet (R17) -/
  frameDue : Bool := true
  /-- a graph instant has come that no GRAPH_INSTANT has served yet (R16, R179) -/
  graphDue : Bool := true
  /-- ticks left of the slow-clock period that runs -/
  slowLeft : Nat := 1500
  /-- slow-clock periods begun -/
  slowCount : Nat := 0
  /-- the always-on timer (R534) -/
  aont : Nat := 0
deriving DecidableEq, Repr

/-- What the interrupt pin and the host port hold outside registers (R506, R515 to R517). -/
structure HostSt where
  /-- IRQ_N is driven low -/
  irqLow : Bool := false
  /-- REARM holds IRQ_N released until this core cycle (R516) -/
  release : Option Nat := none
  /-- the masked summary was zero when it was last looked at (R517) -/
  wasZero : Bool := true
  /-- a NOTIFY has gone out in this frame; a change since waits for the next frame boundary (R517) -/
  noteSent : Bool := false
  /-- a change waits to be reported at the next frame boundary (R517) -/
  noteOwed : Bool := false
  /-- the previous transaction set a bit of SYS_EVT [3:0] (R506) -/
  prevErr : Bool := false
  /-- the status byte of the last transaction (R506) -/
  status : Byte := 0
  /-- the words the last transaction shifted out on SDO -/
  sdo : List Word := []
  /-- RSTKEY has been written in the transaction that runs (R521) -/
  rstReq : Bool := false
  /-- slow-clock periods left before the watchdog expires (R520) -/
  wdLeft : Nat := 0
  /-- the watchdog has passed half its count since the last kick (R520) -/
  wdWarned : Bool := false
deriving DecidableEq, Repr

/-- An entry of the fault ledger (R561). -/
structure LedgerEntry where
  /-- PWR_AONT at the event (R561) -/
  t : Nat := 0
  /-- CAUSE (R561, R563) -/
  cause : Nat := 0
  /-- BLOCK (R561) -/
  block : Nat := 0
  /-- mode code at the event (R561) -/
  mode : Nat := 0
  /-- SEQ (R561) -/
  seq : Nat := 0
  /-- INST (R561) -/
  inst : Nat := 0
  /-- REP, merged events (R562) -/
  rep : Nat := 0
  /-- DETAIL (R561) -/
  detail : Word := 0
  /-- the snapshot words (R561) -/
  snap : List Word := []
  /-- read since it was written, or acknowledged (R562) -/
  read : Bool := false
deriving DecidableEq, Repr

/-- The fault ledger outside FLT_STAT: its entries by index and the number of the next entry (R561, R562). -/
structure Ledger where
  /-- the entries by index (R561) -/
  entries : Tab (Option LedgerEntry) := []
  /-- number of the next entry (R562) -/
  seq : Nat := 0
deriving DecidableEq, Repr

/-- A packet that waits for the management region of a port (R416), with its class of R419: 0 census and LOFFER, 1 answers, 2 requests. -/
structure TxPacket where
  /-- port at which it waits -/
  port : Nat
  /-- its class (R419) -/
  cls : Nat
  /-- the packet (R417) -/
  pkt : Packet
deriving DecidableEq, Repr

/-- The fade of a cut element (R259): its weight in 1/64 at a core cycle, from which it rises or falls by 1/64 per graph sample; none where it has
not begun to move. -/
structure Fade where
  /-- weight at its start, in 1/64 (R258 to R261, R263) -/
  w0 : Rat := 64
  /-- it rises to full weight -/
  up : Bool := false
  /-- core cycle at which it begins -/
  at' : Option Nat := none
deriving DecidableEq, Repr

/-- A converter cell outside its registers. -/
structure CellSt where
  /-- conversions in a row that were substituted (R58) -/
  consec : Nat := 0
  /-- number of its last completed slice; 0 where it has had none (R60) -/
  age : Nat := 0
  /-- it has completed a passing slice since POR (R47) -/
  passed : Bool := false
  /-- it waits for a recovery slice (R62) -/
  waitRec : Bool := false
  /-- it waits for a promotion slice (R72) -/
  waitPromo : Bool := false
  /-- the image excludes it (R483) -/
  excluded : Bool := false
  /-- the 75 trims by index (R77) -/
  trims : Tab Nat := []
  /-- conversions as a shadowing spare since its last learning (R48) -/
  learn : Nat := 0
deriving DecidableEq, Repr

/-- A raw conversion of a stream after offset and gain correction (R45), in units of 2^-30; none where no cell converted. -/
structure RawIn where
  /-- the value; none where no cell converted (R45) -/
  v : Option Int := none
  /-- tags of the conversion (R5, R45) -/
  tag : Byte := 0
  /-- 0x7F where no cell converted -/
  cell : Nat := 0x7F
deriving DecidableEq, Repr

/-- A sample at the input of the fractional-delay filter of R45, after the substitution of R57. -/
structure FilterIn where
  /-- the value in units of 2^-30 (R45) -/
  v : Int := 0
  /-- its tags (R57) -/
  tag : Byte := 0
  /-- the cell that converted it -/
  cell : Nat := 0
deriving DecidableEq, Repr

/-- A group of cells outside its registers. -/
structure GroupSt where
  /-- the last conversion of a serving cell, with the number of its tick (R42) -/
  conv : Option (Nat × RawIn) := none
  /-- conversions of the stream, newest first, one entry for each of its holds (R43, R57) -/
  raws : List RawIn := []
  /-- the cell that served each interleave slot last (R29, R57) -/
  servers : Tab Nat := []
  /-- the inputs of the fractional-delay filter, newest first (R45) -/
  filt : List FilterIn := []
  /-- the sample delivered to the Direct matrix and the chain (R42) -/
  out : Sample := {}
  /-- core cycle of the hold of that sample (R42, R83) -/
  outAt : Nat := 0
  /-- a crossing of R81 has been detected since the last gain write or step -/
  crossed : Bool := false
  /-- core cycle of the tick that detected it (R81, R82) -/
  crossAt : Nat := 0
  /-- sum of the squared first differences of the stream since the last learning, in units of 2^-46 (R48) -/
  diffs : Nat := 0
  /-- first differences in that sum (R48) -/
  diffN : Nat := 0
  /-- conversions before this core cycle are discarded (R101) -/
  discardTo : Nat := 0
  /-- the spare's last shadow conversion: value, tag, tick number -/
  spareV : Int := 0
  /-- tag of the spare's last shadow conversion (R57) -/
  spareTag : Byte := 0
  /-- tick number of the spare's last shadow conversion (R57) -/
  spareAt : Nat := 0
  /-- an IN fault's slot waits for the spare: slot, failed cell, core cycle, whether the cell then takes a recovery slice (R58, R59) -/
  retarget : Option (Nat × Nat × Nat × Bool) := none
  /-- core cycle at which the next periodic slice is queued (R61) -/
  nextQ : Option Nat := none
  /-- a slice of the group waits in the queue (R61) -/
  queued : Bool := false
  /-- ladder codes loaded, newest first, in units of 2^-23 (R51) -/
  codes : List Int := []
  /-- read-back conversions in a row outside OUTWIN (R51) -/
  misses : Nat := 0
  /-- read-back codes in a row at an end of the range (R51) -/
  ends : Nat := 0
  /-- OUT fault engine (R52): 0 normal, 1 declared, 2 zero checks, 3 ramp, 4 held at zero, 5 waiting for the promotion of R609 -/
  stage : Nat := 0
  /-- core cycle of the declaration, then of the first tick at zero scale -/
  stageAt : Nat := 0
  /-- zero checks passed in a row (R52) -/
  checks : Nat := 0
  /-- the image lets the group start without a spare (R41) -/
  allowDegraded : Bool := false
deriving DecidableEq, Repr

/-- What a slice is (R60, R62, R72, R609). -/
inductive SliceKind where
  | periodic | recovery | promotion | outPromotion
deriving DecidableEq, Repr

/-- The slice that runs. -/
structure Slice where
  /-- group of the slice (R64) -/
  group : Nat
  /-- cell under test (R64) -/
  cell : Nat
  /-- what kind of slice it is (R60, R62, R72) -/
  kind : SliceKind
  /-- role of the cell when the slice took it -/
  role : Nat
  /-- slot of the cell when the slice took it (R64) -/
  slot : Nat
  /-- the spare that comes in -/
  spare : Nat
  /-- 1 scarf-in, 2 test, 3 scarf-out -/
  phase : Nat
  /-- core cycle of its tick 0 -/
  start : Nat
  /-- serving cell that the scarf-out tracks -/
  target : Nat
  /-- holds of the slot seen in the scarf-in (R64) -/
  k : Nat
  /-- last conversion of the cell under test at the slot its scarf-out tracks, with the number of its tick (R64) -/
  shadow : Option (Nat × Int) := none
  /-- the scarf-out has kept within its window (R64) -/
  tracks : Bool := true
deriving DecidableEq, Repr

/-- The cells outside their registers. -/
structure Cells where
  /-- the cells by number (R38) -/
  cells : Tab CellSt := []
  /-- the groups by number (R38) -/
  groups : Tab GroupSt := []
  /-- the slice that runs, one at a time (R63) -/
  slice : Option Slice := none
  /-- identifier of the next slice -/
  nextId : Nat := 1
  /-- slices completed -/
  done : Nat := 0
deriving DecidableEq, Repr

/-- The input stage of a port outside its registers (R81 to R89, R101, R104). -/
structure InSt where
  /-- core cycle at which the pending step times out (R83) -/
  toAt : Nat := 0
  /-- the compensation ramp of R83: CUR − TARGET in dB at the step, and the core cycle of the step -/
  compDb : Int := 0
  /-- core cycle of the step that the ramp compensates: the first hold at the new gain (R83) -/
  compAt : Nat := 0
  /-- the value of a step that a crossing has triggered and that a later write no longer changes (R82, R84) -/
  stepTo : Option Nat := none
  /-- held at zero until its bias has settled (R89) -/
  held : Bool := false
  /-- at zero until a ramp of a graft begins, which is no bias hold (R94, R261) -/
  waits : Bool := false
  /-- core cycle at which its ramp-in begins (R89, R101) -/
  rampAt : Option Nat := none
  /-- the fade of a change of MODE or LP before C (R261) -/
  cut : Option Fade := none
  /-- last five inputs of the calibration stage, newest first, and its gain ramp: the gain it left and graph samples done (R104, R106) -/
  calHist : List Sample := []
  /-- gain that the calibration ramp left (R104) -/
  calFrom : Nat := 0x400000
  /-- graph samples of the calibration ramp done (R104) -/
  calK : Nat := 64
deriving DecidableEq, Repr

/-- A bias supply outside its registers (R88 to R90). -/
structure BiasSt where
  /-- the pump drives it: enabled, not switched off by R90, in a mode of R606 -/
  driven : Bool := false
  /-- voltage in 0.1 V at a core cycle; from there it moves at 0.2 V/ms -/
  v0 : Rat := 0
  /-- core cycle at which the voltage was v0 (R88) -/
  at' : Nat := 0
  /-- core cycle from which its voltage lies within 2 % of VSET, while nothing drags it out again (R88 to R90) -/
  okAt : Nat := 0
deriving DecidableEq, Repr

/-- An output outside its registers (R92 to R98, R320 to R329). Outputs 0 to 15 are ports, 16 HPL, 17 HPR. -/
structure OutSt where
  /-- the output is released (R93) -/
  released : Bool := false
  /-- weight in 1/12288 at a core cycle, and its change per tick (R320, R323, R329) -/
  w0 : Nat := 0
  /-- change of the weight per tick, in 1/12288 (R320, R323, R329) -/
  slope : Int := 0
  /-- core cycle at which the weight was w0 -/
  at' : Nat := 0
  /-- the removal mute runs (R320) -/
  removal : Bool := false
  /-- range change (R95, R96): 0 none, 1 ramp down, 2 settling and ramp up, 3 waiting for the switch unreleased, 4 settling unreleased -/
  rng : Nat := 0
  /-- core cycle at which the stage of the range change began (R95) -/
  rngAt : Nat := 0
  /-- a range held under R97 -/
  rngHeld : Option Bool := none
  /-- core cycle at which the common-mode ramp in force began (R92, R94) -/
  cmAt : Nat := 0
  /-- the sample at the ladder, as last loaded -/
  last : Sample := {}
deriving DecidableEq, Repr

/-- A jack outside its registers (R313 to R321). -/
structure JackSt where
  /-- reading of the last sample, true for a plug, and the debounced reading -/
  reading : Bool := false
  /-- the debounced reading (R314) -/
  deb : Bool := false
  /-- milliseconds for which the reading has stayed unchanged (R313, R314) -/
  same : Nat := 0
  /-- a sample has been taken since the image load -/
  seen : Bool := false
  /-- samples in a row that differ from the reading in force, in the modes with wake sources (R313) -/
  wakeN : Nat := 0
  /-- core cycle at which the identification that runs began -/
  idAt : Option Nat := none
  /-- core cycle at which the second identification starts (R319) -/
  again : Option Nat := none
  /-- it is the second identification that runs, or has run -/
  second : Bool := false
  /-- steps done of R317: 0 none, 1 V0, 2 Vmid, 3 Vdc, 4 Zac -/
  step : Nat := 0
  /-- sums and counts of the codes of the three measurements, and Zac in 10 Ω -/
  v0 : Nat := 0
  /-- codes summed in v0 (R317) -/
  n0 : Nat := 0
  /-- sum of the codes of Vmid (R317) -/
  vm : Nat := 0
  /-- codes summed in vm (R317) -/
  nm : Nat := 0
  /-- sum of the codes of Vdc (R317) -/
  vd : Nat := 0
  /-- codes summed in vd (R317) -/
  nd : Nat := 0
  /-- Zac in 10 Ω (R317) -/
  zac : Nat := 0xFFFF
deriving DecidableEq, Repr

/-- Ports, bias, cloche, outputs and jacks outside their registers. -/
structure Ports where
  /-- input stages by port (R81) -/
  ins : Tab InSt := []
  /-- bias supplies (R88) -/
  bias : Tab BiasSt := []
  /-- outputs: 0 to 15 ports, 16 HPL, 17 HPR (R92, R323) -/
  outs : Tab OutSt := []
  /-- jacks (R313) -/
  jacks : Tab JackSt := []
  /-- the cloche is shut by PRIV_N (R100) -/
  shut : Bool := false
  /-- the cloche opens since this core cycle (R101) -/
  opening : Option Nat := none
  /-- core cycle at which the charge pump started; CPOK came at; each side's stage is on (R325) -/
  pumpAt : Option Nat := none
  /-- core cycle at which CPOK came (R325) -/
  cpokAt : Option Nat := none
  /-- each side's headphone stage is on (R325) -/
  hpOn : BitVec 2 := 0
deriving DecidableEq, Repr

/-- A half-band chain outside its registers (R108 to R131). Chains 0 to 15 decimate, 16 to 35 are the interpolation chains 0 to 19. -/
structure ChainSt where
  /-- tick, counted since POR, at which its rate counters last restarted (R119) -/
  start : Nat := 0
  /-- the inputs of each stage in its span, newest first: values in 2^-23 and tags (R110) -/
  hist : Tab (List (Int × Byte)) := []
  /-- the output formed at the output instant that CHAIN_OUTPUT has not delivered yet -/
  ready : Option Sample := none
  /-- the output delivered last -/
  out : Sample := {}
  /-- the last outputs of the high-rate tap (R114), newest first, each with the number of its tick -/
  taps : List (Nat × Sample) := []
  /-- outputs of the tap still to be tagged U (R127) -/
  tapLeft : Nat := 0
  /-- the sample at its input: the sink's sample or its high-rate source (R114, R168) -/
  input : Sample := {}
  /-- an SRST waits for the next output instant (R121) -/
  srst : Bool := false
  /-- tick, counted since POR, at which it restarts, and whether a graft restarts it (R122) -/
  restart : Option (Nat × Bool) := none
  /-- tick, counted since POR, from which the count of a shift write runs (R129) -/
  uAt : Option Nat := none
  /-- outputs before that tick that an earlier count still tags U (R127, R130) -/
  uOld : Nat := 0
  /-- the cut of a graft at its output (R258, R259) -/
  cut : Option Fade := none
deriving DecidableEq, Repr

/-- The chains outside their registers. -/
structure Chains where
  /-- the chains by index (R112, R115) -/
  chains : Tab ChainSt := []
  /-- the common sync is due at the next frame boundary (R120) -/
  syncDue : Bool := false
deriving DecidableEq, Repr

/-- A crosspoint outside its registers (R139 to R145). -/
structure XpSt where
  /-- gain in force, and the target that the device acts on -/
  cur : Int := 0
  /-- the target that the device acts on (R139) -/
  goal : Int := 0
  /-- it waits for a crossing until this core cycle -/
  toAt : Option Nat := none
  /-- a crossing has been detected since it waits -/
  crossed : Bool := false
  /-- its target has been stored under HOLD (R144) -/
  held : Bool := false
  /-- core cycle of tick 0 of the ramp from `cur` to `goal` -/
  rampAt : Option Nat := none
deriving DecidableEq, Repr

/-- A Direct biquad: its five coefficients in 2^-30, input history in 2^-23, output history in 2^-35 (R149). -/
structure BqSt where
  /-- b0, b1, b2, a1, a2 (R149) -/
  coef : List Int := []
  /-- input one tick ago (R149) -/
  x1 : Int := 0
  /-- input two ticks ago (R149) -/
  x2 : Int := 0
  /-- output one tick ago (R149) -/
  y1 : Int := 0
  /-- output two ticks ago (R149) -/
  y2 : Int := 0
deriving DecidableEq, Repr

/-- The pipeline of one version of an output (R137, R148): the matrix result and each biquad's output of the last tick. -/
structure DirPipe where
  /-- the matrix sum of the last tick (R133) -/
  mat : Sample := {}
  /-- the output of the first biquad stage (R148) -/
  q0 : Sample := {}
  /-- the output of the second biquad stage (R148) -/
  q1 : Sample := {}
  /-- state of the first biquad (R149) -/
  b0 : BqSt := {}
  /-- state of the second biquad (R149) -/
  b1 : BqSt := {}
deriving DecidableEq, Repr

/-- The old version of an output whose route a graft has changed (R160, R260): crosspoints with their gains in force in 1/64 of 2^-16, biquads, ladder
source, the core cycle of sample 0, and whether it serves alone while its port leaves the output role. -/
structure OldRoute where
  /-- the old route's enabled inputs and their gains (R160) -/
  gains : List (Nat × Int) := []
  /-- its number of biquads (R160) -/
  nbq : Nat := 0
  /-- its ladder source (R160) -/
  lsrc : Nat := 0
  /-- its pipeline (R160) -/
  pipe : DirPipe := {}
  /-- core cycle at which the scarf began (R160) -/
  at' : Nat := 0
  /-- samples of the scarf formed so far (R240) -/
  n : Nat := 0
  /-- the output leaves the image (R160) -/
  leaving : Bool := false
deriving DecidableEq, Repr

/-- A swap of the biquads of an output (R150, R151). -/
structure DirSwap where
  /-- core cycle of its first tick -/
  at' : Nat
  /-- its first tick has come: the new chain runs -/
  live : Bool := false
  /-- the chain of the new filters -/
  pipe : DirPipe := {}
  /-- the swap that waited, which has begun on the tick after this one: the core cycle of its first tick, and its chain -/
  next : Option (Nat × DirPipe) := none
deriving DecidableEq, Repr

/-- A matrix output outside its registers. -/
structure DirOut where
  /-- the pipeline in force (R133) -/
  pipe : DirPipe := {}
  /-- what the version in force has formed last, a swap blended in (R150) -/
  res : Sample := {}
  /-- the swap that runs (R150); one that waits is BQPEND -/
  swap : Option DirSwap := none
  /-- the old route during a route scarf (R160) -/
  old : Option OldRoute := none
deriving DecidableEq, Repr

/-- The Direct matrix outside its registers. -/
structure Direct where
  /-- crosspoints, key 24 × output + input -/
  xps : Tab XpSt := []
  /-- the matrix outputs (R133) -/
  outs : Tab DirOut := []
  /-- the samples the inputs presented on the last tick -/
  inputs : List Sample := []
deriving DecidableEq, Repr

/-- A value that moves linearly in graph samples: from, to, samples done, samples in all (R200, R226, R231). -/
structure Ramp where
  /-- value at the start (R200) -/
  src : Rat := 0
  /-- value at the end (R200) -/
  goal : Rat := 0
  /-- samples done (R200) -/
  k : Nat := 0
  /-- samples of the ramp (R200) -/
  n : Nat := 64
deriving DecidableEq, Repr

/-- A running scarf: sample k of n, equal-power or equal-gain, and the KIND of R264 (R239, R240, R249). -/
structure Scarf where
  /-- samples done (R240) -/
  k : Nat := 0
  /-- length N in samples (R240) -/
  n : Nat := 0
  /-- equal-power law (R240) -/
  power : Bool := false
  /-- KIND, what the scarf crosses (R249) -/
  kind : Nat := 0
deriving DecidableEq, Repr

/-- A graph biquad's histories: inputs in 2^-23, outputs in 2^-40 (R204). -/
structure GBq where
  /-- input one sample ago (R204) -/
  x1 : Int := 0
  /-- input two samples ago (R204) -/
  x2 : Int := 0
  /-- output one sample ago (R204) -/
  y1 : Int := 0
  /-- output two samples ago (R204) -/
  y2 : Int := 0
deriving DecidableEq, Repr

/-- A detector and its gain (R210 to R212): mean square, gain in dB, gate open, samples in a row below the closing threshold. -/
structure Detector where
  /-- level of the detector (R210) -/
  m : Rat := 0
  /-- gain in force (R211, R213) -/
  g : Rat := 0
  /-- the gate is open (R212) -/
  opened : Bool := false
  /-- samples below the threshold (R212) -/
  below : Nat := 0
deriving DecidableEq, Repr

/-- One version of a block: the part that a scarf runs twice (R201, R239). -/
structure Ver where
  /-- the staged words in force: of a strip or bus processor MODE to A2 of biquad 7, of a tone generator TG_CFG (R201) -/
  set : List Word := []
  /-- read positions in force of a delay in 1/256 sample, pre-delay of a reverb, bank of a convolver (R229, R231, R223) -/
  pos : List Nat := []
  /-- biquads of the block (R204) -/
  bqs : List GBq := []
  /-- its level detector (R210) -/
  det : Detector := {}
  /-- alignment delay of a strip, newest first: values in 2^-40 and tags (R208) -/
  line : List (Int × Byte) := []
  /-- limiter: inputs with their tags, r and q of the last samples, newest first, and the gain of the last (R218) -/
  limX : List (Int × Byte) := []
  /-- limiter: peaks of the look-ahead (R218) -/
  limR : List Rat := []
  /-- limiter: gains of the look-ahead (R218) -/
  limQ : List Rat := []
  /-- limiter: gain in force (R218) -/
  limG : Rat := 1
  /-- tone generator: phase, LFSR, triangle state in 2^-40, and the pink filter's last inputs and outputs (R232 to R235) -/
  phase : Nat := 0
  /-- noise register (R235) -/
  lfsr : Nat := 1
  /-- triangle integrator (R234) -/
  tri : Int := 0
  /-- inputs of the pink filter (R235) -/
  pinkX : List Rat := []
  /-- outputs of the pink filter (R235) -/
  pinkY : List Rat := []
deriving DecidableEq, Repr

/-- A processing block outside its registers. -/
structure BlkSt where
  /-- samples since it restarted; words of its claim not written since read as zero (R259) -/
  count : Nat := 0
  /-- the version in force (R240) -/
  cur : Ver := {}
  /-- the new version of the scarf that runs -/
  next : Option (Ver × Scarf) := none
  /-- a request that waits for the next graph instant, with its core cycle; then one that waits for a scarf or a freeze (R244) -/
  req : Option (Nat × Nat) := none
  /-- a request that waits behind a running scarf (R245) -/
  pend : Option Nat := none
  /-- a request has come since the last graph instant -/
  fresh : Bool := false
  /-- the fade of a cut (R259) -/
  fade : Option Fade := none
  /-- convolver history, newest first (R220) -/
  hist : List Sample := []
  /-- LFO phase (R224); a reset waits for the next graph instant -/
  lfo : Nat := 0
  /-- graph instant at which the LFO resets (R224) -/
  lfoRst : Option Nat := none
  /-- phaser: inputs and outputs of each stage of both channels, and the last output of each channel (R227) -/
  apX : List Int := []
  /-- outputs of the all-pass stages (R227) -/
  apY : List Int := []
  /-- last outputs of the all-pass stages (R227) -/
  apOut : List Int := []
  /-- damped reads of a delay's channels or a reverb's lines, in 2^-40 (R228, R230) -/
  damp : List Int := []
  /-- those reads times the loop gains of a reverb, for the writes of the same sample -/
  loop : List Int := []
  /-- a tone generator's reset waits for the next graph instant (R236) -/
  prst : Option Nat := none
deriving DecidableEq, Repr

/-- A select outside its registers (R174, R176, R248). -/
structure SelSt where
  /-- alternative in force; during a switch the new one -/
  alt : Nat := 0
  /-- source of the old side of the switch that runs -/
  run : Option (Nat × Scarf) := none
  /-- the alternative that waits for the next graph instant, for the switch that runs or for a freeze to end -/
  wait : Option Nat := none
  /-- an alternative stored under SELHOLD -/
  held : Option Nat := none
deriving DecidableEq, Repr

/-- The graph outside its registers. -/
structure Graph where
  /-- the blocks by number (R166) -/
  blks : Tab BlkSt := []
  /-- the selects (R174) -/
  sels : Tab SelSt := []
  /-- values that move or are held before a write of R199 takes effect, by field: 32 × address + lowest bit -/
  ramps : Tab Ramp := []
  /-- parameter writes that no graph instant has taken yet: address, word before, core cycle (R199) -/
  late : List (Nat × Word × Nat) := []
  /-- sinks of the schedule that runs, and of the output buffer (R179): interpolation chains 0 to 19, slots 20 to 51, bulk outputs 52 to 83,
  stream-out taps 84 to 91 -/
  work : List Sample := []
  /-- the output buffer (R179) -/
  buf : List Sample := []
  /-- the sinks presented last, newest first -/
  sinks : List (List Sample) := []
  /-- number of the tick at which the newest of them were presented (R272) -/
  relAt : Nat := 0
  /-- previous sample read from SRAM by each block of R166 and, from 86, each stream-in tap (R29) -/
  lastRead : Tab Sample := []
  /-- fill of each ring at the last graph instant (R196) -/
  fill : Tab Nat := []
deriving DecidableEq, Repr

/-- A graft that runs (R254). -/
structure Graft where
  /-- core cycle at which the phase in force began -/
  at' : Nat := 0
  /-- core cycle before which SETTLE does not end: the ramps started at C -/
  ends : Nat := 0
  /-- what the commit cuts: blocks, decimation chains, interpolation chains, and input ports of R261 -/
  blks : List Nat := []
  /-- decimation chains cut or changed (R258) -/
  decs : List Nat := []
  /-- interpolation chains cut or changed (R258) -/
  ints : List Nat := []
  /-- inputs cut or changed (R258) -/
  ins : List Nat := []
  /-- taps, and from 32 high-rate sources -/
  taps : List Nat := []
  /-- elements that cross at C: selects, Direct outputs, blocks by scarf -/
  sels : List Nat := []
  /-- outputs cut or changed (R258) -/
  outs : List Nat := []
  /-- Speaker channels that the graft stops (R301). -/
  spks : List Nat := []
  /-- blocks that scarf (R258) -/
  scarfs : List Nat := []
deriving DecidableEq, Repr

/-- A serial port and its ratio tracker outside their registers (R267 to R285). -/
structure SapSt where
  /-- frames in a row outside and inside the window (R273) -/
  bad : Nat := 0
  /-- frames in a row within the window (R271, R273) -/
  good : Nat := 0
  /-- core cycle of the last frame -/
  last : Option Nat := none
  /-- the slots of the last frame as sent -/
  sent : List Word := []
  /-- frames in a row within one tick (R281) -/
  close : Nat := 0
  /-- samples received that wait for their instant of the port's grid, by map code: the number of its tick, and the sample; none is a frame whose
  sample is missing (R272, R273) -/
  fresh : Tab (List (Nat × Option Sample)) := []
  /-- the tracker's loop: where it takes the start of the last frame to be, in core cycles (R281) -/
  edge : Rat := 0
  /-- the frame period in the tracker's loop, in core cycles (R281) -/
  per : Rat := 0
deriving DecidableEq, Repr

/-- A resampler channel outside its registers (R276 to R282). -/
structure SrcSt where
  /-- inputs of the port-side HB7, HB8 and of the graph-side HB8, newest first (R276) -/
  h7 : List (Int × Byte) := []
  /-- history of HB8 (R276) -/
  h8 : List (Int × Byte) := []
  /-- history of HB8 on the way out (R276) -/
  g8 : List (Int × Byte) := []
  /-- core input samples, newest first (R277) -/
  core : List Sample := []
  /-- core cycle of the newest of them: the start of its port frame as the tracker has it, or its release (R279) -/
  at' : Rat := 0
  /-- core input samples in the FIFO (R282) -/
  fill : Nat := 0
  /-- frames of a channel that a graft has restarted towards the 1024 of ACQUIRE; none where it follows its tracker (R281, R284) -/
  acq : Option Nat := none
  /-- phase of the rate change of the stages, in samples of the higher rate -/
  phase : Nat := 0
  /-- output samples of the ramp-in still to come (R281) -/
  ramp : Nat := 0
  /-- output samples that a preset loses and that are delivered as zero (R282) -/
  lost : Nat := 0
deriving DecidableEq, Repr

/-- The serial ports and the resampler outside their registers. -/
structure Serial where
  /-- the serial ports (R267) -/
  ports : Tab SapSt := []
  /-- the resampler channels (R276) -/
  chans : Tab SrcSt := []
  /-- the samples that taps deliver at this instant, and high-rate sources (R274) -/
  taps : Tab Sample := []
  /-- fades of taps that a graft cuts (R284) -/
  fades : Tab (Option Fade) := []
deriving DecidableEq, Repr

/-- A speaker channel outside its registers (R288 to R310). -/
structure SpkSt where
  /-- core cycle at which BOOT began, or the half-bridges began switching -/
  since : Nat := 0
  /-- both half-bridges switch (R298) -/
  switching : Bool := false
  /-- BOOT ends at the next carrier-period start (R300) -/
  quit : Bool := false
  /-- weight in 1/12288 at a core cycle, and its change per tick -/
  w0 : Nat := 0
  /-- change of the weight per tick, in 1/12288 (R298) -/
  slope : Int := 0
  /-- core cycle at which the weight was w0 -/
  at' : Nat := 0
  /-- the 50 % hold of R299 runs -/
  hold : Bool := false
  /-- core cycle at which RUN began since the last trip; the second of R305 counts from it -/
  runAt : Nat := 0
  /-- BACKOFF: ticks left, and the core cycle since which they count; none while the timer pauses (R306) -/
  backLeft : Nat := 0
  /-- core cycle at which the back-off began (R304, R306) -/
  backAt : Option Nat := none
  /-- the load check that runs: its core cycle, whether the host asked for it, whether a comparator has acted -/
  checkAt : Nat := 0
  /-- the check was asked for by the host (R306, R311) -/
  checkHost : Bool := false
  /-- the check has failed (R304) -/
  checkBad : Bool := false
  /-- sums of current in 0.5 mA and voltage in 1 mV over the hold of the check, and their count -/
  sumI : Int := 0
  /-- sum of the voltage codes (R304) -/
  sumV : Int := 0
  /-- pairs summed (R304) -/
  checkN : Nat := 0
  /-- last limited carrier period and the length of the run of limited periods (R302) -/
  limLast : Nat := 0
  /-- carrier periods in a row with a limit (R302) -/
  limRun : Nat := 0
  /-- the last current result waits for its voltage -/
  curr : Option Int := none
  /-- sums over the pairs of the millisecond that runs: v·i, i·i, and their count (R307, R308) -/
  sumVI : Int := 0
  /-- sum of products of current (R308) -/
  sumII : Int := 0
  /-- pairs summed (R308) -/
  pairs : Nat := 0
  /-- the thermal model in K, the attenuation in dB before and after the last update, and its frame (R307 to R309) -/
  dTv : Rat := 0
  /-- temperature rise of the magnet (R307) -/
  dTm : Rat := 0
  /-- attenuation at the last update (R309) -/
  attFrom : Rat := 0
  /-- attenuation asked for (R309) -/
  att : Rat := 0
  /-- frame of the last update (R307) -/
  updFrame : Option Nat := none
  /-- core cycle of the last update (R307) -/
  updAt : Nat := 0
  /-- stopped by the thermal guard until the coil has cooled (R309) -/
  hot : Bool := false
  /-- the Direct feed: taps of its two decimating stages, newest first, and the feed (R288) -/
  hb1 : List (Int × Byte) := []
  /-- history of the second decimating stage (R288) -/
  hb2 : List (Int × Byte) := []
  /-- the decimated Direct feed (R288) -/
  direct : Int := 0
  /-- the graph feed, held for four updates (R288) -/
  graph : Sample := {}
  /-- the lead filter: last input and output (R295) -/
  leadX : Rat := 0
  /-- output of the lead filter (R295) -/
  leadY : Rat := 0
  /-- duty of the P half-bridge (R290, R291) -/
  duty : Rat := 1 / 2
  /-- errors of the last five quantised edge positions, newest first (R291) -/
  errs : List Rat := []
  /-- the P half-bridge stands high; the N half-bridge stands opposite (R292) -/
  high : Bool := false
  /-- edges of the P half-bridge in the last update: position in 1/2048 of the carrier period, and the level after it (R291, R292) -/
  edges : List (Nat × Bool) := []
  /-- core cycle at which the half-period ends for which a current limit drives the legs (R302) -/
  limUntil : Nat := 0
  /-- the ramp to zero across PREFADE of a graft that changes the channel; the channel stays at half duty from C to the next carrier-period start
  (R301) -/
  cut : Option Fade := none
deriving DecidableEq, Repr

/-- The speaker stage outside its registers. -/
structure Spk where
  /-- the two channels (R288) -/
  chans : Tab SpkSt := []
  /-- PVDD results of the last millisecond, newest first: core cycle and mV (R294) -/
  pvdd : List (Nat × Nat) := []
  /-- PVDD_meas in mV; none before the first valid result: PVNOM (R348) -/
  meas : Option Nat := none
deriving DecidableEq, Repr

/-- An entry of a run, as it stood when the run started (R336, R358): its accumulator, channel and discard count. -/
structure CscItem where
  /-- accumulator that the entry feeds (R335) -/
  acc : Nat
  /-- channel (R333) -/
  ch : Nat
  /-- conversions to discard first (R336) -/
  disc : Nat
deriving DecidableEq, Repr

/-- What is left of a run on one unit: the entries, the first being converted, the discards it still needs once it has begun, whether it is
the first of the run, and the cycles its conversion needs: 192, or 144 after an abort in the approximation (R336, R343). -/
structure CscTodo where
  /-- entries still to convert (R338) -/
  items : List CscItem := []
  /-- conversions still to discard of the entry that runs (R336) -/
  disc : Option Nat := none
  /-- the next conversion is the entry's first (R336) -/
  first : Bool := true
  /-- cycles of the next conversion (R331) -/
  need : Nat := 192
  /-- core cycle of the run's trigger (R338) -/
  ready : Nat := 0
deriving DecidableEq, Repr

/-- The work a unit's conversion belongs to: its regular sequence, the injected run, or the identification of a jack. -/
inductive CscWork where
  | regular | injected | ident (jack : Nat)
deriving DecidableEq, Repr

/-- A conversion that runs, or waits for its unit to be free: the core cycles at which it starts and at which it completes, and RDY at its start
(R331, R347). -/
structure CscConv where
  /-- what the conversion is for (R341) -/
  work : CscWork
  /-- its channel (R333) -/
  ch : Nat
  /-- core cycle of its start (R331) -/
  start : Nat
  /-- core cycle of its end (R331) -/
  due : Nat
  /-- the reference was ready at its start (R348) -/
  rdy : Bool
deriving DecidableEq, Repr

/-- A unit (R331, R332). -/
structure CscUnit where
  /-- the conversion that runs (R331) -/
  busy : Option CscConv := none
  /-- free from this core cycle on -/
  freeAt : Nat := 0
  /-- channel of the last conversion that was not privileged (R336) -/
  lastCh : Option Nat := none
  /-- the regular run (R338) -/
  regular : CscTodo := {}
  /-- the injected run (R337) -/
  injected : CscTodo := {}
  /-- cycles the next identification conversion needs (R343) -/
  idNeed : Nat := 192
deriving DecidableEq, Repr

/-- The last kept code of an accumulator, the core cycle at which it entered, and what the accumulator held before it (R353). -/
structure CscKept where
  /-- core cycle at which it entered (R353) -/
  cycle : Nat
  /-- the code (R353) -/
  code : Nat
  /-- SUM before it (R353) -/
  sum : Nat
  /-- COUNT before it (R353) -/
  count : Nat
  /-- MIN before it (R353) -/
  min : Nat
  /-- MAX before it (R353) -/
  max : Nat
deriving DecidableEq, Repr

/-- An accumulator (R349). -/
structure CscAcc where
  /-- SUM (R349) -/
  sum : Nat := 0
  /-- COUNT (R349) -/
  count : Nat := 0
  /-- MIN (R349) -/
  min : Nat := 0xFFFF
  /-- MAX (R349) -/
  max : Nat := 0
  /-- unsettled conversions (R347, R349) -/
  uns : Nat := 0
  /-- a conversion without reference was excluded (R347, R348) -/
  refx : Bool := false
  /-- the last kept code (R353) -/
  last : Option CscKept := none
deriving DecidableEq, Repr

/-- A control-sense timer (R339): core cycle of its next expiry and its fractional counter. -/
structure CscTimer where
  /-- core cycle of its next expiry (R339) -/
  due : Nat := 0
  /-- fraction of a core cycle carried (R339) -/
  frac : Nat := 0
deriving DecidableEq, Repr

/-- The control-sense converter outside its registers. -/
structure Csc where
  /-- the two units (R331) -/
  units : Tab CscUnit := []
  /-- the accumulators (R349) -/
  accs : Tab CscAcc := []
  /-- last kept codes of each comparator, newest first (R354) -/
  hists : Tab (List Nat) := []
  /-- the four timers (R339) -/
  timers : Tab CscTimer := []
  /-- triggers that wait for their delay: sequence (0 A, 1 B, 2 injected) and core cycle (R338) -/
  trigs : List (Nat × Nat) := []
  /-- periods or frames counted by the divider of each sequence (R338) -/
  divs : Tab Nat := []
  /-- the run of A and B that runs is simultaneous (R340) -/
  simul : Bool := false
  /-- the reference buffer runs since this core cycle (R348) -/
  refAt : Option Nat := none
  /-- core cycle and accumulators of the last snapshot that did not clear (R353) -/
  snap : Option (Nat × List Nat) := none
  /-- SPK_GLB_SNS.DLY as the 128-tick window that runs took it (R293) -/
  dly : Nat := 0
deriving DecidableEq, Repr

/-- Clocks outside their registers (R359 to R381). -/
structure Clk where
  /-- an image or the boot plan has been verified: the PLL is to run (R367) -/
  want : Bool := false
  /-- REFSEL and MCLKOEN in force (R369) -/
  refsel : Bool := false
  /-- MCLKOEN in force (R369) -/
  mclkoen : Bool := false
  /-- a commit waits for the next PFD comparison (R369) -/
  commit : Bool := false
  /-- φ in 1/8 ns and frequency in ppm of the primary at its last qualification (R374, R375) -/
  primary : Option (Int × Int) := none
  /-- the crystal was taken at the coast limit (R373, R379) -/
  fallback : Bool := false
  /-- core cycle at which the coast that runs began (R371) -/
  coastAt : Option Nat := none
  /-- core cycle at which the slew or snap began, and its φ in 1/8 ns (R376, R377) -/
  moveAt : Nat := 0
  /-- phase error taken at the commit, in 1/8 ns (R375) -/
  phi : Int := 0
  /-- core cycle at which the mute of a snap began; it outlives a reference that is lost in the snap (R377, R379) -/
  snapAt : Option Nat := none
  /-- the pause of the snap has been made -/
  paused : Bool := false
  /-- the 32 kHz crystal has failed and X32EN has not been 0 since (R361) -/
  x32off : Bool := false
deriving DecidableEq, Repr

/-- A Trellis port outside its registers (R393 to R403). -/
structure PortSt where
  /-- core cycle at which the state in force was entered -/
  since : Nat := 0
  /-- markers in a row, each 256 microframes after the last (R393) -/
  markers : Nat := 0
  /-- every microframe of the superframe that runs has passed its check so far -/
  superGood : Bool := true
  /-- every management microframe of the superframe that runs has passed its check so far (R394) -/
  mgmtGood : Bool := true
  /-- number of the next microframe slot within the superframe, from the last marker -/
  slot : Nat := 0
  /-- management bytes of the superframe that runs (R389) -/
  mgmt : List Byte := []
  /-- slots missing in a row (R402) -/
  missRun : Nat := 0
  /-- for each of the last 256 slots, whether it failed its check, newest first (R402) -/
  fails : List Bool := []
  /-- arrival times at the last 16 markers, newest first, in 1/8 ns (R395, R399) -/
  rhos : List Int := []
  /-- an accepted record of the peer has RHOV = 1 (R395) and its ρ -/
  peerRho : Option Int := none
  /-- an accepted record shows DOMAIN = 1 (R397, R407) -/
  peerDomain : Bool := false
  /-- signal stands on the receive pair -/
  signal : Bool := false
  /-- the failure in force came out of UP: its lanes ramp to zero (R29) -/
  wasUp : Bool := false
  /-- the superframe that is being sent carries training records (R392, R394) -/
  training : Bool := true
  /-- the management region that is being received carries a training record (R394) -/
  record : Bool := true
  /-- last service byte of each lane (R390, R402) -/
  service : Tab Byte := []
  /-- last good sample of each Direct lane (R29) -/
  laneGood : Tab Sample := []
  /-- microframes left for which each lane is tagged U (R30, R403) -/
  laneU : Tab Nat := []
  /-- the lane samples as presented now (R399) -/
  lanes : Tab Sample := []
  /-- the lane samples as presented in the tick before, held for transit (R400) -/
  held : List Sample := []
  /-- samples that wait for their presentation tick: (core cycle, lane or 16 + bulk channel, sample) (R399) -/
  queue : List (Nat × Nat × Sample) := []
  /-- bulk channels as delivered at the last frame boundary (R391) -/
  bulk : Tab Sample := []
  /-- bulk channels as presented in the superframe that runs (R391, R399) -/
  bulkIn : Tab Sample := []
  /-- last good sample of each bulk channel (R29) -/
  bulkGood : Tab Sample := []
  /-- superframes left tagged U (R403) -/
  bulkU : Nat := 0
  /-- peer's hop counts and IDX of sent lanes from its last LOFFER (R426) -/
  offer : List Byte := []
  /-- the handshake that runs: core cycle at which it started -/
  hsSince : Option Nat := none
  /-- the port has entered UP and its LOFFER is still to be sent (R427) -/
  offerDue : Bool := false
  /-- result of the last LANSWER; 0xFF where none has come -/
  hsResult : Nat := 0xFF
  /-- the handshake that runs is that of a graft's admission: the state in force stays (R427) -/
  hsKeep : Bool := false
  /-- bytes of the packet that is being received, and whether one of its microframes has failed (R416, R418) -/
  pkt : List Byte := []
  /-- what the four lanes carry, as formed in the last five ticks, newest first (R390, R400) -/
  txLanes : List (List Sample) := []
  /-- LIVE as sent for each lane (R428) -/
  liveTx : BitVec 4 := 0
  /-- the packet that is being sent and the slots it still needs (R416, R417) -/
  txCur : Option (Packet × Nat) := none
  /-- the microframe that has left in the last tick: its K-code and bytes 1 to 19; none while the pair idles (R18, R386, R393) -/
  sentMf : Option (KCode × List Byte) := none
deriving DecidableEq, Repr

/-- A request that this device has sent and that is unanswered (R421). -/
structure Request where
  /-- its SEQ (R421) -/
  seq : Nat := 0
  /-- its destination (R421) -/
  dst : Nat := 0
  /-- the packet, to be repeated (R421) -/
  pkt : Packet := ⟨0, 0, 0, 0, 0, 0, []⟩
  /-- times sent -/
  sends : Nat := 0
  /-- core cycle of the last sending -/
  at' : Nat := 0
  /-- the port of a link-local request (R419) -/
  port : Option Nat := none
deriving DecidableEq, Repr

/-- An executed request of another device with the answer given (R421). -/
structure Answered where
  /-- source of the request (R421); 64 + p for a link-local one on port p -/
  src : Nat := 0
  /-- its SEQ (R421) -/
  seq : Nat := 0
  /-- the answer, to be sent again (R421) -/
  answer : Packet := ⟨0, 0, 0, 0, 0, 0, []⟩
deriving DecidableEq, Repr

/-- The exploration of a census by this device (R410). -/
structure CensusRun where
  /-- its epoch (R409) -/
  epoch : Nat := 0
  /-- core cycle of its CENSUS, or of its start on the root -/
  since : Nat := 0
  /-- the address taken (R412) -/
  newAddr : Nat := 0
  /-- the hop count taken (R412) -/
  newHop : Nat := 0
  /-- port toward the parent (R410) -/
  parent : Nat := 0
  /-- next address to give -/
  next : Nat := 0
  /-- ports still to explore -/
  ports : List Nat := []
  /-- the port a CENSUS is out on, with the first address offered and the core cycle of the first sending -/
  probe : Option (Nat × Nat × Nat) := none
  /-- core cycle at which the probe was last sent (R411) -/
  lastSend : Nat := 0
  /-- (port, first, last) of each child port -/
  ranges : List (Nat × Nat × Nat) := []
  /-- ports found to be non-tree links -/
  nonTree : List Nat := []
  /-- records gathered, 16 bytes each -/
  records : List Byte := []
  /-- the CENRET that has been sent -/
  sent : Option Packet := none
  /-- the exploration has ended (on the root: CENDONE sent) -/
  done : Bool := false
deriving DecidableEq, Repr

/-- A protected lane in or bulk tap (R430 to R432). -/
structure ProtSt where
  /-- microframes for which the route in force has been bad, and the other route good, without a break -/
  badRun : Nat := 0
  /-- microframes in a row in which the other route was good (R431) -/
  goodRun : Nat := 0
  /-- microframes for which the working route has been good while the protect route is in force -/
  workGood : Nat := 0
  /-- samples of the last 255 ticks of the earlier route, newest first; of a bulk tap two a frame (R430, R432) -/
  delay : List Sample := []
  /-- the equaliser in force of a protected lane: whether the working route is delayed as the earlier one, and the ticks; none beyond 255 (R430) -/
  eq : Option (Bool × Nat) := some (false, 0)
deriving DecidableEq, Repr

/-- The Trellis outside its registers. -/
structure Net where
  /-- the Trellis ports (R384) -/
  ports : Tab PortSt := []
  /-- packets that wait to be sent (R419), oldest first -/
  txq : List TxPacket := []
  /-- packets sent in the frame that runs -/
  sent : List (Nat × Packet) := []
  /-- requests out (R421) -/
  requests : List Request := []
  /-- answers kept for repeated requests (R421) -/
  answers : List Answered := []
  /-- the fetch that runs or is buffered (R422): target, address, its SEQ -/
  fetch : Option (Nat × Nat × Nat) := none
  /-- words that a remote fetch has brought (R422) -/
  fetched : List Word := []
  /-- the census that runs (R409) -/
  census : Option CensusRun := none
  /-- core cycles at which the root is to start a census (R409, R411) -/
  censusAt : List Nat := []
  /-- a port of the root has entered UP since READY (R409) -/
  rootSeenUp : Bool := false
  /-- core cycle by which DOMAIN = 1 must have shown (R408) -/
  domainBy : Option Nat := none
  /-- the latency table is to be published again (R27, R28, R399) -/
  latDue : Bool := false
  /-- an offer has changed what the equalisers rest on: they follow at the next superframe marker (R27, R430) -/
  eqDue : Bool := false
  /-- a census has named the upstream port (R397) -/
  named : Bool := false
  /-- the upstream port has changed and the PLL has not returned to it (R378, R414) -/
  upChanged : Bool := false
  /-- protected lanes and taps (R430) -/
  prot : Tab ProtSt := []
  /-- a stream for another device: its target and the payloads of the IMG packets still to be sent (R493) -/
  stream : List (Nat × List Byte) := []
deriving DecidableEq, Repr

/-- A DMA channel outside its registers (R457 to R469). -/
structure DmaSt where
  /-- the four words of the descriptor it took -/
  desc : List Word := []
  /-- beats read and not yet written, oldest first -/
  buffer : List (Nat × List Byte) := []
  /-- bytes read of the descriptor -/
  got : Nat := 0
  /-- address and data of the last beat written (R465) -/
  lastBeat : Option (Nat × List Byte) := none
deriving DecidableEq, Repr

/-- The xSPI controller outside its registers (R451 to R456). -/
structure Xspi where
  /-- a page under collection: external address of its first byte and its bytes -/
  page : Option (Nat × List Byte) := none
  /-- core cycle of the last DMA write beat -/
  lastBeat : Nat := 0
  /-- the poll that runs: core cycle of its start and of the next status read, and whether it belongs to an indirect command -/
  poll : Option (Nat × Nat × Bool) := none
  /-- channel whose page is in flight -/
  chan : Nat := 0
  /-- commands sent to the memory, oldest first: opcode, address, bytes written -/
  sent : List (Nat × Nat × List Byte) := []
  /-- a mode that waits for the access that runs to end (R452) -/
  mode : Option Nat := none
  /-- an indirect command waits for a DMA access to end (R455) -/
  indirect : Bool := false
  /-- XSPI_ICMD, XSPI_IADDR and XSPI_IDATA as the indirect command took them at GO (R455) -/
  cmd : List Word := []
  /-- the DMA read (false) or PSRAM write (true) that goes on, and the external address after its last byte (R453) -/
  flow : Option (Bool × Nat) := none
deriving DecidableEq, Repr

/-- The memories outside their registers (R437 to R448). -/
structure Mem where
  /-- audio SRAM by byte offset, coefficient memory, and the active and shadow halves of configuration memory -/
  sram : Memory := []
  /-- coefficient memory by byte offset (R447) -/
  coef : Memory := []
  /-- the active half of configuration memory (R448) -/
  active : Memory := []
  /-- the shadow half (R448) -/
  shadow : Memory := []
  /-- words whose stored bits have flipped, by local address: 1 correctable, 2 not (R440) -/
  upsets : Tab Nat := []
  /-- corrected words that wait for their write-back (R441) -/
  scrub : List Nat := []
  /-- address and tick of uncorrectable words read (R443) -/
  ueSeen : List (Nat × Nat) := []
  /-- banks still to be cleared, and the core cycle at which that ends (R446) -/
  clearing : Option Nat := none
  /-- the DMA channels (R457) -/
  dma : Tab DmaSt := []
  /-- by priority: the channel that the engine served last, and the beats of its burst so far (R466) -/
  turns : Tab (Nat × Nat) := []
  /-- the xSPI controller (R451) -/
  xspi : Xspi := {}
deriving DecidableEq, Repr

/-- Where a load comes from (R490, R493, R494). -/
inductive LoadSrc where
  | spi | xspi | trellis (addr : Nat) | plan
deriving DecidableEq, Repr

/-- An image as the loader has decoded it (R471 to R484): the register words its records give, the exclusions and ALLOW_DEGRADED of CELLS, the
declared budget and the ceilings, and what the header says. -/
structure Decoded where
  /-- register words that the image gives (R476) -/
  fields : Tab Word := []
  /-- addresses that a record has written -/
  given : List Nat := []
  /-- cells that the image excludes (R483) -/
  excluded : List Nat := []
  /-- groups that may start degraded (R41, R483) -/
  allowed : List Nat := []
  /-- BASE of the budget (R484) -/
  base : Nat := 0
  /-- RES of the budget (R484) -/
  res : Nat := 0
  /-- latency ceilings (R484) -/
  ceils : List (Nat × Nat × Nat × Nat) := []
  /-- it is signed (R471, R486) -/
  signed : Bool := false
  /-- it is encrypted (R487) -/
  enc : Bool := false
  /-- its version (R471) -/
  ver : Word := 0
  /-- its build number (R471) -/
  build : List Word := []
  /-- where it came from (R490) -/
  src : Nat := 0
  /-- the opcodes and data of a verified XBOOT, as words (R482) -/
  xboot : List Word := []
deriving DecidableEq, Repr

/-- Parser state of a load (R495). -/
structure Load where
  /-- source of the load (R490) -/
  src : LoadSrc
  /-- offset of the next part, and whether it is a payload; the TYPE of the last section header -/
  next : Nat := 0
  /-- the payload of a section runs (R473) -/
  payload : Bool := false
  /-- type of the last section (R475) -/
  lastType : Nat := 0
  /-- sections accepted (R501) -/
  sections : Nat := 0
  /-- what the sections have given so far -/
  dec : Decoded := {}
  /-- an encrypted section has been seen -/
  sawEnc : Bool := false
  /-- core cycle at which the signature check began -/
  sigAt : Option Nat := none
deriving DecidableEq, Repr

/-- What admission is run for (R496, R254). -/
inductive AdmitFor where
  | first | load | graft
deriving DecidableEq, Repr

/-- The image loader outside its registers. -/
structure Img where
  /-- the load that runs (R493) -/
  load : Option Load := none
  /-- the decoded shadow, kept while it is valid -/
  shadow : Option Decoded := none
  /-- the active image as it was decoded -/
  active : Option Decoded := none
  /-- an admission that runs, and the core cycle at which it began; it waits for the PLL -/
  proving : Option (AdmitFor × Nat) := none
  /-- the failure that the start of an admission has found: of a graft's checks, or of the cloche (R102, R253) -/
  early : Option (Nat × Nat) := none
  /-- an admission that waits for its clock plan (R496) -/
  admitWait : Option AdmitFor := none
  /-- a verified image waits to be activated (LOAD, R605) -/
  activate : Bool := false
  /-- the latency table of the active image (R498) -/
  paths : List (Word × Word) := []
  /-- frame index of its publication -/
  pathFrame : Nat := 0
  /-- the latency table of the image in the shadow half: records, frame index, GEN (R498) -/
  shadowTable : Option (List (Word × Word) × Nat × Nat) := none
  /-- core cycle at which a failed xSPI boot is read again (R490) -/
  retryAt : Option Nat := none
  /-- what the graft that runs crosses (R254) -/
  graft : Graft := {}
deriving DecidableEq, Repr

/-- Modes and resets outside their registers (R527 to R545). -/
structure Pwr where
  /-- the frame and timer pair is latched at the next frame boundary (R535) -/
  tsDue : Bool := false
  /-- core cycle at which the entry that runs began (R527) -/
  entryAt : Nat := 0
  /-- a wake from REST or LISTEN proceeds (R533) -/
  waking : Bool := false
  /-- slow-clock period of the last wake (R531) -/
  wakeSlow : Option Nat := none
  /-- a wake waits until every rail is in range (R528, R542) -/
  wakeHeld : Bool := false
  /-- core cycle at which the core was released and its OTP load began; none while it is held (R543) -/
  loadAt : Option Nat := none
deriving DecidableEq, Repr

/-- A second-order section of the onset detector (R537): its two state values. -/
structure BandSt where
  /-- first state of the band-pass (R537) -/
  z1 : Rat := 0
  /-- second state of the band-pass (R537) -/
  z2 : Rat := 0
  /-- sum of squares of the block that runs, and the level of the last block in dB -/
  sum : Rat := 0
  /-- level of the last block in dB (R537) -/
  level : Rat := -180
deriving DecidableEq, Repr

/-- The Listen path outside its registers (R536 to R540). The ring itself lies in audio SRAM. -/
structure Listen where
  /-- the Listen cell writes the ring -/
  running : Bool := false
  /-- every sample of the port carries U: from the clock switch to SETTLED (R540) -/
  preroll : Bool := false
  /-- index of the next sample, and the index fields of the header (R538); none where a field does not yet apply -/
  wr : Nat := 0
  /-- ring position of the onset (R541) -/
  onset : Option Nat := none
  /-- ring position at the change of clock (R540) -/
  clk : Option Nat := none
  /-- ring position at which the clock had settled (R540) -/
  settled : Option Nat := none
  /-- ring position of the handoff (R540) -/
  handoff : Option Nat := none
  /-- frame index of the handoff (R540) -/
  sframe : Option Nat := none
  /-- CLK_RING.DEV at the last measurement, 16 bits; none if none was made (R362, R538) -/
  rdev : Option Nat := none
  /-- conversions in the decimator's span, newest first -/
  hist : List CellCode := []
  /-- codes of the chain path in its decimator's span, newest first -/
  chain : List Sample := []
  /-- sum of squares of the block that runs, and its samples -/
  energy : Rat := 0
  /-- samples of the block so far (R537) -/
  count : Nat := 0
  /-- the six band-passes (R537) -/
  bands : Tab BandSt := []
  /-- blocks evaluated since the detector started -/
  blocks : Nat := 0
  /-- samples left of the tail -/
  tail : Nat := 0
  /-- the mode requested from LISTEN; none where a wake source fired (R533) -/
  want : Option Nat := none
deriving DecidableEq, Repr

/-- The background self-test outside its registers (R548 to R556). -/
structure Bst where
  /-- latest result of each slice of the cycle: key 4096 × target + item; 1 pass, 2 fail, 3 incomplete, 4 incomplete and not run again (R552) -/
  results : Tab Nat := []
  /-- core cycle at which the cycle began; none before the first entry to READY after an image load -/
  cycleAt : Option Nat := none
  /-- the slice that runs: target, item, core cycle of its start, whether it is the repeat of R555 -/
  run : Option (Nat × Nat × Nat × Bool) := none
  /-- core cycle of the start of each target's last slice -/
  last : Tab (Option Nat) := []
  /-- bit t: target t has been applicable in this cycle (R550) -/
  seen : BitVec 7 := 0
  /-- the foreground run of R556 is on -/
  full : Bool := false
  /-- scan has been enabled (R560) -/
  scan : Bool := false
deriving DecidableEq, Repr

/-- What a programming request writes (R558). -/
inductive OtpJob where
  | key (slot : Nat) (data : List Word)
  | hash (slot : Nat) (data : List Word)
  | options (sigreq scanclr : Bool)
  | revoke (slot : Nat)
deriving DecidableEq, Repr

/-- The OTP and its programming (R557 to R560). -/
structure Otp where
  /-- life-cycle state in force and the one programmed: 0 BLANK, 1 DEVELOP, 2 PRODUCT, 3 RETURN, 4 SCRAP -/
  lc : Nat := 0
  /-- the life-cycle state programmed last (R557) -/
  next : Nat := 0
  /-- option SIGREQ (R489) -/
  sigreq : Bool := false
  /-- option SCANCLR (R560) -/
  scanclr : Bool := false
  /-- state of each key slot: 0 empty, 1 programmed, 2 cleared; its data as eight words -/
  keyStat : Tab Nat := []
  /-- the key slots' contents (R558) -/
  keys : Tab (List Word) := []
  /-- state of each hash slot: 0 empty, 1 programmed, 3 revoked; its data as eight words -/
  hashStat : Tab Nat := []
  /-- the key-hash slots' contents (R558) -/
  hashes : Tab (List Word) := []
  /-- a life-cycle transition that is being programmed -/
  lcJob : Option Nat := none
  /-- a slot, option or revocation that is being programmed -/
  job : Option OtpJob := none
deriving DecidableEq, Repr

structure Block where
  /-- the register file, one word an address -/
  regs : Tab Word := []
  /-- grid and slow clock -/
  time : Time := {}
  /-- the model's own counter of free values (assumption log 3) -/
  freeK : Nat := 0
  /-- host port and interrupt pin -/
  host : HostSt := {}
  /-- fault ledger -/
  ledger : Ledger := {}
  /-- the core has been released and its OTP loaded (R543) -/
  core : Bool := true
  /-- converter cells and rotation -/
  cells : Cells := {}
  /-- analogue ports, bias supplies, cloche, outputs, jacks -/
  ports : Ports := {}
  /-- half-band chains -/
  chains : Chains := {}
  /-- Direct matrix -/
  dir : Direct := {}
  /-- the Espalier graph -/
  graph : Graph := {}
  /-- serial ports and resampler -/
  sap : Serial := {}
  /-- speaker stage -/
  spk : Spk := {}
  /-- control-sense converter -/
  csc : Csc := {}
  /-- clocks and PLL -/
  clk : Clk := {}
  /-- Trellis links, census and routing -/
  net : Net := {}
  /-- memories, xSPI and DMA -/
  mem : Mem := {}
  /-- image loader and admission -/
  img : Img := {}
  /-- modes and resets -/
  pwr : Pwr := {}
  /-- the Listen path -/
  lsn : Listen := {}
  /-- background self-test -/
  bst : Bst := {}
  /-- OTP: life-cycle, key slots, options -/
  otp : Otp := {}
deriving DecidableEq, Repr

structure State extends Block where
  /-- the commands that wait, first in, first out -/
  pending : List Instr := []
deriving DecidableEq, Repr

/-- No command of this block stops the machine; `noSuchUnit` is raised by a meaning whose operands name a unit, an index or a code that the
hardware does not have. Safe: no command of the hardware carries such operands, and WellFormed refuses them. -/
inductive Fault where
  | noSuchUnit
deriving DecidableEq, Repr

/-- `notModelled` stands only in arms of the dispatcher whose command has no meaning yet. Safe: the machine stops. -/
inductive Refusal where
  | notModelled (mnemonic : String)
deriving DecidableEq, Repr

/-- The machine right after a POR (R543, R544): every register at its reset value, and the core held until CORE_RELEASE and OTP_LOAD_DONE
(assumption log 2). -/
def State.reset : State := { core := false }

end Sys2Proof.Machine
end

