-- ==== Sys2Proof/Machine/Ops.lean ====
section
/-! DEFINITION. The named operations over registers and tags that every meaning uses: words and fields of the register file, events, counters,
resets by retention class (R8 to R12), and the fixed-point helpers of the sample formats (R5 to R7). -/

namespace Sys2Proof.Machine

/-- Bits `lo` to `lo + width - 1` of a word, as a number. -/
def bitsOf (w : Word) (lo width : Nat) : Nat := w.toNat / 2 ^ lo % 2 ^ width

/-- The word with bits `lo` to `lo + width - 1` replaced by the low bits of a number. -/
def setBits (w : Word) (lo width v : Nat) : Word :=
  BitVec.ofNat 32 (w.toNat % 2 ^ lo + (v % 2 ^ width) * 2 ^ lo + w.toNat / 2 ^ (lo + width) * 2 ^ (lo + width))

/-- Clamp to a range. -/
def clampTo (lo hi v : Nat) : Nat := max lo (min hi v)

/-- The word at a register's address, as stored (R10: a reserved address reads zero). -/
def Block.word (s : Block) (a : Nat) : Word := Tab.get resetWord s.regs a

/-- Store a register word. -/
def Block.setW (s : Block) (a : Nat) (w : Word) : Block := { s with regs := Tab.set resetWord s.regs a w }

/-- The value of a field. -/
def Block.f (s : Block) (x : Fld) : Nat := bitsOf (s.word x.addr) x.lo x.width

/-- Whether a field is non-zero. -/
def Block.on (s : Block) (x : Fld) : Bool := s.f x != 0

/-- The value of a field read as two's complement. -/
def Block.fInt (s : Block) (x : Fld) : Int := (BitVec.ofNat x.width (s.f x)).toInt

/-- Store a field, leaving the rest of its word. -/
def Block.put (s : Block) (x : Fld) (v : Nat) : Block := s.setW x.addr (setBits (s.word x.addr) x.lo x.width v)

/-- Store a field as two's complement. -/
def Block.putInt (s : Block) (x : Fld) (v : Int) : Block := s.put x (BitVec.ofInt x.width v).toNat

/-- Store a one-bit field. -/
def Block.putB (s : Block) (x : Fld) (b : Bool) : Block := s.put x (if b then 1 else 0)

/-- Set an event or status bit (R8, R9). -/
def Block.raise (s : Block) (x : Fld) : Block := s.put x 1

/-- The one-bit field at position `i` of a field of many bits. -/
def Fld.bit (x : Fld) (i : Nat) : Fld := ⟨x.addr, x.lo + i, 1⟩

/-- Count up in a field, stopping at its largest value. -/
def Block.bump (s : Block) (x : Fld) : Block :=
  if s.f x + 1 < 2 ^ x.width then s.put x (s.f x + 1) else s

/-- Count up in a field, wrapping. -/
def Block.bumpWrap (s : Block) (x : Fld) : Block := s.put x (s.f x + 1)

/-- Apply an operation where a condition holds. -/
def Block.onlyIf (s : Block) (c : Bool) (g : Block → Block) : Block := if c then g s else s

/-- Apply an operation for every element of a list, in order. -/
def Block.forAll {α : Type} (s : Block) (l : List α) (g : α → Block → Block) : Block := l.foldl (fun b a => g a b) s

/-- The four resets that clear retention classes (R11). -/
inductive ResetKind where
  | por | pin | graft | sync
deriving DecidableEq, Repr

/-- Whether a reset returns a class to its reset value (R11). -/
def ResetKind.clears : ResetKind → Kept → Bool
  | .por, _ => true
  | .pin, k => k != .a
  | .graft, k => k == .s || k == .v
  | .sync, k => k == .v

/-- A register word after a reset: the fields of the classes it clears take their reset values, the others stay (R11). -/
def resetKeep (k : ResetKind) (a : Nat) (w : Word) : Word :=
  match findReg a with
  | none => resetWord a
  | some r => r.fields.foldl (fun acc f =>
      if k.clears f.kept then setBits acc f.lo f.width (bitsOf (resetWord a) f.lo f.width) else acc) w

/-- Reset the registers at the addresses that `sel` picks (R11, R12). -/
def Block.resetRegs (s : Block) (k : ResetKind) (sel : Nat → Bool) : Block :=
  { s with regs := Tab.mapAll resetWord s.regs (fun a w => if sel a then resetKeep k a w else w) }

/-- The core cycles of `n` ticks (R14). -/
def ticks (n : Nat) : Nat := 16 * n

/-- Ticks in a number of milliseconds, rounded to the nearest: 12288 to the millisecond (R14). -/
def msTicks (ms : Nat) : Nat := 12288 * ms

/-- Whether a deadline has come. -/
def Block.reached (s : Block) (due : Nat) : Bool := due ≤ s.time.now

/-- The deadline `n` ticks from now. -/
def Block.after (s : Block) (n : Nat) : Nat := s.time.now + ticks n

/-- A fresh free value: a number nothing constrains. -/
def Block.free (s : Block) : Nat := Config.freeNat s.freeK

/-- Step past the free value that has just been used. -/
def Block.used (s : Block) : Block := { s with freeK := s.freeK + 1 }

end Sys2Proof.Machine
end

