-- ==== Sys2Proof/Machine/Operands.lean ====
section
/-! DEFINITION. The forms operands take: the tagged sample word (R5 to R7) and the fixed-point arithmetic that the blocks share. -/

namespace Sys2Proof.Machine

/-- Bits of the tag byte (R5). -/
def tagU : Byte := 0x80
/-- S: substituted. -/
def tagS : Byte := 0x40
/-- C: clipped. -/
def tagC : Byte := 0x20
/-- Z: zeroed or muted. -/
def tagZ : Byte := 0x10
/-- F: late or missing Trellis source. -/
def tagF : Byte := 0x08
/-- X: scarf in progress. -/
def tagX : Byte := 0x04

/-- A tag byte as the device writes it: bits 1:0 are zero (R6). -/
def cleanTag (t : Byte) : Byte := t &&& 0xFC

/-- A sample as a 32-bit word (R5). -/
def Sample.toWord (x : Sample) : Word := x.val ++ cleanTag x.tag

/-- A 32-bit word as a sample; bits 1:0 are cleared at entry (R5, R6). -/
def Sample.ofWord (w : Word) : Sample := ⟨w.extractLsb' 8 24, cleanTag (w.extractLsb' 0 8)⟩

/-- A zero sample. -/
def Sample.zero : Sample := ⟨0, 0⟩

/-- The value of a sample as an integer in units of 2^-23 (R5). -/
def Sample.int (x : Sample) : Int := x.val.toInt

/-- Whether an integer lies in the range of `n` bits of two's complement. -/
def fitsSigned (n : Nat) (v : Int) : Bool := decide (-(2 ^ (n - 1) : Int) ≤ v ∧ v < 2 ^ (n - 1))

/-- Saturate to the range of `n` bits of two's complement. -/
def satInt (n : Nat) (v : Int) : Int := max (-(2 ^ (n - 1) : Int)) (min v (2 ^ (n - 1) - 1))

/-- Rounding shift right: half towards plus infinity (R110's rounding of a sum with a discarded part). -/
def roundShift (v : Int) (n : Nat) : Int := (v + 2 ^ n / 2) / 2 ^ n

/-- A sample of an integer value: saturated to Q1.23, with C set where it saturates (R7, R30). -/
def Sample.sat (v : Int) (tag : Byte) : Sample :=
  ⟨BitVec.ofInt 24 (satInt 24 v), if fitsSigned 24 v then tag else tag ||| tagC⟩

/-- Add tags to a sample. -/
def Sample.withTag (x : Sample) (t : Byte) : Sample := { x with tag := x.tag ||| t }

/-- The tags a weighted sum takes from its contributors: those of every contributor whose gain is non-zero (R7). -/
def mergeTags (xs : List (Int × Sample)) : Byte :=
  xs.foldl (fun t p => if p.1 = 0 then t else t ||| p.2.tag) 0

/-- Round a rational to the nearest integer, half upwards. -/
def ratRound (q : Rat) : Int := (q + 1 / 2).floor

/-- Full weight of the 1 ms ramps, in steps of one tick (R323). -/
def fullWeight : Nat := 12288

/-- The weight at tick k of a mute around a step, in 1/12288, and its tag (R95, R377). -/
def muteWeight (k : Nat) : Nat × Byte :=
  if k < 12288 then (12288 - k, tagX)
  else if k < 12352 then (0, tagZ)
  else if k < 24640 then (k - 12352, tagX)
  else (fullWeight, 0)

/-- Weight a sample in 1/12288: rounded to Q1.23, with the tag of a ramp, or zero tagged Z (R93, R95, R323, R377). -/
def weighted (x : Sample) (w : Nat) (tag : Byte) : Sample :=
  if tag = tagZ then ⟨0, tagZ⟩
  else ⟨BitVec.ofInt 24 (ratRound ((x.int : Rat) * w / fullWeight)), x.tag ||| tag⟩

/-- Weight a sample by the mute of a snap (R377). -/
def Block.snapMute (s : Block) (x : Sample) : Sample :=
  match s.clk.snapAt with
  | none => x
  | some t => weighted x (muteWeight ((s.time.now - t) / 16)).1 (muteWeight ((s.time.now - t) / 16)).2

/-- Ticks from one graph instant to the next (R16). -/
def Block.graphPeriod (s : Block) : Nat := if s.on Reg.GRF_GLB_CFG_FG then 128 else 256

/-- The weight of a fade in 1/64 now; in steps of one graph sample, or of one tick where `fine` (R258, R259). -/
def Block.fadeWeight (s : Block) (x : Fade) (fine : Bool) : Rat :=
  match x.at' with
  | none => x.w0
  | some t =>
    let e := (s.time.now - t) / 16
    let k : Rat := if fine then (e : Rat) / s.graphPeriod else (e / s.graphPeriod : Nat)
    if x.up then min 64 (x.w0 + k) else max 0 (x.w0 - k)

/-- A sample under the fade of a cut: weighted and tagged X until it is wholly in (R259). -/
def Block.faded (s : Block) (x : Option Fade) (fine : Bool) (y : Sample) : Sample :=
  match x with
  | none => y
  | some f =>
    let w := s.fadeWeight f fine
    if f.up && w = 64 then y
    else ⟨BitVec.ofInt 24 (ratRound ((y.int : Rat) * w / 64)), (if w = 0 then 0 else y.tag) ||| tagX⟩

end Sys2Proof.Machine
end

