-- ==== Sys2Proof/Machine/Flags.lean ====
section
/-! DEFINITION. Every flag the device computes from its state: the mode code (R525), the interrupt tree (R514, R515), the fault ledger (R561 to
R563), the check codes (R388, R417), and the operation that lets the interrupt pin and NOTIFY follow every command (R515 to R517). -/

namespace Sys2Proof.Machine

/-- One bit of the CRC-16 of R388. -/
def crc16Bit (c : BitVec 16) : BitVec 16 := if c.msb then (c <<< 1) ^^^ 0x1021 else c <<< 1

/-- One byte of the CRC-16 of R388. -/
def crc16Byte (c : BitVec 16) (b : Byte) : BitVec 16 :=
  (List.range 8).foldl (fun c _ => crc16Bit c) (c ^^^ (b.zeroExtend 16 <<< 8))

/-- The CRC-16 of R388. -/
def crc16 (bs : List Byte) : BitVec 16 := bs.foldl crc16Byte 0xFFFF

/-- One bit of the reflected CRC-32 of R417. -/
def crc32Bit (c : BitVec 32) : BitVec 32 := if c.getLsbD 0 then (c >>> 1) ^^^ 0xEDB88320 else c >>> 1

/-- One byte of the CRC-32 of R417. -/
def crc32Byte (c : BitVec 32) (b : Byte) : BitVec 32 :=
  (List.range 8).foldl (fun c _ => crc32Bit c) (c ^^^ b.zeroExtend 32)

/-- The CRC-32 of IEEE 802.3 (R417, R472). -/
def crc32 (bs : List Byte) : BitVec 32 := ~~~ (bs.foldl crc32Byte 0xFFFFFFFF)

/-- Codes of the base modes (R524). -/
def modeOff : Nat := 0x0
/-- DORMANT. -/
def modeDormant : Nat := 0x1
/-- REST. -/
def modeRest : Nat := 0x2
/-- LISTEN. -/
def modeListen : Nat := 0x3
/-- LOAD. -/
def modeLoad : Nat := 0x4
/-- READY. -/
def modeReady : Nat := 0x5
/-- PLAY. -/
def modePlay : Nat := 0x6
/-- RELAY. -/
def modeRelay : Nat := 0x9
/-- SAFE. -/
def modeSafe : Nat := 0xA
/-- SERVICE. -/
def modeService : Nat := 0xB

/-- The base mode (R524). -/
def Block.base (s : Block) : Nat := s.f Reg.PWR_MODE_BASE

/-- The COAST condition: CLK_STAT.STATE reads COAST (R525). -/
def Block.coasting (s : Block) : Bool := s.f Reg.CLK_STAT_STATE == 3

/-- Whether a port receiver is in UP (R393). -/
def Block.portUp (s : Block) (p : Nat) : Bool := s.f (Reg.TRL_LSTAT_STATE p) == 4

/-- The ISLAND condition: a Trellis port is enabled and none of them is in UP (R525). -/
def Block.island (s : Block) : Bool :=
  (List.range 4).any (fun p => s.on (Reg.TRL_PCFG_EN p)) &&
  (List.range 4).all (fun p => !(s.on (Reg.TRL_PCFG_EN p) && s.portUp p))

/-- The reported mode code PWR_MODE.MODE (R525). -/
def Block.mode (s : Block) : Nat :=
  if s.base = modeSafe then modeSafe
  else if s.base = modeService then modeService
  else if s.base = modePlay then (if s.coasting then 0x7 else if s.island then 0x8 else modePlay)
  else s.base

/-- PWR_MODE.FLAGS: COAST, ISLAND, SAFE, SERVICE from bit 8 up (R525, R547). -/
def Block.flags (s : Block) : Nat :=
  (if s.coasting then 1 else 0) + (if s.island then 2 else 0) + (if s.base = modeSafe then 4 else 0) +
  (if s.base = modeService then 8 else 0)

/-- The modes in which the main PLL drives the audio paths: READY, PLAY with COAST and ISLAND, SAFE (R524). -/
def Block.audioOn (s : Block) : Bool := s.base = modeReady || s.base = modePlay || s.base = modeSafe

/-- The modes in which slices may run and outputs play: PLAY, COAST and ISLAND, until an entry to another mode begins (R63, R93, R527). -/
def Block.sliceMode (s : Block) : Bool := s.base = modePlay && !s.on Reg.PWR_MODE_TRANS

/-- The core clock runs in every mode but OFF, DORMANT and REST, and from a wake on (R511, R524, R533). -/
def Block.coreOn (s : Block) : Bool :=
  s.core && (s.pwr.waking || !(s.base = modeOff || s.base = modeDormant || s.base = modeRest))

/-! ## The fault ledger -/

/-- The seven words of an entry before its check word (R561). -/
def LedgerEntry.words (e : LedgerEntry) : List Word :=
  [BitVec.ofNat 32 e.t,
   BitVec.ofNat 32 (e.t / 2 ^ 32 % 2 ^ 16 + e.cause % 256 * 2 ^ 16 + e.block % 16 * 2 ^ 24 + e.mode % 16 * 2 ^ 28),
   BitVec.ofNat 32 (e.seq % 2 ^ 16 + e.inst % 256 * 2 ^ 16 + e.rep % 256 * 2 ^ 24),
   e.detail, e.snap.getD 0 0, e.snap.getD 1 0, e.snap.getD 2 0]

/-- Word 7 of an entry: the CRC-16 of words 0 to 6 in bits [31:16] (R561). -/
def LedgerEntry.check (e : LedgerEntry) : Word :=
  BitVec.ofNat 32 ((crc16 (e.words.flatMap (fun w => beBytes 4 w.toNat))).toNat * 2 ^ 16)

/-- Word w of entry e as the window at 0x00_0800 reads it; an entry not written reads zero (R561). -/
def Block.ledgerWord (s : Block) (e w : Nat) : Word :=
  match Tab.get (fun _ => none) s.ledger.entries e with
  | none => 0
  | some x => if w = 7 then x.check else x.words.getD w 0

/-- The entry at an index. -/
def Block.ledgerEntry (s : Block) (e : Nat) : Option LedgerEntry := Tab.get (fun _ => none) s.ledger.entries e

/-- Store an entry. -/
def Block.setEntry (s : Block) (e : Nat) (x : Option LedgerEntry) : Block :=
  { s with ledger := { s.ledger with entries := Tab.set (fun _ => none) s.ledger.entries e x } }

/-- Whether an event merges into the newest entry: same CAUSE, BLOCK and INST within 1 ms, 8 nominal slow-clock periods (R562). -/
def LedgerEntry.merges (e : LedgerEntry) (now cause block inst : Nat) : Bool :=
  e.cause == cause && e.block == block && e.inst == inst && decide (now - e.t ≤ 8)

/-- Write a new entry at SEQ mod 16 (R562). -/
def Block.newEntry (s : Block) (cause block inst : Nat) (detail : Word) (snap : List Word) : Block :=
  let i := s.ledger.seq % 16
  let lost : Bool := match s.ledgerEntry i with
    | none => false
    | some e => !e.read
  let e : LedgerEntry := { t := s.time.aont, cause := cause, block := block, mode := s.mode, seq := s.ledger.seq % 2 ^ 16, inst := inst,
                           detail := detail, snap := snap }
  let s := (s.setEntry i (some e)).raise Reg.FLT_EVT_NEW
  let s := s.onlyIf lost (fun s => (s.bump Reg.FLT_STAT_LOST).raise Reg.FLT_EVT_LOST)
  let s := (s.put Reg.FLT_STAT_NEWEST i).onlyIf (s.f Reg.FLT_STAT_COUNT < 16) (fun s => s.bump Reg.FLT_STAT_COUNT)
  { s with ledger := { s.ledger with seq := s.ledger.seq + 1 } }

/-- Record an event of R563: merged into the newest entry or written as a new one (R562). -/
def Block.record (s : Block) (cause block inst : Nat) (detail : Word) (snap : List Word) : Block :=
  match (if s.f Reg.FLT_STAT_COUNT = 0 then none else s.ledgerEntry (s.f Reg.FLT_STAT_NEWEST)) with
  | some e =>
    if e.merges s.time.aont cause block inst then
      s.setEntry (s.f Reg.FLT_STAT_NEWEST) (some { e with rep := min 255 (e.rep + 1) })
    else s.newEntry cause block inst detail snap
  | none => s.newEntry cause block inst detail snap

/-! ## The interrupt tree -/

/-- A source of R514: cause bit, event register, mask register, the event bits that count. -/
structure Source where
  bit : Nat
  evt : Nat
  mask : Nat
  sel : Word
deriving DecidableEq, Repr

/-- The sources of each group (R514). -/
def groupSources : Nat → List Source
  | 0 => [⟨0, Reg.PWR_EVT, Reg.PWR_MASK, 0xFFFFFFFF⟩]
  | 1 => [⟨0, Reg.CLK_EVT, Reg.CLK_MASK, 0xFFFFFFFF⟩]
  | 2 => [⟨0, Reg.IMG_EVT, Reg.IMG_MASK, 0xFFFFFFFF⟩]
  | 3 => (List.range 18).map (fun g => ⟨g, Reg.CELL_GRP_EVT g, Reg.CELL_GRP_MASK g, 0xFFFFFFFF⟩) ++
         (List.range 16).map (fun n => ⟨18 + n, Reg.UAP_EVT n, Reg.UAP_MASK n, 0x47⟩) ++
         [⟨34, Reg.CLOCHE_EVT, Reg.CLOCHE_MASK, 0xFFFFFFFF⟩]
  | 4 => (List.range 16).map (fun n => ⟨n, Reg.UAP_EVT n, Reg.UAP_MASK n, 0x38⟩) ++
         [⟨16, Reg.HP_EVT, Reg.HP_MASK, 0xFFFFFFFF⟩, ⟨17, Reg.JACK_EVT, Reg.JACK_MASK, 0xFFFFFFFF⟩]
  | 5 => (List.range 2).map (fun c => ⟨c, Reg.SPK_EVT c, Reg.SPK_MASK c, 0xFFFFFFFF⟩)
  | 6 => (List.range 16).map (fun n => ⟨n, Reg.CHAIN_DEVT n, Reg.CHAIN_DMASK n, 0xFFFFFFFF⟩) ++
         (List.range 20).map (fun m => ⟨16 + m, Reg.CHAIN_IEVT m, Reg.CHAIN_IMASK m, 0xFFFFFFFF⟩) ++
         (List.range 4).map (fun p => ⟨36 + p, Reg.SAP_EVT p, Reg.SAP_MASK p, 0xFFFFFFFF⟩) ++
         [⟨40, Reg.SRC_GLB_EVT, Reg.SRC_GLB_MASK, 0xFFFFFFFF⟩]
  | 7 => [⟨0, Reg.GRF_EVT, Reg.GRF_MASK, 0xFFFFFFFF⟩] ++
         (List.range 16).map (fun t => ⟨1 + t, Reg.GRF_RING_EVT t, Reg.GRF_RING_MASK t, 0xFFFFFFFF⟩) ++
         [⟨17, Reg.EFX_EVT, Reg.EFX_MASK, 0xFFFFFFFF⟩, ⟨18, Reg.GRF_SCARF_EVT, Reg.GRF_SCARF_MASK, 0xFFFFFFFF⟩]
  | 8 => [⟨0, Reg.DIR_EVT, Reg.DIR_MASK, 0xFFFFFFFF⟩]
  | 9 => [⟨0, Reg.CSC_EVT, Reg.CSC_MASK, 0xFFFFFFFF⟩, ⟨1, Reg.CSC_WC_EVT, Reg.CSC_WC_MASK, 0xFFFFFFFF⟩]
  | 10 => (List.range 4).map (fun p => ⟨p, Reg.TRL_EVT p, Reg.TRL_MASK p, 0xFFFFFFFF⟩) ++
          [⟨4, Reg.TRL_GLB_EVT, Reg.TRL_GLB_MASK, 0xFFFFFFFF⟩, ⟨5, Reg.TRL_RT_EVT, Reg.TRL_RT_MASK, 0xFFFFFFFF⟩]
  | 11 => [⟨0, Reg.MEM_EVT, Reg.MEM_MASK, 0xFFFFFFFF⟩, ⟨1, Reg.XSPI_EVT, Reg.XSPI_MASK, 0xFFFFFFFF⟩,
           ⟨2, Reg.DMA_EVT_DONE, Reg.DMA_MASK_DONE, 0xFFFFFFFF⟩, ⟨3, Reg.DMA_EVT_ERR, Reg.DMA_MASK_ERR, 0xFFFFFFFF⟩]
  | 12 => [⟨0, Reg.BST_EVT, Reg.BST_MASK, 0xFFFFFFFF⟩]
  | 13 => [⟨0, Reg.SEC_EVT, Reg.SEC_MASK, 0xFFFFFFFF⟩]
  | 14 => [⟨0, Reg.PWR_WAKE, Reg.PWR_WAKE_MASK, 0xFFFFFFFF⟩]
  | 15 => [⟨0, Reg.FLT_EVT, Reg.FLT_MASK, 0xFFFFFFFF⟩, ⟨1, Reg.SYS_EVT, Reg.SYS_MASK, 0xFFFFFFFF⟩]
  | _ => []

/-- Whether a source has an event bit set whose mask bit is 1 (R514). An event register resets to zero. -/
def Block.sourceOn (s : Block) (x : Source) : Bool :=
  let e := Tab.get (fun _ => (0 : Word)) s.regs x.evt
  if e = 0 then false else (e &&& s.word x.mask &&& x.sel) != 0

/-- The cause bits of a group, bits 0 to 63 (R514). -/
def Block.groupCause (s : Block) (g : Nat) : Nat :=
  (groupSources g).foldl (fun acc x => if s.sourceOn x then acc + 2 ^ x.bit else acc) 0

/-- SYS_IRQ_SUMMARY: bit g while any source of group g is on (R514). -/
def Block.summary (s : Block) : Nat :=
  (List.range 16).foldl (fun acc g => if (groupSources g).any s.sourceOn then acc + 2 ^ g else acc) 0

/-- SYS_IRQ_SUMMARY AND IRQ_SUM_MASK (R515). -/
def Block.irqPend (s : Block) : Nat := s.summary &&& s.f Reg.IRQ_SUM_MASK_MASK

/-- FAULT_N is low (R518): a rail out of range, the SAFE mode, FAULTOUT, or the core not yet released. -/
def Block.faultLow (s : Block) : Bool :=
  !s.core || s.on Reg.PWR_SAFE_RAILNOW || s.mode == modeSafe || s.on Reg.SYS_CTRL_FAULTOUT

/-! ## Packets out -/

/-- The record of a port. -/
def Block.port (s : Block) (p : Nat) : PortSt := Tab.get (fun _ => {}) s.net.ports p

/-- Change the record of a port. -/
def Block.modPort (s : Block) (p : Nat) (g : PortSt → PortSt) : Block :=
  { s with net := { s.net with ports := Tab.upd (fun _ => {}) s.net.ports p g } }

/-- Own address (R412). -/
def Block.addr (s : Block) : Nat := s.f Reg.TRL_RT_STAT_ADDR

/-- Own epoch (R412). -/
def Block.epoch (s : Block) : Nat := s.f Reg.TRL_RT_STAT_EPOCH

/-- The class in which a transmitter sends a packet: census and LOFFER packets, then answers, then requests (R419). -/
def packetClass (t : Nat) : Nat :=
  if t = 0x01 || t = 0x02 || t = 0x03 || t = 0x20 then 0
  else if t = 0x11 || t = 0x13 || t = 0x21 then 1 else 2

/-- Put a packet among those that wait at a port (R419). -/
def Block.sendOn (s : Block) (p : Nat) (k : Packet) : Block :=
  { s with net := { s.net with txq := s.net.txq ++ [⟨p, packetClass k.type, k⟩] } }

/-- The ports that are tree links: to the parent or to a child (R419, R436). -/
def Block.treePorts (s : Block) : List Nat :=
  (List.range 4).filter (fun p => s.f (Reg.TRL_RT_PSTAT_ROLE p) == 1 || s.f (Reg.TRL_RT_PSTAT_ROLE p) == 2)

/-- The port toward an address, by the destination table (R419, R436). -/
def Block.routePort (s : Block) (d : Nat) : Option Nat :=
  if s.on (Reg.TRL_RT_DEST_VIA d) then some (s.f (Reg.TRL_RT_DEST_PORT d)) else none

/-- Send a packet to a device address or to all (R419). -/
def Block.send (s : Block) (k : Packet) : Block :=
  if k.dst = 63 then s.forAll s.treePorts (fun p s => s.sendOn p k)
  else match s.routePort k.dst with
    | some p => s.sendOn p k
    | none => s

/-- A packet of this device (R417). -/
def Block.packet (s : Block) (type dst seq status : Nat) (payload : List Byte) : Packet :=
  ⟨type, dst, s.addr, s.epoch, seq, status, payload⟩

/-! ## What follows every command -/

/-- The interrupt pin follows the masked summary, unless REARM holds it released; each falling edge counts (R515, R516). -/
def Block.irqSettle (s : Block) : Block :=
  let on : Bool := s.irqPend != 0 && s.host.release.isNone
  let s := s.onlyIf (on && !s.host.irqLow) (fun s => s.bump Reg.IRQ_CNT_ASSERTS)
  { s with host := { s.host with irqLow := on } }

/-- Send a NOTIFY with the masked summary (R517). -/
def Block.sendNote (s : Block) : Block :=
  let s := s.send (s.packet 0x30 (s.f Reg.TRL_RT_CFG_NOTE) 0 0 (beBytes 2 s.irqPend))
  { s with host := { s.host with noteSent := true, noteOwed := false } }

/-- A masked summary that turns from zero to non-zero sends NOTIFY, at most once in a frame (R517). -/
def Block.noteSettle (s : Block) : Block :=
  let zero : Bool := s.irqPend == 0
  let change : Bool := s.host.wasZero && !zero && s.on Reg.TRL_RT_CFG_NOTE
  let s := if change then (if s.host.noteSent then { s with host := { s.host with noteOwed := true } } else s.sendNote) else s
  { s with host := { s.host with wasZero := zero } }

/-- What follows every command: the interrupt pin and NOTIFY (R515, R517). -/
def Block.settle (s : Block) : Block := s.irqSettle.noteSettle

/-- Run an operation on everything but the queue; operands that name no unit of the hardware stop the machine. -/
def State.act (s : State) (ok : Bool) (g : Block → Block) : Host.Outcome State Fault Refusal :=
  if ok then .next { s with toBlock := (g s.toBlock).settle } else .fault .noSuchUnit

/-- A write of a register by the host: with the core clock stopped it is ignored and sets NOCORE, and in OFF and DORMANT the port is
unpowered (R511). -/
def Block.hostWrite (s : Block) (g : Block → Block) : Block :=
  if s.coreOn then g s
  else if s.base = modeOff || s.base = modeDormant then s
  else let s := s.raise Reg.SYS_EVT_NOCORE; { s with host := { s.host with prevErr := true } }

/-- Run a host's write; operands that name no unit of the hardware stop the machine. -/
def State.hostWrite (s : State) (ok : Bool) (g : Block → Block) : Host.Outcome State Fault Refusal := s.act ok (fun b => b.hostWrite g)

end Sys2Proof.Machine
end

