-- ==== Sys2Proof/Machine/Links.lean ====
section
/-! DEFINITION. Trellis links: training (R393 to R396), grids (R397 to R399), reception, losses and substitution (R386 to R392, R402, R403),
the microframes sent, and the protection of lanes and bulk taps (R430 to R432). -/

namespace Sys2Proof.Machine

/-- Receiver states of R393. -/
def linkOff : Nat := 0
/-- DETECT. -/
def linkDetect : Nat := 1
/-- ALIGN. -/
def linkAlign : Nat := 2
/-- MEASURE. -/
def linkMeasure : Nat := 3
/-- UP. -/
def linkUp : Nat := 4
/-- FAILED. -/
def linkFailed : Nat := 5

/-- The state of a port's receiver (R393). -/
def Block.linkState (s : Block) (p : Nat) : Nat := s.f (Reg.TRL_LSTAT_STATE p)

/-- A tick in 1/8 ns: 81.380 ns (R395). -/
def tickEighths : Rat := 16276 / 25

/-- Ticks in a frame (R15). -/
def frameTicks : Nat := 256

/-- Request a census 2 frames from now on the root (R409). One that starts in this cycle is the census asked for (R435). -/
def Block.censusSoon (s : Block) : Block :=
  let begun : Bool := match s.net.census with
    | some r => r.since == s.time.now
    | none => false
  if s.on Reg.TRL_RT_CFG_ROOT && !begun then { s with net := { s.net with censusAt := s.net.censusAt ++ [s.after (2 * frameTicks)] } } else s

/-- A port has entered UP or FAILED: the root starts a census 2 frames later, at once at its first UP since READY; every other device
sends TOPO to address 1 (R409, R410). -/
def Block.topoChange (s : Block) (p st : Nat) : Block :=
  if s.on Reg.TRL_RT_CFG_ROOT then
    (if st = linkUp && !s.net.rootSeenUp && s.audioOn then
       { s with net := { s.net with censusAt := s.net.censusAt ++ [s.time.now], rootSeenUp := true } } else s.censusSoon)
  else if s.addr = 0 then s
  else s.send (s.packet 0x04 1 0 0 [BitVec.ofNat 8 p, BitVec.ofNat 8 st])

/-- Enter a receiver state (R393): what the receiver gathered in the state before is dropped. -/
def Block.enterLink (s : Block) (p st : Nat) : Block :=
  (s.put (Reg.TRL_LSTAT_STATE p) st).modPort p (fun x => { x with
    since := s.time.now, markers := 0, superGood := true, mgmtGood := true, mgmt := [], missRun := 0, fails := [], rhos := [], pkt := [],
    hsSince := none })

/-- The upstream port before a census names one: the lowest-numbered port in ALIGN or later whose accepted record shows DOMAIN = 1
(R397). -/
def Block.refreshUpstream (s : Block) : Block :=
  if s.on Reg.TRL_RT_CFG_ROOT || s.net.named then s else
  let ok (p : Nat) : Bool := (s.port p).peerDomain && (s.linkState p == linkAlign || s.linkState p == linkMeasure || s.portUp p)
  match (List.range 4).find? ok with
  | some p =>
    let s := (s.raise Reg.TRL_GLB_STAT_UPV).put Reg.TRL_GLB_STAT_UPPORT p
    s.forAll (List.range 4) (fun q s => s.putB (Reg.TRL_LSTAT_UPSTRM q) (q == p))
  | none => s

/-- A link fails (R393, R402): FAILED, its lanes ramp down under R29, and the fabric is told. A failure out of UP is a declared one. -/
def Block.failPort (s : Block) (p : Nat) (burst : Bool) : Block :=
  let wasUp := s.portUp p
  let s := s.onlyIf wasUp (fun s =>
    let s := ((s.bump (Reg.TRL_CNT_LINK_FAILS p)).raise (Reg.TRL_EVT_FAIL p)).onlyIf burst (fun s => s.raise (Reg.TRL_EVT_BURST p))
    s.record 0x40 10 p (s.word (Reg.TRL_LSTAT p)) [s.word Reg.TRL_RA_PROG])
  let s := (((s.enterLink p linkFailed).put (Reg.TRL_LSTAT_LIVE p) 0).put (Reg.TRL_LSTAT_PEERRX p) 0).put (Reg.TRL_RT_PSTAT_HS p) 0
  let s := s.put (Reg.TRL_RT_PSTAT_ROLE p) 0
  let s := s.modPort p (fun x => { x with wasUp := wasUp, peerRho := none, peerDomain := false, queue := [] })
  s.topoChange p linkFailed

/-- SIGNAL_DETECT (R393). -/
def Block.signalDetectOp (s : Block) (p : Nat) : Block :=
  let s := s.modPort p (fun x => { x with signal := true })
  if s.linkState p = linkDetect then s.enterLink p linkAlign else s

/-- LOSS_OF_SIGNAL (R393): FAILED from any state after DETECT. -/
def Block.lossOfSignalOp (s : Block) (p : Nat) : Block :=
  let s := s.modPort p (fun x => { x with signal := false })
  if s.linkState p = linkAlign || s.linkState p = linkMeasure || s.linkState p = linkUp then s.failPort p false else s

/-- FAILED_RETRY (R393, R404): DETECT 1 ms after FAILED, once the link PLL holds lock; a signal that stands leads on to ALIGN. -/
def Block.failedRetryOp (s : Block) (p : Nat) : Block :=
  if s.linkState p = linkFailed && s.reached ((s.port p).since + ticks (msTicks 1)) && s.on Reg.CLK_STAT_LLOCK then
    let s := s.enterLink p linkDetect
    if (s.port p).signal then s.enterLink p linkAlign else s
  else s

/-- RETRAIN (R404): MEASURE at once; δ, A, HD and HB are measured again. -/
def Block.retrainOp (s : Block) (p : Nat) : Block :=
  if s.linkState p = linkUp || s.linkState p = linkMeasure then
    (s.enterLink p linkMeasure).modPort p (fun x => { x with wasUp := false, peerRho := none })
  else s

/-! ## Training -/

/-- The least whole number with ρ − A ticks ≤ +2 ns (R395), ρ in 1/8 ns. -/
def retiming (rho : Rat) : Int := ((rho - 16) / tickEighths).ceil

/-- Publish A, HD and HB of a port for its ρ and δ (R395); HD is rounded up to 1/8 ns. -/
def Block.setHop (s : Block) (p : Nat) (rho delta : Int) : Block :=
  let a := retiming rho
  let hd := ((a : Rat) * tickEighths + delta - rho).ceil
  (((s.putInt (Reg.TRL_LSTAT_A p) a).putInt (Reg.TRL_RXDLY_HD p) hd).putInt (Reg.TRL_RXDLY_HB p) (delta - rho)).putInt
    (Reg.TRL_RHO_RHO p) rho

/-- Mean of arrival times, rounded to 1/8 ns. -/
def meanRho (l : List Int) : Int := if l.isEmpty then 0 else ratRound ((l.sum : Rat) / l.length)

/-- Working or protect route of a lane field: port and lane (R436). -/
def routeOfLane (v : Nat) : Nat × Nat := (v / 4 % 4, v % 4)

/-- The two routes of lane in k: working, and protect if it has one (R436). -/
def Block.linRoutes (s : Block) (k : Nat) : (Nat × Nat) × Option (Nat × Nat) :=
  let v := s.f (Reg.TRL_LIN_ROUTE k)
  (routeOfLane (v / 2 % 16), if v.testBit 5 then some (routeOfLane (v / 64 % 16)) else none)

/-- The hidden record of a protected lane in (keys 0 to 3) or bulk tap (keys 4 to 35). -/
def Block.prot (s : Block) (i : Nat) : ProtSt := Tab.get (fun _ => {}) s.net.prot i

/-- Change that record. -/
def Block.modProt (s : Block) (i : Nat) (g : ProtSt → ProtSt) : Block :=
  { s with net := { s.net with prot := Tab.upd (fun _ => {}) s.net.prot i g } }

/-- Hops before and retiming of a route: its IDX at this device (R430). -/
def Block.routeIdx (s : Block) (r : Nat × Nat) : Int :=
  (beNat (((s.port r.1).offer.drop (8 + 2 * r.2)).take 2) : Int) + 3 + s.fInt (Reg.TRL_LSTAT_A r.1)

/-- The equaliser that the offers ask of a protected lane in (R430): whether the working route is the earlier one, and the ticks; none where it exceeds
255. -/
def Block.linEq (s : Block) (k : Nat) : Option (Bool × Nat) :=
  match s.linRoutes k with
  | (w, some p) =>
    let d := s.routeIdx w - s.routeIdx p
    if d.natAbs > 255 then none else some (decide (d < 0), d.natAbs)
  | _ => some (false, 0)

/-- The latency table is to be published again (R28). -/
def Block.latOwed (s : Block) : Block := { s with net := { s.net with latDue := true } }

/-- Take the equaliser of every protected lane (R27, R430): a change is published; an EQ above 255 sets EQERR and the lane runs unprotected. -/
def Block.refreshEq (s : Block) : Block :=
  let s := { s with net := { s.net with eqDue := false } }
  s.forAll ((List.range 4).filter (fun k => (s.f (Reg.TRL_LIN_ROUTE k)).testBit 0)) (fun k s =>
    let e := s.linEq k
    if e = (s.prot k).eq then s else
    let s := s.modProt k (fun x => { x with eq := e })
    let s := s.latOwed
    match e with
    | some (_, n) => s.put (Reg.TRL_LIN_EQ k) n
    | none => ((s.put (Reg.TRL_LIN_EQ k) 0).put (Reg.TRL_LIN_ACT k) 0).raise (Reg.TRL_RT_EVT_EVT.bit 8))

/-- Enter UP (R395, R403, R410, R427): lanes start tagged U, the handshake runs, the latency table is republished (R28). -/
def Block.enterUp (s : Block) (p : Nat) : Block :=
  let s := ((s.enterLink p linkUp).bump (Reg.TRL_CNT_LINK_TRAINS p)).raise (Reg.TRL_EVT_UP p)
  let s := s.modPort p (fun x => { x with laneU := (List.range 4).map (fun l => (l, 256)), bulkU := 256, offerDue := true, service := [], record := true })
  let s := s.refreshEq.latOwed
  s.topoChange p linkUp

/-- MEASURE at a marker (R395, R396): averages over 16 superframes, restarted when ρ moves by more than 2 ns or δ lies outside 0 to
25 ns; |A| beyond 32 sets ALGNERR. -/
def Block.measure (s : Block) (p : Nat) (rho : Int) : Block :=
  let x := s.port p
  let moved : Bool := match x.rhos with
    | r :: _ => decide ((rho - r).natAbs > 16)
    | [] => false
  let rhos := if moved then [rho] else (rho :: x.rhos).take 16
  let s := s.modPort p (fun y => { y with rhos := rhos })
  if rhos.length < 16 || !s.on Reg.TRL_GLB_STAT_GRIDOK then s else
  let own := meanRho rhos
  let s := s.putInt (Reg.TRL_RHO_RHO p) own
  match x.peerRho with
  | none => s
  | some peer =>
    let delta := (own + peer) / 2
    if own + peer < 0 || 400 < own + peer then s.modPort p (fun y => { y with rhos := [] })
    else if (retiming own).natAbs > 32 then
      (s.raise (Reg.TRL_EVT_ALGNERR p)).modPort p (fun y => { y with rhos := [] })
    else ((s.putInt (Reg.TRL_CABLE_DELTA p) delta).setHop p own delta).enterUp p

/-- Accept the training record of a superframe (R394). -/
def Block.acceptRecord (s : Block) (p : Nat) (bs : List Byte) : Block :=
  if bs.length < 512 || bs.getD 0 0 != 0x5A || bs.getD 1 0 != 0x01 then s else
  let flags := bs.getD 2 0
  let rho : Int := (BitVec.ofNat 32 (beNat ((bs.drop 4).take 4))).toInt
  let s := { s with net := { s.net with domainBy := if flags.getLsbD 6 then none else s.net.domainBy } }
  let s := s.modPort p (fun x => { x with peerDomain := flags.getLsbD 6,
                                          peerRho := if flags.getLsbD 5 then some rho else x.peerRho })
  ((s.put (Reg.TRL_PEERID_HI_ID p) (beNat ((bs.drop 8).take 4))).put (Reg.TRL_PEERID_LO_ID p) (beNat ((bs.drop 12).take 4))).refreshUpstream

/-- A marker reaches a receiver in MEASURE or UP (R395, R399): in UP, ρ beyond −90 ns to +4 ns of A chooses A again. Equalisers follow an offer at a
marker (R27). -/
def Block.markerTime (s : Block) (p : Nat) (rho : Int) : Block :=
  let s := s.onlyIf s.net.eqDue (fun s => s.refreshEq)
  if s.linkState p = linkMeasure then s.measure p rho
  else if s.portUp p then
    let s := s.modPort p (fun x => { x with rhos := (rho :: x.rhos).take 16 })
    let own := meanRho (s.port p).rhos
    let off : Rat := own - s.fInt (Reg.TRL_LSTAT_A p) * tickEighths
    if (s.port p).rhos.length = 16 && (off < -720 || off > 32) then
      let s := (s.setHop p own (s.fInt (Reg.TRL_CABLE_DELTA p))).raise (Reg.TRL_EVT_RETIME p)
      let live := s.f (Reg.TRL_LSTAT_LIVE p)
      let s := s.modPort p (fun x => { x with
        laneU := (List.range 4).foldl (fun t l => if live.testBit l then Tab.set (fun _ => 0) t l 256 else t) x.laneU })
      s.refreshEq.latOwed
    else s.putInt (Reg.TRL_RHO_RHO p) own
  else s

/-! ## Reception -/

/-- Whether a microframe passes its check: no violation and the CRC-16 of bytes 1 to 17 (R388). `bytes` are bytes 1 to 19. -/
def microframeGood (m : Microframe) : Bool :=
  m.violations == 0 && m.bytes.length == 19 && crc16 (m.bytes.take 17) == BitVec.ofNat 16 (beNat (m.bytes.drop 17))

/-- Whether a slot is missing: byte 0 is not the K-code its position requires (R387). -/
def microframeMissing (m : Microframe) (slot : Nat) : Bool := m.kcode != (if slot = 0 then .k281 else .k285)

/-- Tags of a service byte, bits [7:2] (R390). -/
def serviceTags (b : Byte) : Byte := b &&& 0xFC

/-- The sample a receiver takes for a Direct lane: as received, or the last good one tagged S or F, with the tags of the lane's service byte
(R390, R402). -/
def laneSample (x : PortSt) (m : Microframe) (lane : Nat) (good missing : Bool) : Sample :=
  let svc := serviceTags (Tab.get (fun _ => (0 : Byte)) x.service lane)
  let last := Tab.get (fun _ => ({} : Sample)) x.laneGood lane
  if missing then { last with tag := svc ||| tagF }
  else if !good then { last with tag := svc ||| tagS }
  else ⟨BitVec.ofNat 24 (beNat ((m.bytes.drop (3 * lane)).take 3)), svc⟩

/-- Take the service byte of a slot that passed: LIVE of its lane, RDI, and the tags of the lane (R390, R403). -/
def Block.takeService (s : Block) (p slot : Nat) (b : Byte) : Block :=
  let lane := slot % 4
  let liveBit := (Reg.TRL_LSTAT_LIVE p).bit lane
  let rises := b.getLsbD 0 && !s.on liveBit
  let s := s.modPort p (fun x => { x with
    service := Tab.set (fun _ => 0) x.service lane b,
    laneU := if rises then Tab.set (fun _ => 0) x.laneU lane 256 else x.laneU })
  let s := (s.putB liveBit (b.getLsbD 0)).onlyIf (b.getLsbD 1 && s.on (Reg.TRL_LSTAT_PEERRX p)) (fun s => s.raise (Reg.TRL_EVT_RDI p))
  s.putB (Reg.TRL_LSTAT_PEERRX p) (!b.getLsbD 1)

/-- Slots of 32 bytes that a packet with this header takes (R417). -/
def packetSlots (header : List Byte) : Nat := (12 + beNat ((header.drop 6).take 2) + 31) / 32

/-- Whether the bytes of a packet carry the CRC-32 that fits (R417, R418). -/
def packetGood (bs : List Byte) : Bool :=
  let len := beNat ((bs.drop 6).take 2)
  len ≤ 1012 && crc32 (bs.take (8 + len)) == BitVec.ofNat 32 (beNat ((bs.drop (8 + len)).take 4))

/-- Management bytes of an UP link (R416, R418): packets are put together slot by slot, and one with a failed microframe or a wrong CRC-32 is
discarded. A packet that arrives whole is taken by the command of its type. -/
def Block.takeMgmt (s : Block) (p slot : Nat) (bs : List Byte) (bad : Bool) : Block :=
  let x := s.port p
  let x := { x with pkt := x.pkt ++ bs, mgmtGood := x.mgmtGood && !bad }
  if slot % 8 != 7 then s.modPort p (fun _ => x)
  else if x.pkt.getD 0 0 = 0 && x.mgmtGood then s.modPort p (fun _ => { x with pkt := [], mgmtGood := true })
  else if x.pkt.length < 32 * packetSlots x.pkt && x.mgmtGood then s.modPort p (fun _ => x)
  else
    let s := s.modPort p (fun _ => { x with pkt := [], mgmtGood := true })
    if x.mgmtGood && packetGood x.pkt then s else (s.bump Reg.TRL_RT_CNT_PKTERR).raise (Reg.TRL_RT_EVT_EVT.bit 5)

/-- The sample a receiver takes for a bulk channel: as received, or the previous good one tagged S or F (R29, R402). -/
def bulkReceived (x : PortSt) (c : Nat) (bytes : List Byte) (good missing : Bool) : Sample :=
  let last := Tab.get (fun _ => ({} : Sample)) x.bulkGood c
  if missing then last.withTag tagF else if !good then last.withTag tagS else Sample.ofWord (beWord bytes)

/-- Four bytes of the management region of an UP link: packets, or the training record that the peer goes on sending until its own receiver is UP.
The first byte of the region tells which: no packet type is 0x5A (R394, R416; DEDUCED, assumption log 94). -/
def Block.takeRegion (s : Block) (p slot : Nat) (bs : List Byte) (ok : Bool) : Block :=
  let s := s.onlyIf (slot == 128) (fun s => s.modPort p (fun x =>
    if (if ok then bs.getD 0 0 == 0x5A else x.record) then { x with record := true, mgmt := [], pkt := [], mgmtGood := true }
    else { x with record := false, mgmtGood := x.record || x.mgmtGood }))
  if !(s.port p).record then s.takeMgmt p slot bs (!ok) else
  let s := s.modPort p (fun x => { x with mgmt := x.mgmt ++ bs, mgmtGood := x.mgmtGood && ok })
  if slot = 255 && (s.port p).mgmtGood then s.acceptRecord p (s.port p).mgmt else s

/-- A slot of a link in UP (R399, R402): counters, lanes, bulk, service and management bytes. -/
def Block.receiveUp (s : Block) (p : Nat) (m : Microframe) (slot : Nat) (good missing : Bool) : Block :=
  let s := s.onlyIf missing (fun s => (s.bump (Reg.TRL_CNT_MISS_MISS p)).raise (Reg.TRL_EVT_MISS p))
  let s := s.onlyIf (!missing && !good) (fun s => (s.bump (Reg.TRL_CNT_CRC_CRC p)).raise (Reg.TRL_EVT_CRC p))
  let s := s.modPort p (fun x => { x with missRun := if missing then x.missRun + 1 else 0,
                                          fails := ((!missing && !good) :: x.fails).take 256 })
  let ok := good && !missing
  let s := s.onlyIf ok (fun s => s.takeService p slot (m.bytes.getD 16 0))
  -- microframe n is presented at the own tick n + 1 + A (R399)
  let a := s.fInt (Reg.TRL_LSTAT_A p)
  let wait := (((slot : Int) + 1 + a - s.time.tick) % 256).toNat
  let due := s.time.now + ticks wait
  let s := s.forAll (List.range 4) (fun l s =>
    let y := laneSample (s.port p) m l good missing
    s.modPort p (fun x => { x with
      queue := x.queue ++ [(due, l, if Tab.get (fun _ => 0) x.laneU l > 0 then y.withTag tagU else y)],
      laneU := Tab.upd (fun _ => 0) x.laneU l (· - 1),
      laneGood := if ok then Tab.set (fun _ => {}) x.laneGood l { y with tag := 0 } else x.laneGood }))
  let four := (m.bytes.drop 12).take 4
  let s := if slot < 128 then
      s.modPort p (fun x =>
        let y := bulkReceived x slot four good missing
        { x with
          queue := x.queue ++ [(due, 16 + slot, if x.bulkU > 0 then y.withTag tagU else y)],
          bulkGood := if ok then Tab.set (fun _ => {}) x.bulkGood slot y else x.bulkGood })
    else s.takeRegion p slot four ok
  let x := s.port p
  if x.missRun ≥ 4 then s.failPort p false
  else if (x.fails.filter id).length ≥ 16 then s.failPort p true
  else s

/-- A slot of a link that trains (R393, R394): eight markers in a row end ALIGN; a clean management region gives the peer's record. -/
def Block.receiveTraining (s : Block) (p : Nat) (m : Microframe) (slot : Nat) (good missing : Bool) : Block :=
  let ok := good && !missing
  let s := s.modPort p (fun x => { x with
    superGood := (if slot = 0 then true else x.superGood) && ok,
    mgmtGood := (if slot = 128 then true else x.mgmtGood) && (ok || slot < 128),
    mgmt := if slot < 128 then [] else x.mgmt ++ (m.bytes.drop 12).take 4 })
  let s := s.onlyIf ok (fun s => s.putB (Reg.TRL_LSTAT_PEERRX p) (!(m.bytes.getD 16 0).getLsbD 1))
  let x := s.port p
  if slot = 255 && x.mgmtGood then s.acceptRecord p x.mgmt else s

/-- MICROFRAME_RECEIVE (R402): one slot of a receiver in ALIGN, MEASURE or UP. -/
def Block.microframeOp (s : Block) (p : Nat) (m : Microframe) : Block :=
  let st := s.linkState p
  if !(st = linkAlign || st = linkMeasure || st = linkUp) then s else
  let x := s.port p
  -- in ALIGN the marker sets the numbering; afterwards it keeps that of the previous marker (R404)
  let slot := if st = linkAlign && m.kcode = .k281 then 0 else x.slot
  let missing := microframeMissing m slot
  let good := microframeGood m
  let inStep := m.kcode = .k281 && x.slot = 0
  let cleanBefore := x.superGood
  let s := s.put (Reg.TRL_CNT_CV_CV p) (min (2 ^ 32 - 1) (s.f (Reg.TRL_CNT_CV_CV p) + m.violations))
  let s := (s.putB (Reg.TRL_LSTAT_RXINV p) m.inverted).modPort p (fun y => { y with
    slot := (slot + 1) % 256,
    markers := if m.kcode = .k281 then (if inStep then y.markers + 1 else 1) else if slot = 0 then 0 else y.markers })
  let s := if st = linkUp then s.receiveUp p m slot good missing else s.receiveTraining p m slot good missing
  let s := s.onlyIf (slot == 0 && !missing && s.linkState p == st) (fun s => s.markerTime p m.rho)
  if st = linkAlign && m.kcode = .k281 && (s.port p).markers ≥ 8 && cleanBefore && good then s.enterLink p linkMeasure else s

/-! ## What the lanes present -/

/-- What a link that is not UP leaves of a sample: after a failure the ramp to zero over 64 ticks, else zero, tagged F (R29). -/
def Block.downSample (s : Block) (p : Nat) (x : Sample) : Sample :=
  let k := min 64 ((s.time.now - (s.port p).since) / 16)
  if (s.port p).wasUp && s.linkState p = linkFailed then ⟨BitVec.ofInt 24 (roundShift (x.int * (64 - (k : Int))) 6), tagF⟩ else ⟨0, tagF⟩

/-- The sample a Direct lane of a port presents to the matrix now (R29, R403): zero tagged F while not live; after a failure the last good
sample ramps to zero over 64 ticks. -/
def Block.laneIn (s : Block) (p l : Nat) : Sample :=
  let y := Tab.get (fun _ => {}) (s.port p).lanes l
  if !s.portUp p then s.downSample p y else if s.on ((Reg.TRL_LSTAT_LIVE p).bit l) then y else ⟨0, tagF⟩

/-- The sample of a bulk channel at the receiver (R29, R391, R403): as delivered at the last frame boundary, or, where `fresh`, as presented in the
superframe that runs. -/
def Block.bulkSample (s : Block) (p c : Nat) (fresh : Bool) : Sample :=
  let y := Tab.get (fun _ => {}) (if fresh then (s.port p).bulkIn else (s.port p).bulk) c
  if s.portUp p then y else s.downSample p y

/-- Whether a route is bad in this microframe: its link is not UP, its lane is not live, or its sample carries F (R431). -/
def Block.routeBad (s : Block) (r : Nat × Nat) : Bool :=
  !s.portUp r.1 || !s.on ((Reg.TRL_LSTAT_LIVE r.1).bit r.2) || (s.laneIn r.1 r.2).tag.getLsbD 3

/-- The route in force of lane in k, and the other one. -/
def Block.linInForce (s : Block) (k : Nat) : (Nat × Nat) × Option (Nat × Nat) :=
  match s.linRoutes k with
  | (w, some p) => if s.on (Reg.TRL_LIN_ACT k) then (p, some w) else (w, some p)
  | r => r

/-- The sample lane in k delivers to the matrix: the route in force, held back by the equaliser where it is the earlier one (R430). -/
def Block.linSample (s : Block) (k : Nat) : Sample :=
  if !(s.f (Reg.TRL_LIN_ROUTE k)).testBit 0 then ⟨0, tagF⟩ else
  let r := (s.linInForce k).1
  match (s.prot k).eq with
  | some (workingEarlier, e) =>
    if e > 0 && (workingEarlier == !s.on (Reg.TRL_LIN_ACT k)) then (s.prot k).delay.getD (e - 1) ⟨0, tagF⟩ else s.laneIn r.1 r.2
  | none => s.laneIn r.1 r.2

/-- The route fields of a bulk output or tap: enabled, (port, channel), protect (port, channel) (R436). -/
def bulkRoutes (v : Nat) : Bool × (Nat × Nat) × Option (Nat × Nat) :=
  (v.testBit 0, (v / 2 % 4, v / 8 % 128), if v.testBit 10 then some (v / 2 ^ 11 % 4, v / 2 ^ 13 % 128) else none)

/-- The sample that a route of a bulk tap delivers at this graph instant (R391): at 96 kHz channel j at tick 128 of its own superframe's frame and
channel j + 64 at the next frame boundary. -/
def Block.bulkRouteIn (s : Block) (r : Nat × Nat) : Sample :=
  let fast := s.on Reg.GRF_GLB_CFG_FG
  let fresh : Bool := fast && 128 ≤ s.time.tick
  s.bulkSample r.1 (if fast && !fresh then r.2 + 64 else r.2) fresh

/-- The frames by which the equaliser holds back a route of a protected bulk tap (R432): those by which it is the earlier one. Neither the offers nor a
register give them, so they are free (assumption log 93). -/
def bulkEq (k : Nat) (protect : Bool) : Nat := min 8 (max 0 (if protect then -Config.bulkEq k else Config.bulkEq k)).toNat

/-- The sample bulk tap k delivers: the route in force, equalised (R391, R432). -/
def Block.bulkTap (s : Block) (k : Nat) : Sample :=
  let (en, w, p) := bulkRoutes (s.f (Reg.TRL_BIN_ROUTE k))
  let act := s.on (Reg.TRL_BIN_ACT k)
  let e := bulkEq k act
  if !en then ⟨0, tagF⟩
  else if p.isNone || e = 0 then s.bulkRouteIn (if act then p.getD w else w)
  else (s.prot (4 + k)).delay.getD (if s.on Reg.GRF_GLB_CFG_FG && 128 ≤ s.time.tick then 2 * e - 1 else 2 * e) ⟨0, tagF⟩

/-- Protection bookkeeping of a protected lane for one microframe (R431, R432). -/
def Block.protTick (s : Block) (k : Nat) : Block :=
  match s.linInForce k with
  | (cur, some other) =>
    let curBad := s.routeBad cur
    let otherGood := !s.routeBad other
    let workGood := if s.on (Reg.TRL_LIN_ACT k) then otherGood else !curBad
    let early := match (s.prot k).eq with
      | some (workingEarlier, _) => (if workingEarlier then (s.linRoutes k).1 else ((s.linRoutes k).2.getD (0, 0)))
      | none => cur
    let s := s.modProt k (fun x => { x with badRun := if curBad then x.badRun + 1 else 0, goodRun := if otherGood then x.goodRun + 1 else 0,
                                            workGood := if workGood then x.workGood + 1 else 0,
                                            delay := (s.laneIn early.1 early.2 :: x.delay).take 255 })
    s.putB (Reg.TRL_LIN_PGOOD k) otherGood
  | _ => s

/-- Protection bookkeeping of a protected bulk tap for one frame (R432). -/
def Block.protFrame (s : Block) (k : Nat) : Block :=
  match bulkRoutes (s.f (Reg.TRL_BIN_ROUTE k)) with
  | (true, w, some p) =>
    let act := s.on (Reg.TRL_BIN_ACT k)
    let bad (r : Nat × Nat) : Bool := !s.portUp r.1 || (s.bulkSample r.1 r.2 false).tag.getLsbD 3
    let cur := if act then p else w
    let other := if act then w else p
    let early := if bulkEq k true = 0 then w else p
    let two : List Sample := if s.on Reg.GRF_GLB_CFG_FG then [s.bulkSample early.1 (early.2 + 64) false, s.bulkSample early.1 early.2 false]
      else [s.bulkSample early.1 early.2 false, {}]
    let s := s.modProt (4 + k) (fun x => { x with badRun := if bad cur then x.badRun + frameTicks else 0,
                                                  goodRun := if bad other then 0 else x.goodRun + frameTicks,
                                                  workGood := if bad w then 0 else x.workGood + frameTicks,
                                                  delay := (two ++ x.delay).take 18 })
    s.putB (Reg.TRL_BIN_PGOOD k) (!bad other)
  | _ => s

/-- The fields of a protected lane or tap. -/
def protAct : ProtId → Fld
  | .lane k => Reg.TRL_LIN_ACT k
  | .bulk k => Reg.TRL_BIN_ACT k
/-- PGOOD. -/
def protGoodFld : ProtId → Fld
  | .lane k => Reg.TRL_LIN_PGOOD k
  | .bulk k => Reg.TRL_BIN_PGOOD k
/-- Key of the hidden record. -/
def protKey : ProtId → Nat
  | .lane k => k
  | .bulk k => 4 + k
/-- Whether the id names a lane in or tap of the device. -/
def protOk : ProtId → Bool
  | .lane k => k < 4
  | .bulk k => k < 32

/-- Whether a lane in or tap is protected. -/
def Block.isProtected (s : Block) : ProtId → Bool
  | .lane k => (s.f (Reg.TRL_LIN_ROUTE k)).testBit 0 && (s.linRoutes k).2.isSome && (s.prot k).eq.isSome
  | .bulk k => (bulkRoutes (s.f (Reg.TRL_BIN_ROUTE k))).1 && (bulkRoutes (s.f (Reg.TRL_BIN_ROUTE k))).2.2.isSome

/-- Switch to the other route: PSW is set and the ledger records it (R431, R563). -/
def Block.switchRoute (s : Block) (l : ProtId) : Block :=
  let s := (s.putB (protAct l) (!s.on (protAct l))).raise (Reg.TRL_RT_EVT_EVT.bit 7)
  (s.modProt (protKey l) (fun x => { x with badRun := 0, goodRun := 0, workGood := 0 })).record 0x41 10 (protKey l) (s.word (protAct l).addr) []

/-- PROTECTION_SWITCH (R431): after HOLD bad microframes in force, with the other route good for at least 256. -/
def Block.protectionSwitchOp (s : Block) (l : ProtId) : Block :=
  if s.isProtected l && (s.prot (protKey l)).badRun ≥ s.f Reg.TRL_PROT_HOLD && (s.prot (protKey l)).goodRun ≥ 256 && s.f Reg.TRL_PROT_HOLD > 0 then
    s.switchRoute l else s

/-- PROTECTION_REVERT (R432): with REV = n > 0 the working route returns once it has been good for n × 100 ms. -/
def Block.protectionRevertOp (s : Block) (l : ProtId) : Block :=
  let n := s.f Reg.TRL_PROT_REV
  if s.isProtected l && s.on (protAct l) && n > 0 && (s.prot (protKey l)).workGood ≥ msTicks (100 * n) then s.switchRoute l else s

/-- FORCE (R432): to the other route at once if that route is good; ignored otherwise. -/
def Block.forceOp (s : Block) (k : Nat) : Block :=
  if s.isProtected (.lane k) && s.on (Reg.TRL_LIN_PGOOD k) then s.switchRoute (.lane k) else s

/-- One tick of a receiver: at a frame boundary the bulk samples of the superframe are delivered (R391), and samples reach their presentation tick
(R399). -/
def PortSt.present (x : PortSt) (now : Nat) (boundary : Bool) : PortSt :=
  let ripe := x.queue.filter (fun q => q.1 ≤ now)
  { x with
    bulk := if boundary then x.bulkIn else x.bulk,
    bulkIn := (ripe.filter (fun q => 16 ≤ q.2.1)).foldl (fun t q => Tab.set (fun _ => {}) t (q.2.1 - 16) q.2.2) x.bulkIn,
    lanes := (ripe.filter (fun q => q.2.1 < 16)).foldl (fun t q => Tab.set (fun _ => {}) t q.2.1 q.2.2) x.lanes,
    queue := x.queue.filter (fun q => !(q.1 ≤ now)) }

/-- One tick of the receivers, and of the protected lanes. -/
def Block.linkTick (s : Block) : Block :=
  let s := s.forAll (List.range 4) (fun p s => s.modPort p (fun x => x.present s.time.now (s.time.tick == 0)))
  s.forAll (List.range 4) (fun k s => if s.isProtected (.lane k) then s.protTick k else s)

/-- A frame boundary at the receivers: U counts down in superframes (R403), and protected bulk taps are watched (R432). -/
def Block.linkFrame (s : Block) : Block :=
  let s := s.forAll (List.range 4) (fun p s => s.modPort p (fun x => { x with bulkU := x.bulkU - 1 }))
  s.forAll (List.range 32) (fun k s => s.protFrame k)

/-! ## What the ports send -/

/-- The lane of port p that sends lane out k of the matrix, working or protect (R436). -/
def Block.loutOn (s : Block) (p l : Nat) : Option Nat :=
  (List.range 4).find? (fun k => s.on (Reg.TRL_LOUT_EN k) &&
    (routeOfLane (s.f (Reg.TRL_LOUT_W k)) == (p, l) || (s.on (Reg.TRL_LOUT_PEN k) && routeOfLane (s.f (Reg.TRL_LOUT_P k)) == (p, l))))

/-- The transit that leaves on lane l of port p (R436). -/
def Block.xitOn (s : Block) (p l : Nat) : Option Nat :=
  (List.range 16).find? (fun t => (s.f (Reg.TRL_XIT_ROUTE t)).testBit 0 && routeOfLane (s.f (Reg.TRL_XIT_ROUTE t) / 32 % 16) == (p, l))

/-- The sample lane l of port p carries: a lane out of the matrix, a transit of the sample presented in the tick before, or zero; a lane that is not live
carries zero (R392, R400, R428, R434). `outs` are the lane outs. -/
def Block.laneTx (s : Block) (outs : List Sample) (p l : Nat) : Sample :=
  if !(s.port p).liveTx.getLsbD l then ⟨0, 0⟩ else
  match s.loutOn p l, s.xitOn p l with
  | some k, _ =>
    if s.base = modeRelay then ⟨0, 0⟩
    else if s.base = modeSafe then ⟨0, tagZ⟩
    else outs.getD k {}
  | none, some t => let r := routeOfLane (s.f (Reg.TRL_XIT_ROUTE t) / 2 % 16); (s.port r.1).held.getD r.2 ⟨0, tagF⟩
  | none, none => ⟨0, 0⟩

/-- Whether lane l of port p may be LIVE (R428): its handshake is accepted, the image is active, and a transit's incoming route is live, or
its ramp to zero still runs. -/
def Block.laneMayLive (s : Block) (p l : Nat) : Bool :=
  s.portUp p && s.f (Reg.TRL_RT_PSTAT_HS p) == 1 && s.img.active.isSome &&
  match s.loutOn p l, s.xitOn p l with
  | some _, _ => s.base != modeRelay
  | none, some t =>
    let r := routeOfLane (s.f (Reg.TRL_XIT_ROUTE t) / 2 % 16)
    s.on ((Reg.TRL_LSTAT_LIVE r.1).bit r.2) || ((s.port r.1).wasUp && s.linkState r.1 == linkFailed && s.time.now < (s.port r.1).since + ticks 64)
  | none, none => false

/-- LANE_LIVE (R428): at a superframe marker, every lane whose conditions hold goes live. -/
def Block.laneLive (s : Block) : Block :=
  s.forAll (List.range 4) (fun p s => s.modPort p (fun x => { x with
    liveTx := BitVec.ofNat 4 ((List.range 4).foldl (fun acc l => if s.laneMayLive p l then acc + 2 ^ l else acc) 0) }))

/-- A lane whose conditions have ceased is no longer live: a transit once the ramp to zero of its input has ended (R428, R434). -/
def Block.laneDrop (s : Block) : Block :=
  s.forAll (List.range 4) (fun p s => s.modPort p (fun x => { x with
    liveTx := BitVec.ofNat 4 ((List.range 4).foldl (fun acc l => if x.liveTx.getLsbD l && s.laneMayLive p l then acc + 2 ^ l else acc) 0) }))

/-- Lane outs of this tick enter the transmitters, and leave in the microframe of the next tick (R390, R400). -/
def Block.txTick (s : Block) (outs : List Sample) : Block :=
  let s := s.laneDrop
  s.forAll ((List.range 4).filter (fun p => s.on (Reg.TRL_PCFG_EN p))) (fun p s =>
    s.modPort p (fun x => { x with txLanes := ((List.range 4).map (s.laneTx outs p) :: x.txLanes).take 5 }))

/-- The service byte of microframe n on port p (R390): the tags of the lane's samples in microframes n − 3 to n. -/
def Block.serviceByte (s : Block) (p n : Nat) : Byte :=
  let x := s.port p
  let l := n % 4
  let tags := (x.txLanes.drop 1).foldl (fun t ls => t ||| (ls.getD l {}).tag) 0
  (tags &&& 0xFC) ||| (if s.portUp p then 0 else 0x02) ||| (if x.liveTx.getLsbD l then 0x01 else 0)

/-- The training record a port sends until its link is UP (R394). -/
def Block.trainingRecord (s : Block) (p : Nat) : List Byte :=
  let st := s.linkState p
  let b2 : Nat := st + (if st = linkMeasure || st = linkUp then 8 else 0) + (if s.on Reg.TRL_GLB_STAT_GRIDOK then 16 else 0) +
    (if (s.port p).rhos.length = 16 then 32 else 0) +
    (if s.on Reg.TRL_RT_CFG_ROOT || (s.f Reg.CLK_STAT_STATE == 2 && s.on Reg.TRL_GLB_STAT_UPV) then 64 else 0)
  [0x5A, 0x01, BitVec.ofNat 8 b2, BitVec.ofNat 8 p] ++ beBytes 4 (s.f (Reg.TRL_RHO_RHO p)) ++
    beBytes 4 (s.word Reg.SYS_UID_HI).toNat ++ beBytes 4 (s.word Reg.SYS_UID_LO).toNat

/-- The route of a bulk transit: its input, first channel in, output, first channel out, and number of channels; none where it is off (R436). -/
def bulkXit (v : Nat) : Option (Nat × Nat × Nat × Nat × Nat) :=
  if v.testBit 0 then some (v / 2 % 4, v / 8 % 128, v / 2 ^ 10 % 4, v / 2 ^ 12 % 128, v / 2 ^ 19 % 128 + 1) else none

/-- The bulk output whose working or protect route is channel c of port p (R436). -/
def Block.boutOn (s : Block) (p c : Nat) : Option Nat :=
  (List.range 32).find? (fun k => let (en, w, pr) := bulkRoutes (s.f (Reg.TRL_BOUT_ROUTE k)); en && (w == (p, c) || pr == some (p, c)))

/-- The channel of a received link that leaves in channel c of port p; at 96 kHz channel j takes j + 64 with it (R391, R400, R436). -/
def Block.bulkXitOn (s : Block) (p c : Nat) : Option (Nat × Nat) :=
  ((List.range 16).filterMap (fun t => (bulkXit (s.f (Reg.TRL_BXIT_ROUTE t))).bind (fun x =>
    let within (c : Nat) : Bool := x.2.2.2.1 ≤ c && c < x.2.2.2.1 + x.2.2.2.2
    if x.2.2.1 ≠ p then none
    else if within c then some (x.1, x.2.1 + (c - x.2.2.2.1))
    else if s.on Reg.GRF_GLB_CFG_FG && 64 ≤ c && within (c - 64) then some (x.1, x.2.1 + (c - x.2.2.2.1)) else none))).head?

/-- What bulk channel c of port p carries in this superframe (R391, R392, R400, R428, R434): a bulk output's sample, at 96 kHz the one released at tick 128
of the frame before in channel j and the one of tick 0 in channel j + 64; a forwarded channel; or a zero word. -/
def Block.bulkTx (s : Block) (p c : Nat) : Sample :=
  let fast := s.on Reg.GRF_GLB_CFG_FG
  if !s.portUp p || s.f (Reg.TRL_RT_PSTAT_HS p) != 1 then ⟨0, 0⟩ else
  match s.boutOn p (if fast then c % 64 else c), s.bulkXitOn p c with
  | some k, _ =>
    if s.base = modeRelay then ⟨0, 0⟩
    else if s.base = modeSafe then ⟨0, tagZ⟩
    else (s.graph.sinks.getD (if fast && c < 64 then 1 else 0) []).getD (52 + k) ⟨0, 0⟩
  | none, some r => s.bulkSample r.1 r.2 false
  | none, none => ⟨0, 0⟩

/-- The bytes of a packet as sent, filled up with zeros to whole slots (R417). -/
def packetBytes (k : Packet) : List Byte :=
  let head : List Byte := [BitVec.ofNat 8 k.type, BitVec.ofNat 8 (k.dst % 64), BitVec.ofNat 8 (k.src % 64), BitVec.ofNat 8 k.epoch, BitVec.ofNat 8 k.seq,
    BitVec.ofNat 8 k.status] ++ beBytes 2 k.payload.length ++ k.payload
  let all := head ++ beBytes 4 (crc32 head).toNat
  all ++ List.replicate ((32 - all.length % 32) % 32) 0

/-- Slots of a packet (R417). -/
def slotsOf (k : Packet) : Nat := (12 + k.payload.length + 31) / 32

/-- The management bytes of microframe n of an UP link: those of the packet that is being sent, zero in a free slot (R416, R417). -/
def Block.mgmtBytes (s : Block) (p n : Nat) : List Byte :=
  match (s.port p).txCur with
  | some (k, left) => ((packetBytes k).drop (32 * (slotsOf k - left) + 4 * (n % 8))).take 4
  | none => [0, 0, 0, 0]

/-- The bulk bytes of microframe n: a bulk channel below 128; above, the training record until the link is UP, then management (R389, R392, R416). -/
def Block.bulkBytes (s : Block) (p n : Nat) : List Byte :=
  if n < 128 then beBytes 4 (s.bulkTx p n).toWord.toNat
  else if (s.port p).training then ((s.trainingRecord p).drop (4 * (n % 4))).take 4 else s.mgmtBytes p n

/-- The bytes 1 to 19 of the microframe that port p sends at tick n (R386). -/
def Block.txMicroframe (s : Block) (p n : Nat) : List Byte :=
  let lanes := (s.port p).txLanes.getD 1 []
  let body := (List.range 4).flatMap (fun l => beBytes 3 (lanes.getD l {}).val.toNat) ++ s.bulkBytes p n ++ [s.serviceByte p n]
  body ++ beBytes 2 (crc16 body).toNat

/-- A tick ends: the microframe of each enabled port has left, at tick 0 with the superframe marker; with the link PLL unlocked the pairs idle
(R18, R386, R393). The samples that the lanes have presented are held for transit. The link counts as UP from the superframe in which both receivers
are (R392; DEDUCED, assumption log 94). -/
def Block.txSend (s : Block) : Block :=
  let n := s.time.tick
  s.forAll (List.range 4) (fun p s =>
    let mf : Option (KCode × List Byte) := if s.on (Reg.TRL_PCFG_EN p) && s.on Reg.CLK_STAT_LLOCK then
        some (if n = 0 then .k281 else .k285, s.txMicroframe p n) else none
    s.modPort p (fun x => { x with training := if n = 0 then !(s.portUp p && s.on (Reg.TRL_LSTAT_PEERRX p)) else x.training, sentMf := mf, held := (List.range 4).map (s.laneIn p) }))

/-! ## The commands -/

/-- SIGNAL_DETECT (R393). -/
def execSignalDetect (p : Nat) (s : State) : Host.Outcome State Fault Refusal := s.act (p < 4) (fun b => b.signalDetectOp p)

/-- LOSS_OF_SIGNAL (R393). -/
def execLossOfSignal (p : Nat) (s : State) : Host.Outcome State Fault Refusal := s.act (p < 4) (fun b => b.lossOfSignalOp p)

/-- FAILED_RETRY (R393). -/
def execFailedRetry (p : Nat) (s : State) : Host.Outcome State Fault Refusal := s.act (p < 4) (fun b => b.failedRetryOp p)

/-- RETRAIN (R404). -/
def execRetrain (p : Nat) (s : State) : Host.Outcome State Fault Refusal := s.hostWrite (p < 4) (fun b => b.retrainOp p)

/-- PROTECTION_SWITCH (R431). -/
def execProtectionSwitch (l : ProtId) (s : State) : Host.Outcome State Fault Refusal := s.act (protOk l) (fun b => b.protectionSwitchOp l)

/-- PROTECTION_REVERT (R432). -/
def execProtectionRevert (l : ProtId) (s : State) : Host.Outcome State Fault Refusal := s.act (protOk l) (fun b => b.protectionRevertOp l)

/-- FORCE (R432). -/
def execForce (k : Nat) (s : State) : Host.Outcome State Fault Refusal := s.hostWrite (k < 4) (fun b => b.forceOp k)

end Sys2Proof.Machine
end

