-- ==== Sys2Proof/Machine/Census.lean ====
section
/-! DEFINITION. The clock root, the census, addresses and routing (R406 to R420), requests and answers (R421 to R423), and the lane handshake
(R426 to R428). -/

namespace Sys2Proof.Machine

/-- Change the Trellis record. -/
def Block.modNet (s : Block) (g : Net → Net) : Block := { s with net := g s.net }

/-- Change the census that runs. -/
def Block.modRun (s : Block) (g : CensusRun → CensusRun) : Block := s.modNet (fun n => { n with census := n.census.map g })

/-- The bits of TRL_RT_EVT (R436). -/
def rtEvt (i : Nat) : Fld := Reg.TRL_RT_EVT_EVT.bit i

/-- Whether the device is the clock root (R406). -/
def Block.isRoot (s : Block) : Bool := s.on Reg.TRL_RT_CFG_ROOT

/-- Name the upstream port (R397, R414). -/
def Block.nameUpstream (s : Block) (p : Nat) : Block :=
  let changed := s.on Reg.TRL_GLB_STAT_UPV && s.f Reg.TRL_GLB_STAT_UPPORT != p
  let s := (s.raise Reg.TRL_GLB_STAT_UPV).put Reg.TRL_GLB_STAT_UPPORT p
  let s := s.forAll (List.range 4) (fun q s => s.putB (Reg.TRL_LSTAT_UPSTRM q) (q == p))
  s.modNet (fun n => { n with named := true, upChanged := n.upChanged || changed })

/-- GRID_ALIGN (R398): at the first LOCKED on a Trellis reference the grid moves so that the marker of the upstream port arrives at the own
tick 0. -/
def Block.gridAlignOp (s : Block) : Block :=
  if s.on Reg.TRL_GLB_STAT_GRIDOK || s.isRoot || s.f Reg.CLK_STAT_STATE != 2 || !s.on Reg.TRL_GLB_STAT_UPV then s else
  let s := { s with time := { s.time with tick := (s.port (s.f Reg.TRL_GLB_STAT_UPPORT)).slot } }
  (s.raise Reg.TRL_GLB_STAT_GRIDOK).raise Reg.TRL_GLB_EVT_GRID

/-- TWOROOT (R407): a link 100 ms in MEASURE whose peer's record shows DOMAIN, on a device that is a root or locked to its upstream port. -/
def Block.tworootOp (s : Block) (p : Nat) : Block :=
  if s.linkState p = linkMeasure && s.reached ((s.port p).since + ticks (msTicks 100)) && (s.port p).peerDomain &&
      (s.isRoot || (s.f Reg.CLK_STAT_STATE == 2 && s.on Reg.TRL_GLB_STAT_UPV)) then s.raise (rtEvt 4) else s

/-- NOROOT (R408): 100 ms after the image or boot plan was verified no enabled port holds a record with DOMAIN = 1. -/
def Block.norootOp (s : Block) : Block :=
  let due : Bool := match s.net.domainBy with
    | some d => s.reached d
    | none => false
  if due && !s.isRoot && (List.range 4).any (fun p => s.on (Reg.TRL_PCFG_EN p)) &&
      (List.range 4).all (fun p => !(s.on (Reg.TRL_PCFG_EN p) && (s.port p).peerDomain)) then
    ((s.raise (rtEvt 12)).raise Reg.CLK_EVT_NOREF).modNet (fun n => { n with domainBy := none })
  else s

/-! ## The census -/

/-- Own unique ID, most significant byte first. -/
def Block.uidBytes (s : Block) : List Byte :=
  beBytes 4 (s.word Reg.SYS_UID_HI).toNat ++ beBytes 4 (s.word Reg.SYS_UID_LO).toNat

/-- The record of this device (R418): the parent fills in its own address at bytes 9 and 12 + parent port, which the child does not know. -/
def Block.censusRecord (s : Block) (r : CensusRun) (root : Bool) : List Byte :=
  let portByte (p : Nat) : Byte :=
    match r.ranges.find? (fun x => x.1 == p) with
    | some x => BitVec.ofNat 8 (x.2.1 + 64 + (if s.portUp p then 128 else 0))
    | none => BitVec.ofNat 8 ((if !root && p = r.parent then 64 else 0) + (if s.portUp p then 128 else 0))
  s.uidBytes ++ [BitVec.ofNat 8 r.newAddr, 0, BitVec.ofNat 8 (r.newHop * 4 + r.parent),
    BitVec.ofNat 8 ((if root then 1 else 0) + (if s.base = modeRelay then 2 else 0) + (if s.base = modeSafe then 4 else 0))] ++
    (List.range 4).map portByte

/-- Fill the parent's address into the first record of a child's CENRET (R418). -/
def fillParent (addr : Nat) (recs : List Byte) : List Byte :=
  if recs.length < 16 then recs else
  let port := (recs.getD 10 0).toNat % 4
  (recs.set 9 (BitVec.ofNat 8 addr)).set (12 + port) (recs.getD (12 + port) 0 ||| BitVec.ofNat 8 addr)

/-- Write the topology table (R412, R436): record words at the address each record bears. -/
def Block.writeTopology (s : Block) (recs : List Byte) : Block :=
  s.forAll (List.range (recs.length / 16)) (fun i s =>
    let r := (recs.drop (16 * i)).take 16
    let a := (r.getD 8 0).toNat
    if a = 0 || a > 62 then s
    else s.forAll (List.range 4) (fun w s => s.setW (Reg.TRL_TOPO a w) (beWord ((r.drop (4 * w)).take 4))))

/-- Make the address, hop distance, parent and destination table of a census take effect in one cycle (R412). -/
def Block.applyCensus (s : Block) (r : CensusRun) (root : Bool) : Block :=
  let s := s.onlyIf (s.addr != r.newAddr) (fun s => s.raise (rtEvt 2))
  let s := ((s.put Reg.TRL_RT_STAT_ADDR r.newAddr).put Reg.TRL_RT_STAT_HOP r.newHop).put Reg.TRL_RT_STAT_EPOCH r.epoch
  let s := ((s.put Reg.TRL_RT_STAT_PARENT (if root then 0 else r.parent)).putB Reg.TRL_RT_STAT_PV (!root)).put Reg.TRL_RT_STAT_CENRUN 0
  let s := s.forAll ((List.range 62).map (· + 1)) (fun d s =>
    let child := r.ranges.find? (fun x => x.2.1 ≤ d && d ≤ x.2.2)
    let port := match child with
      | some x => x.1
      | none => if root then 0 else r.parent
    let via := d != r.newAddr && (child.isSome || !root)
    ((s.put (Reg.TRL_RT_DEST_PORT d) (if via then port else 0)).putB (Reg.TRL_RT_DEST_VIA d) via).putB (Reg.TRL_RT_DEST_LOCAL d)
      (d == r.newAddr))
  let s := s.forAll (List.range 4) (fun p s =>
    let role := if !s.portUp p then 0 else if !root && p = r.parent then 1
      else if r.ranges.any (fun x => x.1 == p) then 2 else 3
    let peer := match r.ranges.find? (fun x => x.1 == p) with
      | some x => x.2.1
      | none => s.f (Reg.TRL_RT_PSTAT_PEER p)
    (s.put (Reg.TRL_RT_PSTAT_ROLE p) role).put (Reg.TRL_RT_PSTAT_PEER p) peer)
  let s := s.modRun (fun x => { x with done := true })
  if root then s else s.nameUpstream r.parent

/-- A census packet to the other end of a link (R410). -/
def Block.censusPacket (s : Block) (type epoch : Nat) (payload : List Byte) : Packet :=
  { s.packet type 0 0 0 payload with epoch := epoch }

/-- The root's exploration has ended (R412, R413): the topology table, COUNT, OVF, CENDONE to every device. -/
def Block.finishRoot (s : Block) (r : CensusRun) : Block :=
  let recs := s.censusRecord r true ++ r.records
  let ovf := (List.range (recs.length / 16)).any (fun i => (recs.getD (16 * i + 8) 0) == 0)
  let count := min 62 (r.next - 1)
  let s := ((s.writeTopology recs).put Reg.TRL_RT_ROOT_COUNT count).onlyIf ovf
    (fun s => (s.raise Reg.TRL_RT_ROOT_OVF).raise (rtEvt 3))
  let s := s.applyCensus r true
  let s := s.send { s.packet 0x03 63 0 0 (BitVec.ofNat 8 count :: s.uidBytes) with epoch := r.epoch }
  s.raise (rtEvt 0)

/-- Explore the next port in UP, or end the exploration (R410). -/
def Block.explore (s : Block) : Block :=
  match s.net.census with
  | none => s
  | some r =>
    match r.ports.dropWhile (fun q => !s.portUp q) with
    | q :: rest =>
      let s := s.sendOn q (s.censusPacket 0x01 r.epoch [BitVec.ofNat 8 r.next, BitVec.ofNat 8 r.newHop])
      s.modRun (fun x => { x with ports := rest, probe := some (q, r.next, s.time.now), lastSend := s.time.now })
    | [] =>
      let s := s.modRun (fun x => { x with probe := none, ports := [] })
      if s.isRoot then s.finishRoot r
      else
        let k := s.censusPacket 0x02 r.epoch
          ([BitVec.ofNat 8 r.next, 0, 0, 0] ++ s.censusRecord r false ++ r.records)
        (s.sendOn r.parent k).modRun (fun x => { x with sent := some k })

/-- Start a census on the root with the next epoch (R409, R410). The requests that are due, and one made in this cycle, are met by it (R435). -/
def Block.beginCensus (s : Block) : Block :=
  let e := (match s.net.census with
    | some r => r.epoch + 1
    | none => s.epoch + 1) % 256
  let r : CensusRun := { epoch := e, since := s.time.now, newAddr := 1, newHop := 0, next := 2, ports := List.range 4 }
  let s := s.modNet (fun n => { n with
    censusAt := n.censusAt.filter (fun d => s.time.now < d && d != s.after (2 * frameTicks)), census := some r })
  (s.raise Reg.TRL_RT_STAT_CENRUN).explore

/-- CENSUS_START and CENSUS_RESTART (R409, R411): the root starts the census whose time has come. -/
def Block.censusStartOp (s : Block) : Block :=
  if s.isRoot && s.net.censusAt.any s.reached then s.beginCensus else s

/-- START (R409): a write of 1 to TRL_RT_CTRL.START on the root. -/
def Block.startOp (s : Block) : Block := if s.isRoot then s.beginCensus else s

/-- An epoch e is newer than c when (e − c) mod 256 lies from 1 to 127 (R409). -/
def newerEpoch (e c : Nat) : Bool := 1 ≤ (e + 256 - c) % 256 && (e + 256 - c) % 256 ≤ 127

/-- CENSUS (R410). -/
def Block.censusOp (s : Block) (p : Nat) (k : Packet) : Block :=
  let next := (k.payload.getD 0 0).toNat
  let hop := (k.payload.getD 1 0).toNat
  let mine := match s.net.census with
    | some r => r.epoch
    | none => s.epoch
  if newerEpoch k.epoch mine then
    let r : CensusRun := { epoch := k.epoch, since := s.time.now, newAddr := if next ≤ 62 then next else 0, newHop := hop + 1,
                           parent := p, next := next + 1, ports := (List.range 4).filter (· != p) }
    let s := (s.modNet (fun n => { n with census := some r })).put (Reg.TRL_RT_PSTAT_PEER p) k.src
    (s.raise Reg.TRL_RT_STAT_CENRUN).explore
  else match s.net.census with
    | some r =>
      if p = r.parent && !s.isRoot then (match r.sent with
        | some c => s.sendOn p c
        | none => s)
      else s.sendOn p (s.censusPacket 0x02 k.epoch [BitVec.ofNat 8 next, 1, 0, 0])
    | none => s.sendOn p (s.censusPacket 0x02 k.epoch [BitVec.ofNat 8 next, 1, 0, 0])

/-- CENRET (R410): the child range of the port, or a non-tree link. -/
def Block.cenretOp (s : Block) (p : Nat) (k : Packet) : Block :=
  match s.net.census with
  | some r =>
    match r.probe with
    | some (q, first, _) =>
      if q != p || k.epoch != r.epoch then s
      else if (k.payload.getD 1 0) = 0 then
        let next := (k.payload.getD 0 0).toNat
        let recs := fillParent r.newAddr (k.payload.drop 4)
        (s.modRun (fun x => { x with next := next, ranges := x.ranges ++ [(q, first, next - 1)], records := x.records ++ recs })).explore
      else
        let s := s.put (Reg.TRL_RT_PSTAT_PEER q) k.src
        (s.modRun (fun x => { x with nonTree := x.nonTree ++ [q] })).explore
    | none => s
  | none => s

/-- CENDONE (R412): the new address and table take effect; the broadcast goes on along the tree. -/
def Block.cendoneOp (s : Block) (p : Nat) (k : Packet) : Block :=
  match s.net.census with
  | some r =>
    if k.epoch = r.epoch && r.sent.isSome && !r.done then
      let s := s.applyCensus r false
      s.forAll (s.treePorts.filter (· != p)) (fun q s => s.sendOn q k)
    else s
  | none => s

/-- CENSUS_REPEAT (R411): a CENSUS is repeated every 2 ms; after 100 ms the port counts as not UP. -/
def Block.censusRepeatOp (s : Block) (p : Nat) : Block :=
  match s.net.census with
  | some r =>
    match r.probe with
    | some (q, first, since) =>
      if q != p then s
      else if s.reached (since + ticks (msTicks 100)) then s.explore
      else if s.reached (r.lastSend + ticks (msTicks 2)) then
        (s.sendOn q (s.censusPacket 0x01 r.epoch [BitVec.ofNat 8 first, BitVec.ofNat 8 r.newHop])).modRun
          (fun x => { x with lastSend := s.time.now })
      else s
    | none => s
  | none => s

/-- A link that fails ends the probe on it: the port counts as not UP (R435). -/
def Block.censusTick (s : Block) : Block :=
  match s.net.census with
  | some r =>
    match r.probe with
    | some (q, _, _) => if s.portUp q then s else s.explore
    | none => s
  | none => s

/-- CENFAIL (R411): the root ends a census of 100 ms; a new one starts 1 s later. -/
def Block.cenfailOp (s : Block) : Block :=
  match s.net.census with
  | some r =>
    if s.isRoot && !r.done && s.reached (r.since + ticks (msTicks 100)) then
      ((s.raise (rtEvt 1)).put Reg.TRL_RT_STAT_CENRUN 0).modNet (fun n => { n with
        census := n.census.map (fun x => { x with done := true, probe := none, ports := [] }), censusAt := n.censusAt ++ [s.after (msTicks 1000)] })
    else s
  | none => s

/-- EPOCH_DISCARD (R411): no CENDONE within 200 ms of the CENSUS. -/
def Block.epochDiscardOp (s : Block) : Block :=
  match s.net.census with
  | some r =>
    if !s.isRoot && !r.done && s.reached (r.since + ticks (msTicks 200)) then
      (s.put Reg.TRL_RT_STAT_CENRUN 0).modNet (fun n => { n with census := none })
    else s
  | none => s

/-! ## Routing, requests and answers -/

/-- Whether a packet is a request that is answered (R421). -/
def answerType (t : Nat) : Option Nat :=
  if t = 0x10 || t = 0x40 then some 0x11 else if t = 0x12 then some 0x13 else if t = 0x20 then some 0x21 else none

/-- Answer a request with a status and no words. -/
def Block.answerStatus (s : Block) (k : Packet) (status : Nat) : Block :=
  match answerType k.type with
  | some t => s.send { s.packet t k.src k.seq status [] with epoch := k.epoch }
  | none => s

/-- What happens to a packet that arrives (R419, R420): consumed here, passed on, or answered. -/
def Block.deliver (s : Block) (p : Nat) (k : Packet) (consume : Block → Block) : Block :=
  let free := k.type = 0x01 || k.type = 0x02 || k.type = 0x03 || k.type = 0x04 || k.dst = 0
  let here (s : Block) : Block := if free || k.epoch = s.epoch then consume s else s.answerStatus k 4
  if k.dst = 0 || (k.dst = s.addr && s.addr != 0) then here s
  else if k.dst = 63 then (here s).forAll (s.treePorts.filter (· != p)) (fun q s => s.sendOn q k)
  else match s.routePort k.dst with
    | some q => s.sendOn q k
    | none => if s.isRoot && (answerType k.type).isSome then (s.bump Reg.TRL_RT_CNT_NOROUTE).answerStatus k 1 else s

/-- TOPO at the root (R409): a census 2 frames later. -/
def Block.topoOp (s : Block) (p : Nat) (k : Packet) : Block := s.deliver p k (fun s => s.censusSoon)

/-- The stored answer to a repeated request (R421). -/
def Block.storedAnswer (s : Block) (k : Packet) : Option Packet :=
  (s.net.answers.find? (fun a => a.src == k.src && a.seq == k.seq)).map (·.answer)

/-- Keep an answer among the last 16 of a source (R421). -/
def Block.keepAnswer (s : Block) (src seq : Nat) (a : Packet) : Block :=
  let mine := (⟨src, seq, a⟩ :: s.net.answers.filter (fun x => x.src == src)).take 16
  s.modNet (fun n => { n with answers := mine ++ n.answers.filter (fun x => x.src != src) })

/-- Answer a request and keep the answer among the last 16 of its source (R421). -/
def Block.answer (s : Block) (k : Packet) (status : Nat) (payload : List Byte) : Block :=
  match answerType k.type with
  | none => s
  | some t =>
    let a := s.packet t k.src k.seq status payload
    (s.send a).keepAnswer k.src k.seq a

/-- Originate a request (R421): the next SEQ, SENT in the progress record. -/
def Block.request (s : Block) (type dst : Nat) (port : Option Nat) (payload : List Byte) : Block :=
  let seq := (s.f Reg.TRL_RA_PROG_SEQTX + 1) % 256
  let k := s.packet type dst seq 0 payload
  let s := match port with
    | some p => s.sendOn p k
    | none => s.send k
  let s := (s.put Reg.TRL_RA_PROG_SEQTX seq).onlyIf (dst != 63) (fun s =>
    s.modNet (fun n => { n with requests := n.requests ++ [⟨seq, dst, k, 1, s.time.now, port⟩] }))
  ((s.put Reg.TRL_RA_PROG_OUT s.net.requests.length).put Reg.TRL_RA_PROG_STATE 1).put Reg.TRL_RA_PROG_DST dst

/-- WRITE requests that are unanswered: the queue of R422 holds 8. -/
def Block.writesOut (s : Block) : Nat := (s.net.requests.filter (fun r => r.pkt.type == 0x10)).length

/-- WPEND and QFREE follow the requests (R436). -/
def Block.refreshRa (s : Block) : Block :=
  ((s.putB Reg.TRL_RA_STAT_WPEND (s.writesOut != 0)).put Reg.TRL_RA_STAT_QFREE (8 - s.writesOut)).put Reg.TRL_RA_PROG_OUT
    s.net.requests.length

/-- Whether a request with this SEQ is out. -/
def Block.outstanding (s : Block) (seq type : Nat) : Bool := s.net.requests.any (fun r => r.seq == seq && r.pkt.type == type)

/-- A request of the root to an address with no device is answered NOROUTE (R419). -/
def Block.unrouted (s : Block) (dst : Nat) : Block :=
  if !s.isRoot || dst = 63 || (s.routePort dst).isSome then s
  else
    let seq := s.f Reg.TRL_RA_PROG_SEQTX
    let s := (s.modNet (fun n => { n with requests := n.requests.filter (fun r => r.seq != seq) })).refreshRa
    let s := ((s.put Reg.TRL_RA_PROG_SEQACK seq).put Reg.TRL_RA_PROG_STATE 3).bump Reg.TRL_RT_CNT_NOROUTE
    (s.put Reg.TRL_RA_STAT_ERR 1).raise (rtEvt 10)

/-- Queue a remote write (R422): one WRITE packet for each 64 words, or a drop with ERR FULL. -/
def Block.remoteWrite (s : Block) (target addr : Nat) (words : List Word) : Block :=
  let n := (words.length + 63) / 64
  if s.writesOut + n > 8 then s.put Reg.TRL_RA_STAT_ERR 6
  else
    let s := s.forAll (List.range n) (fun i s =>
      (s.request 0x10 target none (beBytes 4 ((addr + 256 * i) % 2 ^ 24) ++
        ((words.drop (64 * i)).take 64).flatMap (fun w => beBytes 4 w.toNat))).unrouted target)
    s.refreshRa

/-- A remote read (R422, R423): the words it returns and the state after it. -/
def Block.remoteRead (s : Block) (target addr count : Nat) : List Word × Block :=
  let zeros := List.replicate count (0 : Word)
  if target = 63 then (zeros, s.put Reg.TRL_RA_STAT_ERR 2)
  else
    let same : Bool := match s.net.fetch with
      | some (t, a, _) => t == target && a == addr
      | none => false
    if same && s.on Reg.TRL_RA_STAT_RDONE then
      ((s.net.fetched ++ zeros).take count,
       (s.put Reg.TRL_RA_STAT_RDONE 0).modNet (fun n => { n with fetch := none, fetched := [] }))
    else if same && s.on Reg.TRL_RA_STAT_RPEND then (zeros, s)
    else
      -- the answer of a replaced fetch is discarded when it arrives
      let s := s.modNet (fun n => { n with requests := n.requests.filter (fun r => r.pkt.type != 0x12), fetched := [] })
      let s := s.request 0x12 target none (beBytes 4 addr ++ [BitVec.ofNat 8 (s.f Reg.TRL_RA_CFG_NWORDS + 1)])
      let s := ((s.raise Reg.TRL_RA_STAT_RPEND).put Reg.TRL_RA_STAT_RDONE 0).modNet
        (fun n => { n with fetch := some (target, addr, s.f Reg.TRL_RA_PROG_SEQTX) })
      let s := s.unrouted target
      (zeros, if s.outstanding (s.f Reg.TRL_RA_PROG_SEQTX) 0x12 then s
        else (s.put Reg.TRL_RA_STAT_RPEND 0).modNet (fun n => { n with fetch := none }))

/-- TRL_RA_PROG.STATE: what has become of the last request sent (R425, R436). -/
def Block.requestState (s : Block) (seq st : Nat) : Block :=
  if seq % 256 = s.f Reg.TRL_RA_PROG_SEQTX then s.put Reg.TRL_RA_PROG_STATE st else s

/-- An answer settles its request (R421, R436): the progress record, ERR on a refusal. -/
def Block.settleRequest (s : Block) (k : Packet) : Block :=
  let s := (s.modNet (fun n => { n with requests := n.requests.filter (fun r => r.seq != k.seq) })).refreshRa
  let s := (s.put Reg.TRL_RA_PROG_SEQACK k.seq).requestState k.seq (if k.status = 0 then 2 else 3)
  if k.status = 0 then s
  else (s.onlyIf (k.status < 5) (fun s => s.put Reg.TRL_RA_STAT_ERR k.status)).raise (rtEvt 10)

/-- Send the next IMG packet of a stream for another device (R493). -/
def Block.streamNext (s : Block) : Block :=
  match s.net.stream with
  | [] => s
  | (t, bs) :: rest =>
    let s := ((s.modNet (fun n => { n with stream := rest })).request 0x40 t none bs).unrouted t
    if s.outstanding (s.f Reg.TRL_RA_PROG_SEQTX) 0x40 then s else s.modNet (fun n => { n with stream := [] })

/-- WACK (R421, R493): a WRITE is settled; an IMG packet is, and the stream goes on, or stops at an answer that is not OK. -/
def Block.wackOp (s : Block) (p : Nat) (k : Packet) : Block :=
  s.deliver p k (fun s =>
    if s.outstanding k.seq 0x10 then (s.settleRequest k).onlyIf (k.status == 0) (fun s => s.raise (rtEvt 9))
    else if s.outstanding k.seq 0x40 then
      let s := s.settleRequest k
      if k.status = 0 then s.streamNext else s.modNet (fun n => { n with stream := [] })
    else s)

/-- The 32-bit words of a payload. -/
def wordsOf : List Byte → List Word
  | a :: b :: c :: d :: rest => beWord [a, b, c, d] :: wordsOf rest
  | _ => []

/-- RDATA (R422): the fetch in progress is buffered; the answer of a replaced fetch is discarded (R423). -/
def Block.rdataOp (s : Block) (p : Nat) (k : Packet) : Block :=
  s.deliver p k (fun s =>
    if !s.outstanding k.seq 0x12 then s else
    let s := (s.settleRequest k).put Reg.TRL_RA_STAT_RPEND 0
    if k.status = 0 then
      ((s.raise Reg.TRL_RA_STAT_RDONE).raise (rtEvt 9)).modNet (fun n => { n with fetched := wordsOf k.payload })
    else s.modNet (fun n => { n with fetch := none }))

/-- REQUEST_REPEAT (R421): after 2 ms without an answer the request is sent again, at most 3 times; then it has timed out. -/
def Block.requestRepeatOp (s : Block) (seq : Nat) : Block :=
  match s.net.requests.find? (fun r => r.seq == seq) with
  | none => s
  | some r =>
    if !s.reached (r.at' + ticks (msTicks 2)) then s
    else if r.sends ≤ 3 then
      let s := match r.port with
        | some p => s.sendOn p r.pkt
        | none => s.send r.pkt
      s.modNet (fun n => { n with
        requests := n.requests.map (fun x => if x.seq = seq then { x with sends := x.sends + 1, at' := s.time.now } else x) })
    else
      let s := (s.modNet (fun n => { n with requests := n.requests.filter (fun x => x.seq != seq) })).refreshRa
      let s := s.onlyIf (r.pkt.type == 0x12) (fun s => (s.put Reg.TRL_RA_STAT_RPEND 0).modNet (fun n => { n with fetch := none }))
      let s := s.onlyIf (r.pkt.type == 0x40) (fun s => s.modNet (fun n => { n with stream := [] }))
      let s := ((s.requestState seq 4).put Reg.TRL_RA_STAT_ERR 5).raise (rtEvt 10)
      s.record 0x73 10 r.dst (s.word Reg.TRL_RA_STAT) [s.word Reg.TRL_RA_PROG]

/-- NOTIFY (R517): recorded at the receiving device. -/
def Block.notifyOp (s : Block) (p : Nat) (k : Packet) : Block :=
  s.deliver p k (fun s =>
    ((s.put Reg.TRL_RA_NOTE_SUM (beNat (k.payload.take 2))).put Reg.TRL_RA_NOTE_SRC k.src).raise (rtEvt 11))

/-! ## The lane handshake -/

/-- A field read from a register file, the running one or that of an image under admission. -/
def fieldIn (t : Tab Word) (x : Fld) : Nat := bitsOf (Tab.get resetWord t x.addr) x.lo x.width

/-- Hops with which a Direct lane leaves on lane l of port p, none where the lane is not sent (R426). -/
def lanesSent (t : Tab Word) (p l : Nat) : Option Nat :=
  if (List.range 4).any (fun k => fieldIn t (Reg.TRL_LOUT_EN k) == 1 &&
      (routeOfLane (fieldIn t (Reg.TRL_LOUT_W k)) == (p, l) ||
       (fieldIn t (Reg.TRL_LOUT_PEN k) == 1 && routeOfLane (fieldIn t (Reg.TRL_LOUT_P k)) == (p, l)))) then some 1
  else ((List.range 16).find? (fun x => (fieldIn t (Reg.TRL_XIT_ROUTE x)).testBit 0 &&
      routeOfLane (fieldIn t (Reg.TRL_XIT_ROUTE x) / 32 % 16) == (p, l))).map (fun x => fieldIn t (Reg.TRL_XIT_HOPS x) + 1)

/-- Hops with which a Direct lane is expected on lane l of port p (R426). -/
def lanesExpected (t : Tab Word) (p l : Nat) : Option Nat :=
  match (List.range 4).find? (fun k => (fieldIn t (Reg.TRL_LIN_ROUTE k)).testBit 0 &&
      routeOfLane (fieldIn t (Reg.TRL_LIN_ROUTE k) / 2 % 16) == (p, l)) with
  | some k => some (fieldIn t (Reg.TRL_LIN_HOPS k))
  | none =>
    match (List.range 4).find? (fun k => (fieldIn t (Reg.TRL_LIN_ROUTE k)).testBit 0 && (fieldIn t (Reg.TRL_LIN_ROUTE k)).testBit 5 &&
        routeOfLane (fieldIn t (Reg.TRL_LIN_ROUTE k) / 64 % 16) == (p, l)) with
    | some k => some (fieldIn t (Reg.TRL_LIN_PHOPS k))
    | none => ((List.range 16).find? (fun x => (fieldIn t (Reg.TRL_XIT_ROUTE x)).testBit 0 &&
        routeOfLane (fieldIn t (Reg.TRL_XIT_ROUTE x) / 2 % 16) == (p, l))).map (fun x => fieldIn t (Reg.TRL_XIT_HOPS x))

/-- Whether a bulk channel is sent on a port, or expected from it; at 96 kHz channel j also takes j + 64 (R391, R426). -/
def bulkUsed (t : Tab Word) (sent : Bool) (p c : Nat) : Bool :=
  let fast := fieldIn t Reg.GRF_GLB_CFG_FG == 1
  let hit (q ch : Nat) : Bool := q == p && (ch == c || (fast && ch + 64 == c))
  (List.range 32).any (fun k =>
    let (en, w, pr) := bulkRoutes (fieldIn t (if sent then Reg.TRL_BOUT_ROUTE k else Reg.TRL_BIN_ROUTE k))
    en && (hit w.1 w.2 || (match pr with
      | some r => hit r.1 r.2
      | none => false))) ||
  (List.range 16).any (fun k =>
    let v := fieldIn t (Reg.TRL_BXIT_ROUTE k)
    let first := if sent then v / 2 ^ 12 % 128 else v / 8 % 128
    let port := if sent then v / 2 ^ 10 % 4 else v / 2 % 4
    let within (c : Nat) : Bool := first ≤ c && c ≤ first + v / 2 ^ 19 % 128
    v.testBit 0 && port == p && (within c || (fast && 64 ≤ c && within (c - 64))))

/-- Whether a register file has any reservation on a port (R426). -/
def hasReservation (t : Tab Word) (p : Nat) : Bool :=
  (List.range 4).any (fun l => (lanesSent t p l).isSome || (lanesExpected t p l).isSome) ||
  (List.range 128).any (fun c => bulkUsed t true p c || bulkUsed t false p c)

/-- 16 bytes of a map over 128 channels: bit c in byte c / 8 (R426). -/
def channelMap (f : Nat → Bool) : List Byte :=
  (List.range 16).map (fun i => BitVec.ofNat 8 ((List.range 8).foldl (fun acc j => if f (8 * i + j) then acc + 2 ^ j else acc) 0))

/-- The payload of an LOFFER (R426). -/
def Block.offerPayload (s : Block) (t : Tab Word) (admission : Bool) (p : Nat) : List Byte :=
  let bits (f : Nat → Option Nat) : Nat := (List.range 4).foldl (fun acc l => if (f l).isSome then acc + 2 ^ l else acc) 0
  let idx (l : Nat) : Nat :=
    match (List.range 16).find? (fun x => (fieldIn t (Reg.TRL_XIT_ROUTE x)).testBit 0 &&
        routeOfLane (fieldIn t (Reg.TRL_XIT_ROUTE x) / 32 % 16) == (p, l)) with
    | some x => (s.routeIdx (routeOfLane (fieldIn t (Reg.TRL_XIT_ROUTE x) / 2 % 16))).toNat
    | none => 0
  [BitVec.ofNat 8 (bits (lanesSent t p) + 16 * bits (lanesExpected t p)), if admission then 1 else 0, 0, 0] ++
    (List.range 4).map (fun l => BitVec.ofNat 8 ((lanesSent t p l).getD 0)) ++
    (List.range 4).flatMap (fun l => beBytes 2 (idx l)) ++
    channelMap (bulkUsed t true p) ++ channelMap (bulkUsed t false p)

/-- Send an LOFFER on a port (R426, R427); the handshake of a graft's admission leaves the state in force. -/
def Block.sendOffer (s : Block) (t : Tab Word) (admission keep : Bool) (p : Nat) : Block :=
  let s := s.request 0x20 0 (some p) (s.offerPayload t admission p)
  (s.onlyIf (!keep) (fun s => s.put (Reg.TRL_RT_PSTAT_HS p) 0)).modPort p
    (fun x => { x with hsSince := some s.time.now, offerDue := x.offerDue && keep, hsResult := 0xFF, hsKeep := keep })

/-- The verdict on an offer against one register file (R426): result and first mismatching lane or channel. -/
def judgeOffer (t : Tab Word) (p : Nat) (o : List Byte) : Nat × Nat :=
  let b0 := o.getD 0 0
  let laneBad (l : Nat) : Bool := b0.getLsbD l != (lanesExpected t p l).isSome || b0.getLsbD (4 + l) != (lanesSent t p l).isSome
  let hopBad (l : Nat) : Bool := b0.getLsbD l && (lanesExpected t p l).getD 0 != (o.getD (4 + l) 0).toNat
  let bulkBit (base c : Nat) : Bool := (o.getD (base + c / 8) 0).getLsbD (c % 8)
  let bulkBad (c : Nat) : Bool := bulkBit 16 c != bulkUsed t false p c || bulkBit 32 c != bulkUsed t true p c
  match (List.range 4).find? laneBad with
  | some l => (1, l)
  | none =>
    match (List.range 128).find? bulkBad with
    | some c => (2, c)
    | none =>
      match (List.range 4).find? hopBad with
      | some l => (3, l)
      | none => (0, 0)

/-- LOFFER (R421, R426, R602): the peer's offer is compared with the active image and with an image under admission; the own handshake state
stays, and a repeated offer returns its stored answer. `pend` is the register file of an image under admission, `active` says that an image is active. -/
def Block.loffer (s : Block) (p : Nat) (k : Packet) (active : Bool) (pend : Option (Tab Word)) : Block :=
  let run := fun (s : Block) =>
    let s := (s.modPort p (fun x => { x with offer := k.payload })).modNet (fun n => { n with eqDue := true })
    let tries := (if active then [s.regs] else []) ++ pend.toList
    let verdicts := tries.map (fun t => judgeOffer t p k.payload)
    let r := match verdicts.find? (fun v => v.1 == 0) with
      | some v => v
      | none => verdicts.headD (4, 0)
    let a := s.packet 0x21 0 k.seq 0 [BitVec.ofNat 8 r.1, BitVec.ofNat 8 r.2]
    (s.sendOn p a).keepAnswer (64 + p) k.seq a
  s.deliver p k (fun s => match s.storedAnswer { k with src := 64 + p } with
    | some a => s.sendOn p a
    | none => run s)

/-- LANSWER (R426, R427): accepted or refused. -/
def Block.lanswerOp (s : Block) (p : Nat) (k : Packet) : Block :=
  s.deliver p k (fun s =>
    if !s.outstanding k.seq 0x20 then s else
    let s := (s.modNet (fun n => { n with requests := n.requests.filter (fun r => r.seq != k.seq) })).refreshRa
    let s := ((s.put Reg.TRL_RA_PROG_SEQACK k.seq).requestState k.seq (if k.status = 0 then 2 else 3)).modPort p
      (fun x => { x with hsSince := none, hsResult := if k.status = 0 then (k.payload.getD 0 0xFF).toNat else 0xFF })
    let keep := (s.port p).hsKeep
    if k.status = 0 && (k.payload.getD 0 1) = 0 then s.onlyIf (!keep) (fun s => s.put (Reg.TRL_RT_PSTAT_HS p) 1)
    else (s.onlyIf (!keep) (fun s => s.put (Reg.TRL_RT_PSTAT_HS p) 2)).raise (rtEvt 6))

/-- HANDSHAKE_TIMEOUT (R427): not accepted within 8 ms; a port with REQ = 1 is refused, with REQ = 0 it is deferred. -/
def Block.handshakeTimeoutOp (s : Block) (p : Nat) : Block :=
  match (s.port p).hsSince with
  | some t =>
    if s.reached (t + ticks (msTicks 8)) && ((s.port p).hsKeep || s.f (Reg.TRL_RT_PSTAT_HS p) != 1) then
      let s := s.modPort p (fun x => { x with hsSince := none })
      if (s.port p).hsKeep then s
      else if s.on (Reg.TRL_RT_CFG_REQ.bit p) then (s.put (Reg.TRL_RT_PSTAT_HS p) 2).raise (rtEvt 6) else s.put (Reg.TRL_RT_PSTAT_HS p) 3
    else s
  | none => s

/-- Drain the transmitters (R416, R417, R419): in the management half of a superframe a slot lasts 8 ticks; at its start a packet begins where none is
under way, the lowest class first, in arrival order; at its end the slot has left. The list of packets sent begins anew with each frame. -/
def Block.txDrain (s : Block) : Block :=
  let s := s.onlyIf (s.time.tick == 0) (fun s => s.modNet (fun n => { n with sent := [] }))
  if s.time.tick < 128 then s else
  s.forAll ((List.range 4).filter (fun p => s.portUp p && !(s.port p).training)) (fun p s =>
    let pick (c : Nat) : Option TxPacket := s.net.txq.find? (fun t => t.port == p && t.cls == c)
    if s.time.tick % 8 = 0 then
      match (s.port p).txCur with
      | some _ => s
      | none =>
        match (pick 0).orElse (fun _ => (pick 1).orElse (fun _ => pick 2)) with
        | none => s
        | some t => (s.modNet (fun n => { n with txq := n.txq.erase t })).modPort p (fun x => { x with txCur := some (t.pkt, slotsOf t.pkt) })
    else s)

/-- The slot that ends with this tick has left (R416, R417). -/
def Block.slotEnd (s : Block) : Block :=
  if s.time.tick < 128 || s.time.tick % 8 != 7 then s else
  s.forAll ((List.range 4).filter s.portUp) (fun p s =>
    match (s.port p).txCur with
    | some (k, left) =>
      if left ≤ 1 then (s.modPort p (fun x => { x with txCur := none })).modNet (fun n => { n with sent := n.sent ++ [(p, k)] })
      else s.modPort p (fun x => { x with txCur := some (k, left - 1) })
    | none => s)

/-! ## The commands -/

/-- GRID_ALIGN (R398). -/
def execGridAlign (s : State) : Host.Outcome State Fault Refusal := s.act true (fun b => b.gridAlignOp)

/-- TWOROOT (R407). -/
def execTworoot (p : Nat) (s : State) : Host.Outcome State Fault Refusal := s.act (p < 4) (fun b => b.tworootOp p)

/-- NOROOT (R408). -/
def execNoroot (s : State) : Host.Outcome State Fault Refusal := s.act true (fun b => b.norootOp)

/-- CENSUS_START (R409). -/
def execCensusStart (s : State) : Host.Outcome State Fault Refusal := s.act true (fun b => b.censusStartOp)

/-- CENSUS_RESTART (R411). -/
def execCensusRestart (s : State) : Host.Outcome State Fault Refusal := s.act true (fun b => b.censusStartOp)

/-- START (R409). -/
def execStart (s : State) : Host.Outcome State Fault Refusal := s.hostWrite true (fun b => b.startOp)

/-- CENSUS (R410). -/
def execCensus (p : Nat) (pkt : Packet) (s : State) : Host.Outcome State Fault Refusal := s.act (p < 4) (fun b => b.censusOp p pkt)

/-- CENRET (R410). -/
def execCenret (p : Nat) (pkt : Packet) (s : State) : Host.Outcome State Fault Refusal := s.act (p < 4) (fun b => b.cenretOp p pkt)

/-- CENDONE (R412). -/
def execCendone (p : Nat) (pkt : Packet) (s : State) : Host.Outcome State Fault Refusal := s.act (p < 4) (fun b => b.cendoneOp p pkt)

/-- TOPO (R410). -/
def execTopo (p : Nat) (pkt : Packet) (s : State) : Host.Outcome State Fault Refusal := s.act (p < 4) (fun b => b.topoOp p pkt)

/-- WACK (R421). -/
def execWack (p : Nat) (pkt : Packet) (s : State) : Host.Outcome State Fault Refusal := s.act (p < 4) (fun b => b.wackOp p pkt)

/-- RDATA (R422). -/
def execRdata (p : Nat) (pkt : Packet) (s : State) : Host.Outcome State Fault Refusal := s.act (p < 4) (fun b => b.rdataOp p pkt)

/-- LANSWER (R426). -/
def execLanswer (p : Nat) (pkt : Packet) (s : State) : Host.Outcome State Fault Refusal := s.act (p < 4) (fun b => b.lanswerOp p pkt)

/-- NOTIFY (R517). -/
def execNotify (p : Nat) (pkt : Packet) (s : State) : Host.Outcome State Fault Refusal := s.act (p < 4) (fun b => b.notifyOp p pkt)

/-- CENSUS_REPEAT (R411). -/
def execCensusRepeat (p : Nat) (s : State) : Host.Outcome State Fault Refusal := s.act (p < 4) (fun b => b.censusRepeatOp p)

/-- CENFAIL (R411). -/
def execCenfail (s : State) : Host.Outcome State Fault Refusal := s.act true (fun b => b.cenfailOp)

/-- EPOCH_DISCARD (R411). -/
def execEpochDiscard (s : State) : Host.Outcome State Fault Refusal := s.act true (fun b => b.epochDiscardOp)

/-- REQUEST_REPEAT (R421). -/
def execRequestRepeat (seq : Nat) (s : State) : Host.Outcome State Fault Refusal := s.act (seq < 256) (fun b => b.requestRepeatOp seq)

/-- HANDSHAKE_TIMEOUT (R427). -/
def execHandshakeTimeout (p : Nat) (s : State) : Host.Outcome State Fault Refusal := s.act (p < 4) (fun b => b.handshakeTimeoutOp p)

end Sys2Proof.Machine
end

