-- ==== Sys2Proof/Machine/Elem.lean ====
section
/-! DEFINITION. The elementary functions of the formulas of the manual (R83, R92, R104, R210 to R227, R307 to R309, R537), as the device computes them:
to 2^-90 of their value (DESIGN CHOICE, assumption log 5: the manual gives the formulas and not their rounding). Exact where the formulas have an exact
value at the ends of their ranges. -/

namespace Sys2Proof.Machine

/-- The unit of the fixed-point numbers below. -/
def fixOne : Int := 2 ^ 96

/-- The natural logarithm of 2. -/
def lnTwo : Rat := (54916777467707473351141471128 : Rat) / 2 ^ 96

/-- The natural logarithm of 10. -/
def lnTen : Rat := (182429585950654714090129938606 : Rat) / 2 ^ 96

/-- π. -/
def piQ : Rat := (248902613312231085230521944622 : Rat) / 2 ^ 96

/-- A rational in units of 2^-96. -/
def toFix (q : Rat) : Int := (q * 2 ^ 96 + 1 / 2).floor

/-- 2 to an integer power. -/
def twoPow (n : Int) : Rat := if 0 ≤ n then 2 ^ n.toNat else 1 / 2 ^ (-n).toNat

/-- 10 to an integer power. -/
def tenPow (n : Int) : Rat := if 0 ≤ n then 10 ^ n.toNat else 1 / 10 ^ (-n).toNat

/-- The exponential: a power of 2 times a power series. -/
def expQ (q : Rat) : Rat :=
  let n := (q / lnTwo).floor
  let r := toFix (q - n * lnTwo)
  let p := (List.range 40).foldl (fun (p : Int × Int) i => let t := p.1 * r / fixOne / ((i + 1 : Nat) : Int); (t, p.2 + t)) (fixOne, fixOne)
  (p.2 : Rat) / 2 ^ 96 * twoPow n

/-- The natural logarithm of a positive rational: a multiple of that of 2 and a power series. -/
def lnQ (q : Rat) : Rat :=
  let k : Int := (Nat.log2 q.num.toNat : Int) - Nat.log2 q.den
  let m := q / twoPow k
  let z := toFix ((m - 1) / (m + 1))
  let p := (List.range 50).foldl (fun (p : Int × Int) i => (p.1 * z / fixOne * z / fixOne, p.2 + p.1 / ((2 * i + 1 : Nat) : Int))) (z, 0)
  2 * (p.2 : Rat) / 2 ^ 96 + k * lnTwo

/-- Ten times the common logarithm of a positive rational. -/
def dbQ (q : Rat) : Rat := 10 * lnQ q / lnTen

/-- 10 to a rational power. -/
def pow10Q (q : Rat) : Rat := tenPow q.floor * expQ ((q - q.floor) * lnTen)

/-- The whole square root of a natural number. -/
def isqrt (n : Nat) : Nat :=
  if n = 0 then 0 else (List.range 20).foldl (fun x _ => min x ((x + n / x) / 2)) (2 ^ (Nat.log2 n / 2 + 1))

/-- The square root of a rational that is not negative. -/
def sqrtQ (q : Rat) : Rat := (isqrt (q * 2 ^ 192).floor.toNat : Rat) / 2 ^ 96

/-- The sine of π times a rational in its first quadrant: exact at its ends. -/
def sinQuad (q : Rat) : Rat :=
  if q = 1 / 2 then 1 else
  let x := toFix (q * piQ)
  let p := (List.range 20).foldl (fun (p : Int × Int) i =>
    let t := -p.1 * x / fixOne * x / fixOne / (((2 * i + 2) * (2 * i + 3) : Nat) : Int); (t, p.2 + t)) (x, x)
  (p.2 : Rat) / 2 ^ 96

/-- The sine of π times a rational. -/
def sinPi (q : Rat) : Rat :=
  let h := q - q.floor
  let v := sinQuad (if 1 / 2 < h then 1 - h else h)
  if q.floor % 2 = 0 then v else -v

/-- The cosine of π times a rational. -/
def cosPi (q : Rat) : Rat := sinPi (1 / 2 - q)

/-- The tangent of π times a rational. -/
def tanPi (q : Rat) : Rat := sinPi q / cosPi q

end Sys2Proof.Machine
end

