-- ==== Sys2Proof/Machine/Memory.lean ====
section
/-! DEFINITION. The memories of the logic die (R437 to R448): reads and writes of the audio SRAM and of the coefficient memory with their error
correction, failed banks, scrubbing and clearing. -/

namespace Sys2Proof.Machine

/-- Local address of the audio SRAM (R437). -/
def sramBase : Nat := 0x100000
/-- Bytes of the audio SRAM (R437). -/
def sramSize : Nat := 0x400000
/-- Local address of the coefficient memory (R447). -/
def coefBase : Nat := 0x500000
/-- Local address of the active half of configuration memory (R448). -/
def cfgBase : Nat := 0x600000

/-- Rewrite the memories. -/
def Block.modMem (s : Block) (h : Mem → Mem) : Block := { s with mem := h s.mem }

/-- The error mark of a stored word: 0 none, 1 correctable, 2 not (R440). -/
def Block.upset (s : Block) (a : Nat) : Nat := Tab.get (fun _ => 0) s.mem.upsets (a / 4 * 4)

/-- Stored bits have flipped in these words (R440). -/
def Block.takeUpsets (s : Block) (us : List Upset) : Block :=
  s.forAll us (fun u s => s.modMem (fun m =>
    { m with upsets := Tab.set (fun _ => 0) m.upsets (u.addr / 4 * 4) (if u.uncorrectable then 2 else 1) }))

/-- The bank of a byte offset of the audio SRAM (R437). -/
def bankOf (x : Nat) : Nat := x / 0x40000

/-- Whether a bank has been declared failed (R443). -/
def Block.bankFailed (s : Block) (k : Nat) : Bool := s.on (Reg.MEM_BANK_STAT_FAILED.bit k)

/-- Declare a bank failed (R443). -/
def Block.failBank (s : Block) (k : Nat) : Block :=
  if s.bankFailed k then s else
  let s := (s.raise (Reg.MEM_BANK_STAT_FAILED.bit k)).raise Reg.MEM_EVT_BANKFAIL
  s.record 0x51 11 k (s.word Reg.MEM_BANK_STAT) []

/-- Readers of memory (R470): 0 graph, 1 DMA, 2 host, 3 self-test, 4 convolver. -/
def rdrGraph : Nat := 0

/-- A corrected word is counted, and waits for its write-back (R441). -/
def Block.corrected (s : Block) (a : Nat) : Block :=
  let s := (s.bump Reg.MEM_CE_CNT_CE).raise Reg.MEM_EVT_CE
  if s.on Reg.MEM_CFG_SCRUB && !s.mem.scrub.contains a then s.modMem (fun m => { m with scrub := m.scrub ++ [a] }) else s

/-- An uncorrectable word is counted and recorded (R442). Four addresses of a bank of the audio SRAM within 2^24 ticks fail the bank (R443). A word
of coefficient memory is recorded under its own cause (R447, R563). -/
def Block.uncorrectable (s : Block) (a reader : Nat) (snap : List Word) : Block :=
  let s := (s.bump Reg.MEM_UE_CNT_UE).raise Reg.MEM_EVT_UE
  let s := (s.put Reg.MEM_UE_ADDR_ADDR a).put Reg.MEM_UE_ADDR_RDR reader
  if coefBase ≤ a then s.record 0x52 11 ((a - coefBase) / 0x4000) (s.word Reg.MEM_UE_ADDR) snap else
  let bank := bankOf (a - sramBase)
  let now := s.time.now / 16
  let seen := (a, now) :: (s.mem.ueSeen.filter (fun p => p.1 != a && now - p.2 < 2 ^ 24))
  let s := (s.modMem (fun m => { m with ueSeen := seen })).record 0x50 11 bank (s.word Reg.MEM_UE_ADDR) snap
  if 4 ≤ (seen.filter (fun p => bankOf (p.1 - sramBase) == bank)).length then s.failBank bank else s

/-- What a read of an audio SRAM word gives: the word and 0 good (or corrected), 1 uncorrectable, 2 bank failed (R440 to R443). An
uncorrectable word's bits are not stated: a free value (assumption log 3). -/
def Block.sramRead (s : Block) (x reader : Nat) (snap : List Word) : Word × Nat × Block :=
  let a := sramBase + x / 4 * 4
  let w := s.mem.sram.readWord (x / 4 * 4)
  if s.bankFailed (bankOf x) then (0, 2, s)
  else match s.upset a with
    | 0 => (w, 0, s)
    | 1 => (w, 0, s.corrected a)
    | _ => (BitVec.ofNat 32 s.free, 1, s.used.uncorrectable a reader snap)

/-- Write a word of the audio SRAM: fresh check bits; nothing in a failed bank (R440, R441, R443). -/
def Block.sramWrite (s : Block) (x : Nat) (w : Word) : Block :=
  let a := sramBase + x / 4 * 4
  if s.bankFailed (bankOf x) then s
  else s.modMem (fun m => { m with sram := m.sram.writeWord (x / 4 * 4) w, upsets := Tab.set (fun _ => 0) m.upsets a 0,
                                   scrub := m.scrub.filter (· != a) })

/-- A word of coefficient memory as a convolver reads it: zero where it is uncorrectable (R447). -/
def Block.coefRead (s : Block) (x c : Nat) : Word × Bool × Block :=
  let a := coefBase + x / 4 * 4
  match s.upset a with
  | 0 => (s.mem.coef.readWord (x / 4 * 4), true, s)
  | 1 => (s.mem.coef.readWord (x / 4 * 4), true, s.corrected a)
  | _ =>
    let s := ((s.raise Reg.MEM_EVT_COEFUE).put Reg.MEM_UE_ADDR_ADDR a).put Reg.MEM_UE_ADDR_RDR 4
    (0, false, s.record 0x52 11 c (s.word Reg.MEM_UE_ADDR) [s.word (Reg.GRF_BLK_PROG (40 + c))])

/-- What a read of a coefficient word by the host or the DMA engine gives: the word and 0 good (or corrected) or 1 uncorrectable. The code is that
of the audio SRAM (R447), and its outcomes are taken to be those of R442 (DEDUCED, assumption log 72). -/
def Block.coefFetch (s : Block) (x reader : Nat) (snap : List Word) : Word × Nat × Block :=
  let a := coefBase + x / 4 * 4
  match s.upset a with
  | 0 => (s.mem.coef.readWord (x / 4 * 4), 0, s)
  | 1 => (s.mem.coef.readWord (x / 4 * 4), 0, s.corrected a)
  | _ => (BitVec.ofNat 32 s.free, 1, s.used.uncorrectable a reader snap)

/-- Write a word of coefficient memory. -/
def Block.coefWrite (s : Block) (x : Nat) (w : Word) : Block :=
  let a := coefBase + x / 4 * 4
  s.modMem (fun m => { m with coef := m.coef.writeWord (x / 4 * 4) w, upsets := Tab.set (fun _ => 0) m.upsets a 0,
                              scrub := m.scrub.filter (· != a) })

/-- SCRUB_WRITEBACK (R441): the corrected word goes back; nothing where a write came first. -/
def Block.scrubOp (s : Block) (a : Nat) : Block :=
  if s.mem.scrub.contains a then
    s.modMem (fun m => { m with scrub := m.scrub.filter (· != a),
                                upsets := if Tab.get (fun _ => 0) m.upsets a = 1 then Tab.set (fun _ => 0) m.upsets a 0 else m.upsets })
  else s

/-- Write zero with valid check bits to every word of the banks that `sel` picks (R444, R446). -/
def Block.clearBanks (s : Block) (sel : Nat → Bool) : Block :=
  s.modMem (fun m => { m with sram := m.sram.filter (fun p => !sel (bankOf p.1)),
                              upsets := m.upsets.filter (fun p => !(sramBase ≤ p.1 && p.1 < sramBase + sramSize && sel (bankOf (p.1 - sramBase)))),
                              scrub := m.scrub.filter (fun a => !(sramBase ≤ a && a < sramBase + sramSize && sel (bankOf (a - sramBase)))) })

/-- Begin clearing the banks that are not kept (R446): 32,768 core cycles, all at once. -/
def Block.beginClear (s : Block) (sel : Nat → Bool) : Block :=
  (s.clearBanks sel).modMem (fun m => { m with clearing := some (s.time.now + 32768) })

/-- SRAM_CLEAR_DONE (R446). -/
def Block.clearDoneOp (s : Block) : Block :=
  match s.mem.clearing with
  | some t => if s.reached t then s.modMem (fun m => { m with clearing := none }) else s
  | none => s

/-- The banks that failed are rewritten at an image load or graft (R444). -/
def Block.renewBanks (s : Block) : Block :=
  let s := s.clearBanks (fun k => s.bankFailed k)
  (s.put Reg.MEM_BANK_STAT_FAILED 0).modMem (fun m => { m with ueSeen := [] })

/-- Byte offset and size of a partition (R439). -/
def Block.partition (s : Block) (n : Nat) : Nat × Nat := (4096 * s.f (Reg.MEM_PART_START n), 4096 * s.f (Reg.MEM_PART_SIZE n))

/-! ## The commands -/

/-- SCRUB_WRITEBACK (R441). -/
def execScrubWriteback (addr : Nat) (s : State) : Host.Outcome State Fault Refusal :=
  s.act (addr % 4 = 0 && sramBase ≤ addr && addr < 0x510000) (fun b => b.scrubOp addr)

/-- SRAM_CLEAR_DONE (R446). -/
def execSramClearDone (s : State) : Host.Outcome State Fault Refusal := s.act true (fun b => b.clearDoneOp)

end Sys2Proof.Machine
end

