-- ==== Sys2Proof/Machine/Bst.lean ====
section
/-! DEFINITION. The record of the background self-test that other blocks touch: the end of a slice (R549 to R552) and the chunks of the audio SRAM
under march (R554). What starts and judges slices stands in SelfTest. -/

namespace Sys2Proof.Machine

/-- Rewrite the record of the self-test. -/
def Block.modBst (s : Block) (h : Bst → Bst) : Block := { s with bst := h s.bst }

/-- Record a result of the background self-test: the latest run of each item counts (R550). -/
def Block.bstNote (s : Block) (target item verdict : Nat) : Block :=
  s.modBst (fun x => { x with results := Tab.set (fun _ => 0) x.results (4096 * target + item) verdict })

/-- The full pattern count of a slice of a target (R548). -/
def bstCount : Nat → Nat
  | 0 => 128
  | 1 => 48
  | 2 => 48
  | 3 => 5120
  | 4 => 64
  | _ => 1

/-- Fill a chunk of the audio SRAM with contents that the manual leaves undefined (R554): free values. -/
def Block.scrambleChunk (s : Block) (chunk : Nat) : Block :=
  (List.range 1024).foldl (fun s i => s.used.sramWrite (4096 * chunk + 4 * i) (BitVec.ofNat 32 s.free)) s

/-- Close the slice that runs with its verdict, 1 pass, 2 fail, 3 incomplete (R550, R551): its progress record, counters, event and ledger entry
(R555). -/
def Block.bstClose (s : Block) (t item verdict applied : Nat) (note : Nat) : Block :=
  let s := (s.modBst (fun x => { x with run := none })).bstNote t item note
  let s := (s.put Reg.BST_STAT_BUSY 0).put Reg.BST_PROG_LAST verdict
  let s := (s.putB Reg.BST_PROG_DONE (applied == bstCount t)).put Reg.BST_PROG1_APPLIED applied
  if verdict = 2 then
    ((s.bump (Reg.BST_FAILCNT_FAIL t)).raise Reg.BST_EVT_FAIL).record 0x60 12 t (BitVec.ofNat 32 (s.f Reg.BST_PROG_SLICE_ID)) [s.word Reg.BST_PROG]
  else if verdict = 3 then s.bump (Reg.BST_FAILCNT_INC t) else s

/-- The slice that runs is broken off if `sel` picks its target: incomplete (R549, R552). How many patterns it had applied by then the manual does
not say: a free value below the full count. A chunk under march is left undefined (R554). -/
def Block.bstCut (s : Block) (sel : Nat → Bool) (restarted : Bool) : Block :=
  match s.bst.run with
  | some (t, item, _, _) =>
    if 7 ≤ t || !sel t then s else
    let n := s.free % bstCount t
    let s := s.used.bstClose t item 3 n (if restarted then 3 else 4)
    if t = 3 then s.scrambleChunk item else s
  | none => s

/-- A DMA or host access to a byte of the audio SRAM ends a march of its chunk before it is served (R552). -/
def Block.marchYields (s : Block) (x : Nat) : Block :=
  match s.bst.run with
  | some (3, item, _, _) => if x / 4096 = item then s.bstCut (fun t => t == 3) true else s
  | _ => s

/-- The configuration-memory target starts over on a new image (R552). -/
def Block.bstNewImage (s : Block) : Block :=
  (s.bstCut (fun t => t == 6) true).modBst (fun x => { x with results := x.results.filter (fun p => p.1 / 4096 != 6) })

end Sys2Proof.Machine
end

