-- ==== Sys2Proof/Machine/Cells.lean ====
section
/-! DEFINITION. Converter cells: roles and assignment (R38 to R41), conversion and mismatch correction (R42 to R50), read-back and OUT faults
(R51 to R56), IN faults (R57 to R59), rotation slices (R60 to R71) and degraded operation (R72 to R76). -/

namespace Sys2Proof.Machine

/-- Role codes of R38. -/
def roleOff : Nat := 0
/-- IN. -/
def roleIn : Nat := 1
/-- OUT. -/
def roleOut : Nat := 2
/-- MON. -/
def roleMon : Nat := 3
/-- SPARE. -/
def roleSpare : Nat := 4
/-- TEST. -/
def roleTest : Nat := 5
/-- The index that means "no cell" (R77). -/
def noCell : Nat := 0x7F

/-- The cells of a group (R39). -/
def groupCells (g : Nat) : List Nat :=
  if g < 16 then [5 * g, 5 * g + 1, 5 * g + 2, 5 * g + 3, 5 * g + 4]
  else [80 + 3 * (g - 16), 81 + 3 * (g - 16), 82 + 3 * (g - 16)]

/-- What a group is configured as (R40). -/
inductive GroupKind where
  | unused | fullIn | lowIn | output | headphone
deriving DecidableEq, Repr

/-- The configuration of a group (R40), from UAP_CFG and HP_CFG. -/
def Block.groupKind (s : Block) (g : Nat) : GroupKind :=
  if g < 16 then
    (if s.f (Reg.UAP_CFG_DIR g) = 1 then (if s.on (Reg.UAP_CFG_LP g) then .lowIn else .fullIn)
     else if s.f (Reg.UAP_CFG_DIR g) = 2 then .output else .unused)
  else if s.on (Reg.HP_CFG_EN.bit (g - 16)) then .headphone else .unused

/-- Whether the group drives an output. -/
def GroupKind.isOut : GroupKind → Bool
  | .output | .headphone => true
  | _ => false

/-- Whether the group is an input. -/
def GroupKind.isIn : GroupKind → Bool
  | .fullIn | .lowIn => true
  | _ => false

/-- The hidden record of a cell. -/
def Block.cell (s : Block) (k : Nat) : CellSt := Tab.get (fun _ => {}) s.cells.cells k

/-- Change the hidden record of a cell. -/
def Block.modCell (s : Block) (k : Nat) (h : CellSt → CellSt) : Block :=
  { s with cells := { s.cells with cells := Tab.upd (fun _ => {}) s.cells.cells k h } }

/-- The hidden record of a group. -/
def Block.grp (s : Block) (g : Nat) : GroupSt := Tab.get (fun _ => {}) s.cells.groups g

/-- Change the hidden record of a group. -/
def Block.modGrp (s : Block) (g : Nat) (h : GroupSt → GroupSt) : Block :=
  { s with cells := { s.cells with groups := Tab.upd (fun _ => {}) s.cells.groups g h } }

/-- The role of a cell (R38). -/
def Block.role (s : Block) (k : Nat) : Nat := s.f (Reg.CELL_CFG_ROLE k)

/-- Give a cell a role and slot. -/
def Block.setRole (s : Block) (k role slot : Nat) : Block :=
  (s.put (Reg.CELL_CFG_ROLE k) role).put (Reg.CELL_CFG_SLOT k) slot

/-- The cell of a group that has a role. -/
def Block.withRole (s : Block) (g role : Nat) : Option Nat := (groupCells g).find? (fun k => s.role k == role)

/-- The spare of a group (R77). -/
def Block.spare (s : Block) (g : Nat) : Option Nat := s.withRole g roleSpare

/-- A cell that can be given work: neither marked failed nor excluded (R39, R76). -/
def Block.working (s : Block) (k : Nat) : Bool := !s.on (Reg.CELL_STAT_FAILED k) && !(s.cell k).excluded

/-- The cells that serve: IN, OUT or MON. -/
def Block.serving (s : Block) (g : Nat) : List Nat :=
  (groupCells g).filter (fun k => s.role k == roleIn || s.role k == roleOut || s.role k == roleMon)

/-- The cell whose last completed slice is the oldest among the non-SPARE working cells; cells without a slice first, in ascending index
order (R60). -/
def Block.nextLeaving (s : Block) (g : Nat) : Option Nat :=
  ((groupCells g).filter (fun k => s.role k != roleSpare && s.role k != roleTest && s.working k &&
      !(s.cell k).waitRec && !(s.cell k).waitPromo)).foldl
    (fun best k => match best with
      | none => some k
      | some b => if (s.cell k).age < (s.cell b).age then some k else some b) none

/-- The serving cell that R60 names next: the one that a recovery or promotion slice tracks (R62). -/
def Block.nextServing (s : Block) (g : Nat) : Option Nat :=
  ((s.serving g).filter s.working).foldl
    (fun best k => match best with
      | none => some k
      | some b => if (s.cell k).age < (s.cell b).age then some k else some b) none

/-- The slot a cell serves; slot 0 for a cell that serves none (R64). -/
def Block.slotOf (s : Block) (k : Nat) : Nat := if s.role k = roleIn then s.f (Reg.CELL_CFG_SLOT k) else 0

/-- Refresh CELL_GRP_STAT.SPARE and NEXT (R77). No cell leaves an unused group (R40) or a degraded one (R73). -/
def Block.refreshGroup (s : Block) (g : Nat) : Block :=
  let next := if s.groupKind g = .unused || s.on (Reg.CELL_GRP_STAT_DEGRADED g) then none else s.nextLeaving g
  (s.put (Reg.CELL_GRP_STAT_SPARE g) ((s.spare g).getD noCell)).put (Reg.CELL_GRP_STAT_NEXT g) (next.getD noCell)

/-- CALV: every serving cell of a full-rate input has completed a passing slice since POR (R47). -/
def Block.refreshCalv (s : Block) (g : Nat) : Block :=
  if s.groupKind g = .fullIn then
    s.putB (Reg.CELL_GRP_STAT_CALV g) ((s.serving g).all (fun k => (s.cell k).passed) && !(s.serving g).isEmpty)
  else s

/-- The roles of a configuration in the order the device gives them (R39, R40), with their slots. -/
def GroupKind.roles : GroupKind → List (Nat × Nat)
  | .fullIn => [(roleIn, 0), (roleIn, 1), (roleIn, 2), (roleIn, 3), (roleSpare, 0)]
  | .lowIn => [(roleIn, 0), (roleIn, 2), (roleSpare, 0)]
  | .output => [(roleOut, 0), (roleMon, 0), (roleSpare, 0)]
  | .headphone => [(roleOut, 0), (roleMon, 0), (roleSpare, 0)]
  | .unused => []

/-- The cells a configuration needs, counting the spare (R40). -/
def GroupKind.needs (k : GroupKind) : Nat := k.roles.length

/-- A group without a SPARE and without a cell to promote; one that waits for a recovery or promotion slice, or runs it, counts as one to
promote (R72, R73). -/
def Block.lacksSpare (s : Block) (g : Nat) : Bool :=
  let running : Bool := match s.cells.slice with
    | some sl => sl.group == g && sl.kind != .periodic
    | none => false
  (s.groupKind g != .unused) && (s.spare g).isNone && !running && (groupCells g).all (fun k => !(s.cell k).waitRec && !(s.cell k).waitPromo)

/-- A group that lacks a spare becomes degraded: rotation stops, and the ledger notes it (R73, R74). -/
def Block.degradeCheck (s : Block) (g : Nat) : Block :=
  if s.lacksSpare g && !s.on (Reg.CELL_GRP_STAT_DEGRADED g) then
    (((s.raise (Reg.CELL_GRP_STAT_DEGRADED g)).raise (Reg.CELL_GRP_STAT_NO_ROT g)).raise (Reg.CELL_GRP_EVT_DEGR g)).record
      0x14 3 g (BitVec.ofNat 32 g) []
  else s

/-- DEGRADED and NO_ROT anew: a group that no longer lacks a spare resumes learning and rotation (R73, R262). -/
def Block.redegrade (s : Block) (g : Nat) : Block :=
  if s.lacksSpare g then s.degradeCheck g else (s.put (Reg.CELL_GRP_STAT_DEGRADED g) 0).put (Reg.CELL_GRP_STAT_NO_ROT g) 0

/-- A group that has consumed its spare promotes its lowest-indexed working OFF cell (R72), else it may be degraded (R73). -/
def Block.seekSpare (s : Block) (g : Nat) : Block :=
  if (s.spare g).isSome then s else
  let off := (groupCells g).filter (fun k => s.role k == roleOff && s.working k && !(s.cell k).waitRec && !(s.cell k).waitPromo)
  let waits := (groupCells g).any (fun k => (s.cell k).waitPromo)
  match off with
  | k :: _ => if waits || s.groupKind g = .fullIn || s.groupKind g = .headphone then s.degradeCheck g
              else s.modCell k (fun c => { c with waitPromo := true })
  | [] => s.degradeCheck g

/-- Mark a cell failed: FAILED reads 1, FAILCNT counts, the cell leaves service (R59, R65, R76). -/
def Block.markFailed (s : Block) (k : Nat) : Block :=
  let s := ((s.raise (Reg.CELL_STAT_FAILED k)).bump (Reg.CELL_FAILCNT_FAILS k)).setRole k roleOff 0
  s.modCell k (fun c => { c with waitRec := false, waitPromo := false })

/-- Give the roles of a group at an image load or at a wake: ascending index, failed and excluded cells kept out (R39, R41, R533). -/
def Block.assignRoles (s : Block) (g : Nat) : Block :=
  let cs := (groupCells g).filter s.working
  let s := s.forAll (groupCells g) (fun k s => (s.setRole k roleOff 0).modCell k
    (fun c => { c with waitRec := false, waitPromo := false, consec := 0, learn := 0 }))
  let s := s.forAll (cs.zip (s.groupKind g).roles) (fun p s => s.setRole p.1 p.2.1 p.2.2)
  let s := (s.modGrp g (fun x => { allowDegraded := x.allowDegraded })).put (Reg.CELL_GRP_STAT_HOLDZ g) 0
  let s := s.onlyIf (s.groupKind g != .unused && (s.spare g).isNone) (fun s => s.degradeCheck g)
  -- the spare shadows the slot of the cell that leaves next (R64)
  let s := match s.spare g, s.nextLeaving g with
    | some sp, some n => s.put (Reg.CELL_CFG_SLOT sp) (s.slotOf n)
    | _, _ => s
  (s.refreshGroup g).refreshCalv g

/-! ## Input conversion and correction -/

/-- The value of a raw code in units of 2^-23 (R37). -/
def codeValue (c : CellCode) : Int := ((c.toNat : Int) - 131072) * 64

/-- Offset and gain correction of a raw code, in units of 2^-30, kept at 32 bits (R45). -/
def Block.correct (s : Block) (k : Nat) (c : CellCode) : Int :=
  satInt 32 (roundShift ((s.f (Reg.CELL_GAIN_GAIN k) : Int) * (codeValue c - s.fInt (Reg.CELL_OFS_OFS k))) 15)

/-- A tap of the fractional-delay filter: the fourth-order Lagrange coefficient of position d for delay δ (R45). -/
def lagrange (ds : List Int) (delta : Rat) (d : Int) : Rat :=
  ds.foldl (fun acc m => if m = d then acc else acc * ((-delta - m) / (d - m))) 1

/-- Tap positions and delay unit of the two input types (R45). -/
def tapPositions (low : Bool) : List Int := if low then [-4, -3, -2, -1, 0] else [-3, -2, -1, 0, 1]

/-- The corrected sample t: the taps over the filter inputs, the first position's first (R45); the substitution and clip tags of sample t itself
(R44, R57; assumption log 84). -/
def Block.lagrangeOut (s : Block) (low : Bool) (filt : List FilterIn) : Sample :=
  let t := filt.getD (if low then 0 else 1) {}
  let delta : Rat := (s.fInt (Reg.CELL_SKEW_SKEW t.cell) : Rat) / (if low then 2 ^ 21 else 2 ^ 20)
  let ds := tapPositions low
  let acc : Rat := ((ds.reverse).zip filt).foldl (fun a p => a + lagrange ds delta p.1 * p.2.v) 0
  ⟨BitVec.ofInt 24 (satInt 24 (ratRound (acc / 128))), cleanTag t.tag⟩

/-- The mean of the neighbouring samples that have a value (R57). -/
def neighbourMean (a b : RawIn) : Option Int :=
  match a.v, b.v with
  | some x, some y => some (roundShift (x + y) 1)
  | some x, none => some x
  | none, some y => some y
  | none, none => none

/-- The filter input of a sample with its neighbours: the mean replaces a value further off than 2^-INWIN, a missing value, and every value
of a slot whose fault waits for the spare; S is then set beside the tags of the conversion and of the neighbours that form the mean (R7, R44,
R57, R58, R75). The Bool says that R57's window was left. -/
def substitute (inwin : Nat) (forced : Bool) (before x after : RawIn) : FilterIn × Bool :=
  let near : Byte := (if before.v.isSome then before.tag else 0) ||| (if after.v.isSome then after.tag else 0)
  match x.v, neighbourMean before after with
  | none, m => (⟨m.getD 0, near ||| tagS, x.cell⟩, false)
  | some v, none => (⟨v, x.tag, x.cell⟩, false)
  | some v, some m =>
    if forced then (⟨m, x.tag ||| near ||| tagS, x.cell⟩, false)
    else if (v - m).natAbs > 2 ^ (30 - inwin) then (⟨m, x.tag ||| near ||| tagS, x.cell⟩, true)
    else (⟨v, x.tag, x.cell⟩, false)

/-- Ticks from now to the first hold of a slot at least n ticks later (R42, R58). -/
def Block.ticksToSlot (s : Block) (slot n : Nat) : Nat := n + (slot + 4 - (s.time.tick + n) % 4) % 4

/-- The slice that runs, if it is a periodic slice of this group whose leaving cell served (R70). -/
def Block.sliceOf (s : Block) (g : Nat) : Option Slice :=
  match s.cells.slice with
  | some sl => if sl.group = g && sl.kind = .periodic && sl.role != roleOff then some sl else none
  | none => none

/-- End the slice that runs: its progress record, counters, events and BST bookkeeping (R65, R77, R555). `verdict` 1 pass, 2 fail,
3 incomplete. -/
def Block.closeSlice (s : Block) (sl : Slice) (verdict : Nat) (done : Bool) : Block :=
  let s := { s with cells := { s.cells with slice := none } }
  let s := ((s.put (Reg.CELL_SLICE_PHASE sl.cell) 4).putB (Reg.CELL_SLICE_DONE sl.cell) done).put (Reg.CELL_STAT_LAST sl.cell) verdict
  let s := (s.put Reg.CELL_GLB_STAT_BUSY 0).bstNote 0 sl.cell verdict
  let s := if verdict = 1 then (s.raise (Reg.CELL_GRP_EVT_SLPASS sl.group)).bump (Reg.CELL_GRP_CNT_PASS sl.group)
    else if verdict = 2 then
      ((((s.raise (Reg.CELL_GRP_EVT_SLFAIL sl.group)).bump (Reg.CELL_GRP_CNT_FAIL sl.group)).bump (Reg.BST_FAILCNT_FAIL 0)).raise
        Reg.BST_EVT_FAIL).record 0x60 12 0 (BitVec.ofNat 32 (s.f (Reg.CELL_SLICE_SLICE_ID sl.cell))) [s.word Reg.BST_PROG]
    else ((s.raise (Reg.CELL_GRP_EVT_SLINC sl.group)).bump (Reg.CELL_GRP_CNT_INC sl.group)).bump (Reg.BST_FAILCNT_INC 0)
  if done then
    ({ s with cells := { s.cells with done := s.cells.done + 1 } }).modCell sl.cell (fun c => { c with age := s.cells.done + 1 })
  else s

/-- Let the spare take the place of an IN cell (R58, R59), or a slot that no cell serves (R262). -/
def Block.takeSlot (s : Block) (g spare slot failedCell : Nat) (recover : Bool) : Block :=
  let s := (s.setRole spare roleIn slot).onlyIf (s.role failedCell == roleIn) (fun s => s.setRole failedCell roleOff 0)
  let s := (s.onlyIf recover (fun s => s.modCell failedCell (fun c => { c with waitRec := true, consec := 0 }))).modGrp g
    (fun x => { x with retarget := none })
  (((s.raise (Reg.CELL_GRP_EVT_SPUSED g)).seekSpare g).refreshGroup g).refreshCalv g

/-- Send the spare to a failed slot: at the slot's next hold if it shadows that slot, else at its first hold at least 40 ticks later
(R58). -/
def Block.startRetarget (s : Block) (g spare slot failedCell : Nat) (shadows recover : Bool) : Block :=
  let n := if shadows then s.ticksToSlot slot 1 else s.ticksToSlot slot 40
  (s.put (Reg.CELL_CFG_SLOT spare) slot).modGrp g (fun x => { x with retarget := some (slot, failedCell, s.after n, recover) })

/-- Subtract the mean skew of the serving cells from every cell of the group (R49), unless coefficients are frozen (R50). -/
def Block.recentre (s : Block) (g : Nat) : Block :=
  if s.on Reg.CELL_GLB_CTRL_FREEZE || (s.serving g).isEmpty then s else
  let sum := (s.serving g).foldl (fun a k => a + s.fInt (Reg.CELL_SKEW_SKEW k)) (0 : Int)
  let mean := ratRound ((sum : Rat) / (s.serving g).length)
  s.forAll (groupCells g) (fun k s => s.putInt (Reg.CELL_SKEW_SKEW k) (satInt 16 (s.fInt (Reg.CELL_SKEW_SKEW k) - mean)))

/-- The slot that the cell of a slice shadows when it becomes SPARE: the one its scarf-out tracked; where the slice ends before its scarf-out,
that of the cell that leaves next (R64). -/
def Block.shadowSlot (s : Block) (sl : Slice) : Nat :=
  if sl.phase = 3 then s.slotOf sl.target else ((s.nextLeaving sl.group).map s.slotOf).getD 0

/-- The role a cell takes after a periodic slice that ended neither failed nor in its scarf-in (R63, R68). -/
def Block.returnPeriodic (s : Block) (sl : Slice) : Block :=
  if sl.role = roleOff then s.setRole sl.cell roleOff 0 else s.setRole sl.cell roleSpare (s.shadowSlot sl)

/-- End the slice as incomplete: the cell under test returns with the coefficients it had; a recovery or promotion waits again (R62, R63). -/
def Block.sliceIncomplete (s : Block) (done : Bool) : Block :=
  match s.cells.slice with
  | none => s
  | some sl =>
    let s := s.closeSlice sl 3 done
    let s := match sl.kind with
      | .periodic => if sl.phase = 1 then s else s.returnPeriodic sl
      | .recovery => (s.setRole sl.cell roleOff 0).modCell sl.cell (fun c => { c with waitRec := true })
      | _ => (s.setRole sl.cell roleOff 0).modCell sl.cell (fun c => { c with waitPromo := true })
    (s.recentre sl.group).refreshGroup sl.group

/-- A fault on the cell that the scarf-out of a recovery or promotion slice tracks ends that slice as incomplete (R70). -/
def Block.dropTracked (s : Block) (k : Nat) : Block :=
  match s.cells.slice with
  | some sl => if sl.kind != .periodic && sl.phase == 3 && sl.target == k then s.sliceIncomplete false else s
  | none => s

/-- The result of a fault on cell k of a group with a periodic slice in progress on an input group (R70). -/
def Block.inSliceFault (s : Block) (sl : Slice) (k : Nat) : Block :=
  let g := sl.group
  let s := if k = sl.cell then
      -- in the scarf-in w jumps to 1: the spare serves, the leaving cell has failed
      let s := (s.onlyIf (sl.phase == 1) (fun s => s.setRole sl.spare roleIn sl.slot)).markFailed k
      (s.closeSlice sl 2 false).seekSpare g
    else if sl.phase = 1 && k = sl.spare then ((s.markFailed k).closeSlice sl 3 false).seekSpare g
    else
      let slot := s.slotOf k
      let reserve := if sl.phase = 1 then sl.spare else sl.cell
      let s := (s.markFailed k).onlyIf (sl.phase != 1) (fun s => s.setRole sl.cell roleSpare (s.slotOf sl.target))
      (s.closeSlice sl 3 false).startRetarget g reserve slot k
        (if sl.phase = 1 then sl.slot == slot else sl.phase == 3 && sl.target == k) false
  ((s.recentre g).refreshGroup g).refreshCalv g

/-- Declare an IN fault on a cell (R58, R59, R70). While the spare is on its way to a slot, that slot's cell has been declared already, and no
cell can take the place of another one; nor can one take the place of the spare itself: each is marked failed at once (DESIGN CHOICE,
assumption log 85: R58 and R59 name neither case). -/
def Block.inFault (s : Block) (g k : Nat) : Block :=
  let on : Option Nat := (s.grp g).retarget.map (·.2.1)
  if on = some k then s else
  let s := ((s.raise (Reg.CELL_GRP_EVT_INFLT g)).record 0x10 3 k (BitVec.ofNat 32 g) [s.word (Reg.CELL_SLICE k)]).modCell k
    (fun c => { c with consec := 0 })
  match s.sliceOf g with
  | some sl => s.inSliceFault sl k
  | none =>
    let s := s.dropTracked k
    match s.spare g with
    | some sp =>
      if sp = k || on.isSome then ((s.markFailed k).seekSpare g).refreshGroup g
      else s.startRetarget g sp (s.slotOf k) k (s.f (Reg.CELL_CFG_SLOT sp) == s.slotOf k) true
    | none => ((s.markFailed k).seekSpare g).refreshGroup g

/-- The filter input that stands for the newest conversion at the tap of look-ahead: R57 could judge it only a tick after the sample that uses
it is due (R42), so it enters as it was converted, or, where it is missing or its slot waits for the spare, as the sample before it (DESIGN
CHOICE, assumption log 84). -/
def lookAhead (forced : Bool) (r : RawIn) (before : FilterIn) : FilterIn :=
  match r.v with
  | some v => if forced then before else ⟨v, r.tag, r.cell⟩
  | none => before

/-- Whether the slot of a cell waits for the spare (R58). -/
def GroupSt.awaits (x : GroupSt) (cell : Nat) : Bool :=
  match x.retarget with
  | some (_, bad, _, _) => bad == cell
  | none => false

/-- The stream of a group takes the conversion of the hold before this tick, or none: the sample before it is judged (R57), its substitution
counted, a fault declared after four in a row (R58), and the corrected sample is delivered (R42, R45); a crossing is noted (R81), and the first
difference for R48. -/
def Block.pushRaw (s : Block) (g : Nat) (r : RawIn) : Block :=
  let x := s.grp g
  let low := s.groupKind g = .lowIn
  if x.raws.isEmpty then s.modGrp g (fun y => { y with raws := [r] }) else
  let raws := r :: x.raws
  let mid := raws.getD 1 {}
  let res := if raws.length < 3 then (⟨mid.v.getD 0, if mid.v.isSome then mid.tag else tagS, mid.cell⟩, false)
    else substitute (s.f (Reg.CELL_GRP_CTRL_INWIN g)) (x.awaits mid.cell) (raws.getD 2 {}) mid r
  let filt := (res.1 :: x.filt).take 5
  let new := s.lagrangeOut low (if low then filt else lookAhead (x.awaits r.cell) r res.1 :: filt)
  -- a crossing: a change of sign, or a value within 2^-16 of full scale (R81)
  let crossing := (new.val.msb != x.out.val.msb) || new.int.natAbs ≤ 128
  let s := s.modGrp g (fun y => { y with
    raws := raws.take 3, filt := filt, out := new, outAt := s.time.now - ticks (if low then 3 else 2),
    crossed := y.crossed || crossing, crossAt := if y.crossed || !crossing then y.crossAt else s.time.now,
    diffs := y.diffs + (new.int - x.out.int).natAbs ^ 2, diffN := y.diffN + 1 })
  let k := mid.cell
  let s := s.onlyIf (res.1.tag &&& tagS != 0 && k < 86) (fun s => s.bump (Reg.CELL_SUBCNT_SUB k))
  if res.2 then
    let s := s.modCell k (fun c => { c with consec := c.consec + 1 })
    if (s.cell k).consec ≥ 4 && s.role k = roleIn then s.inFault g k else s
  else if mid.v.isSome && k < 86 && res.1.tag &&& tagS == 0 then s.modCell k (fun c => { c with consec := 0 })
  else s

/-- A conversion of the cell that serves a slot, or of the pair of a scarf-in: it enters the stream of its group at the next tick (R42, R64). -/
def Block.setConversion (s : Block) (g slot : Nat) (r : RawIn) : Block :=
  s.modGrp g (fun x => { x with conv := some (s.time.now / 16, r), servers := Tab.set (fun _ => noCell) x.servers slot r.cell })

/-- Whether the stream of a group runs: an input in a mode with its cells clocked, not cloched, its discards over (R42, R101). -/
def Block.streams (s : Block) (g : Nat) : Bool :=
  s.audioOn && (s.groupKind g).isIn && !s.on (Reg.UAP_STAT_CLOCHED g) && s.reached ((s.grp g).discardTo + 16)

/-- A tick of a group's stream: the hold of the tick before is pushed, of a low-power input the even one (R42, R43). A hold that brought no
conversion is missing, on account of the cell that served its slot last (R29, R57, R75). A stream begins with its first conversion. -/
def Block.streamTick (s : Block) (g : Nat) : Block :=
  let x := s.grp g
  let t := s.time.now / 16 - 1
  if !s.streams g then
    (if x.raws.isEmpty && x.conv.isNone then s else s.modGrp g (fun y => { y with raws := [], filt := [], conv := none, out := Sample.zero }))
  else if s.groupKind g = .lowIn && (s.time.tick + 255) % 2 ≠ 0 then s
  else
    match x.conv with
    | some (u, r) => if u = t then s.pushRaw g r else s.pushRaw g { cell := Tab.get (fun _ => noCell) x.servers ((s.time.tick + 255) % 4) }
    | none => if x.raws.isEmpty then s else s.pushRaw g { cell := Tab.get (fun _ => noCell) x.servers ((s.time.tick + 255) % 4) }

/-- A tick of the input streams. -/
def Block.streamsTick (s : Block) : Block := s.forAll (List.range 16) (fun g s => s.streamTick g)

/-- The slice whose scarf-out has cell k shadow a slot of its input group (R64). -/
def Block.tracking (s : Block) (k : Nat) : Option Slice :=
  match s.cells.slice with
  | some sl => if sl.cell = k && sl.phase = 3 && (s.groupKind sl.group).isIn then some sl else none
  | none => none

/-- Whether a cell holds now: IN, SPARE, or in the scarf-out of its slice, with its slot's tick, in a powered, unclocheed group (R42, R64, R100). -/
def Block.holds (s : Block) (k : Nat) : Bool :=
  let g := groupOfCell k
  s.audioOn && (s.groupKind g).isIn && (s.role k == roleIn || s.role k == roleSpare || (s.tracking k).isSome) &&
  s.time.tick % 4 == s.f (Reg.CELL_CFG_SLOT k) && !s.on (Reg.UAP_STAT_CLOCHED g) && s.reached (s.grp g).discardTo

/-- Compare the serving cell's conversion with that of the cell under test at the same hold (R64): off by more than 2^-(INWIN + 4), the
tracking has failed. -/
def Block.trackCheck (s : Block) (g k : Nat) (v : Int) : Block :=
  match s.cells.slice with
  | some sl =>
    match sl.shadow with
    | some (t, w) =>
      if sl.phase = 3 && sl.target = k && t = s.time.now / 16 && (v - w).natAbs > 2 ^ (26 - s.f (Reg.CELL_GRP_CTRL_INWIN g)) then
        { s with cells := { s.cells with slice := some { sl with tracks := false } } }
      else s
    | none => s
  | none => s

/-- CELL_CONVERSION (R42): a cell completes a conversion. The conversion of the cell that shadows a hold, the spare or the one under test,
comes before the serving cell's. -/
def Block.convert (s : Block) (k : Nat) (code : CellCode) (impossible : Bool) : Block :=
  if !s.holds k then s else
  let g := groupOfCell k
  let clip := code.toNat = 0 || code.toNat = 262143
  let s := s.onlyIf clip (fun s => s.bump (Reg.CELL_CLIPCNT_CLIP k))
  let v := s.correct k code
  let tag : Byte := if clip then tagC else 0
  if s.role k = roleSpare then
    let s := (s.modGrp g (fun x => { x with spareV := v, spareTag := tag, spareAt := s.time.now / 16 })).modCell k
      (fun c => { c with learn := c.learn + 1 })
    if impossible then s.inFault g k else s
  else if s.role k = roleIn then
    let slot := s.f (Reg.CELL_CFG_SLOT k)
    let s := match s.sliceOf g with
      | some sl =>
        if sl.phase = 1 && sl.cell = k && s.reached sl.start then
          let both := (s.grp g).spareAt == s.time.now / 16
          let w : Int := if both then (sl.k : Int) else 0
          let mix := roundShift (2 * ((768 - w) * v + w * (s.grp g).spareV) / 768) 1
          let t := tagX ||| (if w = 768 then 0 else tag) ||| (if w = 0 then 0 else (s.grp g).spareTag)
          let s := s.setConversion g slot ⟨some mix, t, k⟩
          { s with cells := { s.cells with slice := s.cells.slice.map (fun (z : Slice) => { z with k := min 768 (z.k + 1) }) } }
        else s.setConversion g slot ⟨some v, tag, k⟩
      | none => s.setConversion g slot ⟨some v, tag, k⟩
    let s := s.trackCheck g k v
    if impossible then s.inFault g k else s
  else
    let s := { s with cells := { s.cells with slice := s.cells.slice.map (fun (z : Slice) => { z with shadow := some (s.time.now / 16, v) }) } }
    if impossible then s.inFault g k else s

/-- SPARE_RETARGET (R58): the spare takes the failed slot at its hold. -/
def Block.spareRetargetOp (s : Block) (g : Nat) : Block :=
  match (s.grp g).retarget, s.spare g with
  | some (slot, bad, due, rec), some sp => if s.reached due then s.takeSlot g sp slot bad rec else s
  | some (_, bad, _, _), none => ((s.modGrp g (fun x => { x with retarget := none })).onlyIf (s.role bad == roleIn)
      (fun s => s.markFailed bad)).seekSpare g
  | none, _ => s

/-- SPARE_LEARN (R48): a shadowing spare updates its coefficients once per 4096 of its conversions. The learned values are measurements: free
values. The skew is updated only where the RMS first difference of the stream over that block exceeds 2^-14 of full scale. FREEZE and a degraded
group stop learning (R50, R74). -/
def Block.spareLearnOp (s : Block) (g : Nat) : Block :=
  match s.spare g with
  | none => s
  | some k =>
    if (s.cell k).learn < 4096 then s else
    let x := s.grp g
    let moved : Bool := x.diffN * 2 ^ 18 < x.diffs
    let s := (s.modCell k (fun c => { c with learn := 0 })).modGrp g (fun y => { y with diffs := 0, diffN := 0 })
    if s.on Reg.CELL_GLB_CTRL_FREEZE || s.on (Reg.CELL_GRP_STAT_DEGRADED g) then s else
    let s := (s.put (Reg.CELL_OFS_OFS k) s.free).used
    let s := (s.put (Reg.CELL_GAIN_GAIN k) s.free).used
    if moved then (s.put (Reg.CELL_SKEW_SKEW k) s.free).used else s

/-! ## Output ladders, read-back and OUT faults -/

/-- Ticks since the first one at zero scale (R52): until OUT_SWAP records it, the tick after the declaration. -/
def Block.sinceZero (s : Block) (g : Nat) : Nat := (s.time.now - (s.grp g).stageAt) / 16

/-- The weight of the ramp after an OUT fault, 0 to 256 (R52). -/
def Block.faultRamp (s : Block) (g : Nat) : Nat := min 256 (s.sinceZero g - 256)

/-- What the fault engine makes of the sample for an output's ladder: zero scale from the tick after the declaration, the ramp from tick + 257,
normal service from + 513 (R52, R53, R75, R609). -/
def Block.faultOut (s : Block) (g : Nat) (x : Sample) : Sample :=
  match (s.grp g).stage with
  | 0 => x
  | 1 => if s.sinceZero g = 0 then x else ⟨0, tagZ⟩
  | 3 =>
    if s.sinceZero g < 256 then ⟨0, tagZ⟩ else if 256 ≤ s.faultRamp g then x
    else ⟨BitVec.ofInt 24 (roundShift (x.int * s.faultRamp g) 8), x.tag ||| tagX⟩
  | _ => ⟨0, tagZ⟩

/-- Hold an output at zero scale (R53, R75). -/
def Block.holdZero (s : Block) (g : Nat) : Block :=
  (s.raise (Reg.CELL_GRP_STAT_HOLDZ g)).modGrp g (fun x => { x with stage := 4 })

/-- The zero-scale hold, zero checks and ramp of R52 from the row "+ 1", which falls on a core cycle. -/
def Block.startZeroChecks (s : Block) (g at' : Nat) : Block :=
  (s.put (Reg.CELL_GRP_STAT_HOLDZ g) 0).modGrp g (fun x => { x with stage := 2, stageAt := at', checks := 0, misses := 0 })

/-- A cell takes the ladder; the cell that leaves is out of service, waiting for its recovery slice (R52, R54, R55). -/
def Block.takeLadder (s : Block) (new : Nat) (old : Option Nat) (recover : Bool) : Block :=
  let s := match old with
    | some k => (s.setRole k roleOff 0).onlyIf recover (fun s => s.modCell k (fun c => { c with waitRec := true }))
    | none => s
  s.setRole new roleOut 0

/-- A fault on cell k of an output group with a periodic slice in progress (R70). Where the OUT cell has failed, its replacement stands as SPARE
and takes the ladder at the next tick, by OUT_SWAP; a replacement of the MON cell takes its role at once (R56). -/
def Block.outSliceFault (s : Block) (sl : Slice) (k : Nat) : Block :=
  let g := sl.group
  let wasOut := s.role k == roleOut
  let verdict := if k = sl.cell then 2 else 3
  let reserve := if sl.phase = 1 then sl.spare else sl.cell
  let s := (s.markFailed k).closeSlice sl verdict false
  let s := if (k = sl.cell && sl.phase != 1) || k = reserve then s
    else if wasOut then (s.setRole reserve roleSpare 0).modGrp g (fun x => { x with stage := 1, stageAt := s.time.now })
    else (s.setRole reserve roleMon 0).raise (Reg.CELL_GRP_EVT_SPUSED g)
  ((s.recentre g).seekSpare g).refreshGroup g

/-- The hidden record of an output. -/
def Block.out (s : Block) (o : Nat) : OutSt := Tab.get (fun _ => {}) s.ports.outs o

/-- Change the hidden record of an output. -/
def Block.modOut (s : Block) (o : Nat) (h : OutSt → OutSt) : Block :=
  { s with ports := { s.ports with outs := Tab.upd (fun _ => {}) s.ports.outs o h } }

/-- RANGE as requested, and RANGE_NOW, of an output (R107, R330). -/
def rangeReq (o : Nat) : Fld := if o < 16 then Reg.UAP_OUT_CTRL_RANGE o else Reg.HP_CTRL_RANGE.bit (o - 16)
/-- The range in force. -/
def rangeNow (o : Nat) : Fld := if o < 16 then Reg.UAP_STAT_RANGE_NOW o else Reg.HP_STAT_RANGE_NOW.bit (o - 16)

/-- The ratio of an output's LOW range to its HIGH range: 1.0 to 3.0 Vrms at a port, 0.3 to 1.2 at a headphone side (R78, R324). -/
def lowRatio (o : Nat) : Rat := if o < 16 then 1 / 3 else 1 / 4

/-- The value that a MON conversion should read for an OUT code: scaled by the range in force, full scale of the read-back being that of the
HIGH range (R51, R98; DESIGN CHOICE, assumption log 86). -/
def Block.expectedMon (s : Block) (o : Nat) (code : Int) : Int :=
  if s.on (rangeNow o) then code else ratRound (lowRatio o * code)

/-- An OUT fault ends a range change at once, with the range that the write requested (R98). -/
def Block.endRange (s : Block) (o : Nat) : Block :=
  if (s.out o).rng = 0 then s else
  let s := s.put (rangeNow o) (s.f (rangeReq o))
  let s := s.modOut o (fun x => { x with rng := 0, rngHeld := none })
  if o < 16 then (s.put (Reg.UAP_STAT_RNGBUSY o) 0).put (Reg.UAP_STAT_RNGPEND o) 0 else s

/-- A promotion slice that runs in a group whose OUT cell fails ends with its test phase, and its cell takes the ladder (R609). -/
def Block.urgePromotion (s : Block) (g : Nat) : Block :=
  match s.cells.slice with
  | some sl =>
    if sl.group = g && sl.kind = .promotion then
      { s with cells := { s.cells with slice := some { sl with kind := .outPromotion, phase := 2 } } }
    else s
  | none => s

/-- Declare an OUT fault (R52, R54, R70, R75, R98, R609). With no SPARE in a group that is not degraded, the output holds zero scale until a cell
that waits for a slice, or runs it, can take the ladder; the cell that left takes its recovery slice. -/
def Block.outFault (s : Block) (g : Nat) : Block :=
  match s.withRole g roleOut with
  | none => s
  | some k =>
    let s := s.endRange g
    let s := ((s.raise (Reg.CELL_GRP_EVT_OUTFLT g)).record 0x11 3 k (BitVec.ofNat 32 g) [s.word (Reg.CELL_SLICE k)]).modGrp g
      (fun x => { x with misses := 0 })
    match s.sliceOf g with
    | some sl => s.outSliceFault sl k
    | none =>
      let s := s.dropTracked k
      if (s.spare g).isSome then s.modGrp g (fun x => { x with stage := 1, stageAt := s.time.now })
      else if s.lacksSpare g then ((s.markFailed k).holdZero g).seekSpare g
      else (((s.setRole k roleOff 0).modCell k (fun c => { c with waitRec := true })).modGrp g (fun x => { x with stage := 5 })).urgePromotion g

/-- Declare a MON fault: the spare takes the MON role (R56, R608, R70, R75). -/
def Block.monFault (s : Block) (g k : Nat) : Block :=
  let s := ((s.raise (Reg.CELL_GRP_EVT_MONFLT g)).record 0x12 3 k (BitVec.ofNat 32 g) [s.word (Reg.CELL_SLICE k)]).modGrp g
    (fun x => { x with ends := 0, misses := 0 })
  match s.sliceOf g with
  | some sl => s.outSliceFault sl k
  | none =>
    let s := s.dropTracked k
    match s.spare g with
    | some sp =>
      let s := ((s.setRole sp roleMon 0).setRole k roleOff 0).modCell k (fun c => { c with waitRec := true })
      ((s.raise (Reg.CELL_GRP_EVT_SPUSED g)).seekSpare g).refreshGroup g
    | none =>
      if s.lacksSpare g then ((s.markFailed k).holdZero g).seekSpare g
      else ((s.setRole k roleOff 0).modCell k (fun c => { c with waitRec := true })).holdZero g

/-- One read-back comparison: a miss counts towards an OUT fault; during the zero checks a miss makes the fault external (R51 to R53). -/
def Block.readBack (s : Block) (g : Nat) (mv : Int) : Block :=
  let x := s.grp g
  let win : Nat := 2 ^ (23 - s.f (Reg.CELL_GRP_CTRL_OUTWIN g))
  if x.stage = 2 then
    if mv.natAbs > win then
      let k := (s.withRole g roleOut).getD 0
      ((s.raise (Reg.CELL_GRP_EVT_EXTFLT g)).record 0x13 3 k (BitVec.ofNat 32 g) [s.word (Reg.CELL_SLICE k)]).holdZero g
    else s.modGrp g (fun y => { y with checks := y.checks + 1, stage := if y.checks + 1 ≥ 16 then 3 else 2 })
  else if x.stage != 0 then s
  else if (mv - s.expectedMon g (x.codes.getD 4 0)).natAbs > win then
    let s := s.modGrp g (fun y => { y with misses := y.misses + 1 })
    if (s.grp g).misses ≥ s.f (Reg.CELL_GRP_CTRL_OUTN g) then s.outFault g else s
  else s.modGrp g (fun y => { y with misses := 0 })

/-- MON_CONVERSION (R51): a MON cell completes a read-back conversion. No comparison is made in the 64 settling ticks of a range change
(R98). The OUT code that R608 asks to lie within half of full scale is the one of R51, loaded 4 ticks before, half itself included (DESIGN
CHOICE, assumption log 86). -/
def Block.monitor (s : Block) (g : Nat) (code : CellCode) (impossible : Bool) : Block :=
  match s.withRole g roleMon with
  | none => s
  | some k =>
    if !(s.audioOn && (s.groupKind g).isOut && s.time.tick % 16 == 0) then s
    else if impossible then s.monFault g k
    else
      let quiet := ((s.grp g).codes.getD 4 0).natAbs ≤ 2 ^ 22
      let atEnd := (code.toNat = 0 || code.toNat = 262143) && quiet
      let s := s.modGrp g (fun x => { x with ends := if atEnd then x.ends + 1 else 0 })
      if (s.grp g).ends ≥ 16 then s.monFault g k
      else if (s.out g).rng = 4 || ((s.out g).rng = 2 && s.time.now < (s.out g).rngAt + ticks 12352) then s
      else s.readBack g (codeValue code)

/-- OUT_SWAP (R52): one tick after the declaration both ladders go to zero scale and the spare takes over; a cell that a slice's end has marked
failed has left already (R70). -/
def Block.outSwapOp (s : Block) (g : Nat) : Block :=
  match s.spare g with
  | some sp =>
    if (s.grp g).stage = 1 && s.reached ((s.grp g).stageAt + ticks 1) then
      let s := (s.takeLadder sp (s.withRole g roleOut) true).startZeroChecks g ((s.grp g).stageAt + ticks 1)
      ((s.raise (Reg.CELL_GRP_EVT_SPUSED g)).seekSpare g).refreshGroup g
    else s
  | none => s

/-- OUT_RAMP_END (R52): normal service 256 ticks after the ramp began. -/
def Block.outRampEndOp (s : Block) (g : Nat) : Block :=
  if (s.grp g).stage = 3 && s.reached ((s.grp g).stageAt + ticks 512) then s.modGrp g (fun x => { x with stage := 0, misses := 0 }) else s

/-- RETRY (R53): the zero check and the ramp are repeated after an external fault. -/
def Block.retryOp (s : Block) (g : Nat) : Block :=
  if (s.grp g).stage = 4 && (s.withRole g roleOut).isSome && (s.withRole g roleMon).isSome then s.startZeroChecks g s.time.now else s

/-- The slot of an input group that no cell serves, by its lowest number (R75). -/
def Block.openSlot (s : Block) (g : Nat) : Option Nat :=
  (((s.groupKind g).roles.filter (fun p => p.1 == roleIn)).map (·.2)).find? (fun n =>
    (groupCells g).all (fun k => !(s.role k == roleIn && s.f (Reg.CELL_CFG_SLOT k) == n)) && !((s.grp g).retarget.any (fun r => r.1 == n)))

/-- A cell that has passed its recovery or promotion slice takes over what its group holds under R75: an input slot through the retarget path of
R58, an output, or its read-back, through the zero checks and ramp of R52 (R262). With nothing held it becomes SPARE where the group has none, and
OFF otherwise (R54, R59, R72, R608). -/
def Block.takeOver (s : Block) (sl : Slice) : Block :=
  let g := sl.group
  let k := sl.cell
  match s.openSlot g with
  | some n => (s.setRole k roleSpare (s.shadowSlot sl)).startRetarget g k n noCell false false
  | none =>
    if (s.groupKind g).isOut && (s.withRole g roleOut).isNone then
      (s.setRole k roleOut 0).onlyIf (s.withRole g roleMon).isSome (fun s => s.startZeroChecks g s.time.now)
    else if (s.groupKind g).isOut && (s.withRole g roleMon).isNone then (s.setRole k roleMon 0).startZeroChecks g s.time.now
    else if (s.spare g).isNone then s.setRole k roleSpare (s.shadowSlot sl)
    else s.setRole k roleOff 0

/-! ## Rotation -/

/-- Whether rotation runs in a group: its first slice waits for a mode in which slices may run, each later one only for its time (R61,
R73). -/
def Block.rotates (s : Block) (g : Nat) : Bool :=
  s.on (Reg.CELL_GRP_CTRL_ROT_EN g) && (s.spare g).isSome && !s.on (Reg.CELL_GRP_STAT_NO_ROT g) &&
    (if (s.grp g).nextQ.isNone then s.sliceMode else s.coreOn)

/-- CELL_GLB_STAT.QUEUED follows the queue. -/
def Block.refreshQueued (s : Block) : Block :=
  s.put Reg.CELL_GLB_STAT_QUEUED ((List.range 18).filter (fun g => (s.grp g).queued)).length

/-- SLICE_QUEUE (R61): the first slice of a group at the first tick at which slices may run, each later one PERIOD × 2 ms after the one
before. -/
def Block.sliceQueueOp (s : Block) (g : Nat) : Block :=
  let due : Bool := match (s.grp g).nextQ with
    | none => true
    | some d => s.reached d
  if s.rotates g && due then
    let d := ((s.grp g).nextQ.getD s.time.now) + ticks (msTicks (2 * s.f (Reg.CELL_GRP_CTRL_PERIOD g)))
    (s.modGrp g (fun x => { x with queued := true, nextQ := some d })).refreshQueued
  else s

/-- A talkback group of a cloche that is not open: no slice starts there (R102, R103). -/
def Block.groupShut (s : Block) (g : Nat) : Bool :=
  g < 16 && s.on (Reg.UAP_CFG_TALK g) && (s.ports.shut || s.ports.opening.isSome)

/-- ROT_NOW (R77): queue a slice now, unless one is queued or runs in the group. -/
def Block.rotNowOp (s : Block) (g : Nat) : Block :=
  let runs : Bool := match s.cells.slice with
    | some sl => sl.group == g
    | none => false
  if (s.grp g).queued || runs || !((s.spare g).isSome) then s
  else (s.modGrp g (fun x => { x with queued := true })).refreshQueued

/-- Begin a slice: its identifier and progress record, and the role of the cell (R64, R68, R77). -/
def Block.beginSlice (s : Block) (sl : Slice) : Block :=
  let s := { s with cells := { s.cells with slice := some sl, nextId := (s.cells.nextId + 1) % 2 ^ 16 } }
  let s := s.setW (Reg.CELL_SLICE sl.cell)
    (setBits (setBits 0 0 16 (s.cells.nextId + 2 ^ 16 - 1)) 24 3 sl.phase)
  ((s.put Reg.CELL_GLB_STAT_BUSY 1).put Reg.CELL_GLB_STAT_GRP sl.group).put Reg.CELL_GLB_STAT_CELL sl.cell

/-- A cell that waits for a recovery or promotion slice that could start now. -/
def Block.waitsSlice (s : Block) (k : Nat) : Bool :=
  ((s.cell k).waitRec || (s.cell k).waitPromo) && !s.groupShut (groupOfCell k)

/-- SLICE_START (R64): the queued slice of the lowest group starts when no slice runs and no recovery slice waits. On an input whose spare
shadows another slot, tick 0 is the first hold of the leaving cell's slot, slot 0 for one that serves none, at least 40 ticks later. A slice on
a MON cell swaps it at once; one on an OFF cell tests it in place (R67, R68). -/
def Block.sliceStartOp (s : Block) : Block :=
  if s.cells.slice.isSome || !s.sliceMode || (List.range 86).any s.waitsSlice then s else
  match (List.range 18).find? (fun g => (s.grp g).queued && !s.groupShut g) with
  | none => s
  | some g =>
    let s := (s.modGrp g (fun x => { x with queued := false })).refreshQueued
    match s.spare g, s.nextLeaving g with
    | some sp, some k =>
      let slot := s.slotOf k
      let role := s.role k
      let input := (s.groupKind g).isIn
      let wait := if input && s.f (Reg.CELL_CFG_SLOT sp) != slot then s.ticksToSlot slot 40 else 0
      let phase := if role = roleIn || role = roleOut then 1 else 2
      let s := s.onlyIf input (fun s => s.put (Reg.CELL_CFG_SLOT sp) slot)
      let s := s.onlyIf (role == roleMon) (fun s => (s.setRole sp roleMon 0).setRole k roleTest 0)
      let s := s.onlyIf (role == roleOff) (fun s => s.setRole k roleTest 0)
      (s.beginSlice { group := g, cell := k, kind := .periodic, role := role, slot := slot, spare := sp, phase := phase,
                      start := s.after wait, target := 0, k := 0 }).refreshGroup g
    | _, _ => s

/-- Start a recovery or promotion slice on a waiting cell (R62, R72, R609). -/
def Block.startWaiting (s : Block) (k : Nat) (kind : SliceKind) : Block :=
  let s := (s.modCell k (fun c => { c with waitRec := false, waitPromo := false })).setRole k roleTest 0
  s.beginSlice { group := groupOfCell k, cell := k, kind := kind, role := roleOff, slot := 0, spare := noCell, phase := 2,
                 start := s.time.now, target := 0, k := 0 }

/-- RECOVERY_SLICE (R62): the waiting recovery slice of the lowest group starts at the first tick at which no slice runs anywhere; in a group
whose output waits for a promotion, that one comes first (R609). -/
def Block.recoverySliceOp (s : Block) : Block :=
  if s.cells.slice.isSome || !s.sliceMode then s else
  let behind (g : Nat) : Bool := (s.grp g).stage == 5 && (groupCells g).any (fun c => (s.cell c).waitPromo)
  match (List.range 86).find? (fun k => (s.cell k).waitRec && s.waitsSlice k && !behind (groupOfCell k)) with
  | some k => s.startWaiting k .recovery
  | none => s

/-- PROMOTION_SLICE (R72): the promotion waits while a recovery slice of its group waits or runs; it is not started when the group has a
SPARE. One that an output waits for runs at once (R609). -/
def Block.promotionSliceOp (s : Block) : Block :=
  if s.cells.slice.isSome || !s.sliceMode then s else
  match (List.range 86).find? (fun k => (s.cell k).waitPromo && s.waitsSlice k && (s.grp (groupOfCell k)).stage == 5) with
  | some k => s.startWaiting k .outPromotion
  | none =>
    match (List.range 86).find? (fun k => (s.cell k).waitPromo && s.waitsSlice k &&
        (groupCells (groupOfCell k)).all (fun c => !(s.cell c).waitRec)) with
    | none => s
    | some k =>
      if (s.spare (groupOfCell k)).isSome then s.modCell k (fun c => { c with waitPromo := false })
      else s.startWaiting k .promotion

/-- SCARF_IN_END (R64, R67): after 3072 ticks the leaving cell becomes TEST and the spare serves; a ladder comparison that failed ends the
slice as failed with the spare marked failed (R69). -/
def Block.scarfInEndOp (s : Block) (ladders : Bool) : Block :=
  match s.cells.slice with
  | some sl =>
    if sl.phase != 1 then s
    else if sl.role = roleOut && !ladders then
      ((((s.markFailed sl.spare).closeSlice sl 2 false).recentre sl.group).seekSpare sl.group).refreshGroup sl.group
    else if !s.reached (sl.start + ticks 3072) then s
    else
      let s := (s.setRole sl.spare sl.role sl.slot).setRole sl.cell roleTest 0
      let s := { s with cells := { s.cells with slice := some { sl with phase := 2 } } }
      ((s.put (Reg.CELL_SLICE_PHASE sl.cell) 2).refreshGroup sl.group).refreshCalv sl.group
  | none => s

/-- What happens to a cell whose slice failed (R54, R59, R65, R72, R609); DEGRADED follows (R262). -/
def Block.failedCell (s : Block) (sl : Slice) : Block :=
  let s := s.markFailed sl.cell
  let s := s.onlyIf (sl.kind == .outPromotion && !(groupCells sl.group).any (fun k => (s.cell k).waitPromo))
    (fun s => s.holdZero sl.group)
  ((((s.recentre sl.group).seekSpare sl.group).redegrade sl.group).refreshGroup sl.group)

/-- SLICE_PATTERN (R65): one of the 128 patterns of the test phase; a mismatch ends the slice as failed at that pattern. -/
def Block.slicePatternOp (s : Block) (matched : Bool) : Block :=
  match s.cells.slice with
  | some sl =>
    if sl.phase != 2 || s.f (Reg.CELL_SLICE_PATTERNS sl.cell) ≥ 128 then s
    else
      let s := s.bump (Reg.CELL_SLICE_PATTERNS sl.cell)
      if matched then s else (s.closeSlice sl 2 false).failedCell sl
  | none => s

/-- Length of the test phase from the slice's tick 0 (R62, R64, R68). -/
def Slice.testEnd (sl : Slice) : Nat :=
  if sl.kind = .periodic && (sl.role = roleIn || sl.role = roleOut) then 21504 else 18432

/-- Whether a slice has a scarf-out: not on an OFF cell, and not for an output that no ladder serves (R68, R609). -/
def Slice.hasScarfOut (sl : Slice) : Bool :=
  sl.kind == .recovery || sl.kind == .promotion || (sl.kind == .periodic && sl.role != roleOff)

/-- TEST_PHASE_END (R64): the cell under test shadows the slot of the cell that leaves next; in a recovery or promotion slice that of the serving
cell that R60 names next (R62, R72). -/
def Block.testPhaseEndOp (s : Block) : Block :=
  match s.cells.slice with
  | some sl =>
    if sl.phase != 2 || !s.reached (sl.start + ticks sl.testEnd) || !sl.hasScarfOut then s
    else
      let t := ((if sl.kind = .periodic then s.nextLeaving sl.group else s.nextServing sl.group)).getD 0
      let s := { s with cells := { s.cells with slice := some { sl with phase := 3, target := t, shadow := none, tracks := true } } }
      (s.put (Reg.CELL_SLICE_PHASE sl.cell) 3).put (Reg.CELL_CFG_SLOT sl.cell) (s.slotOf t)
  | none => s

/-- Ticks from a slice's tick 0 to its end (R62, R64, R68). -/
def Slice.endTick (sl : Slice) : Nat := sl.testEnd + (if sl.hasScarfOut then 3072 else 0)

/-- Write the coefficients and trims measured in the test phase, offset, gain and the 75 trims: free values (R64, R66). FREEZE keeps the old
ones (R50). -/
def Block.applyMeasured (s : Block) (k : Nat) : Block :=
  if s.on Reg.CELL_GLB_CTRL_FREEZE then s else
  let s := (s.put (Reg.CELL_OFS_OFS k) s.free).used
  let s := (s.put (Reg.CELL_GAIN_GAIN k) s.free).used
  s.forAll (List.range 75) (fun i s =>
    (s.modCell k (fun c => { c with trims := Tab.set (fun _ => 0) c.trims i (s.free % 4096) })).used)

/-- The role a cell takes after a slice that passed, or a periodic one that ended incomplete at its end (R54, R59, R63, R64, R68, R608, R609). -/
def Block.returnCell (s : Block) (sl : Slice) : Block :=
  match sl.kind with
  | .periodic => s.returnPeriodic sl
  | .outPromotion => (s.setRole sl.cell roleOut 0).startZeroChecks sl.group s.time.now
  | _ => s.takeOver sl

/-- SLICE_END (R65): the slice is judged and applied. It fails where the scarf-out tracking failed, and else is incomplete where a pattern was
not applied. `tracked` is the verdict of the ladder comparators (R67); on an input the conversions themselves also say it (R64). -/
def Block.sliceEndOp (s : Block) (tracked : Bool) : Block :=
  match s.cells.slice with
  | none => s
  | some sl =>
    if !s.reached (sl.start + ticks sl.endTick) || sl.phase != (if sl.hasScarfOut then 3 else 2) then s
    else if sl.hasScarfOut && !(tracked && sl.tracks) then (s.closeSlice sl 2 true).failedCell sl
    else if s.f (Reg.CELL_SLICE_PATTERNS sl.cell) < 128 then s.sliceIncomplete true
    else
      let s := (s.applyMeasured sl.cell).closeSlice sl 1 true
      let s := (s.returnCell sl).modCell sl.cell (fun c => { c with passed := true })
      ((((s.recentre sl.group).seekSpare sl.group).redegrade sl.group).refreshGroup sl.group).refreshCalv sl.group

/-! ## The commands -/

/-- CELL_CONVERSION (R42). -/
def execCellConversion (cell : Nat) (code : CellCode) (impossible : Bool) (s : State) : Host.Outcome State Fault Refusal :=
  s.act (cell < 86) (fun b => b.convert cell code impossible)

/-- SPARE_RETARGET (R58). -/
def execSpareRetarget (g : Nat) (s : State) : Host.Outcome State Fault Refusal := s.act (g < 18) (fun b => b.spareRetargetOp g)

/-- MON_CONVERSION (R51). -/
def execMonConversion (g : Nat) (code : CellCode) (impossible : Bool) (s : State) : Host.Outcome State Fault Refusal :=
  s.act (g < 18) (fun b => b.monitor g code impossible)

/-- OUT_SWAP (R52). -/
def execOutSwap (g : Nat) (s : State) : Host.Outcome State Fault Refusal := s.act (g < 18) (fun b => b.outSwapOp g)

/-- OUT_RAMP_END (R52). -/
def execOutRampEnd (g : Nat) (s : State) : Host.Outcome State Fault Refusal := s.act (g < 18) (fun b => b.outRampEndOp g)

/-- ROT_NOW (R61). -/
def execRotNow (g : Nat) (s : State) : Host.Outcome State Fault Refusal := s.hostWrite (g < 18) (fun b => b.rotNowOp g)

/-- RETRY (R53). -/
def execRetry (g : Nat) (s : State) : Host.Outcome State Fault Refusal := s.hostWrite (g < 18) (fun b => b.retryOp g)

/-- SLICE_QUEUE (R61). -/
def execSliceQueue (g : Nat) (s : State) : Host.Outcome State Fault Refusal := s.act (g < 18) (fun b => b.sliceQueueOp g)

/-- SLICE_START (R64). -/
def execSliceStart (s : State) : Host.Outcome State Fault Refusal := s.act true (fun b => b.sliceStartOp)

/-- RECOVERY_SLICE (R62). -/
def execRecoverySlice (s : State) : Host.Outcome State Fault Refusal := s.act true (fun b => b.recoverySliceOp)

/-- PROMOTION_SLICE (R72). -/
def execPromotionSlice (s : State) : Host.Outcome State Fault Refusal := s.act true (fun b => b.promotionSliceOp)

/-- SCARF_IN_END (R64). -/
def execScarfInEnd (laddersMatch : Bool) (s : State) : Host.Outcome State Fault Refusal :=
  s.act true (fun b => b.scarfInEndOp laddersMatch)

/-- SLICE_PATTERN (R65). -/
def execSlicePattern (matched : Bool) (s : State) : Host.Outcome State Fault Refusal := s.act true (fun b => b.slicePatternOp matched)

/-- TEST_PHASE_END (R64). -/
def execTestPhaseEnd (s : State) : Host.Outcome State Fault Refusal := s.act true (fun b => b.testPhaseEndOp)

/-- SLICE_END (R65). -/
def execSliceEnd (tracked : Bool) (s : State) : Host.Outcome State Fault Refusal := s.act true (fun b => b.sliceEndOp tracked)

/-- SPARE_LEARN (R48). -/
def execSpareLearn (g : Nat) (s : State) : Host.Outcome State Fault Refusal := s.act (g < 18) (fun b => b.spareLearnOp g)

end Sys2Proof.Machine
end

