-- ==== Sys2Proof/Machine/Ports.lean ====
section
/-! DEFINITION. The input side of the analogue ports: gain steps (R79 to R85), bias supplies (R86 to R90), the cloche (R99 to R103) and the
calibration stage (R104 to R106). -/

namespace Sys2Proof.Machine

/-- The hidden record of an input. -/
def Block.inp (s : Block) (n : Nat) : InSt := Tab.get (fun _ => {}) s.ports.ins n

/-- Change the hidden record of an input. -/
def Block.modIn (s : Block) (n : Nat) (h : InSt → InSt) : Block :=
  { s with ports := { s.ports with ins := Tab.upd (fun _ => {}) s.ports.ins n h } }

/-- The hidden record of a supply. -/
def Block.biasSt (s : Block) (m : Nat) : BiasSt := Tab.get (fun _ => {}) s.ports.bias m

/-- Change the hidden record of a supply. -/
def Block.modBias (s : Block) (m : Nat) (h : BiasSt → BiasSt) : Block :=
  { s with ports := { s.ports with bias := Tab.upd (fun _ => {}) s.ports.bias m h } }

/-- Whether a port is an input (R78). -/
def Block.isInput (s : Block) (n : Nat) : Bool := s.f (Reg.UAP_CFG_DIR n) == 1

/-- Whether a port is an output (R78). -/
def Block.isOutput (s : Block) (n : Nat) : Bool := s.f (Reg.UAP_CFG_DIR n) == 2

/-- The largest gain of a port's mode in dB (R78). -/
def Block.maxGain (s : Block) (n : Nat) : Nat := if s.f (Reg.UAP_CFG_MODE n) = 1 then 60 else 24

/-! ## Gain -/

/-- Ticks of the 1 ms ramps (R83, R89, R94, R95, R101, R323). -/
def rampTicks : Nat := 12288

/-- Take the pending difference as one analogue step at a crossing (R82), to the target that stood when the crossing triggered it (R84); a target written
since then waits as a new request. -/
def Block.takeGainStep (s : Block) (n : Nat) : Block :=
  let v := (s.inp n).stepTo.getD (s.f (Reg.UAP_IN_GAIN_TARGET n))
  let s := ((s.put (Reg.UAP_IN_GAIN_CUR n) v).putB (Reg.UAP_IN_GAIN_PEND n) (s.f (Reg.UAP_IN_GAIN_TARGET n) != v)).raise (Reg.UAP_EVT_GZC n)
  (s.modIn n (fun x => { x with stepTo := none })).modGrp n (fun x => { x with crossed := false })

/-- Take the pending difference at the timeout, behind the compensation ramp (R83). -/
def Block.takeGainTimeout (s : Block) (n : Nat) : Block :=
  let d : Int := (s.f (Reg.UAP_IN_GAIN_CUR n) : Int) - s.f (Reg.UAP_IN_GAIN_TARGET n)
  let s := (s.put (Reg.UAP_IN_GAIN_CUR n) (s.f (Reg.UAP_IN_GAIN_TARGET n))).put (Reg.UAP_IN_GAIN_PEND n) 0
  let s := (s.raise (Reg.UAP_IN_GAIN_COMP n)).raise (Reg.UAP_EVT_GTO n)
  s.modIn n (fun x => { x with compDb := d, compAt := s.time.now })

/-- Let a new difference wait for a crossing from now; with ZCTO = 0 it is taken at once (R82, R83). -/
def Block.startGainWait (s : Block) (n : Nat) (frm : Nat) : Block :=
  let s := (s.raise (Reg.UAP_IN_GAIN_PEND n)).modGrp n (fun x => { x with crossed := false })
  let z := s.f (Reg.UAP_IN_CTRL_ZCTO n)
  let s := s.modIn n (fun x => { x with toAt := frm + ticks (msTicks z) })
  if z = 0 then s.takeGainTimeout n else s

/-- GAIN_WRITE (R84): TARGET is clamped to the mode's maximum; a write to a port that is no input is ignored (R107). A step that a crossing has
triggered keeps the target it had. -/
def Block.gainWriteOp (s : Block) (n target : Nat) : Block :=
  if !s.isInput n then s else
  let old := s.f (Reg.UAP_IN_GAIN_TARGET n)
  let new := min target (s.maxGain n)
  let pend := s.on (Reg.UAP_IN_GAIN_PEND n)
  let s := s.put (Reg.UAP_IN_GAIN_TARGET n) new
  if s.on (Reg.UAP_IN_GAIN_COMP n) then s
  else if pend && (s.grp n).crossed then
    s.modIn n (fun x => { x with stepTo := some (x.stepTo.getD old), toAt := s.after (msTicks (s.f (Reg.UAP_IN_CTRL_ZCTO n))) })
  else if pend then
    (if new = s.f (Reg.UAP_IN_GAIN_CUR n) then (s.put (Reg.UAP_IN_GAIN_PEND n) 0).raise (Reg.UAP_EVT_GOVR n)
     else if new = old then s else s.raise (Reg.UAP_EVT_GOVR n))
  else if new = s.f (Reg.UAP_IN_GAIN_CUR n) then s
  else s.startGainWait n s.time.now

/-- The tick has come at which a step that a crossing triggered is taken: the one after its detection, on a low-power input the next hold (R82,
R85). -/
def Block.gainStepDue (s : Block) (n : Nat) : Bool :=
  s.on (Reg.UAP_IN_GAIN_PEND n) && (s.grp n).crossed && s.reached ((s.grp n).crossAt + ticks 1) &&
    (!s.on (Reg.UAP_CFG_LP n) || s.time.tick % 2 == 0)

/-- GAIN_STEP (R82). -/
def Block.gainStepOp (s : Block) (n : Nat) : Block := if s.gainStepDue n then s.takeGainStep n else s

/-- GAIN_TIMEOUT (R83). -/
def Block.gainTimeoutOp (s : Block) (n : Nat) : Block :=
  if s.on (Reg.UAP_IN_GAIN_PEND n) && !(s.grp n).crossed && s.reached (s.inp n).toAt then s.takeGainTimeout n else s

/-- GAIN_RAMP_END (R84): after 12,288 ticks; a TARGET written meanwhile then waits for a crossing. -/
def Block.gainRampEndOp (s : Block) (n : Nat) : Block :=
  if s.on (Reg.UAP_IN_GAIN_COMP n) && s.reached ((s.inp n).compAt + ticks rampTicks) then
    let s := s.put (Reg.UAP_IN_GAIN_COMP n) 0
    if s.f (Reg.UAP_IN_GAIN_TARGET n) = s.f (Reg.UAP_IN_GAIN_CUR n) then s
    else s.startGainWait n ((s.inp n).compAt + ticks rampTicks)
  else s

/-! ## Bias -/

/-- Ports a supply serves (R86). -/
def Block.biasPorts (s : Block) (m : Nat) : List Nat := (List.range 8).filter (fun k => s.on ((Reg.MB_CFG_MAP m).bit k))

/-- The modes in which the mic-bias pump runs: READY, PLAY with COAST and ISLAND, SAFE; in LISTEN only for a MIC Listen port (R606). -/
def Block.biasRuns (s : Block) (m : Nat) : Bool :=
  s.audioOn || (s.base == modeListen && (s.biasPorts m).contains (s.f Reg.PWR_LSN_CFG_PORT) &&
    s.f (Reg.UAP_CFG_MODE (s.f Reg.PWR_LSN_CFG_PORT)) == 1)

/-- The output voltage of a supply in 0.1 V (R88): towards VSET at 0.2 V/ms while driven. -/
def Block.biasVolt (s : Block) (m : Nat) : Rat :=
  let b := s.biasSt m
  let goal : Rat := s.f (Reg.MB_CFG_VSET m)
  let moved : Rat := ((s.time.now - b.at' : Nat) : Rat) / (16 * 6144)
  if !b.driven then 0
  else if b.v0 ≤ goal then min goal (b.v0 + moved) else max goal (b.v0 - moved)

/-- MBn_STAT.OK: within 2 % of the setting (R88, R90). -/
def Block.biasOk (s : Block) (m : Nat) : Bool := (s.biasSt m).driven && s.reached (s.biasSt m).okAt

/-- OK has held 1 for 50 ms: the ports of the supply may be heard (R89). -/
def Block.biasSettled (s : Block) (m : Nat) : Bool := (s.biasSt m).driven && s.reached ((s.biasSt m).okAt + ticks (msTicks 50))

/-- MBn_STAT.RAMP: rising or slewing (R107). -/
def Block.biasRamp (s : Block) (m : Nat) : Bool := (s.biasSt m).driven && s.biasVolt m != (s.f (Reg.MB_CFG_VSET m) : Rat)

/-- The core cycle at which a driven supply comes within 2 % of its setting. -/
def Block.biasOkAt (s : Block) (m : Nat) : Nat :=
  let b := s.biasSt m
  let goal : Rat := s.f (Reg.MB_CFG_VSET m)
  let gap : Rat := if b.v0 ≤ goal then goal - goal / 50 - b.v0 else b.v0 - goal - goal / 50
  b.at' + ((max 0 gap) * (16 * 6144)).ceil.toNat

/-- Hold inputs at zero (R89): ZHOLD reads 1, BIASZ is set. A ramp that a graft has put off stays put off. -/
def Block.holdInputs (s : Block) (ports : List Nat) : Block :=
  s.forAll (ports.filter s.isInput) (fun n s =>
    (s.modIn n (fun x => { x with held := true, rampAt := if x.waits then x.rampAt else none })).onlyIf (!(s.inp n).held)
      (fun s => s.raise (Reg.UAP_EVT_BIASZ n)))

/-- Hold the inputs a supply serves at zero (R89). -/
def Block.holdBias (s : Block) (m : Nat) : Block := s.holdInputs (s.biasPorts m)

/-- Let held inputs ramp in from a core cycle (R89, R101), or from the later one that a graft has set (R94, R261). -/
def Block.rampIn (s : Block) (ports : List Nat) (when' : Nat) : Block :=
  s.forAll (ports.filter (fun n => (s.inp n).held)) (fun n s => s.modIn n (fun x =>
    { x with held := false, rampAt := some (if x.waits then max when' (x.rampAt.getD 0) else when') }))

/-- Drive a supply from a voltage towards its setting; OK from the core cycle at which it comes within 2 % (R88). -/
def Block.slewBias (s : Block) (m : Nat) (v : Rat) : Block :=
  let s := s.modBias m (fun _ => { driven := true, v0 := v, at' := s.time.now })
  s.modBias m (fun b => { b with okAt := s.biasOkAt m })

/-- Start driving a supply from 0 V, holding its inputs (R88, R89). -/
def Block.driveBias (s : Block) (m : Nat) : Block := (s.slewBias m 0).holdBias m

/-- Stop driving a supply: it discharges (R88). -/
def Block.dropBias (s : Block) (m : Nat) : Block := s.modBias m (fun _ => {})

/-- Clamp VSET to 2.0 to 9.0 V (R107). -/
def clampVset (v : Nat) : Nat := max 20 (min 90 v)

/-- MBIAS_ENABLE (R89, R90, R107): EN and VSET as written. EN = 0 clears ILIM, ends a hold at once and lets the ports ramp in without bias;
EN = 1 raises the supply again, where the cloche and the mode let it run, and holds them. A new VSET slews; OK stays 1 where the voltage lies within
2 % of it. -/
def Block.mbiasEnableOp (s : Block) (m : Nat) (en : Bool) (vset : Nat) : Block :=
  let was := s.on (Reg.MB_CFG_EN m)
  let v := s.biasVolt m
  let old := s.f (Reg.MB_CFG_VSET m)
  let ok := s.biasOk m
  let s := (s.put (Reg.MB_CFG_VSET m) (clampVset vset)).putB (Reg.MB_CFG_EN m) en
  let s := s.onlyIf (!en) (fun s => s.put (Reg.MB_STAT_ILIM m) 0)
  if !en then
    let s := s.onlyIf (!s.on (Reg.MB_STAT_CUT m)) (fun s => s.dropBias m)
    if was then s.rampIn (s.biasPorts m) s.time.now else s
  else if !was then (if s.biasRuns m && !s.on (Reg.MB_STAT_CUT m) then s.driveBias m else s.holdBias m)
  else if (s.biasSt m).driven && clampVset vset != old then
    let since := (s.biasSt m).okAt
    let s := s.slewBias m v
    if ok && s.biasOk m then s.modBias m (fun b => { b with okAt := since }) else s.holdBias m
  else s

/-- BIAS_SETTLED (R89): OK has held 1 for 50 ms, and the ports ramp in. -/
def Block.biasSettledOp (s : Block) (m : Nat) : Block :=
  if s.biasSettled m && !(s.on (Reg.MB_STAT_CUT m)) then s.rampIn (s.biasPorts m) s.time.now else s

/-- MBIAS_CURRENT_LIMIT (R90): the limit has lasted 10 ms; the supply is switched off until EN goes to 0 and 1. -/
def Block.mbiasLimitOp (s : Block) (m : Nat) : Block :=
  if !(s.biasSt m).driven then s else
  (((s.dropBias m).raise (Reg.MB_STAT_ILIM m)).raise (Reg.CLOCHE_EVT_ILIM.bit m)).holdBias m

/-- MBIAS_OK_LOST (R89): an enabled supply leaves ±2 % of its setting; its ports are held. When its load lets it return the spec does not say: a free
number of ticks (R90). -/
def Block.mbiasLostOp (s : Block) (m : Nat) : Block :=
  if !s.biasOk m then s else
  ((s.modBias m (fun b => { b with okAt := s.after (s.free + 1) })).used).holdBias m

/-- Stop driving a supply that the cloche or the mode takes away: while it is enabled its inputs are held (R89). -/
def Block.loseBias (s : Block) (m : Nat) : Block := (s.dropBias m).onlyIf (s.on (Reg.MB_CFG_EN m)) (fun s => s.holdBias m)

/-- The pump follows the mode (R606): supplies stop in a mode without it and rise again, their ports held, on the return. -/
def Block.biasFollow (s : Block) : Block :=
  s.forAll (List.range 4) (fun m s =>
    let want := s.on (Reg.MB_CFG_EN m) && !s.on (Reg.MB_STAT_ILIM m) && !s.on (Reg.MB_STAT_CUT m) && s.biasRuns m
    if want && !(s.biasSt m).driven then s.driveBias m
    else if !want && (s.biasSt m).driven then s.loseBias m else s)

/-! ## The cloche -/

/-- The talkback ports (R99). -/
def Block.talkPorts (s : Block) : List Nat := (List.range 16).filter (fun n => s.on (Reg.UAP_CFG_TALK n))

/-- The supplies that serve talkback ports (R100). -/
def Block.talkSupplies (s : Block) : List Nat :=
  (List.range 4).filter (fun m => (s.biasPorts m).any (fun n => s.on (Reg.UAP_CFG_TALK n)))

/-- Put the cloche's cut on the ports and supplies of the image: their cells stop, a slice there ends (R63, R100, R103). -/
def Block.clocheCut (s : Block) : Block :=
  let s := s.forAll s.talkSupplies (fun m s => (s.raise (Reg.MB_STAT_CUT m)).loseBias m)
  let s := s.forAll s.talkPorts (fun n s => s.raise (Reg.UAP_STAT_CLOCHED n))
  match s.cells.slice with
  | some sl => if sl.group < 16 && s.on (Reg.UAP_CFG_TALK sl.group) then s.sliceIncomplete false else s
  | none => s

/-- CLOCHE_SHUT (R100), in every mode except OFF. -/
def Block.clocheShutOp (s : Block) : Block :=
  if s.base = modeOff || s.ports.shut then s else
  let s := { s with ports := { s.ports with shut := true, opening := none } }
  let s := ((((s.raise Reg.CLOCHE_STAT_SHUT).raise Reg.CLOCHE_EVT_SHUT).bump Reg.CLOCHE_CNT_SHUTS)).put Reg.CLOCHE_STAT_OPENING 0
  s.clocheCut

/-- Whether the ramp-in of an input still lies ahead. -/
def Block.rampAhead (s : Block) (n : Nat) : Bool := match (s.inp n).rampAt with
  | some t => decide (s.time.now < t)
  | none => false

/-- CLOCHE_OPEN (R101): the supply switches close, the talkback cells restart with 8 conversions each discarded (32 ticks), and every port is
held until its bias has settled, or for 8 further ticks where no supply serves it. -/
def Block.clocheOpenOp (s : Block) : Block :=
  if !s.ports.shut then s else
  let s := { s with ports := { s.ports with shut := false, opening := some s.time.now } }
  let s := (s.put Reg.CLOCHE_STAT_SHUT 0).raise Reg.CLOCHE_STAT_OPENING
  let s := s.forAll s.talkPorts (fun n s =>
    let s := (s.put (Reg.UAP_STAT_CLOCHED n) 0).modGrp n (fun x => { x with discardTo := s.after 32, raws := [], filt := [], conv := none })
    let served := s.on (Reg.UAP_CFG_MBMAP n) && s.on (Reg.MB_CFG_EN (s.f (Reg.UAP_CFG_MBSEL n)))
    let waits := (s.inp n).waits && s.rampAhead n
    s.modIn n (fun x => if served then { x with held := true, waits := waits, rampAt := if waits then x.rampAt else none }
      else { x with held := false, waits := waits, rampAt := some (if waits then max (s.after 40) (x.rampAt.getD 0) else s.after 40) }))
  let s := s.forAll (List.range 4) (fun m s => s.put (Reg.MB_STAT_CUT m) 0)
  s.biasFollow

/-- Whether an input is held at zero by its bias or by the opening of the cloche: ZHOLD (R89, R101, R107). -/
def Block.zhold (s : Block) (n : Nat) : Bool := (s.inp n).held || (!(s.inp n).waits && s.rampAhead n)

/-- CLOCHE_STAT.LED: PRIV_LED sinks current until the last talkback port begins its ramp (R100, R101). -/
def Block.privLed (s : Block) : Bool := s.ports.shut || (s.ports.opening.isSome && s.talkPorts.any s.zhold)

/-- CLOCHE_OPEN_DONE (R101): the last talkback port has ramped in. -/
def Block.clocheOpenDoneOp (s : Block) : Block :=
  match s.ports.opening with
  | none => s
  | some _ =>
    let up (n : Nat) : Bool := !(s.inp n).held && match (s.inp n).rampAt with
      | some t => s.reached (t + ticks rampTicks)
      | none => true
    if s.talkPorts.all up then
      (({ s with ports := { s.ports with opening := none } }).put Reg.CLOCHE_STAT_OPENING 0).raise Reg.CLOCHE_EVT_OPEN
    else s

/-! ## What a port delivers -/

/-- The compensation factor of R83 for the sample that the port delivers now, by the tick of its hold; none outside the ramp. -/
def Block.compFactor (s : Block) (n : Nat) : Option Rat :=
  let x := s.inp n
  let t := (s.grp n).outAt
  if x.compDb = 0 || t < x.compAt || x.compAt + ticks rampTicks ≤ t then none
  else
    let k0 := pow10Q (x.compDb / 20)
    some (k0 + (1 - k0) * (((t - x.compAt) / 16 : Nat) : Rat) / rampTicks)

/-- The sample a port's front end delivers to the matrix and the decimation chain (R83, R89, R94, R100, R101, R261). -/
def Block.portIn (s : Block) (n : Nat) : Sample :=
  if !s.isInput n || s.on (Reg.UAP_STAT_CM n) then ⟨0, tagZ⟩  -- R94: an output that becomes an input starts after the fall
  else if s.on (Reg.UAP_STAT_CLOCHED n) || (s.inp n).held || s.rampAhead n then ⟨0, tagZ⟩
  else
    let x := (s.grp n).out
    let x := match s.compFactor n with
      | some k => (Sample.sat (ratRound (x.int * k)) x.tag).withTag tagX
      | none => x
    let x := match (s.inp n).rampAt with
      | some t =>
        let k := (s.time.now - t) / 16
        if k < rampTicks then (⟨BitVec.ofInt 24 (ratRound ((x.int : Rat) * k / rampTicks)), x.tag⟩ : Sample).withTag tagX else x
      | none => x
    -- from the clock switch to SETTLED every sample of the Listen port carries U (R540)
    s.snapMute <| s.faded (s.inp n).cut false (if s.lsn.preroll && s.f Reg.PWR_LSN_CFG_PORT = n then x.withTag tagU else x)

/-- What the Direct matrix sees of a port: zero tagged Z from a low-power input (R43). -/
def Block.portDirect (s : Block) (n : Nat) : Sample := if s.on (Reg.UAP_CFG_LP n) then ⟨0, tagZ⟩ else s.portIn n

/-- A tap of the calibration stage: the Lagrange coefficient of R104 for D = 2 + CAL_DLY / 256. -/
def calTap (dly : Int) (d : Int) : Rat :=
  ([0, 1, 2, 3, 4] : List Int).foldl (fun acc m => if m = d then acc else acc * (((2 + (dly : Rat) / 256) - m) / (d - m))) 1

/-- The calibration stage for one graph sample: its output, and the state after it (R104 to R106). -/
def Block.calibrate (s : Block) (n : Nat) (x : Sample) : Sample × Block :=
  if !s.on (Reg.UAP_CAL_DLY_EN n) then (x, s) else
  let hist := (x :: (s.inp n).calHist).take 5
  let k := min 64 ((s.inp n).calK + 1)
  let goal : Rat := s.f (Reg.UAP_CAL_GAIN_GAIN n)
  let g : Rat := (s.inp n).calFrom + (goal - (s.inp n).calFrom) * k / 64
  let taps := (([0, 1, 2, 3, 4] : List Int).map (calTap (s.fInt (Reg.UAP_CAL_DLY_DLY n)))).zip hist
  let acc : Rat := taps.foldl (fun a p => a + p.1 * p.2.int) 0
  let tag := taps.foldl (fun t p => if p.1 = 0 then t else t ||| p.2.tag) 0
  (Sample.sat (ratRound (acc * g / 2 ^ 22)) tag, s.modIn n (fun y => { y with calHist := hist, calK := k }))

/-- A write to CAL_GAIN (R106): clamped to 0.5 to 2.0, applied as a ramp over 64 graph samples. -/
def Block.calGainWrite (s : Block) (n v : Nat) : Block :=
  if !s.isInput n then s else
  let from' : Rat := (s.inp n).calFrom + ((s.f (Reg.UAP_CAL_GAIN_GAIN n) : Rat) - (s.inp n).calFrom) * (s.inp n).calK / 64
  (s.put (Reg.UAP_CAL_GAIN_GAIN n) (max 0x200000 (min 0x800000 v))).modIn n
    (fun x => { x with calFrom := (ratRound from').toNat, calK := 0 })

/-! ## The commands -/

/-- GAIN_WRITE (R84). -/
def execGainWrite (n target : Nat) (s : State) : Host.Outcome State Fault Refusal :=
  s.hostWrite (n < 16 && target < 64) (fun b => b.gainWriteOp n target)

/-- GAIN_STEP (R82). -/
def execGainStep (n : Nat) (s : State) : Host.Outcome State Fault Refusal := s.act (n < 16) (fun b => b.gainStepOp n)

/-- GAIN_TIMEOUT (R83). -/
def execGainTimeout (n : Nat) (s : State) : Host.Outcome State Fault Refusal := s.act (n < 16) (fun b => b.gainTimeoutOp n)

/-- GAIN_RAMP_END (R84). -/
def execGainRampEnd (n : Nat) (s : State) : Host.Outcome State Fault Refusal := s.act (n < 16) (fun b => b.gainRampEndOp n)

/-- MBIAS_ENABLE (R89). -/
def execMbiasEnable (m : Nat) (en : Bool) (vset : Nat) (s : State) : Host.Outcome State Fault Refusal :=
  s.hostWrite (m < 4 && vset < 128) (fun b => b.mbiasEnableOp m en vset)

/-- BIAS_SETTLED (R89). -/
def execBiasSettled (m : Nat) (s : State) : Host.Outcome State Fault Refusal := s.act (m < 4) (fun b => b.biasSettledOp m)

/-- MBIAS_CURRENT_LIMIT (R90). -/
def execMbiasCurrentLimit (m : Nat) (s : State) : Host.Outcome State Fault Refusal := s.act (m < 4) (fun b => b.mbiasLimitOp m)

/-- MBIAS_OK_LOST (R89). -/
def execMbiasOkLost (m : Nat) (s : State) : Host.Outcome State Fault Refusal := s.act (m < 4) (fun b => b.mbiasLostOp m)

/-- CLOCHE_SHUT (R100). -/
def execClocheShut (s : State) : Host.Outcome State Fault Refusal := s.act true (fun b => b.clocheShutOp)

/-- CLOCHE_OPEN (R101). -/
def execClocheOpen (s : State) : Host.Outcome State Fault Refusal := s.act true (fun b => b.clocheOpenOp)

/-- CLOCHE_OPEN_DONE (R101). -/
def execClocheOpenDone (s : State) : Host.Outcome State Fault Refusal := s.act true (fun b => b.clocheOpenDoneOp)

end Sys2Proof.Machine
end

