-- ==== Sys2Proof/Machine/Outputs.lean ====
section
/-! DEFINITION. Outputs: the common mode (R92, R94), release and its ramps (R93, R320, R323, R329), range changes (R95 to R98, R324), the
headphone amplifier (R325 to R327). Outputs 0 to 15 are the ports, 16 HPL, 17 HPR. -/

namespace Sys2Proof.Machine

/-- Ticks of the raised-cosine common-mode law (R92). -/
def cmTicks : Nat := 2457600

/-- Whether an output exists: a port in the output role, or an enabled headphone side (R78, R330). -/
def Block.isOut (s : Block) (o : Nat) : Bool := if o < 16 then s.isOutput o else s.on (Reg.HP_CFG_EN.bit (o - 16))

/-- MUTE of an output (R93, R330). -/
def Block.outMute (s : Block) (o : Nat) : Bool :=
  if o < 16 then s.on (Reg.UAP_OUT_CTRL_MUTE o) else s.on (Reg.HP_CTRL_MUTE.bit (o - 16))

/-- A weight that moves by `slope` a tick from `w0` at core cycle `at'`, held within 0 and full weight. -/
def weightAt (now w0 : Nat) (slope : Int) (at' : Nat) : Nat :=
  (max 0 (min (fullWeight : Int) ((w0 : Int) + slope * ((now - at') / 16 : Nat)))).toNat

/-- The weight of an output now, in 1/12288 (R320, R323). -/
def Block.outWeight (s : Block) (o : Nat) : Nat := weightAt s.time.now (s.out o).w0 (s.out o).slope (s.out o).at'

/-- Let the weight of an output move at a rate from the weight in force (R329). -/
def Block.rampOut (s : Block) (o : Nat) (slope : Int) : Block :=
  s.modOut o (fun x => { x with w0 := s.outWeight o, slope := slope, at' := s.time.now })

/-- Mark an output released or held; HP_STAT.REL follows (R330). -/
def Block.setReleased (s : Block) (o : Nat) (b : Bool) : Block :=
  let s := s.modOut o (fun x => { x with released := b })
  if o < 16 then s else s.putB (Reg.HP_STAT_REL.bit (o - 16)) b

/-- Zero scale at once, unreleased: SAFE (R34, R327) and a headphone trip (R326). -/
def Block.zeroOut (s : Block) (o : Nat) : Block :=
  (s.setReleased o false).modOut o (fun x => { x with w0 := 0, slope := 0, at' := s.time.now, removal := false })

/-- The jack condition of output o, 18 and 19 being the speakers (R322). -/
def Block.jackOk (s : Block) (o : Nat) : Bool :=
  !s.on (Reg.JACK_OUTMAP_USE o) ||
  s.on ((Reg.JACK_OUTMAP_MASK o).bit (s.f (Reg.JACK_STAT_STATE (s.f (Reg.JACK_OUTMAP_JACK o)))))

/-- The conditions of R93 that end a release when they cease: the mode, MUTE, the jack, and for a headphone side no trip. -/
def Block.mayPlay (s : Block) (o : Nat) : Bool :=
  s.sliceMode && s.isOut o && !s.outMute o && s.jackOk o && (o < 16 || !s.on (Reg.HP_STAT_TRIPPED.bit (o - 16)))

/-- All conditions of R93: also the common mode has risen, the stage is on (R325) and no fault holds the output at zero scale. -/
def Block.outReady (s : Block) (o : Nat) : Bool :=
  s.mayPlay o && (if o < 16 then s.f (Reg.UAP_STAT_CM o) == 2 else s.ports.hpOn.getLsbD (o - 16)) &&
  ((s.grp o).stage == 0 || (s.grp o).stage == 1) && !(s.out o).removal

/-- OUTPUT_RELEASE (R93, R323, R329): all conditions hold; the unmute ramp runs from the weight in force. -/
def Block.releaseOp (s : Block) (o : Nat) : Block :=
  if s.outReady o && !(s.out o).released then (s.rampOut o 1).setReleased o true else s

/-- A released output whose conditions have ceased ramps down from the weight in force (R323, R329). -/
def Block.followOutputs (s : Block) : Block :=
  s.forAll (List.range 18) (fun o s => if (s.out o).released && !s.mayPlay o then (s.rampOut o (-1)).setReleased o false else s)

/-! ## Range changes -/

/-- The events and busy bits of a range change (R95, R107, R330). -/
def Block.rangeBusy (s : Block) (o : Nat) (busy : Bool) : Block := if o < 16 then s.putB (Reg.UAP_STAT_RNGBUSY o) busy else s

/-- RNGDONE of an output. -/
def rangeDone (o : Nat) : Fld := if o < 16 then Reg.UAP_EVT_RNGDONE o else Reg.HP_EVT_RNGDONE.bit (o - 16)

/-- Start a range change: with ramps on a released output, without them else (R95, R96). -/
def Block.startRange (s : Block) (o : Nat) : Block :=
  (s.modOut o (fun x => { x with rng := if x.released then 1 else 3, rngAt := s.time.now })).rangeBusy o true

/-- RANGE_WRITE (R95 to R97, R324, R329): a change on an idle output starts; one during a change or a removal mute is held. A write to what is
no output is ignored (R107, R330). -/
def Block.rangeWriteOp (s : Block) (o : Nat) (high : Bool) : Block :=
  if !s.isOut o then s else
  let s := s.putB (rangeReq o) high
  if (s.out o).rng != 0 || (s.out o).removal then
    let s := s.modOut o (fun x => { x with rngHeld := some high })
    if o < 16 then s.raise (Reg.UAP_STAT_RNGPEND o) else s
  else if high == s.on (rangeNow o) then s
  else s.startRange o

/-- RANGE_SWITCH (R95, R96): at zero scale the buffer takes the other range. -/
def Block.rangeSwitchOp (s : Block) (o : Nat) : Block :=
  let x := s.out o
  if x.rng = 1 && s.reached (x.rngAt + ticks 12288) then
    (s.putB (rangeNow o) (!s.on (rangeNow o))).modOut o (fun y => { y with rng := 2 })
  else if x.rng = 3 && s.reached (x.rngAt + ticks 1) then
    (s.putB (rangeNow o) (!s.on (rangeNow o))).modOut o (fun y => { y with rng := 4, rngAt := x.rngAt + ticks 1 })
  else s

/-- Take up a held range: a new change if it differs from the range in force, else nothing (R97, R329). -/
def Block.takeHeldRange (s : Block) (o : Nat) : Block :=
  match (s.out o).rngHeld with
  | none => s
  | some h =>
    let s := s.modOut o (fun x => { x with rngHeld := none })
    let s := if o < 16 then s.put (Reg.UAP_STAT_RNGPEND o) 0 else s
    if h == s.on (rangeNow o) then s else s.startRange o

/-- RANGE_CHANGE_END (R95 to R97). -/
def Block.rangeEndOp (s : Block) (o : Nat) : Block :=
  let x := s.out o
  if (x.rng = 2 && s.reached (x.rngAt + ticks 24640)) || (x.rng = 4 && s.reached (x.rngAt + ticks 64)) then
    let s := ((s.raise (rangeDone o)).rangeBusy o false).modOut o (fun y => { y with rng := 0 })
    if (s.out o).removal then s else s.takeHeldRange o
  else s

/-- REMOVAL_MUTE_END (R320, R329): the output is at zero scale; a range held meanwhile changes under R96. -/
def Block.removalEndOp (s : Block) (o : Nat) : Block :=
  if (s.out o).removal && s.outWeight o = 0 then
    let s := s.modOut o (fun x => { x with removal := false, w0 := 0, slope := 0, at' := s.time.now })
    if (s.out o).rng = 0 then s.takeHeldRange o else s
  else s

/-- Start the removal mute of an output that is released or still ramps: 1/6144 a tick from the weight in force (R320, R329). -/
def Block.removalMute (s : Block) (o : Nat) : Block :=
  if (s.out o).released || s.outWeight o ≠ 0 then
    ((s.rampOut o (-2)).setReleased o false).modOut o (fun x => { x with removal := true })
  else s

/-! ## What reaches the ladder -/

/-- The weight of a range change, in 1/12288, and its tag (R95, R96). -/
def OutSt.rangeWeight (x : OutSt) (now : Nat) : Nat × Byte :=
  let k := (now - x.rngAt) / 16
  if x.rng = 0 || x.rng = 3 then (fullWeight, 0)
  else if x.rng = 4 then (0, tagZ)
  else muteWeight k

/-- The sample that an output's ladder loads for a sample of its Direct matrix output. -/
def Block.ladder (s : Block) (o : Nat) (x : Sample) : Sample :=
  let h := s.out o
  let w := s.outWeight o
  let tag := if w = 0 && h.slope ≤ 0 then tagZ else if w < fullWeight then tagX else 0
  let r := h.rangeWeight s.time.now
  s.faultOut o (s.snapMute (weighted (weighted x w tag) r.1 r.2))

/-- UAP_STAT.ZSCALE: the output is at zero scale for any reason (R107). -/
def Block.zscale (s : Block) (o : Nat) : Bool := (s.ladder o Sample.zero).tag == tagZ

/-! ## The common mode -/

/-- Start the common-mode rise of an output port (R92). Where a fall has not begun yet (R94), the legs are still at AVDD5/2 and stay there. -/
def Block.cmRise (s : Block) (n : Nat) : Block :=
  if s.f (Reg.UAP_STAT_CM n) = 1 || s.f (Reg.UAP_STAT_CM n) = 2 then s
  else if s.f (Reg.UAP_STAT_CM n) = 3 && s.time.now < (s.out n).cmAt then s.put (Reg.UAP_STAT_CM n) 2
  else (s.put (Reg.UAP_STAT_CM n) 1).modOut n (fun x => { x with cmAt := s.time.now })

/-- Every output port rises (R92, R533). -/
def Block.cmRiseAll (s : Block) : Block := s.forAll ((List.range 16).filter s.isOutput) (fun n s => s.cmRise n)

/-- A port leaves the output role, or the device goes to a mode without it: the ramp to zero from the weight in force, then the fall (R94);
a ramp that finds its output at zero takes no time (R527). -/
def Block.cmFall (s : Block) (n : Nat) : Block :=
  if s.f (Reg.UAP_STAT_CM n) = 0 || s.f (Reg.UAP_STAT_CM n) = 3 then s
  else
    let w := s.outWeight n
    let s := (s.rampOut n (-1)).setReleased n false
    (s.put (Reg.UAP_STAT_CM n) 3).modOut n (fun x => { x with cmAt := s.after w })

/-- UAP_STAT.CM as it reads: 2 until the ramp of R94 has ended (R107). -/
def Block.cmView (s : Block) (n : Nat) : Nat :=
  if s.f (Reg.UAP_STAT_CM n) = 3 && s.time.now < (s.out n).cmAt then 2 else s.f (Reg.UAP_STAT_CM n)

/-- The common mode of a port in units of AVDD5/2: 0 at ground, the raised-cosine law over 200 ms up and down (R92, R94). -/
def Block.commonMode (s : Block) (n : Nat) : Rat :=
  let k : Rat := (min cmTicks ((s.time.now - (s.out n).cmAt) / 16) : Nat)
  match s.cmView n with
  | 1 => (1 - cosPi (k / cmTicks)) / 2
  | 2 => 1
  | 3 => (1 + cosPi (k / cmTicks)) / 2
  | _ => 0

/-- The state of the two legs of a port (R80). -/
inductive Legs where
  | unpowered | toGround | terminated (mode : Nat) | common (level : Rat) | driven
deriving DecidableEq, Repr

/-- The legs of a port (R80): an output follows its common mode, in every mode in which that stands; an input is terminated in the modes that the table
names, a Listen port in LISTEN; every other port lies at AGND through 100 kΩ (DEDUCED for RELAY and SERVICE, which the table does not name). -/
def Block.legs (s : Block) (n : Nat) : Legs :=
  if s.base = modeOff then .unpowered
  else if s.cmView n = 2 && s.isOutput n then .driven
  else if s.cmView n ≠ 0 then .common (s.commonMode n)
  else if s.core && s.isInput n && (s.audioOn || (s.base = modeListen && s.f Reg.PWR_LSN_CFG_PORT = n)) then .terminated (s.f (Reg.UAP_CFG_MODE n))
  else .toGround

/-- CM_RISE_END (R92). -/
def Block.cmRiseEndOp (s : Block) (n : Nat) : Block :=
  if s.f (Reg.UAP_STAT_CM n) = 1 && s.reached ((s.out n).cmAt + ticks cmTicks) then
    (s.put (Reg.UAP_STAT_CM n) 2).raise (Reg.UAP_EVT_CMUP n)
  else s

/-- CM_FALL_END (R94): CMDN is set and the legs take the state of R80. -/
def Block.cmFallEndOp (s : Block) (n : Nat) : Block :=
  if s.f (Reg.UAP_STAT_CM n) = 3 && s.reached ((s.out n).cmAt + ticks cmTicks) then
    ((s.put (Reg.UAP_STAT_CM n) 0).raise (Reg.UAP_EVT_CMDN n)).zeroOut n
  else s

/-! ## The headphone amplifier -/

/-- Start the charge pump where the image enables a side (R325). -/
def Block.pumpStart (s : Block) : Block :=
  if s.on Reg.HP_CFG_EN && s.ports.pumpAt.isNone then
    { s with ports := { s.ports with pumpAt := some s.time.now, cpokAt := none, hpOn := 0 } }
  else s

/-- Stop the headphone: stages off and the pump stopped (R327). -/
def Block.pumpStop (s : Block) : Block :=
  ({ s with ports := { s.ports with pumpAt := none, cpokAt := none, hpOn := 0 } }).put Reg.HP_STAT_CPOK 0

/-- CPOK (R325): VNEG has come below −1.6 V. -/
def Block.cpokOp (s : Block) : Block :=
  if s.ports.pumpAt.isSome && !s.on Reg.HP_STAT_CPOK then
    ({ s with ports := { s.ports with cpokAt := some s.time.now } }).raise Reg.HP_STAT_CPOK
  else s

/-- HP_STAGE_ON (R325): 2 ms after CPOK an enabled side enables its stage at zero scale. -/
def Block.hpStageOnOp (s : Block) (side : Nat) : Block :=
  match s.ports.cpokAt with
  | none => s
  | some t =>
    if s.on (Reg.HP_CFG_EN.bit side) && s.reached (t + ticks (msTicks 2)) then
      { s with ports := { s.ports with hpOn := s.ports.hpOn ||| BitVec.ofNat 2 (2 ^ side) } }
    else s

/-- PUMPFAIL (R325): no CPOK within 5 ms; both sides stay at high impedance. -/
def Block.pumpfailOp (s : Block) : Block :=
  match s.ports.pumpAt with
  | none => s
  | some t =>
    if !s.on Reg.HP_STAT_CPOK && s.reached (t + ticks (msTicks 5)) then s.pumpStop.raise Reg.HP_EVT_PUMPFAIL else s

/-- HP_TRIP (R326): a current limit has lasted 10 ms; the side is held at zero scale. -/
def Block.hpTripOp (s : Block) (side : Nat) : Block :=
  if s.ports.hpOn.getLsbD side && !s.on (Reg.HP_STAT_TRIPPED.bit side) then
    ((s.raise (Reg.HP_STAT_TRIPPED.bit side)).raise (Reg.HP_EVT_TRIP.bit side)).zeroOut (16 + side)
  else s

/-- HP_CLR (R326): the trip ends; the side is released again under R323 when its conditions hold. -/
def Block.hpClrOp (s : Block) (side : Nat) : Block := s.put (Reg.HP_STAT_TRIPPED.bit side) 0

/-! ## The commands -/

/-- CM_RISE_END (R92). -/
def execCmRiseEnd (n : Nat) (s : State) : Host.Outcome State Fault Refusal := s.act (n < 16) (fun b => b.cmRiseEndOp n)

/-- CM_FALL_END (R94). -/
def execCmFallEnd (n : Nat) (s : State) : Host.Outcome State Fault Refusal := s.act (n < 16) (fun b => b.cmFallEndOp n)

/-- RANGE_WRITE (R95). -/
def execRangeWrite (o : Nat) (high : Bool) (s : State) : Host.Outcome State Fault Refusal := s.hostWrite (o < 18) (fun b => b.rangeWriteOp o high)

/-- RANGE_SWITCH (R95). -/
def execRangeSwitch (o : Nat) (s : State) : Host.Outcome State Fault Refusal := s.act (o < 18) (fun b => b.rangeSwitchOp o)

/-- RANGE_CHANGE_END (R95). -/
def execRangeChangeEnd (o : Nat) (s : State) : Host.Outcome State Fault Refusal := s.act (o < 18) (fun b => b.rangeEndOp o)

/-- OUTPUT_RELEASE (R93). -/
def execOutputRelease (o : Nat) (s : State) : Host.Outcome State Fault Refusal := s.act (o < 18) (fun b => b.releaseOp o)

/-- REMOVAL_MUTE_END (R320). -/
def execRemovalMuteEnd (o : Nat) (s : State) : Host.Outcome State Fault Refusal := s.act (o < 18) (fun b => b.removalEndOp o)

/-- CPOK (R325). -/
def execCpok (s : State) : Host.Outcome State Fault Refusal := s.act true (fun b => b.cpokOp)

/-- HP_STAGE_ON (R325). -/
def execHpStageOn (side : Nat) (s : State) : Host.Outcome State Fault Refusal := s.act (side < 2) (fun b => b.hpStageOnOp side)

/-- PUMPFAIL (R325). -/
def execPumpfail (s : State) : Host.Outcome State Fault Refusal := s.act true (fun b => b.pumpfailOp)

/-- HP_TRIP (R326). -/
def execHpTrip (side : Nat) (s : State) : Host.Outcome State Fault Refusal := s.act (side < 2) (fun b => b.hpTripOp side)

/-- HP_CLR (R326). -/
def execHpClr (side : Nat) (s : State) : Host.Outcome State Fault Refusal := s.hostWrite (side < 2) (fun b => b.hpClrOp side)

end Sys2Proof.Machine
end

