-- ==== Sys2Proof/Machine/Speaker.lean ====
section
/-! DEFINITION. The speaker stage: start and stop (R298 to R301), protection (R302 to R306, R580), sensing (R293, R294) and the thermal guard
(R307 to R310). Channel 0 is A, 1 is B. -/

namespace Sys2Proof.Machine

/-- STATE codes of R311. -/
def spkOff : Nat := 0
/-- BOOT. -/
def spkBoot : Nat := 1
/-- RAMPUP. -/
def spkUp : Nat := 2
/-- RUN. -/
def spkRun : Nat := 3
/-- RAMPDN. -/
def spkDn : Nat := 4
/-- BACKOFF. -/
def spkBackoff : Nat := 5
/-- CHECK. -/
def spkCheck : Nat := 6
/-- LOCKED. -/
def spkLocked : Nat := 7

/-- The hidden record of a channel. -/
def Block.spkSt (s : Block) (c : Nat) : SpkSt := Tab.get (fun _ => {}) s.spk.chans c

/-- Change the hidden record of a channel. -/
def Block.modSpk (s : Block) (c : Nat) (h : SpkSt → SpkSt) : Block :=
  { s with spk := { s.spk with chans := Tab.upd (fun _ => {}) s.spk.chans c h } }

/-- SPK_STAT.STATE. -/
def Block.spkState (s : Block) (c : Nat) : Nat := s.f (Reg.SPK_STAT_STATE c)

/-- Enter a state. -/
def Block.setSpk (s : Block) (c st : Nat) : Block := s.put (Reg.SPK_STAT_STATE c) st

/-- The carrier period in ticks (R292). -/
def Block.carrier (s : Block) : Nat := if s.on Reg.SPK_GLB_CFG_FSW then 32 else 16

/-- Ticks by which the carrier of a channel is late (R292). -/
def Block.carrierOff (s : Block) (c : Nat) : Nat := if c = 1 && s.on Reg.SPK_GLB_CFG_INTLV then s.carrier / 2 else 0

/-- A carrier period of the channel starts at this tick (R292). -/
def Block.carrierStart (s : Block) (c : Nat) : Bool := s.time.tick % s.carrier == s.carrierOff c

/-- The number of the carrier period that runs. -/
def Block.carrierNo (s : Block) (c : Nat) : Nat := (s.time.now / 16 + s.carrier - s.carrierOff c) / s.carrier

/-- The release conditions of R298 but for the protection states; a failed control-sense unit holds both channels (R555). -/
def Block.spkFree (s : Block) (c : Nat) : Bool :=
  s.sliceMode && s.on (Reg.SPK_CFG_EN c) && !s.on (Reg.SPK_CTRL_MUTE c) && s.jackOk (18 + c) && !(s.spkSt c).hot && !s.on Reg.BST_STAT_CSCF

/-- The weight of the reference now, in 1/12288 (R298, R299). -/
def Block.spkWeight (s : Block) (c : Nat) : Nat := weightAt s.time.now (s.spkSt c).w0 (s.spkSt c).slope (s.spkSt c).at'

/-- Both half-bridges to high impedance, in a state. -/
def Block.spkOpen (s : Block) (c st : Nat) : Block :=
  (s.setSpk c st).modSpk c (fun x => { x with switching := false, quit := false, hold := false, w0 := 0, slope := 0, limRun := 0, limUntil := 0, cut := none })

/-- Start the ramp up from a weight (R298, R300, R304). -/
def Block.spkRampUp (s : Block) (c w : Nat) : Block :=
  (s.setSpk c spkUp).modSpk c (fun x => { x with switching := true, quit := false, hold := false, w0 := w, slope := 1, at' := s.time.now })

/-- The commit of a graft has stopped the channel (R301). -/
def Block.spkGone (s : Block) (c : Nat) : Bool := match (s.spkSt c).cut with
  | some f => f.w0 == 0 && !f.up
  | none => false

/-- SPK_RELEASE (R298, R300): from OFF the start begins; from RAMPDN the ramp resumes from the weight in force, but not where a graft stops the
channel (R301). -/
def Block.spkReleaseOp (s : Block) (c : Nat) : Block :=
  if !s.spkFree c then s
  else if s.spkState c = spkOff then
    (s.setSpk c spkBoot).modSpk c (fun x => { x with since := s.time.now, switching := false, quit := false })
  else if s.spkState c = spkDn && !s.spkGone c then s.spkRampUp c (s.spkWeight c)
  else s

/-- SPK_SWITCH_START (R298): at the first carrier-period start at or after tick 3072 both half-bridges switch at half duty. -/
def Block.spkSwitchOp (s : Block) (c : Nat) : Block :=
  let x := s.spkSt c
  if s.spkState c = spkBoot && !x.switching && !x.quit && s.reached (x.since + ticks 3072) && s.carrierStart c then
    s.modSpk c (fun y => { y with switching := true, since := s.time.now })
  else s

/-- SPK_RAMPUP_START (R298): 3072 ticks after the switching began. -/
def Block.spkRampupOp (s : Block) (c : Nat) : Block :=
  let x := s.spkSt c
  if s.spkState c = spkBoot && x.switching && !x.quit && s.reached (x.since + ticks 3072) then s.spkRampUp c 0 else s

/-- SPK_RUN (R298): the weight has reached one. -/
def Block.spkRunOp (s : Block) (c : Nat) : Block :=
  if s.spkState c = spkUp && s.spkWeight c = fullWeight then
    ((s.setSpk c spkRun).raise (Reg.SPK_EVT_RUNNING c)).modSpk c (fun x => { x with runAt := s.time.now, w0 := fullWeight, slope := 0 })
  else s

/-- A release condition has ceased (R299, R300). -/
def Block.spkStop (s : Block) (c : Nat) : Block :=
  if s.spkState c = spkBoot then s.modSpk c (fun x => { x with quit := true })
  else if s.spkState c = spkUp || s.spkState c = spkRun then
    let w := s.spkWeight c
    (s.setSpk c spkDn).modSpk c (fun x => { x with w0 := w, slope := -1, at' := s.time.now, hold := false })
  else s

/-- SPK_HOLD (R299): the weight has reached zero; half duty holds. -/
def Block.spkHoldOp (s : Block) (c : Nat) : Block :=
  if s.spkState c = spkDn && !(s.spkSt c).hold && s.spkWeight c = 0 then
    s.modSpk c (fun x => { x with hold := true, since := x.at' + ticks x.w0, w0 := 0, slope := 0 })
  else s

/-- SPK_OFF (R299, R300, R301): at a carrier-period start after the hold, after a start that was broken off in BOOT, or after the commit of a graft that
changes the channel. -/
def Block.spkOffOp (s : Block) (c : Nat) : Block :=
  let x := s.spkSt c
  if !s.carrierStart c then s
  else if s.spkState c = spkBoot && x.quit then s.spkOpen c spkOff
  else if s.spkState c = spkDn && s.spkGone c then s.spkOpen c spkOff
  else if s.spkState c = spkDn && x.hold && s.reached (x.since + ticks 3072) then (s.spkOpen c spkOff).raise (Reg.SPK_EVT_STOPPED c)
  else s

/-- High impedance at once on entry to SAFE: OFF, or BACKOFF where a retry ran (R300, R34). -/
def Block.spkSafe (s : Block) (c : Nat) : Block :=
  let st := s.spkState c
  if st = spkCheck && !(s.spkSt c).checkHost then
    (s.spkOpen c spkBackoff).modSpk c (fun x => { x with backLeft := msTicks (10 * max 1 (s.f (Reg.SPK_PROT_BACKOFF c))), backAt := none })
  else if st = spkBackoff || st = spkLocked then s
  else s.spkOpen c spkOff

/-- C of a graft that changes a channel (R301): a channel that drives holds half duty until the next carrier-period start; one that starts or is checked
breaks off. -/
def Block.spkCommit (s : Block) (c : Nat) : Block :=
  let st := s.spkState c
  if st = spkCheck then s.spkSafe c
  else if st = spkBoot || st = spkUp || st = spkRun || st = spkDn then
    (s.setSpk c spkDn).modSpk c (fun x => { x with switching := true, quit := false, hold := true, since := s.time.now, w0 := 0, slope := 0,
                                                   cut := some ⟨0, false, some s.time.now⟩ })
  else s.modSpk c (fun x => { x with cut := none })

/-! ## Protection -/

/-- Enter BACKOFF with a full wait (R302, R304). -/
def Block.spkWait (s : Block) (c : Nat) : Block :=
  (s.spkOpen c spkBackoff).modSpk c (fun x =>
    { x with backLeft := msTicks (10 * max 1 (s.f (Reg.SPK_PROT_BACKOFF c))), backAt := if s.spkFree c then some s.time.now else none })

/-- A trip (R302). -/
def Block.spkTrip (s : Block) (c : Nat) : Block :=
  (((s.raise (Reg.SPK_EVT_TRIP c)).bump (Reg.SPK_TRIPCNT_TRIP c)).record 0x20 5 c (s.word (Reg.SPK_RLOAD c)) []).spkWait c

/-- The channel drives its half-bridges. -/
def Block.spkDriving (s : Block) (c : Nat) : Bool :=
  let st := s.spkState c
  st = spkBoot || st = spkUp || st = spkRun || st = spkDn || st = spkCheck

/-- What the two half-bridges of a channel do: high impedance, both low sides on, the modulator, or the states that drive the load current toward zero
(R298 to R304). -/
inductive Bridge where
  | highZ | lowSides | pwm | towardZero
deriving DecidableEq, Repr

/-- The half-bridges of a channel now: the low sides in the first 3072 ticks of a start and the first 0.25 ms of a load check (R298, R304); for the rest
of a limited half-period the states that drive the current toward zero (R302); else the modulator wherever the channel drives. -/
def Block.spkBridge (s : Block) (c : Nat) : Bridge :=
  let x := s.spkSt c
  if !s.spkDriving c then .highZ
  else if s.spkState c = spkBoot && !x.switching then .lowSides
  else if s.spkState c = spkCheck && !s.reached (x.checkAt + ticks 3072) then .lowSides
  else if s.time.now < x.limUntil then .towardZero
  else .pwm

/-- The core cycle at which the carrier half-period that runs ends (R302). -/
def Block.halfEnd (s : Block) (c : Nat) : Nat :=
  let h := s.carrier / 2
  s.after (h - (s.time.tick + s.carrier - s.carrierOff c) % h)

/-- CURRENT_LIMIT (R302, R304): for the rest of the half-period both legs drive the load current toward zero; a limited carrier period, of which the
64th in a row trips; during a load check it fails the check. -/
def Block.currentLimitOp (s : Block) (c : Nat) : Block :=
  if !s.spkDriving c then s else
  let s := s.modSpk c (fun y => { y with limUntil := s.halfEnd c })
  let x := s.spkSt c
  let n := s.carrierNo c
  if x.limRun ≠ 0 && x.limLast = n then s else
  let run := if x.limRun ≠ 0 && x.limLast + 1 = n then x.limRun + 1 else 1
  let s := ((s.bump (Reg.SPK_ILIMCNT_ILIM c)).raise (Reg.SPK_EVT_ILIM c)).modSpk c (fun y => { y with limRun := run, limLast := n })
  if s.spkState c = spkCheck then s.modSpk c (fun y => { y with checkBad := true })
  else if run ≥ 64 then s.spkTrip c else s

/-- HARD_SHORT (R302, R304): leg current above 9 A. -/
def Block.hardShortOp (s : Block) (c : Nat) : Block :=
  if !s.spkDriving c then s
  else if s.spkState c = spkCheck then s.modSpk c (fun y => { y with checkBad := true })
  else s.spkTrip c

/-- POWER_DIE_OVERTEMP (R580): both channels trip; one that is locked stays so. -/
def Block.dieOvertempOp (s : Block) : Block :=
  s.forAll ((List.range 2).filter (fun c => s.on (Reg.SPK_CFG_EN c) && s.spkState c != spkLocked)) (fun c s => s.spkTrip c)

/-- Start a load check (R304, R306). -/
def Block.startCheck (s : Block) (c : Nat) (host : Bool) : Block :=
  (s.setSpk c spkCheck).modSpk c (fun x =>
    { x with checkAt := s.time.now, checkHost := host, checkBad := false, sumI := 0, sumV := 0, checkN := 0, backAt := none, limRun := 0 })

/-- LOAD_CHECK (R304, R306): the wait of BACKOFF has ended, counted only while the other release conditions hold. -/
def Block.loadCheckOp (s : Block) (c : Nat) : Block :=
  match (s.spkSt c).backAt with
  | some t => if s.spkState c = spkBackoff && s.spkFree c && s.reached (t + ticks (s.spkSt c).backLeft) then s.startCheck c false else s
  | none => s

/-- CHECK (R306): a host load check on an OFF channel in READY, PLAY, COAST or ISLAND. -/
def Block.checkOp (s : Block) (c : Nat) : Block :=
  if s.spkState c = spkOff && (s.base = modeReady || s.base = modePlay) then s.startCheck c true else s

/-- The check is in its hold at d = 0.51, 0.75 to 1.25 ms after its start (R304). -/
def Block.checkHold (s : Block) (c : Nat) : Bool :=
  s.spkState c == spkCheck && s.reached ((s.spkSt c).checkAt + ticks 9216) && !s.reached ((s.spkSt c).checkAt + ticks 15360)

/-- The resistance of a check in mΩ: the mean voltage over the mean current; no current reads as the largest value. -/
def checkOhms (sumV sumI : Int) : Nat := if sumI ≤ 0 then 65535 else (max 0 (min 65535 (2000 * sumV / sumI))).toNat

/-- A check has failed: RETRY counts; the eighth locks (R304, R305, R306). -/
def Block.checkFail (s : Block) (c : Nat) : Block :=
  let s := (s.raise (Reg.SPK_EVT_CHKFAIL c)).put (Reg.SPK_STAT_RETRY c) (min 8 (s.f (Reg.SPK_STAT_RETRY c) + 1))
  if s.f (Reg.SPK_STAT_RETRY c) = 8 then
    ((s.spkOpen c spkLocked).raise (Reg.SPK_EVT_LOCK c)).record 0x21 5 c (s.word (Reg.SPK_RLOAD c)) []
  else if (s.spkSt c).checkHost then s.spkOpen c spkOff
  else s.spkWait c

/-- A check has passed: RAMPUP directly, or OFF for the host's check; above 64 Ω the load is open (R304, R306). -/
def Block.checkPass (s : Block) (c : Nat) (r : Nat) : Block :=
  let s := (s.putB (Reg.SPK_STAT_OPEN c) (64000 < r)).onlyIf (64000 < r) (fun s => s.raise (Reg.SPK_EVT_CHKOPEN c))
  if (s.spkSt c).checkHost then s.spkOpen c spkOff
  else
    let s := s.spkRampUp c 0
    if s.spkFree c then s else s.spkStop c

/-- LOAD_CHECK_END (R304): after 1.5 ms the resistance is stored and judged; a comparator that has acted ends the check at once. -/
def Block.loadCheckEndOp (s : Block) (c : Nat) : Block :=
  let x := s.spkSt c
  if s.spkState c != spkCheck then s
  else if x.checkBad then s.checkFail c
  else if s.reached (x.checkAt + ticks 18432) then
    -- with no sample in the hold the spec states no resistance: a free value
    let r := if x.checkN = 0 then s.free % 65536 else checkOhms x.sumV x.sumI
    let s := (if x.checkN = 0 then s.used else s).put (Reg.SPK_RLOAD_R c) r
    if 16 * r < 1000 * s.f (Reg.SPK_PROT_RMIN c) then s.checkFail c else s.checkPass c r
  else s

/-- RETRY_CLEAR (R305): one second in RUN without a trip. -/
def Block.retryClearOp (s : Block) (c : Nat) : Block :=
  if s.spkState c = spkRun && s.reached ((s.spkSt c).runAt + ticks (msTicks 1000)) then s.put (Reg.SPK_STAT_RETRY c) 0 else s

/-- SPK_CLR (R305): leaves LOCKED; ignored elsewhere. -/
def Block.spkClrOp (s : Block) (c : Nat) : Block :=
  if s.spkState c = spkLocked then (s.put (Reg.SPK_STAT_RETRY c) 0).spkOpen c spkOff else s

/-- The timer of BACKOFF runs only while the other release conditions hold (R306). -/
def Block.spkTimer (s : Block) (c : Nat) : Block :=
  if s.spkState c != spkBackoff then s else
  match (s.spkSt c).backAt, s.spkFree c with
  | none, true => s.modSpk c (fun x => { x with backAt := some s.time.now })
  | some t, false => s.modSpk c (fun x => { x with backAt := none, backLeft := x.backLeft - (s.time.now - t) / 16 })
  | _, _ => s

/-- The channels follow their release conditions (R299, R300, R306). -/
def Block.followSpeakers (s : Block) : Block :=
  s.forAll (List.range 2) (fun c s => ((if s.spkFree c then s else s.spkStop c)).spkTimer c)

/-- Outputs and speakers follow their release conditions, after a command that may have changed one (R299, R323). -/
def Block.follow (s : Block) : Block := s.followOutputs.followSpeakers

/-- CSC_STAT.PRIV: the stage owns the privileged conversions while either channel is out of OFF, but not in SAFE (R293, R356). -/
def Block.spkOwns (s : Block) : Bool := (s.spkState 0 != spkOff || s.spkState 1 != spkOff) && s.base != modeSafe

/-! ## Sensing -/

/-- Take a pair of current (0.5 mA) and voltage (1 mV) of a channel (R293, R304, R307). -/
def Block.spkPair (s : Block) (c : Nat) (i v : Int) : Block :=
  let hold := s.checkHold c
  s.modSpk c (fun x =>
    { x with curr := none, sumVI := x.sumVI + v * i, sumII := x.sumII + i * i, pairs := x.pairs + 1,
             sumI := if hold then x.sumI + i else x.sumI, sumV := if hold then x.sumV + v else x.sumV,
             checkN := if hold then x.checkN + 1 else x.checkN })

/-- A supply result in mV (R294, R333): the mean and the minimum are those of the results of the last millisecond. -/
def Block.pvddResult (s : Block) (code : Nat) : Block :=
  let mv := code * 30000 / 65536
  let l := (s.time.now, mv) :: s.spk.pvdd.filter (fun p => s.time.now < p.1 + ticks (msTicks 1))
  let s := { s with spk := { s.spk with pvdd := l, meas := some (max 7000 mv) } }
  (s.put Reg.SPK_GLB_PVDD_MEAN (l.foldl (fun a p => a + p.2) 0 / l.length)).put Reg.SPK_GLB_PVDD_MIN (l.foldl (fun a p => min a p.2) mv)

/-- A privileged result reaches the stage (R293, R294); one taken without the reference is discarded (R348). -/
def Block.spkSense (s : Block) (ch : PrivChannel) (code : Nat) : Block :=
  if !s.on Reg.CSC_REF_RDY then s else
  let i : Int := (code : Int) - 32768
  match ch with
  | .ia => s.modSpk 0 (fun x => { x with curr := some i })
  | .ib => s.modSpk 1 (fun x => { x with curr := some i })
  | .va => match (s.spkSt 0).curr with
    | some c => s.spkPair 0 c i
    | none => s
  | .vb => match (s.spkSt 1).curr with
    | some c => s.spkPair 1 c i
    | none => s
  | .pvdd => s.pvddResult code

/-- PVDD_meas in mV (R294, R348). -/
def Block.pvddMeas (s : Block) : Nat := s.spk.meas.getD (s.f Reg.SPK_GLB_CFG_PVNOM)

/-! ## The thermal guard -/

/-- The target attenuation in dB for a coil temperature (R309). -/
def limitTarget (tc tlim : Rat) : Rat := if tc ≤ tlim - 10 then 0 else (tc - (tlim - 10)) * 6 / 5

/-- The attenuation after one update: at most 1 dB more, at most 12 dB per REL milliseconds less (R309). -/
def limitStep (att target : Rat) (rel : Nat) : Rat :=
  if att ≤ target then min target (att + 1) else max target (att - 12 / (rel : Rat))

/-- A rational as an unsigned field of `w` bits, saturating. -/
def ratField (w : Nat) (q : Rat) : Nat := (max 0 (min (2 ^ w - 1 : Int) (ratRound q))).toNat

/-- The coil-resistance estimate of R308 in ohms over the pairs: Σ(v·i) / Σ(i²); currents in 0.5 mA, voltages in 1 mV. -/
def coilOhms (sumVI sumII : Int) : Rat := 2 * (sumVI : Rat) / (sumII : Rat)

/-- The correction of R308: the new dTv, with the estimate accepted or rejected. -/
def Block.coilCorrect (s : Block) (c : Nat) (tc : Rat) : Block :=
  let x := s.spkSt c
  let n : Rat := x.pairs
  let imin : Rat := (s.f (Reg.SPK_THM_CORR_IMIN c) : Rat) / 100
  let ms : Rat := (x.sumII : Rat) / 4000000 / n
  if x.pairs = 0 || x.sumII = 0 || ms < imin * imin then s
  else
    let rm := coilOhms x.sumVI x.sumII
    let re : Rat := (s.f (Reg.SPK_THM_RE25_RE25 c) : Rat) / 1000
    if re * 4 / 5 ≤ rm && rm ≤ re * 2 then
      let est : Rat := 25 + (rm / re - 1) / (393 / 100000)
      let k : Rat := (s.f (Reg.SPK_THM_CORR_KCORR c) : Rat) / 256
      (s.put (Reg.SPK_THM_RMEAS_RM c) (ratField 16 (rm * 1000))).modSpk c (fun y => { y with dTv := y.dTv + k * (est - tc) })
    else s.bump (Reg.SPK_THM_RMEAS_REJ c)

/-- The coil temperature of the model (R307). -/
def Block.coilTemp (s : Block) (c : Nat) : Rat := (s.fInt Reg.SPK_GLB_TAMB_TAMB : Rat) + (s.spkSt c).dTv + (s.spkSt c).dTm

/-- The model's values as the registers show them (R311). -/
def Block.showTherm (s : Block) (c : Nat) : Block :=
  ((s.putInt (Reg.SPK_THM_TC_TC c) (satInt 16 (ratRound (64 * s.coilTemp c)))).put (Reg.SPK_THM_DT_DTV c) (ratField 16 (64 * (s.spkSt c).dTv))).put
    (Reg.SPK_THM_DT_DTM c) (ratField 16 (64 * (s.spkSt c).dTm))

/-- THERMAL_UPDATE (R307 to R309): once in every 48th frame; a channel that does not run updates with P = 0. -/
def Block.thermalOp (s : Block) (c : Nat) : Block :=
  let frame := s.f Reg.PWR_FRAME_FRAME
  if !s.audioOn || frame % 48 ≠ 0 || (s.spkSt c).updFrame = some frame then s else
  let st := s.spkState c
  let running := st = spkBoot || st = spkUp || st = spkRun || st = spkDn
  let x := s.spkSt c
  let p : Rat := if running && x.pairs ≠ 0 then (x.sumVI : Rat) / 2000000 / (x.pairs : Rat) else 0
  let step (t r tau : Rat) : Rat := t + (p * r / 64 - t) / tau
  let dTv := step x.dTv (s.f (Reg.SPK_THM_RT_RTV c)) (100 * (s.f (Reg.SPK_THM_TAU_TAUV c) : Rat))
  let dTm := step x.dTm (s.f (Reg.SPK_THM_RT_RTM c)) (1000 * (s.f (Reg.SPK_THM_TAU_TAUM c) : Rat))
  let s := s.modSpk c (fun y => { y with dTv := dTv, dTm := dTm, updFrame := some frame, updAt := s.time.now })
  let s := if running then (s.put (Reg.SPK_THM_P_P c) (ratField 16 (256 * p))).coilCorrect c (s.coilTemp c) else s.put (Reg.SPK_THM_P_P c) 0
  let s := s.modSpk c (fun y => { y with sumVI := 0, sumII := 0, pairs := 0 })
  let tc := s.coilTemp c
  let tlim : Rat := s.f (Reg.SPK_THM_LIM_TLIM c)
  let att := limitStep x.att (limitTarget tc tlim) (s.f (Reg.SPK_THM_LIM_REL c))
  let s := (s.onlyIf (x.att = 0 && 0 < att) (fun s => s.raise (Reg.SPK_EVT_LIMON c))).modSpk c (fun y => { y with attFrom := y.att, att := att })
  let s := ((s.put (Reg.SPK_THM_GAIN_ATT c) (ratField 8 (4 * att))).putB (Reg.SPK_STAT_LIMACT c) (0 < att)).showTherm c
  let s := if tlim + 10 < tc && !x.hot then
      ((s.raise (Reg.SPK_EVT_THERM c)).record 0x22 5 c (s.word (Reg.SPK_THM_TC c)) []).modSpk c (fun y => { y with hot := true })
    else if tc < tlim - 20 then s.modSpk c (fun y => { y with hot := false }) else s
  s.follow

/-- A host write of SPK_THM_DT (R310): taken only in OFF. -/
def Block.thermWrite (s : Block) (c dtv dtm : Nat) : Block :=
  if s.spkState c != spkOff then s
  else (s.modSpk c (fun x => { x with dTv := (dtv : Rat) / 64, dTm := (dtm : Rat) / 64 })).showTherm c

/-- The limiter gain now, moving linearly across the millisecond after an update (R309). -/
def Block.limiterGain (s : Block) (c : Nat) : Rat :=
  let x := s.spkSt c
  let a := pow10Q (-x.attFrom / 20)
  let b := pow10Q (-x.att / 20)
  let k : Rat := min 12288 ((s.time.now - x.updAt) / 16 : Nat)
  if x.attFrom = 0 && x.att = 0 then 1 else a + (b - a) * k / 12288

/-! ## The commands -/

/-- SPK_RELEASE (R298). -/
def execSpkRelease (c : Nat) (s : State) : Host.Outcome State Fault Refusal := s.act (c < 2) (fun b => b.spkReleaseOp c)

/-- SPK_SWITCH_START (R298). -/
def execSpkSwitchStart (c : Nat) (s : State) : Host.Outcome State Fault Refusal := s.act (c < 2) (fun b => b.spkSwitchOp c)

/-- SPK_RAMPUP_START (R298). -/
def execSpkRampupStart (c : Nat) (s : State) : Host.Outcome State Fault Refusal := s.act (c < 2) (fun b => b.spkRampupOp c)

/-- SPK_RUN (R298). -/
def execSpkRun (c : Nat) (s : State) : Host.Outcome State Fault Refusal := s.act (c < 2) (fun b => b.spkRunOp c)

/-- SPK_HOLD (R299). -/
def execSpkHold (c : Nat) (s : State) : Host.Outcome State Fault Refusal := s.act (c < 2) (fun b => b.spkHoldOp c)

/-- SPK_OFF (R299). -/
def execSpkOff (c : Nat) (s : State) : Host.Outcome State Fault Refusal := s.act (c < 2) (fun b => b.spkOffOp c)

/-- CURRENT_LIMIT (R302). -/
def execCurrentLimit (c : Nat) (s : State) : Host.Outcome State Fault Refusal := s.act (c < 2) (fun b => b.currentLimitOp c)

/-- HARD_SHORT (R302). -/
def execHardShort (c : Nat) (s : State) : Host.Outcome State Fault Refusal := s.act (c < 2) (fun b => b.hardShortOp c)

/-- LOAD_CHECK (R304). -/
def execLoadCheck (c : Nat) (s : State) : Host.Outcome State Fault Refusal := s.act (c < 2) (fun b => b.loadCheckOp c)

/-- LOAD_CHECK_END (R304). -/
def execLoadCheckEnd (c : Nat) (s : State) : Host.Outcome State Fault Refusal := s.act (c < 2) (fun b => b.loadCheckEndOp c)

/-- RETRY_CLEAR (R305). -/
def execRetryClear (c : Nat) (s : State) : Host.Outcome State Fault Refusal := s.act (c < 2) (fun b => b.retryClearOp c)

/-- SPK_CLR (R305). -/
def execSpkClr (c : Nat) (s : State) : Host.Outcome State Fault Refusal := s.hostWrite (c < 2) (fun b => b.spkClrOp c)

/-- CHECK (R306). -/
def execCheck (c : Nat) (s : State) : Host.Outcome State Fault Refusal := s.hostWrite (c < 2) (fun b => b.checkOp c)

/-- THERMAL_UPDATE (R307). -/
def execThermalUpdate (c : Nat) (s : State) : Host.Outcome State Fault Refusal := s.act (c < 2) (fun b => b.thermalOp c)

/-- POWER_DIE_OVERTEMP (R580). -/
def execPowerDieOvertemp (s : State) : Host.Outcome State Fault Refusal := s.act true (fun b => b.dieOvertempOp)

end Sys2Proof.Machine
end

