-- ==== Sys2Proof/Machine/Jacks.lean ====
section
/-! DEFINITION. Jacks: sampling and debounce (R312 to R316), identification (R317 to R319), removal (R320, R321). -/

namespace Sys2Proof.Machine

/-- STATE codes of R315. -/
def jackEmpty : Nat := 0
/-- PENDING. -/
def jackPending : Nat := 1
/-- UNKNOWN. -/
def jackUnknown : Nat := 8

/-- The hidden record of a jack. -/
def Block.jack (s : Block) (n : Nat) : JackSt := Tab.get (fun _ => {}) s.ports.jacks n

/-- Change the hidden record of a jack. -/
def Block.modJack (s : Block) (n : Nat) (h : JackSt → JackSt) : Block :=
  { s with ports := { s.ports with jacks := Tab.upd (fun _ => {}) s.ports.jacks n h } }

/-- STATE of a jack. -/
def Block.jackState (s : Block) (n : Nat) : Nat := s.f (Reg.JACK_STAT_STATE n)

/-- Enter a jack state (R315). -/
def Block.setJack (s : Block) (n st : Nat) : Block := s.put (Reg.JACK_STAT_STATE n) st

/-- What a comparator's verdict means for a jack: a plug below the threshold, or above it where POL is 1 (R312). -/
def Block.plugAt (s : Block) (n : Nat) (below : Bool) : Bool := below != s.on (Reg.JACK_AON_POL.bit n)

/-- Modes with wake sources: jacks are sampled by the slow clock and no identification runs (R313, R531). -/
def Block.sleeping (s : Block) : Bool := s.base == modeDormant || s.base == modeRest || s.base == modeListen

/-- Milliseconds between two samples: 1024 slow-clock periods count as 128 ms (R313). -/
def Block.jackStep (s : Block) : Nat := if s.base = modeDormant || s.base = modeRest then 128 else 1

/-- Abort a running identification: the source goes off, the partial measurements are discarded (R321). -/
def Block.abortIdent (s : Block) (n : Nat) : Block :=
  if (s.jack n).idAt.isNone then s else
  ((s.put (Reg.JACK_STAT_IDRUN n) 0).raise (Reg.JACK_EVT_ABORT.bit n)).modJack n (fun x => { x with idAt := none, step := 0 })

/-- Whether this sample makes the wake event of R313: the second in a row that shows a change, on a jack with its WAKE bit. -/
def Block.jackWakes (s : Block) (n : Nat) (below : Bool) : Bool :=
  s.sleeping && s.on (Reg.JACK_CFG_EN n) && s.on (Reg.JACK_AON_WAKE.bit n) && (s.jack n).seen && (s.jack n).wakeN == 1 &&
    (s.plugAt n below == (s.jack n).reading)

/-- A sample of a jack pin (R312 to R316): the record of the reading, the abort of an identification by an absent one, PENDING at once on a
sample that differs from the debounced reading. While the device sleeps, `wakeN` notes that the sample is the first of a change (R313). -/
def Block.jackSampleOp (s : Block) (n : Nat) (below : Bool) : Block :=
  if !s.on (Reg.JACK_CFG_EN n) || s.base = modeOff then s else
  let r := s.plugAt n below
  let x := s.jack n
  let changed := !x.seen || r != x.reading
  let s := (s.putB (Reg.JACK_STAT_PRES n) r).modJack n (fun x =>
    { x with reading := r, seen := true, same := if changed then 0 else x.same + s.jackStep, again := if r then x.again else none,
             wakeN := if s.sleeping && x.seen && changed && x.wakeN == 0 then 1 else 0 })
  let s := if r then s else s.abortIdent n
  let s := if r != (s.jack n).deb && s.jackState n != jackPending then
      (s.setJack n jackPending).modJack n (fun x => { x with again := none }) else s
  s.follow

/-- Start an identification (R317). -/
def Block.startIdent (s : Block) (n : Nat) (second : Bool) : Block :=
  ((s.setJack n jackPending).raise (Reg.JACK_STAT_IDRUN n)).modJack n (fun x =>
    { x with idAt := some s.time.now, again := none, second := second, step := 0, v0 := 0, n0 := 0, vm := 0, nm := 0, vd := 0, nd := 0,
             zac := 0xFFFF })

/-- JACK_DEBOUNCED (R314, R316): the reading has stayed unchanged for 16 × 2^DEB ms. The identification needs the control-sense converter, so
it starts only in its modes (R356). -/
def Block.jackDebouncedOp (s : Block) (n : Nat) : Block :=
  let x := s.jack n
  if s.on (Reg.JACK_CFG_EN n) && s.jackState n = jackPending && x.idAt.isNone && x.again.isNone && x.seen &&
     16 * 2 ^ s.f (Reg.JACK_CFG_DEB n) ≤ x.same then
    if x.reading then
      if s.audioOn then (s.modJack n (fun y => { y with deb := true })).startIdent n false else s
    else (((s.modJack n (fun y => { y with deb := false })).setJack n jackEmpty).raise (Reg.JACK_EVT_CHG.bit n)).follow
  else s

/-- The mean of a sum of codes in volts (R333). -/
def senseVolts (sum n : Nat) : Rat := (sum : Rat) / (n : Rat) * 5 / 2 / 65536

/-- The next identification conversion of a jack: the core cycle at which it is due. V0 and Vdc take 256 over 2 ms, Vmid 32 centred on
2.5 ms, all 96 ticks apart (R317). -/
def Block.identDue (s : Block) (n : Nat) : Option Nat :=
  let x := s.jack n
  match x.idAt with
  | none => none
  | some t =>
    if x.step = 0 then (if x.n0 < 256 then some (t + ticks (96 * x.n0)) else none)
    else if x.step = 1 then (if x.nm < 32 then some (t + ticks (29184 + 96 * x.nm)) else none)
    else if x.step = 2 then (if x.nd < 256 then some (t + ticks (73728 + 96 * x.nd)) else none)
    else none

/-- An identification conversion reaches the jack logic (R317, R334). -/
def Block.identResult (s : Block) (n code : Nat) : Block :=
  s.modJack n (fun x =>
    if x.step = 0 then { x with v0 := x.v0 + code, n0 := x.n0 + 1 }
    else if x.step = 1 then { x with vm := x.vm + code, nm := x.nm + 1 }
    else if x.step = 2 then { x with vd := x.vd + code, nd := x.nd + 1 } else x)

/-- The DC reading reached the 2.0 V compliance (R317). -/
def Block.atCompliance (s : Block) (n : Nat) : Bool := 2 ≤ senseVolts (s.jack n).vd (s.jack n).nd

/-- A measurement with no conversion at all: the spec states no mean, so its sum is a free code. -/
def Block.orFree (s : Block) (n : Nat) (none' : Bool) (h : Nat → JackSt → JackSt) : Block :=
  if none' then (s.modJack n (h (s.free % 65536))).used else s

/-- IDENTIFICATION_STEP (R317): a measurement of the table ends; the last one, at 10.0 ms, only where Vdc reached the compliance. -/
def Block.identStepOp (s : Block) (n zac : Nat) : Block :=
  let x := s.jack n
  match x.idAt with
  | none => s
  | some t =>
    if x.step = 0 && s.reached (t + ticks 24576) then
      (s.orFree n (x.n0 = 0) (fun c y => { y with v0 := c, n0 := 1 })).modJack n (fun y => { y with step := 1 })
    else if x.step = 1 && s.reached (t + ticks 36864) then
      (s.orFree n (x.nm = 0) (fun c y => { y with vm := c, nm := 1 })).modJack n (fun y => { y with step := 2 })
    else if x.step = 2 && s.reached (t + ticks 98304) then
      (s.orFree n (x.nd = 0) (fun c y => { y with vd := c, nd := 1 })).modJack n (fun y => { y with step := 3 })
    else if x.step = 3 && s.atCompliance n && s.reached (t + ticks 122880) then s.modJack n (fun y => { y with step := 4, zac := zac })
    else s

/-- The resistance in ohms and the inductance in henries of a measurement (R317). -/
def Block.identRL (s : Block) (n : Nat) : Rat × Rat :=
  let x := s.jack n
  let v0 := senseVolts x.v0 x.n0
  let dv := senseVolts x.vd x.nd - v0
  (dv * 100000, (senseVolts x.vm x.nm - v0 - dv / 2) * 100)

/-- The class of the first matching row of R318; Zac in units of 10 Ω. -/
def jackClass (r l : Rat) (compliance : Bool) (zac : Nat) : Nat :=
  if r < 3 then 3
  else if 8 ≤ r && r ≤ 600 then 4
  else if 3000 ≤ r && r ≤ 20000 && 1 / 2 ≤ l then 7
  else if 5000 ≤ r && r ≤ 100000 && l < 1 / 2 then 5
  else if compliance && 100 ≤ zac && zac ≤ 20000 then 6
  else if compliance && 20000 < zac then 2
  else jackUnknown

/-- IDENTIFICATION_END (R318, R319): the class is decided; a first UNKNOWN keeps the jack PENDING for a second try 100 ms later. -/
def Block.identEndOp (s : Block) (n : Nat) : Block :=
  let x := s.jack n
  let comp := s.atCompliance n
  if x.idAt.isSome && ((x.step = 3 && !comp) || x.step = 4) then
    let rl := s.identRL n
    let cls := jackClass rl.1 rl.2 comp x.zac
    let s := (s.put (Reg.JACK_ID_R n) (if comp then 0x1FFFFF else ratField 21 (10 * rl.1))).put (Reg.JACK_IDL_L n) (ratField 16 (100 * rl.2))
    let s := (s.put (Reg.JACK_IDL_ZAC n) (min x.zac 0xFFFF)).put (Reg.JACK_STAT_IDRUN n) 0
    let s := s.modJack n (fun y => { y with idAt := none, step := 0 })
    if cls = jackUnknown && !x.second then s.modJack n (fun y => { y with again := some (s.after (msTicks 100)) })
    else
      let s := (s.setJack n cls).raise (Reg.JACK_EVT_CHG.bit n)
      (s.onlyIf (cls = jackUnknown) (fun s => s.raise (Reg.JACK_EVT_UNK.bit n))).follow
  else s

/-- REIDENTIFY (R319): the second identification, 100 ms after a first UNKNOWN. -/
def Block.reidentifyOp (s : Block) (n : Nat) : Block :=
  match (s.jack n).again with
  | none => s
  | some t => if s.reached t && s.audioOn then s.startIdent n true else s

/-- REID (R319): a host request on a jack that is neither EMPTY nor PENDING. -/
def Block.reidOp (s : Block) (n : Nat) : Block :=
  if s.jackState n = jackEmpty || s.jackState n = jackPending then s
  else (if s.audioOn then s.startIdent n false else s.setJack n jackPending).follow

/-- The outputs that depend on a jack (R322). -/
def Block.jackOutputs (s : Block) (n : Nat) : List Nat :=
  (List.range 18).filter (fun o => s.on (Reg.JACK_OUTMAP_USE o) && s.f (Reg.JACK_OUTMAP_JACK o) == n)

/-- JACK_REMOVAL (R320, R321, R329): an absent reading has lasted 2048 ticks. The jack is PENDING at once and debounces from the sample that shows
the absence, its outputs that are not silent mute, an identification aborts, and speakers that depend on it stop. -/
def Block.jackRemovalOp (s : Block) (n : Nat) : Block :=
  if !s.on (Reg.JACK_CFG_EN n) || s.sleeping || s.jackState n = jackEmpty then s else
  let s := s.abortIdent n
  let s := (s.setJack n jackPending).modJack n (fun x =>
    { x with again := none, reading := false, seen := x.seen && !x.reading, same := if x.reading then 0 else x.same })
  let s := s.forAll (s.jackOutputs n) (fun o s => s.removalMute o)
  s.follow

/-! ## The commands -/

/-- JACK_DEBOUNCED (R316). -/
def execJackDebounced (n : Nat) (s : State) : Host.Outcome State Fault Refusal := s.act (n < 8) (fun b => b.jackDebouncedOp n)

/-- IDENTIFICATION_STEP (R317). -/
def execIdentificationStep (n zac : Nat) (s : State) : Host.Outcome State Fault Refusal := s.act (n < 8) (fun b => b.identStepOp n zac)

/-- IDENTIFICATION_END (R318). -/
def execIdentificationEnd (n : Nat) (s : State) : Host.Outcome State Fault Refusal := s.act (n < 8) (fun b => b.identEndOp n)

/-- JACK_REMOVAL (R320). -/
def execJackRemoval (n : Nat) (s : State) : Host.Outcome State Fault Refusal := s.act (n < 8) (fun b => b.jackRemovalOp n)

/-- REIDENTIFY (R319). -/
def execReidentify (n : Nat) (s : State) : Host.Outcome State Fault Refusal := s.act (n < 8) (fun b => b.reidentifyOp n)

/-- REID (R319). -/
def execReid (n : Nat) (s : State) : Host.Outcome State Fault Refusal := s.hostWrite (n < 8) (fun b => b.reidOp n)

end Sys2Proof.Machine
end

