-- ==== Sys2Proof/Machine/Csc.lean ====
section
/-! DEFINITION. The control-sense converter (R331 to R358): triggers, runs, ranks and aborts, accumulators, snapshots, window comparators, timers
and the reference. Sequence 0 is A, 1 is B, 2 injected; unit 0 is A, 1 is B. -/

namespace Sys2Proof.Machine

/-- The hidden record of a unit. -/
def Block.cscUnit (s : Block) (u : Nat) : CscUnit := Tab.get (fun _ => {}) s.csc.units u

/-- Change the hidden record of a unit. -/
def Block.modUnit (s : Block) (u : Nat) (h : CscUnit → CscUnit) : Block :=
  { s with csc := { s.csc with units := Tab.upd (fun _ => {}) s.csc.units u h } }

/-- An accumulator. -/
def Block.cscAcc (s : Block) (a : Nat) : CscAcc := Tab.get (fun _ => {}) s.csc.accs a

/-- Change an accumulator. -/
def Block.modAcc (s : Block) (a : Nat) (h : CscAcc → CscAcc) : Block :=
  { s with csc := { s.csc with accs := Tab.upd (fun _ => {}) s.csc.accs a h } }

/-- A timer. -/
def Block.cscTmr (s : Block) (t : Nat) : CscTimer := Tab.get (fun _ => {}) s.csc.timers t

/-- Change a timer. -/
def Block.modTmr (s : Block) (t : Nat) (h : CscTimer → CscTimer) : Block :=
  { s with csc := { s.csc with timers := Tab.upd (fun _ => {}) s.csc.timers t h } }

/-- The status, event and count fields of a sequence (R358). -/
def runBit (q : Nat) : Fld := if q = 0 then Reg.CSC_STAT_RUNA else if q = 1 then Reg.CSC_STAT_RUNB else Reg.CSC_STAT_RUNI
/-- DONE of a sequence. -/
def doneBit (q : Nat) : Fld := if q = 0 then Reg.CSC_EVT_DONEA else if q = 1 then Reg.CSC_EVT_DONEB else Reg.CSC_EVT_DONEI
/-- OVR of a sequence. -/
def ovrBit (q : Nat) : Fld := if q = 0 then Reg.CSC_EVT_OVRA else if q = 1 then Reg.CSC_EVT_OVRB else Reg.CSC_EVT_OVRI
/-- Dropped triggers of a sequence. -/
def ovrCnt (q : Nat) : Fld := if q = 0 then Reg.CSC_OVRCNT_A else if q = 1 then Reg.CSC_OVRCNT_B else Reg.CSC_OVRCNT_I

/-! ## Conversions -/

/-- Whether the first entry of a todo list begins and makes its discards: it is the first of the run, or comes after another channel (R336). -/
def CscTodo.discards (t : CscTodo) (lastCh : Option Nat) : Bool :=
  match t.items, t.disc with
  | it :: _, none => t.first || lastCh != some it.ch
  | _, _ => false

/-- A todo list whose first entry begins, with its discards or without (R336). -/
def CscTodo.beginItem (t : CscTodo) (discard : Bool) : CscTodo :=
  match t.items, t.disc with
  | it :: _, none => { t with disc := some (if discard then it.disc else 0), first := false }
  | _, _ => t

/-- The jack whose identification conversion is due by a core cycle, the earliest first (R317, R341). -/
def Block.identWaiting (s : Block) (at' : Nat) : Option Nat :=
  let due (n : Nat) : Nat := (s.identDue n).getD (at' + 1)
  (List.range 8).foldl (fun b n => if at' < due n then b else
    match b with
    | some m => if due n < due m then some n else b
    | none => some n) none

/-- Start a conversion of a regular or injected entry on a free unit. -/
def Block.startItem (s : Block) (u : Nat) (work : CscWork) (at' : Nat) (discard : Bool) : Block :=
  let x := s.cscUnit u
  let t := (if work = .injected then x.injected else x.regular).beginItem discard
  match t.items with
  | [] => s
  | it :: _ =>
    let c : CscConv := ⟨work, it.ch, at', at' + t.need, s.on Reg.CSC_REF_RDY⟩
    s.modUnit u (fun y => if work = .injected then { y with busy := some c, injected := t } else { y with busy := some c, regular := t })

/-- A free unit with nothing of rank 2 or 3 waiting (R341). -/
def Block.freeForRegular (s : Block) (u at' : Nat) : Bool :=
  let x := s.cscUnit u
  x.busy.isNone && x.injected.items.isEmpty && !(u == 1 && (s.identWaiting at').isSome) && !x.regular.items.isEmpty

/-- A free unit starts the highest-ranked conversion that waits for it (R341); a pair of a simultaneous run starts together and makes the discards
that either entry needs (R340). -/
def Block.startUnit (s : Block) (u at' : Nat) : Block :=
  let x := s.cscUnit u
  if x.busy.isSome || !s.audioOn then s else
  let b := max at' x.freeAt
  match (if u = 1 then s.identWaiting b else none) with
  | some n =>
    s.modUnit u (fun y => { y with idNeed := 192, busy := some ⟨.ident n, s.f (Reg.JACK_CFG_IDPIN n), b, b + y.idNeed, s.on Reg.CSC_REF_RDY⟩ })
  | none =>
    if !x.injected.items.isEmpty then s.startItem u .injected (max b x.injected.ready) (x.injected.discards x.lastCh)
    else if x.regular.items.isEmpty then s
    else if s.csc.simul then
      let y := s.cscUnit (1 - u)
      let b := max (max b y.freeAt) x.regular.ready
      let discard := x.regular.discards x.lastCh || y.regular.discards y.lastCh
      if s.freeForRegular 0 b && s.freeForRegular 1 b then (s.startItem 0 .regular b discard).startItem 1 .regular b discard else s
    else s.startItem u .regular (max b x.regular.ready) (x.regular.discards x.lastCh)

/-- A conversion that has not started by a core cycle waits again: one of higher rank may have come meanwhile (R341). -/
def Block.replan (s : Block) (at' : Nat) : Block :=
  s.forAll [0, 1] (fun u s =>
    match (s.cscUnit u).busy with
    | some c =>
      if c.start < at' then s
      else s.modUnit u (fun y => { y with busy := none, idNeed := match c.work with
        | .ident _ => c.due - c.start
        | _ => y.idNeed })
    | none => s)

/-- Let both units start what waits. -/
def Block.startUnits (s : Block) (at' : Nat) : Block := ((s.replan at').startUnit 0 at').startUnit 1 at'

/-- Abort the conversion that runs on a unit at core cycle t (R343, R345): one in its last cycle completes. The approximation is its last 144
cycles. -/
def Block.abortConv (s : Block) (u t : Nat) : Block :=
  let x := s.cscUnit u
  match x.busy with
  | none => s
  | some c =>
    if t < c.start || c.due ≤ t + 1 then s else
    let need := if t + 144 < c.due then 192 else 144
    let s := s.modUnit u (fun y => match c.work with
      | .regular => { y with busy := none, regular := { y.regular with need := need } }
      | .injected => { y with busy := none, injected := { y.injected with need := need } }
      | .ident _ => { y with busy := none, idNeed := need })
    s.bump (if u = 0 then Reg.CSC_PRIVCNT_A else Reg.CSC_PRIVCNT_B)

/-- A privileged conversion takes a unit for 192 cycles from t: it aborts what runs there, and the partner of a simultaneous pair (R340,
R343). -/
def Block.privilege (s : Block) (u t : Nat) : Block :=
  let paired : Bool := s.csc.simul && match (s.cscUnit u).busy with
    | some c => c.work == .regular && decide (t + 1 < c.due)
    | none => false
  let s := s.abortConv u t
  let s := if paired then s.abortConv (1 - u) t else s
  let s := s.modUnit u (fun y => { y with freeAt := max y.freeAt (t + 192) })
  s.startUnits t

/-! ## Accumulators and comparators -/

/-- Whether a channel is the IDPIN of a jack whose identification runs (R319, R347). -/
def Block.idBusy (s : Block) (ch : Nat) : Bool := (List.range 8).any (fun n => (s.jack n).idAt.isSome && s.f (Reg.JACK_CFG_IDPIN n) == ch)

/-- A kept code enters its accumulator at a core cycle, unless it is FULL (R349, R350). -/
def CscAcc.add (a : CscAcc) (lim cycle code : Nat) : CscAcc :=
  let a := { a with last := some ⟨cycle, code, a.sum, a.count, a.min, a.max⟩ }
  if 2 ^ (Nat.min lim 10) ≤ a.count then a
  else { a with sum := a.sum + code, count := a.count + 1, min := Nat.min a.min code, max := Nat.max a.max code }

/-- What a snapshot at a core cycle that clears leaves out of an accumulator: a code kept in that same cycle (R353). -/
def CscAcc.before (a : CscAcc) (cycle : Nat) : CscAcc :=
  match a.last with
  | some p => if p.cycle = cycle then { a with sum := p.sum, count := p.count, min := p.min, max := p.max } else a
  | none => a

/-- A cleared accumulator, with the code that it kept in the cycle of the clear (R349, R353). -/
def CscAcc.cleared (a : CscAcc) (lim cycle : Nat) : CscAcc :=
  match a.last with
  | some p => if p.cycle = cycle then ({} : CscAcc).add lim cycle p.code else {}
  | none => {}

/-- Copy values of an accumulator into its snapshot registers (R351). -/
def Block.snapCopy (s : Block) (a : Nat) (x : CscAcc) : Block :=
  let full := 2 ^ min 10 (s.f (Reg.CSC_ACC_CFG_LIM a)) ≤ x.count
  let s := (s.put (Reg.CSC_SNAP_SUM_SUM a) x.sum).put (Reg.CSC_SNAP_CNT_COUNT a) x.count
  let s := ((s.putB (Reg.CSC_SNAP_CNT_FULL a) full).putB (Reg.CSC_SNAP_CNT_REFX a) x.refx).put (Reg.CSC_SNAP_CNT_UNS a) x.uns
  (s.put (Reg.CSC_SNAP_MM_MIN a) x.min).put (Reg.CSC_SNAP_MM_MAX a) x.max

/-- A comparator takes a kept code: the mean of the last 2^AVG, and its test (R354, R355). -/
def Block.compare (s : Block) (c code : Nat) : Block :=
  let n := 2 ^ min 4 (s.f (Reg.CSC_WC_CFG_AVG c))
  let hist := (code :: Tab.get (fun _ => []) s.csc.hists c).take n
  let s := { s with csc := { s.csc with hists := Tab.set (fun _ => []) s.csc.hists c hist } }
  if hist.length < n then s else
  let v := hist.foldl (· + ·) 0 / n
  if s.f (Reg.CSC_WC_BAND_LO c) ≤ v && v ≤ s.f (Reg.CSC_WC_BAND_HI c) then s else
  let s := (s.put (Reg.CSC_WC_VAL_VAL c) v).raise (Reg.CSC_WC_EVT_OUT.bit c)
  if s.on (Reg.CSC_WC_CFG_MODE c) then
    let h := s.f (Reg.CSC_WC_CFG_HALF c)
    (s.put (Reg.CSC_WC_BAND_LO c) (v - h)).put (Reg.CSC_WC_BAND_HI c) (min 65535 (v + h))
  else s.put (Reg.CSC_WC_CFG_EN c) 0

/-- A conversion of an entry that completes at a core cycle reaches its accumulator and comparators, or is counted as unsettled (R334, R347). In the
cycle of a snapshot that does not clear it is counted there too (R353). -/
def Block.cscKeep (s : Block) (a ch cycle code : Nat) (discard rdy : Bool) : Block :=
  if discard || !rdy || s.idBusy ch then
    let s := s.modAcc a (fun x => { x with uns := min 65535 (x.uns + 1), refx := x.refx || !rdy })
    if rdy then s else s.raise Reg.CSC_EVT_REFNR
  else
    let s := s.modAcc a (fun x => x.add (s.f (Reg.CSC_ACC_CFG_LIM a)) cycle code)
    let s := s.onlyIf (s.csc.snap.any (fun p => p.1 == cycle && p.2.contains a)) (fun s => s.snapCopy a (s.cscAcc a))
    s.forAll ((List.range 16).filter (fun c => s.on (Reg.CSC_WC_CFG_EN c) && s.f (Reg.CSC_WC_CFG_ACC c) == a)) (fun c s => s.compare c code)

/-- The first entry of a list has had one conversion: a discard is used up, or the entry is done (R336). -/
def CscTodo.advance (t : CscTodo) : CscTodo :=
  match t.disc with
  | some (d + 1) => { t with disc := some d, need := 192 }
  | _ => { t with items := t.items.drop 1, disc := none, need := 192 }

/-- End the runs that have no entry left (R337, R346). -/
def Block.endRuns (s : Block) : Block :=
  let left (q : Nat) : Bool :=
    if q < 2 then (s.cscUnit q).regular.items.isEmpty else (s.cscUnit 0).injected.items.isEmpty && (s.cscUnit 1).injected.items.isEmpty
  s.forAll [0, 1, 2] (fun q s => if s.on (runBit q) && left q then (s.put (runBit q) 0).raise (doneBit q) else s)

/-- CSC_CONVERSION (R331, R334, R336): the conversion that runs on a unit completes and reaches its consumer; the unit starts the next. -/
def Block.conversionOp (s : Block) (u code : Nat) : Block :=
  let x := s.cscUnit u
  match x.busy with
  | none => s
  | some c =>
    if !s.reached c.due then s else
    let s := s.modUnit u (fun y => { y with busy := none, freeAt := max y.freeAt c.due, lastCh := some c.ch })
    let s := match c.work with
      | .ident n => s.identResult n code
      | .regular =>
        match x.regular.items with
        | it :: _ =>
          (s.cscKeep it.acc it.ch c.due code (x.regular.disc.getD 0 != 0) c.rdy).modUnit u (fun y => { y with regular := y.regular.advance })
        | [] => s
      | .injected =>
        match x.injected.items with
        | it :: _ =>
          (s.cscKeep it.acc it.ch c.due code (x.injected.disc.getD 0 != 0) c.rdy).modUnit u (fun y => { y with injected := y.injected.advance })
        | [] => s
    s.endRuns.startUnits c.due

/-! ## Triggers -/

/-- The regular entries from `k` on (R335). -/
def Block.regularItems (s : Block) (k n : Nat) : List CscItem :=
  (List.range n).map (fun i => ⟨k + i, s.f (Reg.CSC_RENT_CH (k + i)), s.f (Reg.CSC_RENT_DISC (k + i))⟩)

/-- The enabled injected entries of a unit (R337). -/
def Block.injectedItems (s : Block) (u : Nat) : List CscItem :=
  ((List.range 4).filter (fun j => s.on (Reg.CSC_IENT_EN j) && s.f (Reg.CSC_IENT_UNIT j) == u)).map
    (fun j => ⟨32 + j, s.f (Reg.CSC_IENT_CH j), s.f (Reg.CSC_IENT_DISC j)⟩)

/-- Give both lists of a simultaneous run the larger of each pair of discard counts (R340). -/
def pairDisc (a b : List CscItem) : List CscItem := a.zipWith (fun x y => { x with disc := max x.disc y.disc }) b

/-- Start a run of a sequence at core cycle t (R335 to R337, R340). -/
def Block.startRun (s : Block) (q t : Nat) : Block :=
  let na := s.f Reg.CSC_RSEQ_NA
  let nb := s.f Reg.CSC_RSEQ_NB
  let load (s : Block) (u : Nat) (l : List CscItem) : Block :=
    (s.modUnit u (fun y => { y with regular := { items := l, ready := t } })).onlyIf (!l.isEmpty) (fun s => s.raise (runBit u))
  let s :=
    if q = 2 then
      let s := s.forAll [0, 1] (fun u s => s.modUnit u (fun y => { y with injected := { items := s.injectedItems u, ready := t } }))
      s.onlyIf ([0, 1].any (fun u => !(s.cscUnit u).injected.items.isEmpty)) (fun s => s.raise Reg.CSC_STAT_RUNI)
    else if s.on Reg.CSC_RSEQ_SIMUL then
      let a := s.regularItems 0 na
      let b := s.regularItems na nb
      load (load { s with csc := { s.csc with simul := true } } 0 (pairDisc a b)) 1 (pairDisc b a)
    else
      let s := { s with csc := { s.csc with simul := false } }
      if q = 0 then load s 0 (s.regularItems 0 na) else load s 1 (s.regularItems na nb)
  s.startUnits t

/-- Whether a trigger at core cycle t falls in the final cycle of the sequence's run: it starts the next run once that conversion has
reached its consumer (R346). -/
def Block.inLastCycle (s : Block) (q t : Nat) : Bool :=
  let last (u : Nat) : Bool :=
    let x := s.cscUnit u
    let todo := if q = 2 then x.injected else x.regular
    match x.busy with
    | some c => decide (todo.items.length = 1) && todo.disc == some 0 && decide (c.due ≤ t + 1) && decide (c.work = if q = 2 then .injected else .regular)
    | none => false
  if q = 2 then ([0, 1].filter (fun u => !(s.cscUnit u).injected.items.isEmpty)).all last else last q

/-- The sequences that a trigger of a sequence starts: with SIMUL, B takes the trigger of A (R340). -/
def Block.triggered (s : Block) (q : Nat) : List Nat :=
  if !s.on Reg.CSC_RSEQ_SIMUL || q = 2 then [q] else if q = 0 then [0, 1] else []

/-- SEQUENCE_TRIGGER (R338, R340, R346): a trigger whose delay has passed takes effect: it starts a run, or is dropped while the sequence
runs, or is refused for SIMUL with unequal lengths. A trigger of both sequences is dropped while either runs. -/
def Block.triggerOp (s : Block) (q : Nat) : Block :=
  match s.csc.trigs.find? (fun p => p.1 == q && decide (p.2 ≤ s.time.now)) with
  | none => s
  | some p =>
    let running := (s.triggered q).filter (fun k => s.on (runBit k))
    if s.audioOn && !running.isEmpty && running.all (fun k => s.inLastCycle k p.2) then s else
    let s := { s with csc := { s.csc with trigs := s.csc.trigs.erase p } }
    if !s.audioOn || (s.triggered q).isEmpty then s
    else if q = 0 && s.on Reg.CSC_RSEQ_SIMUL && s.f Reg.CSC_RSEQ_NA != s.f Reg.CSC_RSEQ_NB then s.raise Reg.CSC_EVT_CFGERR
    else if !running.isEmpty then s.forAll running (fun k s => (s.bump (ovrCnt k)).raise (ovrBit k))
    else s.startRun q p.2

/-- An event that a sequence's TRG register selects has come at core cycle t: the trigger takes effect DLY cycles later (R338). -/
def Block.fireAt (s : Block) (q t : Nat) : Block :=
  { s with csc := { s.csc with trigs := s.csc.trigs ++ [(q, t + s.f (Reg.CSC_TRG_DLY q))] } }

/-- CSC_START (R338): software triggers of the sequences whose SRC is 1. -/
def Block.cscStartOp (s : Block) (mask : Nat) : Block :=
  s.forAll [0, 1, 2] (fun q s => if mask / 2 ^ q % 2 = 1 && s.f (Reg.CSC_TRG_SRC q) = 1 then s.fireAt q s.time.now else s)

/-- Core cycles of `n` microsecond steps from a fractional count, and the count after them (R339). -/
def usSteps (frac n : Nat) : Nat × Nat := (196 * n + (frac + 76 * n) / 125, (frac + 76 * n) % 125)

/-- Start a timer from zero (R339). -/
def Block.startTimer (s : Block) (t : Nat) : Block :=
  let u := usSteps 0 (s.f (Reg.CSC_TMR_PER t) + 1)
  s.modTmr t (fun _ => ⟨s.time.now + u.1, u.2⟩)

/-- CSC_TIMER (R338, R339): a timer expires. -/
def Block.cscTimerOp (s : Block) (t : Nat) : Block :=
  let x := s.cscTmr t
  if !s.on (Reg.CSC_TMR_EN t) || !s.reached x.due then s else
  let u := usSteps x.frac (s.f (Reg.CSC_TMR_PER t) + 1)
  let s := s.modTmr t (fun _ => ⟨x.due + u.1, u.2⟩)
  s.forAll [0, 1, 2] (fun q s => if s.f (Reg.CSC_TRG_SRC q) = 2 && s.f (Reg.CSC_TRG_TMR q) = t then s.fireAt q x.due else s)

/-- An event of source `src` counts towards the dividers of the sequences that name it (R338). -/
def Block.divideFire (s : Block) (src : Nat) : Block :=
  s.forAll ([0, 1, 2].filter (fun q => s.f (Reg.CSC_TRG_SRC q) == src)) (fun q s =>
    let n := Tab.get (fun _ => 0) s.csc.divs q
    let fire := s.f (Reg.CSC_TRG_DIV q) ≤ n
    let s := { s with csc := { s.csc with divs := Tab.set (fun _ => 0) s.csc.divs q (if fire then 0 else n + 1) } }
    if fire then s.fireAt q s.time.now else s)

/-- What the converter does at a tick: a 128-tick window takes DLY (R293), carrier periods trigger, and a free unit takes an identification
conversion that has become due. -/
def Block.cscTick (s : Block) : Block :=
  let s := if s.time.tick % 128 = 0 then { s with csc := { s.csc with dly := s.f Reg.SPK_GLB_SNS_DLY } } else s
  let s := s.forAll [0, 1] (fun c s =>
    if s.carrierStart c && s.spkDriving c && (s.spkState c != spkBoot || (s.spkSt c).switching) then s.divideFire (3 + c) else s)
  if s.audioOn && (s.cscUnit 1).busy.isNone && (s.identWaiting s.time.now).isSome then s.startUnit 1 s.time.now else s

/-! ## Snapshots, the reference, modes -/

/-- SNAPSHOT_GO (R351, R353): the selected accumulators are copied, and cleared where CLR is 1. -/
def Block.snapshotOp (s : Block) : Block :=
  let sel (a : Nat) : Bool := if a < 32 then s.on (Reg.CSC_SNAP_MASK0_MASK.bit a) else s.on (Reg.CSC_SNAP_CTRL_MASK1.bit (a - 32))
  let l := (List.range 36).filter sel
  let t := s.time.now
  if s.on Reg.CSC_SNAP_CTRL_CLR then
    (s.forAll l (fun a s =>
      (s.snapCopy a ((s.cscAcc a).before t)).modAcc a (fun x => x.cleared (s.f (Reg.CSC_ACC_CFG_LIM a)) t)))
  else
    let s := s.forAll l (fun a s => s.snapCopy a (s.cscAcc a))
    { s with csc := { s.csc with snap := some (t, l) } }

/-- The reference buffer runs while EN or AUTO is 1 in the converter's modes; RDY clears as it stops (R348). -/
def Block.refFollow (s : Block) : Block :=
  let on := s.audioOn && (s.on Reg.CSC_REF_EN || s.on Reg.CSC_REF_AUTO)
  match s.csc.refAt with
  | none => if on then { s with csc := { s.csc with refAt := some s.time.now } } else s
  | some _ => if on then s else ({ s with csc := { s.csc with refAt := none } }).put Reg.CSC_REF_RDY 0

/-- REF_READY (R348). -/
def Block.refReadyOp (s : Block) : Block := if s.csc.refAt.isSome then s.raise Reg.CSC_REF_RDY else s

/-- End every run, and clear accumulators and comparator histories (R356, R357). A conversion that has started still completes and holds its unit
that long; one of an identification goes on. -/
def Block.cscClear (s : Block) : Block :=
  let s := ((s.put Reg.CSC_STAT_RUNA 0).put Reg.CSC_STAT_RUNB 0).put Reg.CSC_STAT_RUNI 0
  let s := s.forAll [0, 1] (fun u s => s.modUnit u (fun y =>
    match y.busy with
    | some c =>
      match c.work with
      | .ident _ => { y with regular := {}, injected := {} }
      | _ => { freeAt := if c.start < s.time.now then max y.freeAt c.due else y.freeAt, lastCh := some c.ch, idNeed := y.idNeed }
    | none => { y with regular := {}, injected := {} }))
  { s with csc := { s.csc with accs := [], hists := [], trigs := [], divs := [], simul := false, snap := none } }

/-- The converter stops: its snapshots are cleared too (R356). -/
def Block.cscStop (s : Block) : Block :=
  let s := s.cscClear.bstCut (fun t => t == 1 || t == 2) true
  let s := { s with csc := { s.csc with units := [] } }
  (s.forAll (List.range 36) (fun a s =>
    ((s.setW (Reg.CSC_SNAP_SUM a) (resetWord (Reg.CSC_SNAP_SUM a))).setW (Reg.CSC_SNAP_CNT a) (resetWord (Reg.CSC_SNAP_CNT a))).setW
      (Reg.CSC_SNAP_MM a) (resetWord (Reg.CSC_SNAP_MM a)))).refFollow

/-! ## Privileged conversions -/

/-- The unit of a privileged channel (R293). -/
def privUnit : PrivChannel → Nat
  | .ia | .ib | .pvdd => 0
  | .va | .vb => 1

/-- The tick in the 128-tick window at which a channel is triggered (R293). -/
def Block.privTick (s : Block) (ch : PrivChannel) : Nat :=
  let slow := s.on Reg.SPK_GLB_CFG_FSW
  match ch with
  | .ia | .va => if slow then 16 else 8
  | .ib | .vb => if s.on Reg.SPK_GLB_CFG_INTLV then (if slow then 64 else 48) else (if slow then 48 else 40)
  | .pvdd => if slow then 80 else 72

/-- PRIVILEGED_CONVERSION (R293, R341, R343): at its tick plus DLY it takes its unit for 192 cycles, and its result reaches the stage. A test slice
of the unit ends (R552). -/
def Block.privilegedOp (s : Block) (ch : PrivChannel) (code : Nat) : Block :=
  let dly := s.csc.dly
  if !s.spkOwns || !s.audioOn || s.time.tick % 128 != (s.privTick ch + dly / 16) % 128 then s
  else ((s.bstCut (fun t => t == 1 + privUnit ch) false).privilege (privUnit ch) (s.time.now + dly % 16)).spkSense ch code

/-! ## The commands -/

/-- PRIVILEGED_CONVERSION (R293). -/
def execPrivilegedConversion (ch : PrivChannel) (code : SenseCode) (s : State) : Host.Outcome State Fault Refusal :=
  s.act true (fun b => b.privilegedOp ch code.toNat)

/-- SEQUENCE_TRIGGER (R338). -/
def execSequenceTrigger (q : Seq) (s : State) : Host.Outcome State Fault Refusal :=
  s.act true (fun b => b.triggerOp (match q with
    | .a => 0
    | .b => 1
    | .inj => 2))

/-- CSC_START (R338). -/
def execCscStart (mask : BitVec 3) (s : State) : Host.Outcome State Fault Refusal := s.hostWrite true (fun b => b.cscStartOp mask.toNat)

/-- CSC_TIMER (R339). -/
def execCscTimer (t : Nat) (s : State) : Host.Outcome State Fault Refusal := s.act (t < 4) (fun b => b.cscTimerOp t)

/-- CSC_CONVERSION (R336). -/
def execCscConversion (unit : Nat) (code : SenseCode) (s : State) : Host.Outcome State Fault Refusal :=
  s.act (unit < 2) (fun b => b.conversionOp unit code.toNat)

/-- SNAPSHOT_GO (R351). -/
def execSnapshotGo (s : State) : Host.Outcome State Fault Refusal := s.hostWrite true (fun b => b.snapshotOp)

/-- REF_READY (R348). -/
def execRefReady (s : State) : Host.Outcome State Fault Refusal := s.act true (fun b => b.refReadyOp)

end Sys2Proof.Machine
end

