-- ==== Sys2Proof/Machine/Clocks.lean ====
section
/-! DEFINITION. Clocks: the slow clock and the ring oscillator (R360 to R362), the start of the PLL (R366, R367), commits (R369), the loss and
the return of a reference (R370 to R379), the link PLL (R380). -/

namespace Sys2Proof.Machine

/-- STATE codes of R382. -/
def pllOff : Nat := 0
/-- ACQUIRE. -/
def pllAcquire : Nat := 1
/-- LOCKED. -/
def pllLocked : Nat := 2
/-- COAST. -/
def pllCoast : Nat := 3
/-- SLEW. -/
def pllSlew : Nat := 4
/-- SNAP. -/
def pllSnap : Nat := 5

/-- CLK_STAT.STATE. -/
def Block.pll (s : Block) : Nat := s.f Reg.CLK_STAT_STATE

/-- Enter a PLL state. -/
def Block.setPll (s : Block) (st : Nat) : Block := (s.bstCut (fun t => t == 5 && st != pllLocked) true).put Reg.CLK_STAT_STATE st

/-- Change the hidden record of the clocks. -/
def Block.modClk (s : Block) (g : Clk → Clk) : Block := { s with clk := g s.clk }

/-- The reference code of the primary: 0 crystal, 1 MCLKI, 2 Trellis (R363, R382). -/
def Block.primaryRef (s : Block) : Nat := s.f Reg.CLK_CFG_PREF

/-- Take a reference into force: REF, and PORT for the Trellis (R382). -/
def Block.setRef (s : Block) (r : Nat) : Block :=
  let s := s.put Reg.CLK_STAT_REF r
  if r = 2 then s.put Reg.CLK_STAT_PORT (s.f Reg.TRL_GLB_STAT_UPPORT) else s

/-- The divider M that brings a reference to 3.072 MHz (R363). -/
def Block.pllM (s : Block) : Nat :=
  match s.f Reg.CLK_STAT_REF with
  | 0 => 8
  | 1 => 2 * 2 ^ s.f Reg.CLK_CFG_MRATE
  | _ => 4

/-- What MCLKO carries, in kHz; 0 where the pin is driven low (R381). -/
def Block.mclko (s : Block) : Nat :=
  if s.f Reg.CLK_CFG_MCLKO = 0 || !s.clk.mclkoen || s.pll = pllOff then 0 else 3072 * 2 ^ s.f Reg.CLK_CFG_MCLKO

/-- The PLL starts on the primary, or on a crystal that the image names; with neither qualified it waits and sets NOREF (R367). -/
def Block.pllStart (s : Block) : Block :=
  if !s.clk.want || s.pll ≠ pllOff then s
  else if s.on Reg.CLK_STAT_PRIOK then (s.setRef s.primaryRef).setPll pllAcquire
  else if s.on Reg.CLK_CFG_XTAL && s.on Reg.CLK_STAT_XTOK then (s.setRef 0).setPll pllAcquire
  else s.raise Reg.CLK_EVT_NOREF

/-- An image or the boot plan has been verified: the PLL is to run (R367). -/
def Block.pllWanted (s : Block) : Block := (s.modClk (fun c => { c with want := true })).pllStart

/-- The PLL stops: at the stop of the core clock, or for a load with another clock plan (R367); its grid is lost. -/
def Block.pllStop (s : Block) : Block :=
  ((((s.setPll pllOff).put Reg.CLK_STAT_LLOCK 0).put Reg.CLK_STAT_CPEND 0).put Reg.TRL_GLB_STAT_GRIDOK 0).modClk (fun c =>
    { c with want := false, coastAt := none, snapAt := none, commit := false, fallback := false })

/-- The core cycle at which a slew closes the loop: |φ| / 50 ppm after its start, φ in 1/8 ns (R376). -/
def Clk.slewEnd (c : Clk) : Nat := c.moveAt + c.phi.natAbs * 49152 / 100

/-- Milliseconds of the coast that runs or ran last; the timer stands from the closing of the loop on (R371, R379, R382). -/
def Block.coastMs (s : Block) : Nat :=
  let now := if s.pll = pllSlew then min s.time.now s.clk.slewEnd else s.time.now
  match s.clk.coastAt with
  | some t => min (2 ^ 32 - 1) ((now - t) / (16 * 12288))
  | none => s.f Reg.CLK_COAST_MS

/-- The loop closes on a reference: the coast timer clears, its length stays in CLK_COAST (R379). -/
def Block.closeLoop (s : Block) : Block := (s.put Reg.CLK_COAST_MS s.coastMs).modClk (fun c => { c with coastAt := none })

/-- The reference in force is the crystal. -/
def Block.onCrystal (s : Block) : Bool := s.f Reg.CLK_STAT_REF == 0

/-- The reference in force is the primary. -/
def Block.onPrimary (s : Block) : Bool := s.f Reg.CLK_STAT_REF == s.primaryRef

/-- The reference in force is lost (R370, R371, R379): the PLL coasts and its timer starts; at start-up the acquisition begins afresh. -/
def Block.referenceLostOp (s : Block) : Block :=
  let st := s.pll
  if st = pllOff || st = pllCoast then s else
  let s := if s.onPrimary then s.put Reg.CLK_STAT_PRIOK 0 else s
  let s := if s.onCrystal then s.put Reg.CLK_STAT_XTOK 0 else s
  if st = pllAcquire then (s.setPll pllOff).pllStart else
  let s := ((s.closeLoop.setPll pllCoast).raise Reg.CLK_EVT_LOSS).bump Reg.CLK_CNT_LOSSES
  let s := (s.modClk (fun c => { c with coastAt := some s.time.now })).put Reg.CLK_STAT_LONG 0
  s.record 0x30 1 0 (s.word Reg.CLK_STAT) []

/-- A return (R375): the reference is taken by a closed loop, a slew or a snap, by phase error, frequency and policy. -/
def Block.takeRef (s : Block) (r : Nat) (phi ppm : Int) : Block :=
  let s := ((s.setRef r).raise Reg.CLK_EVT_RETURN).putInt Reg.CLK_PHERR_PHI phi
  let s := (s.put Reg.CLK_STAT_LONG 0).modClk (fun c => { c with moveAt := s.time.now, phi := phi, paused := false })
  let snap (s : Block) : Block := (s.setPll pllSnap).modClk (fun c => { c with snapAt := some s.time.now })
  if phi.natAbs ≤ 16 then s.closeLoop.setPll pllLocked
  else if 30 < ppm.natAbs then snap (s.raise Reg.CLK_EVT_FSNAP)
  else if s.on Reg.CLK_CFG_POLICY then snap s
  else s.setPll pllSlew

/-- After the crystal was taken at the limit, a qualified primary is taken where AUTOREV is 1 (R379). -/
def Block.autoRevert (s : Block) : Block :=
  match s.clk.primary with
  | none => s
  | some x =>
    if s.clk.fallback && s.pll = pllLocked && s.on Reg.CLK_STAT_PRIOK && s.on Reg.CLK_CFG_AUTOREV then
      (s.modClk (fun c => { c with fallback := false })).takeRef s.primaryRef x.1 x.2
    else s

/-- REFERENCE_QUALIFIED (R374, R375, R379): PRIOK or XTOK; a PLL that waits starts; one that coasts takes the primary, or the crystal where that was
lost. -/
def Block.qualifiedOp (s : Block) (r : RefName) (phi ppm : Int) : Block :=
  let code := match r with
    | .primary => s.primaryRef
    | .crystal => 0
  let prim := code == s.primaryRef
  let s := if prim then (s.raise Reg.CLK_STAT_PRIOK).modClk (fun c => { c with primary := some (phi, ppm) }) else s
  let s := if code = 0 then s.raise Reg.CLK_STAT_XTOK else s
  if s.pll = pllOff then s.pllStart
  else if s.pll = pllCoast && (s.f Reg.CLK_STAT_REF = code || prim) then
    (s.modClk (fun c => { c with fallback := c.fallback && !prim })).takeRef code phi ppm
  else if prim && s.clk.fallback then (s.raise Reg.CLK_EVT_RETURN).autoRevert
  else s

/-- COAST_LIMIT (R373, R379): the crystal is taken, or the coast goes on with LONG. -/
def Block.coastLimitOp (s : Block) (phi ppm : Int) : Block :=
  match s.clk.coastAt with
  | none => s
  | some t =>
    if s.pll = pllCoast && !s.on Reg.CLK_STAT_LONG && s.reached (t + ticks (msTicks (10 * s.f Reg.CLK_CFG_COASTLIM))) then
      let s := s.raise Reg.CLK_EVT_LIMIT
      if s.on Reg.CLK_CFG_XTAL && !s.onCrystal && s.on Reg.CLK_STAT_XTOK then
        ((s.modClk (fun c => { c with fallback := true })).raise Reg.CLK_EVT_FALLBK).takeRef 0 phi ppm
      else s.raise Reg.CLK_STAT_LONG
    else s

/-- SLEW_DONE (R376): after |φ| / 50 ppm and the 256 PFD periods of the lock criterion. -/
def Block.slewDoneOp (s : Block) : Block :=
  if s.pll = pllSlew && s.reached (s.clk.slewEnd + ticks 1024) then
    ((s.closeLoop.setPll pllLocked).raise Reg.CLK_EVT_SLEWDONE).autoRevert
  else s

/-- The VCO cycles of the pause for φ in 1/8 ns: 1.2716 ns each, rounded (R377). -/
def pauseCycles (phi : Int) : Nat := ((if 0 ≤ phi then 0 else 256) + ratRound ((phi : Rat) * 10000 / 8 / 12716)).toNat % 256

/-- SNAP_PAUSE (R377): at tick 12,288 the divider chain pauses and the loop closes; a lost reference skips it (R379). -/
def Block.snapPauseOp (s : Block) : Block :=
  if s.pll = pllSnap && !s.clk.paused && s.reached (s.clk.moveAt + ticks 12288) then
    (s.closeLoop.put Reg.CLK_PHERR_PAUSE (pauseCycles s.clk.phi)).modClk (fun c => { c with paused := true })
  else s

/-- SNAP_END (R377): normal, 24,640 ticks after the comparison. After a lost reference only the mute ends (R379). -/
def Block.snapEndOp (s : Block) : Block :=
  match s.clk.snapAt with
  | none => s
  | some t =>
    if !s.reached (t + ticks 24640) || (s.pll = pllSnap && !s.clk.paused) then s else
    let s := s.modClk (fun c => { c with snapAt := none })
    if s.pll = pllSnap then (((s.setPll pllLocked).raise Reg.CLK_EVT_SNAP).bump Reg.CLK_CNT_SNAPS).autoRevert else s

/-- Whether the reference that REFSEL names has qualified (R369, R374). -/
def Block.askedOk (s : Block) : Bool := if s.on Reg.CLK_CTRL_REFSEL then s.on Reg.CLK_STAT_XTOK else s.on Reg.CLK_STAT_PRIOK

/-- CLK_COMMIT (R369, R379): applied at the next PFD comparison, or held until LOCKED; in COAST only for a qualified reference. -/
def Block.clkCommitOp (s : Block) : Block :=
  let st := s.pll
  if st = pllCoast && !s.askedOk then s.raise Reg.CLK_EVT_NOREF
  else (s.modClk (fun c => { c with commit := true })).putB Reg.CLK_STAT_CPEND (!(st = pllLocked || st = pllCoast))

/-- SHADOW_APPLY (R369): the shadow set as it stands takes effect; a change of reference is a return of R375. A held commit waits for LOCKED. -/
def Block.shadowApplyOp (s : Block) (phi ppm : Int) : Block :=
  if !s.clk.commit || !(s.pll = pllLocked || (s.pll = pllCoast && !s.on Reg.CLK_STAT_CPEND)) then s else
  let want := if s.on Reg.CLK_CTRL_REFSEL then 0 else s.primaryRef
  let s := ((s.put Reg.CLK_STAT_CPEND 0).raise Reg.CLK_EVT_CMTDONE).modClk (fun c =>
    { c with commit := false, mclkoen := s.on Reg.CLK_CTRL_MCLKOEN })
  if !s.askedOk then s.raise Reg.CLK_EVT_NOREF
  else
    let s := s.modClk (fun c => { c with refsel := s.on Reg.CLK_CTRL_REFSEL, fallback := false })
    if want ≠ s.f Reg.CLK_STAT_REF || s.pll = pllCoast then s.takeRef want phi ppm else s

/-- XTI_QUAL_LOSS (R373): XTOK clears; XTFAIL for a crystal that is not in use. -/
def Block.xtiLossOp (s : Block) : Block :=
  if !s.on Reg.CLK_STAT_XTOK then s
  else (s.put Reg.CLK_STAT_XTOK 0).onlyIf (s.on Reg.CLK_CFG_XTAL && !(s.onCrystal && s.pll ≠ pllOff)) (fun s => s.raise Reg.CLK_EVT_XTFAIL)

/-- PLL_LOCKED (R366, R367): the lock criterion holds; the core clock passes to the PLL and the ring oscillator stops (R362). The grid of a clock root
is the one of its own PLL (R398). -/
def Block.pllLockedOp (s : Block) : Block :=
  if s.pll ≠ pllAcquire then s else
  let s := ((s.setPll pllLocked).raise Reg.CLK_EVT_LOCK).put Reg.CLK_STAT_RING 0
  s.onlyIf (s.on Reg.TRL_RT_CFG_ROOT) (fun s => s.raise Reg.TRL_GLB_STAT_GRIDOK)

/-- LINK_PLL_LOCK (R380): while a port is enabled and the main PLL runs; ports that failed with it return to DETECT (R404). -/
def Block.linkLockOp (s : Block) : Block :=
  if (List.range 4).any (fun p => s.on (Reg.TRL_PCFG_EN p)) && s.pll ≠ pllOff && s.pll ≠ pllAcquire then
    let s := s.raise Reg.CLK_STAT_LLOCK
    s.forAll ((List.range 4).filter (fun p => s.linkState p == linkFailed)) (fun p s =>
      let s := s.enterLink p linkDetect
      if (s.port p).signal then s.enterLink p linkAlign else s)
  else s

/-- LINK_PLL_LOSS (R380, R404): every enabled port enters FAILED. -/
def Block.linkLossOp (s : Block) : Block :=
  if !s.on Reg.CLK_STAT_LLOCK then s else
  let s := (s.put Reg.CLK_STAT_LLOCK 0).raise Reg.CLK_EVT_LLOSS
  s.forAll ((List.range 4).filter (fun p => s.on (Reg.TRL_PCFG_EN p) && s.linkState p != linkFailed)) (fun p s => s.failPort p false)

/-- X32_FAIL (R361): the slow clock passes to the internal oscillator until X32EN is written 0 and 1. -/
def Block.x32FailOp (s : Block) : Block :=
  if s.on Reg.CLK_AON_SRC then
    ((s.put Reg.CLK_AON_SRC 0).raise Reg.CLK_EVT_X32FAIL).modClk (fun c => { c with x32off := true })
  else s

/-- SLOW_CLOCK_SWITCH (R360): to the crystal once X32EN is 1 and it has started, else back to the internal oscillator. -/
def Block.slowSwitchOp (s : Block) : Block := s.putB Reg.CLK_AON_SRC (s.on Reg.CLK_AON_X32EN && !s.clk.x32off)

/-- A write of CLK_AON.X32EN (R361): 0 lets a failed crystal be tried again. -/
def Block.x32Write (s : Block) (en : Bool) : Block :=
  let s := s.putB Reg.CLK_AON_X32EN en
  if en then s else s.modClk (fun c => { c with x32off := false })

/-- RING_MEASURE (R362, R538): while the ring oscillator runs and the slow clock runs from the crystal. -/
def Block.ringMeasureOp (s : Block) (dev : Int) : Block :=
  if s.on Reg.CLK_STAT_RING && s.on Reg.CLK_AON_SRC then
    let s := s.putInt Reg.CLK_RING_DEV (satInt 16 dev)
    { s with lsn := { s.lsn with rdev := some (s.f Reg.CLK_RING_DEV) } }
  else s

/-- What the clocks do at a tick: a change or failure of the upstream port is a loss of its clock (R378, R404). -/
def Block.clkTick (s : Block) : Block :=
  let trl := s.f Reg.CLK_STAT_REF == 2 && s.pll != pllOff
  let port := if trl then s.f Reg.CLK_STAT_PORT else s.f Reg.TRL_GLB_STAT_UPPORT
  let gone := s.primaryRef == 2 && (s.net.upChanged || s.linkState port == linkFailed)
  let s := if s.net.upChanged then s.modNet (fun n => { n with upChanged := false }) else s
  let s := s.onlyIf gone (fun s => s.put Reg.CLK_STAT_PRIOK 0)
  if trl && gone then s.referenceLostOp.setRef 2 else s

/-! ## The commands -/

/-- X32_FAIL (R361). -/
def execX32Fail (s : State) : Host.Outcome State Fault Refusal := s.act true (fun b => b.x32FailOp)

/-- RING_MEASURE (R362). -/
def execRingMeasure (dev : Int) (s : State) : Host.Outcome State Fault Refusal := s.act true (fun b => b.ringMeasureOp dev)

/-- REFERENCE_LOST (R371). -/
def execReferenceLost (s : State) : Host.Outcome State Fault Refusal := s.act true (fun b => b.referenceLostOp)

/-- COAST_LIMIT (R373). -/
def execCoastLimit (phi ppm : Int) (s : State) : Host.Outcome State Fault Refusal := s.act true (fun b => b.coastLimitOp phi ppm)

/-- REFERENCE_QUALIFIED (R374). -/
def execReferenceQualified (r : RefName) (phi ppm : Int) (s : State) : Host.Outcome State Fault Refusal :=
  s.act true (fun b => b.qualifiedOp r phi ppm)

/-- SLEW_DONE (R376). -/
def execSlewDone (s : State) : Host.Outcome State Fault Refusal := s.act true (fun b => b.slewDoneOp)

/-- SNAP_PAUSE (R377). -/
def execSnapPause (s : State) : Host.Outcome State Fault Refusal := s.act true (fun b => b.snapPauseOp)

/-- SNAP_END (R377). -/
def execSnapEnd (s : State) : Host.Outcome State Fault Refusal := s.act true (fun b => b.snapEndOp)

/-- CLK_COMMIT (R369). -/
def execClkCommit (s : State) : Host.Outcome State Fault Refusal := s.hostWrite true (fun b => b.clkCommitOp)

/-- SHADOW_APPLY (R369). -/
def execShadowApply (phi ppm : Int) (s : State) : Host.Outcome State Fault Refusal := s.act true (fun b => b.shadowApplyOp phi ppm)

/-- XTI_QUAL_LOSS (R373). -/
def execXtiQualLoss (s : State) : Host.Outcome State Fault Refusal := s.act true (fun b => b.xtiLossOp)

/-- LINK_PLL_LOCK (R380). -/
def execLinkPllLock (s : State) : Host.Outcome State Fault Refusal := s.act true (fun b => b.linkLockOp)

/-- LINK_PLL_LOSS (R380). -/
def execLinkPllLoss (s : State) : Host.Outcome State Fault Refusal := s.act true (fun b => b.linkLossOp)

/-- SLOW_CLOCK_SWITCH (R360). -/
def execSlowClockSwitch (s : State) : Host.Outcome State Fault Refusal := s.act true (fun b => b.slowSwitchOp)

end Sys2Proof.Machine
end

