-- ==== Sys2Proof/Machine/Blocks.lean ====
section
/-! DEFINITION. The processing blocks of the graph (R186 to R188, R199 to R237, R607): their arithmetic, parameters in force, and what each kind of
block does with one graph sample. Blocks are numbered as in R166. -/

namespace Sys2Proof.Machine

/-! ## Arithmetic (R186, R187) -/

/-- A number in units of 2^-40, ties towards plus infinity (R186). -/
def q40 (r : Rat) : Int := ratRound (r * 2 ^ 40)

/-- Add a product to an accumulator: it saturates at Q8.40 and stays there (R186). -/
def accAdd (a : Int × Bool) (p : Rat) : Int × Bool :=
  if a.2 then a
  else (satInt 48 (a.1 + q40 p), !fitsSigned 48 (a.1 + q40 p))

/-- A sum in the accumulator, and whether it saturated (R186). -/
def accSum (ps : List Rat) : Int × Bool := ps.foldl accAdd (0, false)

/-- The value of a sample in units of full scale. -/
def Sample.real (x : Sample) : Rat := (x.int : Rat) / 2 ^ 23

/-- An accumulator as a number. -/
def wide (v : Int) : Rat := (v : Rat) / 2 ^ 40

/-- A number of 2^-23 as a number. -/
def q23 (v : Int) : Rat := (v : Rat) / 2 ^ 23

/-- The output sample of a block from its accumulator, and whether it saturated (R187). -/
def writeOut (a : Int × Bool) (tag : Byte) : Sample × Bool :=
  let v := roundShift a.1 17
  let sat := a.2 || !fitsSigned 24 v
  (⟨BitVec.ofInt 24 (satInt 24 v), if sat then tag ||| tagC else tag⟩, sat)

/-- An accumulator as a Q5.23 word, and whether it saturated (R204). -/
def toQ5 (a : Int × Bool) : Int × Bool := (satInt 28 (roundShift a.1 17), a.2 || !fitsSigned 28 (roundShift a.1 17))

/-- The sine table of R233: sin(π k / 8192) in Q1.23, the last entry as +1.0 − 2^-23. -/
def sineTable (k : Nat) : Int :=
  if 4096 ≤ k then 8388607
  else
    let x : Int := 57952155664616982739 * k / 8192
    let r := (List.range 12).foldl (fun (p : Int × Int) i =>
      let t := -p.1 * x / 2 ^ 64 * x / 2 ^ 64 / ((2 * (i + 1)) * (2 * (i + 1) + 1) : Nat)
      (t, p.2 + t)) (x, x)
    (r.2 + 2 ^ 40) / 2 ^ 41

/-- The sine of a 32-bit phase in Q1.23 (R233). -/
def sineAt (phase : Nat) : Int :=
  let quad := phase / 2 ^ 30 % 4
  let q := if quad % 2 = 1 then 2 ^ 30 - phase % 2 ^ 30 else phase % 2 ^ 30
  let k := q / 2 ^ 18
  let u : Rat := ((q % 2 ^ 18 : Nat) : Rat) / 2 ^ 18
  let v := ratRound (sineTable k + u * (sineTable (k + 1) - sineTable k))
  if quad ≥ 2 then -v else v

/-- The naive triangle (R234). -/
def triangleAt (phase : Nat) : Rat :=
  let t : Rat := (phase : Rat) / 2 ^ 32
  if t < 1 / 2 then 4 * t - 1 else 3 - 4 * t

/-- The weights of the old and the new version on sample k of a scarf (R240). -/
def Scarf.weights (x : Scarf) : Rat × Rat :=
  if x.n ≤ x.k then (0, 1)
  else if x.power then (q23 (sineTable (4096 * (x.n - x.k) / x.n)), q23 (sineTable (4096 * x.k / x.n)))
  else (1 - (x.k : Rat) / x.n, (x.k : Rat) / x.n)

/-- The X of a scarf's samples (R241). -/
def Scarf.tag (x : Scarf) : Byte := if x.n ≤ x.k then 0 else tagX

/-- The tag of a contributor with a gain (R7). -/
def tagIf (gain : Rat) (t : Byte) : Byte := if gain = 0 then 0 else t

/-- Two versions of a wide value and their tags, crossed by a scarf without its X, and whether the sum saturated (R187, R240, R241). -/
def Scarf.blend (x : Scarf) (old new : Int × Byte) : (Int × Byte) × Bool :=
  let w := x.weights
  let a := accSum [w.1 * wide old.1, w.2 * wide new.1]
  ((a.1, tagIf w.1 old.2 ||| tagIf w.2 new.2 ||| (if a.2 then tagC else 0)), a.2)

/-- Two versions of a wide value crossed by a scarf: X is set beside the tags of the versions in force (R240, R241). -/
def Scarf.mix (x : Scarf) (old new : Int × Byte) : (Int × Byte) × Bool :=
  let r := x.blend old new
  ((r.1.1, r.1.2 ||| x.tag), r.2)

/-- Two samples crossed by a scarf of the read stage: rounded and saturated as R187 says, with C, but with no counter and no event (R174, R240;
DESIGN CHOICE, assumption log 87: the read stage belongs to no block). -/
def Scarf.mixSamples (x : Scarf) (old new : Sample) : Sample :=
  let w := x.weights
  (writeOut (accSum [w.1 * old.real, w.2 * new.real]) (tagIf w.1 old.tag ||| tagIf w.2 new.tag ||| x.tag)).1

/-! ## Parameters (R199, R200) -/

/-- Rewrite the graph's record. -/
def Block.modGraph (s : Block) (h : Graph → Graph) : Block := { s with graph := h s.graph }

/-- The record of a block. -/
def Block.blk (s : Block) (b : Nat) : BlkSt := Tab.get (fun _ => {}) s.graph.blks b

/-- Change the record of a block. -/
def Block.modBlk (s : Block) (b : Nat) (h : BlkSt → BlkSt) : Block :=
  s.modGraph (fun g => { g with blks := Tab.upd (fun _ => {}) g.blks b h })

/-- Whether a block is present (R166). -/
def Block.present (s : Block) (b : Nat) : Bool := s.on (Reg.GRF_BLK_CFG_PRESENT b)

/-- Whether a block may take a scarf (R183). -/
def Block.crossfadable (s : Block) (b : Nat) : Bool := s.on (Reg.GRF_BLK_CFG_XF b)

/-- The graph rate in kHz. -/
def Block.fg (s : Block) : Nat := if s.on Reg.GRF_GLB_CFG_FG then 96 else 48

/-- A parameter word in force: a write counts from the first graph instant at least one tick after it (R199). -/
def Block.parW (s : Block) (a : Nat) : Word :=
  match s.graph.late.find? (fun p => p.1 == a) with
  | some p => p.2.1
  | none => s.word a

/-- A parameter field in force. -/
def Block.par (s : Block) (x : Fld) : Nat := bitsOf (s.parW x.addr) x.lo x.width

/-- A Q1.15 parameter in force. -/
def Block.parQ15 (s : Block) (x : Fld) : Rat := ((BitVec.ofNat 16 (s.par x)).toInt : Rat) / 2 ^ 15

/-- A Q4.20 parameter in force. -/
def Block.parQ20 (s : Block) (x : Fld) : Rat := (s.par x : Rat) / 2 ^ 20

/-- The key of a moving value. -/
def rampKey (x : Fld) : Nat := 32 * x.addr + x.lo

/-- The value of a ramp now. -/
def Ramp.value (r : Ramp) : Rat := r.src + (r.goal - r.src) * r.k / (max 1 r.n : Nat)

/-- The value in force of a field that moves, where it stands at `goal` when no ramp is listed. -/
def Block.gainNow (s : Block) (x : Fld) (goal : Rat) : Rat :=
  let r := Tab.get (fun _ => ({} : Ramp)) s.graph.ramps (rampKey x)
  if r.k = 0 then goal else r.value

/-- Hold a value before a write, so that the next graph instant ramps from it (R199, R200). -/
def Block.holdGain (s : Block) (x : Fld) (old : Rat) : Block :=
  let r := Tab.get (fun _ => ({} : Ramp)) s.graph.ramps (rampKey x)
  if r.k = 0 then s.modGraph (fun g => { g with ramps := Tab.set (fun _ => {}) g.ramps (rampKey x) ⟨old, old, 64, 64⟩ }) else s

/-- A ramp that holds a value: its samples are done. -/
def Ramp.holds (r : Ramp) : Bool := r.n ≤ r.k

/-- Move a value by one graph sample toward its goal over n samples; a new goal starts a new ramp from the value in force (R200, R226, R231). A value
held for a write stays held until a graph instant has taken that write (R199). -/
def Block.moveGain (s : Block) (x : Fld) (goal : Rat) (n : Nat) : Rat × Block :=
  let key := rampKey x
  let r := Tab.get (fun _ => ({} : Ramp)) s.graph.ramps key
  let put (v : Ramp) : Block := s.modGraph (fun g => { g with ramps := Tab.set (fun _ => {}) g.ramps key v })
  if r.k = 0 then (goal, s)
  else if r.goal = goal && r.holds && !s.graph.late.isEmpty then (goal, s)
  else
    let next : Ramp := if r.goal = goal then { r with k := r.k + 1 } else ⟨r.value, goal, 1, n⟩
    if next.n ≤ next.k then (goal, put {}) else (next.value, put next)

/-- A graph instant takes the writes to parameter words: each ramp of their fields that runs ends where it stands, and moveGain starts it anew
(R199, R200). -/
def Block.takeWrites (s : Block) (addrs : List Nat) : Block :=
  s.modGraph (fun g => { g with ramps := Tab.mapAll (fun _ => {}) g.ramps (fun k r =>
    if addrs.contains (k / 32) && !r.holds && r.k != 0 then ⟨r.value, r.value, r.n, r.n⟩ else r) })

/-- A parameter word has been written: remember what stands until the write counts (R199). -/
def Block.parWrite (s : Block) (a : Nat) (old : Word) : Block :=
  s.modGraph (fun g => { g with late := g.late ++ [(a, old, s.time.now)] })

/-- Count a saturation of a block (R187). -/
def Block.blkSat (s : Block) (b : Nat) (sat : Bool) : Block :=
  s.onlyIf sat (fun s => (s.bump (Reg.GRF_BLK_SAT_SAT b)).raise Reg.GRF_EVT_SAT)

/-! ## Memory claims (R237, R607) -/

/-- Partition and bytes of a block's claim (R237). -/
def Block.claim (s : Block) (b : Nat) : Nat × Nat :=
  if 44 ≤ b && b < 48 then
    let t := s.f (Reg.MOD_CFG_TYPE (b - 44))
    (2, if t = 0 || t = 1 || t = 4 then 8 * s.f (Reg.MOD_CFG_LINE (b - 44)) else 0)
  else if 48 ≤ b && b < 52 then (0, 4 * (s.f (Reg.DLY_LEN_LEN (b - 48) 0) + s.f (Reg.DLY_LEN_LEN (b - 48) 1)))
  else if 52 ≤ b && b < 54 then
    (1, 4 * (((List.range 16).map (fun i => s.f (Reg.RVB_LEN_LEN (b - 52) i))).sum + 2 * s.f (Reg.RVB_CFG_PREMAX (b - 52))))
  else (6, 0)

/-- Byte offset of a block's claim in the audio SRAM: claims are packed from their partition's start in block order (R607). -/
def Block.claimOffset (s : Block) (b : Nat) : Nat :=
  let p := (s.claim b).1
  (s.partition p).1 + (((List.range b).filter (fun c => s.present c && (s.claim c).1 == p)).map (fun c => (s.claim c).2)).sum

/-- Read a line word a number of samples behind the write position; a word not written since the restart reads zero (R259). An uncorrectable word
gives the block's previous sample tagged S, a failed bank zero tagged S (R29, R442, R443). -/
def Block.lineRead (s : Block) (b base len behind : Nat) : Sample × Block :=
  let c := (s.blk b).count
  if c < behind || len = 0 then (Sample.zero, s)
  else
    let (w, st, s) := s.sramRead (base + 4 * ((c - behind) % len)) rdrGraph [s.word (Reg.GRF_BLK_PROG b)]
    let last := Tab.get (fun _ => ({} : Sample)) s.graph.lastRead b
    let y : Sample := if st = 0 then Sample.ofWord w else if st = 1 then last.withTag tagS else ⟨0, tagS⟩
    (y, s.modGraph (fun g => { g with lastRead := Tab.set (fun _ => {}) g.lastRead b y }))

/-- Write the line word of this sample. -/
def Block.lineWrite (s : Block) (b base len : Nat) (y : Sample) : Block :=
  if len = 0 then s else s.sramWrite (base + 4 * ((s.blk b).count % len)) y.toWord

/-! ## Staged sets and versions (R201) -/

/-- The staging set of a block: 44 words of a strip or bus processor, TG_CFG of a generator. -/
def Block.stagedWords (s : Block) (b : Nat) : List Word :=
  if b < 32 then (List.range 44).map (fun i => s.word (0x044040 + 0x100 * b + 4 * i))
  else if b < 40 then (List.range 44).map (fun i => s.word (0x046040 + 0x100 * (b - 32) + 4 * i))
  else if 54 ≤ b && b < 62 then [s.word (Reg.TG_CFG (b - 54))]
  else []

/-- TIME clamped to 1.0 to LEN − 2 samples, in 1/256 sample (R229). -/
def Block.clampTime (s : Block) (d ch : Nat) : Nat :=
  max 256 (min (256 * (s.f (Reg.DLY_LEN_LEN d ch) - 2)) (s.par (Reg.DLY_TIME_TIME d ch)))

/-- PRE clamped to 1 to PREMAX (R231). -/
def Block.clampPre (s : Block) (v : Nat) : Nat := max 1 (min (s.f (Reg.RVB_CFG_PREMAX v)) (s.f (Reg.RVB_PRE_PRE v)))

/-- The positions a scarf of a block or a restart takes: TIME of a delay, PRE of a reverb, the bank of a convolver. -/
def Block.positions (s : Block) (b : Nat) : List Nat :=
  if 40 ≤ b && b < 44 then [s.f (Reg.CNV_STAT_ACTIVE (b - 40))]
  else if 48 ≤ b && b < 52 then [s.clampTime (b - 48) 0, s.clampTime (b - 48) 1]
  else if 52 ≤ b && b < 54 then [s.clampPre (b - 52)]
  else []

/-- A tone generator's phase and LFSR as PRST loads them (R236). -/
def Block.loadPhase (s : Block) (g : Nat) (v : Ver) : Ver :=
  { v with phase := s.par (Reg.TG_PHASE0_PHASE g), lfsr := max 1 (s.par (Reg.TG_SEED_SEED g)) }

/-- A block restarts from cleared state with its registers in force (R251, R259); a tone generator's phase and LFSR then stand as PRST loads them
(DESIGN CHOICE, assumption log 87: R236 names PRST and EFX_TGSYNC only). -/
def Block.restartBlk (s : Block) (b : Nat) : Block :=
  let v : Ver := { set := s.stagedWords b, pos := s.positions b }
  let v := if 54 ≤ b && b < 62 then s.loadPhase (b - 54) v else v
  s.modBlk b (fun x => { cur := v, fade := x.fade })

/-! ## Biquads and dynamics (R204 to R213) -/

/-- One step of a graph biquad on a Q5.23 word: output, histories, whether it saturated (R204). -/
def GBq.step (h : GBq) (c : List Int) (x : Int) : Int × GBq × Bool :=
  let k (i : Nat) : Rat := (c.getD i 0 : Rat) / 2 ^ 30
  let a := accSum [k 0 * q23 x, k 1 * q23 h.x1, k 2 * q23 h.x2, -(k 3 * wide h.y1), -(k 4 * wide h.y2)]
  let y := toQ5 a
  (y.1, ⟨x, h.x1, a.1, h.y1⟩, y.2)

/-- Field of a staged word. -/
def setField (set : List Word) (i lo width : Nat) : Nat := bitsOf (set.getD i 0) lo width

/-- The eight biquads of a version in series; a disabled one passes its input (R204, R205). Also how many saturated. -/
def runBiquads (v : Ver) (x : Int) : Int × List GBq × Nat :=
  (List.range 8).foldl (fun (r : Int × List GBq × Nat) k =>
    let h := v.bqs.getD k {}
    if (setField v.set 3 0 8).testBit k then
      let y := h.step ((List.range 5).map (fun j => (v.set.getD (4 + 5 * k + j) 0).toInt)) r.1
      (y.1, r.2.1 ++ [y.2.1], r.2.2 + (if y.2.2 then 1 else 0))
    else (r.1, r.2.1 ++ [h], r.2.2)) (x, [], 0)

/-- The dynamics mode in force: 3 behaves as 0, a bus processor has no gate (R213, R217). -/
def dynMode (set : List Word) (bus : Bool) : Nat :=
  let m := setField set 0 0 2
  if m = 3 || (bus && m = 1) then 0 else m

/-- The compressor's target gain change in dB for a level (R211). -/
def compressorGain (set : List Word) (l : Rat) : Rat :=
  let t : Rat := -(setField set 0 4 9 : Rat) / 4
  let k : Rat := (setField set 0 24 8 : Rat) / 4
  let ratio := setField set 0 16 8
  let slope : Rat := if ratio = 255 then 1 else 1 - 1 / (1 + (ratio : Rat) / 8)
  if 2 * (l - t) < -k then 0
  else if 2 * (l - t) ≤ k && 0 < k then -slope * (l - t + k / 2) ^ 2 / (2 * k)
  else -slope * (l - t)

/-- One step of a detector and its gain for a detector input in units of full scale, at a graph rate in kHz; its sums stand in the accumulator, and
the Bool says that one saturated (R186, R210 to R213). -/
def Detector.step (d : Detector) (set : List Word) (bus : Bool) (fg : Nat) (k : Rat) : Detector × Bool :=
  let mode := dynMode set bus
  if mode = 0 then (d, false) else
  let hz : Rat := 1000 * fg
  let beta := expQ (-1 / (hz / 100))
  let m := accSum [beta * d.m, (1 - beta) * k * k]
  let rms := setField set 0 2 1 = 1
  let level := if rms then sqrtQ (wide m.1) else (if k < 0 then -k else k)
  let l := 2 * dbQ (max level (1 / 2 ^ 24))
  let t : Rat := -(setField set 0 4 9 : Rat) / 4
  let below := if l < t - (setField set 2 17 7 : Rat) / 4 then d.below + 1 else 0
  let opened := if mode = 1 then (if t ≤ l then true else if setField set 2 0 10 * fg < below then false else d.opened) else d.opened
  let goal : Rat := if mode = 1 then (if opened then 0 else -(min 96 (setField set 2 10 7) : Nat)) else compressorGain set l
  let attack : Bool := if mode = 1 then opened else decide (goal < d.g)
  let tau : Rat := if attack then (max 1 (setField set 1 0 12) : Nat) / 100000 else (max 1 (setField set 1 16 12) : Nat) / 1000
  let alpha := expQ (-1 / (tau * hz))
  let g := accSum [alpha * d.g, (1 - alpha) * goal]
  ({ m := wide m.1, g := wide g.1, opened := opened, below := below }, (rms && m.2) || g.2)

/-- The factor of the dynamics stage (R211, R212). -/
def Detector.factor (d : Detector) (set : List Word) (bus : Bool) : Rat :=
  match dynMode set bus with
  | 1 => pow10Q (d.g / 20)
  | 2 => pow10Q ((d.g + (setField set 2 24 8 : Rat) / 4) / 20)
  | _ => 1

/-- A gain change in 0.25 dB as status shows it, saturating at 255. -/
def gainReduction (db : Rat) : Nat := (min 255 (max 0 (ratRound (-4 * db)))).toNat

/-- Biquads and dynamics of one version: the wide result, the version after it, and the number of saturations. -/
def Ver.process (v : Ver) (bus : Bool) (fg : Nat) (x : Int) (key : Option Rat) : Int × Ver × Nat :=
  let r := runBiquads v x
  let d := v.det.step v.set bus fg (key.getD (q23 r.1))
  let y := if dynMode v.set bus = 0 then (r.1 * 2 ^ 17, false) else accSum [d.1.factor v.set bus * q23 r.1]
  (y.1, { v with bqs := r.2.1, det := d.1 }, r.2.2 + (if y.2 then 1 else 0) + (if d.2 then 1 else 0))

/-! ## Strips (R207 to R215) -/

/-- The detector input from a key select: none where the key is silence, and the block's own signal serves (R167, R210). -/
abbrev KeyIn := Option Sample

/-- Run both versions of a block through a step that answers a wide value with its tag and a number of saturations, and cross them (R201, R240). -/
def Block.runVersions (s : Block) (b : Nat) (f : Ver → (Int × Byte) × Ver × Nat) : (Int × Byte) × Block :=
  let x := s.blk b
  let o := f x.cur
  match x.next with
  | none => (o.1, (s.modBlk b (fun y => { y with cur := o.2.1 })).forAll (List.range o.2.2) (fun _ s => s.blkSat b true))
  | some (v, sc) =>
    let n := f v
    let s := s.modBlk b (fun y => { y with cur := o.2.1, next := some (n.2.1, sc) })
    let r := sc.mix o.1 n.1
    (r.1, (s.forAll (List.range (o.2.2 + n.2.2)) (fun _ s => s.blkSat b true)).blkSat b r.2)

/-- The X that every output sample of a block carries while its scarf runs (R241). -/
def BlkSt.scarfTag (x : BlkSt) : Byte := match x.next with
  | some (_, sc) => sc.tag
  | none => 0

/-- The version whose status is shown: the newest. -/
def BlkSt.newest (x : BlkSt) : Ver := match x.next with
  | some (v, _) => v
  | none => x.cur

/-- One graph sample of a strip: the pre tap in 2^-40 with its tag, and the output (R207 to R213). -/
def Block.runStrip (s : Block) (n : Nat) (x : Sample) (key : KeyIn) : (Int × Byte) × Sample × Block :=
  let (trim, s) := s.moveGain (Reg.STR_TRIM_GAIN n) (s.parQ20 (Reg.STR_TRIM_GAIN n)) 64
  let sign : Rat := if s.par (Reg.STR_TRIM_POL n) = 1 then -1 else 1
  let a := accSum [sign * trim * x.real]
  let q := toQ5 a
  let s := s.blkSat n q.2
  let tag := tagIf trim x.tag ||| (if q.2 then tagC else 0)
  let adly := s.f (Reg.STR_CFG_ADLY n)
  let (pre, s) := s.runVersions n (fun v =>
    let r := v.process false s.fg q.1 (key.map Sample.real)
    let line := ((r.1, tag ||| (if r.2.2 = 0 then 0 else tagC)) :: v.line).take (adly + 1)
    (line.getD adly (0, 0), { r.2.1 with line := line }, r.2.2))
  let det := (s.blk n).newest.det
  let s := (s.put (Reg.STR_STAT_GR n) (if dynMode (s.blk n).newest.set false = 0 then 0 else gainReduction det.g)).putB (Reg.STR_STAT_OPEN n) det.opened
  let mute := s.par (Reg.STR_CTRL_MUTE n) = 1
  let (level, s) := s.moveGain (Reg.STR_LEVEL_GAIN n) (if mute then 0 else s.parQ20 (Reg.STR_LEVEL_GAIN n)) 64
  let w := writeOut (accSum [level * wide pre.1]) (tagIf level pre.2 ||| (s.blk n).scarfTag)
  (pre, if mute && level = 0 then ⟨0, tagZ⟩ else w.1, s.blkSat n w.2)

/-- The mute of a strip has reached zero: its output and its post sends carry zero tagged Z (R209). -/
def Block.silenced (s : Block) (n : Nat) : Bool :=
  s.par (Reg.STR_CTRL_MUTE n) = 1 && s.gainNow (Reg.STR_LEVEL_GAIN n) 0 = 0

/-- What one enabled send adds to the buses: (bus, gain, sample) with R187 applied, from a tap in 2^-40 with its tag; the post send of a muted strip
carries zero tagged Z (R187, R209, R214). -/
def Block.sendSingle (s : Block) (n k : Nat) (pre : Int × Byte) (out : Sample) : List (Nat × Rat × Sample) × Block :=
  let (level, s) := s.moveGain (Reg.STR_SEND_LEVEL n k) (s.parQ20 (Reg.STR_SEND_LEVEL n k)) 64
  let post := s.on (Reg.STR_SEND_POST n k)
  let tap : Int × Byte := if post then (out.int * 2 ^ 17, out.tag) else pre
  let dest := s.f (Reg.STR_SEND_DEST n k)
  let pan := s.gainNow (Reg.STR_PAN_PAN n) (s.parQ15 (Reg.STR_PAN_PAN n))
  let parts : List (Nat × Rat) :=
    if s.on (Reg.STR_SEND_PAIR n k) then [(dest, level * cosPi ((pan + 1) / 4)), (dest + 1, level * sinPi ((pan + 1) / 4))]
    else [(dest, level)]
  let outs := parts.map (fun p => (p.1, p.2, if post && s.silenced n then ((⟨0, tagZ⟩ : Sample), false)
    else writeOut (accSum [p.2 * wide tap.1]) (tagIf p.2 tap.2)))
  (outs.map (fun p => (p.1, p.2.1, p.2.2.1)), s.forAll outs (fun p s => s.blkSat n p.2.2.2))

/-- WIDTH as a number (R215, R238): 0 to 2.0; what a larger value stands for is not stated. -/
def Block.widthOf (s : Block) (n : Nat) : Rat :=
  let w := s.par (Reg.STR_PAN_WIDTH n)
  if w ≤ 0x8000 then (w : Rat) / 2 ^ 14 else Config.outOfRange (Reg.STR_PAN n) w

/-- What one enabled send of a stereo pair adds to its two buses, from the taps of strips n and n + 1 (R215); a post send carries zero tagged Z while
both strips are muted (R209). -/
def Block.sendStereo (s : Block) (n k : Nat) (preA preB : Int × Byte) (outA outB : Sample) : List (Nat × Rat × Sample) × Block :=
  let (level, s) := s.moveGain (Reg.STR_SEND_LEVEL n k) (s.parQ20 (Reg.STR_SEND_LEVEL n k)) 64
  let post := s.on (Reg.STR_SEND_POST n k)
  let a : Int × Byte := if post then (outA.int * 2 ^ 17, outA.tag) else preA
  let b : Int × Byte := if post then (outB.int * 2 ^ 17, outB.tag) else preB
  let pan := s.gainNow (Reg.STR_PAN_PAN n) (s.parQ15 (Reg.STR_PAN_PAN n))
  let w := s.gainNow (Reg.STR_PAN_WIDTH n) (s.widthOf n)
  let gl := level * min 1 (1 - pan)
  let gr := level * min 1 (1 + pan)
  let silent := post && s.silenced n && s.silenced (n + 1)
  let one (g ca cb : Rat) : Sample × Bool := if silent then (⟨0, tagZ⟩, false)
    else writeOut (accSum [g * ca * wide a.1, g * cb * wide b.1]) (tagIf (g * ca) a.2 ||| tagIf (g * cb) b.2)
  let l := one gl ((1 + w) / 2) ((1 - w) / 2)
  let r := one gr ((1 - w) / 2) ((1 + w) / 2)
  let dest := s.f (Reg.STR_SEND_DEST n k)
  ([(dest, gl, l.1), (dest + 1, gr, r.1)], (s.blkSat n l.2).blkSat n r.2)

/-- PAN and WIDTH of a strip move by one sample (R200). -/
def Block.movePan (s : Block) (n : Nat) : Block :=
  let s := (s.moveGain (Reg.STR_PAN_PAN n) (s.parQ15 (Reg.STR_PAN_PAN n)) 64).2
  (s.moveGain (Reg.STR_PAN_WIDTH n) (s.widthOf n) 64).2

/-- A bus: the sum of its sends, with the tags of those whose gain is not zero (R7, R216). -/
def Block.runBus (s : Block) (bus : Nat) (sends : List (Nat × Rat × Sample)) : Sample × Block :=
  let mine := (sends.filter (fun p => p.1 == bus)).map (·.2)
  let w := writeOut (accSum (mine.map (fun p => p.2.real))) (mine.foldl (fun t p => t ||| tagIf p.1 p.2.tag) 0)
  (w.1, s.blkSat (62 + bus) w.2)

/-! ## Bus processors (R217 to R219) -/

/-- The limiter of one version for an input in 2^-40 with its tag: the output x(n − LA), limited where LEN is 1, when it never exceeds the ceiling;
and whether a sum saturated (R186, R218). -/
def Ver.limit (v : Ver) (la : Nat) (on : Bool) (ceil : Rat) (rho : Rat) (x : Int × Byte) : (Int × Byte) × Ver × Bool :=
  let w := la + 1
  let mag : Rat := (if x.1 < 0 then -wide x.1 else wide x.1)
  let r : Rat := if mag ≤ ceil then 1 else ceil / mag
  let xs := (x :: v.limX).take w
  let rs := (r :: v.limR).take w
  let q := rs.foldl min 1
  let qs := (q :: v.limQ).take w
  let a := accSum ((qs ++ List.replicate (w - qs.length) 1).map (fun z => z / w))
  let b := accSum [v.limG, (1 - v.limG) * (1 - rho)]
  let g := min (wide a.1) (wide b.1)
  let y := xs.getD la (0, 0)
  let p := accSum [max (-ceil) (min ceil (g * wide y.1))]
  let sat := a.2 || b.2 || (on && p.2)
  ((if on then p.1 else y.1, y.2 ||| (if sat then tagC else 0)), { v with limX := xs, limR := rs, limQ := qs, limG := g }, sat)

/-- One graph sample of a bus processor (R217, R218). -/
def Block.runBusProc (s : Block) (p : Nat) (x : Sample) (key : KeyIn) : Sample × Block :=
  let b := 32 + p
  let (gin, s) := s.moveGain (Reg.BP_INGAIN_GAIN p) (s.parQ20 (Reg.BP_INGAIN_GAIN p)) 64
  let q := toQ5 (accSum [gin * x.real])
  let s := s.blkSat b q.2
  let tag := tagIf gin x.tag ||| (if q.2 then tagC else 0)
  let la := s.f (Reg.BP_CFG_LA p)
  let on := s.par (Reg.BP_LIM_LEN p) = 1
  let ceil := pow10Q (-(s.par (Reg.BP_LIM_CEIL p) : Rat) / 80)
  let rho := expQ (-1 / ((max 1 (s.par (Reg.BP_LIM_LREL p)) : Nat) * (s.fg : Rat)))
  let (y, s) := s.runVersions b (fun v =>
    let r := v.process true s.fg q.1 (key.map Sample.real)
    let l := r.2.1.limit la on ceil rho (r.1, tag ||| (if r.2.2 = 0 then 0 else tagC))
    (l.1, l.2.1, r.2.2 + (if l.2.2 then 1 else 0)))
  let v := (s.blk b).newest
  let s := ((s.put (Reg.BP_STAT_CGR p) (if dynMode v.set true = 0 then 0 else gainReduction v.det.g)).put (Reg.BP_STAT_LGR p)
    (if on && v.limG < 1 then gainReduction (2 * dbQ v.limG) else 0)).putB (Reg.BP_STAT_LIMACT p) (on && decide (v.limG < 1))
  let (gout, s) := s.moveGain (Reg.BP_OUTGAIN_GAIN p) (s.parQ20 (Reg.BP_OUTGAIN_GAIN p)) 64
  let w := writeOut (accSum [gout * wide y.1]) (tagIf gout y.2 ||| (s.blk b).scarfTag)
  (w.1, s.blkSat b w.2)

/-! ## Convolvers (R220 to R223) -/

/-- The sum of one bank over the history, its tags, and whether a coefficient was uncorrectable (R220, R447). -/
def Block.convolve (s : Block) (c bank taps : Nat) (hist : List Sample) : (Int × Byte) × Block :=
  let r := (List.range taps).foldl (fun (r : (Int × Bool) × Byte × Block) k =>
    let (w, good, t) := r.2.2.coefRead ((2 * c + bank) * 0x2000 + 4 * k) c
    let h : Rat := (w.toInt : Rat) / 2 ^ 31
    let x := hist.getD k {}
    (accAdd r.1 (h * x.real), r.2.1 ||| tagIf h x.tag ||| (if good then 0 else tagS), t)) ((0, false), 0, s)
  ((r.1.1, r.2.1 ||| (if r.1.2 then tagC else 0)), r.2.2.blkSat (40 + c) r.1.2)

/-- One graph sample of a convolver (R220, R223). -/
def Block.runConv (s : Block) (c : Nat) (x : Sample) : Sample × Block :=
  let b := 40 + c
  let s := s.modBlk b (fun y => { y with hist := (x :: y.hist).take 2048 })
  let y := s.blk b
  let taps := s.f (Reg.CNV_CFG_NTAPSM1 c) + 1
  let (old, s) := s.convolve c (y.cur.pos.getD 0 0) taps y.hist
  let (sum, s) := match y.next with
    | none => (old, s)
    | some (v, sc) =>
      let (new, s) := s.convolve c (v.pos.getD 0 0) taps y.hist
      let r := sc.mix old new
      (r.1, s.blkSat b r.2)
  let (g, s) := s.moveGain (Reg.CNV_GAIN_GAIN c) (s.parQ20 (Reg.CNV_GAIN_GAIN c)) 64
  let w := writeOut (accSum [g * wide sum.1]) (tagIf g sum.2 ||| y.scarfTag)
  (w.1, s.blkSat b w.2)

/-! ## Modulation blocks (R224 to R227) -/

/-- The four weights of the Lagrange read for a fraction d, from one sample nearer to two farther (R226). -/
def lagrange4 (d : Rat) : List Rat :=
  [-d * (d - 1) * (d - 2) / 6, (d + 1) * (d - 1) * (d - 2) / 2, -(d + 1) * d * (d - 2) / 2, (d + 1) * d * (d - 1) / 6]

/-- The interpolated read of a modulation line at a position in samples; position 0 is the block's input (R226). -/
def Block.modRead (s : Block) (b base len : Nat) (x : Sample) (pos : Rat) : (Int × Byte) × Block :=
  let p := max 1 (min ((len - 2 : Nat) : Rat) pos)
  let i := p.floor.toNat
  let ws := (lagrange4 (p - (i : Rat))).zip (List.range 4)
  let r := ws.foldl (fun (r : List Rat × Byte × Block) (w : Rat × Nat) =>
    if w.1 = (0 : Rat) then r else
    let j := i + w.2 - 1
    let (y, t) := if j = 0 then (x, r.2.2) else r.2.2.lineRead b base len j
    (r.1 ++ [w.1 * y.real], r.2.1 ||| y.tag, t)) ([], 0, s)
  let a := accSum r.1
  ((a.1, r.2.1 ||| (if a.2 then tagC else 0)), r.2.2.blkSat b a.2)

/-- A feedback field clamped to ±0.95 (R225). -/
def clampFb (v : Nat) : Rat := max (-95 / 100) (min (95 / 100) (((BitVec.ofNat 16 v).toInt : Rat) / 2 ^ 15))

/-- Stages of a phaser: the next lower even count, within 4 to 12 (R227). -/
def phaserStages (v : Nat) : Nat := max 4 (min 12 (v % 16 / 2 * 2))

/-- The all-pass chain of a phaser channel: stage states are pairs of last input and output; the chain's output and states, and whether a sum
saturated (R187, R227). -/
def allpass (a : Rat) (x : Int) : List (Int × Int) → Int × List (Int × Int) × Bool
  | [] => (x, [], false)
  | (x1, y1) :: rest =>
    let y := accSum [a * wide x, wide x1, -(a * wide y1)]
    let r := allpass a y.1 rest
    (r.1, (x, y.1) :: r.2.1, y.2 || r.2.2)

/-- The increment of an LFO for a rate in millihertz and a graph rate in kilohertz, to the nearest (R224; DESIGN CHOICE, assumption log 7). -/
def lfoInc (rate fg : Nat) : Nat := (ratRound ((rate : Rat) * 2 ^ 32 / (1000000 * fg))).toNat

/-- The phase of a number of degrees, to the nearest (R224; DESIGN CHOICE, assumption log 7). -/
def spreadPhase (degrees : Nat) : Nat := (ratRound ((degrees : Rat) * 2 ^ 32 / 360)).toNat

/-- One channel of a modulation block (R225 to R227). -/
def Block.runModChan (s : Block) (m e : Nat) (x : Sample) (l dry wet p0 p1 : Rat) : Sample × Block :=
  let b := 44 + m
  let type := s.f (Reg.MOD_CFG_TYPE m)
  let len := s.f (Reg.MOD_CFG_LINE m)
  let base := s.claimOffset b + 4 * len * e
  if type = 0 || type = 1 || type = 4 then
    let dry := if type = 4 then 0 else dry
    let (r, s) := s.modRead b base len x (p0 / 16 + p1 / 16 * l)
    let inp := if type = 1 then writeOut (accSum [x.real, clampFb (s.par (Reg.MOD_P_P m 2)) * wide r.1]) x.tag else (x, false)
    let s := (s.lineWrite b base len inp.1).blkSat b inp.2
    let w := writeOut (accSum [dry * x.real, wet * wide r.1]) (tagIf dry x.tag ||| tagIf wet r.2)
    (w.1, s.blkSat b w.2)
  else if type = 2 then
    let stages := phaserStages (s.par (Reg.MOD_P_P m 0))
    let hz : Rat := 1000 * s.fg
    let lim (v : Nat) : Rat := min (45 / 100 * hz) (max 20 (min 20000 (v : Rat)))
    let fmin := lim (s.par (Reg.MOD_P_P m 1))
    let fmax := lim (s.par (Reg.MOD_P_P m 2))
    let f := fmin * pow10Q ((1 + l) / 2 * dbQ (fmax / fmin) / 10)
    let t := tanPi (f / hz)
    let y := s.blk b
    let st := (List.range stages).map (fun j => (y.apX.getD (12 * e + j) 0, y.apY.getD (12 * e + j) 0))
    let u := accSum [x.real, clampFb (s.par (Reg.MOD_P_P m 0) / 2 ^ 16) * wide (y.apOut.getD e 0)]
    let r := allpass ((t - 1) / (t + 1)) u.1 st
    let upd (old : List Int) (h : Int × Int → Int) : List Int :=
      (List.range 24).map (fun i => if 12 * e ≤ i && i < 12 * e + stages then (r.2.1.map h).getD (i - 12 * e) 0 else old.getD i 0)
    let s := s.modBlk b (fun z => { z with apX := upd z.apX (fun q => q.1), apY := upd z.apY (fun q => q.2),
                                           apOut := (List.range 2).map (fun i => if i = e then r.1 else z.apOut.getD i 0) })
    let inner := u.2 || r.2.2
    let w := writeOut (accSum [dry * x.real, wet * wide r.1]) (tagIf dry x.tag ||| tagIf wet x.tag ||| (if inner then tagC else 0))
    (w.1, (s.blkSat b inner).blkSat b w.2)
  else if type = 3 then
    let v := s.par (Reg.MOD_P_P m 0)
    let depth : Rat := if v ≤ 0x8000 then (v : Rat) / 2 ^ 15 else Config.outOfRange (Reg.MOD_P m 0) v
    let g := 1 - depth * (1 + l) / 2
    let w := writeOut (accSum [x.real * g]) (tagIf g x.tag)
    (w.1, s.blkSat b w.2)
  else (x, s)

/-- One graph sample of a modulation block (R224 to R227). -/
def Block.runMod (s : Block) (m : Nat) (xl xr : Sample) : Sample × Sample × Block :=
  let b := 44 + m
  let type := s.f (Reg.MOD_CFG_TYPE m)
  let lines := type = 0 || type = 1 || type = 4
  let phase := (s.blk b).lfo
  let sine (p : Nat) : Rat := if s.par (Reg.MOD_LFO_SHAPE m) = 0 then q23 (sineAt p) else triangleAt p
  let (dry, s) := s.moveGain (Reg.MOD_MIX_DRY m) (s.parQ15 (Reg.MOD_MIX_DRY m)) 64
  let (wet, s) := s.moveGain (Reg.MOD_MIX_WET m) (s.parQ15 (Reg.MOD_MIX_WET m)) 64
  let move (s : Block) (j : Nat) : Rat × Block := if lines then s.moveGain (Reg.MOD_P_P m j) (s.par (Reg.MOD_P_P m j) : Nat) 256 else (0, s)
  let (p0, s) := move s 0
  let (p1, s) := move s 1
  let (l, s) := s.runModChan m 0 xl (sine phase) dry wet p0 p1
  let (r, s) := s.runModChan m 1 xr (sine ((phase + spreadPhase (s.par (Reg.MOD_LFO_SPREAD m))) % 2 ^ 32)) dry wet p0 p1
  let rate := max 10 (min 20000 (s.par (Reg.MOD_LFO_RATE m)))
  (l, r, s.modBlk b (fun y => { y with lfo := (phase + lfoInc rate s.fg) % 2 ^ 32 }))

/-! ## Delays (R228, R229) -/

/-- The read of a delay channel at a position in 1/256 sample, by linear interpolation (R228). -/
def Block.delayRead (s : Block) (b base len pos : Nat) : (Int × Byte) × Block :=
  let u : Rat := ((pos % 256 : Nat) : Rat) / 256
  let (y0, s) := s.lineRead b base len (pos / 256)
  if u = 0 then ((y0.int * 2 ^ 17, y0.tag), s)
  else
    let (y1, s) := s.lineRead b base len (pos / 256 + 1)
    let a := accSum [(1 - u) * y0.real, u * y1.real]
    ((a.1, y0.tag ||| y1.tag ||| (if a.2 then tagC else 0)), s.blkSat b a.2)

/-- The damping of a delay: Q1.15 from 0 to 0.99; what another value stands for is not stated (R228). -/
def Block.dampOf (s : Block) (d : Nat) : Rat :=
  let a := s.parQ15 (Reg.DLY_DAMP_A d)
  if 0 ≤ a && a ≤ 99 / 100 then a else Config.outOfRange (Reg.DLY_DAMP d) (s.par (Reg.DLY_DAMP_A d))

/-- Move a read position toward TIME by at most SLEW (R229). -/
def glide (slew pos goal : Nat) : Nat := if pos < goal then min goal (pos + max 1 slew) else max goal (pos - max 1 slew)

/-- The outputs of a delay for a sample, from memory alone (R173, R228). -/
def Block.delayOut (s : Block) (d : Nat) : Sample × Sample × Block :=
  let b := 48 + d
  let (level, s) := s.moveGain (Reg.DLY_LEVEL_GAIN d) (s.parQ20 (Reg.DLY_LEVEL_GAIN d)) 64
  let s := if s.par (Reg.DLY_CTRL_MODE d) = 0 then
      s.modBlk b (fun y => { y with cur := { y.cur with pos := (List.range 2).map (fun ch =>
        glide (s.par (Reg.DLY_CTRL_SLEW d)) (y.cur.pos.getD ch 256) (s.clampTime d ch)) } })
    else s
  let chan (s : Block) (ch : Nat) : Sample × Block :=
    let len := s.f (Reg.DLY_LEN_LEN d ch)
    let base := s.claimOffset b + (if ch = 0 then 0 else 4 * s.f (Reg.DLY_LEN_LEN d 0))
    let y := s.blk b
    let (old, s) := s.delayRead b base len (y.cur.pos.getD ch 256)
    let (r, s) := match y.next with
      | none => (old, s)
      | some (v, sc) =>
        let (new, s) := s.delayRead b base len (v.pos.getD ch 256)
        let r := sc.mix old new
        (r.1, s.blkSat b r.2)
    let a := s.dampOf d
    let f := accSum [(1 - a) * wide r.1, a * wide (y.damp.getD ch 0)]
    let s := (s.modBlk b (fun z => { z with damp := (List.range 2).map (fun i => if i = ch then f.1 else z.damp.getD i 0) })).blkSat b f.2
    let w := writeOut (accSum [level * wide f.1]) (tagIf (level * (1 - a)) r.2 ||| (if f.2 then tagC else 0) ||| y.scarfTag)
    (w.1, s.blkSat b w.2)
  let (l, s) := chan s 0
  let (r, s) := chan s 1
  (l, r, s)

/-- A feedback clamped to ±0.995 (R228). -/
def clampDelayFb (q : Rat) : Rat := max (-995 / 1000) (min (995 / 1000) q)

/-- A delay writes its lines (R228). -/
def Block.delayIn (s : Block) (d : Nat) (xl xr : Sample) : Block :=
  let b := 48 + d
  let fb := clampDelayFb (s.parQ15 (Reg.DLY_FB_FB d))
  let xfb := clampDelayFb (s.parQ15 (Reg.DLY_FB_XFB d))
  let f (ch : Nat) : Rat := wide ((s.blk b).damp.getD ch 0)
  let one (s : Block) (ch : Nat) (x : Sample) : Block :=
    let len := s.f (Reg.DLY_LEN_LEN d ch)
    let base := s.claimOffset b + (if ch = 0 then 0 else 4 * s.f (Reg.DLY_LEN_LEN d 0))
    let w := writeOut (accSum [x.real, fb * f ch, xfb * f (1 - ch)]) x.tag
    (s.lineWrite b base len w.1).blkSat b w.2
  one (one s 0 xl) 1 xr

/-! ## Reverbs (R230, R231) -/

/-- popcount of i AND j is odd (R230). -/
def hadamardNeg (i j : Nat) : Bool := ((List.range 4).filter (fun k => i.testBit k && j.testBit k)).length % 2 == 1

/-- Byte offset of line i of a reverb, of its left pre-delay line (16) and of its right one (17) (R607). -/
def Block.rvbLine (s : Block) (v i : Nat) : Nat :=
  s.claimOffset (52 + v) + 4 * ((List.range (min i 16)).map (fun j => s.f (Reg.RVB_LEN_LEN v j))).sum +
    (if i = 17 then 4 * s.f (Reg.RVB_CFG_PREMAX v) else 0)

/-- The outputs of a reverb for a sample, from memory alone (R173, R230 steps 2 and 4); during a scarf of its pre-delay they carry X (R241). -/
def Block.reverbOut (s : Block) (v : Nat) : Sample × Sample × Block :=
  let b := 52 + v
  let (level, s) := s.moveGain (Reg.RVB_LEVEL_GAIN v) (s.parQ20 (Reg.RVB_LEVEL_GAIN v)) 64
  let old := (s.blk b).damp
  let x := (s.blk b).scarfTag
  let r := (List.range 16).foldl (fun (r : List Int × List Int × List Byte × Block) i =>
    let t := r.2.2.2
    let (g, t) := t.moveGain (Reg.RVB_DAMP_G v i) (max 0 (min (9999 / 10000) (t.parQ15 (Reg.RVB_DAMP_G v i)))) 256
    let (a, t) := t.moveGain (Reg.RVB_DAMP_A v i) (max 0 (min (99 / 100) (t.parQ15 (Reg.RVB_DAMP_A v i)))) 256
    let (y, t) := t.lineRead b (t.rvbLine v i) (t.f (Reg.RVB_LEN_LEN v i)) (t.f (Reg.RVB_LEN_LEN v i))
    let d := accSum [(1 - a) * y.real, a * wide (old.getD i 0)]
    let f := accSum [g * wide d.1]
    (r.1 ++ [d.1], r.2.1 ++ [f.1], r.2.2.1 ++ [tagIf (g * level) y.tag ||| (if d.2 || f.2 then tagC else 0)], (t.blkSat b d.2).blkSat b f.2))
    ([], [], [], s)
  let s := r.2.2.2.modBlk b (fun y => { y with damp := r.1, loop := r.2.1 })
  let side (par : Nat) : Sample × Bool :=
    let is := (List.range 16).filter (fun i => i % 2 == par)
    let sum := accSum (is.map (fun i => (if i % 4 < 2 then (1 : Rat) else -1) / 4 * wide (r.2.1.getD i 0)))
    let tag := is.foldl (fun t i => t ||| r.2.2.1.getD i 0) 0
    let w := writeOut (accSum [level * wide sum.1]) (tag ||| x ||| (if sum.2 then tagC else 0))
    (w.1, sum.2 || w.2)
  ((side 0).1, (side 1).1, (s.blkSat b (side 0).2).blkSat b (side 1).2)

/-- A reverb writes its lines, with the tags of its input samples alone (R188, R230 steps 1 and 3). -/
def Block.reverbIn (s : Block) (v : Nat) (xl xr : Sample) : Block :=
  let b := 52 + v
  let y := s.blk b
  let premax := s.f (Reg.RVB_CFG_PREMAX v)
  let pre (s : Block) (side : Nat) : (Int × Byte) × Block :=
    let (old, s) := s.delayRead b (s.rvbLine v (16 + side)) premax (256 * y.cur.pos.getD 0 1)
    match y.next with
    | none => (old, s)
    | some (n, sc) =>
      let (new, s) := s.delayRead b (s.rvbLine v (16 + side)) premax (256 * n.pos.getD 0 1)
      let r := sc.blend old new
      (r.1, s.blkSat b r.2)
  let (pl, s) := pre s 0
  let (pr, s) := pre s 1
  let s := s.forAll (List.range 16) (fun i s =>
    let p := if i % 2 = 0 then pl else pr
    let terms := (List.range 16).map (fun j => (if hadamardNeg i j then (-1 : Rat) else 1) / 4 * wide (y.loop.getD j 0))
    let w := writeOut (accSum (terms ++ [1 / 4 * wide p.1])) p.2
    (s.lineWrite b (s.rvbLine v i) (s.f (Reg.RVB_LEN_LEN v i)) w.1).blkSat b w.2)
  (s.lineWrite b (s.rvbLine v 16) premax xl).lineWrite b (s.rvbLine v 17) premax xr

/-! ## Tone generators (R232 to R236) -/

/-- The correction of a band-limited edge (R234). -/
def edgeCorrection (t d : Rat) : Rat :=
  if t < d then let v := t / d; 2 * v - v * v - 1
  else if 1 - d < t then let v := (t - 1) / d; v * v + 2 * v + 1
  else 0

/-- One step of the LFSR (R235). -/
def lfsrStep (r : BitVec 32) : BitVec 32 := if r.getLsbD 0 then (r >>> 1) ^^^ 0x80200003 else r >>> 1

/-- White noise from the LFSR: bits [31:8] as Q1.23 (R235). -/
def whiteNoise (r : Nat) : Rat := q23 ((BitVec.ofNat 32 r).extractLsb' 8 24).toInt

/-- A first-order factor s + 2πf under the bilinear transform at Fg in kilohertz: its coefficients of 1 and of z^-1 (R235). -/
def bilinear (fg : Nat) (hz : Rat) : Rat × Rat := (2000 * fg + 2 * piQ * hz, 2 * piQ * hz - 2000 * fg)

/-- A polynomial in z^-1 times a first-order factor. -/
def polyMul (p : List Rat) (q : Rat × Rat) : List Rat := (List.range (p.length + 1)).map (fun i =>
  q.1 * p.getD i 0 + (if i = 0 then 0 else q.2 * p.getD (i - 1) 0))

/-- The squared magnitude of a first-order factor at 1 kHz. -/
def powerAtKilohertz (fg : Nat) (q : Rat × Rat) : Rat := q.1 * q.1 + q.2 * q.2 + 2 * q.1 * q.2 * cosPi (2 / fg)

/-- The poles of the pink-noise filter (R235). -/
def pinkPoles (fg : Nat) : List (Rat × Rat) := [12, 120, 1200, 12000].map (bilinear fg)

/-- Its zeros, the one at half the graph rate that the transform adds among them (R235). -/
def pinkZeros (fg : Nat) : List (Rat × Rat) := (1, 1) :: [38, 380, 3800].map (bilinear fg)

/-- Numerator and denominator of the pink-noise filter: unity gain at 1 kHz (R235). -/
def pinkFilter (fg : Nat) : List Rat × List Rat :=
  let den := (pinkPoles fg).foldl polyMul [1]
  let num := (pinkZeros fg).foldl polyMul [1]
  let power (qs : List (Rat × Rat)) : Rat := (qs.map (powerAtKilohertz fg)).foldl (· * ·) 1
  let g := sqrtQ (power (pinkPoles fg) / power (pinkZeros fg))
  (num.map (fun c => g * c / den.getD 0 1), den.map (fun c => c / den.getD 0 1))

/-- One graph sample of a version of a generator: its waveform in 2^-40, the version after it, and whether a sum saturated (R186, R232 to R235). -/
def Ver.tone (v : Ver) (fg inc : Nat) : (Int × Bool) × Ver :=
  let t : Rat := (v.phase : Rat) / 2 ^ 32
  let d : Rat := (inc : Rat) / 2 ^ 32
  let half : Rat := if t < 1 / 2 then t + 1 / 2 else t - 1 / 2
  let square : Rat := (if t < 1 / 2 then 1 else -1) + edgeCorrection t d - edgeCorrection half d
  let noise := whiteNoise v.lfsr
  let xs := (noise :: v.pinkX).take 5
  let c := pinkFilter fg
  let pink := accSum ((List.range 5).map (fun i => c.1.getD i 0 * xs.getD i 0) ++
    (List.range 4).map (fun i => -(c.2.getD (i + 1) 0 * v.pinkY.getD i 0)))
  let tri := accSum [(1 - 1 / 2 ^ 12) * wide v.tri, 4 * d * square]
  let y : Int × Bool := match setField v.set 0 0 3 with
    | 0 => (q40 (q23 (sineAt v.phase)), false)
    | 1 => (q40 (triangleAt v.phase), false)
    | 2 => tri
    | 3 => (q40 (2 * t - 1), false)
    | 4 => (q40 (2 * t - 1 - edgeCorrection t d), false)
    | 5 => (q40 noise, false)
    | 6 => pink
    | _ => (0, false)
  (y, { v with phase := (v.phase + inc) % 2 ^ 32, tri := tri.1, pinkX := xs, pinkY := (wide pink.1 :: v.pinkY).take 4,
               lfsr := ((List.range 32).foldl (fun r _ => lfsrStep r) (BitVec.ofNat 32 v.lfsr)).toNat })

/-- One graph sample of a tone generator: tag byte 0 but for the X of a scarf and the C of a saturation (R187, R189, R234, R241). -/
def Block.runTone (s : Block) (g : Nat) : Sample × Block :=
  let b := 54 + g
  let inc := s.par (Reg.TG_INC_INC g)
  let (y, s) := s.runVersions b (fun v => let r := v.tone s.fg inc; ((r.1.1, if r.1.2 then tagC else 0), r.2, if r.1.2 then 1 else 0))
  let (level, s) := s.moveGain (Reg.TG_LEVEL_GAIN g) (s.parQ20 (Reg.TG_LEVEL_GAIN g)) 64
  let w := writeOut (accSum [level * wide y.1]) y.2
  (w.1, s.blkSat b w.2)

end Sys2Proof.Machine
end

