-- ==== Sys2Proof/Machine/Chains.lean ====
section
/-! DEFINITION. Half-band chains (R108 to R131): stages, shifts, saturation, settling, restarts. Chains 0 to 15 decimate, 16 to 35 interpolate. -/

namespace Sys2Proof.Machine

/-- The index of a chain among all 36. -/
def chainIx : ChainId → Nat
  | .dec n => n
  | .int m => 16 + m

/-- The chain at an index. -/
def chainOf (c : Nat) : ChainId := if c < 16 then .dec c else .int (c - 16)

/-- Whether a chain exists (R112, R115). -/
def chainOk : ChainId → Bool
  | .dec n => n < 16
  | .int m => m < 20

/-- A field that both kinds of chain have. -/
def chainFld (d i : Nat → Fld) : ChainId → Fld
  | .dec n => d n
  | .int m => i m

/-- EN. -/
def chainEn : ChainId → Fld := chainFld Reg.CHAIN_DCFG_EN Reg.CHAIN_ICFG_EN
/-- SHORT. -/
def chainShort : ChainId → Fld := chainFld Reg.CHAIN_DCFG_SHORT Reg.CHAIN_ICFG_SHORT
/-- HRT. -/
def chainHrt : ChainId → Fld := chainFld Reg.CHAIN_DCFG_HRT Reg.CHAIN_ICFG_HRT
/-- The shift word. -/
def chainShift : ChainId → Fld := chainFld Reg.CHAIN_DSHIFT_SHIFT Reg.CHAIN_ISHIFT_SHIFT
/-- UNSET. -/
def chainUnset : ChainId → Fld := chainFld Reg.CHAIN_DSTAT_UNSET Reg.CHAIN_ISTAT_UNSET
/-- LEFT. -/
def chainLeft : ChainId → Fld := chainFld Reg.CHAIN_DSTAT_LEFT Reg.CHAIN_ISTAT_LEFT
/-- DLY. -/
def chainDly : ChainId → Fld := chainFld Reg.CHAIN_DDLY_DLY Reg.CHAIN_IDLY_DLY
/-- SAT, the counter. -/
def chainSat : ChainId → Fld := chainFld Reg.CHAIN_DSAT_SAT Reg.CHAIN_ISAT_SAT
/-- The SETTLED event. -/
def chainSettled : ChainId → Fld := chainFld Reg.CHAIN_DEVT_SETTLED Reg.CHAIN_IEVT_SETTLED
/-- The SAT event. -/
def chainSatEvt : ChainId → Fld := chainFld Reg.CHAIN_DEVT_SAT Reg.CHAIN_IEVT_SAT
/-- The SHIFT event. -/
def chainShiftEvt : ChainId → Fld := chainFld Reg.CHAIN_DEVT_SHIFT Reg.CHAIN_IEVT_SHIFT
/-- The RESTART event. -/
def chainRestarted : ChainId → Fld := chainFld Reg.CHAIN_DEVT_RESTART Reg.CHAIN_IEVT_RESTART

/-- The chain runs: EN, and a decimation chain only behind a port that is an input (R112; DEDUCED, assumption log 89). -/
def Block.chainRuns (s : Block) : ChainId → Bool
  | .dec n => s.on (Reg.CHAIN_DCFG_EN n) && s.isInput n
  | .int m => s.on (Reg.CHAIN_ICFG_EN m)

/-- The hidden record of a chain. -/
def Block.chain (s : Block) (c : ChainId) : ChainSt := Tab.get (fun _ => {}) s.chains.chains (chainIx c)

/-- Change the hidden record of a chain. -/
def Block.modChain (s : Block) (c : ChainId) (h : ChainSt → ChainSt) : Block :=
  { s with chains := { s.chains with chains := Tab.upd (fun _ => {}) s.chains.chains (chainIx c) h } }

/-- The tick that runs, counted since POR. -/
def Block.tickNo (s : Block) : Nat := s.time.now / 16

/-! ## Stages -/

/-- Taps of a stage (R108). -/
def hbTaps (short : Bool) : Nat → Nat
  | 1 | 2 => 7
  | 3 | 4 => 11
  | 5 => 15
  | 6 => 19
  | 7 => 31
  | _ => if short then 43 else 127

/-- The L1 norm of a stage (R108); 9 is HB8 short. -/
def hbNorm : Nat → Rat
  | 1 | 2 => 119 / 100
  | 3 | 4 => 127 / 100
  | 5 => 133 / 100
  | 6 => 138 / 100
  | 7 => 147 / 100
  | 8 => 171 / 100
  | _ => 156 / 100

/-- The coefficients of a stage at the odd distances 3, 5, … from its centre. The sets are fixed and cannot be read; whatever they are they have the L1
norm of R108 to its two decimals (assumption log 6: a free set without it counts as the one with the first of these distances alone). -/
def hbFar (key taps : Nat) : List Rat :=
  let l := (List.range ((taps - 3) / 4)).map (fun i => Config.hbCoef key (2 * i + 3))
  let near := 1 / 2 - l.foldl (· + ·) 0
  let norm := (1 + 2 * |near| + 2 * l.foldl (fun a x => a + |x|) 0) / 2
  if |norm - hbNorm key| ≤ 1 / 200 then l else [(1 - hbNorm key) / 2]

/-- The coefficient of tap j of a stage: 1 at the centre, zero at even distances, and a DC gain of exactly 2 before the shift (R109). -/
def hbTap (short : Bool) (stage j : Nat) : Rat :=
  let taps := hbTaps short stage
  let c := (taps - 1) / 2
  let d := if j < c then c - j else j - c
  let far := hbFar (if stage = 8 && short then 9 else stage) taps
  if d = 0 then 1
  else if d % 2 = 0 then 0
  else if d = 1 then 1 / 2 - far.foldl (· + ·) 0
  else far.getD ((d - 3) / 2) 0

/-- The stages a chain runs, in the order it runs them (R113 to R116). -/
def Block.chainStages (s : Block) (c : ChainId) : List Nat :=
  let top := if s.on Reg.CHAIN_GLB_CFG_FG then 7 else 8
  match c with
  | .dec n =>
    let e := if s.on (Reg.CHAIN_DCFG_ENTRY n) then 2 else 1
    (List.range (top + 1)).filter (fun k => e ≤ k)
  | .int m =>
    let first := if s.on (Reg.CHAIN_ICFG_HRT m) then 6 else top
    let sink := s.f (Reg.CHAIN_ICFG_SINK m)
    let last := if sink = 0x12 || sink = 0x13 then 5 else 1
    ((List.range (first + 1)).filter (fun k => last ≤ k)).reverse

/-- Span of a stage in ticks: (taps − 1) samples at its higher rate (R108). -/
def hbSpan (short : Bool) (stage : Nat) : Nat := (hbTaps short stage - 1) * 2 ^ (stage - 1)

/-- Span and delay of a chain in ticks (R117, R127). -/
def Block.chainSpan (s : Block) (c : ChainId) : Nat := ((s.chainStages c).map (hbSpan (s.on (chainShort c)))).foldl (· + ·) 0

/-- Output period of a chain in ticks. -/
def Block.chainPeriod (s : Block) (c : ChainId) : Nat :=
  match c, (s.chainStages c).getLast? with
  | .dec _, some k => 2 ^ k
  | .int _, some k => 2 ^ (k - 1)
  | _, none => 1

/-- N_U of R127. -/
def Block.chainNU (s : Block) (c : ChainId) : Nat := (s.chainSpan c + s.chainPeriod c - 1) / s.chainPeriod c

/-- N_U of the high-rate tap (R127). -/
def Block.tapNU (s : Block) (n : Nat) : Nat :=
  ((((s.chainStages (.dec n)).filter (fun k => k ≤ 6)).map (hbSpan false)).foldl (· + ·) 0 + 63) / 64

/-- SHIFT of a stage (R109). -/
def Block.stageShift (s : Block) (c : ChainId) (k : Nat) : Nat := s.f (chainShift c) / 2 ^ (3 * (k - 1)) % 8

/-- A stage's result from the taps that meet samples: shifted, rounded, saturated to Q5.23, or to Q1.23 at the end (R110). The Bool says that it
saturated. -/
def stageResult (pairs : List (Rat × (Int × Byte))) (shift : Nat) (last : Bool) : Int × Byte × Bool :=
  let acc : Rat := pairs.foldl (fun a p => a + p.1 * p.2.1) 0
  let v := ratRound (acc / 2 ^ shift)
  let w := if last then 24 else 28
  let tag := pairs.foldl (fun t p => if p.1 = 0 then t else t ||| p.2.2) 0
  if fitsSigned w v then (v, tag, false) else (satInt w v, tag ||| tagC, true)

/-- A decimating stage's result over its span (R108). -/
def decResult (short : Bool) (stage : Nat) (hist : List (Int × Byte)) (shift : Nat) (last : Bool) : Int × Byte × Bool :=
  stageResult (((List.range (hbTaps short stage)).map (hbTap short stage)).zip hist) shift last

/-- An interpolating stage's result: the input stands at every second tap, the even ones where a new input has just come (R108, R109). -/
def intResult (short : Bool) (stage : Nat) (hist : List (Int × Byte)) (odd : Bool) (shift : Nat) (last : Bool) : Int × Byte × Bool :=
  let js := (List.range (hbTaps short stage)).filter (fun j => j % 2 == if odd then 1 else 0)
  stageResult ((js.map (fun j => 2 * hbTap short stage j)).zip hist) shift last

/-- Count a saturation of a chain (R110). -/
def Block.countSat (s : Block) (c : ChainId) (sat : Bool) : Block :=
  s.onlyIf sat (fun s => (s.bump (chainSat c)).raise (chainSatEvt c))

/-- Put an input into a stage's span. -/
def Block.pushStage (s : Block) (c : ChainId) (k : Nat) (item : Int × Byte) : Block :=
  s.modChain c (fun x => { x with hist := Tab.upd (fun _ => []) x.hist k (fun h => (item :: h).take (hbTaps (s.on (chainShort c)) k)) })

/-- The high-rate tap of a decimation chain takes the output of HB6 (R114). -/
def Block.setTap (s : Block) (n : Nat) (v : Int) (tag : Byte) : Block :=
  if !s.on (Reg.CHAIN_DCFG_HRT n) then s else
  let y := Sample.sat v tag
  (s.countSat (.dec n) (!fitsSigned 24 v)).modChain (.dec n) (fun x =>
    { x with taps := ((s.tickNo, if x.tapLeft = 0 then y else y.withTag tagU) :: x.taps).take 4, tapLeft := x.tapLeft - 1 })

/-- Feed a decimation chain's stages with a sample at tick t; the last stage's result waits for CHAIN_OUTPUT (R108, R119). -/
def Block.decRun (s : Block) (n t : Nat) (item : Int × Byte) : List Nat → Block
  | [] => s
  | k :: rest =>
    let c : ChainId := .dec n
    let s := s.pushStage c k item
    if (t - (s.chain c).start) % 2 ^ k ≠ 0 then s else
    let r := decResult (s.on (chainShort c)) k (Tab.get (fun _ => []) (s.chain c).hist k) (s.stageShift c k) rest.isEmpty
    let s := s.countSat c r.2.2
    let s := if k = 6 then s.setTap n r.1 r.2.1 else s
    if rest.isEmpty then s.modChain c (fun x => { x with ready := some ⟨BitVec.ofInt 24 r.1, r.2.1⟩ })
    else s.decRun n t (r.1, r.2.1) rest

/-- Run an interpolation chain's stages at tick t (R108, R125). -/
def Block.intRun (s : Block) (m t : Nat) : List Nat → Block
  | [] => s
  | k :: rest =>
    let c : ChainId := .int m
    let d := t - (s.chain c).start
    let s := if d % 2 ^ (k - 1) ≠ 0 then s else
      let r := intResult (s.on (chainShort c)) k (Tab.get (fun _ => []) (s.chain c).hist k) (d % 2 ^ k != 0) (s.stageShift c k) rest.isEmpty
      let s := s.countSat c r.2.2
      match rest with
      | [] => s.modChain c (fun x => { x with ready := some ⟨BitVec.ofInt 24 r.1, r.2.1⟩ })
      | k' :: _ => s.pushStage c k' (r.1, r.2.1)
    s.intRun m t rest

/-- Feed an interpolation chain with the sample at its input, and run it. -/
def Block.intFeed (s : Block) (m : Nat) : Block :=
  let c : ChainId := .int m
  match s.chainStages c with
  | [] => s
  | k :: rest => ((s.pushStage c k ((s.chain c).input.int, (s.chain c).input.tag))).intRun m s.tickNo (k :: rest)

/-- A decimation chain takes its port's sample at tick t: every one at HB1, every second at HB2 (R112, R113). -/
def Block.decFeed (s : Block) (n t : Nat) : Block :=
  if s.on (Reg.CHAIN_DCFG_ENTRY n) && (t - (s.chain (.dec n)).start) % 2 ≠ 0 then s
  else s.decRun n t ((s.portIn n).int, (s.portIn n).tag) (s.chainStages (.dec n))

/-- A chain has started and no restart of it waits. -/
def Block.chainGoing (s : Block) (c : ChainId) : Bool :=
  s.chainRuns c && (s.chain c).restart.isNone && (s.chain c).start ≤ s.tickNo

/-- What the chains do at a tick: decimation chains take their port's sample, interpolation chains run on between their inputs; one with a
high-rate source takes it every 64 ticks (R112 to R114). -/
def Block.chainTick (s : Block) : Block :=
  if !s.audioOn then s else
  let t := s.tickNo
  let s := s.forAll ((List.range 16).filter (fun n => s.chainGoing (.dec n))) (fun n s => s.decFeed n t)
  s.forAll ((List.range 20).filter (fun m => s.chainGoing (.int m))) (fun m s =>
    let d := t - (s.chain (.int m)).start
    if s.on (Reg.CHAIN_ICFG_HRT m) then (if d % 64 = 0 then s.intFeed m else s.intRun m t (s.chainStages (.int m)))
    else if d % s.graphPeriod = 0 then s else s.intRun m t (s.chainStages (.int m)))

/-- A graph instant presents the sinks of the graph-fed interpolation chains (R168, R179). -/
def Block.chainInstant (s : Block) (sink : Nat → Sample) : Block :=
  s.forAll ((List.range 20).filter (fun m => s.chainRuns (.int m) && !s.on (Reg.CHAIN_ICFG_HRT m))) (fun m s =>
    (s.modChain (.int m) (fun x => { x with input := sink m })).onlyIf (s.chainGoing (.int m)) (fun s => s.intFeed m))

/-! ## Settling, restarts -/

/-- Start a count of outputs tagged U from the chain's next output (R127). -/
def Block.startU (s : Block) (c : ChainId) : Block :=
  let s := ((s.put (chainLeft c) (s.chainNU c)).raise (chainUnset c)).modChain c (fun x => { x with uAt := none, uOld := 0 })
  match c with
  | .dec n => s.modChain c (fun x => { x with tapLeft := s.tapNU n })
  | .int _ => s

/-- Clear a chain's state (R121). -/
def Block.clearChain (s : Block) (c : ChainId) : Block := s.modChain c (fun x => { x with hist := [], ready := none, srst := false })

/-- OFS and the delay of a chain that restarts at tick t: off the frame grid only where a graft restarts a decimation chain (R117, R123 to R125). -/
def Block.setChainDelay (s : Block) (c : ChainId) (t : Nat) (graft : Bool) : Block :=
  let p := s.graphPeriod
  match c with
  | .dec n =>
    let grid := (s.time.tick + 256 * (s.tickNo / 256 + 1) + t - s.tickNo) % 256
    let ofs := if graft then (p - grid % p) % p else 0
    (s.put (Reg.CHAIN_DSTAT_OFS n) ofs).put (Reg.CHAIN_DDLY_DLY n) (s.chainSpan c / 2 + ofs)
  | .int m => s.put (Reg.CHAIN_IDLY_DLY m) (s.chainSpan c / 2)

/-- Restart a chain at tick t from zero state, its phase anew (R119 to R125). Its first input is that of tick t. -/
def Block.restartChain (s : Block) (c : ChainId) (t : Nat) (graft : Bool) : Block :=
  let s := ((s.clearChain c).modChain c (fun x => { x with start := t, restart := none })).startU c
  let s := (s.setChainDelay c t graft).onlyIf graft (fun s => s.raise (chainRestarted c))
  if t ≠ s.tickNo || !s.audioOn then s else
  match c with
  | .dec n => s.decFeed n t
  | .int m => s.onlyIf (s.on (Reg.CHAIN_ICFG_HRT m) || !s.time.graphDue) (fun s => s.intFeed m)

/-- The tick at which a graft at this tick restarts a chain (R122, R125): with GRID = 1 the first output instant of the frame grid, with GRID = 0 at
once, an interpolation chain at its next input instant. -/
def Block.restartTick (s : Block) (c : ChainId) : Nat :=
  let next (p : Nat) : Nat := s.tickNo + (p - s.time.tick % p) % p
  match c with
  | .dec n => if s.on (Reg.CHAIN_DCFG_GRID n) then next s.graphPeriod else s.tickNo
  | .int m =>
    if s.on (Reg.CHAIN_ICFG_HRT m) then next 64
    else if s.time.tick % s.graphPeriod = 0 && !s.time.graphDue then s.tickNo + s.graphPeriod else next s.graphPeriod

/-- A graft changes a chain (R122, R124, R259): its delay stands from the commit on; it restarts from cleared state at its tick, and its first output
begins its fade-in. -/
def Block.graftChain (s : Block) (c : ChainId) : Block :=
  if !s.chainRuns c then s.modChain c (fun _ => {})
  else
    let t := s.restartTick c
    (s.modChain c (fun _ => { restart := some (t, true), out := ⟨0, tagX⟩, cut := some ⟨0, true, none⟩ })).setChainDelay c t true

/-- The common sync (R120): every chain of the image restarts at tick 0 of this frame. -/
def Block.commonSync (s : Block) : Block :=
  let s := { s with chains := { s.chains with syncDue := false } }
  let s := s.put Reg.CHAIN_GLB_SYNC_FRAME (s.f Reg.PWR_FRAME_FRAME)
  s.forAll ((List.range 36).filter (fun c => s.chainRuns (chainOf c))) (fun c s => s.restartChain (chainOf c) s.tickNo false)

/-- CHAIN_RESTART (R122, R125): the tick has come at which a graft restarts the chain. -/
def Block.chainRestartOp (s : Block) (c : ChainId) : Block :=
  match (s.chain c).restart with
  | some (t, graft) => if t ≤ s.tickNo then (s.modChain c (fun x => { x with restart := none })).restartChain c t graft else s
  | none => s

/-- Take one output off the counts of U (R127, R129): before the first output at a new shift those of an earlier count, from it on LEFT. The Bool says
that the output is tagged U. -/
def Block.countU (s : Block) (c : ChainId) : Block × Bool :=
  let x := s.chain c
  let left := s.f (chainLeft c)
  match x.uAt with
  | some u =>
    if s.tickNo < u then (s.modChain c (fun y => { y with uOld := y.uOld - 1 }), x.uOld ≠ 0)
    else ((s.modChain c (fun y => { y with uAt := none, uOld := 0 })).put (chainLeft c) (left - 1), left ≠ 0)
  | none => if left ≠ 0 then (s.put (chainLeft c) (left - 1), true) else (s, false)

/-- CHAIN_OUTPUT (R121, R127, R128): the chain delivers the output of its output instant; while U counts it is tagged U; the first one without
U settles the chain. A speaker's graph feed takes it (R288), and the ring of the Listen path (R540). -/
def Block.chainOutputOp (s : Block) (c : ChainId) : Block :=
  if !s.chainRuns c then s else
  match (s.chain c).ready with
  | none => s
  | some x =>
    let srst := (s.chain c).srst
    let s := if srst then (s.clearChain c).startU c else s.modChain c (fun y => { y with ready := none })
    let x := if srst then Sample.zero else x
    let r := s.countU c
    let s := r.1
    let s := s.onlyIf (!r.2 && (s.chain c).uAt.isNone && s.on (chainUnset c)) (fun s => (s.put (chainUnset c) 0).raise (chainSettled c))
    let x := if r.2 then x.withTag tagU else x
    -- the fade-in of a cut begins at the first output after C (R258, R259)
    let s := s.modChain c (fun y => { y with cut := y.cut.map (fun f => { f with at' := some (f.at'.getD s.time.now) }) })
    let x := s.faded (s.chain c).cut (match c with | .int _ => true | .dec _ => false) x
    let s := s.modChain c (fun y => { y with out := x })
    match c with
    | .dec n =>
      if s.lsn.running && s.f Reg.PWR_LSN_CFG_PORT = n then { s with lsn := { s.lsn with chain := (x :: s.lsn.chain).take 256 } } else s
    | .int m =>
      let sink := s.f (Reg.CHAIN_ICFG_SINK m)
      if sink = 0x12 || sink = 0x13 then s.modSpk (sink - 0x12) (fun y => { y with graph := x }) else s

/-- SRST (R121, R130, R131): absorbed by a restart that waits, or by a graft's restart of the same tick. -/
def Block.srstOp (s : Block) (c : ChainId) : Block :=
  let x := s.chain c
  if !s.chainRuns c || x.restart.isSome || (x.start = s.tickNo && x.cut.isSome) then s else s.modChain c (fun x => { x with srst := true })

/-- The tick of the first output of a chain at the new shifts of the changed stages (R129). -/
def Block.shiftTick (s : Block) (c : ChainId) (changed : List Nat) : Nat :=
  match c with
  | .dec _ => s.tickNo + 1
  | .int _ =>
    let next (k : Nat) : Nat := let p := 2 ^ (k - 1); s.tickNo + p - (s.tickNo - (s.chain c).start) % p
    changed.foldl (fun a k => min a (next k)) (s.tickNo + 128)

/-- A shift of stages that the chain runs has changed (R129, R130): the outputs up to the first at the new shift keep the count that runs, and from
it N_U outputs carry U; where an earlier write still waits for its own first output, both counts are served. -/
def Block.shiftU (s : Block) (c : ChainId) (changed : List Nat) : Block :=
  let x := s.chain c
  let u := s.shiftTick c changed
  let first := match x.uAt with
    | some v => if s.tickNo < v then v else u
    | none => u
  let old := match x.uAt with
    | some v => if s.tickNo < v then x.uOld else s.f (chainLeft c)
    | none => s.f (chainLeft c)
  let apart := (max first u - min first u) / s.chainPeriod c
  let s := ((s.put (chainLeft c) (s.chainNU c + apart)).raise (chainUnset c)).modChain c (fun y => { y with uAt := some (min first u), uOld := old })
  match c with
  | .dec n => s.onlyIf (changed.any (· ≤ 6)) (fun s => s.modChain c (fun y => { y with tapLeft := s.tapNU n }))
  | .int _ => s

/-- CHAIN_SHIFT_WRITE (R129, R131, R132): stored at once; a change of a stage the chain runs starts a count of U. -/
def Block.shiftWriteOp (s : Block) (c : ChainId) (w : Nat) : Block :=
  if !s.chainRuns c then s else
  let old := s.f (chainShift c)
  let s := s.put (chainShift c) w
  let changed := (s.chainStages c).filter (fun k => s.stageShift c k != old / 2 ^ (3 * (k - 1)) % 8)
  if changed.isEmpty then s else (s.shiftU c changed).raise (chainShiftEvt c)

/-- The interpolation chain of the image whose sink has a code (R115). -/
def Block.chainTo (s : Block) (code : Nat) : Option Nat :=
  (List.range 20).find? (fun m => s.on (Reg.CHAIN_ICFG_EN m) && s.f (Reg.CHAIN_ICFG_SINK m) == code)

/-- CHAIN_GLB_UNSET: decimation chains with UNSET = 1 (R128, R132). -/
def Block.unsetDec (s : Block) : Nat :=
  (List.range 16).foldl (fun a n => if s.chainRuns (.dec n) && s.on (Reg.CHAIN_DSTAT_UNSET n) then a + 2 ^ n else a) 0

/-- CHAIN_GLB_UNSET2. -/
def Block.unsetInt (s : Block) : Nat :=
  (List.range 20).foldl (fun a m => if s.chainRuns (.int m) && s.on (Reg.CHAIN_ISTAT_UNSET m) then a + 2 ^ m else a) 0

/-! ## The commands -/

/-- SRST (R121). -/
def execSrst (c : ChainId) (s : State) : Host.Outcome State Fault Refusal := s.hostWrite (chainOk c) (fun b => b.srstOp c)

/-- CHAIN_SHIFT_WRITE (R129). -/
def execChainShiftWrite (c : ChainId) (w : Word) (s : State) : Host.Outcome State Fault Refusal :=
  s.hostWrite (chainOk c) (fun b => b.shiftWriteOp c (w.toNat % 2 ^ 24))

/-- CHAIN_RESTART (R122). -/
def execChainRestart (c : ChainId) (s : State) : Host.Outcome State Fault Refusal := s.act (chainOk c) (fun b => b.chainRestartOp c)

end Sys2Proof.Machine
end

