-- ==== Sys2Proof/Machine/Direct.lean ====
section
/-! DEFINITION. The Direct path (R133 to R161): the matrix and its gains, Direct biquads and their swaps, route scarfs, the ladders, and the
speakers' reference (R288 to R291, R295). -/

namespace Sys2Proof.Machine

/-- The hidden record of crosspoint (o, i). -/
def Block.xp (s : Block) (o i : Nat) : XpSt := Tab.get (fun _ => {}) s.dir.xps (24 * o + i)

/-- Change the hidden record of a crosspoint. -/
def Block.modXp (s : Block) (o i : Nat) (h : XpSt → XpSt) : Block :=
  { s with dir := { s.dir with xps := Tab.upd (fun _ => {}) s.dir.xps (24 * o + i) h } }

/-- The hidden record of a matrix output. -/
def Block.dout (s : Block) (o : Nat) : DirOut := Tab.get (fun _ => {}) s.dir.outs o

/-- Change the hidden record of a matrix output. -/
def Block.modDout (s : Block) (o : Nat) (h : DirOut → DirOut) : Block :=
  { s with dir := { s.dir with outs := Tab.upd (fun _ => {}) s.dir.outs o h } }

/-! ## Gains -/

/-- The gain in force for the sample of a tick, in 1/64 of 2^-16: on the k-th tick of a ramp CUR + (TARGET − CUR) × (k + 1) / 64 (R142). -/
def XpSt.gain (x : XpSt) (now : Nat) : Int :=
  match x.rampAt with
  | none => 64 * x.cur
  | some t => if now < t then 64 * x.cur else 64 * x.cur + (x.goal - x.cur) * (min 64 ((now - t) / 16 + 1) : Nat)

/-- The tick at a core cycle is one of the 64 of the ramp (R142). -/
def XpSt.ramping (x : XpSt) (now : Nat) : Bool :=
  match x.rampAt with
  | none => false
  | some t => t ≤ now && now < t + ticks 64

/-- The gain in force as an 18-bit code: DIR_XPCUR (R139). A ramped gain that lies between two codes shows the lower one. -/
def Block.xpCur (s : Block) (o i : Nat) : Nat := (BitVec.ofInt 18 ((s.xp o i).gain s.time.now / 64)).toNat

/-- The target a crosspoint's register holds. -/
def Block.xpTarget (s : Block) (o i : Nat) : Int := s.fInt (Reg.DIR_XP_GAIN o i)

/-- Take the pending difference as one step at a crossing (R141). -/
def Block.xpStep (s : Block) (o i : Nat) : Block := s.modXp o i (fun x => { x with cur := x.goal, toAt := none, crossed := false })

/-- Start the 64-tick ramp at a core cycle (R142, R143). -/
def Block.xpRamp (s : Block) (o i at' : Nat) : Block :=
  s.modXp o i (fun x => { x with toAt := none, crossed := false, rampAt := some at' })

/-- Act on a target at core cycle `at'` (R141, R143, R145). `seen` says that a crossing has been detected since. -/
def Block.xpRequest (s : Block) (o i at' : Nat) (seen : Bool) : Block :=
  let s := s.modXp o i (fun x => { x with held := false })
  let x := s.xp o i
  if x.rampAt.isSome then s else
  let s := if x.toAt.isSome && x.crossed then s.xpStep o i else s
  let x := s.xp o i
  let g := s.xpTarget o i
  if x.toAt.isSome then
    if g = x.cur then (s.modXp o i (fun y => { y with toAt := none, crossed := false, goal := g })).raise Reg.DIR_EVT_GOVR
    else if g = x.goal then s
    else (s.modXp o i (fun y => { y with goal := g })).raise Reg.DIR_EVT_GOVR
  else if g = x.cur then s.modXp o i (fun y => { y with goal := g })
  else
    let s := s.modXp o i (fun y => { y with goal := g })
    let z := s.f Reg.DIR_GLB_CTRL_ZCTO
    if s.on (Reg.DIR_OCTRL_ZCMODE o) || z = 0 then s.xpRamp o i (at' + ticks 1)
    else s.modXp o i (fun y => { y with toAt := some (at' + ticks (msTicks z)), crossed := seen })

/-- XP_RAMP_END (R145): the ramp is over; a target written meanwhile is taken up as if written at its last tick, with the crossings of the samples
presented since. -/
def Block.xpRampEndOp (s : Block) (o i : Nat) : Block :=
  match (s.xp o i).rampAt with
  | some t =>
    if !s.reached (t + ticks 64) then s else
    let seen := (s.xp o i).crossed
    let s := s.modXp o i (fun x => { x with cur := x.goal, rampAt := none, crossed := false })
    if (s.xp o i).held then s else s.xpRequest o i (t + ticks 63) seen
  | none => s

/-- XP_GAIN_WRITE (R141 to R146): ignored on a crosspoint that is not enabled; only stored under HOLD. A ramp whose last tick is past ends first. -/
def Block.xpGainWriteOp (s : Block) (o i : Nat) (g : BitVec 18) : Block :=
  if !s.on (Reg.DIR_XP_EN o i) then s else
  let s := (s.xpRampEndOp o i).put (Reg.DIR_XP_GAIN o i) g.toNat
  if s.on Reg.DIR_GLB_CTRL_HOLD then s.modXp o i (fun x => { x with held := true }) else s.xpRequest o i s.time.now false

/-- XP_CROSSING_STEP (R141). -/
def Block.xpCrossingOp (s : Block) (o i : Nat) : Block :=
  if (s.xp o i).toAt.isSome && (s.xp o i).crossed then s.xpStep o i else s

/-- XP_GAIN_TIMEOUT (R142). -/
def Block.xpTimeoutOp (s : Block) (o i : Nat) : Block :=
  match (s.xp o i).toAt with
  | some t => if s.reached t && !(s.xp o i).crossed then (s.xpRamp o i t).raise Reg.DIR_EVT_GTO else s
  | none => s

/-- All 576 crosspoints. -/
def allXps : List (Nat × Nat) := (List.range 24).flatMap (fun o => (List.range 24).map (fun i => (o, i)))

/-- DIR_HOLD_RELEASE (R144): HOLD is written to 0; every stored target starts on the same tick. -/
def Block.holdReleaseOp (s : Block) : Block :=
  let s := s.put Reg.DIR_GLB_CTRL_HOLD 0
  s.forAll (allXps.filter (fun p => (s.xp p.1 p.2).held)) (fun p s => (s.xpRampEndOp p.1 p.2).xpRequest p.1 p.2 s.time.now false)

/-- DIR_GLB_STAT: crosspoints with a pending step, and HELD (R162). -/
def Block.dirStat (s : Block) : Nat × Bool :=
  ((s.dir.xps.filter (fun p => p.2.toAt.isSome)).length, s.dir.xps.any (fun p => p.2.held))

/-! ## The matrix and its biquads -/

/-- The sample a matrix input presents now (R133, R135). -/
def Block.dirInput (s : Block) (i : Nat) : Sample :=
  if i < 16 then s.portDirect i
  else if i < 20 then (if (s.f (Reg.TRL_LIN_ROUTE (i - 16))).testBit 0 then s.linSample (i - 16) else ⟨0, tagZ⟩)
  else match s.chainTo (0x14 + (i - 20)) with
    | some m => (s.chain (.int m)).out
    | none => ⟨0, tagZ⟩

/-- The matrix sum of an output over (input, gain in 1/64 of 2^-16) pairs: full precision, rounded, saturated (R137, R138). -/
def matrixSum (inputs : List Sample) (gains : List (Nat × Int)) (ramp : Bool) : Sample × Bool :=
  let terms := gains.map (fun p => (p.2, inputs.getD p.1 {}))
  let v := ratRound ((terms.foldl (fun a p => a + p.1 * p.2.int) (0 : Int) : Rat) / 2 ^ 22)
  let tag := mergeTags terms ||| (if ramp then tagX else 0)
  (Sample.sat v tag, !fitsSigned 24 v)

/-- The enabled crosspoints of an output with their gains in force for the samples of the tick before this one, whose sum forms now (R137, R138). -/
def Block.xpGains (s : Block) (o : Nat) : List (Nat × Int) :=
  ((List.range 24).filter (fun i => s.on (Reg.DIR_XP_EN o i))).map (fun i => (i, (s.xp o i).gain (s.time.now - 16)))

/-- A ramp runs into an output at a core cycle: its samples carry X, and OSTAT.RAMPS reads 1 (R142, R162). -/
def Block.xpRamping (s : Block) (o now : Nat) : Bool :=
  (List.range 24).any (fun i => s.on (Reg.DIR_XP_EN o i) && (s.xp o i).ramping now)

/-- One step of a Direct biquad (R149): the output, the filter after it, and whether it saturated. A history outside Q5.35 saturates, the output is
rounded from the full sum, and it carries the tags of x(n) (DESIGN CHOICE, assumption log 90: R149 leaves the three open). -/
def BqSt.step (b : BqSt) (x : Sample) : Sample × BqSt × Bool :=
  let c (i : Nat) : Rat := (b.coef.getD i 0 : Rat) / 2 ^ 30
  let acc : Rat := (c 0 * x.int + c 1 * b.x1 + c 2 * b.x2) / 2 ^ 23 - (c 3 * b.y1 + c 4 * b.y2) / 2 ^ 35
  let y := satInt 40 (ratRound (acc * 2 ^ 35))
  let v := ratRound (acc * 2 ^ 23)
  (Sample.sat v x.tag, { b with x1 := x.int, x2 := b.x1, y1 := y, y2 := b.y1 }, !fitsSigned 24 v)

/-- Equal-gain crossfade of two samples, tick k of n (R240, R241). -/
def equalGain (k n : Nat) (old new : Sample) : Sample :=
  let v : Rat := ((old.int : Rat) * (n - k : Nat) + (new.int : Rat) * k) / n
  Sample.sat (ratRound v) (mergeTags [((n - k : Nat), old), ((k : Nat), new)] ||| tagX)

/-- The last result of a pipeline with `nbq` biquads. -/
def DirPipe.result (p : DirPipe) (nbq : Nat) : Sample := if nbq = 0 then p.mat else if nbq = 1 then p.q0 else p.q1

/-- One tick of a pipeline: biquad 1 takes the last output of biquad 0, biquad 0 the last matrix result, the matrix the last inputs
(R137, R148). Also the number of saturations. -/
def DirPipe.step (p : DirPipe) (nbq : Nat) (m : Sample × Bool) : DirPipe × Nat :=
  let r0 := p.b0.step p.mat
  let r1 := p.b1.step p.q0
  ({ mat := m.1, q0 := if nbq = 0 then p.q0 else r0.1, q1 := if nbq ≤ 1 then p.q1 else r1.1,
     b0 := if nbq = 0 then p.b0 else r0.2.1, b1 := if nbq ≤ 1 then p.b1 else r1.2.1 },
   (if m.2 then 1 else 0) + (if nbq ≠ 0 && r0.2.2 then 1 else 0) + (if 1 < nbq && r1.2.2 then 1 else 0))

/-- Count saturations of an output (R137, R149, R152). -/
def Block.countOsat (s : Block) (o n : Nat) : Block :=
  s.forAll (List.range n) (fun _ s => (s.bump (Reg.DIR_OSAT_SAT o)).raise Reg.DIR_EVT_SAT)

/-- The staging set of a biquad (R150). -/
def Block.staging (s : Block) (o k : Nat) : List Int := (List.range 5).map (fun j => s.fInt (Reg.DIR_BQ_COEF o k j))

/-- A chain of new filters: the staging sets as they stand, on the history of a running chain (R150, R151). -/
def Block.newChain (s : Block) (o : Nat) (p : DirPipe) : DirPipe :=
  { p with b0 := { p.b0 with coef := s.staging o 0 }, b1 := { p.b1 with coef := s.staging o 1 } }

/-- A swap that waits may begin: no freeze and no route scarf is in its way (R151, R254, R256). -/
def Block.swapMay (s : Block) (o : Nat) : Bool :=
  s.on (Reg.DIR_OSTAT_BQPEND o) && !s.on Reg.GRF_SCARF_STAT_FREEZE && (s.dout o).old.isNone

/-- The swaps of an output at the start of a tick: one whose first tick this is takes the staging sets; one that waits begins where none runs, or on
the tick after the 256 of the one that runs (R150, R151). -/
def Block.beginSwaps (s : Block) (o : Nat) : Block :=
  let x := s.dout o
  let now := s.time.now
  match x.swap with
  | none =>
    if s.swapMay o then
      ((s.put (Reg.DIR_OSTAT_BQPEND o) 0).raise (Reg.DIR_OSTAT_BQXF o)).modDout o (fun y =>
        { y with swap := some { at' := now, live := true, pipe := s.newChain o y.pipe } })
    else s
  | some w =>
    if !w.live then
      (if now < w.at' then s else s.modDout o (fun y => { y with swap := some { w with live := true, pipe := s.newChain o y.pipe } }))
    else if w.at' + ticks 256 ≤ now && w.next.isNone && s.swapMay o then
      (s.put (Reg.DIR_OSTAT_BQPEND o) 0).modDout o (fun y => { y with swap := some { w with next := some (now, s.newChain o w.pipe) } })
    else s

/-- One tick of a swap (R150): the new chain on the same matrix sums, what the output forms of the old and the new chain, and the saturations of the
new filters. -/
def DirSwap.step (w : DirSwap) (nbq now : Nat) (old : DirPipe) (m : Sample) : DirSwap × Sample × Nat :=
  let mix (t : Nat) (a b : Sample) : Sample := if now < t + ticks 256 then equalGain ((now - t) / 16) 256 a b else b
  if !w.live then (w, old.result nbq, 0) else
  let r := w.pipe.step nbq (m, false)
  let y := mix w.at' (old.result nbq) (r.1.result nbq)
  match w.next with
  | none => ({ w with pipe := r.1 }, y, r.2)
  | some (t, p) =>
    let q := p.step nbq (m, false)
    ({ w with pipe := r.1, next := some (t, q.1) }, mix t y (q.1.result nbq), r.2 + q.2)

/-- A route scarf whose 3072 samples have been formed and whose end has come drops the old version (R160, R240). -/
def Block.dropRoute (s : Block) (o : Nat) : Block :=
  match (s.dout o).old with
  | some y => if !y.leaving && 3072 ≤ y.n && !s.on (Reg.DIR_OSTAT_RSCARF o) then s.modDout o (fun x => { x with old := none }) else s
  | none => s

/-- One tick of an output: the sum of the samples of the tick before, its version in force with the swap that runs, and in a route scarf the old one;
every saturation counts (R137, R149, R150, R160). -/
def Block.dirOutTick (s : Block) (o : Nat) : Block :=
  let s := (s.dropRoute o).beginSwaps o
  let x := s.dout o
  let nbq := s.f (Reg.DIR_OCFG_NBQ o)
  let m := matrixSum s.dir.inputs (s.xpGains o) (s.xpRamping o (s.time.now - 16))
  let r := x.pipe.step nbq m
  let w := x.swap.map (fun w => w.step nbq s.time.now r.1 m.1)
  let old := x.old.map (fun y => let q := y.pipe.step y.nbq (matrixSum s.dir.inputs y.gains false); ({ y with pipe := q.1, n := y.n + 1 }, q.2))
  (s.modDout o (fun y => { y with
    pipe := r.1, swap := w.map (·.1), res := (w.map (·.2.1)).getD (r.1.result nbq), old := old.map (·.1) })).countOsat o
    (r.2 + (w.map (·.2.2)).getD 0 + (old.map (·.2)).getD 0)

/-- What an output and its old version have formed, crossed over: sample k of the route scarf is the one of n = k + 1; before the first the old version
stands, after the last the new one (R160, R240, R260). -/
def OldRoute.cross (y : OldRoute) (old new : Sample) : Sample :=
  if y.leaving || y.n = 0 then old else if 3072 < y.n then new else equalGain (y.n - 1) 3072 old new

/-- What an output delivers to lane or speaker: in a route scarf the crossfade of both versions over 3072 ticks (R160, R260). -/
def Block.dirResult (s : Block) (o : Nat) : Sample :=
  let x := s.dout o
  match x.old with
  | none => x.res
  | some y => y.cross (y.pipe.result y.nbq) x.res

/-- The ladder code of a source, and whether the sum saturated (R152). -/
def ladderSource (lsrc : Nat) (direct graph : Sample) : Sample × Bool :=
  if lsrc = 1 then (graph, false)
  else if lsrc = 2 then (Sample.sat (direct.int + graph.int) (direct.tag ||| graph.tag), !fitsSigned 24 (direct.int + graph.int))
  else (direct, false)

/-- What the ladder of an output loads before the weights of its release: the source of LSRC, one tick after the matrix and biquads (R20,
R152), crossfaded in a route scarf; with it the number of saturations. -/
def Block.ladderCode (s : Block) (o : Nat) : Sample × Nat :=
  let x := s.dout o
  let graph : Sample := match s.chainTo o with
    | some m => (s.chain (.int m)).out
    | none => ⟨0, tagZ⟩
  let new := ladderSource (s.f (Reg.DIR_OCFG_LSRC o)) x.res graph
  let n (b : Bool) : Nat := if b then 1 else 0
  match x.old with
  | none => (new.1, n new.2)
  | some y =>
    let old := ladderSource y.lsrc (y.pipe.result y.nbq) graph
    (y.cross old.1 new.1, n (old.2 && y.n ≤ 3072) + n (new.2 && y.n ≠ 0 && !y.leaving))

/-- The 18-bit code that a ladder loads for a sample, in units of 2^-23: nearest, ties upwards, saturated (DESIGN CHOICE, assumption log 86: R37 gives
the width and not the rounding). -/
def outCode (x : Sample) : Int := 64 * satInt 18 (roundShift x.int 6)

/-- Load a ladder (R152, R37, R51, R93). -/
def Block.loadLadder (s : Block) (o : Nat) : Block :=
  let c := s.ladderCode o
  let y := s.ladder o c.1
  ((s.countOsat o c.2).modOut o (fun x => { x with last := y })).modGrp o (fun g => { g with codes := (outCode y :: g.codes).take 5 })

/-- The crossing test of R140 on an input's sample and the one before it. -/
def crossing (before now : Sample) : Bool := (before.int < 0) != (now.int < 0) || now.int.natAbs ≤ 128

/-- A crosspoint notes a crossing of its input: while it waits, and from the last tick of a ramp on, for a target written meanwhile (R141, R145). -/
def XpSt.cross (x : XpSt) (now : Nat) : XpSt :=
  if x.toAt.isSome || x.rampAt.any (fun t => t + ticks 64 ≤ now) then { x with crossed := true } else x

/-- An input presents a sample: a crossing is noted for the crosspoints that wait for one, S and F are noted (R140, R158, R159). -/
def Block.presentOne (s : Block) (i : Nat) (x : Sample) : Block :=
  let was := s.dir.inputs.getD i {}
  let s := s.onlyIf ((x.tag &&& (tagS ||| tagF)) != 0) (fun s => (s.raise (Reg.DIR_GLB_INSF_IN.bit i)).raise Reg.DIR_EVT_INSF)
  let xps := if crossing was x then s.dir.xps.map (fun p => if p.1 % 24 = i then (p.1, p.2.cross s.time.now) else p) else s.dir.xps
  { s with dir := { s.dir with xps := xps, inputs := (List.range 24).map (fun j => if j = i then x else s.dir.inputs.getD j {}) } }

/-- The inputs of this tick are presented; a graph inject stands at its last sample until its chain delivers that of this tick (R20, R135). -/
def Block.presentInputs (s : Block) : Block :=
  let s := s.forAll (List.range 20) (fun i s => s.presentOne i (s.dirInput i))
  { s with dir := { s.dir with inputs := (List.range 24).map (fun j => if j < 20 then s.dir.inputs.getD j {} else s.dirInput j) } }

/-- CHAIN_OUTPUT (R20, R127): the chain delivers; a graph inject presents the sample to the matrix in the same tick. -/
def Block.deliverOp (s : Block) (c : ChainId) : Block :=
  let t := s.chainOutputOp c
  match c with
  | .dec _ => t
  | .int m =>
    let sink := s.f (Reg.CHAIN_ICFG_SINK m)
    t.onlyIf (s.chainRuns c && (s.chain c).ready.isSome && 0x14 ≤ sink && sink < 0x18) (fun t => t.presentOne (sink - 0x14 + 20) (t.chain c).out)

/-- One tick of the Direct path: ladders load, outputs form, inputs are presented (R133 to R138). -/
def Block.dirTick (s : Block) : Block :=
  if !s.audioOn then s else
  let s := s.forAll ((List.range 18).filter s.isOut) (fun o s => s.loadLadder o)
  let s := s.forAll (List.range 24) (fun o s => s.dirOutTick o)
  s.presentInputs

/-- The lane outs of this tick (R133). -/
def Block.laneOuts (s : Block) : List Sample := (List.range 4).map (fun k => s.dirResult (20 + k))

/-! ## Swaps and route scarfs -/

/-- BQ_SWAP (R150, R151): starts at the next tick, or waits behind the swap that runs, a freeze or a route scarf (R254, R256). -/
def Block.bqSwapOp (s : Block) (o : Nat) : Block :=
  if (s.dout o).swap.isSome || s.on Reg.GRF_SCARF_STAT_FREEZE || (s.dout o).old.isSome then
    if s.on (Reg.DIR_OSTAT_BQPEND o) then s.raise Reg.DIR_EVT_BQOVR else s.raise (Reg.DIR_OSTAT_BQPEND o)
  else (s.raise (Reg.DIR_OSTAT_BQXF o)).modDout o (fun x => { x with swap := some { at' := s.after 1 } })

/-- End the swap of an output with its new sets in force; one that has begun behind it runs on (R150, R151, R251). -/
def Block.endSwap (s : Block) (o : Nat) : Block :=
  match (s.dout o).swap with
  | none => s
  | some w =>
    let s := s.modDout o (fun x => { x with
      pipe := if w.live then w.pipe else s.newChain o x.pipe,
      swap := w.next.map (fun p => { at' := p.1, live := true, pipe := p.2 }) })
    ((s.putB (Reg.DIR_OSTAT_BQXF o) w.next.isSome).put (Reg.DIR_OSTAT_BQSET o) (s.f (Reg.DIR_OSTAT_BQSET o) + 1)).raise Reg.DIR_EVT_BQDONE

/-- BQ_SWAP_END (R150, R151): after 256 ticks the new sets are active. -/
def Block.bqSwapEndOp (s : Block) (o : Nat) : Block :=
  match (s.dout o).swap with
  | some w => if s.reached (w.at' + ticks 256) then s.endSwap o else s
  | none => s

/-- ROUTE_SCARF_END (R160, R260): after 3072 ticks, or the 12,288 of a port that leaves the output role; the last sample of a scarf still reaches its
ladder. -/
def Block.routeScarfEndOp (s : Block) (o : Nat) : Block :=
  match (s.dout o).old with
  | some y =>
    if s.reached (y.at' + ticks (if y.leaving then 12288 else 3072)) then
      (s.put (Reg.DIR_OSTAT_RSCARF o) 0).modDout o (fun x => if y.leaving then { x with old := none } else x)
    else s
  | none => s

/-! ## The speakers' reference -/

/-- The lead filter for one update at 3.072 MHz by the bilinear transform (R295): output for input x. -/
def leadOut (ns : Nat) (x x1 y1 : Rat) : Rat :=
  let a : Rat := 6144000 * 8 * ns / 7 / 1000000000
  let b := a / 8
  if ns = 0 then x else ((1 + a) * x + (1 - a) * x1 - (1 - b) * y1) / (1 + b)

/-- The duty of a channel for a reference y in units of full scale, before the clamp (R290). -/
def Block.spkDuty (s : Block) (c : Nat) (y : Rat) : Rat :=
  1 / 2 + ((s.f (Reg.SPK_CFG_MI c) : Rat) / 32768) / 2 * y * (s.f Reg.SPK_GLB_CFG_PVNOM : Rat) / (max 1 s.pvddMeas : Nat)

/-- The duty of a load check at its offset in ticks (R304). -/
def checkDuty (k : Nat) : Rat :=
  if k < 6144 then 1 / 2
  else if k < 9216 then 1 / 2 + (k - 6144 : Nat) / 307200
  else if k < 15360 then 51 / 100
  else 51 / 100 - min (1 / 100) ((k - 15360 : Nat) / 307200)

/-- The carrier at a position of its period, between 0 and 1: the P half-bridge is high where the duty lies above it, so that its pulses are centred
(R292, R293). -/
def carrierAt (p : Rat) : Rat := |1 - 2 * p|

/-- An edge position through the fifth-order noise shaper: in 1/2048 of the carrier period, and the errors after it (R291; its coefficients are not
given, assumption log 46). -/
def shapedEdge (errs : List Rat) (p : Rat) : Nat × List Rat :=
  let want := 2048 * p
  let v := want - ((List.range 5).map (fun i => Config.shaperCoef i * errs.getD i 0)).foldl (· + ·) 0
  let q := ratRound v
  ((max 0 (min 2047 q)).toNat, ((q - v) :: errs).take 5)

/-- The edges of one update (R292): at its start where the new reference lies on the other side of the carrier, and where the reference meets the
carrier within it. Position in the carrier period, and the level of the P half-bridge after the edge. -/
def dutyEdges (high : Bool) (d p step : Rat) : List (Rat × Bool) :=
  let level : Bool := carrierAt p < d
  let rising : Bool := p < 1 / 2
  let meet := if rising then (1 - d) / 2 else (1 + d) / 2
  (if level == high then [] else [(p, level)]) ++ (if p < meet && meet < p + step then [(meet, rising)] else [])

/-- The two-level double-edged modulator for one 3.072 MHz update (R291, R292); without it no edge is set. -/
def Block.shapeEdge (s : Block) (c : Nat) : Block :=
  if s.spkBridge c != .pwm then s.modSpk c (fun z => { z with high := false, edges := [] }) else
  let x := s.spkSt c
  let n : Rat := s.carrier
  let p : Rat := ((s.time.tick + s.carrier - s.carrierOff c) % s.carrier : Nat) / n
  let es := dutyEdges x.high x.duty p (4 / n)
  let r := es.foldl (fun (a : List (Nat × Bool) × List Rat) e => let q := shapedEdge a.2 e.1; (a.1 ++ [(q.1, e.2)], q.2)) ([], x.errs)
  s.modSpk c (fun z => { z with edges := r.1, errs := r.2, high := (es.getLast?.map (·.2)).getD z.high })

/-- The weight of a channel's reference: that of its start or stop, and across PREFADE that of a graft that changes it (R298, R299, R301). -/
def Block.refWeight (s : Block) (c : Nat) : Rat :=
  (s.spkWeight c : Rat) / fullWeight * (match (s.spkSt c).cut with
    | some f => s.fadeWeight f true / 64
    | none => 1)

/-- The tick of a speaker channel's feed: HB1 every second tick, HB2, the sum, the weights, the lead and the duty every fourth; the modulator takes
the sum of the update before (R288 to R291, R295, R297). -/
def Block.spkFeed (s : Block) (c : Nat) : Block :=
  let x := s.dirResult (18 + c)
  let s := s.modSpk c (fun y => { y with hb1 := ((x.int, x.tag) :: y.hb1).take 7 })
  if s.time.tick % 2 ≠ 0 then s else
  let r1 := decResult false 1 (s.spkSt c).hb1 1 false
  let s := s.modSpk c (fun y => { y with hb2 := ((r1.1, r1.2.1) :: y.hb2).take 7 })
  if s.time.tick % 4 ≠ 0 then s else
  let r2 := decResult false 2 (s.spkSt c).hb2 1 true
  let graph : Int := if (s.chainTo (0x12 + c)).isSome then (s.spkSt c).graph.int else 0
  let sum := (s.spkSt c).direct + graph
  let s := s.modSpk c (fun y => { y with direct := r2.1 })
  let s := if fitsSigned 24 sum then s else s.bump (Reg.SPK_CLIPCNT_CLIP c)
  let st := s.spkState c
  if st = spkCheck then s.modSpk c (fun y => { y with duty := checkDuty ((s.time.now - y.checkAt) / 16) })
  else if st = spkUp || st = spkRun || (st = spkDn && !(s.spkSt c).hold) then
    let ref : Rat := ((s.snapMute ⟨BitVec.ofInt 24 (satInt 24 sum), 0⟩).int : Rat) / 2 ^ 23
    let g := s.limiterGain c * s.refWeight c * ref
    let y := leadOut (s.f (Reg.SPK_LEAD_NS c)) g (s.spkSt c).leadX (s.spkSt c).leadY
    let d := s.spkDuty c y
    let clamped := max (3 / 100) (min (97 / 100) d)
    let s := s.modSpk c (fun z => { z with leadX := g, leadY := y, duty := clamped })
    if clamped = d then s else s.bump (Reg.SPK_CLIPCNT_CLIP c)
  else s.modSpk c (fun y => { y with duty := 1 / 2, leadX := 0, leadY := 0 })

/-- The speakers' tick. -/
def Block.spkTick (s : Block) : Block :=
  if !s.audioOn then s else
  s.forAll ((List.range 2).filter (fun c => s.on (Reg.SPK_CFG_EN c))) (fun c s =>
    (s.spkFeed c).onlyIf (s.time.tick % 4 == 0) (fun s => s.shapeEdge c))

/-! ## The commands -/

/-- CHAIN_OUTPUT (R127). -/
def execChainOutput (c : ChainId) (s : State) : Host.Outcome State Fault Refusal := s.act (chainOk c) (fun b => b.deliverOp c)

/-- XP_GAIN_WRITE (R141). -/
def execXpGainWrite (o i : Nat) (gain : BitVec 18) (s : State) : Host.Outcome State Fault Refusal :=
  s.hostWrite (o < 24 && i < 24) (fun b => b.xpGainWriteOp o i gain)

/-- XP_CROSSING_STEP (R141). -/
def execXpCrossingStep (o i : Nat) (s : State) : Host.Outcome State Fault Refusal := s.act (o < 24 && i < 24) (fun b => b.xpCrossingOp o i)

/-- XP_GAIN_TIMEOUT (R142). -/
def execXpGainTimeout (o i : Nat) (s : State) : Host.Outcome State Fault Refusal := s.act (o < 24 && i < 24) (fun b => b.xpTimeoutOp o i)

/-- XP_RAMP_END (R145). -/
def execXpRampEnd (o i : Nat) (s : State) : Host.Outcome State Fault Refusal := s.act (o < 24 && i < 24) (fun b => b.xpRampEndOp o i)

/-- DIR_HOLD_RELEASE (R144). -/
def execDirHoldRelease (s : State) : Host.Outcome State Fault Refusal := s.hostWrite true (fun b => b.holdReleaseOp)

/-- BQ_SWAP (R150). -/
def execBqSwap (o : Nat) (s : State) : Host.Outcome State Fault Refusal := s.hostWrite (o < 24) (fun b => b.bqSwapOp o)

/-- BQ_SWAP_END (R150). -/
def execBqSwapEnd (o : Nat) (s : State) : Host.Outcome State Fault Refusal := s.act (o < 24) (fun b => b.bqSwapEndOp o)

/-- ROUTE_SCARF_END (R160). -/
def execRouteScarfEnd (o : Nat) (s : State) : Host.Outcome State Fault Refusal := s.act (o < 24) (fun b => b.routeScarfEndOp o)

end Sys2Proof.Machine
end

