-- ==== Sys2Proof/Machine/Serial.lean ====
section
/-! DEFINITION. Serial audio ports and the resampler (R265 to R287): slots, windows, slot maps, ratio trackers and channels. -/

namespace Sys2Proof.Machine

/-- The record of a port. -/
def Block.sapSt (s : Block) (p : Nat) : SapSt := Tab.get (fun _ => {}) s.sap.ports p

/-- Change the record of a port. -/
def Block.modSap (s : Block) (p : Nat) (h : SapSt → SapSt) : Block :=
  { s with sap := { s.sap with ports := Tab.upd (fun _ => {}) s.sap.ports p h } }

/-- The record of a resampler channel. -/
def Block.srcSt (s : Block) (c : Nat) : SrcSt := Tab.get (fun _ => {}) s.sap.chans c

/-- Change the record of a channel. -/
def Block.modSrc (s : Block) (c : Nat) (h : SrcSt → SrcSt) : Block :=
  { s with sap := { s.sap with chans := Tab.upd (fun _ => {}) s.sap.chans c h } }

/-- Frame rate of a port in Hz (R265). -/
def Block.sapRate (s : Block) (p : Nat) : Nat :=
  match s.f (Reg.SAP_CFG_RATE p) with
  | 0 => 44100
  | 1 => 48000
  | 2 => 88200
  | 3 => 96000
  | 4 => 176400
  | _ => 192000

/-- Port-side stages for a rate (R276). -/
def sapStages (rate : Nat) : Nat := if rate ≤ 48000 then 0 else if rate ≤ 96000 then 1 else 2

/-- Frame period of a port in ticks, for the rates of the 48 kHz family (R271). -/
def Block.sapP (s : Block) (p : Nat) : Nat := 12288000 / s.sapRate p

/-- The base rate of a family: 44.1 or 48 kHz (R276). -/
def baseRate (rate : Nat) : Nat := if rate = 44100 || rate = 88200 || rate = 176400 then 44100 else 48000

/-- The stage delays of a resampler channel in ticks (R279). -/
def Block.srcStageTicks (s : Block) (c : Nat) : Rat :=
  let rate := s.sapRate (s.f (Reg.SRC_CFG_SAP c))
  let b := baseRate rate
  let n := sapStages rate
  let hb8 : Rat := if 1 ≤ n then 63 * 12288000 / (2 * b : Rat) else 0
  let hb7 : Rat := if 2 ≤ n then 15 * 12288000 / (4 * b : Rat) else 0
  let graph : Rat := if s.on Reg.GRF_GLB_CFG_FG then 63 * 128 else 0
  hb8 + hb7 + graph

/-- D of a resampler channel in ticks (R279). -/
def Block.srcTicks (s : Block) (c : Nat) : Nat :=
  let core : Rat := if s.on (Reg.SRC_CFG_DIR c) then 256 else 12288000 / (baseRate (s.sapRate (s.f (Reg.SRC_CFG_SAP c))) : Rat)
  (34 * core + s.srcStageTicks c).ceil.toNat

/-! ## Slots (R268, R269) -/

/-- An input slot as a tagged sample (R268). -/
def slotIn (width : Nat) (tagin : Bool) (w : Word) : Sample :=
  if width = 0 then ⟨BitVec.ofNat 24 (w.toNat % 2 ^ 16 * 2 ^ 8), 0⟩
  else if width = 1 then ⟨BitVec.ofNat 24 w.toNat, 0⟩
  else ⟨w.extractLsb' 8 24, if tagin then cleanTag (w.extractLsb' 0 8) else 0⟩

/-- An output slot from a tagged sample, and whether it saturated (R269). -/
def slotOut (width : Nat) (tagout : Bool) (x : Sample) : Word × Bool :=
  if width = 0 then
    let v := roundShift x.int 8
    (BitVec.ofNat 32 (BitVec.ofInt 16 (satInt 16 v)).toNat, !fitsSigned 16 v)
  else if width = 1 then (x.val.zeroExtend 32, false)
  else (if tagout then x.toWord else x.val ++ (0 : Byte), false)

/-! ## Resampler channels (R276 to R282) -/

/-- Depth of a channel's FIFO in core input samples. -/
def fifoDepth : Nat := Config.fifoDepth + 4

/-- Preset a FIFO to its centre, the position at which the channel holds D (R279, R281, R282; DEDUCED, assumption log 9). -/
def SrcSt.preset (x : SrcSt) : SrcSt := { x with fill := fifoDepth / 2 }

/-- A FIFO ran empty or over (R282): counted, preset, and the samples that the preset loses are delivered as zero. A ramp that has begun ends; one whose
first output this is begins anew (R285). -/
def Block.srcXrun (s : Block) (c : Nat) : Block :=
  let s := ((s.raise (Reg.SRC_GLB_XRUN_CH.bit c)).raise Reg.SRC_GLB_EVT_XRUN).bump (Reg.SRC_XCNT_XRUN c)
  s.modSrc c (fun x => { x.preset with lost := fifoDepth / 2, ramp := if x.ramp = 64 then 64 else 0 })

/-- A channel delivers: the tracker that steers it is LOCKED, and no restart by a graft has it acquire anew (R281, R284). -/
def Block.srcLocked (s : Block) (c : Nat) : Bool :=
  s.f (Reg.SRC_TRK_STAT_STATE (s.f (Reg.SRC_CFG_SAP c))) == 2 && (s.srcSt c).acq.isNone

/-- A core input sample arrives with its core cycle (R277, R279, R282). -/
def Block.srcPush (s : Block) (c : Nat) (x : Sample) (at' : Rat) : Block :=
  let s := s.modSrc c (fun y => { y with core := (x :: y.core).take (68 + fifoDepth), at' := at', fill := y.fill + 1 })
  if !s.srcLocked c then s.modSrc c SrcSt.preset
  else if fifoDepth < (s.srcSt c).fill then s.srcXrun c else s

/-- One sum of the core for a phase of the prototype (R277). -/
def coreSum (phase : Nat) (taps : List Sample) : Rat :=
  (taps.zip (List.range 64)).foldl (fun a p => a + Config.firCoef 0 phase p.2 * p.1.int) 0

/-- The 64 taps that meet samples for a phase of the prototype, the newest first, `ahead` samples standing before them: phase 64 is phase 0 advanced by
one input sample (R277). -/
def phaseTaps (core : List Sample) (ahead phase : Nat) : Nat × List Sample :=
  if phase = 64 then (0, (core.drop (ahead - 1)).take 64) else (phase, (core.drop ahead).take 64)

/-- The tags of the samples that a phase meets with a coefficient that is not zero (R7). -/
def coreTags (p : Nat × List Sample) : Byte :=
  (p.2.zip (List.range 64)).foldl (fun t q => if Config.firCoef 0 p.1 q.2 = 0 then t else t ||| q.1.tag) 0

/-- The core's output at a fractional position: two phases with linear interpolation, rounded and saturated (R277). -/
def coreOut (core : List Sample) (ahead : Nat) (mu : Rat) : Sample × Bool :=
  let p := (64 * mu).floor.toNat
  let f := 64 * mu - p
  let a := phaseTaps core ahead p
  let b := phaseTaps core ahead (p + 1)
  let v := ratRound (if f = 0 then coreSum a.1 a.2 else coreSum a.1 a.2 + f * (coreSum b.1 b.2 - coreSum a.1 a.2))
  (Sample.sat v (coreTags a ||| (if f = 0 then 0 else coreTags b)), !fitsSigned 24 v)

/-- One core output for a core cycle `t` and an input period in core cycles (R277 to R279, R282): the position lies D less the stage delays before it,
31.5 input periods behind the newest tap. The Bool says that the output is one of those a preset loses. -/
def Block.srcTake (s : Block) (c : Nat) (t period : Rat) : Sample × Bool × Block :=
  let x := s.srcSt c
  if 0 < x.lost then (⟨0, tagZ⟩, true, s.modSrc c (fun y => { y with lost := y.lost - 1 }))
  else
    let behind := (x.at' - (t - 16 * (s.srcTicks c - s.srcStageTicks c))) / max 1 period
    let ahead : Int := behind.ceil - 32
    let mu := behind.ceil - behind
    if ahead < (if 63 / 64 < mu then 1 else 0) then
      (⟨0, tagZ⟩, true, (s.srcXrun c).modSrc c (fun y => { y with lost := y.lost - 1 }))
    else
      let y := coreOut x.core ahead.toNat mu
      let s := if y.2 then s.bump (Reg.SRC_XCNT_SAT c) else s
      (y.1, false, s.modSrc c (fun z => { z with fill := fifoDepth / 2 - 1 + ahead.toNat }))

/-- The gate of a channel's output: zero tagged Z while it is not locked and where a preset loses the output, then a ramp of 64 samples tagged X
(R281, R282, R285). -/
def Block.srcGate (s : Block) (c : Nat) (x : Sample) (lost : Bool) : Sample × Block :=
  let s := (s.putB (Reg.SRC_STAT_LOCK c) (s.f (Reg.SRC_TRK_STAT_STATE (s.f (Reg.SRC_CFG_SAP c))) == 2)).put (Reg.SRC_STAT_FILL c) (min 255 (s.srcSt c).fill)
  if !s.srcLocked c then (⟨0, tagZ⟩, (s.put (Reg.SRC_STAT_MUTE c) 1).put (Reg.SRC_STAT_RAMP c) 0)
  else
    let r := (s.srcSt c).ramp
    let s := (s.put (Reg.SRC_STAT_MUTE c) 0).putB (Reg.SRC_STAT_RAMP c) (r != 0)
    if lost then (⟨0, tagZ⟩, s.put (Reg.SRC_STAT_MUTE c) 1)
    else if r = 0 then (x, s)
    else
      let k : Nat := 64 - r
      (⟨BitVec.ofInt 24 (ratRound ((x.int : Rat) * k / 64)), (if k = 0 then 0 else x.tag) ||| tagX⟩,
       s.modSrc c (fun y => { y with ramp := r - 1 }))

/-- The period of the core's port-side samples in core cycles, from the tracker's loop (R276, R281). -/
def Block.corePeriod (s : Block) (p : Nat) : Rat := (s.sapSt p).per * 2 ^ sapStages (s.sapRate p)

/-- Put an item into a half-band span of the resampler. -/
def pushSpan (stage : Nat) (item : Int × Byte) (h : List (Int × Byte)) : List (Int × Byte) := (item :: h).take (hbTaps false stage)

/-- A half-band result as a sample of Q1.23. -/
def spanSample (r : Int × Byte × Bool) : Sample := ⟨BitVec.ofInt 24 (satInt 24 r.1), r.2.1⟩

/-- A port sample enters a channel from port to graph: the port-side stages, then the core (R276). -/
def Block.srcFromPort (s : Block) (c : Nat) (x : Sample) : Block :=
  let stages := s.f (Reg.SRC_CFG_STAGES c)
  let at' := (s.sapSt (s.f (Reg.SRC_CFG_SAP c))).edge
  let n := (s.srcSt c).phase
  let s := s.modSrc c (fun y => { y with phase := (n + 1) % 4 })
  if stages = 0 then s.srcPush c x at'
  else if stages = 1 then
    let s := s.modSrc c (fun y => { y with h8 := pushSpan 8 (x.int, x.tag) y.h8 })
    if n % 2 = 0 then s.srcPush c (spanSample (decResult false 8 (s.srcSt c).h8 1 true)) at' else s
  else
    let s := s.modSrc c (fun y => { y with h7 := pushSpan 7 (x.int, x.tag) y.h7 })
    if n % 2 ≠ 0 then s else
    let r := decResult false 7 (s.srcSt c).h7 1 false
    let s := s.modSrc c (fun y => { y with h8 := pushSpan 8 (r.1, r.2.1) y.h8 })
    if n % 4 = 0 then s.srcPush c (spanSample (decResult false 8 (s.srcSt c).h8 1 true)) at' else s

/-- A core output of a channel that delivers; nothing of one that does not. -/
def Block.srcOutput (s : Block) (c : Nat) (t period : Rat) : Sample × Bool × Block :=
  if s.srcLocked c then s.srcTake c t period else (Sample.zero, false, s)

/-- What a channel from port to graph delivers at a graph instant (R276 to R281). -/
def Block.srcToGraph (s : Block) (c : Nat) : Sample × Block :=
  let period := s.corePeriod (s.f (Reg.SRC_CFG_SAP c))
  if !s.on Reg.GRF_GLB_CFG_FG then
    let (x, lost, s) := s.srcOutput c s.time.now period
    s.srcGate c x lost
  else
    let odd := s.time.tick ≥ 128
    let (x, lost, s) := if odd then (Sample.zero, false, s) else s.srcOutput c s.time.now period
    let s := if odd then s else s.modSrc c (fun y => { y with g8 := pushSpan 8 (x.int, x.tag) y.g8 })
    s.srcGate c (spanSample (intResult false 8 (s.srcSt c).g8 odd 1 true)) lost

/-- A released graph sample enters a channel from graph to port (R276). -/
def Block.srcFromGraph (s : Block) (c : Nat) (x : Sample) : Block :=
  if !s.on Reg.GRF_GLB_CFG_FG then s.srcPush c x s.time.now
  else
    let s := s.modSrc c (fun y => { y with g8 := pushSpan 8 (x.int, x.tag) y.g8 })
    if s.time.tick < 128 then s.srcPush c (spanSample (decResult false 8 (s.srcSt c).g8 1 true)) s.time.now else s

/-- What a channel from graph to port delivers into a port frame (R276 to R281). -/
def Block.srcToPort (s : Block) (c : Nat) : Sample × Block :=
  let stages := s.f (Reg.SRC_CFG_STAGES c)
  let n := (s.srcSt c).phase
  let t := (s.sapSt (s.f (Reg.SRC_CFG_SAP c))).edge
  let s := s.modSrc c (fun y => { y with phase := (n + 1) % 4 })
  if stages = 0 then
    let (x, lost, s) := s.srcOutput c t 4096
    s.srcGate c x lost
  else
    let half := 2 ^ (stages - 1)
    let new := n % (2 * half) == 0
    let (x, lost, s) := if new then s.srcOutput c t 4096 else (Sample.zero, false, s)
    let s := if new then s.modSrc c (fun y => { y with h8 := pushSpan 8 (x.int, x.tag) y.h8 }) else s
    let odd8 := n / half % 2 == 1
    if stages = 1 then s.srcGate c (spanSample (intResult false 8 (s.srcSt c).h8 odd8 1 true)) lost
    else
      let s := if n % 2 ≠ 0 then s else
        let r := intResult false 8 (s.srcSt c).h8 odd8 1 false
        s.modSrc c (fun y => { y with h7 := pushSpan 7 (r.1, r.2.1) y.h7 })
      s.srcGate c (spanSample (intResult false 7 (s.srcSt c).h7 (n % 2 == 1) 1 true)) lost

/-- The channels of the image that serve a port. -/
def Block.srcOf (s : Block) (p : Nat) : List Nat := (List.range 16).filter (fun c => s.on (Reg.SRC_CFG_EN c) && s.f (Reg.SRC_CFG_SAP c) == p)

/-! ## The ratio tracker (R281) -/

/-- A tracker loses lock (R281, R285). -/
def Block.trkUnlock (s : Block) (p : Nat) : Block :=
  let s := ((s.put (Reg.SRC_TRK_STAT_STATE p) 1).raise (Reg.SRC_GLB_EVT_UNLOCK.bit p)).modSap p (fun x => { x with close := 0 })
  s.forAll (s.srcOf p) (fun c s => (((s.put (Reg.SRC_STAT_LOCK c) 0).put (Reg.SRC_STAT_MUTE c) 1).put (Reg.SRC_STAT_RAMP c) 0).modSrc c
    (fun x => { x with ramp := 0, lost := 0, acq := none }))

/-- A channel begins to deliver: its FIFO at the centre, and a ramp of 64 output samples (R281). -/
def Block.srcStart (s : Block) (c : Nat) : Block := s.modSrc c (fun x => { x.preset with ramp := 64, lost := 0, acq := none })

/-- A frame in a LOCKED tracker counts towards the 1024 of a channel that a graft has restarted (R281, R284). -/
def Block.srcAcquire (s : Block) (c : Nat) (near : Bool) : Block :=
  match (s.srcSt c).acq with
  | none => s
  | some n =>
    if !near then s.modSrc c (fun x => { x with acq := some 0 })
    else if n + 1 < 1024 then s.modSrc c (fun x => { x with acq := some (n + 1) })
    else s.srcStart c

/-- The tracker's second-order loop takes one FS edge (R281): the phase error in core cycles moves its place of the edge and its period by the gains of
BW, and it stays within one tick of the edge. The first edge places the loop: the frame that has ended began one period ago. -/
def Block.trkLoop (s : Block) (p : Nat) (f : SapFrameIn) (first : Bool) : Block :=
  let bw := s.f (Reg.SRC_TRK_CFG_BW p)
  s.modSap p (fun x =>
    if first then
      let per : Rat := (f.period : Rat) / 4096
      { x with edge := s.time.now - per, per := per }
    else
      let e : Rat := f.phaseErr
      let seen := x.edge + x.per + e
      let place := x.edge + x.per + Config.loopGain bw false * e
      { x with edge := max (seen - 16) (min (seen + 16) place), per := x.per + Config.loopGain bw true * e })

/-- An FS edge reaches the tracker (R281, R285). -/
def Block.trkEdge (s : Block) (p : Nat) (f : SapFrameIn) : Block :=
  if (s.srcOf p).isEmpty then s else
  let far := f.ppm < -2000 || 2000 < f.ppm
  let near : Bool := f.phaseErr.natAbs ≤ 16
  let s := ((s.put (Reg.SRC_TRK_PER_PER p) f.period).putInt (Reg.SRC_TRK_STAT_PPM p) f.ppm).putB (Reg.SRC_TRK_STAT_RANGE p) far
  let st := s.f (Reg.SRC_TRK_STAT_STATE p)
  let s := s.trkLoop p f (st = 0 || (s.sapSt p).per = 0)
  if st = 0 then (s.put (Reg.SRC_TRK_STAT_STATE p) 1).modSap p (fun x => { x with close := 0 })
  else if st = 1 then
    let n := if near then (s.sapSt p).close + 1 else 0
    let s := s.modSap p (fun x => { x with close := n })
    if n < 1024 then s else
    let s := (s.put (Reg.SRC_TRK_STAT_STATE p) 2).raise (Reg.SRC_GLB_EVT_LOCK.bit p)
    s.forAll (s.srcOf p) (fun c s => s.srcStart c)
  else if st = 2 && (64 < f.phaseErr.natAbs || far) then s.trkUnlock p
  else if st = 2 then s.forAll (s.srcOf p) (fun c s => s.srcAcquire c near)
  else s

/-! ## Frames (R267, R271 to R274) -/

/-- The number of the tick of the grid instant to which the frame that ends now belongs: it began FPH ticks after it, and `off` ticks later in a target
(R271, R285). -/
def Block.frameInstant (s : Block) (p : Nat) (off : Int) : Int :=
  let n := s.sapP p
  (s.tickNo : Int) - s.time.tick + n * ratRound ((((s.time.tick : Int) - n - s.f (Reg.SAP_PHASE_FPH p) - off : Int) : Rat) / n)

/-- A slot's sample, or its absence, goes where the receive map names: to a channel at once, to a tap or a high-rate source for the instant two frame
periods after that of its frame (R272, R274). -/
def Block.sapDeliver (s : Block) (p code : Nat) (off : Int) (x : Option Sample) : Block :=
  if 0x40 ≤ code && code < 0x50 then s.srcFromPort (code - 0x40) (x.getD ⟨0, tagZ⟩)
  else if (0x20 ≤ code && code < 0x40) || (0x60 ≤ code && code < 0x74) then
    let due := (s.frameInstant p off + 2 * s.sapP p).toNat
    s.modSap p (fun y => { y with fresh := Tab.upd (fun _ => []) y.fresh code (fun l => (l.filter (fun z => z.1 ≠ due) ++ [(due, x)])) })
  else s

/-- Take what has been received for a code for the instant that has come: zero tagged Z where there is none (R192's reason, R272, R273). -/
def Block.takeFresh (s : Block) (p code : Nat) : Sample × Block :=
  let l := Tab.get (fun _ => []) (s.sapSt p).fresh code
  let t := s.tickNo - s.time.tick % s.sapP p
  let x := ((l.find? (fun z => z.1 = t)).bind (·.2)).getD ⟨0, tagZ⟩
  (x, s.modSap p (fun y => { y with fresh := Tab.set (fun _ => []) y.fresh code (l.filter (fun z => t < z.1)) }))

/-- What a transmit map code sends in the frame that ends now: the sample of a slot or of a high-rate tap that was released at least 4 ticks before the
frame's start, or a channel's output (R272, R274). -/
def Block.sapSource (s : Block) (p code : Nat) (off : Int) : Sample × Block :=
  let start := s.frameInstant p off + s.f (Reg.SAP_PHASE_FPH p)
  if 0x20 ≤ code && code < 0x40 then
    let late := (((s.graph.relAt : Int) + 4 - start + s.graphPeriod - 1) / s.graphPeriod).toNat
    ((s.graph.sinks.getD late []).getD (20 + (code - 0x20)) {}, s)
  else if 0x40 ≤ code && code < 0x50 then s.srcToPort (code - 0x40)
  else if 0x80 ≤ code && code < 0x90 then
    ((((s.chain (.dec (code - 0x80))).taps.find? (fun x => (x.1 : Int) + 4 ≤ start)).map (·.2)).getD Sample.zero, s)
  else (Sample.zero, s)

/-- The output slots of a frame (R269). -/
def Block.sapSend (s : Block) (p : Nat) (off : Int) : Block :=
  let width := s.f (Reg.SAP_CFG_WIDTH p)
  let r := (List.range (s.f (Reg.SAP_CFG_SLOTS p) + 1)).foldl (fun (r : List Word × Block) i =>
    let (x, t) := r.2.sapSource p (r.2.f (Reg.SAP_TXMAP_CODE p i)) off
    let w := slotOut width (t.on (Reg.SAP_CFG_TAGOUT p)) x
    (r.1 ++ [w.1], t.onlyIf w.2 (fun t => (t.bump (Reg.SAP_SAT_SAT p)).raise (Reg.SAP_EVT_SAT p)))) ([], s)
  r.2.modSap p (fun x => { x with sent := r.1 })

/-- Frame period of a port in core cycles. -/
def Block.sapPeriod (s : Block) (p : Nat) : Rat := 196608000 / (s.sapRate p : Rat)

/-- The window of a synchronous target (R273): frames outside it in a row lose the port, 16 inside it in a row regain it. -/
def Block.sapWindow (s : Block) (p : Nat) (outside : Bool) : Block :=
  if outside then
    let s := ((s.bump (Reg.SAP_CNT_FSERR p)).raise (Reg.SAP_EVT_FSERR p)).modSap p (fun x => { x with bad := x.bad + 1, good := 0 })
    if (s.sapSt p).bad = 4 then (s.put (Reg.SAP_STAT_SYNCOK p) 0).raise (Reg.SAP_EVT_LOST p) else s
  else if 4 ≤ (s.sapSt p).bad then
    let s := s.modSap p (fun x => { x with good := x.good + 1 })
    if 16 ≤ (s.sapSt p).good then
      ((s.raise (Reg.SAP_STAT_SYNCOK p)).raise (Reg.SAP_EVT_REGAIN p)).modSap p (fun x => { x with bad := 0, good := 0 })
    else s
  else (s.raise (Reg.SAP_STAT_SYNCOK p)).modSap p (fun x => { x with bad := 0 })

/-- SAP_FRAME (R267, R271, R273, R281, R285): a frame has passed. One of a synchronous controller begins, and so ends, FPH ticks after an instant of its
grid; none comes at another tick. -/
def Block.sapFrameOp (s : Block) (p : Nat) (f : SapFrameIn) : Block :=
  let sync := s.on (Reg.SAP_CFG_SYNC p)
  let target := !s.on (Reg.SAP_CFG_ROLE p)
  if !s.on (Reg.SAP_CFG_EN p) || (sync && !target && s.time.tick % s.sapP p ≠ s.f (Reg.SAP_PHASE_FPH p) % s.sapP p) then s else
  let off : Int := if target then f.fsOffset else 0
  let s := (s.raise (Reg.SAP_STAT_RUN p)).modSap p (fun x => { x with last := some s.time.now })
  let s := if f.complete then s else (s.bump (Reg.SAP_CNT_PART p)).raise (Reg.SAP_EVT_PART p)
  let outside := sync && 4 < off.natAbs
  let s := if sync then (s.putInt (Reg.SAP_PHASE_MEAS p) off).sapWindow p outside else s
  let carried := f.complete && !outside && (s.sapSt p).bad < 4
  let s := s.trkEdge p f
  let s := s.forAll (List.range (s.f (Reg.SAP_CFG_SLOTS p) + 1)) (fun i s =>
    s.sapDeliver p (s.f (Reg.SAP_RXMAP_CODE p i)) off
      (if carried then some (slotIn (s.f (Reg.SAP_CFG_WIDTH p)) (s.on (Reg.SAP_CFG_TAGIN p)) (f.slots.getD i 0)) else none))
  s.sapSend p off

/-- FS_TIMEOUT (R281): no FS edge for four frame periods. -/
def Block.fsTimeoutOp (s : Block) (p : Nat) : Block :=
  match (s.sapSt p).last with
  | none => s
  | some t =>
    if (s.time.now : Rat) < t + 4 * s.sapPeriod p then s else
    let s := ((s.put (Reg.SAP_STAT_RUN p) 0).put (Reg.SAP_STAT_SYNCOK p) 0).modSap p (fun x => { x with last := none, close := 0 })
    if s.f (Reg.SRC_TRK_STAT_STATE p) = 2 then s.trkUnlock p else s

/-! ## The grid side -/

/-- The code of a receive map entry and its port. -/
def Block.rxMapped (s : Block) (code : Nat) : Option Nat :=
  (List.range 4).find? (fun p => s.on (Reg.SAP_CFG_EN p) &&
    (List.range (s.f (Reg.SAP_CFG_SLOTS p) + 1)).any (fun i => s.f (Reg.SAP_RXMAP_CODE p i) == code))

/-- The taps take their samples at a graph instant: a frame's sample, or zero tagged Z where it is missing; a channel's output (R192's reason,
R272, R273, R281). -/
def Block.sapInstant (s : Block) : Block :=
  let put (k : Nat) (x : Sample) (s : Block) : Block :=
    let x := s.faded (Tab.get (fun _ => none) s.sap.fades k) false x
    { s with sap := { s.sap with taps := Tab.set (fun _ => {}) s.sap.taps k x } }
  let s := s.forAll (List.range 32) (fun k s =>
    match s.rxMapped (0x20 + k) with
    | none => s
    | some p =>
      let (x, s) := s.takeFresh p (0x20 + k)
      put k x s)
  s.forAll ((List.range 16).filter (fun c => s.on (Reg.SRC_CFG_EN c) && !s.on (Reg.SRC_CFG_DIR c))) (fun c s =>
    let (x, s) := s.srcToGraph c
    put (s.f (Reg.SRC_CFG_K c)) x s)

/-- Released slots enter the channels from graph to port (R276, R279). -/
def Block.sapRelease (s : Block) (slot : Nat → Sample) : Block :=
  s.forAll ((List.range 16).filter (fun c => s.on (Reg.SRC_CFG_EN c) && s.on (Reg.SRC_CFG_DIR c))) (fun c s =>
    s.srcFromGraph c (slot (s.f (Reg.SRC_CFG_K c))))

/-- The high-rate sources take their samples every 64 ticks (R114, R271, R273). -/
def Block.sapTick (s : Block) : Block :=
  if !s.audioOn || s.time.tick % 64 ≠ 0 then s else
  s.forAll ((List.range 20).filter (fun m => s.on (Reg.CHAIN_ICFG_EN m) && s.on (Reg.CHAIN_ICFG_HRT m))) (fun m s =>
    match s.rxMapped (0x60 + m) with
    | none => s
    | some p =>
      let (x, s) := s.takeFresh p (0x60 + m)
      s.modChain (.int m) (fun y => { y with input := s.faded (Tab.get (fun _ => none) s.sap.fades (32 + m)) true x }))

/-- A port restarts (R284). -/
def Block.sapRestart (s : Block) (p : Nat) : Block :=
  let s := s.modSap p (fun _ => {})
  let s := ((s.put (Reg.SAP_STAT_RUN p) 0).put (Reg.SAP_STAT_SYNCOK p) 0).put (Reg.SRC_TRK_STAT_STATE p) 0
  s.forAll (s.srcOf p) (fun c s => (s.modSrc c (fun _ => {})).put (Reg.SRC_STAT_MUTE c) 1)

/-! ## The commands -/

/-- SAP_FRAME (R267). -/
def execSapFrame (p : Nat) (f : SapFrameIn) (s : State) : Host.Outcome State Fault Refusal := s.act (p < 4) (fun b => b.sapFrameOp p f)

/-- FS_TIMEOUT (R281). -/
def execFsTimeout (p : Nat) (s : State) : Host.Outcome State Fault Refusal := s.act (p < 4) (fun b => b.fsTimeoutOp p)

end Sys2Proof.Machine
end

