-- ==== Sys2Proof/Machine/Graph.lean ====
section
/-! DEFINITION. The Espalier graph (R163 to R197, R239 to R251): sources, selects and their switches, the schedule, stream rings, Direct returns,
block scarfs, and the commands that act on them. -/

namespace Sys2Proof.Machine

/-! ## Selects (R170 to R176, R248) -/

/-- The record of a select. -/
def Block.sel (s : Block) (k : Nat) : SelSt := Tab.get (fun _ => {}) s.graph.sels k

/-- Change the record of a select. -/
def Block.modSel (s : Block) (k : Nat) (h : SelSt → SelSt) : Block :=
  s.modGraph (fun g => { g with sels := Tab.upd (fun _ => {}) g.sels k h })

/-- The source an alternative of a select names (R171). -/
def Block.altSource (s : Block) (k alt : Nat) : Nat :=
  match alt with
  | 0 => s.f (Reg.GRF_SEL_ALT01_ALT0 k)
  | 1 => s.f (Reg.GRF_SEL_ALT01_ALT1 k)
  | 2 => s.f (Reg.GRF_SEL_ALT23_ALT2 k)
  | _ => s.f (Reg.GRF_SEL_ALT23_ALT3 k)

/-- A graft holds new requests (R254). -/
def Block.frozen (s : Block) : Bool := s.on Reg.GRF_SCARF_STAT_FREEZE

/-- The length of a scarf for a length code (R239). -/
def scarfLen (code : Nat) : Nat := 32 * 2 ^ min 5 code

/-- Start the switch of a select to an alternative, from the source in force (R174). -/
def Block.startSwitch (s : Block) (k alt : Nat) : Block :=
  let old := s.f (Reg.GRF_SEL_CUR k)
  let sc : Scarf := ⟨0, scarfLen (s.f Reg.GRF_SCARF_CFG_SLEN), s.on Reg.GRF_SCARF_CFG_SLAW, 0⟩
  (s.put (Reg.GRF_SEL_CUR k) (s.altSource k alt)).modSel k (fun x => { x with alt := alt, run := some (old, sc), wait := none })

/-- A request for an alternative meets what runs and waits (R248). -/
def Block.selRequest (s : Block) (k alt : Nat) : Block :=
  let x := s.sel k
  if x.run.isSome || s.frozen then
    match x.wait with
    | none => if alt = x.alt then s else s.modSel k (fun y => { y with wait := some alt })
    | some _ => (s.raise Reg.GRF_EVT_SELOVR).modSel k (fun y => { y with wait := if alt = x.alt then none else some alt })
  else s.modSel k (fun y => { y with wait := if alt = x.alt then none else some alt })

/-- ALT_WRITE (R174 to R176, R248). -/
def Block.altWriteOp (s : Block) (k alt : Nat) : Block :=
  let nalt := s.f (Reg.GRF_SEL_NALT k)
  if nalt < alt then s.raise Reg.GRF_EVT_ALTERR
  else if nalt = 0 then s
  else
    let s := s.put (Reg.GRF_SEL_ALT k) alt
    if s.on Reg.GRF_GLB_CTRL_SELHOLD then s.modSel k (fun x => { x with held := some alt }) else s.selRequest k alt

/-- SELHOLD_RELEASE (R176): every stored change starts at the same graph instant. -/
def Block.selholdReleaseOp (s : Block) : Block :=
  let s := s.put Reg.GRF_GLB_CTRL_SELHOLD 0
  s.forAll (List.range 196) (fun k s =>
    match (s.sel k).held with
    | none => s
    | some alt => (s.modSel k (fun x => { x with held := none })).selRequest k alt)

/-- End the switch of a select (R240). -/
def Block.endSwitch (s : Block) (k : Nat) : Block := (s.modSel k (fun x => { x with run := none })).raise Reg.GRF_EVT_SELDONE

/-- SELECT_SWITCH_END (R248): the switch has reached its sample N; a waiting one starts from the target it reached. -/
def Block.selectSwitchEndOp (s : Block) (k : Nat) : Block :=
  match (s.sel k).run with
  | none => s
  | some (_, sc) =>
    if sc.k < sc.n then s else
    let s := s.endSwitch k
    match (s.sel k).wait with
    | some alt => if s.frozen then s else s.startSwitch k alt
    | none => s

/-- Selects with a stored or waiting switch (GRF_GLB_STAT.NPEND). -/
def SelSt.pending (x : SelSt) : Bool := x.wait.isSome || x.held.isSome

/-! ## Block scarfs (R201, R239 to R251) -/

/-- Start a scarf of a block: the new version takes the staging set and positions as they stand, with the old version's state (R201, R245); the slots it
takes are no longer idle, and a MAC lane slice ends incomplete (R185, R552). -/
def Block.startScarf (s : Block) (b kind : Nat) : Block :=
  let s := s.bstCut (fun t => t == 4) true
  let x := s.blk b
  let pos := if 40 ≤ b && b < 44 then [1 - x.cur.pos.getD 0 0] else if kind = 5 then x.cur.pos else s.positions b
  let v : Ver := { x.cur with set := s.stagedWords b, pos := pos }
  let n := scarfLen (s.f Reg.GRF_SCARF_CFG_BLEN)
  let s := s.modBlk b (fun y => { y with next := some (v, ⟨0, n, s.on Reg.GRF_SCARF_CFG_BLAW, kind⟩), req := none, pend := none })
  (((s.put (Reg.GRF_BLK_PROG_DONE b) 0).put (Reg.GRF_BLK_PROG_KIND b) kind).put (Reg.GRF_BLK_PROG_LEN b) n).put (Reg.GRF_BLK_PROG_ACTIVE b) 1

/-- A request for a scarf of a block (R184, R244). -/
def Block.scarfRequest (s : Block) (b kind : Nat) : Block :=
  if !s.present b then s
  else if !s.crossfadable b then s.raise Reg.GRF_EVT_XFREF
  else
    let x := s.blk b
    let again := x.fresh
    let s := s.modBlk b (fun y => { y with fresh := true })
    if x.next.isSome || x.fade.isSome || s.frozen || x.pend.isSome then
      if x.pend.isSome then s.onlyIf (!again) (fun s => s.raise Reg.GRF_SCARF_EVT_OVR) else s.modBlk b (fun y => { y with pend := some kind })
    else if x.req.isSome then s
    else s.modBlk b (fun y => { y with req := some (kind, s.time.now) })

/-- End the scarf of a block with its new version in force (R201, R223, R240). -/
def Block.endScarf (s : Block) (b : Nat) : Block :=
  match (s.blk b).next with
  | none => s
  | some (v, sc) =>
    let s := s.modBlk b (fun y => { y with cur := v, next := none })
    let s := (s.put (Reg.GRF_BLK_PROG_ACTIVE b) 0).raise Reg.GRF_SCARF_EVT_BDONE
    if sc.kind = 2 then (s.put (Reg.CNV_STAT_ACTIVE (b - 40)) (v.pos.getD 0 0)).raise (Reg.EFX_EVT_CNVDONE.bit (b - 40)) else s

/-- BLOCK_SCARF_END (R245): the scarf has reached its sample N; a pending one starts at that instant. -/
def Block.blockScarfEndOp (s : Block) (b : Nat) : Block :=
  match (s.blk b).next with
  | none => s
  | some (_, sc) =>
    if sc.k < sc.n then s else
    let s := s.endScarf b
    match (s.blk b).pend with
    | some kind => if s.frozen then s else s.startScarf b kind
    | none => s

/-- APPLY (R201): a strip, a bus processor or a tone generator. -/
def Block.applyOp (s : Block) (b : Nat) : Block := if b < 40 || (54 ≤ b && b < 62) then s.scarfRequest b 1 else s

/-- Whether a coefficient write is closed: the active bank, or either bank while a swap runs or waits (R222). -/
def Block.coefClosed (s : Block) (x : Nat) : Bool :=
  let c := x / 0x4000
  let b := s.blk (40 + c)
  x / 0x2000 % 2 == s.f (Reg.CNV_STAT_ACTIVE c) || b.next.isSome || b.req.isSome || b.pend.isSome

/-- CNV_COEF_WRITE (R222): answers whether the write took effect. -/
def Block.coefStore (s : Block) (x : Nat) (w : Word) : Bool × Block :=
  if s.coefClosed x then (false, s.raise Reg.EFX_EVT_CWERR) else (true, s.coefWrite x w)

/-- DELAY_JUMP (R229, R246): TIME is stored; in jump mode each write requests a scarf. -/
def Block.timeWriteOp (s : Block) (d ch time : Nat) : Block :=
  if !s.present (48 + d) then s else
  let a := Reg.DLY_TIME d ch
  let s := (s.parWrite a (s.word a)).put (Reg.DLY_TIME_TIME d ch) time
  if s.on (Reg.DLY_CTRL_MODE d) then s.scarfRequest (48 + d) 3 else s

/-- PRE_DELAY_WRITE (R231). -/
def Block.preWriteOp (s : Block) (v pre : Nat) : Block :=
  if !s.present (52 + v) then s else (s.put (Reg.RVB_PRE_PRE v) pre).scarfRequest (52 + v) 4

/-- LFORST (R224). -/
def Block.lforstOp (s : Block) (m : Nat) : Block :=
  if !s.present (44 + m) then s else s.modBlk (44 + m) (fun x => { x with lfoRst := some s.time.now })

/-- PRST (R236). -/
def Block.prstOp (s : Block) (g : Nat) : Block :=
  if !s.present (54 + g) then s else s.modBlk (54 + g) (fun x => { x with prst := some s.time.now })

/-! ## Rings (R190 to R197) -/

/-- The fill of a ring (R191). -/
def Block.ringFill (s : Block) (t : Nat) : Nat := (s.f (Reg.GRF_RING_WR_WR t) + 2 ^ 32 - s.f (Reg.GRF_RING_RD_RD t)) % 2 ^ 32

/-- The length of a ring in words (R190). -/
def Block.ringLen (s : Block) (t : Nat) : Nat := 2 ^ s.f (Reg.GRF_RING_CFG_LOG2N t)

/-- Byte offset of the word of a sample index (R191). -/
def Block.ringWord (s : Block) (t x : Nat) : Nat := s.f (Reg.GRF_RING_CFG_OFS t) + 4 * (x % s.ringLen t)

/-- The fill is noted at the instant; a watermark is crossed (R196). -/
def Block.ringNote (s : Block) (t : Nat) : Block :=
  let fill := s.ringFill t
  let was := Tab.get (fun _ => 0) s.graph.fill t
  let thr := s.f (Reg.GRF_RING_THR_THR t)
  let s := ((s.put (Reg.GRF_RING_STAT_FILL t) fill).putB (Reg.GRF_RING_STAT_EMPTY t) (fill == 0)).putB (Reg.GRF_RING_STAT_FULL t) (fill == s.ringLen t)
  let s := s.modGraph (fun g => { g with fill := Tab.set (fun _ => 0) g.fill t fill })
  s.onlyIf (if t < 8 then thr ≤ was && fill < thr else was < thr && thr ≤ fill) (fun s => s.raise (Reg.GRF_RING_EVT_WM t))

/-- An underrun or a drop (R192, R193). -/
def Block.ringXrun (s : Block) (t : Nat) : Block := (s.bump (Reg.GRF_RING_XCNT_XRUN t)).raise (Reg.GRF_RING_EVT_XRUN t)

/-- A stream-in tap reads its ring (R192). -/
def Block.streamIn (s : Block) (t : Nat) : Sample × Block :=
  if s.ringFill t = 0 then (⟨0, tagZ⟩, (s.ringXrun t).ringNote t)
  else
    let (w, st, s) := s.sramRead (s.ringWord t (s.f (Reg.GRF_RING_RD_RD t))) rdrGraph []
    let last := Tab.get (fun _ => ({} : Sample)) s.graph.lastRead (86 + t)
    let y : Sample := if st = 0 then Sample.ofWord w else if st = 1 then last.withTag tagS else ⟨0, tagS⟩
    let s := s.modGraph (fun g => { g with lastRead := Tab.set (fun _ => {}) g.lastRead (86 + t) y })
    (y, (s.bumpWrap (Reg.GRF_RING_RD_RD t)).ringNote t)

/-- A stream-out tap writes its ring (R193). -/
def Block.streamOut (s : Block) (t : Nat) (x : Sample) : Block :=
  if s.ringFill t < s.ringLen t then
    ((s.sramWrite (s.ringWord t (s.f (Reg.GRF_RING_WR_WR t))) x.toWord).bumpWrap (Reg.GRF_RING_WR_WR t)).ringNote t
  else (s.ringXrun t).ringNote t

/-- RING_INDEX_WRITE (R195): an index that is the device's own is read-only. -/
def Block.ringIndexOp (s : Block) (t : Nat) (isWr : Bool) (v : Nat) : Block :=
  if t < 8 then
    if !isWr then s
    else if s.ringLen t < (v + 2 ^ 32 - s.f (Reg.GRF_RING_RD_RD t)) % 2 ^ 32 then s.raise (Reg.GRF_RING_EVT_IDXERR t)
    else s.put (Reg.GRF_RING_WR_WR t) v
  else if isWr then s
  else if 2 ^ 31 ≤ (s.f (Reg.GRF_RING_WR_WR t) + 2 ^ 32 - v) % 2 ^ 32 then s.raise (Reg.GRF_RING_EVT_IDXERR t)
  else s.put (Reg.GRF_RING_RD_RD t) v

/-! ## The schedule (R163, R177 to R180) -/

/-- What a schedule has at hand: the sources formed so far, the pre taps and outputs of strips, and the sends. -/
structure Sched where
  vals : Tab Sample
  pres : Tab (Int × Byte)
  sends : List (Nat × Rat × Sample)
  todo : List Nat

/-- The sample of a source in a schedule; silence where none is formed (R165). -/
def Sched.src (c : Sched) (id : Nat) : Sample := Tab.get (fun _ => ({} : Sample)) c.vals id

/-- Note the sample of a source. -/
def Sched.note (c : Sched) (id : Nat) (x : Sample) : Sched := { c with vals := Tab.set (fun _ => {}) c.vals id x }

/-- The block that forms a source within the schedule: strips, buses, bus processors, convolvers, modulation blocks (R163, R166). -/
def sourceBlock (id : Nat) : Option Nat :=
  if 0x080 ≤ id && id < 0x0A0 then some (id - 0x080)
  else if 0x0A0 ≤ id && id < 0x0B8 then some (62 + (id - 0x0A0))
  else if 0x0C0 ≤ id && id < 0x0C8 then some (32 + (id - 0x0C0))
  else if 0x0D0 ≤ id && id < 0x0D4 then some (40 + (id - 0x0D0))
  else if 0x0D8 ≤ id && id < 0x0E0 then some (44 + (id - 0x0D8) / 2)
  else none

/-- The selects a block reads (R170). -/
def blockSelects (b : Nat) : List Nat :=
  if b < 32 then [b, 0x20 + b]
  else if b < 40 then [0x40 + (b - 32), 0x48 + (b - 32)]
  else if b < 44 then [0x50 + (b - 40)]
  else if b < 48 then [0x54 + 2 * (b - 44), 0x55 + 2 * (b - 44)]
  else if b < 52 then [0x5C + 2 * (b - 48), 0x5D + 2 * (b - 48)]
  else if b < 54 then [0x64 + 2 * (b - 52), 0x65 + 2 * (b - 52)]
  else []

/-- The sources a select reads now: both sides of a running switch. -/
def Block.selSources (s : Block) (k : Nat) : List Nat :=
  s.f (Reg.GRF_SEL_CUR k) :: (match (s.sel k).run with
    | some (old, sc) => if sc.k < sc.n then [old] else []
    | none => [])

/-- What a select delivers: its source, or the crossfade of a switch (R174, R240). -/
def Block.selRead (s : Block) (c : Sched) (k : Nat) : Sample :=
  let new := c.src (s.f (Reg.GRF_SEL_CUR k))
  match (s.sel k).run with
  | none => new
  | some (old, sc) => if sc.k < sc.n then sc.mixSamples (c.src old) new else new

/-- The strips that send into a bus: those whose enabled sends name it, with the partners of stereo pairs (R167, R215). -/
def Block.sendsInto (s : Block) (n bus : Nat) : Bool :=
  (List.range 8).any (fun k => s.on (Reg.STR_SEND_EN n k) &&
    (s.f (Reg.STR_SEND_DEST n k) == bus || (s.on (Reg.STR_SEND_PAIR n k) && s.f (Reg.STR_SEND_DEST n k) + 1 == bus)))

/-- Blocks that must run before a block: a bus after the strips that send into it, both strips of a stereo pair among them (R180, R215). -/
def Block.needs (s : Block) (b : Nat) : List Nat :=
  if 62 ≤ b then (List.range 32).filter (fun n => s.present n &&
    (if s.on (Reg.STR_CFG_STEREO n) then s.sendsInto (n / 2 * 2) (b - 62) else s.sendsInto n (b - 62)))
  else (blockSelects b).flatMap (fun k => (s.selSources k).filterMap sourceBlock)

/-- The fade of a cut block on an output (R259). -/
def Block.cutOut (s : Block) (b : Nat) (x : Sample) : Sample := s.faded (s.blk b).fade false x

/-- The fade of a cut block on a wide value. -/
def Block.cutWide (s : Block) (b : Nat) (x : Int × Byte) : Int × Byte :=
  match (s.blk b).fade with
  | none => x
  | some f =>
    let w := s.fadeWeight f false
    if f.up && w = 64 then x else (q40 (wide x.1 * w / 64), tagIf w x.2 ||| tagX)

/-- The key of a detector: none where its select names silence (R167, R210). While it switches to or from silence the detector follows the crossfade
of the read stage (DESIGN CHOICE, assumption log 87: the section does not say what it follows then). -/
def Block.keyIn (s : Block) (c : Sched) (k : Nat) : KeyIn :=
  if s.f (Reg.GRF_SEL_CUR k) = 0 && (s.sel k).run.isNone then none else some (s.selRead c k)

/-- The sends of a strip or of a stereo pair, once all their taps are formed (R214, R215). -/
def Block.runSends (s : Block) (c : Sched) (n : Nat) : List (Nat × Rat × Sample) × Block :=
  let pre (i : Nat) : Int × Byte := Tab.get (fun _ => (0, 0)) c.pres i
  let enabled := (List.range 8).filter (fun k => s.on (Reg.STR_SEND_EN n k))
  if !s.on (Reg.STR_CFG_STEREO n) then
    enabled.foldl (fun (r : List (Nat × Rat × Sample) × Block) k =>
      let x := r.2.sendSingle n k (pre n) (c.src (0x080 + n))
      (r.1 ++ x.1, x.2)) ([], s)
  else
    let a := n / 2 * 2
    if c.todo.contains a || c.todo.contains (a + 1) then ([], s) else
    ((List.range 8).filter (fun k => s.on (Reg.STR_SEND_EN a k))).foldl (fun (r : List (Nat × Rat × Sample) × Block) k =>
      let x := r.2.sendStereo a k (pre a) (pre (a + 1)) (c.src (0x080 + a)) (c.src (0x080 + a + 1))
      (r.1 ++ x.1, x.2)) ([], s)

/-- Run one block of the schedule. -/
def Block.runBlock (s : Block) (c : Sched) (b : Nat) : Sched × Block :=
  let c := { c with todo := c.todo.erase b }
  if b < 32 then
    let (pre, out, s) := (s.movePan b).runStrip b (s.selRead c b) (s.keyIn c (0x20 + b))
    let c := { c.note (0x080 + b) (s.cutOut b out) with pres := Tab.set (fun _ => (0, 0)) c.pres b (s.cutWide b pre) }
    let (sends, s) := s.runSends c b
    ({ c with sends := c.sends ++ sends }, s)
  else if b < 40 then
    let (x, s) := s.runBusProc (b - 32) (s.selRead c (0x40 + (b - 32))) (s.keyIn c (0x48 + (b - 32)))
    (c.note (0x0C0 + (b - 32)) (s.cutOut b x), s)
  else if b < 44 then
    let (x, s) := s.runConv (b - 40) (s.selRead c (0x50 + (b - 40)))
    (c.note (0x0D0 + (b - 40)) (s.cutOut b x), s)
  else if b < 48 then
    let m := b - 44
    let (l, r, s) := s.runMod m (s.selRead c (0x54 + 2 * m)) (s.selRead c (0x55 + 2 * m))
    ((c.note (0x0D8 + 2 * m) (s.cutOut b l)).note (0x0D9 + 2 * m) (s.cutOut b r), s)
  else if 62 ≤ b then
    let (x, s) := s.runBus (b - 62) c.sends
    (c.note (0x0A0 + (b - 62)) (s.cutOut b x), s)
  else (c, s)

/-- Run the blocks in an order in which each follows the sources it reads (R180). -/
def Block.runAll : Nat → Sched → Block → Sched × Block
  | 0, c, s => (c, s)
  | fuel + 1, c, s =>
    match c.todo with
    | [] => (c, s)
    | first :: _ =>
      let b := (c.todo.find? (fun b => (s.needs b).all (fun d => d == b || !c.todo.contains d))).getD first
      let (c, s) := s.runBlock c b
      Block.runAll fuel c s

/-- A Direct return (R177, R178): the gains in force on the mirrored crosspoints, over the port sources. -/
def Block.directReturn (s : Block) (c : Sched) (r : Nat) : Sample × Block :=
  let o := s.f (Reg.GRF_DRET_OUT r)
  let is := (List.range 16).filter (fun i => s.on (Reg.DIR_XP_EN o i) && s.isInput i && s.on (Reg.CHAIN_DCFG_EN i))
  let terms := is.map (fun i => (((s.xp o i).gain s.time.now : Rat) / 2 ^ 22, c.src (0x001 + i)))
  let w := writeOut (accSum (terms.map (fun t => t.1 * t.2.real))) (terms.foldl (fun a t => a ||| tagIf t.1 t.2.tag) 0)
  (w.1, s.onlyIf w.2 (fun s => s.raise Reg.GRF_EVT_SAT))

/-- The sources that stand outside the schedule (R163): inputs, taps, rings, returns, generators, delays and reverbs. -/
def Block.latch (s : Block) : Sched × Block :=
  let c : Sched := ⟨[], [], [], (List.range 86).filter (fun b => s.present b && (b < 48 || 62 ≤ b))⟩
  let r := ((List.range 16).filter (fun n => s.isInput n && s.on (Reg.CHAIN_DCFG_EN n))).foldl (fun (r : Sched × Block) n =>
    let (x, t) := r.2.calibrate n (r.2.chain (.dec n)).out
    (r.1.note (0x001 + n) x, t)) (c, s)
  let c := (List.range 32).foldl (fun c k => c.note (0x020 + k) (Tab.get (fun _ => {}) r.2.sap.taps k)) r.1
  let c := ((List.range 32).filter (fun k => (bulkRoutes (s.f (Reg.TRL_BIN_ROUTE k))).1)).foldl (fun c k =>
    c.note (0x040 + k) (s.bulkTap k)) c
  let r := ((List.range 8).filter (fun t => s.on (Reg.GRF_RING_CFG_EN t))).foldl (fun (r : Sched × Block) t =>
    let (x, b) := r.2.streamIn t
    (r.1.note (0x068 + t) x, b)) (c, r.2)
  let r := ((List.range 8).filter (fun t => s.on (Reg.GRF_DRET_EN t))).foldl (fun (r : Sched × Block) t =>
    let (x, b) := r.2.directReturn r.1 t
    (r.1.note (0x070 + t) x, b)) r
  let r := ((List.range 8).filter (fun g => s.present (54 + g))).foldl (fun (r : Sched × Block) g =>
    let (x, b) := r.2.runTone g
    (r.1.note (0x060 + g) (b.cutOut (54 + g) x), b)) r
  let r := ((List.range 4).filter (fun d => s.present (48 + d))).foldl (fun (r : Sched × Block) d =>
    let (x, y, b) := r.2.delayOut d
    ((r.1.note (0x0E0 + 2 * d) (b.cutOut (48 + d) x)).note (0x0E1 + 2 * d) (b.cutOut (48 + d) y), b)) r
  ((List.range 2).filter (fun v => s.present (52 + v))).foldl (fun (r : Sched × Block) v =>
    let (x, y, b) := r.2.reverbOut v
    ((r.1.note (0x0E8 + 2 * v) (b.cutOut (52 + v) x)).note (0x0E9 + 2 * v) (b.cutOut (52 + v) y), b)) r

/-- The schedule of one graph sample: the 92 sinks (R168, R179, R189). -/
def Block.schedule (s : Block) : List Sample × Block :=
  let (c, s) := s.latch
  let (c, s) := Block.runAll 86 c s
  let s := s.forAll ((List.range 4).filter (fun d => s.present (48 + d))) (fun d s =>
    s.delayIn d (s.selRead c (0x5C + 2 * d)) (s.selRead c (0x5D + 2 * d)))
  let s := s.forAll ((List.range 2).filter (fun v => s.present (52 + v))) (fun v s =>
    s.reverbIn v (s.selRead c (0x64 + 2 * v)) (s.selRead c (0x65 + 2 * v)))
  let sinks := (List.range 92).map (fun j => if s.on Reg.GRF_LANE_FAIL then (⟨0, tagS⟩ : Sample) else s.selRead c (0x68 + j))
  (sinks, s)

/-! ## A graph instant (R179, R199, R244) -/

/-- The writes that a graph instant takes: made at least one tick before it (R199). -/
def Block.takeLate (s : Block) : Block :=
  let due := s.graph.late.filter (fun p => p.2.2 + 16 ≤ s.time.now)
  (s.modGraph (fun g => { g with late := g.late.filter (fun p => s.time.now < p.2.2 + 16) })).takeWrites (due.map (·.1))

/-- Requests that have waited for this instant start (R174, R199, R224, R236, R244). -/
def Block.startRequests (s : Block) : Block :=
  let s := s.takeLate
  let s := s.forAll (s.graph.blks.map (·.1)) (fun b s =>
    let x := s.blk b
    let s := s.modBlk b (fun y => { y with fresh := false })
    let s := if x.lfoRst.isSome then s.modBlk b (fun y => { y with lfo := 0, lfoRst := none }) else s
    let s := if x.prst.isSome then
        s.modBlk b (fun y => { y with cur := s.loadPhase (b - 54) y.cur, next := y.next.map (fun p => (s.loadPhase (b - 54) p.1, p.2)), prst := none })
      else s
    match x.req with
    | some (kind, t) => if t + 16 ≤ s.time.now then s.startScarf b kind else s
    | none =>
      match x.pend with
      | some kind => if x.next.isNone && x.fade.isNone && !s.frozen then s.startScarf b kind else s
      | none => s)
  s.forAll (s.graph.sels.map (·.1)) (fun k s =>
    match (s.sel k).run, (s.sel k).wait with
    | none, some alt => if s.frozen then s else s.startSwitch k alt
    | _, _ => s)

/-- Scarfs, switches and fades have done one more sample; a fade that is wholly in ends (R249, R259, R264). -/
def Block.advanceScarfs (s : Block) : Block :=
  let s := s.forAll ((List.range 86).filter s.present) (fun b s =>
    let s := s.modBlk b (fun y => { y with count := y.count + 1 })
    match (s.blk b).next, (s.blk b).fade with
    | some (v, sc), _ =>
      if sc.k < sc.n then
        (s.modBlk b (fun y => { y with next := some (v, { sc with k := sc.k + 1 }) })).put (Reg.GRF_BLK_PROG_DONE b) (sc.k + 1)
      else s
    | none, some f =>
      match f.at' with
      | none => s
      | some t =>
        let k := min 64 ((s.time.now - t) / 16 / s.graphPeriod + 1)
        let s := s.put (Reg.GRF_BLK_PROG_DONE b) k
        if f.up && 64 ≤ f.w0 + k then (s.put (Reg.GRF_BLK_PROG_ACTIVE b) 0).modBlk b (fun y => { y with fade := none })
        else if k = 64 then s.put (Reg.GRF_BLK_PROG_ACTIVE b) 0 else s
    | none, none => s)
  s.forAll (s.graph.sels.map (·.1)) (fun k s => s.modSel k (fun x =>
    { x with run := x.run.map (fun p => (p.1, { p.2 with k := min p.2.n (p.2.k + 1) })) }))

/-- The output buffer presents its sinks: chains, serial slots, the bulk packer and stream-out rings (R179). -/
def Block.present' (s : Block) : Block :=
  let out := s.graph.buf
  let sink (j : Nat) : Sample := out.getD j {}
  let s := s.modGraph (fun g => { g with sinks := (out :: g.sinks).take 4, relAt := s.tickNo, buf := g.work })
  let s := s.chainInstant sink
  let s := s.sapRelease (fun k => sink (20 + k))
  s.onlyIf (!out.isEmpty) (fun s =>
    s.forAll ((List.range 8).filter (fun j => s.on (Reg.GRF_RING_CFG_EN (8 + j)))) (fun j s => s.streamOut (8 + j) (sink (84 + j))))

/-- The graph runs: an audio mode with an active image. -/
def Block.graphOn (s : Block) : Bool := s.audioOn && s.img.active.isSome

/-- GRAPH_INSTANT (R179): sample n − 2 is presented, sample n − 1 passes to the output buffer, the sources of sample n are latched and its schedule
runs. -/
def Block.graphInstantOp (s : Block) (us : List Upset) : Block :=
  if !s.time.graphDue then s else
  let s := ({ s with time := { s.time with graphDue := false } }).takeUpsets us
  if !s.graphOn then s else
  let s := s.startRequests.present'.sapInstant
  let (sinks, s) := s.schedule
  (s.modGraph (fun g => { g with work := sinks })).advanceScarfs

/-! ## Stops and restarts (R251) -/

/-- Every block stands in cleared state, with the set, alternative and bank in force (R251). -/
def Block.clearBlocks (s : Block) : Block :=
  s.forAll ((List.range 86).filter s.present) (fun b s =>
    let v : Ver := { set := (s.blk b).cur.set, pos := (s.blk b).cur.pos }
    let v := if 54 ≤ b && b < 62 then s.loadPhase (b - 54) v else v
    s.modBlk b (fun _ => { cur := v }))

/-- The graph stops without a reset: scarfs, switches and biquad swaps end with their new versions, waiting requests are dropped, and the blocks stand
in the cleared state from which they resume at the exit to READY (R251). -/
def Block.stopGraph (s : Block) : Block :=
  let drop (s : Block) : Block := s.raise Reg.GRF_SCARF_EVT_DROP
  let s := s.bstCut (fun t => t == 4) true
  let s := s.forAll (s.graph.blks.map (·.1)) (fun b s =>
    let x := s.blk b
    let s := s.onlyIf (x.pend.isSome || x.req.isSome) drop
    (s.endScarf b).modBlk b (fun y => { y with pend := none, req := none, fade := none }))
  let s := s.forAll (s.graph.sels.map (·.1)) (fun k s =>
    let x := s.sel k
    let s := s.onlyIf x.wait.isSome drop
    (if x.run.isSome then s.endSwitch k else s).modSel k (fun y => { y with wait := none }))
  let s := s.forAll (List.range 24) (fun o s =>
    let s := (s.endSwap o).endSwap o
    if s.on (Reg.DIR_OSTAT_BQPEND o) then drop (s.put (Reg.DIR_OSTAT_BQPEND o) 0) else s)
  (s.modGraph (fun g => { g with ramps := [], late := [], work := [], buf := [], sinks := [], lastRead := [] })).clearBlocks

/-- At the exit to READY every block resumes from cleared state, a parameter written since the stop in force (R251). -/
def Block.resumeGraph (s : Block) : Block := s.clearBlocks

/-! ## The commands -/

/-- GRAPH_INSTANT (R179). -/
def execGraphInstant (upsets : List Upset) (s : State) : Host.Outcome State Fault Refusal := s.act true (fun b => b.graphInstantOp upsets)

/-- ALT_WRITE (R174). -/
def execAltWrite (k alt : Nat) (s : State) : Host.Outcome State Fault Refusal := s.hostWrite (k < 196 && alt < 4) (fun b => b.altWriteOp k alt)

/-- SELECT_SWITCH_END (R248). -/
def execSelectSwitchEnd (k : Nat) (s : State) : Host.Outcome State Fault Refusal := s.act (k < 196) (fun b => b.selectSwitchEndOp k)

/-- SELHOLD_RELEASE (R176). -/
def execSelholdRelease (s : State) : Host.Outcome State Fault Refusal := s.hostWrite true (fun b => b.selholdReleaseOp)

/-- RING_INDEX_WRITE (R195). -/
def execRingIndexWrite (t : Nat) (isWr : Bool) (v : Word) (s : State) : Host.Outcome State Fault Refusal :=
  s.hostWrite (t < 16) (fun b => b.ringIndexOp t isWr v.toNat)

/-- APPLY (R201). -/
def execApply (b : Nat) (s : State) : Host.Outcome State Fault Refusal := s.hostWrite (b < 40 || (54 ≤ b && b < 62)) (fun x => x.applyOp b)

/-- BLOCK_SCARF_END (R245). -/
def execBlockScarfEnd (b : Nat) (s : State) : Host.Outcome State Fault Refusal := s.act (b < 62) (fun x => x.blockScarfEndOp b)

/-- CNV_SWAP (R223). -/
def execCnvSwap (c : Nat) (s : State) : Host.Outcome State Fault Refusal := s.hostWrite (c < 4) (fun b => b.scarfRequest (40 + c) 2)

/-- CNV_COEF_WRITE (R222). -/
def execCnvCoefWrite (addr : Nat) (w : Word) (s : State) : Host.Outcome State Fault Refusal :=
  s.hostWrite (coefBase ≤ addr && addr < coefBase + 0x10000 && addr % 4 = 0) (fun b => (b.coefStore (addr - coefBase) w).2)

/-- LFORST (R224). -/
def execLforst (m : Nat) (s : State) : Host.Outcome State Fault Refusal := s.hostWrite (m < 4) (fun b => b.lforstOp m)

/-- DELAY_JUMP (R229). -/
def execDelayJump (d ch time : Nat) (s : State) : Host.Outcome State Fault Refusal :=
  s.hostWrite (d < 4 && ch < 2 && time < 2 ^ 26) (fun b => b.timeWriteOp d ch time)

/-- PRE_DELAY_WRITE (R231). -/
def execPreDelayWrite (v pre : Nat) (s : State) : Host.Outcome State Fault Refusal := s.hostWrite (v < 2 && pre < 2 ^ 13) (fun b => b.preWriteOp v pre)

/-- PRST (R236). -/
def execPrst (g : Nat) (s : State) : Host.Outcome State Fault Refusal := s.hostWrite (g < 8) (fun b => b.prstOp g)

/-- TG_SYNC (R236). -/
def execTgSync (mask : BitVec 8) (s : State) : Host.Outcome State Fault Refusal :=
  s.hostWrite true (fun b => b.forAll ((List.range 8).filter (fun g => mask.getLsbD g)) (fun g b => b.prstOp g))

end Sys2Proof.Machine
end

