-- ==== Sys2Proof/Machine/Security.lean ====
section
/-! DEFINITION. The life-cycle, the key slots and options in OTP, scan (R557 to R560), and the ledger's own commands (R561). -/

namespace Sys2Proof.Machine

/-- Life-cycle states (R557). -/
def lcBlank : Nat := 0
/-- DEVELOP. -/
def lcDevelop : Nat := 1
/-- PRODUCT. -/
def lcProduct : Nat := 2
/-- RETURN. -/
def lcReturn : Nat := 3
/-- SCRAP. -/
def lcScrap : Nat := 4

/-- The transitions of R557. -/
def lcAllowed (src dst : Nat) : Bool :=
  (src == lcBlank && dst == lcDevelop) || (src == lcDevelop && dst == lcProduct) || (src == lcProduct && dst == lcReturn) ||
  (src < lcScrap && dst == lcScrap)

/-- State of a key slot (R568). -/
def Block.keyStat (s : Block) (i : Nat) : Nat := Tab.get (fun _ => 0) s.otp.keyStat i

/-- State of a hash slot (R568). -/
def Block.hashStat (s : Block) (i : Nat) : Nat := Tab.get (fun _ => 0) s.otp.hashStat i

/-- Clear every key slot: its bits are overwritten and it is marked cleared (R559). -/
def Block.clearKeys (s : Block) : Block :=
  ({ s with otp := { s.otp with keyStat := (List.range 4).map (fun i => (i, 2)), keys := [] } }).raise Reg.SEC_EVT_KEYCLR

/-- The life-cycle of BLANK and DEVELOP, in which slots and options are programmed (R558). -/
def Block.lcOpen (s : Block) : Bool := s.otp.lc == lcBlank || s.otp.lc == lcDevelop

/-- SEC_LC as it reads (R568). -/
def Block.secLc (s : Block) : Word :=
  BitVec.ofNat 32 (s.otp.lc + s.otp.next * 16 + (if s.otp.next != s.otp.lc then 0x80 else 0) + (if s.otp.sigreq then 0x100 else 0) +
    (if s.otp.scanclr then 0x200 else 0))

/-- SEC_KEYSTAT as it reads (R568). -/
def Block.secKeystat (s : Block) : Word :=
  BitVec.ofNat 32 ((List.range 4).foldl (fun acc i => acc + s.keyStat i * 4 ^ i + s.hashStat i * 4 ^ i * 0x100) 0)

/-- LC_TRANSITION (R557): a request along the table with the key 0xA5C3 is programmed; any other sets DENIED. PRODUCT to RETURN, and any
transition to SCRAP, clears every key slot at the request. -/
def Block.lcTransitionOp (s : Block) (target : Nat) (key : BitVec 16) : Block :=
  if key = 0xA5C3 && lcAllowed s.otp.next target && s.otp.lcJob.isNone then
    let s := s.onlyIf (target == lcReturn || target == lcScrap) (fun s => s.clearKeys)
    { s with otp := { s.otp with lcJob := some target } }
  else s.raise Reg.SEC_EVT_DENIED

/-- LC_PROGRAMMED (R557): OTP is programmed; the state takes effect at the next POR or PIN reset. -/
def Block.lcProgrammedOp (s : Block) : Block :=
  match s.otp.lcJob with
  | some t => ({ s with otp := { s.otp with next := t, lcJob := none } }).raise Reg.SEC_EVT_LCDONE
  | none => s

/-- SEC_DATA0 to SEC_DATA7 as written. -/
def Block.secData (s : Block) : List Word := (List.range 8).map (fun i => s.word (Reg.SEC_DATA i))

/-- Clear the data registers, as after each GO (R568). -/
def Block.clearSecData (s : Block) : Block := s.forAll (List.range 8) (fun i s => s.setW (Reg.SEC_DATA i) 0)

/-- Start programming (R558): BUSY reads 1 until PROGDONE. -/
def Block.startJob (s : Block) (j : OtpJob) : Block := ({ s with otp := { s.otp with job := some j } }).put Reg.SEC_PROG_BUSY 1

/-- SEC_PROGRAM (R558): a GO outside BLANK and DEVELOP, or on a slot that is not empty, sets PROGERR and programs nothing. -/
def Block.secProgramOp (s : Block) (sel : Nat) (opt : Bool) : Block :=
  let d := s.secData
  let s := ((s.put Reg.SEC_PROG_SEL sel).putB Reg.SEC_PROG_OPT opt).clearSecData
  if !s.lcOpen || s.otp.job.isSome then s.raise Reg.SEC_EVT_PROGERR
  else if opt then s.startJob (.options ((d.getD 0 0).getLsbD 0) ((d.getD 0 0).getLsbD 1))
  else if sel < 4 then (if s.keyStat sel = 0 then s.startJob (.key sel d) else s.raise Reg.SEC_EVT_PROGERR)
  else if s.hashStat (sel - 4) = 0 then s.startJob (.hash (sel - 4) d) else s.raise Reg.SEC_EVT_PROGERR

/-- REVOKE (R558): a hash slot is revoked in any state except SCRAP. -/
def Block.revokeOp (s : Block) (sel : Nat) : Block :=
  let s := s.put Reg.SEC_PROG_SEL sel
  if s.otp.lc = lcScrap then s.raise Reg.SEC_EVT_DENIED
  else if sel < 4 || s.otp.job.isSome then s.raise Reg.SEC_EVT_PROGERR
  else s.startJob (.revoke (sel - 4))

/-- Carry out what has been programmed. -/
def Otp.done (o : Otp) : OtpJob → Otp
  | .key i d => { o with keyStat := Tab.set (fun _ => 0) o.keyStat i 1, keys := Tab.set (fun _ => []) o.keys i d }
  | .hash i d => { o with hashStat := Tab.set (fun _ => 0) o.hashStat i 1, hashes := Tab.set (fun _ => []) o.hashes i d }
  | .options a b => { o with sigreq := o.sigreq || a, scanclr := o.scanclr || b }
  | .revoke i => { o with hashStat := Tab.set (fun _ => 0) o.hashStat i 3 }

/-- PROGDONE (R558): the programming ends, verified or not. -/
def Block.progdoneOp (s : Block) (verified : Bool) : Block :=
  match s.otp.job with
  | none => s
  | some j =>
    let s := ({ s with otp := { s.otp with job := none } }).put Reg.SEC_PROG_BUSY 0
    if verified then ({ s with otp := s.otp.done j }).raise Reg.SEC_EVT_PROGDONE else s.raise Reg.SEC_EVT_PROGERR

/-- SCANEN (R560): scan is enabled in SERVICE in DEVELOP and RETURN; in DEVELOP with SCANCLR set every key slot is cleared first. -/
def Block.scanenOp (s : Block) : Block :=
  if s.base = modeService && (s.otp.lc = lcDevelop || s.otp.lc = lcReturn) then
    let s := s.onlyIf (s.otp.lc == lcDevelop && s.otp.scanclr) (fun s => s.clearKeys)
    { s with bst := { s.bst with scan := true } }
  else s.raise Reg.SEC_EVT_DENIED

/-- FLT_CLR (R561): every entry is cleared; SEQ continues. -/
def Block.fltClrOp (s : Block) : Block :=
  (({ s with ledger := { s.ledger with entries := [] } }).put Reg.FLT_STAT_COUNT 0).put Reg.FLT_STAT_NEWEST 0

/-- ACK (R561): every entry is marked read. -/
def Block.ackOp (s : Block) : Block :=
  { s with ledger := { s.ledger with
      entries := Tab.mapAll (fun _ => none) s.ledger.entries (fun _ e => e.map (fun x => { x with read := true })) } }

/-- LC_TRANSITION (R557). -/
def execLcTransition (target : Nat) (key : BitVec 16) (s : State) : Host.Outcome State Fault Refusal :=
  s.hostWrite (target < 8) (fun b => b.lcTransitionOp target key)

/-- LC_PROGRAMMED (R557). -/
def execLcProgrammed (s : State) : Host.Outcome State Fault Refusal := s.act true (fun b => b.lcProgrammedOp)

/-- SEC_PROGRAM (R558). -/
def execSecProgram (sel : Nat) (opt : Bool) (s : State) : Host.Outcome State Fault Refusal :=
  s.hostWrite (sel < 8) (fun b => b.secProgramOp sel opt)

/-- REVOKE (R558). -/
def execRevoke (sel : Nat) (s : State) : Host.Outcome State Fault Refusal := s.hostWrite (sel < 8) (fun b => b.revokeOp sel)

/-- PROGDONE (R558). -/
def execProgdone (verified : Bool) (s : State) : Host.Outcome State Fault Refusal := s.act true (fun b => b.progdoneOp verified)

/-- SCANEN (R560). -/
def execScanen (s : State) : Host.Outcome State Fault Refusal := s.hostWrite true (fun b => b.scanenOp)

/-- FLT_CLR (R561). -/
def execFltClr (s : State) : Host.Outcome State Fault Refusal := s.hostWrite true (fun b => b.fltClrOp)

/-- ACK (R561). -/
def execAck (s : State) : Host.Outcome State Fault Refusal := s.hostWrite true (fun b => b.ackOp)

end Sys2Proof.Machine
end

