-- ==== Sys2Proof/Machine/Xspi.lean ====
section
/-! DEFINITION. The xSPI controller (R451 to R456): modes, page programs, busy polling and indirect commands. The memory itself is the board's: what
it answers comes with the commands, and what it is sent is recorded. -/

namespace Sys2Proof.Machine

/-- Rewrite the controller's record. -/
def Block.modXspi (s : Block) (h : Xspi → Xspi) : Block := s.modMem (fun m => { m with xspi := h m.xspi })

/-- A command goes out to the memory: opcode, address, bytes written (R451). It ends the DMA read or write that went on. -/
def Block.xspiSend (s : Block) (opc addr : Nat) (data : List Byte) : Block :=
  s.modXspi (fun x => { x with sent := x.sent ++ [(opc, addr, data)], flow := none })

/-- A byte more for the command sent last. -/
def sentMore : List (Nat × Nat × List Byte) → List Byte → List (Nat × Nat × List Byte)
  | [], _ => []
  | [(o, a, bs)], b => [(o, a, bs ++ b)]
  | x :: y :: rest, b => x :: sentMore (y :: rest) b

/-- A byte of a DMA read or PSRAM write (R453): it goes on with the command under way, or starts one: at the first byte of a descriptor, at a
MAXB boundary, and where the address does not follow. -/
def Block.xspiByte (s : Block) (write first : Bool) (a : Nat) (data : List Byte) : Block :=
  let m := 16 * s.f Reg.XSPI_CFG_MAXB
  if !first && s.mem.xspi.flow == some (write, a) && (m == 0 || a % m != 0) then
    s.modXspi (fun x => { x with sent := if write then sentMore x.sent data else x.sent, flow := some (write, a + 1) })
  else
    let s := (s.xspiSend (s.f (if write then Reg.XSPI_CMD_WROPC else Reg.XSPI_CMD_RDOPC)) a data).modXspi (fun x => { x with flow := some (write, a + 1) })
    s.onlyIf write (fun s => ((s.put Reg.XSPI_WPROG0_ADDR a).put Reg.XSPI_WPROG1_STATE 2).put Reg.XSPI_WPROG1_KIND 0)

/-- A read from the memory runs: the boot read, a page under way or a poll. -/
def Block.xspiBusy (s : Block) : Bool :=
  s.mem.xspi.page.isSome || s.mem.xspi.poll.isSome || (match s.img.load with
    | some l => l.src == .xspi
    | none => false)

/-- BUSY follows the accesses; a mode that waits takes effect when they end (R452, R470). -/
def Block.xspiFollow (s : Block) : Block :=
  let busy := s.xspiBusy
  let s := s.putB Reg.XSPI_STAT_BUSY busy
  match s.mem.xspi.mode with
  | none => s
  | some m => if busy || s.on Reg.XSPI_STAT_IBUSY then s
    else (s.put Reg.XSPI_STAT_MODE_NOW m).modXspi (fun x => { x with mode := none })

/-- A write of XSPI_CFG (R452): a switch of mode takes effect at once, or when the access that runs ends. -/
def Block.xspiCfgWrite (s : Block) (w : Word) : Block :=
  let s := s.setW Reg.XSPI_CFG (w &&& 0x03FFF7FF)
  (s.modXspi (fun x => { x with mode := some (bitsOf w 0 2) })).xspiFollow

/-- Bytes of a page (R453); outside the range of the table the manual states no size. -/
def Block.pageBytes (s : Block) : Nat :=
  let p := s.f Reg.XSPI_CFG_PAGE
  if 8 ≤ p && p ≤ 12 then 2 ^ p else 2 ^ ((Config.outOfRange Reg.XSPI_CFG p).floor.toNat % 32)

/-- Core cycles of 10 µs, rounded (R453). -/
def pollCycles : Nat := 1966

/-- Start busy polling (R453). -/
def Block.startPoll (s : Block) (indirect : Bool) : Block :=
  ((s.modXspi (fun x => { x with poll := some (s.time.now, s.time.now, indirect) })).put Reg.XSPI_WPROG1_STATE 3).xspiFollow

/-- Write the page buffer out (R453, R456): write enable, the program command with the bytes, then polling. It waits while a poll is under way. -/
def Block.flushPage (s : Block) : Block :=
  match s.mem.xspi.page with
  | none => s
  | some (a, bs) =>
    if s.mem.xspi.poll.isSome then s else
    let s := (s.xspiSend (s.f Reg.XSPI_CMD2_WREN) 0 []).xspiSend (s.f Reg.XSPI_CMD_WROPC) a bs
    let s := (s.put Reg.XSPI_WPROG0_ADDR a).put Reg.XSPI_WPROG1_KIND 0
    (s.modXspi (fun x => { x with page := none })).startPoll false

/-- Bytes to the external memory (R453): a program for flash is collected to the page's end; a PSRAM write goes out and splits at MAXB. -/
def Block.xspiStore (s : Block) (c : Nat) (first : Bool) (bs : List (Nat × Byte)) : Block :=
  if s.on Reg.XSPI_CFG_MEMTYPE then bs.zipIdx.foldl (fun s p => s.xspiByte true (first && p.2 == 0) p.1.1 [p.1.2]) s
  else
    bs.foldl (fun s p =>
      let s := match s.mem.xspi.page with
        | none => s.modXspi (fun x => { x with page := some (p.1, [p.2]), chan := c })
        | some (b, ps) =>
          -- a beat that does not continue the page under collection starts another
          if b + ps.length = p.1 then s.modXspi (fun x => { x with page := some (b, ps ++ [p.2]) })
          else (s.flushPage).modXspi (fun x => { x with page := some (p.1, [p.2]), chan := c })
      let s := s.modXspi (fun x => { x with lastBeat := s.time.now })
      if (p.1 + 1) % s.pageBytes = 0 then s.flushPage else s.xspiFollow) s

/-- PAGE_GAP (R453): 64 core cycles without a beat. -/
def Block.pageGapOp (s : Block) : Block :=
  if s.mem.xspi.page.isSome && s.mem.xspi.poll.isNone && s.reached (s.mem.xspi.lastBeat + 64) then s.flushPage else s

/-- An indirect command ends (R455). -/
def Block.indirectEnd (s : Block) (failed : Bool) : Block :=
  let s := ((s.put Reg.XSPI_STAT_IBUSY 0).putB Reg.XSPI_STAT_IERR failed).raise Reg.XSPI_EVT_IDONE
  (s.modXspi (fun x => { x with indirect := false })).xspiFollow

/-- BUSY_POLL (R453, R456): a status read; bits that BUSYMASK picks mean busy. At the end of a page's poll the rest of a descriptor's last beat, where
it lies in the next page, goes out in turn. -/
def Block.busyPollOp (s : Block) (status : Byte) : Block :=
  match s.mem.xspi.poll with
  | none => s
  | some (t, next, ind) =>
    if !s.reached next then s else
    let s := s.xspiSend (s.f Reg.XSPI_CMD2_RDSR) 0 []
    if status.toNat &&& s.f Reg.XSPI_POLL_BUSYMASK = 0 then
      let s := (s.modXspi (fun x => { x with poll := none })).put Reg.XSPI_WPROG1_STATE 4
      if ind then s.indirectEnd false
      else
        let s := s.bump Reg.XSPI_WPROG1_PAGES
        -- 3 is READBACK (R470): the descriptor's last beat has been written
        (s.onlyIf (s.f (Reg.DMA_CH_STAT_STATE s.mem.xspi.chan) == 3) (fun s => s.flushPage)).xspiFollow
    else s.modXspi (fun x => { x with poll := some (t, next + pollCycles, ind) })

/-- A field of XSPI_ICMD as the indirect command took it at GO (R455). -/
def Xspi.icmd (x : Xspi) (f : Fld) : Nat := bitsOf (x.cmd.getD 0 0) f.lo f.width

/-- The data bytes of the indirect command (R455, R470). -/
def Xspi.cmdBytes (x : Xspi) : List Byte :=
  (beBytes 4 (x.cmd.getD 2 0).toNat ++ beBytes 4 (x.cmd.getD 3 0).toNat).take (min 8 (x.icmd Reg.XSPI_ICMD_NDATA))

/-- Send the indirect command (R455, R456); a read shows its bytes at its end. -/
def Block.indirectSend (s : Block) : Block :=
  let x := s.mem.xspi
  let a := (x.cmd.getD 1 0).toNat
  let n := x.icmd Reg.XSPI_ICMD_ADDRB
  let s := s.xspiSend (x.icmd Reg.XSPI_ICMD_OPC) (if n = 0 then 0 else if n = 3 then a % 2 ^ 24 else a) (if x.icmd Reg.XSPI_ICMD_DIR = 1 then x.cmdBytes else [])
  ((s.put Reg.XSPI_WPROG0_ADDR a).put Reg.XSPI_WPROG1_STATE 2).put Reg.XSPI_WPROG1_KIND 1

/-- A DMA access is under way at the controller. -/
def Block.xspiDma (s : Block) : Bool :=
  s.mem.xspi.page.isSome || (match s.mem.xspi.poll with
    | some (_, _, ind) => !ind
    | none => false)

/-- INDIRECT_COMMAND (R455): it takes its registers, and waits for a DMA access to end. A GO while a command runs has no effect. -/
def Block.indirectOp (s : Block) : Block :=
  if s.on Reg.XSPI_STAT_IBUSY then s else
  let s := (s.raise Reg.XSPI_STAT_IBUSY).put Reg.XSPI_STAT_IERR 0
  let s := s.modXspi (fun x => { x with cmd := [s.word Reg.XSPI_ICMD, s.word Reg.XSPI_IADDR, s.word (Reg.XSPI_IDATA 0), s.word (Reg.XSPI_IDATA 1)] })
  if s.xspiDma then s.modXspi (fun x => { x with indirect := true }) else s.indirectSend

/-- INDIRECT_DONE (R455): the command ends, or is followed by busy polling; a command that still waits is sent first. A read ends with all its
bytes; bytes beyond them in XSPI_IDATA stay. -/
def Block.indirectDoneOp (s : Block) (data : List Byte) : Block :=
  let x := s.mem.xspi
  let n := if x.icmd Reg.XSPI_ICMD_DIR = 1 then 0 else min 8 (x.icmd Reg.XSPI_ICMD_NDATA)
  if !s.on Reg.XSPI_STAT_IBUSY || x.poll.isSome || x.page.isSome || data.length < n then s else
  let s := if x.indirect then (s.modXspi (fun x => { x with indirect := false })).indirectSend else s
  let old := beBytes 4 (s.f (Reg.XSPI_IDATA_DATA 0)) ++ beBytes 4 (s.f (Reg.XSPI_IDATA_DATA 1))
  let bs := data.take n ++ old.drop n
  let s := (s.setW (Reg.XSPI_IDATA 0) (beWord (bs.take 4))).setW (Reg.XSPI_IDATA 1) (beWord (bs.drop 4))
  if x.icmd Reg.XSPI_ICMD_POLL = 1 then s.startPoll true else (s.put Reg.XSPI_WPROG1_STATE 4).indirectEnd false

/-! ## The commands -/

/-- PAGE_GAP (R453). -/
def execPageGap (s : State) : Host.Outcome State Fault Refusal := s.act true (fun b => b.pageGapOp)

/-- BUSY_POLL (R453). -/
def execBusyPoll (status : Byte) (s : State) : Host.Outcome State Fault Refusal := s.act true (fun b => b.busyPollOp status)

/-- INDIRECT_COMMAND (R455). -/
def execIndirectCommand (s : State) : Host.Outcome State Fault Refusal := s.hostWrite true (fun b => b.indirectOp)

/-- INDIRECT_DONE (R455). -/
def execIndirectDone (data : List Byte) (s : State) : Host.Outcome State Fault Refusal :=
  s.act true (fun b => b.indirectDoneOp data)

end Sys2Proof.Machine
end

