-- ==== Sys2Proof/Machine/Image.lean ====
section
/-! DEFINITION. The image loader (R471 to R495): the stream and its owner, the parts of an image and their checks, the decoding of records, the xSPI
boot, the boot plan. Stream bytes stand in the shadow half as received. -/

namespace Sys2Proof.Machine

/-- Rewrite the loader's record. -/
def Block.modImg (s : Block) (h : Img → Img) : Block := { s with img := h s.img }

/-- Rewrite the load that runs. -/
def Block.modLoad (s : Block) (h : Load → Load) : Block := s.modImg (fun m => { m with load := m.load.map h })

/-- Bytes of the shadow half. -/
def Block.shadowBytes (s : Block) (a n : Nat) : List Byte := s.mem.shadow.readList a n

/-- A number in the shadow half, the first byte the most significant. -/
def Block.shadowNat (s : Block) (a n : Nat) : Nat := beNat (s.shadowBytes a n)

/-- Enter a state of the progress record (R501). -/
def Block.imgState (s : Block) (st : Nat) : Block := s.put Reg.IMG_PROG1_STATE st

/-- Record an error code of R497 with its section and DETAIL. -/
def Block.imgError (s : Block) (code sect detail : Nat) : Block :=
  (((s.put Reg.IMG_ERR_CODE code).put Reg.IMG_ERR_SECT sect).put Reg.IMG_ERRDET_DETAIL detail).raise Reg.IMG_EVT_ERR

/-- The ledger entry of a failed load or admission (R563). -/
def Block.imgLedger (s : Block) : Block :=
  s.record 0x72 2 0 (s.word Reg.IMG_ERR) [s.word Reg.IMG_PROG0, s.word Reg.IMG_PROG1]

/-- A load fails (R495); an xSPI boot is read again after 1 s, or gives way to a host (R490). -/
def Block.imgFail (s : Block) (l : Load) (code detail : Nat) : Block :=
  let s := ((s.imgState 6).imgError code (l.sections % 16) detail).put Reg.IMG_STAT_LOADING 0
  let s := (s.modImg (fun m => { m with load := none, shadow := none })).imgLedger
  if l.src != .xspi then s
  else
    let s := if s.f Reg.IMG_SRC_BOOT = 3 then s.raise Reg.IMG_SRC_FALLBK
      else s.modImg (fun m => { m with retryAt := some (s.after (msTicks 1000)) })
    s.xspiFollow

/-- The first failing check of a list: its code and DETAIL. -/
def firstFail (checks : List (Bool × Nat × Nat)) : Option (Nat × Nat) := (checks.find? (·.1)).map (·.2)

/-! ## Records -/

/-- The fields that the device computes (R478). -/
def computedFields : List (String × String) :=
  [("UAP_IN_GAIN", "CUR"), ("UAP_STAT", "RANGE_NOW"), ("HP_STAT", "RANGE_NOW"), ("MB_CFG", "MAP"), ("CLOCHE_STAT", "TALK"),
   ("CHAIN_DDLY", "DLY"), ("CHAIN_IDLY", "DLY"), ("CHAIN_GLB_CFG", "FG"), ("GRF_BUDGET", "BASE"), ("GRF_BUDGET", "RES"),
   ("GRF_LIMIT", "LIMIT"), ("GRF_LIMIT", "FREE"), ("GRF_BLK_CFG", "SLOTS"), ("GRF_SEL", "CUR"), ("GRF_DRET", "NXP"),
   ("SRC_CFG", "DIR"), ("SRC_CFG", "SAP"), ("SRC_CFG", "SLOT"), ("SRC_CFG", "STAGES"), ("SRC_DLY", "D"), ("CSC_REF", "AUTO")]

/-- Whether a field may carry a value in a record (R477, R478). -/
def settable (r : RegDef) (f : FieldDef) : Bool :=
  (f.image || (f.access == .rw && f.kept == .s)) && !computedFields.contains (r.name, f.name)

/-- Whether an address lies in coefficient memory (R474). -/
def isCoef (a : Nat) : Bool := coefBase ≤ a && a < coefBase + 0x10000

/-- The bits of a data word that may carry values (R477). -/
def settableMask (a : Nat) : Word :=
  if isCoef a then 0xFFFFFFFF else
  match findReg a with
  | none => 0
  | some r => (r.fields.filter (settable r)).foldl (fun m f => m ||| f.mask) 0

/-- The address ranges of the records of a section type (R474); none for a type that holds no records. -/
def sectionRanges (t : Nat) : List (Nat × Nat) :=
  if t = 0x02 then [(0x3000, 0x3FFF)]
  else if t = 0x03 then [(0x1000, 0x1FFF), (0x6000, 0x6FFF)]
  else if t = 0x04 then [(0x90C00, 0x90CFF)]
  else if t = 0x05 then [(0x10000, 0x11FFF)]
  else if t = 0x06 then [(0x20000, 0x24FFF)]
  else if t = 0x07 then [(0x30000, 0x3FFFF), (0xA0000, 0xAFFFF)]
  else if t = 0x08 then [(0x60000, 0x6FFFF)]
  else if t = 0x09 then [(0x40000, 0x4FFFF)]
  else if t = 0x0A then [(0x70000, 0x7FFFF)]
  else if t = 0x0B then [(0x80000, 0x8FFFF)]
  else if t = 0x0C then [(0x500000, 0x50FFFF)]
  else []

/-- Whether a record of these ranges may reach an address: in range and listed in a register table (R476). -/
def recordReaches (rs : List (Nat × Nat)) (a : Nat) : Bool :=
  rs.any (fun r => r.1 ≤ a && a ≤ r.2) && (isCoef a || (findReg a).isSome)

/-- Take the data words of a record (R476, R477, R480): the code and DETAIL of a failure, or the image so far. -/
def takeWords (rs : List (Nat × Nat)) : Nat → List Word → Decoded → Except (Nat × Nat) Decoded
  | _, [], d => .ok d
  | a, w :: ws, d =>
    if !recordReaches rs a || d.given.contains a then .error (0x09, a)
    else if w &&& ~~~(settableMask a) ≠ 0 then .error (0x0A, a)
    else takeWords rs (a + 4) ws { d with
      fields := Tab.set resetWord d.fields a ((resetWord a &&& ~~~(settableMask a)) ||| w), given := a :: d.given }

/-- Take the records of a payload, the first number bounding how many (R476). -/
def takeRecords (rs : List (Nat × Nat)) : Nat → List Word → Decoded → Except (Nat × Nat) Decoded
  | 0, _, d => .ok d
  | _, [], d => .ok d
  | k + 1, h :: rest, d =>
    let n := bitsOf h 24 8 + 1
    let a := bitsOf h 0 24
    if rest.length < n || a % 4 != 0 then .error (0x09, a)
    else match takeWords rs a (rest.take n) d with
      | .error e => .error e
      | .ok d => takeRecords rs k (rest.drop n) d

/-- Records fill the payload (R476). -/
def takeAll (rs : List (Nat × Nat)) (bs : List Byte) (d : Decoded) : Except (Nat × Nat) Decoded :=
  takeRecords rs (bs.length / 4) (wordsOf bs) d

/-! ## Special payloads -/

/-- The XBOOT payload at a byte offset (R482): four words and up to eight commands of four. -/
def takeXboot (off : Nat) (bs : List Byte) (d : Decoded) : Except (Nat × Nat) Decoded :=
  let ws := wordsOf bs
  let cfg := ws.getD 0 0
  let mode := bitsOf cfg 0 2
  let page := bitsOf cfg 12 4
  if ws.length < 4 || ws.length % 4 != 0 || 36 < ws.length then .error (0x0A, off)
  else if mode = 0 || mode = 3 || page < 8 || 12 < page then .error (0x0A, off)
  else .ok { d with xboot := ws }

/-- The prefix of CELLS, then its records (R483). -/
def takeCells (off : Nat) (bs : List Byte) (d : Decoded) : Except (Nat × Nat) Decoded :=
  let cells := (List.range 96).filter (fun k => (bs.getD (k / 8) 0).getLsbD (k % 8))
  let allow := beNat ((bs.drop 12).take 4)
  if bs.length < 16 || cells.any (86 ≤ ·) then .error (0x0A, off)
  else if 2 ^ 18 ≤ allow then .error (0x0A, off + 12)
  else takeAll (sectionRanges 0x05) (bs.drop 16)
    { d with excluded := cells, allowed := (List.range 18).filter (fun g => allow.testBit g) }

/-- The BUDGET payload (R484): BASE, RES and the ceilings. -/
def takeBudget (off : Nat) (bs : List Byte) (d : Decoded) : Except (Nat × Nat) Decoded :=
  let n := beNat ((bs.drop 4).take 2)
  let entry (i : Nat) : List Byte := (bs.drop (8 + 8 * i)).take 8
  let bad (e : List Byte) : Bool := 4 ≤ (e.getD 2 0).toNat || e.getD 3 0 != 0
  if bs.length < 8 || bs.length != 8 + 8 * n then .error (0x0A, off + 4)
  else if beNat ((bs.drop 6).take 2) != 0 then .error (0x0A, off + 6)
  else match (List.range n).find? (fun i => bad (entry i)) with
    | some i => .error (0x0A, off + 8 + 8 * i + 2)
    | none => .ok { d with
        base := beNat (bs.take 2), res := beNat ((bs.drop 2).take 2),
        ceils := (List.range n).map (fun i =>
          let e := entry i
          ((e.getD 0 0).toNat, (e.getD 1 0).toNat, (e.getD 2 0).toNat, beNat (e.drop 4))) }

/-- Decode a verified payload into the image (R495). -/
def decodePayload (t off : Nat) (bs : List Byte) (d : Decoded) : Except (Nat × Nat) Decoded :=
  if t = 0x01 then takeXboot off bs d
  else if t = 0x05 then takeCells off bs d
  else if t = 0x0D then takeBudget off bs d
  else if t = 0xFF then .ok d
  else takeAll (sectionRanges t) bs d

/-! ## The parts of the stream -/

/-- TLEN of the load that runs. -/
def Block.tlen (s : Block) : Nat := s.shadowNat 8 4
/-- FLAGS.SIGNED. -/
def Block.hdrSigned (s : Block) : Bool := s.shadowNat 15 1 % 2 == 1
/-- FLAGS.ENC. -/
def Block.hdrEnc (s : Block) : Bool := s.shadowNat 15 1 / 2 % 2 == 1

/-- The lowest refusal of the life-cycle (R489). -/
def Block.lcRefusal (s : Block) : Option Nat :=
  let lc := s.otp.lc
  if s.hdrEnc && (lc = lcBlank || lc = lcReturn) then some 0x0C
  else if !s.hdrSigned && (lc = lcProduct || (lc = lcDevelop && s.otp.sigreq)) then some 0x0D
  else if s.hdrSigned && lc = lcBlank then some 0x0E
  else if lc = lcScrap then some 0x11
  else none

/-- The header is complete (R471, R495). -/
def Block.takeHeader (s : Block) (l : Load) : Block :=
  let len := s.tlen
  let checks : List (Bool × Nat × Nat) :=
    [(s.shadowNat 0 4 != 0x455A494D, 0x01, 0),
     ((crc32 (s.shadowBytes 0 60)).toNat != s.shadowNat 60 4, 0x02, 0),
     (s.shadowNat 4 2 != 1 || s.shadowNat 6 2 != 64, 0x03, 0),
     (s.shadowNat 12 2 != 0x6480 || bitsOf (s.word Reg.SYS_STEP) 0 8 < s.shadowNat 14 1, 0x04, (s.word Reg.SYS_STEP).toNat),
     (len % 4 != 0 || len < 128 || 98304 < len, 0x05, 8),
     (4 ≤ s.shadowNat 15 1, 0x0A, 15),
     (s.lcRefusal.isSome, s.lcRefusal.getD 0, 0)]
  match firstFail checks with
  | some (c, d) => s.imgFail l c d
  | none =>
    let dec : Decoded := { signed := s.hdrSigned, enc := s.hdrEnc, ver := BitVec.ofNat 32 (s.shadowNat 20 4),
                           build := [BitVec.ofNat 32 (s.shadowNat 24 4), BitVec.ofNat 32 (s.shadowNat 28 4)],
                           src := match l.src with
                             | .spi => 0
                             | .xspi => 1
                             | .trellis _ => 2
                             | .plan => 3 }
    (s.imgState 2).modLoad (fun x => { x with next := 64, dec := dec })

/-- The largest valid section type below END, and END. -/
def knownSection (t : Nat) : Bool := (1 ≤ t && t ≤ 0x0D) || t == 0xFF

/-- A section header is complete (R473 to R475, R487, R495). -/
def Block.takeSection (s : Block) (l : Load) : Block :=
  let o := l.next
  let t := s.shadowNat o 1
  let fl := s.shadowNat (o + 1) 1
  let len := s.shadowNat (o + 4) 4
  let enc : Bool := fl % 2 == 1
  let slot := fl / 2 % 4
  let last : Bool := l.sections + 1 == s.shadowNat 16 2
  let order : Bool := !knownSection t || t ≤ l.lastType || (2 < t && l.lastType < 2) || (t == 0xFF && l.lastType != 0x0D) ||
    last != (t == 0xFF)
  let room := s.tlen
  let checks : List (Bool × Nat × Nat) :=
    [((crc32 (s.shadowBytes o 12)).toNat != s.shadowNat (o + 12) 4, 0x06, o),
     (order, 0x08, l.sections),
     (len % 4 != 0 || room < o + 16 + len + (if t = 0xFF then 0 else 16), 0x05, o + 4),
     (8 ≤ fl || s.shadowNat (o + 2) 2 != 0 || (enc && (t == 0x01 || t == 0xFF)), 0x0A, o + 1),
     (enc && (s.keyStat slot != 1 || !(s.otp.lc == lcDevelop || s.otp.lc == lcProduct)), 0x0C, slot)]
  match firstFail checks with
  | some (c, d) => s.imgFail l c d
  | none => s.modLoad (fun x => { x with next := o + 16, payload := true, lastType := t, sawEnc := x.sawEnc || enc })

/-- The bits of an address that an image sets, taken into the register file. -/
def Block.takeField (s : Block) (d : Decoded) (a : Nat) : Block :=
  s.setW a ((s.word a &&& ~~~(settableMask a)) ||| (Tab.get resetWord d.fields a &&& settableMask a))

/-- The port receivers follow their enables (R393, R367). -/
def Block.linkFollow (s : Block) : Block :=
  s.forAll (List.range 4) (fun p s =>
    if s.on (Reg.TRL_PCFG_EN p) && s.linkState p = linkOff then
      let s := s.enterLink p linkDetect
      if (s.port p).signal then s.signalDetectOp p else s
    else if !s.on (Reg.TRL_PCFG_EN p) && s.linkState p != linkOff then
      let s := ((s.enterLink p linkOff).put (Reg.TRL_LSTAT_LIVE p) 0).put (Reg.TRL_RT_PSTAT_HS p) 0
      s.modPort p (fun x => { x with wasUp := false, peerRho := none, peerDomain := false, queue := [] })
    else s)

/-- Whether an image has the clock plan that runs (R604). -/
def Block.samePlan (s : Block) (d : Decoded) : Bool :=
  [Reg.CLK_CFG_PREF, Reg.CLK_CFG_MRATE, Reg.CLK_CFG_XTAL].all (fun x => fieldIn d.fields x == s.f x)

/-- The clock plan of a verified image starts, and with it its Trellis links (R367, R496); without a crystal the XTI oscillator stops (R543). -/
def Block.startPlan (s : Block) (d : Decoded) : Block :=
  let s := s.onlyIf (s.pll != pllOff && !s.samePlan d) (fun s => s.pllStop)
  let s := s.forAll ([Reg.CLK_CFG, Reg.CLK_CTRL, Reg.TRL_RT_CFG] ++ (List.range 4).map Reg.TRL_PCFG) (fun a s => s.takeField d a)
  let s := s.onlyIf (!s.on Reg.CLK_CFG_XTAL) (fun s => s.put Reg.CLK_STAT_XTOK 0)
  let s := s.pllWanted.modNet (fun n => { n with domainBy := some (s.after (msTicks 100)) })
  s.linkFollow

/-- Admission of an initial load (R496): the clock plan starts, and the admission waits for it; until it begins the load is DONE (R501). -/
def Block.startFirst (s : Block) (d : Decoded) : Block :=
  ((s.startPlan d).imgState 5).modImg (fun m => { m with admitWait := some .first })

/-- The shadow has passed every check (R495, R496): it waits, or is the initial load. -/
def Block.finishLoad (s : Block) (l : Load) : Block :=
  let s := ((s.put Reg.IMG_STAT_LOADING 0).raise Reg.IMG_STAT_SVALID).raise Reg.IMG_EVT_LOADED
  let s := (s.modImg (fun m => { m with load := none, shadow := some l.dec })).xspiFollow
  if s.img.active.isNone then s.startFirst l.dec else s.imgState 5

/-- Bytes of the eight words of an OTP slot. -/
def slotBytes (ws : List Word) : List Byte := ws.flatMap (fun w => beBytes 4 w.toNat)

/-- The END section is complete (R475, R486, R488, R495). -/
def Block.takeEnd (s : Block) (l : Load) (off len : Nat) : Block :=
  let key := s.shadowBytes off 64
  let known : Bool := (List.range 4).any (fun i => s.hashStat i == 1 && slotBytes (Tab.get (fun _ => []) s.otp.hashes i) == Config.sha256 key)
  let checks : List (Bool × Nat × Nat) :=
    [(off + len != s.tlen, 0x05, off + len),
     (len != (if l.dec.signed then 128 else 0), 0x0A, 15),
     (l.dec.enc != l.sawEnc, 0x0A, 15),
     (l.dec.signed && !known, 0x0E, 0)]
  match firstFail checks with
  | some (c, d) => s.imgFail l c d
  | none =>
    if l.dec.signed then (s.imgState 3).modLoad (fun x => { x with sigAt := some s.time.now }) else s.finishLoad l

/-- The controller carries out a verified XBOOT, and the boot read goes on in the new mode (R482). -/
def Block.runXboot (s : Block) (ws : List Word) (next : Nat) : Block :=
  let cmds := (List.range (ws.length / 4 - 1)).map (fun i => (ws.drop (4 + 4 * i)).take 4)
  let s := s.forAll cmds (fun c s => ((s.modXspi (fun x => { x with cmd := c })).indirectSend).put Reg.XSPI_WPROG1_STATE 4)
  let cfg := ws.getD 0 0 &&& 0x03FFF7FF
  let s := (((s.setW Reg.XSPI_CFG cfg).setW Reg.XSPI_CMD (ws.getD 1 0)).setW Reg.XSPI_CMD2 (ws.getD 2 0)).setW Reg.XSPI_POLL
    (ws.getD 3 0 &&& 0xFFFF1FFF)
  (s.put Reg.XSPI_STAT_MODE_NOW (bitsOf cfg 0 2)).xspiSend (s.f Reg.XSPI_CMD_RDOPC) next []

/-- Eight words of a key slot. -/
def Block.keyBytes (s : Block) (slot : Nat) : List Byte := slotBytes (Tab.get (fun _ => []) s.otp.keys slot)

/-- The plaintext of a stored payload; none where the tag is wrong (R487). -/
def Block.plainOf (s : Block) (o : Nat) (bs : List Byte) : Option (List Byte) :=
  if s.shadowNat (o + 1) 1 % 2 = 0 then some bs
  else if bs.length < 32 then none
  else Config.gcm (s.keyBytes (s.shadowNat (o + 1) 1 / 2 % 4)) (bs.take 12) (s.shadowBytes o 8) ((bs.drop 12).take (bs.length - 28))
    (bs.drop (bs.length - 16))

/-- A payload is complete (R495): it is verified, decoded and committed, or fails. -/
def Block.takePayload (s : Block) (l : Load) : Block :=
  let off := l.next
  let o := off - 16
  let len := s.shadowNat (o + 4) 4
  let bs := s.shadowBytes off len
  if (crc32 bs).toNat != s.shadowNat (o + 8) 4 then s.imgFail l 0x07 off else
  match s.plainOf o bs with
  | none => s.imgFail l 0x0B l.sections
  | some plain =>
    let s := s.bump Reg.IMG_PROG1_VERIFIED
    match decodePayload l.lastType off plain l.dec with
    | .error (c, d) => s.imgFail l c d
    | .ok dec =>
      let s := s.bump Reg.IMG_PROG1_COMMITTED
      if l.lastType = 0xFF then s.takeEnd { l with dec := dec } off len
      else
        let s := (s.put Reg.IMG_PROG1_SECT (l.sections + 1)).modLoad (fun x => { x with
          next := off + len, payload := false, sections := l.sections + 1, dec := dec })
        s.onlyIf (l.lastType == 0x01 && l.src == .xspi) (fun s => s.runXboot dec.xboot (off + len))

/-- Bytes of the part that the loader is gathering. -/
def Block.partSize (s : Block) (l : Load) : Nat :=
  if l.payload then s.shadowNat (l.next - 12) 4 else if l.next = 0 then 64 else 16

/-- Check the part that is complete, where one is. -/
def Block.takePart (s : Block) : Block :=
  match s.img.load with
  | none => s
  | some l =>
    if l.sigAt.isSome || s.f Reg.IMG_PROG0_ACCEPTED < l.next + s.partSize l then s
    else if l.payload then s.takePayload l
    else if l.next = 0 then s.takeHeader l
    else s.takeSection l

/-- Whether a load still takes bytes. -/
def Block.loadOpen (s : Block) : Bool :=
  match s.img.load with
  | some l => l.sigAt.isNone
  | none => false

/-- A stream word (R493): stored, and the parts it completes are checked; a section with an empty payload is complete with its header. -/
def Block.acceptWord (s : Block) (w : Word) : Block :=
  if !s.loadOpen then s else
  let a := s.f Reg.IMG_PROG0_ACCEPTED
  let s := (s.modMem (fun m => { m with shadow := m.shadow.writeWord a w })).put Reg.IMG_PROG0_ACCEPTED (a + 4)
  s.takePart.takePart

/-- A new load starts (R493, R496, R501): the shadow is no longer valid, and an admission of the initial load ends. -/
def Block.startLoad (s : Block) (src : LoadSrc) : Block :=
  let s := ((s.setW Reg.IMG_PROG0 0).setW Reg.IMG_PROG1 0).imgState 1
  let s := (s.put Reg.IMG_STAT_SVALID 0).raise Reg.IMG_STAT_LOADING
  s.modImg (fun m => { m with load := some { src := src }, shadow := none, shadowTable := none, proving := none, admitWait := none, retryAt := none })

/-- The words of a transaction; those after the end of their load are discarded (R493). -/
def Block.acceptAll (s : Block) (ws : List Word) : Block := s.forAll ws (fun w s => s.acceptWord w)

/-- An admission, a wait for the clock plan or an activation of a LOAD runs (R496). -/
def Block.loadActs (s : Block) : Bool :=
  s.img.activate || s.img.admitWait == some .load || (match s.img.proving with
    | some (k, _) => k == .load
    | none => false)

/-- Stream words that are not taken: OFSERR (R493). -/
def Block.streamOff (s : Block) (code : Nat) : Nat × Block := (code, s.raise Reg.IMG_EVT_OFSERR)

/-- A stream word sequence from a source at an offset (R490, R493, R494, R502): the WACK status and the state after it. -/
def Block.imgStream (s : Block) (src : LoadSrc) (off : Nat) (ws : List Word) : Nat × Block :=
  let held : Bool := match s.img.load with
    | some l => l.src != src
    | none => false
  if s.otp.lc = lcScrap && src != .spi then (3, s)
  else if s.f Reg.IMG_GRAFT_STAT_PHASE ≠ 0 || s.loadActs then (5, s.imgError 0x43 0 0)
  else if s.f Reg.IMG_SRC_BOOT = 1 && s.base = modeLoad && s.img.active.isNone then s.streamOff 5
  else if held then s.streamOff 5
  else if off = 0 then (0, (s.startLoad src).acceptAll ws)
  else if s.loadOpen && off = s.f Reg.IMG_PROG0_ACCEPTED then (0, s.acceptAll ws)
  else if src != .spi && s.img.load.isSome && off + 4 * ws.length ≤ s.f Reg.IMG_PROG0_ACCEPTED then (0, s)
  else s.streamOff 2

/-- Payloads of at most 1008 bytes with their stream offsets, the first number bounding how many (R493, R494). -/
def imgChunks (target off : Nat) : Nat → List Byte → List (Nat × List Byte)
  | 0, _ => []
  | _, [] => []
  | k + 1, bs => (target, beBytes 4 off ++ bs.take 1008) :: imgChunks target (off + 1008) k (bs.drop 1008)

/-- IMAGE_STREAM (R493): to this device, or on as IMG packets. A stream to every device is not answered; its packets go out at once. -/
def Block.imageStreamOp (s : Block) (addr : Word) (ws : List Word) : Block :=
  let t := bitsOf addr 24 6
  let off := bitsOf addr 0 24
  let here (s : Block) : Block := (s.imgStream .spi off ws).2
  if t = 0 || t = s.addr then here s
  else
    let chunks := imgChunks t off ws.length (ws.flatMap (fun w => beBytes 4 w.toNat))
    if t = 63 then (here s).forAll chunks (fun c s => s.request 0x40 63 none c.2)
    else
      let idle : Bool := s.net.stream.isEmpty && !s.net.requests.any (fun r => r.pkt.type == 0x40)
      let s := s.modNet (fun n => { n with stream := n.stream ++ chunks })
      if idle then s.streamNext else s

/-- IMG (R494): a stream from another device, answered WACK; a repeated request returns its stored answer (R421). -/
def Block.imgPacketOp (s : Block) (p : Nat) (k : Packet) : Block :=
  s.deliver p k (fun s =>
    match s.storedAnswer k with
    | some a => s.send a
    | none =>
      let bs := k.payload.drop 4
      if bs.isEmpty || bs.length % 4 != 0 || 1008 < bs.length then s.onlyIf (k.dst != 63) (fun s => s.answer k 2 [])
      else
        let (code, s) := s.imgStream (.trellis k.src) (beNat (k.payload.take 4)) (wordsOf bs)
        if k.dst = 63 then s else s.answer k code [])

/-! ## Boot sources -/

/-- A boot read starts (R491). -/
def Block.startBoot (s : Block) : Block :=
  (((s.startLoad .xspi).put Reg.XSPI_STAT_MODE_NOW 1).xspiSend 0x03 0 []).xspiFollow

/-- XSPI_BOOT_READ (R491): bytes of the boot read that runs. -/
def Block.bootReadOp (s : Block) (bytes : List Byte) : Block :=
  match s.img.load with
  | some l => if l.src == .xspi then s.forAll (wordsOf bytes) (fun w s => s.acceptWord w) else s
  | none => s

/-- XSPI_BOOT_RETRY (R490). -/
def Block.bootRetryOp (s : Block) : Block :=
  match s.img.retryAt with
  | some t => if s.reached t && s.base = modeLoad && s.img.load.isNone then s.startBoot else s
  | none => s

/-- The boot plan (R492): PREF 2, the four Trellis ports with EQ 3. -/
def bootPlan : Decoded :=
  { fields := (Reg.CLK_CFG, 2) :: (List.range 4).map (fun p => (Reg.TRL_PCFG p, 0xD)), src := 3 }

/-- The boot source latched at the end of a reset (R490). -/
def Block.startSource (s : Block) (boot : Nat) : Block :=
  let s := s.put Reg.IMG_SRC_BOOT boot
  if boot = 1 || boot = 3 then s.startBoot
  else if boot = 2 then (s.put Reg.IMG_SRC_ACT 3).startPlan bootPlan
  else s

/-- SIGNATURE_VERIFIED (R488, R495): the signature over bytes 0 to TLEN − 129 verifies, or the load fails. -/
def Block.signatureOp (s : Block) : Block :=
  match s.img.load with
  | none => s
  | some l =>
    if l.sigAt.isNone then s else
    let n := s.tlen
    if Config.ecdsa (s.shadowBytes 0 (n - 128)) (s.shadowBytes (n - 128) 64) (s.shadowBytes (n - 64) 64) then s.finishLoad l
    else s.imgFail l 0x0F 0

/-- DISCARD (R502): ignored in a graft phase; a load is abandoned; the shadow is no longer valid. -/
def Block.discardOp (s : Block) : Block :=
  if s.f Reg.IMG_GRAFT_STAT_PHASE ≠ 0 || s.loadActs then s
  else
    let s := ((s.put Reg.IMG_STAT_SVALID 0).put Reg.IMG_STAT_LOADING 0).imgState 0
    (s.modImg (fun m => { m with load := none, shadow := none, shadowTable := none, proving := none, admitWait := none })).xspiFollow

/-! ## The commands -/

/-- IMG (R494). -/
def execImg (p : Nat) (pkt : Packet) (s : State) : Host.Outcome State Fault Refusal := s.act (p < 4) (fun b => b.imgPacketOp p pkt)

/-- XSPI_BOOT_READ (R491). -/
def execXspiBootRead (bytes : List Byte) (s : State) : Host.Outcome State Fault Refusal :=
  s.act (bytes.length % 4 = 0) (fun b => b.bootReadOp bytes)

/-- XSPI_BOOT_RETRY (R490). -/
def execXspiBootRetry (s : State) : Host.Outcome State Fault Refusal := s.act true (fun b => b.bootRetryOp)

/-- SIGNATURE_VERIFIED (R495). -/
def execSignatureVerified (s : State) : Host.Outcome State Fault Refusal := s.act true (fun b => b.signatureOp)

/-- DISCARD (R502). -/
def execDiscard (s : State) : Host.Outcome State Fault Refusal := s.hostWrite true (fun b => b.discardOp)

end Sys2Proof.Machine
end

