-- ==== Sys2Proof/Machine/Plan.lean ====
section
/-! DEFINITION. What an image makes of the machine before anything runs: the register file under it (R255, R477 to R479), the fields the device
computes (R478), and the latency table (R20 to R28, R105, R117, R272, R279, R297, R400, R429, R485, R498, R499). -/

namespace Sys2Proof.Machine

/-- Signal-path registers, whose status returns to reset at a full load: cells to control-sense converter, and serial ports. -/
def signalPath (a : Nat) : Bool := (0x10000 ≤ a && a < 0x80000) || (0xA0000 ≤ a && a < 0xB0000)

/-- Class S status that describes what runs and is written by the device at a load or graft, not by the reset (R255, R496). -/
def runsOn : List (String × String) :=
  [("CHAIN_ISTAT", "OFS"), ("CNV_STAT", "ACTIVE"), ("IMG_STAT", "SIGNED"), ("IMG_STAT", "ENC"), ("IMG_STAT", "GEN"),
   ("IMG_VER", "IMGVER"), ("IMG_BUILD_HI", "BUILD"), ("IMG_BUILD_LO", "BUILD"), ("IMG_SRC", "ACT"), ("MEM_BANK_STAT", "FAILED")]

/-- Class V records of what has been measured or has happened, which no running hardware carries on: the GRAFT reset clears them (R11, R544). -/
def graftClears : List (String × String) :=
  [("DIR_OSTAT", "BQSET"), ("DIR_GLB_INSF", "IN"), ("STR_STAT", "GR"), ("STR_STAT", "OPEN"), ("BP_STAT", "CGR"), ("BP_STAT", "LGR"), ("BP_STAT", "LIMACT"),
   ("SAP_PHASE", "MEAS"), ("SRC_TRK_PER", "PER"), ("SRC_TRK_STAT", "RANGE"), ("SRC_TRK_STAT", "PPM"), ("SRC_GLB_XRUN", "CH"),
   ("SPK_THM_RMEAS", "RM"), ("SPK_THM_P", "P"), ("SPK_GLB_PVDD", "MEAN"), ("SPK_GLB_PVDD", "MIN"), ("CELL_GLB_STAT", "GRP"), ("CELL_GLB_STAT", "CELL"),
   ("CSC_SNAP_SUM", "SUM"), ("CSC_SNAP_CNT", "COUNT"), ("CSC_SNAP_CNT", "FULL"), ("CSC_SNAP_CNT", "REFX"), ("CSC_SNAP_CNT", "UNS"),
   ("CSC_SNAP_MM", "MIN"), ("CSC_SNAP_MM", "MAX"), ("CSC_WC_VAL", "VAL"), ("CLK_FREQ", "PPM"), ("CLK_RING", "DEV"),
   ("TRL_RA_STAT", "ERR"), ("TRL_RA_NOTE", "SUM"), ("TRL_RA_NOTE", "SRC"), ("XSPI_STAT", "IERR")]

/-- What a field that the host may also write stores of an image's value: its table or rule clamps it, or names what a value outside stands for (R481). -/
def imageValue (name field : String) (v : Nat) : Nat :=
  if name == "CELL_GRP_CTRL" then
    (if field == "PERIOD" then max 20 v else if field == "INWIN" || field == "OUTWIN" then clampTo 4 12 v else if field == "OUTN" then max 1 v else v)
  else if name == "UAP_CAL_GAIN" then clampTo 0x200000 0x800000 v
  else if name == "MB_CFG" && field == "VSET" then clampTo 20 90 v
  else if name == "BP_DYN_A" && field == "MODE" then (if v = 1 then 0 else v)
  else if name == "TG_INC" then min 0x80000000 v
  else if name == "TG_SEED" then max 1 v
  else v

/-- A field after the GRAFT reset and the new image (R11, R255): settable fields come from the image; status that describes running hardware stays,
in a graft everywhere, in a full load outside the signal path (assumption log 40); every other class S and V field takes its reset value. -/
def graftField (live : Bool) (d : Decoded) (r : RegDef) (a : Nat) (acc : Word) (f : FieldDef) : Word :=
  let set (v : Nat) : Word := setBits acc f.lo f.width v
  let fresh := set (bitsOf (resetWord a) f.lo f.width)
  if settable r f then set (imageValue r.name f.name (bitsOf (Tab.get resetWord d.fields a) f.lo f.width))
  else if !ResetKind.graft.clears f.kept then acc
  else if computedFields.contains (r.name, f.name) || runsOn.contains (r.name, f.name) then (if live || !signalPath a then acc else fresh)
  else if f.kept == .v && (f.access == .ro || f.access == .rol) && (live || !signalPath a) && !graftClears.contains (r.name, f.name) then acc
  else fresh

/-- A register word after the GRAFT reset and the new image. -/
def graftWord (live : Bool) (d : Decoded) (a : Nat) (w : Word) : Word :=
  match findReg a with
  | none => w
  | some r => r.fields.foldl (graftField live d r a) w

/-- The register file after the GRAFT reset and the new image (R255, R496). -/
def Block.graftRegs (s : Block) (live : Bool) (d : Decoded) : Block :=
  let s := { s with regs := Tab.mapAll resetWord s.regs (graftWord live d) }
  s.forAll (d.fields.filter (fun p => !isCoef p.1)) (fun p s => s.setW p.1 (graftWord live d p.1 (s.word p.1)))

/-! ## Computed fields (R478) -/

/-- A decimation or interpolation chain's delay in ticks under an image (R117). -/
def Block.chainTicks (s : Block) (c : ChainId) : Nat := s.chainSpan c / 2

/-- Delay of a decimation chain with its offset (R123). -/
def Block.decTicks (s : Block) (n : Nat) : Nat := s.chainTicks (.dec n) + s.f (Reg.CHAIN_DSTAT_OFS n)

/-- Slots of a serial port in use: indices below its slot count. -/
def Block.sapSlots (s : Block) (p : Nat) : List Nat := if s.on (Reg.SAP_CFG_EN p) then List.range (s.f (Reg.SAP_CFG_SLOTS p) + 1) else []

/-- The receive slots in use: port, slot and code (R274). -/
def Block.rxSlots (s : Block) : List (Nat × Nat × Nat) :=
  (List.range 4).flatMap (fun p => (s.sapSlots p).map (fun i => (p, i, s.f (Reg.SAP_RXMAP_CODE p i))))

/-- The transmit slots in use: port, slot and code (R274). -/
def Block.txSlots (s : Block) : List (Nat × Nat × Nat) :=
  (List.range 4).flatMap (fun p => (s.sapSlots p).map (fun i => (p, i, s.f (Reg.SAP_TXMAP_CODE p i))))

/-- The slot that a code stands in. -/
def slotWith (l : List (Nat × Nat × Nat)) (code : Nat) : Option (Nat × Nat) :=
  (l.find? (fun x => x.2.2 == code)).map (fun x => (x.1, x.2.1))

/-- Cost of a block in slots (R182). -/
def Block.blockCost (s : Block) (b : Nat) : Nat :=
  if b < 32 then 64 + (((List.range 8).filter (fun k => s.on (Reg.STR_SEND_EN b k))).map (fun k => if s.on (Reg.STR_SEND_PAIR b k) then 2 else 1)).sum
  else if b < 40 then 56
  else if b < 44 then s.f (Reg.CNV_CFG_NTAPSM1 (b - 40)) + 1
  else if b < 48 then 32
  else if b < 52 then 16
  else if b < 54 then 640
  else if b < 62 then 8
  else 0

/-- The ports a Direct return mirrors (R177). -/
def Block.mirrored (s : Block) (r : Nat) : List Nat :=
  (List.range 16).filter (fun i => s.on (Reg.DIR_XP_EN (s.f (Reg.GRF_DRET_OUT r)) i) && s.isInput i && s.on (Reg.CHAIN_DCFG_EN i))

/-- The block slot cost of R182. -/
def Block.baseCost (s : Block) : Nat :=
  (((List.range 86).filter s.present).map s.blockCost).sum +
    (((List.range 8).filter (fun r => s.on (Reg.GRF_DRET_EN r))).map (fun r => (s.mirrored r).length)).sum

/-- The scarf reserve of R183. -/
def Block.reserveCost (s : Block) : Nat := (((List.range 62).filter (fun b => s.present b && s.crossfadable b)).map s.blockCost).sum

/-- The slot limit (R181). -/
def Block.slotLimit (s : Block) : Nat := if s.on Reg.GRF_GLB_CFG_FG then 16384 else 32768

/-- The alternative that ALT names; a value above NALT reads as NALT (R171, R174). -/
def Block.altOf (s : Block) (k : Nat) : Nat := min (s.f (Reg.GRF_SEL_ALT k)) (s.f (Reg.GRF_SEL_NALT k))

/-- The fields the device computes from other fields at load and at graft (R478), but for those that a running signal carries (R255). -/
def Block.computeFields (s : Block) : Block :=
  let s := s.forAll (List.range 4) (fun m s => s.put (Reg.MB_CFG_MAP m)
    ((List.range 8).foldl (fun a n => if s.on (Reg.UAP_CFG_MBMAP n) && s.f (Reg.UAP_CFG_MBSEL n) == m then a + 2 ^ n else a) 0))
  let s := s.put Reg.CLOCHE_STAT_TALK ((List.range 16).foldl (fun a n => if s.on (Reg.UAP_CFG_TALK n) then a + 2 ^ n else a) 0)
  -- an image's gain is clamped to the maximum of its mode (R107, R481)
  let s := s.forAll (List.range 16) (fun n s => s.put (Reg.UAP_IN_GAIN_TARGET n) (min (s.f (Reg.UAP_IN_GAIN_TARGET n)) (s.maxGain n)))
  let s := s.putB Reg.CHAIN_GLB_CFG_FG (s.on Reg.GRF_GLB_CFG_FG)
  let s := s.forAll (List.range 16) (fun n s => s.put (Reg.CHAIN_DDLY_DLY n) (if s.chainRuns (.dec n) then s.decTicks n else 0))
  let s := s.forAll (List.range 20) (fun m s => s.put (Reg.CHAIN_IDLY_DLY m) (if s.chainRuns (.int m) then s.chainTicks (.int m) else 0))
  let s := ((s.put Reg.GRF_BUDGET_BASE s.baseCost).put Reg.GRF_BUDGET_RES s.reserveCost).put Reg.GRF_LIMIT_LIMIT s.slotLimit
  let s := s.put Reg.GRF_LIMIT_FREE (s.slotLimit - s.baseCost - s.reserveCost)
  let s := s.forAll (List.range 86) (fun b s => s.put (Reg.GRF_BLK_CFG_SLOTS b) (if s.present b then s.blockCost b else 0))
  let s := s.forAll (List.range 8) (fun r s => s.put (Reg.GRF_DRET_NXP r) (if s.on (Reg.GRF_DRET_EN r) then (s.mirrored r).length else 0))
  let rx := s.rxSlots
  let tx := s.txSlots
  let s := s.forAll (List.range 16) (fun c s =>
    match slotWith rx (0x40 + c), slotWith tx (0x40 + c) with
    | some (p, i), _ => ((s.put (Reg.SRC_CFG_DIR c) 0).put (Reg.SRC_CFG_SAP c) p).put (Reg.SRC_CFG_SLOT c) i
    | none, some (p, i) => ((s.put (Reg.SRC_CFG_DIR c) 1).put (Reg.SRC_CFG_SAP c) p).put (Reg.SRC_CFG_SLOT c) i
    | none, none => ((s.put (Reg.SRC_CFG_DIR c) 0).put (Reg.SRC_CFG_SAP c) 0).put (Reg.SRC_CFG_SLOT c) 0)
  let s := s.forAll (List.range 16) (fun c s =>
    if s.on (Reg.SRC_CFG_EN c) then
      (s.put (Reg.SRC_CFG_STAGES c) (sapStages (s.sapRate (s.f (Reg.SRC_CFG_SAP c))))).put (Reg.SRC_DLY_D c) (s.srcTicks c)
    else (s.put (Reg.SRC_CFG_STAGES c) 0).put (Reg.SRC_DLY_D c) 0)
  s.putB Reg.CSC_REF_AUTO ((List.range 8).any (fun n => s.on (Reg.JACK_CFG_EN n)) || (List.range 2).any (fun c => s.on (Reg.SPK_CFG_EN c)))

/-- Whether a graft restarts a chain (R122, R129): it starts or stops to run, or its entry, SHORT, HRT or sink changes. -/
def chainChanged (o n : Block) (c : ChainId) : Bool :=
  let differs (f : Fld) : Bool := o.f f != n.f f
  (o.chainRuns c || n.chainRuns c) && (o.chainRuns c != n.chainRuns c || match c with
    | .dec k => differs (Reg.CHAIN_DCFG_ENTRY k) || differs (Reg.CHAIN_DCFG_SHORT k) || differs (Reg.CHAIN_DCFG_HRT k)
    | .int k => differs (Reg.CHAIN_ICFG_SHORT k) || differs (Reg.CHAIN_ICFG_HRT k) || differs (Reg.CHAIN_ICFG_SINK k))

/-- The block as the image would have it, for admission: nothing runs in it. A chain that a graft restarts stands on the frame grid, on which C falls
(R122, R124, R254). -/
def Block.candidate (s : Block) (live : Bool) (d : Decoded) : Block :=
  let t := s.graftRegs live d
  let t := t.forAll ((List.range 16).filter (fun n => !live || chainChanged s t (.dec n))) (fun n t => t.put (Reg.CHAIN_DSTAT_OFS n) 0)
  t.computeFields

/-! ## Paths -/

/-- A path (R25, R26): ends, whether it crosses a graph, hops, ticks and nanoseconds, and the blocks it passes from its source. -/
structure Path where
  src : Nat
  sink : Nat
  g : Bool := true
  hops : Nat := 0
  ticks : Int := 0
  ns : Int := 0
  blocks : List Nat := []
deriving DecidableEq, Repr

/-- Lengthen a path. -/
def Path.add (p : Path) (ticks ns : Int) : Path := { p with ticks := p.ticks + ticks, ns := p.ns + ns }

/-- Nanoseconds of a hop, rounded up (R400). -/
def hopNs (eighths : Int) : Int := ((eighths : Rat) / 8).ceil

/-- The end of the Direct matrix at an output: the terms after the matrix sum, none where the output reaches no sink (R20, R297, R429). -/
def Block.directEnd (s : Block) (o : Nat) : Option (Int × Int) :=
  let nbq : Int := min 2 (s.f (Reg.DIR_OCFG_NBQ o))
  if o < 18 then
    if (if o < 16 then s.isOutput o else s.on (Reg.HP_CFG_EN.bit (o - 16))) && s.f (Reg.DIR_OCFG_LSRC o) != 1 then some (nbq + 1, 220) else none
  else if o < 20 then (if s.on (Reg.SPK_CFG_EN (o - 18)) then some (nbq, 2550) else none)
  else if s.on (Reg.TRL_LOUT_EN (o - 20)) then some (nbq, 0) else none

/-- What a path from a matrix input adds, and its hops: a port at full rate, or a lane with its hop (R20, R400, R430). -/
def Block.directStart (s : Block) (i : Nat) : Option (Path) :=
  if i < 16 then (if s.isInput i && !s.on (Reg.UAP_CFG_LP i) then some { src := i, sink := 0, g := false, ticks := 3, ns := 200 } else none)
  else if i < 20 then
    let k := i - 16
    if !(s.f (Reg.TRL_LIN_ROUTE k)).testBit 0 then none else
    let (w, pr) := s.linRoutes k
    let hd (r : Nat × Nat) : Int := hopNs (s.f (Reg.TRL_RXDLY_HD r.1))
    let eq : Int := match s.linEq k with
      | some (true, e) => e
      | _ => 0
    some { src := 0x10 + k, sink := 0, g := false, hops := 1, ticks := 3 + eq, ns := match pr with
      | some r => max (hd w) (hd r)
      | none => hd w }
  else none

/-- The Direct paths (R20, R25, R429). -/
def Block.directPaths (s : Block) : List Path :=
  (List.range 24).flatMap (fun o =>
    match s.directEnd o with
    | none => []
    | some (t, ns) => ((List.range 20).filter (fun i => s.on (Reg.DIR_XP_EN o i))).filterMap (fun i =>
        (s.directStart i).map (fun p => { p.add t ns with sink := o })))

/-- The high-rate taps, the high-rate sources and the Direct transits (R114, R272, R429). -/
def Block.ratePaths (s : Block) : List Path :=
  let taps := s.txSlots.filterMap (fun x =>
    let n := x.2.2 - 0x80
    let ph := s.f (Reg.SAP_PHASE_FPH x.1)
    if 0x80 ≤ x.2.2 && n < 16 && s.isInput n && s.on (Reg.CHAIN_DCFG_HRT n) then
      some { src := n, sink := 0x80 + n, g := false, ns := 200,
             ticks := (2 + (if s.on (Reg.CHAIN_DCFG_ENTRY n) then 466 else 469) + (if 4 ≤ ph then ph else 64 + ph) : Nat) }
    else none)
  let srcs := s.rxSlots.filterMap (fun x =>
    let m := x.2.2 - 0x60
    let o := s.f (Reg.CHAIN_ICFG_SINK m)
    if 0x60 ≤ x.2.2 && m < 20 && s.on (Reg.CHAIN_ICFG_EN m) && s.on (Reg.CHAIN_ICFG_HRT m) && o < 18 && s.f (Reg.DIR_OCFG_LSRC o) != 0 then
      some { src := 0x80 + m, sink := o, g := false, ns := 220, ticks := 128 - (s.f (Reg.SAP_PHASE_FPH x.1) : Int) + 469 + 1 }
    else none)
  let xits := ((List.range 16).filter (fun x => (s.f (Reg.TRL_XIT_ROUTE x)).testBit 0)).map (fun x =>
    let v := s.f (Reg.TRL_XIT_ROUTE x)
    let r := routeOfLane (v / 2 % 16)
    let q := routeOfLane (v / 32 % 16)
    { src := 0xA0 + 4 * r.1 + r.2, sink := 0xA0 + 4 * q.1 + q.2, g := false, hops := 1, ticks := 3,
      ns := hopNs (s.f (Reg.TRL_RXDLY_HD r.1)) : Path })
  taps ++ srcs ++ xits

/-- The calibration term of a port (R105). -/
def Block.calTerm (s : Block) (n : Nat) : Int × Int :=
  let d := s.fInt (Reg.UAP_CAL_DLY_DLY n)
  if !s.on (Reg.UAP_CAL_DLY_EN n) then (0, 0)
  else if s.on Reg.GRF_GLB_CFG_FG then (256 + d / 2, if d % 2 = 0 then 0 else 41)
  else (512 + d, 0)

/-- The start of a graph path at a port (R20, R105). -/
def Block.portStart (s : Block) (n : Nat) : Path :=
  { src := n, sink := 0, ticks := 2 + (s.decTicks n : Int) + (s.calTerm n).1, ns := 200 + (s.calTerm n).2 }

/-- The sources of the graph with the paths that lead to them (R163, R178, R485). -/
def Block.graphStarts (s : Block) : List (Nat × Path) :=
  ((List.range 16).filter (fun n => s.isInput n && s.on (Reg.CHAIN_DCFG_EN n))).map (fun n => (0x001 + n, s.portStart n)) ++
  ((List.range 8).filter (fun r => s.on (Reg.GRF_DRET_EN r))).flatMap (fun r => (s.mirrored r).map (fun n => (0x070 + r, s.portStart n))) ++
  s.rxSlots.filterMap (fun x =>
    if 0x20 ≤ x.2.2 && x.2.2 < 0x40 then
      some (x.2.2, { src := x.2.2, sink := 0, ticks := 2 * (s.sapP x.1 : Int) - s.f (Reg.SAP_PHASE_FPH x.1) }) else none) ++
  ((List.range 16).filter (fun c => s.on (Reg.SRC_CFG_EN c) && !s.on (Reg.SRC_CFG_DIR c))).map (fun c =>
    (0x20 + s.f (Reg.SRC_CFG_K c), { src := 0x20 + s.f (Reg.SRC_CFG_K c), sink := 0, ticks := (s.srcTicks c : Int), ns := 82 })) ++
  ((List.range 32).filter (fun k => (bulkRoutes (s.f (Reg.TRL_BIN_ROUTE k))).1)).map (fun k =>
    let w := (bulkRoutes (s.f (Reg.TRL_BIN_ROUTE k))).2.1
    (0x040 + k, { src := 0x40 + k, sink := 0, hops := 1, ticks := 256, ns := hopNs (s.fInt (Reg.TRL_RXDLY_HB w.1)) })) ++
  ((List.range 8).filter (fun g => s.present (54 + g))).map (fun g => (0x060 + g, { src := 0x60 + g, sink := 0 })) ++
  ((List.range 8).filter (fun i => s.on (Reg.GRF_RING_CFG_EN i))).map (fun i => (0x068 + i, { src := 0x68 + i, sink := 0 }))

/-- The source IDs of the alternatives of a select (R171). -/
def Block.alternatives (s : Block) (k : Nat) : List Nat := (List.range (s.f (Reg.GRF_SEL_NALT k) + 1)).map (s.altSource k)

/-- The block that a select feeds, and the output IDs its signal reaches; a key select feeds none (R25, R170). -/
def selectFeeds (k : Nat) : Option (Nat × List Nat) :=
  if k < 0x20 then some (k, [0x080 + k])
  else if k < 0x40 then none
  else if k < 0x48 then some (32 + (k - 0x40), [0x0C0 + (k - 0x40)])
  else if k < 0x50 then none
  else if k < 0x54 then some (40 + (k - 0x50), [0x0D0 + (k - 0x50)])
  else if k < 0x5C then some (44 + (k - 0x54) / 2, [0x0D8 + (k - 0x54)])
  else if k < 0x64 then
    let d := (k - 0x5C) / 2
    some (48 + d, [0x0E0 + 2 * d, 0x0E1 + 2 * d])
  else if k < 0x68 then
    let v := (k - 0x64) / 2
    some (52 + v, [0x0E8 + 2 * v, 0x0E9 + 2 * v])
  else none

/-- The block term of R21. -/
def Block.blockTerm (s : Block) (b : Nat) : Int :=
  let p := s.graphPeriod
  if b < 32 then (s.f (Reg.STR_CFG_ADLY b) * p : Nat) else if b < 40 then (s.f (Reg.BP_CFG_LA (b - 32)) * p : Nat) else 0

/-- The buses that a strip's enabled sends reach (R167, R215). -/
def Block.strip2bus (s : Block) (n : Nat) : List Nat :=
  (List.range 24).filter (fun b => s.sendsInto n b)

/-- Every way from a source ID to the sinks of R168: sink number, ticks of the blocks and their sequence. The first number bounds the blocks passed;
each block is passed at most once (R25). -/
def Block.walk (s : Block) : Nat → Nat → Int → List Nat → List (Nat × Int × List Nat)
  | 0, _, _, _ => []
  | fuel + 1, id, t, seq =>
    let ks := (List.range 196).filter (fun k => (s.alternatives k).contains id)
    ks.flatMap (fun k =>
      if 0x68 ≤ k then [(k - 0x68, t, seq)]
      else match selectFeeds k with
        | none => []
        | some (b, outs) =>
          if seq.contains b || !s.present b then [] else
          let t := t + s.blockTerm b
          let seq := seq ++ [b]
          outs.flatMap (fun o => s.walk fuel o t seq) ++
          (if b < 32 then (s.strip2bus b).flatMap (fun bus =>
              if seq.contains (62 + bus) || !s.present (62 + bus) then [] else s.walk fuel (0x0A0 + bus) t (seq ++ [62 + bus]))
            else []))

/-- The ends of a path at a sink of R168 (R20, R25, R153, R272, R297). -/
def Block.sinkEnds (s : Block) (j : Nat) : List (Nat × Int × Int) :=
  if j < 20 then
    if !s.on (Reg.CHAIN_ICFG_EN j) then [] else
    let o := s.f (Reg.CHAIN_ICFG_SINK j)
    let ch : Int := s.chainTicks (.int j)
    if o < 18 then (if s.f (Reg.DIR_OCFG_LSRC o) != 0 then [(o, ch + 1, 220)] else [])
    else if o < 20 then [(o, ch + 10, 1490)]
    else ((List.range 24).filter (fun q => s.on (Reg.DIR_XP_EN q o))).filterMap (fun q =>
      (s.directEnd q).map (fun e => (q, ch + 1 + e.1, e.2)))
  else if j < 52 then
    let k := j - 20
    (match slotWith s.txSlots (0x20 + k) with
      | some (p, _) =>
        let ph := s.f (Reg.SAP_PHASE_FPH p)
        [(0x20 + k, ((if 4 ≤ ph then ph else s.sapP p + ph : Nat) : Int), 0)]
      | none => []) ++
    ((List.range 16).filter (fun c => s.on (Reg.SRC_CFG_EN c) && s.on (Reg.SRC_CFG_DIR c) && s.f (Reg.SRC_CFG_K c) == k)).map (fun (c : Nat) =>
      (0x20 + k, (s.srcTicks c : Int), (82 : Int)))
  else if j < 84 then (if (bulkRoutes (s.f (Reg.TRL_BOUT_ROUTE (j - 52)))).1 then [(0x40 + (j - 52), 0, 0)] else [])
  else if s.on (Reg.GRF_RING_CFG_EN (8 + (j - 84))) then [(0x68 + (j - 84), 0, 0)] else []

/-- The graph paths (R20, R25). -/
def Block.graphPaths (s : Block) : List Path :=
  s.graphStarts.flatMap (fun st =>
    (s.walk 100 st.1 0 []).flatMap (fun w => (s.sinkEnds w.1).map (fun e =>
      { st.2.add (w.2.1 + 2 * (s.graphPeriod : Int) + e.2.1) e.2.2 with sink := e.1, blocks := w.2.2 })))

/-- Whether a list of numbers comes first in order; where one ends the shorter comes first. -/
def lexLe : List Int → List Int → Bool
  | [], _ => true
  | _, [] => false
  | a :: as, b :: bs => if a < b then true else if b < a then false else lexLe as bs

/-- The order of the table (R499): sink, source, G, TICKS, NS, block numbers. -/
def Path.key (p : Path) : List Int :=
  [(p.sink : Int), (p.src : Int), if p.g then 1 else 0, p.ticks, p.ns] ++ p.blocks.map (fun b => (b : Int))

/-- Put a path into a sorted list. -/
def insertPath (p : Path) : List Path → List Path
  | [] => [p]
  | q :: rest => if p = q then q :: rest else if lexLe p.key q.key then p :: q :: rest else q :: insertPath p rest

/-- The paths of the image, sorted and each once (R25, R499). -/
def Block.allPaths (s : Block) : List Path := (s.directPaths ++ s.ratePaths ++ s.graphPaths).foldr insertPath []

/-- Whether a ceiling entry covers a path (R484). -/
def covers (e : Nat × Nat × Nat × Nat) (p : Path) : Bool :=
  p.src == e.1 && p.sink == e.2.1 && e.2.2.1.testBit (if p.g then 1 else 0)

/-- NS as published: 0 to 4095 (R26). -/
def Path.nsField (p : Path) : Nat := (max 0 (min 4095 p.ns)).toNat

/-- Whether a path meets a ceiling (R484). -/
def Path.meets (p : Path) (ceil : Nat) : Bool := decide (((p.ticks : Rat) * 15625 / 192).ceil + (p.nsField : Int) ≤ ceil)

/-- The two words of a latency record (R26, R499). -/
def Path.words (p : Path) (route : Nat) (ceil : Bool) : Word × Word :=
  (BitVec.ofNat 32 (route * 2 ^ 16 + p.nsField * 16 + p.hops % 16),
   BitVec.ofNat 32 ((max 0 p.ticks).toNat * 256 + (if p.g then 128 else 0) + (if ceil then 64 else 0)))

/-- The latency table of the image (R25, R498, R499). -/
def Block.latencyTable (s : Block) (ceils : List (Nat × Nat × Nat × Nat)) : List (Word × Word) :=
  s.allPaths.zipIdx.map (fun x => x.1.words x.2 (ceils.any (fun e => covers e x.1)))

/-- Publish the latency table of the running image (R27, R28, R498, R500): LATPUB, the next GEN, the frame of publication. -/
def Block.publish (s : Block) : Block :=
  match s.img.active with
  | none => s
  | some d =>
    let s := s.modImg (fun m => { m with paths := s.latencyTable d.ceils, pathFrame := s.f Reg.PWR_FRAME_FRAME })
    ((s.bumpWrap Reg.IMG_STAT_GEN).raise Reg.IMG_EVT_LATPUB).modNet (fun n => { n with latDue := false })

/-- The word at an offset of a latency table (R498); beyond the records it reads zero. -/
def tableWord (paths : List (Word × Word)) (frame gen off : Nat) : Word :=
  if off = 0 then BitVec.ofNat 32 (paths.length % 4096 + gen * 2 ^ 16)
  else if off = 4 then BitVec.ofNat 32 frame
  else
    let r := paths.getD ((off - 8) / 8) (0, 0)
    if off % 8 = 0 then r.1 else r.2

/-- A word of the active image's latency table. -/
def Block.latencyWord (s : Block) (off : Nat) : Word := tableWord s.img.paths s.img.pathFrame (s.f Reg.IMG_STAT_GEN) off

/-- A word of the latency table in the shadow half (R498): zero where no image with a table is there. -/
def Block.shadowLatencyWord (s : Block) (off : Nat) : Word :=
  match s.img.shadowTable with
  | some (paths, frame, gen) => tableWord paths frame gen off
  | none => 0

end Sys2Proof.Machine
end

