-- ==== Sys2Proof/Machine/Admission.lean ====
section
/-! DEFINITION. Admission (R24, R253, R481, R496, R497): the structural checks and the proofs on an image's candidate configuration, the handshake
with the neighbours, and the LOFFER of a peer (R426). -/

namespace Sys2Proof.Machine

/-- The first of a list of checks that finds a failure. -/
def firstSome {α : Type} : List (Option α) → Option α
  | [] => none
  | some x :: _ => some x
  | none :: rest => firstSome rest

/-- The first index below n that fails, with an error code; DETAIL is the index put through `d`. -/
def failIndex (code n : Nat) (bad : Nat → Bool) (d : Nat → Nat) : Option (Nat × Nat) :=
  ((List.range n).find? bad).map (fun i => (code, d i))

/-! ## FIELD (R167, R481, R538) -/

/-- Ranges of image-fixed fields (R481): register, field, lowest and highest value. -/
def fieldLimits : List (String × String × Nat × Nat) :=
  [("UAP_CFG", "DIR", 0, 2), ("UAP_CFG", "MODE", 0, 2), ("CHAIN_ICFG", "SINK", 0, 0x17), ("DIR_OCFG", "NBQ", 0, 2),
   ("DIR_OCFG", "LSRC", 0, 2), ("GRF_DRET", "OUT", 0, 23), ("MOD_CFG", "TYPE", 0, 4), ("SAP_CFG", "FMT", 0, 2),
   ("SAP_CFG", "RATE", 0, 5), ("SAP_CFG", "WIDTH", 0, 2), ("SPK_CFG", "MI", 0, 30801), ("SPK_THM_TAU", "TAUV", 1, 65535),
   ("SPK_THM_TAU", "TAUM", 1, 65535), ("SPK_THM_LIM", "TLIM", 60, 250), ("SPK_THM_LIM", "REL", 1, 65535),
   ("SPK_GLB_CFG", "PVNOM", 8000, 22000), ("JACK_CFG", "DEB", 0, 5), ("JACK_CFG", "IDPIN", 0, 23), ("TRL_PROT", "HOLD", 64, 4096),
   ("MEM_PART", "SIZE", 0, 1024)]

/-- A receive map code that the table of R274 defines. -/
def rxCodeOk (c : Nat) : Bool := c = 0 || (0x20 ≤ c && c < 0x50) || (0x60 ≤ c && c < 0x74)

/-- A transmit map code that the table of R274 defines. -/
def txCodeOk (c : Nat) : Bool := c = 0 || (0x20 ≤ c && c < 0x50) || (0x80 ≤ c && c < 0x90)

/-- Whether a register word of an image holds a code or value outside its table or rule (R167, R265, R271, R322, R481, R538). -/
def Block.fieldBad (s : Block) (a : Nat) : Bool :=
  match findReg a with
  | none => false
  | some r =>
    let i := ((r.indices a).getD []).headD 0
    let w := s.word a
    r.fields.any (fun f => fieldLimits.any (fun l => l.1 == r.name && l.2.1 == f.name &&
      (bitsOf w f.lo f.width < l.2.2.1 || l.2.2.2 < bitsOf w f.lo f.width))) ||
    (r.name == "DIR_OCFG" && 18 ≤ i && s.f (Reg.DIR_OCFG_LSRC i) != 0) ||
    (r.name == "GRF_BLK_CFG" && s.on (Reg.GRF_BLK_CFG_LINK i) && (i < 62 || i % 2 == 1)) ||
    (r.name == "GRF_SEL_ALT01" && s.f (Reg.GRF_SEL_NALT i) < 1 && s.f (Reg.GRF_SEL_ALT01_ALT1 i) != 0) ||
    (r.name == "GRF_SEL_ALT23" && ((s.f (Reg.GRF_SEL_NALT i) < 2 && s.f (Reg.GRF_SEL_ALT23_ALT2 i) != 0) ||
      (s.f (Reg.GRF_SEL_NALT i) < 3 && s.f (Reg.GRF_SEL_ALT23_ALT3 i) != 0))) ||
    (r.name == "SAP_CFG" && s.on (Reg.SAP_CFG_EN i) &&
      (if s.f (Reg.SAP_CFG_FMT i) = 2 then s.f (Reg.SAP_CFG_SLOTS i) < 1 else s.f (Reg.SAP_CFG_SLOTS i) != 1)) ||
    (r.name == "SAP_PHASE" && s.on (Reg.SAP_CFG_SYNC i) && s.sapP i < s.f (Reg.SAP_PHASE_FPH i) + 8) ||
    (r.name == "JACK_OUTMAP" && s.on ((Reg.JACK_OUTMAP_MASK i).bit 1)) ||
    (r.name == "SAP_RXMAP" && !rxCodeOk (w.toNat % 256)) ||
    (r.name == "SAP_TXMAP" && !txCodeOk (w.toNat % 256)) ||
    (r.name == "PWR_LSN_RING" && s.on Reg.PWR_LSN_RING_LEN &&
      (s.on ⟨Reg.PWR_LSN_RING, 0, 1⟩ || s.f Reg.PWR_LSN_RING_LEN < 256 || 64000 < s.f Reg.PWR_LSN_RING_LEN))

/-- FIELD: the lowest address at fault among the registers that a record writes. -/
def Block.checkFields (s : Block) (d : Decoded) : Option (Nat × Nat) :=
  match (d.given.filter (fun a => !isCoef a && s.fieldBad a)) with
  | [] => none
  | a :: rest => some (0x0A, rest.foldl min a)

/-! ## Structural checks (codes 0x20 to 0x2B) -/

/-- PORTCFG (R78, R99, R104). -/
def Block.checkPorts (s : Block) : Option (Nat × Nat) :=
  failIndex 0x20 16 (fun n =>
    (s.isInput n && s.f (Reg.UAP_CFG_MODE n) != 0 && 8 ≤ n) || (s.on (Reg.UAP_CFG_TALK n) && !s.isInput n) ||
    !(decide (-512 ≤ s.fInt (Reg.UAP_CAL_DLY_DLY n) ∧ s.fInt (Reg.UAP_CAL_DLY_DLY n) ≤ 512))) id

/-- MBIAS (R87). -/
def Block.checkBias (s : Block) : Option (Nat × Nat) :=
  failIndex 0x21 4 (fun m =>
    let ps := (List.range 16).filter (fun n => s.on (Reg.UAP_CFG_MBMAP n) && s.f (Reg.UAP_CFG_MBSEL n) == m)
    ps.any (fun n => 8 ≤ n || !s.isInput n) || (ps.any (fun n => s.on (Reg.UAP_CFG_TALK n)) && ps.any (fun n => !s.on (Reg.UAP_CFG_TALK n)))) id

/-- Whether the image assigns the sink of a select (R168, R169). -/
def Block.sinkAssigned (s : Block) (k : Nat) : Bool :=
  if k < 0x7C then s.on (Reg.CHAIN_ICFG_EN (k - 0x68)) && !s.on (Reg.CHAIN_ICFG_HRT (k - 0x68))
  else if k < 0x9C then
    (slotWith s.txSlots (0x20 + (k - 0x7C))).isSome ||
    (List.range 16).any (fun c => s.on (Reg.SRC_CFG_EN c) && s.on (Reg.SRC_CFG_DIR c) && s.f (Reg.SRC_CFG_K c) == k - 0x7C)
  else if k < 0xBC then (bulkRoutes (s.f (Reg.TRL_BOUT_ROUTE (k - 0x9C)))).1
  else s.on (Reg.GRF_RING_CFG_EN (8 + (k - 0xBC)))

/-- CHAINCFG (R115, R116, R153, R169). -/
def Block.checkChains (s : Block) : Option (Nat × Nat) :=
  let fast := s.on Reg.GRF_GLB_CFG_FG
  let en (m : Nat) : Bool := s.on (Reg.CHAIN_ICFG_EN m)
  let sink (m : Nat) : Nat := s.f (Reg.CHAIN_ICFG_SINK m)
  firstSome
    [failIndex 0x22 16 (fun n => s.on (Reg.CHAIN_DCFG_EN n) && ((fast && s.on (Reg.CHAIN_DCFG_SHORT n)) ||
        s.on (Reg.CHAIN_DCFG_ENTRY n) != s.on (Reg.UAP_CFG_LP n))) id,
     failIndex 0x22 20 (fun m => en m && ((fast && s.on (Reg.CHAIN_ICFG_SHORT m)) || (s.on (Reg.CHAIN_ICFG_HRT m) && 0x12 ≤ sink m) ||
        (List.range m).any (fun q => en q && sink q == sink m))) (0x100 + ·),
     failIndex 0x22 18 (fun o => s.f (Reg.DIR_OCFG_LSRC o) != 0 && ((s.chainTo o).isNone ||
        (s.f (Reg.DIR_OCFG_LSRC o) == 1 && (List.range 24).any (fun i => s.on (Reg.DIR_XP_EN o i))))) (0x200 + ·),
     failIndex 0x22 92 (fun j => !s.sinkAssigned (0x68 + j) && (s.alternatives (0x68 + j)).any (· != 0)) (fun j => 0x300 + 0x68 + j)]

/-- Whether the image provides a source ID; reserved IDs are not provided (R163, R164). -/
def Block.provided (s : Block) (id : Nat) : Bool :=
  if id = 0 then true
  else if id < 0x11 then s.isInput (id - 1) && s.on (Reg.CHAIN_DCFG_EN (id - 1))
  else if id < 0x20 then false
  else if id < 0x40 then
    (slotWith s.rxSlots id).isSome ||
    (List.range 16).any (fun c => s.on (Reg.SRC_CFG_EN c) && !s.on (Reg.SRC_CFG_DIR c) && s.f (Reg.SRC_CFG_K c) == id - 0x20)
  else if id < 0x60 then (bulkRoutes (s.f (Reg.TRL_BIN_ROUTE (id - 0x40)))).1
  else if id < 0x68 then s.present (54 + (id - 0x60))
  else if id < 0x70 then s.on (Reg.GRF_RING_CFG_EN (id - 0x68))
  else if id < 0x78 then s.on (Reg.GRF_DRET_EN (id - 0x70))
  else if id < 0x80 then false
  else if 0x0E0 ≤ id && id < 0x0E8 then s.present (48 + (id - 0x0E0) / 2)
  else if 0x0E8 ≤ id && id < 0x0EC then s.present (52 + (id - 0x0E8) / 2)
  else match sourceBlock id with
    | some b => s.present b
    | none => false

/-- The block whose input a select is; none for the sinks. -/
def selectBlock (k : Nat) : Option Nat := (List.range 86).find? (fun b => (blockSelects b).contains k)

/-- SOURCE (R164). -/
def Block.checkSources (s : Block) : Option (Nat × Nat) :=
  failIndex 0x23 196 (fun k => (s.alternatives k).any (fun id => !s.provided id ||
    (id != 0 && (match selectBlock k with
      | some b => !s.present b
      | none => false)))) id

/-- The blocks that a block's output leads to through selects and sends, but for delays and reverbs (R172). -/
def Block.leadsTo (s : Block) (b : Nat) : List Nat :=
  (List.range 86).filter (fun c => s.present c && !(48 ≤ c && c < 54) &&
    (if 62 ≤ c then b < 32 && s.sendsInto b (c - 62)
     else (blockSelects c).any (fun k => (s.alternatives k).any (fun id => sourceBlock id == some b))))

/-- The blocks reached from a list of blocks. -/
def Block.reachable (s : Block) : Nat → List Nat → List Nat
  | 0, seen => seen
  | fuel + 1, seen =>
    let more := (List.range 86).filter (fun c => !seen.contains c && seen.any (fun b => (s.leadsTo b).contains c))
    if more.isEmpty then seen else s.reachable fuel (seen ++ more)

/-- CYCLE (R172): a select through which a block's output leads back to its own input. -/
def Block.checkCycle (s : Block) : Option (Nat × Nat) :=
  failIndex 0x24 0x68 (fun k =>
    match selectBlock k with
    | none => false
    | some b => s.present b && !(48 ≤ b && b < 54) &&
      ((s.alternatives k).filterMap sourceBlock).any (fun c => s.present c && (c == b || (s.reachable 86 (s.leadsTo b)).contains c))) id

/-- A strip's sends at fault (R167, R215). -/
def Block.sendsBad (s : Block) (n : Nat) : Bool :=
  let bus (b : Nat) : Bool := b < 24 && s.present (62 + b)
  let en (n k : Nat) : Bool := s.on (Reg.STR_SEND_EN n k)
  let stereo := s.on (Reg.STR_CFG_STEREO n)
  let twin := if n % 2 = 0 then n + 1 else n - 1
  (List.range 8).any (fun k => en n k &&
    (let d := s.f (Reg.STR_SEND_DEST n k)
     let pair := s.on (Reg.STR_SEND_PAIR n k)
     !bus d || (pair && (d % 2 == 1 || !bus (d + 1) || !s.on (Reg.GRF_BLK_CFG_LINK (62 + d)))) || (stereo && !pair))) ||
  (stereo && (!s.present twin || !s.on (Reg.STR_CFG_STEREO twin) ||
    (List.range 8).any (fun k => en n k != en twin k || (en n k &&
      (s.f (Reg.STR_SEND_DEST n k) != s.f (Reg.STR_SEND_DEST twin k) || s.f (Reg.STR_SEND_POST n k) != s.f (Reg.STR_SEND_POST twin k))))))

/-- BLOCKFIX (R167, R203, R208, R215, R219, R220, R237). -/
def Block.checkBlocks (s : Block) : Option (Nat × Nat) :=
  let fast := s.on Reg.GRF_GLB_CFG_FG
  failIndex 0x25 86 (fun b => s.present b && (
    if b < 32 then (if fast then 960 else 480) < s.f (Reg.STR_CFG_ADLY b) || s.sendsBad b
    else if b < 40 then (if fast then 480 else 240) < s.f (Reg.BP_CFG_LA (b - 32))
    else if b < 44 then false
    else if b < 48 then
      let t := s.f (Reg.MOD_CFG_TYPE (b - 44))
      let l := s.f (Reg.MOD_CFG_LINE (b - 44))
      if t = 2 || t = 3 then l != 0 else l < 16 || 2048 < l
    else if b < 52 then (List.range 2).any (fun c => s.f (Reg.DLY_LEN_LEN (b - 48) c) < 2 || 262144 < s.f (Reg.DLY_LEN_LEN (b - 48) c))
    else if b < 54 then (List.range 16).any (fun i => s.f (Reg.RVB_LEN_LEN (b - 52) i) < 64) || s.f (Reg.RVB_CFG_PREMAX (b - 52)) < 1
    else false)) id

/-- Bits of a slot (R265). -/
def Block.slotBits (s : Block) (p : Nat) : Nat :=
  match s.f (Reg.SAP_CFG_WIDTH p) with
  | 0 => 16
  | 1 => 24
  | _ => 32

/-- A serial port's format at fault (R266, R270). -/
def Block.sapBad (s : Block) (p : Nat) : Bool :=
  let rate := s.sapRate p
  let bclk := rate * (s.f (Reg.SAP_CFG_SLOTS p) + 1) * s.slotBits p
  let ctl := s.on (Reg.SAP_CFG_ROLE p)
  let fg := if s.on Reg.GRF_GLB_CFG_FG then 96000 else 48000
  let hrOnly := (s.sapSlots p).all (fun i =>
    let r := s.f (Reg.SAP_RXMAP_CODE p i)
    let t := s.f (Reg.SAP_TXMAP_CODE p i)
    (r = 0 || 0x60 ≤ r) && (t = 0 || 0x80 ≤ t))
  24576000 < bclk || (ctl && baseRate rate == 44100) || (ctl && (196608000 % bclk != 0 || 196608000 / bclk < 8)) ||
  ((s.on (Reg.SAP_CFG_TAGIN p) || s.on (Reg.SAP_CFG_TAGOUT p)) && s.slotBits p != 32) ||
  (s.on (Reg.SAP_CFG_SYNC p) && rate != fg && !(rate == 192000 && hrOnly))

/-- What a map code binds: (0, k) a tap, (1, k) an output slot, (2, c) a channel, (3, m) a source, (4, n) a tap at 192 kHz (R274, R275). -/
def Block.mapEnds (s : Block) (rx : Bool) (code : Nat) : List (Nat × Nat) :=
  if code < 0x20 then []
  else if code < 0x40 then [(if rx then 0 else 1, code - 0x20)]
  else if code < 0x60 then
    (2, code - 0x40) :: (if s.on (Reg.SRC_CFG_EN (code - 0x40)) then [(if rx then 0 else 1, s.f (Reg.SRC_CFG_K (code - 0x40)))] else [])
  else [(if rx then 3 else 4, code - (if rx then 0x60 else 0x80))]

/-- A slot map entry at fault on its own (R275). -/
def Block.slotBad (s : Block) (p i : Nat) (rx : Bool) : Bool :=
  let code := if rx then s.f (Reg.SAP_RXMAP_CODE p i) else s.f (Reg.SAP_TXMAP_CODE p i)
  let sync := s.on (Reg.SAP_CFG_SYNC p)
  code != 0 && (s.f (Reg.SAP_CFG_SLOTS p) < i ||
    (0x20 ≤ code && code < 0x40 && !sync) ||
    (0x40 ≤ code && code < 0x50 && !s.on (Reg.SRC_CFG_EN (code - 0x40))) ||
    (0x60 ≤ code && (!sync || s.sapRate p != 192000)) ||
    (rx && 0x60 ≤ code && !(s.on (Reg.CHAIN_ICFG_EN (code - 0x60)) && s.on (Reg.CHAIN_ICFG_HRT (code - 0x60)))) ||
    (!rx && 0x80 ≤ code && !(s.on (Reg.CHAIN_DCFG_EN (code - 0x80)) && s.on (Reg.CHAIN_DCFG_HRT (code - 0x80)))))

/-- SAP (R266, R270, R275): the first port and slot at fault; a slot that maps again what an earlier one maps is at fault. -/
def Block.checkSap (s : Block) : Option (Nat × Nat) :=
  let ends (p i : Nat) : List (Nat × Nat) :=
    s.mapEnds true (s.f (Reg.SAP_RXMAP_CODE p i)) ++ s.mapEnds false (s.f (Reg.SAP_TXMAP_CODE p i))
  failIndex 0x26 64 (fun x =>
    let p := x / 16
    let i := x % 16
    s.on (Reg.SAP_CFG_EN p) &&
    ((i = 0 && s.sapBad p) || s.slotBad p i true || s.slotBad p i false ||
     (let own := ends p i
      !own.Nodup || (List.range x).any (fun y => s.on (Reg.SAP_CFG_EN (y / 16)) && (ends (y / 16) (y % 16)).any own.contains)))) id

/-- SPEAKER (R289). -/
def Block.checkSpeakers (s : Block) : Option (Nat × Nat) :=
  failIndex 0x27 2 (fun c => !s.on (Reg.SPK_CFG_EN c) &&
    ((List.range 24).any (fun i => s.on (Reg.DIR_XP_EN (18 + c) i)) || (s.chainTo (0x12 + c)).isSome)) id

/-- CLOCK (R408, R497). -/
def Block.checkClock (s : Block) : Option (Nat × Nat) :=
  let pref := s.f Reg.CLK_CFG_PREF
  let root := s.on Reg.TRL_RT_CFG_ROOT
  let lim := s.f Reg.CLK_CFG_COASTLIM
  if pref = 3 || (root && pref = 2) || (!root && pref < 2 && (List.range 4).any (fun p => s.on (Reg.TRL_PCFG_EN p))) || lim < 1 || 6000 < lim
  then some (0x28, 0) else none

/-- Byte range of an enabled ring. -/
def Block.ringRange (s : Block) (t : Nat) : Nat × Nat := (s.f (Reg.GRF_RING_CFG_OFS t), s.f (Reg.GRF_RING_CFG_OFS t) + 4 * s.ringLen t)

/-- RING (R190). -/
def Block.checkRings (s : Block) : Option (Nat × Nat) :=
  let en (t : Nat) : Bool := s.on (Reg.GRF_RING_CFG_EN t)
  failIndex 0x29 16 (fun t => en t &&
    (let r := s.ringRange t
     let part := s.partition 3
     s.f (Reg.GRF_RING_CFG_LOG2N t) < 4 || 20 < s.f (Reg.GRF_RING_CFG_LOG2N t) || r.1 % (4 * s.ringLen t) != 0 ||
     r.1 < part.1 || part.1 + part.2 < r.2 ||
     (List.range t).any (fun q => en q && (s.ringRange q).1 < r.2 && r.1 < (s.ringRange q).2))) id

/-- DECL and PATHS (R484, R497). -/
def Block.checkDecl (s : Block) (d : Decoded) (paths : List Path) : Option (Nat × Nat) :=
  if d.base != s.baseCost || d.res != s.reserveCost then some (0x2A, 0xFFFF)
  else firstSome [failIndex 0x2A d.ceils.length (fun i => !paths.any (covers (d.ceils.getD i (0, 0, 0, 0)))) id,
                  if 4095 < paths.length then some (0x2B, 0) else none]

/-! ## The proofs of R24 (codes 0x30 to 0x37) -/

/-- MAC budget. -/
def Block.proveMac (s : Block) : Option (Nat × Nat) :=
  let n := s.baseCost + s.reserveCost
  if s.slotLimit < n then some (0x30, n - s.slotLimit) else none

/-- Audio memory (R24, R439, R538, R607). -/
def Block.proveMemory (s : Block) : Option (Nat × Nat) :=
  failIndex 0x31 6 (fun n =>
    let (a, z) := s.partition n
    (z != 0 && (sramSize < a + z || (List.range 6).any (fun m => m != n && (s.partition m).2 != 0 &&
      (s.partition m).1 < a + z && a < (s.partition m).1 + (s.partition m).2))) ||
    (n = 4 && z != 0 && 0x40000 < a + z) ||
    (n = 4 && s.on Reg.PWR_LSN_RING_LEN && z < 48 + 2 * s.f Reg.PWR_LSN_RING_LEN) ||
    z < (((List.range 86).filter (fun b => s.present b && (s.claim b).1 == n)).map (fun b => (s.claim b).2)).sum) id

/-- Cells (R24, R40, R41): the cells that the image does not exclude. -/
def Block.proveCells (s : Block) (d : Decoded) : Option (Nat × Nat) :=
  failIndex 0x33 18 (fun g =>
    ((groupCells g).filter (fun k => !d.excluded.contains k)).length + (if d.allowed.contains g then 1 else 0) < (s.groupKind g).needs) id

/-- Lanes and channels reserved on a port in one direction, working and protect alike (R24, R391). -/
def Block.lanesOn (s : Block) (p : Nat) (sent : Bool) : Nat × Nat :=
  let hit (v : Nat) : Nat := if v / 4 % 4 = p then 1 else 0
  let bulk (v : Nat) : Nat :=
    let (en, w, pr) := bulkRoutes v
    if !en then 0 else (if w.1 = p then 1 else 0) + (match pr with
      | some r => if r.1 = p then 1 else 0
      | none => 0)
  let direct := ((List.range 4).map (fun k =>
      if sent then (if s.on (Reg.TRL_LOUT_EN k) then hit (s.f (Reg.TRL_LOUT_W k)) + (if s.on (Reg.TRL_LOUT_PEN k) then hit (s.f (Reg.TRL_LOUT_P k)) else 0) else 0)
      else
        let v := s.f (Reg.TRL_LIN_ROUTE k)
        if v.testBit 0 then hit (v / 2 % 16) + (if v.testBit 5 then hit (v / 64 % 16) else 0) else 0)).sum +
    ((List.range 16).map (fun x =>
      let v := s.f (Reg.TRL_XIT_ROUTE x)
      if v.testBit 0 then hit (if sent then v / 32 % 16 else v / 2 % 16) else 0)).sum
  let chans := ((List.range 32).map (fun k => bulk (s.f (if sent then Reg.TRL_BOUT_ROUTE k else Reg.TRL_BIN_ROUTE k)))).sum *
      (if s.on Reg.GRF_GLB_CFG_FG then 2 else 1) +
    ((List.range 16).map (fun k =>
      let v := s.f (Reg.TRL_BXIT_ROUTE k)
      if v.testBit 0 && (if sent then v / 2 ^ 10 % 4 else v / 2 % 4) = p then v / 2 ^ 19 % 128 + 1 else 0)).sum
  (direct, chans)

/-- Trellis lanes and hops (R24). -/
def Block.proveLanes (s : Block) : Option (Nat × Nat) :=
  failIndex 0x35 4 (fun p =>
    [true, false].any (fun d => 4 < (s.lanesOn p d).1 || 128 < (s.lanesOn p d).2) ||
    (List.range 4).any (fun k =>
      let v := s.f (Reg.TRL_LIN_ROUTE k)
      v.testBit 0 && ((v / 8 % 4 = p && 8 < s.f (Reg.TRL_LIN_HOPS k)) || (v.testBit 5 && v / 256 % 4 = p && 8 < s.f (Reg.TRL_LIN_PHOPS k)))) ||
    (List.range 16).any (fun x =>
      let v := s.f (Reg.TRL_XIT_ROUTE x)
      v.testBit 0 && v / 128 % 4 = p && 8 < s.f (Reg.TRL_XIT_HOPS x) + 1)) id

/-- Latency ceilings (R484): DETAIL is the ROUTE of the first path above its ceiling. -/
def proveCeilings (d : Decoded) (paths : List Path) : Option (Nat × Nat) :=
  (paths.zipIdx.find? (fun x => d.ceils.any (fun e => covers e x.1 && !x.1.meets e.2.2.2))).map (fun x => (0x37, x.2))

/-! ## The run -/

/-- The checks that come before the handshake, in ascending code order (R497). The coefficient memory holds four convolvers of two banks of 2048
words exactly (R221), and no image names more chains or channels than the pools hold: COEFMEM and CHAINS do not occur. -/
def Block.admitChecks (t : Block) (d : Decoded) (paths : List Path) : Option (Nat × Nat) :=
  firstSome [t.checkFields d, t.checkPorts, t.checkBias, t.checkChains, t.checkSources, t.checkCycle, t.checkBlocks, t.checkSap,
    t.checkSpeakers, t.checkClock, t.checkRings, t.checkDecl d paths, t.proveMac, t.proveMemory, t.proveCells d, t.proveLanes]

/-- The checks of a graft, and the cloche of any image (R102, R253). -/
def Block.graftChecks (s t : Block) (graft : Bool) (d : Decoded) : Option (Nat × Nat) :=
  if s.img.active.isNone then none
  else if graft && s.f Reg.GRF_GLB_CFG_FG != t.f Reg.GRF_GLB_CFG_FG then some (0x40, 0)
  else if graft && !s.samePlan d then some (0x41, 0)
  else if s.ports.shut then failIndex 0x42 16 (fun n => s.on (Reg.UAP_CFG_TALK n) && !t.on (Reg.UAP_CFG_TALK n)) id
  else none

/-- On a Trellis reference the grid has been aligned, which READY waits for (R398). -/
def Block.gridReady (s : Block) : Bool := s.f Reg.CLK_STAT_REF != 2 || s.on Reg.TRL_GLB_STAT_GRIDOK

/-- The clock plan lets an admission begin (R398, R496): LOCKED or later, the grid aligned, and the link PLL where a Trellis port is enabled. -/
def Block.planReady (s : Block) (t : Tab Word) : Bool :=
  2 ≤ s.pll && s.gridReady && (s.on Reg.CLK_STAT_LLOCK || (List.range 4).all (fun p => fieldIn t (Reg.TRL_PCFG_EN p) == 0))

/-- Begin an admission (R496, R254): the offers of R426 go out, unless the checks of R253 and the cloche have failed. Those of a graft were made at its
request. -/
def Block.beginAdmission (s : Block) (k : AdmitFor) (d : Decoded) : Block :=
  let t := s.candidate (k == .graft) d
  let early := if k == .graft then s.img.early else s.graftChecks t false d
  let s := (s.imgState 4).modImg (fun m => { m with proving := some (k, s.time.now), early := early, admitWait := none })
  if early.isSome then s else
  s.forAll ((List.range 4).filter (fun p => fieldIn t.regs (Reg.TRL_PCFG_EN p) == 1 && s.portUp p && hasReservation t.regs p)) (fun p s =>
    s.sendOffer t.regs true s.img.active.isSome p)

/-- ADMISSION (R496): an admission that waits begins once its clock plan runs. -/
def Block.admissionOp (s : Block) : Block :=
  match s.img.admitWait, s.img.shadow with
  | some k, some d => if s.planReady s.regs && (s.base = modeLoad || k != .first) then s.beginAdmission k d else s
  | _, _ => s

/-- Whether a neighbour has accepted the offer of the admission that runs. -/
def Block.accepted (s : Block) (p : Nat) : Bool :=
  if (s.port p).hsKeep then (s.port p).hsSince.isNone && (s.port p).hsResult == 0 else s.f (Reg.TRL_RT_PSTAT_HS p) == 1

/-- The verdict on the handshake (R427): none while a required port still has time, else the failure if there is one. -/
def Block.handshake (s : Block) (t : Tab Word) (began : Nat) : Option (Option (Nat × Nat)) :=
  let req := (List.range 4).filter (fun p => fieldIn t (Reg.TRL_RT_CFG_REQ.bit p) == 1 && !s.accepted p)
  let late := s.reached (began + ticks (msTicks 8))
  match req.find? (fun p => late || (s.port p).hsResult != 0xFF) with
  | some p => some (some (0x36, p * 256 + (s.port p).hsResult))
  | none => if req.isEmpty then some none else none

/-- The result of the admission that runs: none while it waits for a neighbour; else the failure if there is one (R24, R253, R497). -/
def Block.verdict (s : Block) (k : AdmitFor) (began : Nat) (d : Decoded) : Option (Option (Nat × Nat)) :=
  let t := s.candidate (k == .graft) d
  let paths := t.allPaths
  match firstSome [s.img.early, t.admitChecks d paths] with
  | some e => some (some e)
  | none =>
    match s.handshake t.regs began with
    | some none => some (proveCeilings d paths)
    | r => r

/-- LOFFER (R426): the peer's offer is judged by the active image and by one under admission. -/
def Block.lofferOp (s : Block) (p : Nat) (k : Packet) : Block :=
  let pend := match s.img.proving, s.img.shadow with
    | some (a, _), some d => some (s.candidate (a == .graft) d).regs
    | _, _ => none
  s.loffer p k s.img.active.isSome pend

/-- MICROFRAME_RECEIVE (R402); what a marker has changed in the latency table is published with it (R27, R28). -/
def Block.receiveOp (s : Block) (p : Nat) (m : Microframe) : Block :=
  let s := s.microframeOp p m
  s.onlyIf s.net.latDue (fun s => s.publish)

/-! ## The commands -/

/-- MICROFRAME_RECEIVE (R402). -/
def execMicroframeReceive (p : Nat) (mf : Microframe) (s : State) : Host.Outcome State Fault Refusal :=
  s.act (p < 4) (fun b => b.receiveOp p mf)

/-- LOFFER (R426). -/
def execLoffer (p : Nat) (pkt : Packet) (s : State) : Host.Outcome State Fault Refusal := s.act (p < 4) (fun b => b.lofferOp p pkt)

/-- ADMISSION (R496). -/
def execAdmission (s : State) : Host.Outcome State Fault Refusal := s.act true (fun b => b.admissionOp)

end Sys2Proof.Machine
end

