-- ==== Sys2Proof/Machine/Dma.lean ====
section
/-! DEFINITION. The DMA channels but for their accesses (R457 to R469): rings, descriptors and their checks, halts, stops and aborts, and the poll
timeout of the flash controller (R454). -/

namespace Sys2Proof.Machine

/-- STATE codes of R470. -/
def dmaIdle : Nat := 0
/-- FETCH. -/
def dmaFetch : Nat := 1
/-- RUN. -/
def dmaRun : Nat := 2
/-- READBACK. -/
def dmaReadback : Nat := 3
/-- HALT. -/
def dmaHalt : Nat := 4

/-- The record of a channel. -/
def Block.dma (s : Block) (c : Nat) : DmaSt := Tab.get (fun _ => {}) s.mem.dma c

/-- Change the record of a channel. -/
def Block.modDma (s : Block) (c : Nat) (h : DmaSt → DmaSt) : Block :=
  s.modMem (fun m => { m with dma := Tab.upd (fun _ => {}) m.dma c h })

/-- DMA_CH_STAT.STATE. -/
def Block.dmaState (s : Block) (c : Nat) : Nat := s.f (Reg.DMA_CH_STAT_STATE c)

/-- Enter a state. -/
def Block.setDma (s : Block) (c st : Nat) : Block := s.put (Reg.DMA_CH_STAT_STATE c) st

/-- Descriptors of a channel's ring (R458). -/
def Block.dmaCount (s : Block) (c : Nat) : Nat := s.f (Reg.DMA_CH_CFG_COUNTM1 c) + 1

/-- DMA_CH_BASE (R459). -/
def Block.dmaBase (s : Block) (c : Nat) : Nat := s.f (Reg.DMA_CH_BASE_BASE c) / 16 * 16

/-- Local address of the descriptor at IDX. -/
def Block.descAddr (s : Block) (c : Nat) : Nat := s.dmaBase c + 16 * s.f (Reg.DMA_CH_STAT_IDX c)

/-! ## Descriptors (R457) -/

/-- SRC. -/
def DmaSt.src (x : DmaSt) : Nat := (x.desc.getD 0 0).toNat
/-- DST. -/
def DmaSt.dst (x : DmaSt) : Nat := (x.desc.getD 1 0).toNat
/-- LEN. -/
def DmaSt.len (x : DmaSt) : Nat := bitsOf (x.desc.getD 2 0) 0 24
/-- Word 3. -/
def DmaSt.ctl (x : DmaSt) : Word := x.desc.getD 3 0
/-- SWAP. -/
def DmaSt.swap (x : DmaSt) : Nat := bitsOf x.ctl 2 2
/-- SWRAP. -/
def DmaSt.swrap (x : DmaSt) : Nat := bitsOf x.ctl 4 5
/-- DWRAP. -/
def DmaSt.dwrap (x : DmaSt) : Nat := bitsOf x.ctl 9 5

/-- The system address of byte i from a base with a wrap code (R462). -/
def wrapAddr (a k i : Nat) : Nat := if k = 0 then (a + i) % 2 ^ 32 else a / 2 ^ k * 2 ^ k + (a + i) % 2 ^ k

/-- First address and length of a region (R463). -/
def dmaRegion (a len k : Nat) : Nat × Nat := if k = 0 then (a, len) else (a / 2 ^ k * 2 ^ k, 2 ^ k)

/-- Whether source and destination regions overlap (R463). -/
def DmaSt.overlaps (x : DmaSt) : Bool :=
  let a := dmaRegion x.src x.len x.swrap
  let b := dmaRegion x.dst x.len x.dwrap
  a.1 < b.1 + b.2 && b.1 < a.1 + a.2

/-- The engine copies downward (R463). -/
def DmaSt.down (x : DmaSt) : Bool := x.overlaps && x.src < x.dst && x.swrap = 0 && x.dwrap = 0 && x.swap = 0

/-- Whether a system address lies in register space (R449, R450). -/
def inRegisters (a : Nat) : Bool := a < sramBase

/-- Whether a system address lies in the xSPI window (R449). -/
def inWindow (a : Nat) : Bool := 0x20000000 ≤ a && a < 0x40000000

/-- The ERRINFO cause for which a descriptor is refused; zero where it is not (R463). -/
def DmaSt.refusal (x : DmaSt) : Nat :=
  let bad (k : Nat) : Bool := (1 ≤ k && k ≤ 5) || 23 ≤ k
  let unit := if x.swap = 0 then 1 else if x.swap = 1 then 2 else 4
  if x.len = 0 then 8
  else if bad x.swrap || bad x.dwrap then 9
  else if x.src % unit != 0 || x.dst % unit != 0 || x.len % unit != 0 then 10
  else if (inRegisters x.src && (x.src % 4 != 0 || x.len % 4 != 0)) || (inRegisters x.dst && (x.dst % 4 != 0 || x.len % 4 != 0)) then 10
  else if x.overlaps && x.swap != 0 then 11
  else if x.overlaps && (x.swrap != 0 || x.dwrap != 0) then 12
  else 0

/-! ## Ends and errors -/

/-- The one write of word 3 that ends a descriptor (R458). -/
def Block.writeBack (s : Block) (c result : Nat) : Block :=
  s.sramWrite (s.descAddr c + 12 - sramBase) (setBits (setBits (s.dma c).ctl 0 1 0) 24 4 result)

/-- IDX counts on (R458). -/
def Block.dmaNextIdx (s : Block) (c : Nat) : Block := s.put (Reg.DMA_CH_STAT_IDX c) ((s.f (Reg.DMA_CH_STAT_IDX c) + 1) % s.dmaCount c)

/-- The channel goes IDLE; a stop that was held has been met. -/
def Block.dmaStopNow (s : Block) (c : Nat) : Block :=
  ((s.setDma c dmaIdle).put (Reg.DMA_CH_STAT_STOPREQ c) 0).modDma c (fun x => { x with buffer := [] })

/-- A descriptor has ended: the channel goes on, or stops after LAST or for a STOP (R460, R467). -/
def Block.dmaGoOn (s : Block) (c : Nat) : Block :=
  let last := (s.dma c).ctl.getLsbD 14
  let s := s.dmaNextIdx c
  if last || s.on (Reg.DMA_CH_STAT_STOPREQ c) then s.dmaStopNow c
  else (s.setDma c dmaFetch).modDma c (fun x => { x with buffer := [] })

/-- An error of a channel is latched, counted and recorded (R463, R464, R563). -/
def Block.dmaError (s : Block) (c : Nat) (dir : Bool) (cause : Nat) : Block :=
  let s := (s.putB (Reg.DMA_CH_ERRINFO_DIR c) dir).put (Reg.DMA_CH_ERRINFO_CAUSE c) cause
  let s := (s.raise (Reg.DMA_EVT_ERR_ERR.bit c)).bump (Reg.DMA_CH_CNT_ERR c)
  s.record 0x70 11 c (s.word (Reg.DMA_CH_ERRADDR c)) [s.word (Reg.DMA_CH_PROG0 c), s.word (Reg.DMA_CH_PROG1 c), s.word (Reg.DMA_CH_ERRINFO c)]

/-- A bus error halts the channel (R464). -/
def Block.dmaHaltAt (s : Block) (c : Nat) (dir : Bool) (cause addr : Nat) : Block :=
  (((s.put (Reg.DMA_CH_ERRADDR_ADDR c) addr).dmaError c dir cause).setDma c dmaHalt).modDma c (fun x => { x with buffer := [] })

/-! ## Requests -/

/-- GO (R459, R460). -/
def Block.dmaGoOp (s : Block) (c : Nat) : Block :=
  if s.dmaState c != dmaIdle then s.raise (Reg.DMA_CH_STAT_GOPEND c)
  else if s.dmaBase c < sramBase || sramBase + sramSize < s.dmaBase c + 16 * s.dmaCount c then
    (((s.put (Reg.DMA_CH_ERRADDR_ADDR c) (s.dmaBase c)).put (Reg.DMA_CH_ERRINFO_DIR c) 0).put (Reg.DMA_CH_ERRINFO_CAUSE c) 1).raise
      (Reg.DMA_EVT_ERR_ERR.bit c)
  else s.setDma c dmaFetch

/-- The progress record of a channel, as a snapshot of the ledger (R563). -/
def Block.dmaSnap (s : Block) (c : Nat) : List Word := [s.word (Reg.DMA_CH_PROG0 c), s.word (Reg.DMA_CH_PROG1 c)]

/-- The words of the descriptor at IDX, and the cause and address of a bus error where one has stopped the fetch. -/
def Block.readDesc (s : Block) (c : Nat) : List Word × Option (Nat × Nat) × Block :=
  let a := s.descAddr c
  [0, 4, 8, 12].foldl (fun (r : List Word × Option (Nat × Nat) × Block) o =>
    if r.2.1.isSome then r else
    let (w, st, s) := r.2.2.sramRead (a + o - sramBase) 1 (r.2.2.dmaSnap c)
    if st = 0 then (r.1 ++ [w], none, s) else (r.1, some (if st = 1 then 3 else 4, a + o), s)) ([], none, s)

/-- A channel takes the descriptor at IDX: its record begins (R469). -/
def Block.dmaTake (s : Block) (c : Nat) (ws : List Word) : Block :=
  let s := s.modDma c (fun _ => { desc := ws })
  ((s.put (Reg.DMA_CH_PROG0_XFER c) 0).put (Reg.DMA_CH_PROG1_CONF c) 0).put (Reg.DMA_CH_PROG1_IDX c) (s.f (Reg.DMA_CH_STAT_IDX c))

/-- DESCRIPTOR_FETCH (R460, R463, R469). -/
def Block.dmaFetchOp (s : Block) (c : Nat) : Block :=
  if s.dmaState c != dmaFetch then s else
  match s.readDesc c with
  | (ws, some e, s) => (s.dmaTake c ws).dmaHaltAt c false e.1 e.2
  | (ws, none, s) =>
    if !(ws.getD 3 0).getLsbD 0 then
      if s.on (Reg.DMA_CH_STAT_GOPEND c) then s.put (Reg.DMA_CH_STAT_GOPEND c) 0 else s.dmaStopNow c
    else
      let s := s.dmaTake c ws
      let e := (s.dma c).refusal
      if e = 0 then (s.setDma c dmaRun).onlyIf (inWindow (s.dma c).dst) (fun s => s.put Reg.XSPI_WPROG1_PAGES 0)
      else (((s.writeBack c 2).dmaNextIdx c).dmaError c false e).dmaStopNow c

/-- STOP (R467). -/
def Block.dmaStopOp (s : Block) (c : Nat) : Block := if s.dmaState c = dmaIdle then s else s.raise (Reg.DMA_CH_STAT_STOPREQ c)

/-- ABORT (R467): in the completion cycle it is late and discarded. -/
def Block.dmaAbortOp (s : Block) (c : Nat) (inCompletion : Bool) : Block :=
  if s.dmaState c = dmaIdle then s
  else if s.dmaState c = dmaFetch then s.dmaStopNow c
  else if inCompletion && s.dmaState c = dmaReadback then s.raise (Reg.DMA_EVT_ERR_LATE.bit c)
  else ((s.writeBack c 4).dmaNextIdx c).dmaStopNow c

/-- Every channel that is not IDLE is aborted (R468). -/
def Block.dmaAbortAll (s : Block) : Block := s.forAll (List.range 16) (fun c s => s.dmaAbortOp c false)

/-- SKIP (R464). -/
def Block.dmaSkipOp (s : Block) (c : Nat) : Block := if s.dmaState c = dmaHalt then (s.writeBack c 3).dmaGoOn c else s

/-- RESTART (R464). -/
def Block.dmaRestartOp (s : Block) (c : Nat) : Block := if s.dmaState c = dmaHalt then s.setDma c dmaFetch else s

/-- DMA_GLB_STAT: channels that are not IDLE (R470). -/
def Block.dmaBusy (s : Block) : Nat := (List.range 16).foldl (fun a c => if s.dmaState c = dmaIdle then a else a + 2 ^ c) 0

/-- POLL_TIMEOUT (R454): the indirect command, or the write beat that waits, ends with an error. -/
def Block.pollTimeoutOp (s : Block) : Block :=
  match s.mem.xspi.poll with
  | none => s
  | some (t, _, ind) =>
    if !s.reached (t + ticks (msTicks (s.f Reg.XSPI_POLL_POLLTO))) then s else
    let s := ((s.raise Reg.XSPI_EVT_PTO).put Reg.XSPI_WPROG1_STATE 5).modXspi (fun x => { x with poll := none })
    let s := s.record 0x71 11 0 (s.word Reg.XSPI_WPROG0) [s.word Reg.XSPI_WPROG0, s.word Reg.XSPI_WPROG1]
    if ind then s.indirectEnd true
    else
      let c := s.mem.xspi.chan
      let x := s.dma c
      let a := match x.buffer with
        | b :: _ => wrapAddr x.dst x.dwrap b.1
        | [] => (x.lastBeat.map (·.1)).getD x.dst
      (s.onlyIf (s.dmaState c == dmaRun || s.dmaState c == dmaReadback) (fun s => s.dmaHaltAt c true 5 a)).xspiFollow

/-! ## The commands -/

/-- DMA_GO (R460). -/
def execDmaGo (c : Nat) (s : State) : Host.Outcome State Fault Refusal := s.hostWrite (c < 16) (fun b => b.dmaGoOp c)

/-- DESCRIPTOR_FETCH (R463). -/
def execDescriptorFetch (c : Nat) (s : State) : Host.Outcome State Fault Refusal := s.act (c < 16) (fun b => b.dmaFetchOp c)

/-- STOP (R467). -/
def execStop (c : Nat) (s : State) : Host.Outcome State Fault Refusal := s.hostWrite (c < 16) (fun b => b.dmaStopOp c)

/-- DMA_ABORT (R467). -/
def execDmaAbort (c : Nat) (inCompletion : Bool) (s : State) : Host.Outcome State Fault Refusal :=
  s.hostWrite (c < 16) (fun b => b.dmaAbortOp c inCompletion)

/-- SKIP (R464). -/
def execSkip (c : Nat) (s : State) : Host.Outcome State Fault Refusal := s.hostWrite (c < 16) (fun b => b.dmaSkipOp c)

/-- RESTART (R464). -/
def execRestart (c : Nat) (s : State) : Host.Outcome State Fault Refusal := s.hostWrite (c < 16) (fun b => b.dmaRestartOp c)

/-- POLL_TIMEOUT (R454). -/
def execPollTimeout (s : State) : Host.Outcome State Fault Refusal := s.act true (fun b => b.pollTimeoutOp)

end Sys2Proof.Machine
end

