-- ==== Sys2Proof/Machine/Graft.lean ====
section
/-! DEFINITION. An image takes effect: by full load, from cleared state (R85, R120, R444, R496), or by a graft, whose phases cross each element that
differs from the old image to the new one (R252 to R264). -/

namespace Sys2Proof.Machine

/-- The machine as an image alone describes it. -/
def imageBlock (d : Decoded) : Block := ({} : Block).candidate false d

/-- What the registers say of the active image (R503). -/
def Block.setInfo (s : Block) (d : Decoded) : Block :=
  let s := ((s.putB Reg.IMG_STAT_SIGNED d.signed).putB Reg.IMG_STAT_ENC d.enc).put Reg.IMG_STAT_SVALID 0
  let s := ((s.setW Reg.IMG_VER d.ver).setW Reg.IMG_BUILD_HI (d.build.getD 0 0)).setW Reg.IMG_BUILD_LO (d.build.getD 1 0)
  (s.put Reg.IMG_SRC_ACT d.src).modImg (fun m => { m with active := some d, shadow := none, proving := none, admitWait := none })

/-- The halves of configuration memory are exchanged, each with its latency table (R448, R496, R498). -/
def Block.exchange (s : Block) : Block :=
  let old := if s.img.active.isSome then some (s.img.paths, s.img.pathFrame, s.f Reg.IMG_STAT_GEN) else none
  (s.modMem (fun m => { m with active := m.shadow, shadow := m.active })).modImg (fun m => { m with shadowTable := old })

/-- The records of an image in the coefficient banks of a convolver, by byte offset (R474). -/
def coefRecords (d : Decoded) (c : Nat) : List (Nat × Word) :=
  (d.fields.filter (fun p => coefBase + 0x4000 * c ≤ p.1 && p.1 < coefBase + 0x4000 * (c + 1))).map (fun p => (p.1 - coefBase, p.2))

/-- The banks of a convolver take what an image gives, zero where it gives nothing; bank 0 is active (R222, R255). -/
def Block.loadCoefs (s : Block) (d : Decoded) (c : Nat) : Block :=
  let mine (a : Nat) : Bool := 0x4000 * c ≤ a && a < 0x4000 * (c + 1)
  let s := s.modMem (fun m => { m with coef := m.coef.filter (fun p => !mine p.1),
                                       upsets := m.upsets.filter (fun p => !(coefBase ≤ p.1 && mine (p.1 - coefBase))),
                                       scrub := m.scrub.filter (fun a => !(coefBase ≤ a && mine (a - coefBase))) })
  (s.forAll (coefRecords d c) (fun p s => s.coefWrite p.1 p.2)).put (Reg.CNV_STAT_ACTIVE c) 0

/-! ## Full load (R496) -/

/-- The cells take the exclusions of an image and their roles (R39, R41, R76, R483). -/
def Block.placeCells (s : Block) (d : Decoded) : Block :=
  let s := s.forAll (List.range 86) (fun k s => s.modCell k (fun c => { c with excluded := d.excluded.contains k }))
  let s := s.forAll (List.range 18) (fun g s => s.modGrp g (fun x => { x with allowDegraded := d.allowed.contains g }))
  let s := { s with cells := { s.cells with slice := none } }
  s.forAll (List.range 18) (fun g s => s.assignRoles g)

/-- The Direct matrix starts with every gain and filter of its registers in force. -/
def Block.startDirect (s : Block) : Block :=
  let s := { s with dir := {} }
  let s := s.forAll (allXps.filter (fun x => s.on (Reg.DIR_XP_EN x.1 x.2))) (fun x s =>
    s.modXp x.1 x.2 (fun y => { y with cur := s.xpTarget x.1 x.2, goal := s.xpTarget x.1 x.2 }))
  s.forAll (List.range 24) (fun o s => s.modDout o (fun y =>
    { y with pipe := { y.pipe with b0 := { coef := s.staging o 0 }, b1 := { coef := s.staging o 1 } } }))

/-- The graph starts from cleared state (R85, R174, R197, R251). -/
def Block.startGraph (s : Block) : Block :=
  let s := { s with graph := {} }
  let s := s.forAll ((List.range 86).filter s.present) (fun b s => s.restartBlk b)
  let s := s.forAll (List.range 196) (fun k s =>
    (s.put (Reg.GRF_SEL_CUR k) (s.altSource k (s.altOf k))).modSel k (fun x => { x with alt := s.altOf k }))
  s.forAll (List.range 16) (fun t s => ((s.put (Reg.GRF_RING_WR_WR t) 0).put (Reg.GRF_RING_RD_RD t) 0))

/-- Every port of the image starts (R85, R103, R316): gains and ranges as loaded, enabled jacks PENDING, a shut cloche closed upon it. -/
def Block.startPorts (s : Block) : Block :=
  let s := { s with ports := { s.ports with ins := [], bias := [], outs := [], jacks := [], opening := none, pumpAt := none, cpokAt := none, hpOn := 0 } }
  let s := s.forAll (List.range 16) (fun n s => s.put (Reg.UAP_IN_GAIN_CUR n) (min (s.f (Reg.UAP_IN_GAIN_TARGET n)) (s.maxGain n)))
  let s := s.forAll (List.range 18) (fun o s => s.putB (rangeNow o) (s.on (rangeReq o)))
  let s := s.forAll ((List.range 8).filter (fun n => s.on (Reg.JACK_CFG_EN n))) (fun n s => s.setJack n jackPending)
  if s.ports.shut then (s.raise Reg.CLOCHE_STAT_SHUT).clocheCut else s

/-- The speakers and the control-sense converter start; dTv and dTm are kept (R310). -/
def Block.startSense (s : Block) : Block :=
  let s := s.forAll (List.range 2) (fun c s => s.modSpk c (fun x => { dTv := x.dTv, dTm := x.dTm }))
  let s := { s with spk := { s.spk with pvdd := [], meas := none }, csc := {} }
  s.forAll ((List.range 4).filter (fun t => s.on (Reg.CSC_TMR_EN t))) (fun t s => s.startTimer t)

/-- Protected lanes and bulk taps start on their working routes (R430). -/
def Block.freshRoutes (s : Block) : Block :=
  let s := s.modNet (fun n => { n with prot := [] })
  let s := s.forAll (List.range 4) (fun k s => ((s.put (Reg.TRL_LIN_ACT k) 0).put (Reg.TRL_LIN_PGOOD k) 0).put (Reg.TRL_LIN_EQ k) 0)
  (s.forAll (List.range 32) (fun k s => (s.put (Reg.TRL_BIN_ACT k) 0).put (Reg.TRL_BIN_PGOOD k) 0)).refreshEq

/-- Registers, memories and records take an image by full load (R496); the entry to READY follows. -/
def Block.activateImage (s : Block) (d : Decoded) : Block :=
  let s := (s.bstNewImage.exchange.graftRegs false d).computeFields
  let s := s.forAll (List.range 16) (fun n s => (s.put (Reg.CHAIN_DSTAT_OFS n) 0).put (Reg.CHAIN_DDLY_DLY n)
    (if s.on (Reg.CHAIN_DCFG_EN n) then s.decTicks n else 0))
  let s := (s.forAll (List.range 4) (fun c s => s.loadCoefs d c)).renewBanks
  let s := { s with chains := { syncDue := true }, sap := {} }
  let s := ((s.placeCells d).startPorts.startDirect.startGraph).startSense
  let s := s.forAll (List.range 4) (fun p s => s.sapRestart p)
  let s := s.freshRoutes
  let s := s.modClk (fun c => { c with mclkoen := s.on Reg.CLK_CTRL_MCLKOEN })
  let s := s.modBst (fun x => { x with results := [], cycleAt := none, last := [], seen := 0 })
  ((s.setInfo d).modImg (fun m => { m with activate := false, graft := {} })).raise Reg.IMG_EVT_ACTIVE

/-! ## What differs between two images (R258) -/

/-- Address and words of a block's register page; none for a bus. -/
def blockPage (b : Nat) : Nat × Nat :=
  if b < 32 then (0x44000 + 0x100 * b, 64)
  else if b < 40 then (0x46000 + 0x100 * (b - 32), 64)
  else if b < 44 then (0x46800 + 0x40 * (b - 40), 16)
  else if b < 48 then (0x46A00 + 0x40 * (b - 44), 16)
  else if b < 52 then (0x46B00 + 0x40 * (b - 48), 16)
  else if b < 54 then (0x46C00 + 0x100 * (b - 52), 64)
  else if b < 62 then (0x46E00 + 0x20 * (b - 54), 8)
  else (0, 0)

/-- The bits of a word that only an image sets. -/
def fixedMask (a : Nat) : Word :=
  match findReg a with
  | none => 0
  | some r => (r.fields.filter (fun f => settable r f && f.access == .ro)).foldl (fun m f => m ||| f.mask) 0

/-- The image-fixed fields of a block: PRESENT, XF and LINK, and those of its page. -/
def Block.blockFixed (s : Block) (b : Nat) : List Word :=
  let p := blockPage b
  (Reg.GRF_BLK_CFG b :: (List.range p.2).map (fun i => p.1 + 4 * i)).map (fun a => s.word a &&& fixedMask a)

/-- Whether a graft cuts a block (R258): `o` and `n` are the images, with their records. -/
def blockCut (o n : Block) (old new : Decoded) (b : Nat) : Bool :=
  (o.present b || n.present b) &&
    (o.blockFixed b != n.blockFixed b || ((o.claim b).2 != 0 && o.claimOffset b != n.claimOffset b) ||
     (!n.crossfadable b && o.stagedWords b != n.stagedWords b) ||
     (40 ≤ b && b < 44 && coefRecords old (b - 40) != coefRecords new (b - 40)))

/-- Whether a graft crosses a block by scarf (R258). -/
def blockScarfs (o n : Block) (b : Nat) : Bool := n.present b && n.crossfadable b && o.stagedWords b != n.stagedWords b

/-- Whether the input change of R261 runs on a port. -/
def inputChanged (o n : Block) (k : Nat) : Bool :=
  o.isInput k && n.isInput k && (o.f (Reg.UAP_CFG_MODE k) != n.f (Reg.UAP_CFG_MODE k) || o.f (Reg.UAP_CFG_LP k) != n.f (Reg.UAP_CFG_LP k))

/-- Whether a graft restarts a serial port (R284): its enable, format, role, clocking, rate, slots, width, phase or tag bits change. -/
def sapChanged (o n : Block) (p : Nat) : Bool :=
  (o.on (Reg.SAP_CFG_EN p) || n.on (Reg.SAP_CFG_EN p)) &&
    [Reg.SAP_CFG_EN p, Reg.SAP_CFG_FMT p, Reg.SAP_CFG_ROLE p, Reg.SAP_CFG_SYNC p, Reg.SAP_CFG_RATE p, Reg.SAP_CFG_SLOTS p, Reg.SAP_CFG_WIDTH p,
     Reg.SAP_PHASE_FPH p, Reg.SAP_CFG_TAGIN p, Reg.SAP_CFG_TAGOUT p].any (fun x => o.f x != n.f x)

/-- The receive slot that a tap (0 to 31) or a high-rate source (from 32) is fed by under an image, directly or through a channel. -/
def Block.tapFeed (s : Block) (k : Nat) : List (Nat × Nat × Nat) :=
  s.rxSlots.filter (fun x => if k < 32 then
      x.2.2 == 0x20 + k || (0x40 ≤ x.2.2 && x.2.2 < 0x50 && s.f (Reg.SRC_CFG_K (x.2.2 - 0x40)) == k)
    else x.2.2 == 0x60 + (k - 32))

/-- Whether a graft cuts a tap or a high-rate source (R284). -/
def tapCut (o n : Block) (k : Nat) : Bool :=
  let a := o.tapFeed k
  let b := n.tapFeed k
  a != b || (a ++ b).any (fun x => sapChanged o n x.1)

/-- Whether a graft changes the route of an output (R160). -/
def routeChanged (o n : Block) (k : Nat) : Bool :=
  (List.range 24).any (fun i => o.on (Reg.DIR_XP_EN k i) != n.on (Reg.DIR_XP_EN k i)) ||
  o.word (Reg.DIR_OCFG k) != n.word (Reg.DIR_OCFG k) || (20 ≤ k && o.word (Reg.TRL_LOUT (k - 20)) != n.word (Reg.TRL_LOUT (k - 20)))

/-- Whether a graft restarts a resampler channel (R284). -/
def srcChanged (o n : Block) (c : Nat) : Bool :=
  (o.on (Reg.SRC_CFG_EN c) || n.on (Reg.SRC_CFG_EN c)) &&
    (o.word (Reg.SRC_CFG c) != n.word (Reg.SRC_CFG c) || sapChanged o n (n.f (Reg.SRC_CFG_SAP c)))

/-- Whether a graft changes a ring or enables it (R197). -/
def ringChanged (o n : Block) (t : Nat) : Bool := n.on (Reg.GRF_RING_CFG_EN t) && o.word (Reg.GRF_RING_CFG t) != n.word (Reg.GRF_RING_CFG t)

/-- Whether a graft stops a speaker channel (R301). -/
def spkChanged (o n : Block) (c : Nat) : Bool :=
  (o.on (Reg.SPK_CFG_EN c) || n.on (Reg.SPK_CFG_EN c)) &&
    [Reg.SPK_CFG_EN c, Reg.SPK_CFG_MI c, Reg.SPK_LEAD_NS c, Reg.SPK_GLB_CFG_FSW, Reg.SPK_GLB_CFG_INTLV, Reg.SPK_GLB_CFG_PVNOM].any
      (fun x => o.f x != n.f x)

/-! ## The request and the phases (R254) -/

/-- Change the record of the graft. -/
def Block.modGraft (s : Block) (h : Graft → Graft) : Block := s.modImg (fun m => { m with graft := h m.graft })

/-- IMG_GRAFT_STAT.PHASE. -/
def Block.graftPhase (s : Block) : Nat := s.f Reg.IMG_GRAFT_STAT_PHASE

/-- Enter a phase of the graft. -/
def Block.setPhase (s : Block) (p : Nat) : Block := (s.put Reg.IMG_GRAFT_STAT_PHASE p).modGraft (fun g => { g with at' := s.time.now })

/-- PHASE returns to 0. -/
def Block.graftOver (s : Block) : Block :=
  ((s.put Reg.IMG_GRAFT_STAT_PHASE 0).put Reg.GRF_SCARF_STAT_FREEZE 0).modGraft (fun _ => {}) |>.raise Reg.IMG_EVT_GRAFTEND

/-- Whether a load, a LOAD that has been accepted, or a graft stands in the way of COMMIT and LOAD (R496). -/
def Block.imgBusy (s : Block) : Bool := s.img.load.isSome || s.loadActs || s.graftPhase != 0

/-- COMMIT (R254, R496): refused with a code, or the graft begins: the checks of R253 at once, then its admission, which may wait for the clock
plan. -/
def Block.commitOp (s : Block) : Block :=
  if s.imgBusy then s.imgError 0x43 0 0
  else match s.img.shadow, s.img.active with
    | some d, some _ =>
      let early := s.graftChecks (s.candidate true d) true d
      let s := (s.setPhase 1).modImg (fun m => { m with early := early })
      if early.isSome || s.planReady s.regs then s.beginAdmission .graft d else (s.imgState 4).modImg (fun m => { m with admitWait := some .graft })
    | _, _ => s.imgError 0x44 0 0

/-- Admission of a graft has passed: new requests are held from here on (R254). -/
def Block.graftFreeze (s : Block) : Block := (s.setPhase 2).raise Reg.GRF_SCARF_STAT_FREEZE

/-- Nothing runs that FREEZE waits for (R254). -/
def Block.graftQuiet (s : Block) : Bool :=
  (List.range 62).all (fun b => (s.blk b).next.isNone) && (List.range 196).all (fun k => (s.sel k).run.isNone) &&
  (List.range 24).all (fun o => (s.dout o).swap.isNone)

/-- A fade out from now. -/
def Block.fadeOut (s : Block) : Fade := ⟨64, false, some s.time.now⟩

/-- A fade in from now. -/
def Block.fadeIn (s : Block) : Fade := ⟨0, true, some s.time.now⟩

/-- Put a fade on the serial taps and high-rate sources that a graft cuts. -/
def Block.fadeTaps (s : Block) (g : Graft) (h : Option Fade → Option Fade) : Block :=
  { s with sap := { s.sap with fades := g.taps.foldl (fun t k => Tab.upd (fun _ => none) t k h) s.sap.fades } }

/-- GRAFT_FREEZE_END (R254, R258, R259, R301): at F, a frame boundary, every element to be cut begins to fade out. -/
def Block.graftFreezeEndOp (s : Block) : Block :=
  match s.graftPhase == 2 && s.time.tick == 0 && s.graftQuiet, s.img.active, s.img.shadow with
  | true, some old, some new =>
    let o := imageBlock old
    let n := imageBlock new
    let g : Graft := { at' := s.time.now,
                       blks := (List.range 86).filter (blockCut o n old new),
                       decs := (List.range 16).filter (fun k => chainChanged o n (.dec k)),
                       ints := (List.range 20).filter (fun k => chainChanged o n (.int k)),
                       ins := (List.range 16).filter (inputChanged o n),
                       taps := (List.range 52).filter (tapCut o n),
                       outs := (List.range 24).filter (routeChanged o n),
                       spks := (List.range 2).filter (spkChanged o n),
                       scarfs := (List.range 62).filter (fun b => !blockCut o n old new b && blockScarfs o n b) }
    let s := (s.put Reg.IMG_GRAFT_STAT_PHASE 3).modGraft (fun _ => g)
    let s := s.forAll (g.blks.filter s.present) (fun b s =>
      let s := s.modBlk b (fun x => { x with fade := some s.fadeOut })
      (((s.put (Reg.GRF_BLK_PROG_DONE b) 0).put (Reg.GRF_BLK_PROG_KIND b) 6).put (Reg.GRF_BLK_PROG_LEN b) 64).put (Reg.GRF_BLK_PROG_ACTIVE b) 1)
    let s := s.forAll (g.decs.map ChainId.dec ++ g.ints.map ChainId.int) (fun c s => s.modChain c (fun x => { x with cut := some s.fadeOut }))
    let s := s.forAll g.ins (fun k s => s.modIn k (fun x => { x with cut := some s.fadeOut }))
    let s := s.forAll g.spks (fun c s => s.modSpk c (fun x => { x with cut := some s.fadeOut }))
    s.fadeTaps g (fun _ => some s.fadeOut)
  | _, _, _ => s

/-- The core cycle of the next graph instant. -/
def Block.nextInstant (s : Block) : Nat := s.after ((s.graphPeriod - s.time.tick % s.graphPeriod) % s.graphPeriod)

/-- A fade turned back: it rises from the weight in force from the next graph instant (R263). -/
def Block.turnBack (s : Block) (fine : Bool) (f : Fade) : Fade := ⟨s.fadeWeight f fine, true, some s.nextInstant⟩

/-- A graft is abandoned before C (R263): faded elements come back, waiting requests and the shadow are kept. -/
def Block.abandonGraft (s : Block) : Block :=
  if s.graftPhase = 0 || 4 ≤ s.graftPhase then s else
  let g := s.img.graft
  let back (s : Block) (fine : Bool) (f : Option Fade) : Option Fade := f.map (s.turnBack fine)
  let s := s.forAll g.blks (fun b s => s.modBlk b (fun x => { x with fade := back s false x.fade }))
  let s := s.forAll g.decs (fun k s => s.modChain (.dec k) (fun x => { x with cut := back s false x.cut }))
  let s := s.forAll g.ints (fun k s => s.modChain (.int k) (fun x => { x with cut := back s true x.cut }))
  let s := s.forAll g.ins (fun k s => s.modIn k (fun x => { x with cut := back s false x.cut }))
  let s := s.forAll g.spks (fun c s => s.modSpk c (fun x => { x with cut := back s true x.cut }))
  let s := s.fadeTaps g (back s false)
  let s := s.modImg (fun m => { m with proving := none, admitWait := none })
  (s.onlyIf s.img.shadow.isSome (fun s => s.imgState 5)).graftOver

/-! ## The commit (R254 to R262) -/

/-- What is still pending at C is discarded (R255). -/
def Block.dropPending (s : Block) : Block :=
  let drop (s : Block) : Block := s.raise Reg.GRF_SCARF_EVT_DROP
  let s := s.forAll (s.graph.blks.map (·.1)) (fun b s =>
    let x := s.blk b
    if x.req.isSome || x.pend.isSome then drop (s.modBlk b (fun y => { y with req := none, pend := none })) else s)
  let s := s.forAll (s.graph.sels.map (·.1)) (fun k s =>
    if (s.sel k).pending then drop (s.modSel k (fun y => { y with wait := none, held := none })) else s)
  s.forAll (List.range 24) (fun o s => if s.on (Reg.DIR_OSTAT_BQPEND o) then drop (s.put (Reg.DIR_OSTAT_BQPEND o) 0) else s)

/-- The gain and mix fields of a block with what each stands for and the graph samples of its ramp (R200, R226, R231). -/
def blockGains (b : Nat) : List (Fld × (Block → Rat) × Nat) :=
  let q20 (x : Fld) : Fld × (Block → Rat) × Nat := (x, fun s => s.parQ20 x, 64)
  if b < 32 then
    [q20 (Reg.STR_TRIM_GAIN b), (Reg.STR_LEVEL_GAIN b, fun s => if s.par (Reg.STR_CTRL_MUTE b) = 1 then 0 else s.parQ20 (Reg.STR_LEVEL_GAIN b), 64),
     (Reg.STR_PAN_PAN b, fun s => s.parQ15 (Reg.STR_PAN_PAN b), 64), (Reg.STR_PAN_WIDTH b, fun s => s.widthOf b, 64)] ++
    (List.range 8).map (fun k => q20 (Reg.STR_SEND_LEVEL b k))
  else if b < 40 then [q20 (Reg.BP_INGAIN_GAIN (b - 32)), q20 (Reg.BP_OUTGAIN_GAIN (b - 32))]
  else if b < 44 then [q20 (Reg.CNV_GAIN_GAIN (b - 40))]
  else if b < 48 then
    [(Reg.MOD_MIX_DRY (b - 44), fun s => s.parQ15 (Reg.MOD_MIX_DRY (b - 44)), 64), (Reg.MOD_MIX_WET (b - 44), fun s => s.parQ15 (Reg.MOD_MIX_WET (b - 44)), 64)] ++
    (List.range 3).map (fun j => (Reg.MOD_P_P (b - 44) j, fun s => (s.par (Reg.MOD_P_P (b - 44) j) : Rat), 256))
  else if b < 52 then [q20 (Reg.DLY_LEVEL_GAIN (b - 48))]
  else if b < 54 then
    q20 (Reg.RVB_LEVEL_GAIN (b - 52)) :: (List.range 16).flatMap (fun i =>
      [(Reg.RVB_DAMP_G (b - 52) i, fun s => max 0 (min (9999 / 10000) (s.parQ15 (Reg.RVB_DAMP_G (b - 52) i))), 256),
       (Reg.RVB_DAMP_A (b - 52) i, fun s => max 0 (min (99 / 100) (s.parQ15 (Reg.RVB_DAMP_A (b - 52) i))), 256)])
  else if b < 62 then [q20 (Reg.TG_LEVEL_GAIN (b - 54))]
  else []

/-- The values of a block in force are held, so that the next graph instant ramps from them (R199, R200). -/
def Block.holdGains (s : Block) (b : Nat) : Block := s.forAll (blockGains b) (fun x s => s.holdGain x.1 (s.gainNow x.1 (x.2.1 s)))

/-- The values of a block stand at its fields: it restarts. -/
def Block.dropGains (s : Block) (b : Nat) : Block :=
  let keys := (blockGains b).map (fun x => rampKey x.1)
  s.modGraph (fun g => { g with ramps := g.ramps.filter (fun p => !keys.contains p.1) })

/-- The running blocks cross over to the new image at C (R255, R258, R259). `was` is the machine before the commit. -/
def Block.crossBlocks (s was : Block) (d : Decoded) (g : Graft) : Block :=
  let s := s.forAll (g.blks.filter (fun b => 40 ≤ b && b < 44)) (fun b s => s.loadCoefs d (b - 40))
  let s := s.forAll g.blks (fun b s =>
    if s.present b then
      let s := ((s.dropGains b).restartBlk b).modBlk b (fun x => { x with fade := some ⟨0, true, some s.time.now⟩ })
      (((s.put (Reg.GRF_BLK_PROG_DONE b) 0).put (Reg.GRF_BLK_PROG_KIND b) 7).put (Reg.GRF_BLK_PROG_LEN b) 64).put (Reg.GRF_BLK_PROG_ACTIVE b) 1
    else ((s.dropGains b).modBlk b (fun _ => {})).put (Reg.GRF_BLK_PROG_ACTIVE b) 0)
  let s := s.forAll g.scarfs (fun b s => s.startScarf b 5)
  let same (b : Nat) : Bool := s.present b && !g.blks.contains b
  -- positions that the image changes are written under their own rules (R229, R231)
  let s := s.forAll ((List.range 4).filter (fun k => same (48 + k))) (fun k s => s.forAll [0, 1] (fun ch s =>
    if s.f (Reg.DLY_TIME_TIME k ch) != was.f (Reg.DLY_TIME_TIME k ch) && s.on (Reg.DLY_CTRL_MODE k) then s.scarfRequest (48 + k) 3 else s))
  s.forAll ((List.range 2).filter (fun k => same (52 + k) && s.f (Reg.RVB_PRE_PRE k) != was.f (Reg.RVB_PRE_PRE k))) (fun k s =>
    s.scarfRequest (52 + k) 4)

/-- Selects whose source in force differs switch at C (R258). -/
def Block.crossSelects (s : Block) : Block :=
  s.forAll (List.range 196) (fun k s =>
    let alt := s.altOf k
    if s.f (Reg.GRF_SEL_CUR k) = s.altSource k alt then s.modSel k (fun x => { x with alt := alt }) else s.startSwitch k alt)

/-- The Direct matrix crosses over (R147, R160, R260). -/
def Block.crossDirect (s was : Block) (g : Graft) : Block :=
  let leaves (o : Nat) : Bool := o < 16 && was.isOutput o && !s.isOutput o
  s.forAll (List.range 24) (fun o s =>
    let cut := g.outs.contains o || leaves o
    let s := if !cut then s else
      let x := was.dout o
      let gains := ((List.range 24).filter (fun i => was.on (Reg.DIR_XP_EN o i))).map (fun i => (i, (was.xp o i).gain was.time.now))
      let old : OldRoute := { gains := gains, nbq := was.f (Reg.DIR_OCFG_NBQ o), lsrc := was.f (Reg.DIR_OCFG_LSRC o), pipe := x.pipe,
                              at' := s.time.now, leaving := leaves o }
      let hist (keep : Bool) (b : BqSt) (k : Nat) : BqSt := if keep then { b with coef := s.staging o k } else { coef := s.staging o k }
      (s.modDout o (fun y => { y with
        old := some old, swap := none,
        pipe := { y.pipe with b0 := hist (1 ≤ old.nbq) x.pipe.b0 0, b1 := hist (2 ≤ old.nbq) x.pipe.b1 1 } })).put (Reg.DIR_OSTAT_RSCARF o) 1
    s.forAll (List.range 24) (fun i s =>
      let new := s.xpTarget o i
      if !s.on (Reg.DIR_XP_EN o i) then (if was.on (Reg.DIR_XP_EN o i) then s.modXp o i (fun _ => {}) else s)
      else if cut || !was.on (Reg.DIR_XP_EN o i) then s.modXp o i (fun _ => { cur := new, goal := new })
      else if s.f (Reg.DIR_XP_GAIN o i) = was.f (Reg.DIR_XP_GAIN o i) && !(was.xp o i).held then s
      else s.xpGainWriteOp o i (BitVec.ofNat 18 (s.f (Reg.DIR_XP_GAIN o i)))))

/-- The chains that a graft changes restart, and fade in from their first output; elsewhere a shift word is written under its own rule
(R122, R125, R129, R258). -/
def Block.crossChains (s was : Block) (g : Graft) : Block :=
  let s := s.forAll (g.decs.map ChainId.dec ++ g.ints.map ChainId.int) (fun c s => s.graftChain c)
  s.forAll ((List.range 36).filter (fun c => s.chainRuns (chainOf c) && !(if c < 16 then g.decs.contains c else g.ints.contains (c - 16)))) (fun c s =>
    let w := s.f (chainShift (chainOf c))
    let v := was.f (chainShift (chainOf c))
    if w = v then s else (s.put (chainShift (chainOf c)) v).shiftWriteOp (chainOf c) w)

/-- Inputs and outputs cross over (R85, R92, R94, R106, R258, R261). An output that becomes an input starts when its common mode has fallen. -/
def Block.crossPorts (s was : Block) (g : Graft) : Block :=
  let s := s.forAll (List.range 16) (fun n s =>
    let t := s.f (Reg.UAP_IN_GAIN_TARGET n)
    let cal := s.f (Reg.UAP_CAL_GAIN_GAIN n)
    let s := if was.isInput n && s.isInput n then
        let s := (s.put (Reg.UAP_IN_GAIN_TARGET n) (was.f (Reg.UAP_IN_GAIN_TARGET n))).gainWriteOp n t
        if cal = was.f (Reg.UAP_CAL_GAIN_GAIN n) then s
        else (s.put (Reg.UAP_CAL_GAIN_GAIN n) (was.f (Reg.UAP_CAL_GAIN_GAIN n))).calGainWrite n cal
      else if s.isInput n then
        (((s.put (Reg.UAP_IN_GAIN_CUR n) (min t (s.maxGain n))).put (Reg.UAP_IN_GAIN_PEND n) 0).put (Reg.UAP_IN_GAIN_COMP n) 0).modIn n (fun _ => {})
      else s
    -- R261: 12,288 ticks of zero, then the ramp
    let s := if g.ins.contains n then s.modIn n (fun x => { x with held := false, waits := true, rampAt := some (s.after 12288), cut := none }) else s
    if was.isOutput n && !s.isOutput n then s.cmFall n
    else if !was.isOutput n && s.isOutput n then (s.putB (rangeNow n) (s.on (rangeReq n))).cmRise n
    else s)
  let s := s.forAll ((List.range 18).filter (fun o => was.isOut o && s.isOut o)) (fun o s =>
    let r := s.on (rangeReq o)
    if r == was.on (rangeReq o) then s else (s.putB (rangeReq o) (!r)).rangeWriteOp o r)
  let s := s.forAll ((List.range 2).filter (fun k => !was.on (Reg.HP_CFG_EN.bit k) && s.on (Reg.HP_CFG_EN.bit k))) (fun k s =>
    s.putB (rangeNow (16 + k)) (s.on (rangeReq (16 + k))))
  if s.on Reg.HP_CFG_EN then s.pumpStart else if was.on Reg.HP_CFG_EN then s.pumpStop else s

/-- Inputs under a supply that is enabled and has not settled are held, and those that no such supply serves any more ramp in (R89); a supply that serves
talkback ports no longer is not cut (R100). -/
def Block.crossHolds (s : Block) : Block :=
  let s := (s.forAll ((List.range 4).filter (fun m => !s.talkSupplies.contains m)) (fun m s => s.put (Reg.MB_STAT_CUT m) 0)).biasFollow
  let s := s.forAll ((List.range 4).filter (fun m => s.on (Reg.MB_CFG_EN m) && !s.biasSettled m)) (fun m s => s.holdBias m)
  let served (n : Nat) : Bool := s.on (Reg.UAP_CFG_MBMAP n) && s.on (Reg.MB_CFG_EN (s.f (Reg.UAP_CFG_MBSEL n)))
  s.rampIn ((List.range 16).filter (fun n => !served n)) s.time.now

/-- Bias supplies, jacks and timers take their new values under their own rules (R89, R316, R339); the control-sense runs end (R357). -/
def Block.crossSense (s was : Block) : Block :=
  let s := s.forAll (List.range 4) (fun m s =>
    let en := s.on (Reg.MB_CFG_EN m)
    let v := s.f (Reg.MB_CFG_VSET m)
    if en == was.on (Reg.MB_CFG_EN m) && v = was.f (Reg.MB_CFG_VSET m) then s
    else ((s.put (Reg.MB_CFG_VSET m) (was.f (Reg.MB_CFG_VSET m))).putB (Reg.MB_CFG_EN m) (was.on (Reg.MB_CFG_EN m))).mbiasEnableOp m en v)
  let s := s.forAll (List.range 8) (fun n s =>
    let en := s.on (Reg.JACK_CFG_EN n)
    if en == was.on (Reg.JACK_CFG_EN n) then s
    else (s.modJack n (fun _ => {})).setJack n (if en then jackPending else jackEmpty))
  let s := s.forAll ((List.range 4).filter (fun t => s.on (Reg.CSC_TMR_EN t) && !was.on (Reg.CSC_TMR_EN t))) (fun t s => s.startTimer t)
  s.cscClear.crossHolds.refFollow

/-- The cells of groups whose configuration changes get roles anew; elsewhere a cell whose failed mark the commit clears takes a recovery slice,
and the slice that runs ends incomplete (R63, R76, R262). -/
def Block.crossCells (s was : Block) (d : Decoded) : Block :=
  let s := s.sliceIncomplete false
  let s := s.forAll (List.range 86) (fun k s => s.modCell k (fun c => { c with excluded := d.excluded.contains k }))
  s.forAll (List.range 18) (fun g s =>
    let s := s.modGrp g (fun x => { x with allowDegraded := d.allowed.contains g })
    let moved := (groupCells g).any (fun k => (s.cell k).excluded != (was.cell k).excluded)
    if s.groupKind g != was.groupKind g || moved then s.assignRoles g
    else
      let back := (groupCells g).filter (fun k => was.on (Reg.CELL_STAT_FAILED k) && !(s.cell k).excluded)
      let s := s.forAll back (fun k s => s.modCell k (fun c => { c with waitRec := true }))
      (s.redegrade g).refreshGroup g)

/-- The serial ports and resampler cross over (R284): a changed channel starts again in ACQUIRE, where its tracker is locked already with 1024 frames of
its own. -/
def Block.crossSerial (s : Block) (o n : Block) (g : Graft) : Block :=
  let s := s.forAll ((List.range 4).filter (sapChanged o n)) (fun p s => s.sapRestart p)
  let s := s.forAll ((List.range 16).filter (srcChanged o n)) (fun c s =>
    let locked : Bool := s.on (Reg.SRC_CFG_EN c) && s.f (Reg.SRC_TRK_STAT_STATE (s.f (Reg.SRC_CFG_SAP c))) == 2
    (((s.modSrc c (fun _ => { acq := if locked then some 0 else none })).put (Reg.SRC_STAT_RAMP c) 0).put (Reg.SRC_STAT_LOCK c) 0).putB
      (Reg.SRC_STAT_MUTE c) (s.on (Reg.SRC_CFG_EN c)))
  s.fadeTaps g (fun _ => some s.fadeIn)

/-- The speaker channels cross over (R301). -/
def Block.crossSpeakers (s : Block) (g : Graft) : Block := s.forAll g.spks (fun c s => s.spkCommit c)

/-- The links, lanes and handshakes follow the new image (R30, R427, R429, R430). -/
def Block.crossLinks (s was : Block) : Block :=
  let s := s.forAll (List.range 4) (fun k s =>
    if s.f (Reg.TRL_LIN_ROUTE k) = was.f (Reg.TRL_LIN_ROUTE k) then s
    else
      let (w, pr) := s.linRoutes k
      let mark (r : Nat × Nat) (s : Block) : Block := s.modPort r.1 (fun x => { x with laneU := Tab.set (fun _ => 0) x.laneU r.2 256 })
      let s := ((s.modProt k (fun _ => {})).put (Reg.TRL_LIN_ACT k) 0).put (Reg.TRL_LIN_EQ k) 0
      if !(s.f (Reg.TRL_LIN_ROUTE k)).testBit 0 then s else (mark w s).forAll pr.toList mark)
  let s := s.forAll ((List.range 32).filter (fun k => s.f (Reg.TRL_BIN_ROUTE k) != was.f (Reg.TRL_BIN_ROUTE k))) (fun k s =>
    (s.modProt (4 + k) (fun _ => {})).put (Reg.TRL_BIN_ACT k) 0)
  let s := s.forAll ((List.range 4).filter (fun p => (s.port p).hsKeep && (s.port p).hsResult != 0xFF)) (fun p s =>
    (s.put (Reg.TRL_RT_PSTAT_HS p) (if (s.port p).hsResult = 0 then 1 else 2)).modPort p (fun x => { x with hsKeep := false }))
  s.linkFollow.refreshEq

/-- The ticks that what starts at C lasts, but for chains that fade in from their first output (R254): fades of cuts, block scarfs and select switches with
those of delays and reverbs asked at C, ramps of gain and mix fields, the crossings of inputs, routes, ranges and crosspoints. The common modes are not
counted (DEDUCED, assumption log 42). -/
def Block.graftLasts (s was : Block) (g : Graft) : Nat :=
  let now := s.time.now
  let p := s.graphPeriod
  let most (l : List Nat) : Nat := l.foldl max 0
  let whenAny (b : Bool) (n : Nat) : Nat := if b then n else 0
  let blocks := (List.range 62).map (fun b =>
    let x := s.blk b
    let due := (x.next.map (fun y => y.2.n)).getD 0
    let asked := whenAny (x.req.isSome || x.pend.isSome) (scarfLen (s.f Reg.GRF_SCARF_CFG_BLEN) + 1)
    let ramps := most ((blockGains b).filterMap (fun y => if was.present b && s.present b && y.2.1 was != y.2.1 s then some y.2.2 else none))
    p * max (max due asked) ramps)
  let cuts := whenAny ((g.blks.any s.present) || !g.taps.isEmpty ||
    (List.range 16).any (fun n => s.isInput n && (s.inp n).calK < 64)) (64 * p)
  let selects := (List.range 196).map (fun k => ((s.sel k).run.map (fun y => y.2.n * p)).getD 0)
  let inputs := (List.range 16).map (fun n =>
    max (whenAny (g.ins.contains n) (2 * rampTicks)) (whenAny (s.on (Reg.UAP_IN_GAIN_COMP n) && (s.inp n).compAt == now) rampTicks))
  let routes := (List.range 24).map (fun o => ((s.dout o).old.map (fun y => if !y.leaving then 3072 else if s.isInput o then 0 else 12288)).getD 0)
  let ranges := (List.range 18).map (fun o =>
    let x := s.out o
    if x.rngAt ≠ now then 0 else if x.rng = 1 then 24640 else if x.rng = 3 then 65 else 0)
  let points := whenAny (s.dir.xps.any (fun x => x.2.rampAt == some (now + ticks 1))) 65
  most (blocks ++ [cuts] ++ selects ++ inputs ++ routes ++ ranges ++ [points])

/-- C (R254 to R262): the configuration switches in one cycle, and every changed element crosses over. A graph that has stopped crosses at once (R251). -/
def Block.graftCommit (s : Block) (d : Decoded) (o n : Block) : Block :=
  let was := s
  let g := s.img.graft
  let s := (s.forAll ((List.range 86).filter s.present) (fun b s => s.holdGains b)).dropPending
  let s := ((s.bstNewImage.exchange.graftRegs true d).computeFields).modGraph (fun x => { x with late := [] })
  let s := s.put Reg.GRF_SCARF_STAT_FREEZE 0
  let s := (s.crossCells was d).renewBanks
  let s := (s.crossBlocks was d g).crossSelects
  let s := s.forAll ((List.range 16).filter (ringChanged o n)) (fun t s =>
    ((s.put (Reg.GRF_RING_WR_WR t) 0).put (Reg.GRF_RING_RD_RD t) 0).modGraph (fun x => { x with fill := Tab.set (fun _ => 0) x.fill t 0 }))
  let s := s.onlyIf (!s.audioOn) (fun s => s.stopGraph)
  let s := ((s.crossDirect was g).crossChains was g).crossPorts was g
  let s := (((s.crossSerial o n g).crossSense was).crossLinks was).crossSpeakers g
  let s := if s.ports.shut then s.clocheCut else s
  let s := (s.setInfo d).follow.publish
  (s.setPhase 5).modGraft (fun _ => { g with at' := s.time.now, ends := s.time.now + (if s.audioOn then ticks (s.graftLasts was g) else 0) })

/-- The tick of C has come (R254, R257): 64 graph samples after F. -/
def Block.commitDue (s : Block) : Bool := s.graftPhase == 3 && s.reached (s.img.graft.at' + ticks (64 * s.graphPeriod))

/-- What happens at C (R254, R255). A cloche that has shut since admission still refuses a graft that would clear a talkback mark (R102). -/
def Block.graftAtC (s : Block) : Block :=
  match s.commitDue, s.img.active, s.img.shadow with
  | true, some old, some new =>
    let n := imageBlock new
    match (if s.ports.shut then (List.range 16).find? (fun k => s.on (Reg.UAP_CFG_TALK k) && !n.on (Reg.UAP_CFG_TALK k)) else none) with
    | some k => (s.imgError 0x42 0 k).imgLedger.abandonGraft
    | none => s.graftCommit new (imageBlock old) n
  | _, _, _ => s

/-- GRAFT_SWITCH (R254): tick 0 of the frame at C. -/
def Block.graftSwitchOp (s : Block) : Block := if s.time.tick = 0 then s.graftAtC else s

/-- ABORT (R257, R263). -/
def Block.abortOp (s : Block) : Block :=
  if s.graftPhase = 0 then s else if s.graftPhase < 4 && !s.commitDue then s.abandonGraft else s.raise Reg.IMG_EVT_LATE

/-- A fade in has ended. -/
def Block.fadeDone (s : Block) (f : Option Fade) (fine : Bool) : Bool :=
  match f with
  | none => true
  | some x => x.up && s.fadeWeight x fine == 64

/-- Every crossing that started at C has ended (R254): the ticks it lasts are over, and the changed chains have faded in. -/
def Block.graftSettled (s : Block) : Bool :=
  let g := s.img.graft
  s.reached g.ends &&
  (!s.audioOn ||
    (g.decs.all (fun k => !s.chainRuns (.dec k) || s.fadeDone (s.chain (.dec k)).cut false) &&
     g.ints.all (fun k => !s.chainRuns (.int k) || s.fadeDone (s.chain (.int k)).cut true)))

/-- GRAFT_SETTLE_END (R254): E, the end of the last crossing. -/
def Block.graftSettleEndOp (s : Block) : Block :=
  if s.graftPhase != 5 || !s.graftSettled then s else
  let g := s.img.graft
  let s := s.forAll (g.decs.map ChainId.dec ++ g.ints.map ChainId.int) (fun c s => s.modChain c (fun x => { x with cut := none }))
  let s := { s with sap := { s.sap with fades := s.sap.fades.filter (fun p => !g.taps.contains p.1) } }
  s.graftOver

/-! ## The commands -/

/-- COMMIT (R254). -/
def execCommit (s : State) : Host.Outcome State Fault Refusal := s.hostWrite true (fun b => b.commitOp)

/-- GRAFT_FREEZE_END (R254). -/
def execGraftFreezeEnd (s : State) : Host.Outcome State Fault Refusal := s.act true (fun b => b.graftFreezeEndOp)

/-- GRAFT_SWITCH (R254). -/
def execGraftSwitch (s : State) : Host.Outcome State Fault Refusal := s.act true (fun b => b.graftSwitchOp)

/-- GRAFT_SETTLE_END (R254). -/
def execGraftSettleEnd (s : State) : Host.Outcome State Fault Refusal := s.act true (fun b => b.graftSettleEndOp)

/-- ABORT (R257). -/
def execAbort (s : State) : Host.Outcome State Fault Refusal := s.hostWrite true (fun b => b.abortOp)

end Sys2Proof.Machine
end

