-- ==== Sys2Proof/Machine/Listen.lean ====
section
/-! DEFINITION. The Listen path (R536 to R541): the Listen cell and its decimator, the pre-roll ring and its header, the onset detector's blocks, and
the handover to the port's chain. -/

namespace Sys2Proof.Machine

/-- Rewrite the Listen path's record. -/
def Block.modLsn (s : Block) (h : Listen → Listen) : Block := { s with lsn := h s.lsn }

/-- PWR_LSN_STAT.STATE codes: idle, pre-roll, waking, handover, tail, STOPPED (R547). -/
def lsnIdle : Nat := 0
/-- Pre-roll. -/
def lsnPre : Nat := 1
/-- Waking. -/
def lsnWaking : Nat := 2
/-- Handover. -/
def lsnHandover : Nat := 3
/-- Tail. -/
def lsnTail : Nat := 4
/-- STOPPED. -/
def lsnStopped : Nat := 5

/-- PWR_LSN_STAT.STATE. -/
def Block.lsnState (s : Block) : Nat := s.f Reg.PWR_LSN_STAT_STATE

/-- The Listen port. -/
def Block.lsnPort (s : Block) : Nat := s.f Reg.PWR_LSN_CFG_PORT

/-- Byte offset of the ring in the audio SRAM (R538). -/
def Block.lsnBase (s : Block) : Nat := (s.partition 4).1

/-- An index field: 0xFFFF_FFFF where it does not yet apply (R538). -/
def idxWord (x : Option Nat) : Word :=
  match x with
  | some v => BitVec.ofNat 32 v
  | none => 0xFFFFFFFF

/-- The header of the ring (R538). -/
def Block.lsnHeader (s : Block) : List Word :=
  let x := s.lsn
  [BitVec.ofNat 32 (0x5052 * 2 ^ 16 + s.lsnState), BitVec.ofNat 32 x.wr, BitVec.ofNat 32 (s.f Reg.PWR_LSN_RING_LEN), idxWord x.onset, idxWord x.clk,
   idxWord x.settled, idxWord x.handoff, idxWord x.sframe, BitVec.ofNat 32 (x.rdev.getD 0x8000), 0, 0, 0]

/-- Write the header, where the image has a ring. -/
def Block.lsnShow (s : Block) : Block :=
  if s.f Reg.PWR_LSN_RING_LEN = 0 then s
  else s.lsnHeader.zipIdx.foldl (fun s p => s.sramWrite (s.lsnBase + 4 * p.2) p.1) s

/-- Enter a state of the Listen path. -/
def Block.setLsn (s : Block) (st : Nat) : Block := s.put Reg.PWR_LSN_STAT_STATE st

/-- Write ring sample x, a half-word (R538). -/
def Block.ringPut (s : Block) (x : Nat) (v : BitVec 16) : Block :=
  let n := s.f Reg.PWR_LSN_RING_LEN
  if n = 0 then s else
  let o := s.lsnBase + 48 + 4 * (x % n / 2)
  let w := s.mem.sram.readWord o
  s.sramWrite o (setBits w (if x % 2 = 0 then 16 else 0) 16 v.toNat)

/-- The Listen cell of a port: the spare of its group, or the cell of slot 0 in a degraded group (R536). -/
def Block.listenCell (s : Block) (n : Nat) : Option Nat :=
  match s.spare n with
  | some k => some k
  | none => (groupCells n).find? (fun k => s.role k == roleIn && s.f (Reg.CELL_CFG_SLOT k) == 0)

/-- A new ring starts at index 0, its detector with it (R539). -/
def Block.startListen (s : Block) : Block :=
  let s := s.modLsn (fun x => { running := true, rdev := x.rdev })
  ((s.setLsn lsnPre).put Reg.PWR_LSN_STAT_CELL ((s.listenCell s.lsnPort).getD 0x7F)).lsnShow

/-- The Listen cell goes back to its group: SPARE, or slot 0 where no other cell has that slot (R540). -/
def Block.freeListenCell (s : Block) : Block :=
  let k := s.f Reg.PWR_LSN_STAT_CELL
  if 86 ≤ k then s else
  let g := s.lsnPort
  let s := s.put Reg.PWR_LSN_STAT_CELL 0x7F
  if s.role k != roleOff then s
  else if (groupCells g).any (fun j => s.role j == roleIn && s.f (Reg.CELL_CFG_SLOT j) == 0) then
    (if (s.spare g).isSome then s else s.setRole k roleSpare (((s.nextLeaving g).map s.slotOf).getD 0)).refreshGroup g
  else (s.setRole k roleIn 0).refreshGroup g

/-- The ring stops (R540). -/
def Block.stopListen (s : Block) (st : Nat) : Block :=
  let s := s.freeListenCell
  ((s.modLsn (fun x => { x with running := false, preroll := false })).setLsn st).lsnShow

/-- The cell's clock source has changed (R538, R539). -/
def Block.lsnClock (s : Block) : Block :=
  if s.lsn.running then (s.modLsn (fun x => { x with clk := some x.wr })).lsnShow else s

/-- The roles of the Listen port's group at the common sync: the other cells take the IN roles (R540). -/
def Block.lsnRoles (s : Block) : Block :=
  let k := s.f Reg.PWR_LSN_STAT_CELL
  let g := s.lsnPort
  let others := (groupCells g).filter (fun j => j != k && s.working j)
  let s := s.forAll (groupCells g) (fun j s => s.setRole j roleOff 0)
  (s.forAll (others.zip (s.groupKind g).roles) (fun p s => s.setRole p.1 p.2.1 p.2.2)).refreshGroup g

/-- A sum of products with a fixed filter over a history, newest first. -/
def firSum (filter : Nat) (h : List Rat) : Rat := h.zipIdx.foldl (fun a p => a + Config.firCoef filter 0 p.2 * p.1) 0

/-- A number as Q1.15: rounded, ties towards plus infinity, saturated (R536). -/
def toQ15 (r : Rat) : BitVec 16 := BitVec.ofInt 16 (satInt 16 (ratRound (r * 2 ^ 15)))

/-- The value of a Q1.15 sample. -/
def q15Value (v : BitVec 16) : Rat := (v.toInt : Rat) / 2 ^ 15

/-- One sample of a band-pass of the detector (R537). -/
def BandSt.step (b : BandSt) (band : Nat) (x : Rat) : BandSt :=
  let c (i : Nat) : Rat := Config.firCoef (8 + band) 0 i
  let y := c 0 * x + b.z1
  { b with z1 := c 1 * x - c 3 * y + b.z2, z2 := c 2 * x - c 4 * y, sum := b.sum + y * y }

/-- The detector takes a sample (R537). -/
def Block.detect (s : Block) (x : Rat) : Block :=
  s.modLsn (fun l => { l with
    energy := l.energy + x * x, count := l.count + 1,
    bands := (List.range 6).foldl (fun t b => Tab.upd (fun _ => {}) t b (fun y => y.step b x)) l.bands })

/-- The Listen port is cut by the cloche (R541). -/
def Block.lsnCut (s : Block) : Bool := s.ports.shut && s.on (Reg.UAP_CFG_TALK s.lsnPort)

/-- The onset detector works: in the pre-roll state, and in the slow-clock period in which a request has begun the wake (R537, R541). -/
def Block.lsnHears (s : Block) : Bool :=
  s.lsnState == lsnPre || (s.lsnState == lsnWaking && s.lsn.want.isSome && s.pwr.wakeSlow == some s.time.slowCount)

/-- LISTEN_SAMPLE (R536, R538, R540, R541): the decimator's result, the chain path, or in the handover both, enters the ring. -/
def Block.listenSampleOp (s : Block) (codes : List CellCode) : Block :=
  if !s.lsn.running then s
  else if s.lsnCut then (if s.lsnHears then s.detect 0 else s)
  else
    let k := s.f Reg.PWR_LSN_STAT_CELL
    let s := s.modLsn (fun l => { l with hist := (codes.reverse ++ l.hist).take 256 })
    let own : Rat := firSum 1 (s.lsn.hist.map (fun c => (s.correct k c : Rat) / 2 ^ 30))
    let path : Rat := firSum 2 (s.lsn.chain.map (fun x => (x.int : Rat) / 2 ^ 23))
    -- the handover begins once the chain delivers outputs without U
    let begin' : Bool := s.lsnState = lsnWaking && s.base != modeListen && !s.lsn.chain.isEmpty && !s.on (Reg.CHAIN_DSTAT_UNSET s.lsnPort)
    let s := if begin' then (s.modLsn (fun l => { l with settled := some l.wr, sframe := some (s.f Reg.PWR_FRAME_FRAME), preroll := false })).setLsn lsnHandover
      else s
    let v : Rat := if s.lsnState = lsnHandover then
        let n : Rat := min 64 (s.lsn.wr - s.lsn.settled.getD 0 : Nat)
        (own * (64 - n) + path * n) / 64
      else if s.lsnState = lsnTail then path
      else own
    let y : BitVec 16 := if s.zhold s.lsnPort then 0 else toQ15 v
    let s := (s.ringPut s.lsn.wr y).modLsn (fun l => { l with wr := (l.wr + 1) % 2 ^ 32, tail := l.tail - 1 })
    (s.onlyIf s.lsnHears (fun s => s.detect (q15Value y))).lsnShow

/-- A mean square in dBFS, with its floor (R537). -/
def levelOf (sum : Rat) : Rat := if sum = 0 then -180 else max (-180) (dbQ (sum / 128))

/-- A block of 128 samples is judged (R537): whether the detector fires, and the state for the next block. The first block only sets the levels. -/
def Block.judgeBlock (s : Block) : Bool × Block :=
  let l := s.lsn
  let new (b : Nat) : Rat := levelOf (Tab.get (fun _ => ({} : BandSt)) l.bands b).sum
  let flux : Rat := (List.range 6).foldl (fun a b => a + max 0 (new b - (Tab.get (fun _ => ({} : BandSt)) l.bands b).level)) 0
  let fires : Bool := l.blocks != 0 && decide (-(s.f Reg.PWR_LSN_CFG_ETHR : Rat) ≤ levelOf l.energy) && decide ((s.f Reg.PWR_LSN_CFG_FTHR : Rat) / 4 ≤ flux)
  (fires, s.modLsn (fun l => { l with
    energy := 0, count := 0, blocks := l.blocks + 1,
    bands := (List.range 6).foldl (fun t b => Tab.upd (fun _ => {}) t b (fun y => { y with sum := 0, level := new b })) l.bands }))

/-- HANDOFF (R540): the scarf of 64 samples has ended; the Listen cell is SPARE, and the ring goes on for its tail. -/
def Block.handoffOp (s : Block) : Block :=
  match s.lsn.settled with
  | none => s
  | some t =>
    if s.lsnState != lsnHandover || s.lsn.wr < t + 64 then s else
    let s := s.freeListenCell
    let s := (s.modLsn (fun l => { l with handoff := some (t + 64), tail := s.f Reg.PWR_LSN_RING_TAIL - (l.wr - (t + 64)) })).setLsn lsnTail
    (s.raise Reg.PWR_EVT_HANDOFF).lsnShow

/-- LSNEND (R540): the tail is over. -/
def Block.lsnEndOp (s : Block) : Block :=
  if s.lsnState = lsnTail && s.lsn.tail = 0 then (s.stopListen lsnStopped).raise Reg.PWR_EVT_LSNEND else s

/-- RINGSTOP (R540): the ring stops at once. -/
def Block.ringstopOp (s : Block) : Block :=
  if s.lsn.running then (s.stopListen lsnStopped).raise Reg.PWR_EVT_LSNEND else s

/-! ## The commands -/

/-- LISTEN_SAMPLE (R536). -/
def execListenSample (codes : List CellCode) (s : State) : Host.Outcome State Fault Refusal :=
  s.act (codes.length = 48) (fun b => b.listenSampleOp codes)

/-- HANDOFF (R540). -/
def execHandoff (s : State) : Host.Outcome State Fault Refusal := s.act true (fun b => b.handoffOp)

/-- LSNEND (R540). -/
def execLsnend (s : State) : Host.Outcome State Fault Refusal := s.act true (fun b => b.lsnEndOp)

/-- RINGSTOP (R540). -/
def execRingstop (s : State) : Host.Outcome State Fault Refusal := s.hostWrite true (fun b => b.ringstopOp)

end Sys2Proof.Machine
end

