-- ==== Sys2Proof/Machine/Modes.lean ====
section
/-! DEFINITION. The operating modes (R524 to R535): requests and entries, wakes, SAFE (R34, R528, R564), the activation of an image (R496, R605), and
the resets (R542 to R546). -/

namespace Sys2Proof.Machine

/-- Rewrite the record of modes and resets. -/
def Block.modPwr (s : Block) (h : Pwr → Pwr) : Block := { s with pwr := h s.pwr }

/-- An entry is over: TRANS reads 0, and TARGET, which names a target until then, reads 0 again (R527). -/
def Block.entryEnd (s : Block) : Block := (s.put Reg.PWR_MODE_TRANS 0).put Reg.PWR_MODE_TARGET 0

/-- Take a base mode: BASE changes, and the entry is over (R527). Outside READY, PLAY and RELAY the background self-test stops (R549). -/
def Block.setBase (s : Block) (m : Nat) : Block :=
  ((s.bstCut (fun _ => m != modeReady && m != modePlay && m != modeRelay) true).entryEnd.put Reg.PWR_MODE_BASE m).raise Reg.PWR_EVT_MODE

/-- TRANS reads 1. -/
def Block.inEntry (s : Block) : Bool := s.on Reg.PWR_MODE_TRANS

/-- A mode whose core clock is stopped or on the ring oscillator alone, and that a wake leaves. -/
def sleepMode (m : Nat) : Bool := m == modeDormant || m == modeRest || m == modeListen

/-! ## READY and PLAY -/

/-- READY is entered (R526, R535), the first time after an image load with a self-test cycle (R550): at once on to PLAY where AUTOPLAY asks and the host has not requested READY. -/
def Block.enterReady (s : Block) (requested : Bool) : Block :=
  let s := ((s.setBase modeReady).modPwr (fun p => { p with tsDue := true })).modNet (fun n => { n with rootSeenUp := false })
  let s := if s.bst.cycleAt.isNone then s.modBst (fun x => { x with cycleAt := some s.time.now }) else s
  let s := if !requested && s.on Reg.PWR_CFG_AUTOPLAY then s.setBase modePlay else s
  s.biasFollow.refFollow.follow

/-- Every output becomes one again, and the headphone pump starts (R92, R325, R533). -/
def Block.riseOutputs (s : Block) : Block := s.cmRiseAll.pumpStart

/-- The verified image is activated (R496): common sync, READY. -/
def Block.activateNow (s : Block) (d : Decoded) : Block := (((s.activateImage d).riseOutputs).enterReady false).publish

/-- An accepted LOAD is carried out in the LOAD mode once the image's clock plan runs (R367, R605); a cloche that has shut since its admission still
refuses an image that would clear a talkback mark (R102). -/
def Block.tryActivate (s : Block) : Block :=
  match s.img.shadow with
  | some d =>
    if s.img.activate && s.base = modeLoad && !s.inEntry && s.planReady s.regs then
      match s.graftChecks (s.candidate false d) false d with
      | some (code, detail) => ((s.modImg (fun m => { m with activate := false })).imgError code 0 detail).imgLedger
      | none => s.activateNow d
    else s
  | none => s

/-! ## Entries (R527) -/

/-- The conditions of R528 under which SAFE may be left for READY. -/
def Block.safeLeaves (s : Block) : Bool :=
  s.img.active.isSome && !s.on Reg.PWR_SAFE_RAILNOW && !s.on Reg.PWR_SAFE_OTEMPNOW && !s.on Reg.SYS_WDOG_STAT_EXP

/-- An entry begins: slices end, and the actions of its row that take time start (R527). -/
def Block.startEntry (s : Block) (m : Nat) : Block :=
  let s := ((s.put Reg.PWR_MODE_TRANS 1).put Reg.PWR_MODE_TARGET m).modPwr (fun p => { p with entryAt := s.time.now })
  let s := s.sliceIncomplete false
  let s := if sleepMode m || m = modeLoad then
      (s.dmaAbortAll.cscStop).forAll ((List.range 16).filter (fun n => s.f (Reg.UAP_STAT_CM n) != 0)) (fun n s => s.cmFall n)
    else s
  let s := if m = modeListen then s.startListen else if m = modeReady then s else if s.lsn.running then s.stopListen lsnStopped else s
  s.follow

/-- The core cycle at which a headphone side is at zero scale. -/
def Block.hpZeroAt (s : Block) (side : Nat) : Nat := (s.out (16 + side)).at' + (if s.outWeight (16 + side) = 0 then 0 else ticks (s.out (16 + side)).w0)

/-- Every action of the entry that runs has ended (R527). -/
def Block.entryOver (s : Block) : Bool :=
  let m := s.f Reg.PWR_MODE_TARGET
  (List.range 18).all (fun o => s.outWeight o == 0) &&
  (List.range 2).all (fun c => s.spkState c == spkOff || s.spkState c == spkBackoff || s.spkState c == spkLocked) &&
  (!(sleepMode m || m = modeLoad) ||
    ((List.range 16).all (fun n => s.f (Reg.UAP_STAT_CM n) == 0) &&
     (s.ports.pumpAt.isNone || s.reached (s.pwr.entryAt + ticks 12288 + (if s.pwr.entryAt < s.hpZeroAt 0 || s.pwr.entryAt < s.hpZeroAt 1 then ticks 12288 else 0)))))

/-- The Trellis ports stop (R527). -/
def Block.linksStop (s : Block) : Block :=
  s.forAll (List.range 4) (fun p s =>
    ((s.enterLink p linkOff).put (Reg.TRL_LSTAT_LIVE p) 0).modPort p (fun x =>
      { x with wasUp := false, peerRho := none, peerDomain := false, queue := [], txCur := none }))

/-- The graph, converters and control-sense converter stop (R251, R356, R527). -/
def Block.audioStop (s : Block) : Block :=
  let s := s.stopGraph.cscStop
  { s with chains := { s.chains with chains := [] }, dir := { s.dir with inputs := [] } }

/-- The core clock stops, the point of no return (R527). -/
def Block.coreStop (s : Block) (m : Nat) : Block :=
  let s := ((s.linksStop.pllStop).put Reg.CLK_STAT_RING (if m = modeListen then 1 else 0)).setBase m
  -- the XTI oscillator stops, unless XTKEEP keeps it running in LISTEN (R533)
  let s := s.onlyIf (m != modeListen || !s.on Reg.PWR_CFG_XTKEEP) (fun s => s.put Reg.CLK_STAT_XTOK 0)
  s.biasFollow.refFollow.lsnClock

/-- A converter, chain and graph restart with the common sync (R120, R527). -/
def Block.audioStart (s : Block) : Block :=
  let s := s.resumeGraph
  { s with chains := { s.chains with syncDue := true } }

/-- MODE_ENTRY_DONE (R527): the last action has ended. -/
def Block.entryDoneOp (s : Block) : Block :=
  if !s.inEntry || !s.entryOver then s else
  let m := s.f Reg.PWR_MODE_TARGET
  if m = modeReady then (if s.base = modeRelay then s.audioStart else s).enterReady true
  else if m = modeRelay then (s.audioStop.setBase m).biasFollow.refFollow
  else if sleepMode m then (s.audioStop.pumpStop).coreStop m
  else if m = modeService then ((s.audioStop.setBase m).biasFollow).refFollow
  else
    let s := ((s.audioStop.pumpStop).setBase modeLoad).biasFollow.refFollow
    match s.img.shadow with
    | some d => (s.onlyIf (s.img.activate && !s.samePlan d) (fun s => s.startPlan d)).tryActivate
    | none => s

/-! ## Wakes (R528, R531 to R533) -/

/-- The class V reset of a wake (R533): the live status of rails, cloche and base mode stays (R528). -/
def Block.wakeReset (s : Block) : Block :=
  let was := s
  let s := s.resetRegs .sync (fun a => a != Reg.PWR_MODE && a != Reg.PWR_RAIL && a != Reg.PWR_SAFE && a != Reg.CLOCHE_STAT)
  let s := s.forAll (List.range 16) (fun n s => s.putB (Reg.UAP_STAT_CLOCHED n) (was.on (Reg.UAP_STAT_CLOCHED n)))
  s.forAll (List.range 4) (fun m s => s.putB (Reg.MB_STAT_CUT m) (was.on (Reg.MB_STAT_CUT m)))

/-- The engines whose class V fields a wake has reset start as after an image load (R533): ranges, jacks, Direct, speakers, the control-sense converter,
serial ports and the Trellis. -/
def Block.wakeEngines (s : Block) : Block :=
  let s := s.forAll (List.range 18) (fun o s => s.putB (rangeNow o) (s.on (rangeReq o)))
  let s := { s with ports := { s.ports with jacks := [] }, sap := {} }
  let s := s.forAll ((List.range 8).filter (fun n => s.on (Reg.JACK_CFG_EN n))) (fun n s => s.setJack n jackPending)
  let s := s.forAll (List.range 4) (fun p s => s.sapRestart p)
  let s := s.modNet (fun n => { ports := Tab.mapAll (fun _ => {}) n.ports (fun _ p => { signal := p.signal }), answers := n.answers })
  s.startDirect.startSense.freshRoutes

/-- A wake from REST or LISTEN begins (R533): class V resets, roles, PLL, links, and the clear of the banks that were not kept. -/
def Block.wakeCore (s : Block) : Block :=
  if s.pwr.waking then s else
  let listen : Bool := s.base = modeListen
  let s := s.wakeReset.entryEnd.modPwr (fun p => { p with waking := true })
  -- a supply that runs in LISTEN runs on, its port with it (R606); what the cloche holds stays held (R528)
  let ins := Tab.mapAll (fun _ => {}) s.ports.ins (fun n x =>
    if listen && n = s.lsnPort then x else { held := x.held, waits := x.waits, rampAt := x.rampAt })
  let s := { s with ports := { s.ports with ins := ins, outs := [], pumpAt := none, cpokAt := none, hpOn := 0 } }
  let s := s.forAll ((List.range 18).filter (fun g => !(listen && g = s.lsnPort))) (fun g s => s.assignRoles g)
  let s := s.wakeEngines
  let s := (s.put Reg.CLK_STAT_RING 1).pllWanted.linkFollow
  let s := s.beginClear (fun k => !s.on (Reg.MEM_RET_BANKS.bit k) && !(listen && k = 0))
  if listen && s.lsn.running then (s.setLsn lsnWaking).lsnShow else s

/-- Registers of the progress records, which survive a PIN reset (R469, R501, R565). -/
def isProgress (a : Nat) : Bool :=
  [Reg.IMG_PROG0, Reg.IMG_PROG1, Reg.XSPI_WPROG0, Reg.XSPI_WPROG1, Reg.TRL_RA_PROG, Reg.BST_PROG, Reg.BST_PROG1].contains a ||
  (List.range 16).any (fun c => a == Reg.DMA_CH_PROG0 c || a == Reg.DMA_CH_PROG1 c) || (List.range 86).any (fun b => a == Reg.GRF_BLK_PROG b || a == Reg.CELL_SLICE b)

/-- Everything outside registers after a POR or PIN reset: what the always-on domain, the OTP, the pins and the audio SRAM keep. -/
def Block.afterReset (s : Block) (por : Bool) : Block :=
  let keep : Time := if por then { slowLeft := s.time.slowLeft, slowCount := s.time.slowCount }
    else { s.time with frameDue := true, graphDue := true }
  { regs := s.regs, freeK := s.freeK, time := keep, core := false,
    host := { irqLow := s.host.irqLow },
    ledger := if por then {} else s.ledger,
    cells := if por then {} else { cells := Tab.mapAll (fun _ => {}) s.cells.cells (fun _ c => { trims := c.trims, passed := c.passed }) },
    ports := { shut := s.ports.shut },
    net := { ports := Tab.mapAll (fun _ => {}) s.net.ports (fun _ p => { signal := p.signal }) },
    mem := if por then {} else { sram := s.mem.sram, upsets := s.mem.upsets.filter (fun p => sramBase ≤ p.1 && p.1 < sramBase + sramSize) },
    clk := { x32off := !por && s.clk.x32off },
    otp := { s.otp with lc := s.otp.next, lcJob := none, job := none },
    bst := { scan := !por && s.bst.scan } }

/-- The status of pins and rails that a reset does not change, and what a shut cloche shows (R103). -/
def Block.liveAgain (s was : Block) : Block :=
  let s := (s.put Reg.PWR_RAIL_OK (was.f Reg.PWR_RAIL_OK)).put Reg.PWR_SAFE_OTEMPNOW (was.f Reg.PWR_SAFE_OTEMPNOW)
  s.putB Reg.CLOCHE_STAT_SHUT was.ports.shut

/-- Codes of PWR_RST.SRC (R547). -/
def resetSource : PinCause → Nat
  | .resetN => 1
  | .rstkey => 2
  | .rail => 3
  | .dormantWake => 4

/-- A PIN reset (R544 to R546). Its OTP load begins at once, but for RESET_N and rails, which hold the core. -/
def Block.pinResetOp (s : Block) (cause : PinCause) : Block :=
  if s.base = modeOff then s else
  let n := s.f Reg.PWR_RST_PINCNT
  let t := { s with regs := Tab.mapAll resetWord s.regs (fun a w => resetKeep (if isProgress a then .sync else .pin) a w) }
  let t := (t.afterReset false).liveAgain s
  let t := if s.base = modeDormant then t.modMem (fun _ => {}) else t
  let t := ((t.put Reg.PWR_RST_KIND 1).put Reg.PWR_RST_SRC (resetSource cause)).put Reg.PWR_RST_PINCNT (min 0xFFFF (n + 1))
  match cause with
  | .resetN | .rail => t
  | _ => t.modPwr (fun p => { p with loadAt := some t.time.now })

/-- POR (R544): every field, the always-on timer and the ledger; the audio SRAM's contents are gone. -/
def Block.porOp (s : Block) : Block := ({ s.afterReset true with regs := [] }).putB Reg.CLOCHE_STAT_SHUT s.ports.shut

/-- Every rail is in range, PVDD counting only while the image enables a speaker (R542). -/
def Block.railsGood (s : Block) : Bool :=
  (List.range 8).all (fun r => s.on (Reg.PWR_RAIL_OK.bit r) || (r == 7 && !(List.range 2).any (fun c => s.on (Reg.SPK_CFG_EN c))))

/-- A wake from DORMANT, REST or LISTEN takes place (R532, R533); it waits until every rail is in range (R542). -/
def Block.wakeNow (s : Block) : Block :=
  if !s.railsGood then s.modPwr (fun p => { p with wakeHeld := true })
  else
    let s := s.modPwr (fun p => { p with wakeHeld := false })
    if s.base = modeDormant then (s.pinResetOp .dormantWake).modPwr (fun p => { p with wakeSlow := s.pwr.wakeSlow }) else s.wakeCore

/-- A wake source fires (R528, R531 to R533): bits of PWR_WAKE for the enabled sources of the mode; those of one slow-clock period join. -/
def Block.wake (s : Block) (bit : Nat) : Block :=
  if !s.on (Reg.PWR_WAKE_EN_EN.bit bit) then s else
  let m := s.base
  let here (m : Nat) : Bool := if bit = 4 then m == modeRest else if bit = 5 then m == modeListen else sleepMode m
  let record (s : Block) : Block :=
    let s := if s.pwr.wakeSlow = some s.time.slowCount then s else s.put Reg.PWR_WAKE_CAUSE 0
    (s.raise (Reg.PWR_WAKE_CAUSE.bit bit)).modPwr (fun p => { p with wakeSlow := some s.time.slowCount })
  if s.pwr.waking || s.pwr.wakeHeld || (s.pwr.wakeSlow = some s.time.slowCount && !sleepMode m && !s.inEntry) then
    -- a source that fires in the slow-clock period of the wake
    (if s.pwr.wakeSlow = some s.time.slowCount then record s else s)
  else if s.inEntry && sleepMode (s.f Reg.PWR_MODE_TARGET) && !sleepMode m && bit < 4 then
    -- before the point of no return the entry is abandoned; without an image the device stays in LOAD
    let s := ((record s).raise Reg.PWR_EVT_ENTRYX)
    let s := if s.lsn.running then s.stopListen lsnIdle else s
    if s.img.active.isNone then s.entryEnd else ((s.setBase modeReady).riseOutputs).enterReady true
  else if !here m then s
  else ((record s).onlyIf s.inEntry (fun s => s.raise Reg.PWR_EVT_ENTRYX)).wakeNow

/-- WAKE_READY (R533): the clear has ended and the PLL is LOCKED. -/
def Block.wakeReadyOp (s : Block) : Block :=
  if !s.pwr.waking || s.mem.clearing.isSome || s.pll < 2 || !s.gridReady then s else
  let want := s.lsn.want
  let s := (s.modPwr (fun p => { p with waking := false })).modLsn (fun l => { l with want := none })
  let s := if s.lsn.running && s.lsnState = lsnWaking then s.lsnRoles else s
  let s := s.audioStart.riseOutputs
  let s := if s.ports.shut then s.clocheCut else s
  match want with
  | some m => if m = modePlay then (s.enterReady true).setBase modePlay |>.follow else s.enterReady true
  | none =>
    let s := s.enterReady false
    (if s.base = modeReady && s.on Reg.PWR_CFG_WTGT then s.setBase modePlay else s).follow

/-- ONSET_BLOCK (R537, R541): a block has ended; where the detector fires in LISTEN, the device wakes. -/
def Block.onsetBlockOp (s : Block) : Block :=
  if s.lsn.count < 128 then s else
  let (fires, s) := s.judgeBlock
  if !fires || !s.lsnHears || s.lsn.onset.isSome then s
  else ((s.modLsn (fun l => { l with onset := some (l.wr - 128) })).lsnShow).wake 5

/-- AON_TIMER_MATCH (R534). -/
def Block.aonMatchOp (s : Block) : Block :=
  if s.time.aont = s.f Reg.PWR_AONT_CMP_LO_CMP + 2 ^ 32 * s.f Reg.PWR_AONT_CMP_HI_CMP then (s.raise Reg.PWR_EVT_TIMER).wake 3 else s

/-- JACK_SAMPLE (R313, R531): a changed reading may wake the device. -/
def Block.jackPinOp (s : Block) (n : Nat) (below : Bool) : Block :=
  let w := s.jackWakes n below
  (s.jackSampleOp n below).onlyIf w (fun s => s.wake 1)

/-! ## Requests (R526) -/

/-- The targets that a mode accepts (R526). -/
def modeTargets (m : Nat) : List Nat :=
  if m = modeLoad then [modeDormant]
  else if m = modeReady then [modePlay, modeRest, modeDormant, modeListen, modeRelay, modeService]
  else if m = modePlay then [modeReady, modeRest, modeDormant, modeListen, modeRelay, modeService]
  else if m = modeRelay then [modeReady, modeRest, modeDormant]
  else if m = modeListen then [modeReady, modePlay, modeRest, modeDormant]
  else if m = modeSafe then [modeReady]
  else []

/-- Whether the device takes a request it knows (R526, R528, R560). -/
def Block.takesRequest (s : Block) (m : Nat) : Bool :=
  (modeTargets s.base).contains m && (s.base != modeSafe || s.safeLeaves) &&
  (m != modeService || s.otp.lc == lcDevelop || s.otp.lc == lcReturn) &&
  (m != modeListen || (s.isInput s.lsnPort && s.f Reg.PWR_LSN_RING_LEN != 0))

/-- A request for READY or PLAY in LISTEN begins the wake, or meets one under way: the device ends in the mode requested (R533). No source of
R531 has woken it: PWR_WAKE shows those that fire in the same slow-clock period (R541). -/
def Block.listenRequest (s : Block) (m : Nat) : Block :=
  let s := s.modLsn (fun l => { l with want := some m })
  if s.pwr.waking || s.pwr.wakeHeld then s
  else ((s.put Reg.PWR_WAKE_CAUSE 0).modPwr (fun p => { p with wakeSlow := some s.time.slowCount })).wakeNow

/-- MODE_REQUEST (R526, R528, R533). A request for REST or DORMANT ends a wake from LISTEN. -/
def Block.modeRequestOp (s : Block) (m : Nat) : Block :=
  let s := s.put Reg.PWR_CTRL_REQ m
  let loading : Bool := s.imgBusy || s.img.proving.isSome || s.img.admitWait.isSome
  if s.inEntry || loading then s.raise Reg.PWR_EVT_REQBUSY
  else if m = modeListen && (s.lsnState = lsnWaking || s.lsnState = lsnHandover) then s.raise Reg.PWR_EVT_REQBUSY
  else if !s.takesRequest m then s.raise Reg.PWR_EVT_REQERR
  else if s.base = modeListen && (m = modeReady || m = modePlay) then s.listenRequest m
  else if s.base = modeSafe then s.enterReady true
  else if m = modePlay then (s.setBase modePlay).follow
  else (s.modPwr (fun p => { p with waking := false, wakeHeld := false })).startEntry m

/-! ## SAFE (R34, R527, R564) -/

/-- The entries of R564 for engines with work in flight. -/
def Block.inFlight (s : Block) : Block :=
  let s := s.forAll ((List.range 16).filter (fun c => s.dmaState c != dmaIdle)) (fun c s =>
    s.newEntry 0x7F 11 c 0 [s.word (Reg.DMA_CH_PROG0 c), s.word (Reg.DMA_CH_PROG1 c)])
  let st := s.f Reg.IMG_PROG1_STATE
  let s := s.onlyIf (1 ≤ st && st ≤ 4) (fun s => s.newEntry 0x7F 2 0x20 0 [s.word Reg.IMG_PROG0, s.word Reg.IMG_PROG1])
  let x := s.f Reg.XSPI_WPROG1_STATE
  let s := s.onlyIf (1 ≤ x && x ≤ 3) (fun s => s.newEntry 0x7F 11 0x21 0 [s.word Reg.XSPI_WPROG0, s.word Reg.XSPI_WPROG1])
  s.onlyIf (s.f Reg.TRL_RA_PROG_OUT != 0) (fun s => s.newEntry 0x7F 10 0x22 0 [s.word Reg.TRL_RA_PROG])

/-- SAFE takes hold in a mode whose core runs; none at once in REST, DORMANT and LISTEN (R528, R542). -/
def Block.safeApplies (s : Block) : Bool := s.core && s.base != modeOff && !sleepMode s.base

/-- An event of R34: every output at zero scale and the speakers at high impedance at once; an entry and a graft before C are abandoned, one whose C has come completes, and
the common modes that the entry let fall rise again, at zero scale (R92, R528). -/
def Block.enterSafe (s : Block) : Block :=
  if !s.safeApplies || s.base = modeSafe then s.inFlight else
  let entry := s.inEntry
  -- in the tick of C the graft completes first (R263)
  let s := s.graftAtC.abandonGraft
  let s := if s.img.activate then s.modImg (fun m => { m with activate := false }) else s
  let s := (s.setBase modeSafe).sliceIncomplete false
  let s := (s.forAll (List.range 18) (fun o s => s.zeroOut o)).forAll (List.range 2) (fun c s => s.spkSafe c)
  let s := s.onlyIf s.bst.full (fun s => { (s.put Reg.BST_STAT_BUSY 0) with bst := { s.bst with full := false } })
  ((s.onlyIf entry (fun s => s.riseOutputs)).biasFollow.refFollow).inFlight

/-- RAIL_FAULT (R542): PVDD counts only while the image enables a speaker. -/
def Block.railFaultOp (s : Block) (r : Nat) : Block :=
  let s := s.put (Reg.PWR_RAIL_OK.bit r) 0
  let watched : Bool := r != 7 || (List.range 2).any (fun c => s.on (Reg.SPK_CFG_EN c))
  if !watched || !s.safeApplies then s else
  let s := ((s.raise Reg.PWR_SAFE_RAILNOW).raise Reg.PWR_SAFE_RAIL).raise Reg.PWR_EVT_RAIL
  (s.record 0x01 0 r (s.word Reg.PWR_RAIL) []).enterSafe

/-- OVERTEMP (R34, R547). -/
def Block.overtempOp (s : Block) (code : SenseCode) : Block :=
  if !s.safeApplies then s else
  let s := ((s.raise Reg.PWR_SAFE_OTEMPNOW).raise Reg.PWR_SAFE_OTEMP).raise Reg.PWR_EVT_OTEMP
  (s.record 0x02 0 0 (BitVec.ofNat 32 code.toNat) []).enterSafe

/-- RAIL_RECOVERY (R528, R542): a SAFE with no active image returns to LOAD once rails and temperature are in range; a wake that waits for the rails
takes place. -/
def Block.railRecoveryOp (s : Block) (rails : BitVec 8) (cool : Bool) : Block :=
  let s := s.put Reg.PWR_RAIL_OK rails.toNat
  let s := s.onlyIf s.railsGood (fun s => s.put Reg.PWR_SAFE_RAILNOW 0)
  let s := s.onlyIf cool (fun s => s.put Reg.PWR_SAFE_OTEMPNOW 0)
  if s.pwr.wakeHeld then s.wakeNow
  else if s.base = modeSafe && s.img.active.isNone && !s.on Reg.PWR_SAFE_RAILNOW && !s.on Reg.PWR_SAFE_OTEMPNOW then (s.setBase modeLoad).biasFollow.refFollow
  else s

/-! ## Resets and power (R542, R543, R545) -/

/-- RAIL_RESET (R542): a core rail below its threshold. -/
def Block.railResetOp (s : Block) (rails : BitVec 8) : Block :=
  let r := rails &&& 0x7E
  if r = 0 || s.base = modeOff || s.base = modeDormant || s.base = modeRest then s
  else ((s.pinResetOp .rail).put Reg.PWR_RST_RAILS r.toNat).put Reg.PWR_RAIL_OK (s.f Reg.PWR_RAIL_OK - (s.f Reg.PWR_RAIL_OK &&& r.toNat))

/-- CORE_RELEASE (R543): after a POR or a rail reset, with every rail in range. A POR starts the time anew, and the always-on domain 1.0 ms later. -/
def Block.coreReleaseOp (s : Block) : Block :=
  if s.f Reg.PWR_RST_KIND = 0 && !s.reached (ticks (msTicks 1)) then s
  else if s.core || s.base = modeOff || s.pwr.loadAt.isSome || (s.f Reg.PWR_RST_KIND = 1 && s.f Reg.PWR_RST_SRC != 3) then s
  else (s.put Reg.PWR_RAIL_OK 0xFF).modPwr (fun p => { p with loadAt := some s.time.now })

/-- RESET_RELEASE (R545): the rising edge of RESET_N. -/
def Block.resetReleaseOp (s : Block) : Block :=
  if s.core || s.base = modeOff || s.pwr.loadAt.isSome || s.f Reg.PWR_RST_KIND != 1 || s.f Reg.PWR_RST_SRC != 1 then s
  else s.modPwr (fun p => { p with loadAt := some s.time.now })

/-- OTP_LOAD_DONE (R490, R543): 0.5 ms after the release the core enters LOAD; the audio SRAM is cleared where it was not kept. -/
def Block.otpLoadOp (s : Block) (boot : BitVec 2) : Block :=
  match s.core, s.pwr.loadAt with
  | false, some t =>
    if !s.reached (t + 98304) then s else
    let s := ({ s with core := true }).put Reg.CLK_STAT_RING 1
    let s := s.onlyIf (s.f Reg.PWR_RST_KIND == 0 || s.f Reg.PWR_RST_SRC == 4) (fun s => s.beginClear (fun _ => true))
    s.startSource boot.toNat
  | _, _ => s

/-- POWER_LOSS (R542): VAON below its threshold; POR holds the device, or the supply is gone. -/
def Block.powerLossOp (s : Block) (off : Bool) : Block := if off then s.porOp.put Reg.PWR_MODE_BASE modeOff else s.porOp

/-! ## The image (R496, R605) -/

/-- A LOAD moves the device from these modes only (R605): 0 it may, 1 REQBUSY, 2 REQERR. -/
def Block.loadMoves (s : Block) : Nat :=
  if s.inEntry then 1
  else if s.base = modeLoad || s.base = modeReady || s.base = modePlay || s.base = modeRelay || (s.base = modeSafe && s.safeLeaves) then 0
  else 2

/-- A LOAD that is refused for its mode (R605). -/
def Block.loadRefused (s : Block) : Block :=
  (if s.loadMoves = 1 then s.raise Reg.PWR_EVT_REQBUSY else s.raise Reg.PWR_EVT_REQERR).imgError 0x43 0 0

/-- LOAD (R496, R605). -/
def Block.loadOp (s : Block) : Block :=
  if s.imgBusy || s.img.proving.isSome || s.img.admitWait.isSome then s.imgError 0x43 0 0
  else match s.img.shadow with
    | none => s.imgError 0x44 0 0
    | some d =>
      if s.loadMoves != 0 then s.loadRefused
      else if s.base = modeLoad && s.img.active.isNone then s.startFirst d
      else (s.imgState 4).modImg (fun m => { m with admitWait := some .load })

/-- A handshake made for an admission that has failed is over. -/
def Block.handshakesOver (s : Block) : Block := s.forAll (List.range 4) (fun p s => s.modPort p (fun x => { x with hsKeep := false }))

/-- ADMISSION_END (R24, R254, R263, R496). -/
def Block.admissionEndOp (s : Block) : Block :=
  match s.img.proving, s.img.shadow with
  | some (k, t), some d =>
    if k == .first && s.base != modeLoad then s else
    match s.verdict k t d with
    | none => s
    | some r =>
      let s := (s.imgState 5).modImg (fun m => { m with proving := none })
      match r with
      | some (code, detail) =>
        let s := ((s.imgError code 0 detail).imgLedger).handshakesOver
        if k == .graft then s.graftOver else s
      | none =>
        let s := s.raise Reg.IMG_EVT_ADMITOK
        match k with
        | .first => s.activateNow d
        | .graft => (s.modImg (fun m => { m with shadowTable := some ((s.candidate true d).latencyTable d.ceils, s.f Reg.PWR_FRAME_FRAME, s.f Reg.IMG_STAT_GEN + 1) })).graftFreeze
        | .load =>
          if s.loadMoves != 0 then s.loadRefused.handshakesOver
          else
            let s := s.modImg (fun m => { m with activate := true })
            if s.base = modeLoad then (s.onlyIf (!s.samePlan d) (fun s => s.startPlan d)).tryActivate else s.startEntry modeLoad
  | _, _ => s

/-! ## The frame boundary (R17, R120, R517, R535) -/

/-- FRAME_BOUNDARY. -/
def Block.frameBoundaryOp (s : Block) : Block :=
  if !s.time.frameDue then s else
  let s := { s with time := { s.time with frameDue := false } }
  let s := s.onlyIf (2 ≤ s.pll) (fun s => s.bumpWrap Reg.PWR_FRAME_FRAME)
  let s := if s.pwr.tsDue then
      (((s.put Reg.PWR_TSF_FRAME (s.f Reg.PWR_FRAME_FRAME)).put Reg.PWR_TSA_LO_T s.time.aont).put Reg.PWR_TSA_HI_T (s.time.aont / 2 ^ 32)).modPwr
        (fun p => { p with tsDue := false })
    else s
  let s := s.onlyIf (s.chains.syncDue && s.audioOn) (fun s => s.commonSync)
  let s := s.linkFrame
  let s := { s with host := { s.host with noteSent := false } }
  s.onlyIf s.host.noteOwed (fun s => s.sendNote)

/-- PLL_LOCKED (R366, R367, R540): a Listen cell that runs changes its clock source, and its port's samples carry U until the handover. -/
def Block.lockedOp (s : Block) : Block :=
  if s.pll != pllAcquire then s else
  let s := s.pllLockedOp
  let s := if s.lsn.running && s.lsnState = lsnWaking then (s.modLsn (fun l => { l with preroll := true })).lsnClock else s
  s.tryActivate

/-! ## The commands -/

/-- FRAME_BOUNDARY (R17). -/
def execFrameBoundary (s : State) : Host.Outcome State Fault Refusal := s.act true (fun b => b.frameBoundaryOp)

/-- PLL_LOCKED (R366). -/
def execPllLocked (s : State) : Host.Outcome State Fault Refusal := s.act true (fun b => b.lockedOp)

/-- JACK_SAMPLE (R313). -/
def execJackSample (n : Nat) (below : Bool) (s : State) : Host.Outcome State Fault Refusal := s.act (n < 8) (fun b => b.jackPinOp n below)

/-- LOAD (R496). -/
def execLoad (s : State) : Host.Outcome State Fault Refusal := s.hostWrite true (fun b => b.loadOp)

/-- ADMISSION_END (R24). -/
def execAdmissionEnd (s : State) : Host.Outcome State Fault Refusal := s.act true (fun b => b.admissionEndOp)

/-- WAKE_EVENT (R519). -/
def execWakeEvent (s : State) : Host.Outcome State Fault Refusal := s.act true (fun b => b.wake 0)

/-- MODE_REQUEST (R526). -/
def execModeRequest (req : Nat) (s : State) : Host.Outcome State Fault Refusal := s.hostWrite (req < 16) (fun b => b.modeRequestOp req)

/-- MODE_ENTRY_DONE (R527). -/
def execModeEntryDone (s : State) : Host.Outcome State Fault Refusal := s.act true (fun b => b.entryDoneOp)

/-- WAKE_READY (R533). -/
def execWakeReady (s : State) : Host.Outcome State Fault Refusal := s.act true (fun b => b.wakeReadyOp)

/-- TL0_SIGNAL_DETECT (R531). -/
def execTl0SignalDetect (s : State) : Host.Outcome State Fault Refusal := s.act true (fun b => b.wake 2)

/-- AON_TIMER_MATCH (R534). -/
def execAonTimerMatch (s : State) : Host.Outcome State Fault Refusal := s.act true (fun b => b.aonMatchOp)

/-- HOST_WAKE (R531). -/
def execHostWake (s : State) : Host.Outcome State Fault Refusal := s.act true (fun b => b.wake 4)

/-- TSLATCH (R535). -/
def execTslatch (s : State) : Host.Outcome State Fault Refusal := s.hostWrite true (fun b => b.modPwr (fun p => { p with tsDue := true }))

/-- ONSET_BLOCK (R537). -/
def execOnsetBlock (s : State) : Host.Outcome State Fault Refusal := s.act true (fun b => b.onsetBlockOp)

/-- RAIL_FAULT (R542). -/
def execRailFault (r : Nat) (s : State) : Host.Outcome State Fault Refusal := s.act (r < 8) (fun b => b.railFaultOp r)

/-- RAIL_RECOVERY (R528). -/
def execRailRecovery (rails : BitVec 8) (cool : Bool) (s : State) : Host.Outcome State Fault Refusal :=
  s.act true (fun b => b.railRecoveryOp rails cool)

/-- RAIL_RESET (R542). -/
def execRailReset (rails : BitVec 8) (s : State) : Host.Outcome State Fault Refusal := s.act true (fun b => b.railResetOp rails)

/-- POR (R544). -/
def execPor (s : State) : Host.Outcome State Fault Refusal := s.act true (fun b => b.porOp)

/-- PIN_RESET (R545). -/
def execPinReset (cause : PinCause) (s : State) : Host.Outcome State Fault Refusal := s.act true (fun b => b.pinResetOp cause)

/-- OVERTEMP (R34). -/
def execOvertemp (code : SenseCode) (s : State) : Host.Outcome State Fault Refusal := s.act true (fun b => b.overtempOp code)

/-- CORE_RELEASE (R543). -/
def execCoreRelease (s : State) : Host.Outcome State Fault Refusal := s.act true (fun b => b.coreReleaseOp)

/-- OTP_LOAD_DONE (R543). -/
def execOtpLoadDone (boot : BitVec 2) (s : State) : Host.Outcome State Fault Refusal := s.act true (fun b => b.otpLoadOp boot)

/-- POWER_LOSS (R542). -/
def execPowerLoss (off : Bool) (s : State) : Host.Outcome State Fault Refusal := s.act true (fun b => b.powerLossOp off)

/-- RESET_RELEASE (R545). -/
def execResetRelease (s : State) : Host.Outcome State Fault Refusal := s.act true (fun b => b.resetReleaseOp)

end Sys2Proof.Machine
end

