-- ==== Sys2Proof/Machine/SelfTest.lean ====
section
/-! DEFINITION. The background self-test (R548 to R555) and the full self-test of SERVICE (R556). One slice runs at a time, as BST_STAT and BST_PROG
name one (DEDUCED, assumption log 11); the slices of converter cells are the rotation's own (R64) and only their results are gathered here. -/

namespace Sys2Proof.Machine

/-- A group whose cell slices a cycle reports: it rotates, or has rotated until it became degraded (R74, R548). -/
def Block.bstGroup (s : Block) (g : Nat) : Bool :=
  s.on (Reg.CELL_GRP_CTRL_ROT_EN g) && (!s.on (Reg.CELL_GRP_STAT_NO_ROT g) || s.on (Reg.CELL_GRP_STAT_DEGRADED g))

/-- MAC slots that are neither cost nor reserve in use (R185). -/
def Block.idleSlots (s : Block) : Nat :=
  let used := (((List.range 62).filter (fun b => (s.blk b).next.isSome)).map (fun b => s.blockCost b)).sum
  s.f Reg.GRF_LIMIT_LIMIT - s.f Reg.GRF_BUDGET_BASE - used

/-- Whether the block of a target runs (R549). -/
def Block.bstRuns (s : Block) (t : Nat) : Bool :=
  let on : Bool := s.base = modeReady || s.base = modePlay || s.base = modeRelay
  let audio : Bool := s.base = modeReady || s.base = modePlay
  match t with
  | 0 => s.sliceMode && (List.range 18).any s.bstGroup
  | 1 | 2 => audio
  | 3 => on
  | 4 => audio && s.graphOn
  | 5 => on && s.pll == pllLocked
  | _ => on && s.img.active.isSome

/-- A target is applicable now: it runs in the background (BST_CFG.EN) and its block runs. -/
def Block.bstApplies (s : Block) (t : Nat) : Bool := s.on (Reg.BST_CFG_EN.bit t) && s.bstRuns t

/-- The byte range of a channel's descriptor ring: 16 bytes for each of COUNTM1 + 1 descriptors (R457). -/
def Block.ringSpan (s : Block) (c : Nat) : Nat × Nat := (s.f (Reg.DMA_CH_BASE_BASE c), 16 * (s.f (Reg.DMA_CH_CFG_COUNTM1 c) + 1))

/-- A 4 KiB chunk of audio SRAM is eligible for march (R554). -/
def Block.chunkFree (s : Block) (k : Nat) : Bool :=
  let apart (a n : Nat) : Bool := n == 0 || a + n ≤ 4096 * k || 4096 * (k + 1) ≤ a
  (List.range 6).all (fun p => apart (s.partition p).1 (s.partition p).2) &&
  (List.range 16).all (fun c => apart ((s.ringSpan c).1 - sramBase) (if (s.ringSpan c).1 + (s.ringSpan c).2 ≤ sramBase then 0 else (s.ringSpan c).2))

/-- The items of a target's set in a cycle (R548): working cells of rotating groups and of degraded ones (R74), 8 unit slices, eligible chunks, lane and
vector set, one PLL window, 4 KiB pieces of the active image. -/
def Block.bstSet (s : Block) (t : Nat) : List Nat :=
  match t with
  | 0 => (List.range 86).filter (fun k => s.bstGroup (groupOfCell k) && s.working k)
  | 1 | 2 => List.range 8
  | 3 => (List.range 1024).filter s.chunkFree
  | 4 => List.range 128
  | 5 => [0]
  | _ => List.range ((beNat (s.mem.active.readList 8 4) + 4095) / 4096)

/-- Result of an item in this cycle. -/
def Block.bstItem (s : Block) (t i : Nat) : Nat := Tab.get (fun _ => 0) s.bst.results (4096 * t + i)

/-- The item a target runs next: one not reached in this cycle, else one that ended incomplete (R550). No cell of a degraded group is run (R74). -/
def Block.bstNext (s : Block) (t : Nat) : Option Nat :=
  let set := (s.bstSet t).filter (fun i => t != 0 || !s.on (Reg.CELL_GRP_STAT_DEGRADED (groupOfCell i)))
  match set.find? (fun i => s.bstItem t i == 0) with
  | some i => some i
  | none => set.find? (fun i => s.bstItem t i == 3)

/-- Core cycles from one slice of a target to the next (R548); none where the set has one slice. -/
def bstSpacing : Nat → Nat
  | 1 | 2 => ticks (msTicks 100)
  | 4 => ticks (msTicks 10)
  | 5 => 0
  | _ => ticks (msTicks 50)

/-- Core cycle of the start of a target's last slice. -/
def Block.bstLast (s : Block) (t : Nat) : Option Nat := Tab.get (fun _ => none) s.bst.last t

/-- A target's slice is due: its spacing has passed, and units A and B alternate (R548). -/
def Block.bstDue (s : Block) (t : Nat) : Bool :=
  let past (u : Nat) : Bool := match s.bstLast u with
    | none => true
    | some k => s.reached (k + bstSpacing u)
  if t = 1 || t = 2 then
    let other := 3 - t
    let turn : Bool := match s.bstLast t, s.bstLast other with
      | some a, some b => decide (a ≤ b)
      | some _, none => false
      | none, _ => true
    past 1 && past 2 && (turn || !s.bstApplies other || (s.bstNext other).isNone)
  else past t

/-- A slice starts: its progress record (R568). -/
def Block.bstBegin (s : Block) (t item : Nat) (again : Bool) : Block :=
  let s := s.modBst (fun x => { x with run := some (t, item, s.time.now, again), last := Tab.set (fun _ => none) x.last t (some s.time.now) })
  let s := ((s.put Reg.BST_STAT_TGT t).put Reg.BST_STAT_BUSY 1).bumpWrap Reg.BST_PROG_SLICE_ID
  let s := ((s.put Reg.BST_PROG_TGT t).put Reg.BST_PROG_LAST 0).put Reg.BST_PROG_DONE 0
  (s.put Reg.BST_PROG1_APPLIED 0).put Reg.BST_PROG1_COUNT (bstCount t)

/-- BST_SLICE (R548): a slice of a target starts. A cell slice is a command of its own (R64). The vectors of a MAC lane need idle slots (R185). -/
def Block.bstSliceOp (s : Block) (t : Nat) : Block :=
  if t = 0 || s.bst.run.isSome || s.bst.full || s.bst.cycleAt.isNone || !s.bstApplies t || !s.bstDue t || (t = 4 && s.idleSlots = 0) then s else
  match s.bstNext t with
  | some i => s.bstBegin t i false
  | none => s

/-- The verdict of R551: 1 pass, 2 fail, 3 incomplete. -/
def bstVerdict (t : Nat) (v : SliceVerdict) : Nat :=
  let full : Bool := v.applied == bstCount t
  if v.mismatch || (full && !v.signatureOk) then 2 else if full then 1 else 3

/-- A control-sense unit is declared failed: both speaker channels stop (R555). -/
def Block.cscUnitFails (s : Block) (u : Nat) : Block :=
  let s := (s.raise (Reg.BST_STAT_CSCF.bit u)).raise Reg.BST_EVT_CSCFAIL
  (s.record 0x62 12 u (BitVec.ofNat 32 (s.f Reg.BST_PROG_SLICE_ID)) [s.word Reg.BST_PROG]).follow

/-- A MAC lane is declared failed (R555, R189). -/
def Block.laneFails (s : Block) (l : Nat) : Block :=
  let s := (s.raise (Reg.GRF_LANE_FAIL.bit l)).raise Reg.GRF_EVT_LANEFAIL
  s.record 0x61 12 l (BitVec.ofNat 32 (s.f Reg.BST_PROG_SLICE_ID)) [s.word Reg.BST_PROG]

/-- The lane of an item of the MAC target: 16 vector sets on each of 8 lanes. -/
def laneOf (item : Nat) : Nat := item / 16

/-- The outcome of a failed slice (R555): units and lanes are tried once more. -/
def Block.bstFailed (s : Block) (t item : Nat) (again : Bool) : Block :=
  match t with
  | 1 | 2 => if again then s.cscUnitFails (t - 1) else s.bstBegin t item true
  | 3 => s.failBank (bankOf (4096 * item))
  | 4 => if again then s.laneFails (laneOf item) else s.bstBegin t item true
  | 5 => s.raise Reg.BST_EVT_PLLFAIL
  | _ => s.raise Reg.BST_EVT_CFGFAIL

/-- A marched chunk is left at zero with valid check bits (R554). -/
def Block.zeroChunk (s : Block) (k : Nat) : Block :=
  (List.range 1024).foldl (fun s i => s.sramWrite (4096 * k + 4 * i) 0) s

/-- The longest time a slice may take, in core cycles: 50 µs, 4 graph samples, or the PLL's second (R548, R552). -/
def Block.bstBudget (s : Block) (t : Nat) : Nat :=
  if t = 4 then ticks (4 * s.graphPeriod) else if t = 5 then ticks (msTicks 1000) else 9831

/-- BST_SLICE_END (R551, R552): the slice that runs ends with what it applied and saw. A slice past its budget is not complete; the PLL window ends
after its second with the deviation it counted, a free value, in CLK_FREQ, whose field counts tenths of a ppm, and that deviation decides it. -/
def Block.bstSliceEndOp (s : Block) (v : SliceVerdict) : Block :=
  match s.bst.run with
  | none => s
  | some (t, item, start, again) =>
    let n := min v.applied (bstCount t)
    if t = 5 then
      if !s.reached (start + s.bstBudget 5) then s else
      let s := (s.put Reg.CLK_FREQ_PPM (s.free % 65536)).used
      let good : Bool := (s.fInt Reg.CLK_FREQ_PPM).natAbs ≤ 1000
      let s := s.bstClose 5 item (if good then 1 else 2) 1 (if good then 1 else 2)
      if good then s else s.bstFailed 5 item again
    else
      let late : Bool := start + s.bstBudget t < s.time.now
      let n := if late then min n (bstCount t - 1) else n
      let r := bstVerdict t { v with applied := n }
      let s := s.bstClose t item r n r
      let s := if t = 3 then (if n = bstCount 3 then s.zeroChunk item else s.scrambleChunk item) else s
      if r = 2 then s.bstFailed t item again else s

/-- The result of a target at the end of a cycle (R550): a degraded group's cells count as incomplete (R74). -/
def Block.bstResult (s : Block) (t : Nat) : Nat :=
  let rs := (s.bstSet t).map (fun i => if t = 0 && s.on (Reg.CELL_GRP_STAT_DEGRADED (groupOfCell i)) && s.bstItem t i != 2 then 3 else s.bstItem t i)
  let failed : Bool := s.bst.results.any (fun p => p.1 / 4096 == t && p.2 == 2)
  if !s.bst.seen.getLsbD t then 0
  else if failed then 2
  else if rs.all (fun r => r == 1) then 1 else 3

/-- Show the seven results and count the cycle (R550, R568). -/
def Block.bstReport (s : Block) (rs : List Nat) : Block :=
  let s := (s.put Reg.BST_RES_RES (rs.zipIdx.foldl (fun acc p => acc + p.1 * 4 ^ p.2) 0)).raise Reg.BST_EVT_CYCLE
  (s.bump Reg.BST_STAT_CYCLES).onlyIf (rs.contains 3) (fun s => s.raise Reg.BST_EVT_INC)

/-- Every applicable target has finished its set (R550). -/
def Block.bstOver (s : Block) : Bool :=
  s.bst.run.isNone && (List.range 7).all (fun t => !s.bstApplies t || ((s.bstNext t).isNone))

/-- BST_CYCLE_END (R550): all sets are done, or 60 s have passed; the next cycle begins. -/
def Block.bstCycleEndOp (s : Block) : Block :=
  match s.bst.cycleAt with
  | none => s
  | some t =>
    if s.bst.full || !(s.bstOver || s.reached (t + ticks (msTicks 60000))) then s else
    let s := s.bstCut (fun _ => true) true
    let s := s.bstReport ((List.range 7).map s.bstResult)
    s.modBst (fun x => { x with results := [], cycleAt := some s.time.now, seen := 0, last := Tab.set (fun _ => none) x.last 5 none })

/-- Each tick: the targets that have been applicable are remembered, and a slice whose block has stopped ends incomplete (R549, R550). -/
def Block.bstTick (s : Block) : Block :=
  if s.bst.cycleAt.isNone then s else
  let m := (List.range 7).foldl (fun acc t => if s.bstApplies t then acc + 2 ^ t else acc) 0
  let s := s.modBst (fun x => { x with seen := x.seen ||| BitVec.ofNat 7 m })
  s.bstCut (fun t => !s.bstRuns t) true

/-! ## SERVICE (R556) -/

/-- FULL (R556). -/
def Block.fullOp (s : Block) : Block :=
  if s.base != modeService || s.bst.full then s else (s.modBst (fun x => { x with full := true })).put Reg.BST_STAT_BUSY 1

/-- A target of the full run has ended: a fail counts and is recorded as in the background, and what it found failed is declared (R555). -/
def Block.fullTarget (s : Block) (t : Nat) (v : TargetVerdict) : Block :=
  let r := bstVerdict t v.verdict
  let s := (s.bumpWrap Reg.BST_PROG_SLICE_ID).put Reg.BST_PROG_TGT t
  let s := ((s.put Reg.BST_STAT_TGT t).put Reg.BST_PROG_LAST r).putB Reg.BST_PROG_DONE (v.verdict.applied == bstCount t)
  let s := (s.put Reg.BST_PROG1_APPLIED v.verdict.applied).put Reg.BST_PROG1_COUNT (bstCount t)
  if r = 3 then s.bump (Reg.BST_FAILCNT_INC t)
  else if r = 2 then
    let s := ((s.bump (Reg.BST_FAILCNT_FAIL t)).raise Reg.BST_EVT_FAIL).record 0x60 12 t (BitVec.ofNat 32 (s.f Reg.BST_PROG_SLICE_ID)) [s.word Reg.BST_PROG]
    match t with
    | 0 => s.forAll (v.failed.filter (· < 86)) (fun k s => s.put (Reg.CELL_STAT_FAILED k) 1)
    | 1 | 2 => s.cscUnitFails (t - 1)
    | 3 => s.forAll (v.failed.filter (· < 16)) (fun k s => s.failBank k)
    | 4 => s.forAll (v.failed.filter (· < 8)) (fun l s => s.laneFails l)
    | 5 => s.raise Reg.BST_EVT_PLLFAIL
    | _ => s.raise Reg.BST_EVT_CFGFAIL
  else s

/-- The class V reset of SERVICE (R556): what shows the PLL that runs on, and the common modes and the pump that stand, stays. -/
def Block.serviceReset (s : Block) : Block :=
  let was := s
  let s := s.wakeReset
  let s := s.setW Reg.CLK_STAT (was.word Reg.CLK_STAT)
  let s := s.forAll (List.range 16) (fun n s => s.put (Reg.UAP_STAT_CM n) (was.f (Reg.UAP_STAT_CM n)))
  s.putB Reg.HP_STAT_CPOK (was.on Reg.HP_STAT_CPOK)

/-- SERVICE_END (R556): the results, the clear of the audio SRAM, class V fields, roles and engines anew as at a wake, blocks from cleared state, common
sync, READY. -/
def Block.serviceEndOp (s : Block) (rs : List TargetVerdict) : Block :=
  if s.base != modeService || !s.bst.full || rs.length != 7 then s else
  let s := rs.zipIdx.foldl (fun s p => s.fullTarget p.2 p.1) s
  let s := s.bstReport (rs.zipIdx.map (fun p => bstVerdict p.2 p.1.verdict))
  let s := (s.clearBanks (fun _ => true)).serviceReset
  let s := (s.forAll (List.range 18) (fun g s => s.assignRoles g)).wakeEngines.linkFollow
  let s := s.modBst (fun x => { x with full := false, results := [], cycleAt := none, seen := 0, last := [] })
  s.audioStart.enterReady false

/-! ## The commands -/

/-- BST_SLICE (R548). -/
def execBstSlice (t : Nat) (s : State) : Host.Outcome State Fault Refusal := s.act (t < 7) (fun b => b.bstSliceOp t)

/-- BST_SLICE_END (R551). -/
def execBstSliceEnd (v : SliceVerdict) (s : State) : Host.Outcome State Fault Refusal := s.act true (fun b => b.bstSliceEndOp v)

/-- BST_CYCLE_END (R550). -/
def execBstCycleEnd (s : State) : Host.Outcome State Fault Refusal := s.act true (fun b => b.bstCycleEndOp)

/-- FULL (R556). -/
def execFull (s : State) : Host.Outcome State Fault Refusal := s.hostWrite true (fun b => b.fullOp)

/-- SERVICE_END (R556). -/
def execServiceEnd (results : List TargetVerdict) (s : State) : Host.Outcome State Fault Refusal := s.act true (fun b => b.serviceEndOp results)

end Sys2Proof.Machine
end

