-- ==== Sys2Proof/Machine/Views.lean ====
section
/-! DEFINITION. What a read of the local map gives (R8 to R10, R509, R513): stored fields, and the fields the device computes from its state. -/

namespace Sys2Proof.Machine

/-- The bits of a word that a read shows as stored: all but WO and W1P fields (R8). -/
def readMask (r : RegDef) : Word := r.fields.foldl (fun m f => if f.access == .wo || f.access == .w1p then m else m ||| f.mask) 0

/-- The block whose parameter page holds an address (R198, R237). -/
def pageOwner (a : Nat) : Option Nat :=
  if a < 0x44000 || 0x46F00 ≤ a then none
  else if a < 0x46000 then some ((a - 0x44000) / 0x100)
  else if a < 0x46800 then some (32 + (a - 0x46000) / 0x100)
  else if a < 0x46900 then some (40 + (a - 0x46800) / 0x40)
  else if a < 0x46A00 then none
  else if a < 0x46B00 then some (44 + (a - 0x46A00) / 0x40)
  else if a < 0x46C00 then some (48 + (a - 0x46B00) / 0x40)
  else if a < 0x46E00 then some (52 + (a - 0x46C00) / 0x100)
  else some (54 + (a - 0x46E00) / 0x20)

/-- The block whose registers hold an address: its page, or its GRF_BLK registers (R198, R202). -/
def regOwner (a : Nat) : Option Nat :=
  if 0x42000 ≤ a && a < 0x42000 + 0x10 * 86 then some ((a - 0x42000) / 0x10) else pageOwner a

/-- Whether an address belongs to a block that is absent (R198, R202). -/
def Block.absentAt (s : Block) (a : Nat) : Bool :=
  match regOwner a with
  | some b => !s.present b
  | none => false

/-- A bit at a place, as a number. -/
def bitAt (b : Bool) (lo : Nat) : Nat := if b then 2 ^ lo else 0

/-- PWR_MODE as it reads (R525, R547). -/
def Block.modeWord (s : Block) (w : Word) : Word := setBits (setBits w 0 4 s.mode) 8 4 s.flags

/-- UAP_STAT as it reads (R107): ZSCALE keeps its reset value where the port is no output. -/
def Block.uapStat (s : Block) (n : Nat) (w : Word) : Word :=
  setBits (setBits (setBits w 1 1 (bitAt (s.zhold n) 0)) 2 2 (s.cmView n)) 6 1 (bitAt (!s.isOutput n || s.zscale n) 0)

/-- GRF_SEL as it reads: PEND and SW (R198). -/
def Block.selWord (s : Block) (k : Nat) (w : Word) : Word :=
  let x := s.sel k
  setBits (setBits w 8 1 (bitAt (x.wait.isSome || x.held.isSome) 0)) 9 1 (bitAt x.run.isSome 0)

/-- GRF_GLB_STAT: NPEND, HELD, SWITCH (R198). -/
def Block.grfStat (s : Block) : Word :=
  let sels := s.graph.sels.map (·.2)
  BitVec.ofNat 32 ((sels.filter (fun x => x.wait.isSome || x.held.isSome)).length +
    bitAt (sels.any (fun x => x.held.isSome)) 8 + bitAt (sels.any (fun x => x.run.isSome)) 9)

/-- A scarf of a block waits: for the next graph instant, or behind another (R244). -/
def Block.scarfPends (s : Block) (b : Nat) : Bool := (s.blk b).pend.isSome || (s.blk b).req.isSome

/-- GRF_SCARF_STAT: RUN and PEND counted, FREEZE as stored (R265). -/
def Block.scarfStat (s : Block) (w : Word) : Word :=
  let bs := List.range 62
  setBits (setBits w 0 6 (bs.filter (fun b => (s.blk b).next.isSome)).length) 8 6 (bs.filter s.scarfPends).length

/-- GRF_RING_STAT: the fill at the last graph instant, as ringNote stored it, and whether it was empty or full (R198). A ring that is not enabled is
empty. -/
def Block.ringStat (s : Block) (t : Nat) (w : Word) : Word :=
  if s.on (Reg.GRF_RING_CFG_EN t) then w else BitVec.ofNat 32 (bitAt true 24)

/-- The status of a chain: one that is off reads UNSET 0 and LEFT 0 (R128). -/
def Block.chainStat (s : Block) (c : ChainId) (w : Word) : Word :=
  if s.chainRuns c then w else setBits (setBits w (chainUnset c).lo (chainUnset c).width 0) (chainLeft c).lo (chainLeft c).width 0

/-- The watchdog's count in units of 8 slow-clock periods, rounded up (R523, assumption log 15). -/
def Block.wdogLeft (s : Block) : Nat := (s.host.wdLeft + 7) / 8

/-- The trim that CELL_TRIMSEL selects (R77). -/
def Block.trimOf (s : Block) (k : Nat) : Nat := Tab.get (fun _ => 0) (s.cell k).trims (s.f (Reg.CELL_TRIMSEL_IDX k))

/-- The registers that the device computes when they are read; `w` is the word as stored. DIR_XPCUR reads 0 where DIR_XPSEL names no crosspoint, an IN
or OUT of 24 to 31 (DESIGN CHOICE, assumption log 87: R162 is silent). -/
def Block.view (s : Block) (r : RegDef) (i j : Nat) (w : Word) : Word :=
  let b := r.base
  if b = Reg.SYS_IRQ_SUMMARY then BitVec.ofNat 32 s.summary
  else if b = Reg.SYS_WDOG_STAT then setBits w 0 12 s.wdogLeft
  else if b = Reg.IRQ_STAT then BitVec.ofNat 32 (s.irqPend + bitAt s.host.irqLow 16 + bitAt s.host.release.isSome 17)
  else if b = Reg.IRQ_GCAUSE_LO 0 then BitVec.ofNat 32 (s.groupCause i)
  else if b = Reg.IRQ_GCAUSE_HI 0 then BitVec.ofNat 32 (s.groupCause i / 2 ^ 32)
  else if b = Reg.PWR_MODE then s.modeWord w
  else if b = Reg.PWR_AONT_LO then BitVec.ofNat 32 s.time.aont
  else if b = Reg.PWR_AONT_HI then BitVec.ofNat 32 (s.time.aont / 2 ^ 32 % 2 ^ 16)
  else if b = Reg.SEC_LC then s.secLc
  else if b = Reg.SEC_KEYSTAT then s.secKeystat
  else if b = Reg.CELL_TRIMDAT 0 then BitVec.ofNat 32 (s.trimOf i % 4096)
  else if b = Reg.UAP_STAT 0 then s.uapStat i w
  else if b = Reg.MB_STAT 0 then setBits (setBits w 0 1 (bitAt (s.biasOk i) 0)) 1 1 (bitAt (s.biasRamp i) 0)
  else if b = Reg.CLOCHE_STAT then setBits w 2 1 (bitAt s.privLed 0)
  else if b = Reg.CHAIN_GLB_UNSET then BitVec.ofNat 32 s.unsetDec
  else if b = Reg.CHAIN_GLB_UNSET2 then BitVec.ofNat 32 s.unsetInt
  else if b = Reg.CHAIN_DSTAT 0 then s.chainStat (.dec i) w
  else if b = Reg.CHAIN_ISTAT 0 then s.chainStat (.int i) w
  else if b = Reg.DIR_XP 0 0 then
    if s.on (Reg.DIR_XP_EN i j) then
      setBits (setBits w 25 1 (bitAt (s.xp i j).toAt.isSome 0)) 26 1 (bitAt ((s.xp i j).ramping s.time.now) 0)
    else setBits w 0 18 0
  else if b = Reg.DIR_OSTAT 0 then setBits w 3 1 (bitAt (s.xpRamping i s.time.now) 0)
  else if b = Reg.DIR_GLB_STAT then BitVec.ofNat 32 (s.dirStat.1 + bitAt s.dirStat.2 16)
  else if b = Reg.DIR_XPCUR then
    if s.f Reg.DIR_XPSEL_OUT < 24 && s.f Reg.DIR_XPSEL_IN < 24 then BitVec.ofNat 32 (s.xpCur (s.f Reg.DIR_XPSEL_OUT) (s.f Reg.DIR_XPSEL_IN)) else 0
  else if b = Reg.GRF_GLB_STAT then s.grfStat
  else if b = Reg.GRF_SEL 0 then s.selWord i w
  else if b = Reg.GRF_RING_STAT 0 then s.ringStat i w
  else if b = Reg.GRF_BLK_STAT 0 then BitVec.ofNat 32 (bitAt (s.blk i).next.isSome 0 + bitAt (s.scarfPends i) 1)
  else if b = Reg.GRF_SCARF_STAT then s.scarfStat w
  else if b = Reg.CNV_STAT 0 then setBits (setBits w 1 1 (bitAt (s.blk (40 + i)).next.isSome 0)) 2 1 (bitAt (s.scarfPends (40 + i)) 0)
  else if b = Reg.CSC_STAT then setBits w 3 1 (bitAt s.spkOwns 0)
  else if b = Reg.CLK_COAST then BitVec.ofNat 32 s.coastMs
  else if b = Reg.DMA_GLB_STAT then BitVec.ofNat 32 s.dmaBusy
  else w

/-- The word a register reads as (R8, R10, R198). -/
def Block.regWord (s : Block) (a : Nat) : Word :=
  match findReg a with
  | none => 0
  | some r =>
    if s.absentAt a then 0 else
    let ix := (r.indices a).getD []
    s.view r (ix.getD 0 0) (ix.getD 1 0) (s.word a &&& readMask r)

/-- A read clears the ROL fields of its word (R8). -/
def Block.clearRol (s : Block) (a : Nat) : Block :=
  match findReg a with
  | none => s
  | some r =>
    if r.fields.any (fun f => f.access == .rol) then
      s.setW a (r.fields.foldl (fun w f => if f.access == .rol then setBits w f.lo f.width 0 else w) (s.word a))
    else s

/-- A word of the ledger window; word 7 read marks its entry read (R561, R568). -/
def Block.readLedger (s : Block) (off : Nat) : Word × Block :=
  let e := off / 32
  let w := off % 32 / 4
  (s.ledgerWord e w, if w = 7 then s.setEntry e ((s.ledgerEntry e).map (fun x => { x with read := true })) else s)

/-- A read of the audio SRAM by the host: a march of its chunk ends first; an uncorrectable word is returned uncorrected, a free value (R442, R552). -/
def Block.readSram (s : Block) (x : Nat) : Word × Block :=
  let (w, _, s) := (s.marchYields x).sramRead x 2 []
  (w, s)

/-- A read of coefficient memory by the host (R442, R447): an uncorrectable word is returned uncorrected, a free value. -/
def Block.readCoef (s : Block) (x : Nat) : Word × Block :=
  let (w, _, s) := s.coefFetch x 2 []
  (w, s)

/-- A word of configuration memory: the active image with its latency table, then the shadow with its own (R448, R498). -/
def Block.readConfig (s : Block) (x : Nat) : Word :=
  if 0x18000 ≤ x && x < 0x20000 then s.latencyWord (x - 0x18000)
  else if 0x38000 ≤ x then s.shadowLatencyWord (x - 0x38000)
  else if x < 0x20000 then s.mem.active.readWord x else s.mem.shadow.readWord (x - 0x20000)

/-- A read of a word of the local map, with what the read does (R509, R513). -/
def Block.readWord (s : Block) (a : Nat) : Word × Block :=
  let a := a / 4 * 4
  if 0x800 ≤ a && a < 0xA00 then s.readLedger (a - 0x800)
  else if sramBase ≤ a && a < sramBase + sramSize then s.readSram (a - sramBase)
  else if coefBase ≤ a && a < coefBase + 0x10000 then s.readCoef (a - coefBase)
  else if cfgBase ≤ a && a < cfgBase + 0x40000 then (s.readConfig (a - cfgBase), s)
  else (s.regWord a, s.clearRol a)

end Sys2Proof.Machine
end

