-- ==== Sys2Proof/Machine/HostPort.lean ====
section
/-! DEFINITION. Writes of the local map (R8, R508): the access codes, and the registers whose write is a command of its own. A host SPI write, a remote
write (R424) and a DMA write (R450) all come here. The watchdog, REARM and the software reset (R516, R520, R521) stand with them. -/

namespace Sys2Proof.Machine

/-- Rewrite the host port's record. -/
def Block.modHost (s : Block) (h : HostSt → HostSt) : Block := { s with host := h s.host }

/-- A word after a plain write (R8): RW and WO fields take the value, W1C bits written 1 clear, every other field stays. -/
def writeFields (r : RegDef) (old w : Word) : Word :=
  r.fields.foldl (fun acc f =>
    match f.access with
    | .rw => (acc &&& ~~~f.mask) ||| (w &&& f.mask)
    | .wo => (acc &&& ~~~f.mask) ||| (w &&& f.mask)
    | .w1c => acc &&& ~~~(w &&& f.mask)
    | _ => acc) old

/-- A plain write of a register (R8, R10). -/
def Block.plainWrite (s : Block) (a : Nat) (w : Word) : Block :=
  match findReg a with
  | none => s
  | some r => s.setW a (writeFields r (s.word a) w)

/-! ## The watchdog (R520), REARM (R516), the software reset (R521) -/

/-- The full count of the watchdog in slow-clock periods; a PERIOD of 0 is taken as 1 (R520, R523). -/
def Block.wdFull (s : Block) : Nat := 8 * max 1 (s.f Reg.SYS_WDOG_CFG_PERIOD)

/-- The watchdog runs: enabled and not expired. -/
def Block.wdRuns (s : Block) : Bool := s.on Reg.SYS_WDOG_CFG_EN && !s.on Reg.SYS_WDOG_STAT_EXP

/-- A write of SYS_WDOG_CFG: ignored once EN is 1; EN starts the count. -/
def Block.wdogCfgWrite (s : Block) (w : Word) : Block :=
  if s.on Reg.SYS_WDOG_CFG_EN then s
  else
    let s := s.plainWrite Reg.SYS_WDOG_CFG w
    if s.on Reg.SYS_WDOG_CFG_EN then s.modHost (fun h => { h with wdLeft := s.wdFull, wdWarned := false }) else s

/-- The watchdog expires: the device enters SAFE (R34, R520). -/
def Block.wdExpire (s : Block) : Block :=
  let s := (s.raise Reg.SYS_WDOG_STAT_EXP).raise Reg.PWR_SAFE_WDOG
  (s.record 0x03 15 0 (s.word Reg.SYS_WDOG_CFG) []).enterSafe

/-- WDOG_EXPIRY: at zero. -/
def Block.wdogExpiryOp (s : Block) : Block := if s.wdRuns && s.host.wdLeft = 0 then s.wdExpire else s

/-- WDWARN: at half the count, once in each count. -/
def Block.wdwarnOp (s : Block) : Block :=
  if s.wdRuns && !s.host.wdWarned && 2 * s.host.wdLeft ≤ s.wdFull then
    (s.raise Reg.SYS_EVT_WDWARN).modHost (fun h => { h with wdWarned := true })
  else s

/-- KICK: the key restarts the count, any other value sets WDBAD; in the cycle of expiry the watchdog expires (R522). -/
def Block.kickOp (s : Block) (key : Nat) : Block :=
  if key != 0x6480 then s.raise Reg.SYS_EVT_WDBAD
  else if !s.wdRuns then s
  else if s.host.wdLeft = 0 then s.wdExpire
  else s.modHost (fun h => { h with wdLeft := s.wdFull, wdWarned := false })

/-- A slow-clock period of the watchdog: it counts in READY, PLAY and RELAY (R520). -/
def Block.wdCount (s : Block) : Block :=
  if s.wdRuns && (s.base = modeReady || s.base = modePlay || s.base = modeRelay) then s.modHost (fun h => { h with wdLeft := h.wdLeft - 1 }) else s

/-- REARM (R516): IRQ_N is released for 16 core cycles. -/
def Block.rearmOp (s : Block) : Block := s.modHost (fun h => { h with release := some (s.time.now + 16) })

/-- REARM_END (R516). -/
def Block.rearmEndOp (s : Block) : Block :=
  match s.host.release with
  | some t => if s.reached t then s.modHost (fun h => { h with release := none }) else s
  | none => s

/-- RSTKEY (R521): the key requests the reset, which takes place when CS_N rises. -/
def Block.rstkeyOp (s : Block) (key : Nat) : Block := if key = 0x6480 then s.modHost (fun h => { h with rstReq := true }) else s

/-- SOFTWARE_RESET (R521): CS_N rises after the key. -/
def Block.softResetOp (s : Block) : Block := if s.host.rstReq then s.pinResetOp .rstkey else s

/-! ## Registers with a write of their own -/

/-- A cell's coefficients take no write while FREEZE is 1 or the cell is in TEST (R50, R77). -/
def Block.cellFixed (s : Block) (k : Nat) : Bool := s.on Reg.CELL_GLB_CTRL_FREEZE || s.role k == roleTest

/-- CELL registers (R77); none where the write is plain. -/
def Block.cellWrite (s : Block) (base i : Nat) (w : Word) : Option Block :=
  if base = Reg.CELL_OFS 0 then some (if s.cellFixed i then s else s.plainWrite (Reg.CELL_OFS i) w)
  else if base = Reg.CELL_SKEW 0 then some (if s.cellFixed i then s else s.plainWrite (Reg.CELL_SKEW i) w)
  else if base = Reg.CELL_GAIN 0 then
    some (if s.cellFixed i then s else s.put (Reg.CELL_GAIN_GAIN i) (clampTo 0x3C0000 0x440000 (bitsOf w 0 24)))
  else if base = Reg.CELL_TRIMDAT 0 then
    some (if s.cellFixed i || 75 ≤ s.f (Reg.CELL_TRIMSEL_IDX i) then s
      else s.modCell i (fun c => { c with trims := Tab.set (fun _ => 0) c.trims (s.f (Reg.CELL_TRIMSEL_IDX i)) (bitsOf w 0 12) }))
  else if base = Reg.CELL_GRP_CTRL 0 then
    let was := s.on (Reg.CELL_GRP_CTRL_ROT_EN i)
    let s := s.plainWrite (Reg.CELL_GRP_CTRL i) w
    let s := (s.put (Reg.CELL_GRP_CTRL_PERIOD i) (max 20 (bitsOf w 4 12))).put (Reg.CELL_GRP_CTRL_INWIN i) (clampTo 4 12 (bitsOf w 20 4))
    let s := (s.put (Reg.CELL_GRP_CTRL_OUTWIN i) (clampTo 4 12 (bitsOf w 24 4))).put (Reg.CELL_GRP_CTRL_OUTN i) (max 1 (bitsOf w 28 3))
    let s := if !was && w.getLsbD 0 then s.modGrp i (fun x => { x with nextQ := none }) else s
    let s := s.onlyIf (w.getLsbD 16) (fun s => s.rotNowOp i)
    some (s.onlyIf (w.getLsbD 17) (fun s => s.retryOp i))
  else none

/-- Ports, bias, headphone and jacks (R107, R330). -/
def Block.portWrite (s : Block) (base i : Nat) (w : Word) : Option Block :=
  if base = Reg.UAP_IN_GAIN 0 then some (s.gainWriteOp i (bitsOf w 0 6))
  else if base = Reg.UAP_OUT_CTRL 0 then
    some (if !s.isOut i then s else ((s.put (Reg.UAP_OUT_CTRL_MUTE i) (bitsOf w 1 1)).follow).rangeWriteOp i (w.getLsbD 0))
  else if base = Reg.UAP_CAL_GAIN 0 then some (s.calGainWrite i (bitsOf w 0 24))
  else if base = Reg.MB_CFG 0 then some (s.mbiasEnableOp i (w.getLsbD 7) (bitsOf w 0 7))
  else if base = Reg.HP_CTRL then
    some (s.forAll ((List.range 2).filter (fun d => s.isOut (16 + d))) (fun d s =>
      let s := ((s.put (Reg.HP_CTRL_MUTE.bit d) (bitsOf w (2 + d) 1)).follow).rangeWriteOp (16 + d) (w.getLsbD d)
      s.onlyIf (w.getLsbD (4 + d)) (fun s => s.hpClrOp d)))
  else if base = Reg.JACK_CTRL 0 then some (s.onlyIf (w.getLsbD 0) (fun s => s.reidOp i))
  else if base = Reg.SPK_CTRL 0 then
    let s := (s.put (Reg.SPK_CTRL_MUTE i) (bitsOf w 0 1)).follow
    let s := s.onlyIf (w.getLsbD 1) (fun s => s.spkClrOp i)
    some (s.onlyIf (w.getLsbD 2) (fun s => s.checkOp i))
  else if base = Reg.SPK_THM_DT 0 then some (s.thermWrite i (bitsOf w 0 16) (bitsOf w 16 16))
  else none

/-- Chains and the Direct path (R131, R132, R162). -/
def Block.pathWrite (s : Block) (base i j : Nat) (w : Word) : Option Block :=
  if (base = Reg.CHAIN_DMASK 0 || base = Reg.CHAIN_DEVT 0) && !s.chainRuns (.dec i) then some s
  else if (base = Reg.CHAIN_IMASK 0 || base = Reg.CHAIN_IEVT 0) && !s.chainRuns (.int i) then some s
  else if base = Reg.CHAIN_DSHIFT 0 then some (s.shiftWriteOp (.dec i) (bitsOf w 0 24))
  else if base = Reg.CHAIN_ISHIFT 0 then some (s.shiftWriteOp (.int i) (bitsOf w 0 24))
  else if base = Reg.CHAIN_DCTRL 0 then some (s.onlyIf (w.getLsbD 0) (fun s => s.srstOp (.dec i)))
  else if base = Reg.CHAIN_ICTRL 0 then some (s.onlyIf (w.getLsbD 0) (fun s => s.srstOp (.int i)))
  else if base = Reg.DIR_XP 0 0 then some (s.xpGainWriteOp i j (w.extractLsb' 0 18))
  else if base = Reg.DIR_BQCTRL 0 then some (s.onlyIf (w.getLsbD 0) (fun s => s.bqSwapOp i))
  else if base = Reg.DIR_GLB_CTRL then
    let s := s.put Reg.DIR_GLB_CTRL_ZCTO (bitsOf w 8 8)
    some (if w.getLsbD 0 then s.put Reg.DIR_GLB_CTRL_HOLD 1 else if s.on Reg.DIR_GLB_CTRL_HOLD then s.holdReleaseOp else s)
  else none

/-- A word of a block's page (R199 to R202, R224 to R236): gains hold the value in force, and the word counts from a later graph instant. -/
def Block.pageWrite (s : Block) (b a : Nat) (w : Word) : Block :=
  if !s.present b then s else
  match findReg a with
  | none => s
  | some r =>
    let new := writeFields r (s.word a) w
    let new := if r.base = Reg.TG_INC 0 then (if 0x80000000 < new.toNat then 0x80000000 else new)
      else if r.base = Reg.TG_SEED 0 then (if new = 0 then 1 else new)
      else if r.base = Reg.BP_DYN_A 0 then (if bitsOf new 0 2 = 1 then setBits new 0 2 0 else new) else new
    let gains := (blockGains b).filter (fun x => x.1.addr == a || (r.base == Reg.STR_CTRL 0 && x.1.addr == Reg.STR_LEVEL b))
    let s := s.forAll gains (fun x s => s.holdGain x.1 (s.gainNow x.1 (x.2.1 s)))
    if new = s.word a then s else (s.parWrite a (s.word a)).setW a new

/-- The graph and its blocks (R174, R195, R198, R201, R222 to R236). -/
def Block.graphWrite (s : Block) (base i j : Nat) (a : Nat) (w : Word) : Option Block :=
  if base = Reg.GRF_GLB_CTRL then
    some (if w.getLsbD 0 then s.put Reg.GRF_GLB_CTRL_SELHOLD 1 else if s.on Reg.GRF_GLB_CTRL_SELHOLD then s.selholdReleaseOp else s)
  else if base = Reg.GRF_SEL 0 then some (s.altWriteOp i (bitsOf w 0 2))
  else if base = Reg.GRF_RING_WR 0 then some (s.ringIndexOp i true w.toNat)
  else if base = Reg.GRF_RING_RD 0 then some (s.ringIndexOp i false w.toNat)
  else if base = Reg.DLY_TIME 0 0 then some (s.timeWriteOp i j (bitsOf w 0 26))
  else if base = Reg.RVB_PRE 0 then some (s.preWriteOp i (bitsOf w 0 13))
  else if base = Reg.CNV_CTRL 0 then some (s.onlyIf (w.getLsbD 0) (fun s => s.scarfRequest (40 + i) 2))
  else if base = Reg.MOD_CTRL 0 then some (s.onlyIf (w.getLsbD 0) (fun s => s.lforstOp i))
  else if base = Reg.EFX_TGSYNC then some (s.forAll ((List.range 8).filter (fun g => w.getLsbD g)) (fun g s => s.prstOp g))
  else match pageOwner a with
    | none => none
    | some b =>
      let s := s.pageWrite b a w
      let s := s.onlyIf (base == Reg.TG_CTRL 0 && w.getLsbD 0) (fun s => s.prstOp i)
      let apply : Bool := ((base == Reg.STR_CTRL 0 || base == Reg.BP_CTRL 0) && w.getLsbD 0) || (base == Reg.TG_CTRL 0 && w.getLsbD 1)
      some (s.onlyIf apply (fun s => s.applyOp b))

/-- An entry of a sequence: a reserved channel code leaves CH as it was (R333). -/
def Block.entryWrite (s : Block) (a : Nat) (ch : Fld) (w : Word) : Block :=
  s.plainWrite a (if 0x28 ≤ bitsOf w 0 6 then setBits w 0 6 (s.f ch) else w)

/-- The control-sense converter (R335, R339, R348, R351, R354, R357). -/
def Block.senseWrite (s : Block) (base i : Nat) (w : Word) : Option Block :=
  if base = Reg.CSC_REF then some ((s.plainWrite Reg.CSC_REF w).refFollow)
  else if base = Reg.CSC_RSEQ then
    some (if 32 < bitsOf w 0 6 + bitsOf w 8 6 then s.raise Reg.CSC_EVT_CFGERR else s.plainWrite Reg.CSC_RSEQ w)
  else if base = Reg.CSC_CTRL then some (s.cscStartOp (bitsOf w 0 3))
  else if base = Reg.CSC_SNAP_CTRL then
    let s := s.plainWrite Reg.CSC_SNAP_CTRL w
    some (s.onlyIf (w.getLsbD 16) (fun s => s.snapshotOp))
  else if base = Reg.CSC_TMR 0 then
    let ran := s.on (Reg.CSC_TMR_EN i)
    let s := s.plainWrite (Reg.CSC_TMR i) w
    some (if s.on (Reg.CSC_TMR_EN i) && !ran then s.startTimer i else s)
  else if base = Reg.CSC_RENT 0 then some (s.entryWrite (Reg.CSC_RENT i) (Reg.CSC_RENT_CH i) w)
  else if base = Reg.CSC_IENT 0 then some (s.entryWrite (Reg.CSC_IENT i) (Reg.CSC_IENT_CH i) w)
  else if base = Reg.CSC_WC_CFG 0 then
    let acc := s.f (Reg.CSC_WC_CFG_ACC i)
    let avg := s.f (Reg.CSC_WC_CFG_AVG i)
    let ran := s.on (Reg.CSC_WC_CFG_EN i)
    let s := s.plainWrite (Reg.CSC_WC_CFG i) w
    some (if s.f (Reg.CSC_WC_CFG_ACC i) = acc && s.f (Reg.CSC_WC_CFG_AVG i) = avg && (ran || !s.on (Reg.CSC_WC_CFG_EN i)) then s
      else { s with csc := { s.csc with hists := Tab.set (fun _ => []) s.csc.hists i [] } })
  else none

/-- Clocks and Trellis (R361, R369, R404, R409, R432). -/
def Block.linkWrite (s : Block) (base i : Nat) (w : Word) : Option Block :=
  if base = Reg.CLK_CTRL then
    let ref := if s.on Reg.CLK_CFG_XTAL then bitsOf w 0 1 else 0
    let s := (s.put Reg.CLK_CTRL_REFSEL ref).put Reg.CLK_CTRL_MCLKOEN (bitsOf w 1 1)
    some (s.onlyIf (w.getLsbD 8) (fun s => s.clkCommitOp))
  else if base = Reg.CLK_AON then some (s.x32Write (w.getLsbD 0))
  else if base = Reg.TRL_PCTRL 0 then some (s.onlyIf (w.getLsbD 0) (fun s => s.retrainOp i))
  else if base = Reg.TRL_RT_CTRL then some (s.onlyIf (w.getLsbD 0) (fun s => s.startOp))
  else if base = Reg.TRL_LIN 0 then some (s.onlyIf (w.getLsbD 28) (fun s => s.forceOp i))
  else none

/-- Memories, xSPI and DMA (R452, R455, R458 to R467). -/
def Block.memWrite (s : Block) (base i : Nat) (w : Word) : Option Block :=
  if base = Reg.XSPI_CFG then some (s.xspiCfgWrite w)
  else if base = Reg.XSPI_ICMD then
    let s := s.plainWrite Reg.XSPI_ICMD w
    some (s.onlyIf (w.getLsbD 31) (fun s => s.indirectOp))
  else if base = Reg.DMA_CH_CFG 0 then some (if s.dmaState i = dmaIdle then s.plainWrite (Reg.DMA_CH_CFG i) w else s)
  else if base = Reg.DMA_CH_BASE 0 then
    some (if s.dmaState i = dmaIdle then (s.put (Reg.DMA_CH_BASE_BASE i) (bitsOf w 0 24 / 16 * 16)).put (Reg.DMA_CH_STAT_IDX i) 0 else s)
  else if base = Reg.DMA_CH_CTRL 0 then
    let s := s.onlyIf (w.getLsbD 0) (fun s => s.dmaGoOp i)
    -- STOP and ABORT in one cycle: ABORT alone (R467)
    let s := s.onlyIf (w.getLsbD 1 && !w.getLsbD 2) (fun s => s.dmaStopOp i)
    let s := s.onlyIf (w.getLsbD 2) (fun s => s.dmaAbortOp i false)
    let s := s.onlyIf (w.getLsbD 3) (fun s => s.dmaSkipOp i)
    some (s.onlyIf (w.getLsbD 4) (fun s => s.dmaRestartOp i))
  else none

/-- IMG_CTRL (R496, R502): COMMIT and LOAD in one cycle are both refused. -/
def Block.imgCtrlWrite (s : Block) (w : Word) : Block :=
  let s := s.onlyIf (w.getLsbD 1) (fun s => s.abortOp)
  let s := s.onlyIf (w.getLsbD 3) (fun s => s.discardOp)
  if w.getLsbD 0 && w.getLsbD 2 then s.imgError 0x43 0 0
  else (s.onlyIf (w.getLsbD 0) (fun s => s.commitOp)).onlyIf (w.getLsbD 2) (fun s => s.loadOp)

/-- PWR_CTRL (R526, R535, R540). -/
def Block.pwrCtrlWrite (s : Block) (w : Word) : Block :=
  let s := s.put Reg.PWR_CTRL_REQ (bitsOf w 0 4)
  let s := s.onlyIf (w.getLsbD 8) (fun s => s.modeRequestOp (bitsOf w 0 4))
  let s := s.onlyIf (w.getLsbD 9) (fun s => s.modPwr (fun p => { p with tsDue := true }))
  s.onlyIf (w.getLsbD 10) (fun s => s.ringstopOp)

/-- SEC_PROG (R558). -/
def Block.secProgWrite (s : Block) (w : Word) : Block :=
  let s := (s.put Reg.SEC_PROG_SEL (bitsOf w 0 3)).put Reg.SEC_PROG_OPT (bitsOf w 4 1)
  let s := s.onlyIf (w.getLsbD 8) (fun s => s.secProgramOp (bitsOf w 0 3) (w.getLsbD 4))
  s.onlyIf (w.getLsbD 9) (fun s => s.revokeOp (bitsOf w 0 3))

/-- System, interrupts, image, power, security, self-test and ledger (R503, R523, R547, R568). -/
def Block.sysWrite (s : Block) (base : Nat) (w : Word) : Option Block :=
  if base = Reg.SYS_CTRL then some ((s.put Reg.SYS_CTRL_FAULTOUT (bitsOf w 16 1)).rstkeyOp (bitsOf w 0 16))
  else if base = Reg.SYS_WDOG_CFG then some (s.wdogCfgWrite w)
  else if base = Reg.SYS_WDOG_KICK then some (s.kickOp (bitsOf w 0 16))
  else if base = Reg.IRQ_CTRL then some (s.onlyIf (w.getLsbD 0) (fun s => s.rearmOp))
  else if base = Reg.PWR_CTRL then some (s.pwrCtrlWrite w)
  else if base = Reg.IMG_CTRL then some (s.imgCtrlWrite w)
  else if base = Reg.SEC_LC_CTRL then some (s.lcTransitionOp (bitsOf w 0 3) (w.extractLsb' 16 16))
  else if base = Reg.SEC_PROG then some (s.secProgWrite w)
  else if base = Reg.SEC_CTRL then some (s.onlyIf (w.getLsbD 0) (fun s => s.scanenOp))
  else if base = Reg.BST_CTRL then some (s.onlyIf (w.getLsbD 0) (fun s => s.fullOp))
  else if base = Reg.FLT_CTRL then
    let s := s.onlyIf (w.getLsbD 0) (fun s => s.fltClrOp)
    some (s.onlyIf (w.getLsbD 1) (fun s => s.ackOp))
  else none

/-- The write of a register with a write of its own, by the block its address falls in (R513); none where the write is plain. -/
def Block.ownWrite (s : Block) (base i j a : Nat) (w : Word) : Option Block :=
  if base < 0x3000 then s.sysWrite base w
  else if base < 0x4000 then s.linkWrite base i w
  else if base < 0x10000 then s.sysWrite base w
  else if base < 0x20000 then s.cellWrite base i w
  else if base < 0x30000 then s.portWrite base i w
  else if base < 0x38000 then s.pathWrite base i j w
  else if base < 0x40000 then none
  else if base < 0x60000 then s.graphWrite base i j a w
  else if base < 0x70000 then s.pathWrite base i j w
  else if base < 0x80000 then s.senseWrite base i w
  else if base < 0x90000 then s.linkWrite base i w
  else s.memWrite base i w

/-- A write of a register word (R8, R10, R202, R508). -/
def Block.regWrite (s : Block) (a : Nat) (w : Word) : Block :=
  match findReg a with
  | none => s
  | some r =>
    if s.absentAt a then s else
    let ix := (r.indices a).getD []
    match s.ownWrite r.base (ix.getD 0 0) (ix.getD 1 0) a w with
    | some t => t
    | none => s.plainWrite a w

/-- A write of a word of the local map (R508, R513). -/
def Block.writeWord (s : Block) (a : Nat) (w : Word) : Block :=
  let a := a / 4 * 4
  if sramBase ≤ a && a < sramBase + sramSize then (s.marchYields (a - sramBase)).sramWrite (a - sramBase) w
  else if coefBase ≤ a && a < coefBase + 0x10000 then (s.coefStore (a - coefBase) w).2
  else if cfgBase ≤ a && a < cfgBase + 0x40000 then s.raise Reg.MEM_EVT_CFGWR
  else s.regWrite a w

/-- Whether the shut cloche forbids a write (R102): it would close the supply switch of a talkback port or clock its cells. -/
def Block.clocheForbids (s : Block) (a : Nat) (w : Word) : Bool :=
  s.ports.shut &&
  ((List.range 4).any (fun m => a == Reg.MB_CFG m && w.getLsbD 7 && s.on (Reg.MB_STAT_CUT m)) ||
   s.talkPorts.any (fun n => a == Reg.CELL_GRP_CTRL n && (w.getLsbD 16 || w.getLsbD 17)))

/-! ## The commands -/

/-- REARM (R516). -/
def execRearm (s : State) : Host.Outcome State Fault Refusal := s.hostWrite true (fun b => b.rearmOp)

/-- REARM_END (R516). -/
def execRearmEnd (s : State) : Host.Outcome State Fault Refusal := s.act true (fun b => b.rearmEndOp)

/-- KICK (R520). -/
def execKick (v : Word) (s : State) : Host.Outcome State Fault Refusal := s.hostWrite true (fun b => b.kickOp (bitsOf v 0 16))

/-- WDWARN (R520). -/
def execWdwarn (s : State) : Host.Outcome State Fault Refusal := s.act true (fun b => b.wdwarnOp)

/-- WDOG_EXPIRY (R520). -/
def execWdogExpiry (s : State) : Host.Outcome State Fault Refusal := s.act true (fun b => b.wdogExpiryOp)

/-- RSTKEY (R521). -/
def execRstkey (v : BitVec 16) (s : State) : Host.Outcome State Fault Refusal := s.hostWrite true (fun b => b.rstkeyOp v.toNat)

/-- SOFTWARE_RESET (R521). -/
def execSoftwareReset (s : State) : Host.Outcome State Fault Refusal := s.act true (fun b => b.softResetOp)

end Sys2Proof.Machine
end

