-- ==== Sys2Proof/Machine/DmaBeat.lean ====
section
/-! DEFINITION. The accesses of the DMA engine (R449, R450, R462 to R465): a beat of a channel, and the read-back that completes a descriptor. -/

namespace Sys2Proof.Machine

/-! ## The bytes of a beat -/

/-- The chunks of a descriptor are its bytes by eights, upward or downward (R462, R463): offset and length of chunk k. -/
def DmaSt.chunk (x : DmaSt) (k : Nat) : Nat × Nat :=
  if x.down then (x.len - 8 * (k + 1), min 8 (x.len - 8 * k)) else (8 * k, min 8 (x.len - 8 * k))

/-- SWAP over the bytes of a beat (R457, R462). -/
def swapBytes : Nat → List Byte → List Byte
  | 1, a :: b :: rest => b :: a :: swapBytes 1 rest
  | 2, a :: b :: c :: d :: rest => c :: d :: a :: b :: swapBytes 2 rest
  | 3, a :: b :: c :: d :: rest => d :: c :: b :: a :: swapBytes 3 rest
  | _, bs => bs

/-- Byte addresses gathered into accesses of one word each: the word's system address and the byte offsets within it, in order. -/
def wordGroups : List Nat → List (Nat × List Nat)
  | [] => []
  | a :: rest =>
    match wordGroups rest with
    | (w, o :: os) :: gs => if a / 4 * 4 = w && a + 1 = w + o then (w, a % 4 :: o :: os) :: gs else (a / 4 * 4, [a % 4]) :: (w, o :: os) :: gs
    | gs => (a / 4 * 4, [a % 4]) :: gs

/-- Whether a system address reaches the local map (R449). -/
def inMap (a : Nat) : Bool := a < 0x1000000

/-- Whether a local address lies in the audio SRAM. -/
def inSram (a : Nat) : Bool := sramBase ≤ a && a < sramBase + sramSize

/-- Whether a local address lies in coefficient memory. -/
def inCoef (a : Nat) : Bool := coefBase ≤ a && a < coefBase + 0x10000

/-- Whether a local address lies in configuration memory. -/
def inConfig (a : Nat) : Bool := cfgBase ≤ a && a < cfgBase + 0x40000

/-- Causes of ERRINFO (R470): ADDR, RO, ECC, BANK, XSPI, CLOSED, VERIFY. -/
def causeAddr : Nat := 1
/-- RO. -/
def causeRo : Nat := 2
/-- ECC. -/
def causeEcc : Nat := 3
/-- BANK. -/
def causeBank : Nat := 4
/-- XSPI. -/
def causeXspi : Nat := 5
/-- CLOSED. -/
def causeClosed : Nat := 6
/-- VERIFY. -/
def causeVerify : Nat := 7

/-! ## Reads -/

/-- Read a word for a channel: the word, or the cause of a bus error (R442, R443, R449, R464). -/
def Block.dmaReadWord (s : Block) (c a : Nat) : Except Nat Word × Block :=
  if !inMap a then (.error causeAddr, s)
  else if inSram a || inCoef a then
    let (w, st, s) := if inSram a then (s.marchYields (a - sramBase)).sramRead (a - sramBase) 1 (s.dmaSnap c)
      else s.coefFetch (a - coefBase) 1 (s.dmaSnap c)
    (if st = 1 then .error causeEcc else if st = 2 then .error causeBank else .ok w, s)
  else
    let (w, s) := s.readWord a
    (.ok w, s)

/-- Bytes of the map read for a channel, access by access; the cause and address of the first bus error. -/
def Block.dmaReadMap (s : Block) (c : Nat) : List (Nat × List Nat) → Except (Nat × Nat) (List Byte) × Block
  | [] => (.ok [], s)
  | (a, os) :: rest =>
    match s.dmaReadWord c a with
    | (.error e, s) => (.error (e, a), s)
    | (.ok w, s) =>
      match Block.dmaReadMap s c rest with
      | (.ok bs, s) => (.ok (os.map (fun o => (beBytes 4 w.toNat).getD o 0) ++ bs), s)
      | r => r

/-- The controller takes a DMA access: a mode is on, and neither a poll nor an indirect command is under way (R453, R455). -/
def Block.xspiTakes (s : Block) : Bool := s.mem.xspi.poll.isNone && !s.on Reg.XSPI_STAT_IBUSY

/-- The bytes of a DMA read go out as read commands (R453). -/
def Block.xspiReadAt (s : Block) (first : Bool) (addrs : List Nat) : Block :=
  addrs.zipIdx.foldl (fun s p => s.xspiByte false (first && p.2 == 0) (p.1 - 0x20000000) []) s

/-- The bytes of the next chunk from its source: none where the memory has not answered or the controller is busy, else the bytes or a bus error. -/
def Block.dmaSource (s : Block) (c : Nat) (o n : Nat) (ext : List Byte) : Option (Except (Nat × Nat) (List Byte)) × Block :=
  let x := s.dma c
  let addrs := (List.range n).map (fun i => wrapAddr x.src x.swrap (o + i))
  let a := addrs.headD 0
  if inWindow a then
    match addrs.find? (fun a => !inWindow a) with
    | some e => (some (.error (causeAddr, e)), s)
    | none =>
      if s.f Reg.XSPI_STAT_MODE_NOW = 0 then (some (.error (causeXspi, a)), s)
      else if !s.xspiTakes || ext.length < n then (none, s)
      else (some (.ok (ext.take n)), s.xspiReadAt (x.got == 0) addrs)
  else
    let (r, s) := s.dmaReadMap c (wordGroups addrs)
    (some r, s)

/-! ## Writes -/

/-- The cause for which a channel may not write bytes of a word; none where it may (R440, R443, R448, R449, R464). -/
def Block.dmaWriteCause (s : Block) (a : Nat) (whole : Bool) : Option Nat :=
  if !inMap a then some causeAddr
  else if inSram a then
    if s.bankFailed (bankOf (a - sramBase)) then some causeBank else if !whole && s.upset a = 2 then some causeEcc else none
  else if inCoef a then
    if s.coefClosed (a - coefBase) then some causeClosed else if !whole && s.upset a = 2 then some causeEcc else none
  else if inConfig a then some causeRo
  else none

/-- Put bytes at offsets of a word. -/
def mergeBytes (w : Word) (bs : List (Nat × Byte)) : Word :=
  bs.foldl (fun w p => setBits w (8 * (3 - p.1)) 8 p.2.toNat) w

/-- Write bytes of a word for a channel: a part of a word is read, merged and written whole (R440). -/
def Block.dmaWriteWord (s : Block) (c a : Nat) (bs : List (Nat × Byte)) : Block :=
  if bs.length = 4 then s.writeWord a (mergeBytes 0 bs)
  else
    match s.dmaReadWord c a with
    | (.ok w, s) => s.writeWord a (mergeBytes w bs)
    | (.error _, s) => s

/-- The writes of a beat to the map: refused as a whole before its first write, with the cause and address (R464). -/
def Block.dmaWriteMap (s : Block) (c : Nat) (gs : List (Nat × List (Nat × Byte))) : Option (Nat × Nat) × Block :=
  match gs.findSome? (fun g => (s.dmaWriteCause g.1 (g.2.length == 4)).map (fun e => (e, g.1))) with
  | some e =>
    let s := if e.1 = causeClosed then s.raise Reg.EFX_EVT_CWERR else s
    -- the merge that finds an uncorrectable word has read it
    let s := if e.1 = causeEcc then (s.dmaReadWord c e.2).2 else s
    (some e, s)
  | none => (none, gs.foldl (fun s g => s.dmaWriteWord c g.1 g.2) s)

/-- Hand the bytes of a beat out to their words. -/
def spreadBytes : List (Nat × List Nat) → List Byte → List (Nat × List (Nat × Byte))
  | [], _ => []
  | (a, os) :: rest, bs => (a, os.zip bs) :: spreadBytes rest (bs.drop os.length)

/-- Write the oldest beat of the buffer; it waits while the controller is busy (R453, R464, R469). -/
def Block.dmaDrain (s : Block) (c : Nat) : Block :=
  let x := s.dma c
  match x.buffer with
  | [] => s
  | (o, bs) :: rest =>
    let addrs := (List.range bs.length).map (fun i => wrapAddr x.dst x.dwrap (o + i))
    let a := addrs.headD 0
    let took (s : Block) : Block :=
      (s.modDma c (fun y => { y with buffer := rest, lastBeat := some (o, bs) })).put (Reg.DMA_CH_PROG0_XFER c)
        (s.f (Reg.DMA_CH_PROG0_XFER c) + bs.length)
    if inWindow a then
      match addrs.find? (fun a => !inWindow a) with
      | some e => s.dmaHaltAt c true causeAddr e
      | none =>
        if s.f Reg.XSPI_STAT_MODE_NOW = 0 then s.dmaHaltAt c true causeXspi a
        else if !s.xspiTakes then s
        else took (s.xspiStore c (s.f (Reg.DMA_CH_PROG0_XFER c) == 0) ((addrs.map (· - 0x20000000)).zip bs))
    else
      match s.dmaWriteMap c (spreadBytes (wordGroups addrs) bs) with
      | (some e, s) => s.dmaHaltAt c true e.1 e.2
      | (none, s) => if s.dmaState c = dmaRun then took s else s

/-- The bytes of a descriptor read so far. -/
def DmaSt.allRead (x : DmaSt) : Bool := x.len ≤ x.got

/-- Read the next chunk into the buffer, where it has room (R466). -/
def Block.dmaFill (s : Block) (c : Nat) (ext : List Byte) : Block :=
  let x := s.dma c
  if x.allRead || 16 ≤ x.buffer.length then s else
  let (o, n) := x.chunk ((x.got + 7) / 8)
  match s.dmaSource c o n ext with
  | (none, s) => s
  | (some (.error e), s) => s.dmaHaltAt c false e.1 e.2
  | (some (.ok bs), s) => s.modDma c (fun y => { y with buffer := y.buffer ++ [(o, swapBytes x.swap bs)], got := y.got + n })

/-- After the last write beat: a flash page goes out, and the read-back follows (R453, R465). -/
def Block.dmaLast (s : Block) (c : Nat) : Block :=
  let x := s.dma c
  if s.dmaState c = dmaRun && x.allRead && x.buffer.isEmpty then
    let s := if s.mem.xspi.page.isSome && s.mem.xspi.chan = c then s.flushPage else s
    s.setDma c dmaReadback
  else s

/-- A channel has a beat that the engine can move without waiting for the external memory (R466). -/
def Block.dmaReady (s : Block) (c : Nat) : Bool :=
  let x := s.dma c
  s.dmaState c == dmaRun &&
  if x.buffer.isEmpty then !x.allRead && !inWindow x.src else !inWindow x.dst || s.xspiTakes

/-- The priority of a channel (R466). -/
def Block.dmaPrio (s : Block) (c : Nat) : Nat := s.f (Reg.DMA_CH_CFG_PRIO c)

/-- The engine serves the channel next (R466): no ready channel of higher priority stands before it, and among those of its priority the one whose
burst of 16 beats is under way goes first, then the next in ascending order. -/
def Block.dmaTurn (s : Block) (c : Nat) : Bool :=
  let ready := (List.range 16).filter (fun d => d == c || s.dmaReady d)
  let peers := ready.filter (fun d => s.dmaPrio d == s.dmaPrio c)
  let (e, n) := Tab.get (fun _ => (15, 16)) s.mem.turns (s.dmaPrio c)
  ready.all (fun d => s.dmaPrio d ≤ s.dmaPrio c) &&
  c == (if peers.contains e && n < 16 then e else (peers.find? (fun d => e < d)).getD (peers.headD c))

/-- The engine has moved a beat of a channel (R466). -/
def Block.dmaServed (s : Block) (c : Nat) : Block :=
  s.modMem (fun m => { m with turns := Tab.upd (fun _ => (15, 16)) m.turns (s.dmaPrio c)
                                         (fun (t : Nat × Nat) => if t.1 = c && t.2 < 16 then (c, t.2 + 1) else (c, 1)) })

/-- DMA_BEAT (R462, R466): in its turn the channel reads its next beat and writes its oldest one. -/
def Block.dmaBeatOp (s : Block) (c : Nat) (ext : List Byte) (us : List Upset) : Block :=
  if s.dmaState c != dmaRun || !s.dmaTurn c then s else
  let x := s.dma c
  let s := (s.takeUpsets us).dmaFill c ext
  if s.dmaState c != dmaRun then s else
  let s := s.dmaDrain c
  let s := if s.dma c = x then s else s.dmaServed c
  s.dmaLast c

/-! ## Completion -/

/-- The descriptor completes with RESULT OK (R465, R469). -/
def Block.dmaDone (s : Block) (c : Nat) : Block :=
  let x := s.dma c
  let s := ((s.put (Reg.DMA_CH_PROG1_CONF c) x.len).writeBack c 1).bump (Reg.DMA_CH_CNT_DONE c)
  (s.onlyIf (x.ctl.getLsbD 1) (fun s => s.raise (Reg.DMA_EVT_DONE_DONE.bit c))).dmaGoOn c

/-- DMA_COMPLETE (R465): the last beat is read back; for flash after its poll. -/
def Block.dmaCompleteOp (s : Block) (c : Nat) (ext : List Byte) (us : List Upset) : Block :=
  if s.dmaState c != dmaReadback then s else
  let x := s.dma c
  match x.lastBeat with
  | none => s
  | some (o, bs) =>
    let addrs := (List.range bs.length).map (fun i => wrapAddr x.dst x.dwrap (o + i))
    let a := addrs.headD 0
    if inWindow a then
      if !s.xspiTakes || (s.mem.xspi.page.isSome && s.mem.xspi.chan = c) || ext.length < bs.length then s
      else
        let s := s.xspiReadAt true addrs
        if ext.take bs.length = bs then s.dmaDone c else s.dmaHaltAt c false causeVerify a
    else
      match (s.takeUpsets us).dmaReadMap c (wordGroups addrs) with
      | (.error e, s) => s.dmaHaltAt c false e.1 e.2
      | (.ok got, s) => if inRegisters a || got = bs then s.dmaDone c else s.dmaHaltAt c false causeVerify a

/-! ## The commands -/

/-- DMA_BEAT (R462). -/
def execDmaBeat (c : Nat) (ext : List Byte) (upsets : List Upset) (s : State) : Host.Outcome State Fault Refusal :=
  s.act (c < 16) (fun b => b.dmaBeatOp c ext upsets)

/-- DMA_COMPLETE (R465). -/
def execDmaComplete (c : Nat) (ext : List Byte) (upsets : List Upset) (s : State) : Host.Outcome State Fault Refusal :=
  s.act (c < 16) (fun b => b.dmaCompleteOp c ext upsets)

end Sys2Proof.Machine
end

