-- ==== Sys2Proof/Machine/Transact.lean ====
section
/-! DEFINITION. The transactions of the SPI port (R504 to R512), and the remote accesses that other devices make (R421, R422, R424). -/

namespace Sys2Proof.Machine

/-- The status byte (R506). -/
def Block.statusByte (s : Block) : Byte :=
  BitVec.ofNat 8 (bitAt s.host.irqLow 7 + bitAt s.faultLow 6 + bitAt (s.on Reg.TRL_RA_STAT_RPEND) 5 + bitAt (s.on Reg.TRL_RA_STAT_RDONE) 4 +
    bitAt (s.mode == modeLoad) 3 + bitAt s.host.prevErr 2 + bitAt s.coreOn 1)

/-- The status word (R512). -/
def Block.statusWord (s : Block) : Word :=
  BitVec.ofNat 32 (s.summary * 2 ^ 16 + s.mode * 2 ^ 12 + bitAt s.coreOn 11 + bitAt s.faultLow 10)

/-- A transaction sets a bit of SYS_EVT [3:0]; the next status byte shows ERR (R506). -/
def Block.portErr (s : Block) (x : Fld) : Block := (s.raise x).modHost (fun h => { h with prevErr := true })

/-- CS_N falls (R506): the status byte is formed, and ERR is cleared. -/
def Block.csFall (s : Block) : Block := s.modHost (fun h => { h with status := s.statusByte, prevErr := false, sdo := [] })

/-- CS_N rises (R521, R531): a reset that was requested takes place; in REST the transaction has woken the device. -/
def Block.csRise (s : Block) : Block := (if s.base = modeRest && !s.pwr.waking then s.wake 4 else s).softResetOp

/-- A transaction: in OFF and DORMANT the port is unpowered (R511). -/
def Block.transact (s : Block) (g : Block → Block) : Block :=
  if s.base = modeOff || s.base = modeDormant then s else (g s.csFall).csRise

/-- Words are shifted out on SDO. -/
def Block.shiftOut (s : Block) (ws : List Word) : Block := s.modHost (fun h => { h with sdo := ws })

/-- The local address of word i of a burst (R507). -/
def burstAddr (addr : Word) (i : Nat) : Nat := (addr.toNat % 2 ^ 24 / 4 * 4 + 4 * i) % 2 ^ 24

/-- The target of an address word (R422). -/
def targetOf (addr : Word) : Nat := bitsOf addr 24 6

/-- The target is this device (R422). -/
def Block.isLocal (s : Block) (t : Nat) : Bool := t == 0 || t == s.addr

/-- Local words written in order; after the reset key the rest of the burst is ignored, and so is what follows a stop of the core clock
(R508, R521, R522). -/
def Block.writeBurst (s : Block) (addr : Word) (ws : List Word) : Block :=
  ws.zipIdx.foldl (fun s p =>
    if s.host.rstReq then s
    else if !s.coreOn then s.portErr Reg.SYS_EVT_NOCORE
    else s.writeWord (burstAddr addr p.2) p.1) s

/-- SPI_WRITE (R507, R508, R511, R422). -/
def Block.spiWriteOp (s : Block) (addr : Word) (ws : List Word) : Block :=
  s.transact (fun s =>
    if !s.coreOn then s.portErr Reg.SYS_EVT_NOCORE
    else if addr.toNat / 2 ^ 30 != 0 then s.portErr Reg.SYS_EVT_RSV
    else
      let t := targetOf addr
      if s.isLocal t then s.writeBurst addr ws
      else
        let s := s.remoteWrite t (burstAddr addr 0) ws
        if t = 63 then s.writeBurst addr ws else s)

/-- The addresses that the always-on controller serves (R511). -/
def aonServes (a : Nat) : Bool :=
  a == Reg.SYS_PART || a == Reg.SYS_STEP || a == Reg.SYS_UID_LO || a == Reg.SYS_UID_HI || a == Reg.SYS_AON || a == Reg.SYS_SCRATCH ||
  (0x800 ≤ a && a < 0xA00)

/-- One word of a local read: a word not ready in time is sent as zero; without a core clock only the always-on set is served (R509, R511). -/
def Block.fetchWord (s : Block) (a : Nat) (late : Bool) : Word × Block :=
  if !s.coreOn && !aonServes a then (0, s.portErr Reg.SYS_EVT_NOCORE)
  else if late then (0, s.portErr Reg.SYS_EVT_LATE)
  else s.readWord a

/-- The words of a local read, wholly shifted out. -/
def Block.readBurst (s : Block) (addr : Word) (count : Nat) (late : List Nat) : List Word × Block :=
  (List.range count).foldl (fun (p : List Word × Block) i =>
    let (w, s) := p.2.fetchWord (burstAddr addr i) (late.contains i)
    (p.1 ++ [w], s)) ([], s)

/-- SPI_READ (R507, R509, R511, R422). -/
def Block.spiReadOp (s : Block) (addr : Word) (count : Nat) (late : List Nat) (us : List Upset) : Block :=
  s.transact (fun s =>
    let s := s.takeUpsets us
    let t := targetOf addr
    if addr.toNat / 2 ^ 30 != 0 then (if s.coreOn then s.portErr Reg.SYS_EVT_RSV else s.portErr Reg.SYS_EVT_NOCORE)
    else if s.isLocal t then
      let (ws, s) := s.readBurst addr count late
      s.shiftOut ws
    else if !s.coreOn then s.portErr Reg.SYS_EVT_NOCORE
    else
      let (ws, s) := s.remoteRead t (burstAddr addr 0) count
      s.shiftOut ws)

/-- SPI_STATUS (R512): the status word, repeated. -/
def Block.spiStatusOp (s : Block) (count : Nat) : Block := s.transact (fun s => s.shiftOut (List.replicate count s.statusWord))

/-- IMAGE_STREAM (R493, R507, R511). -/
def Block.streamOp (s : Block) (addr : Word) (ws : List Word) : Block :=
  s.transact (fun s =>
    if !s.coreOn then s.portErr Reg.SYS_EVT_NOCORE
    else if addr.toNat / 2 ^ 30 != 0 then s.portErr Reg.SYS_EVT_RSV
    else s.imageStreamOp addr ws)

/-- UNKNOWN_OPCODE (R505, R511). -/
def Block.unknownOp (s : Block) : Block :=
  s.transact (fun s => if s.coreOn then s.portErr Reg.SYS_EVT_OPC else s.portErr Reg.SYS_EVT_NOCORE)

/-! ## Remote accesses at their target -/

/-- WRITE (R424): executed as a local write, and answered; a repeated request returns its stored answer (R421). -/
def Block.writePacketOp (s : Block) (p : Nat) (k : Packet) : Block :=
  s.deliver p k (fun s =>
    match s.storedAnswer k with
    | some a => s.send a
    | none =>
      let ws := wordsOf (k.payload.drop 4)
      let addr : Word := beWord (k.payload.take 4)
      let ok : Bool := k.payload.length % 4 == 0 && 1 ≤ ws.length && ws.length ≤ 64
      let denied : Bool := ws.zipIdx.any (fun x => s.clocheForbids (burstAddr addr x.2) x.1)
      let s := if ok then s.writeBurst addr ws else s
      let s := if k.dst = 63 then s else s.answer k (if !ok then 2 else if denied then 3 else 0) []
      s.softResetOp)

/-- READ (R422): local words read and answered RDATA. -/
def Block.readPacketOp (s : Block) (p : Nat) (k : Packet) : Block :=
  s.deliver p k (fun s =>
    match s.storedAnswer k with
    | some a => s.send a
    | none =>
      let n := ((k.payload.getD 4 0)).toNat
      if k.dst = 63 then s
      else if k.payload.length != 5 || n = 0 || 64 < n then s.answer k 2 []
      else
        let (ws, s) := s.readBurst (beWord (k.payload.take 4)) n []
        s.answer k 0 (ws.flatMap (fun w => beBytes 4 w.toNat)))

/-! ## The commands -/

/-- SPI_WRITE (R508). -/
def execSpiWrite (addr : Word) (words : List Word) (s : State) : Host.Outcome State Fault Refusal := s.act true (fun b => b.spiWriteOp addr words)

/-- SPI_READ (R509). -/
def execSpiRead (addr : Word) (count : Nat) (late : List Nat) (upsets : List Upset) (s : State) : Host.Outcome State Fault Refusal :=
  s.act true (fun b => b.spiReadOp addr count late upsets)

/-- SPI_STATUS (R512). -/
def execSpiStatus (count : Nat) (s : State) : Host.Outcome State Fault Refusal := s.act true (fun b => b.spiStatusOp count)

/-- IMAGE_STREAM (R493). -/
def execImageStream (addr : Word) (words : List Word) (s : State) : Host.Outcome State Fault Refusal := s.act true (fun b => b.streamOp addr words)

/-- UNKNOWN_OPCODE (R505): an opcode that R505 does not list. -/
def execUnknownOpcode (op : Byte) (s : State) : Host.Outcome State Fault Refusal :=
  s.act (op != 0x02 && op != 0x03 && op != 0x05 && op != 0x0C) (fun b => b.unknownOp)

/-- WRITE (R424). -/
def execWrite (p : Nat) (pkt : Packet) (s : State) : Host.Outcome State Fault Refusal := s.act (p < 4) (fun b => b.writePacketOp p pkt)

/-- READ (R422). -/
def execRead (p : Nat) (pkt : Packet) (s : State) : Host.Outcome State Fault Refusal := s.act (p < 4) (fun b => b.readPacketOp p pkt)

end Sys2Proof.Machine
end

