-- ==== Sys2Proof/Machine/Dispatch.lean ====
section
/-! DEFINITION. One arm for each command: the meaning it has. -/

namespace Sys2Proof.Machine

/-- The effect of a command on everything but the queue. -/
def exec (i : Instr) (s : State) : Host.Outcome State Fault Refusal :=
  match i with
  | .spiWrite addr words => Sys2Proof.Machine.execSpiWrite addr words s
  | .spiRead addr count late upsets => Sys2Proof.Machine.execSpiRead addr count late upsets s
  | .spiStatus count => Sys2Proof.Machine.execSpiStatus count s
  | .imageStream addr words => Sys2Proof.Machine.execImageStream addr words s
  | .unknownOpcode op => Sys2Proof.Machine.execUnknownOpcode op s
  | .frameBoundary => Sys2Proof.Machine.execFrameBoundary s
  | .graphInstant upsets => Sys2Proof.Machine.execGraphInstant upsets s
  | .cellConversion cell code impossible => Sys2Proof.Machine.execCellConversion cell code impossible s
  | .spareRetarget g => Sys2Proof.Machine.execSpareRetarget g s
  | .monConversion g code impossible => Sys2Proof.Machine.execMonConversion g code impossible s
  | .outSwap g => Sys2Proof.Machine.execOutSwap g s
  | .outRampEnd g => Sys2Proof.Machine.execOutRampEnd g s
  | .rotNow g => Sys2Proof.Machine.execRotNow g s
  | .retry g => Sys2Proof.Machine.execRetry g s
  | .sliceQueue g => Sys2Proof.Machine.execSliceQueue g s
  | .sliceStart => Sys2Proof.Machine.execSliceStart s
  | .recoverySlice => Sys2Proof.Machine.execRecoverySlice s
  | .promotionSlice => Sys2Proof.Machine.execPromotionSlice s
  | .scarfInEnd laddersMatch => Sys2Proof.Machine.execScarfInEnd laddersMatch s
  | .slicePattern matched => Sys2Proof.Machine.execSlicePattern matched s
  | .testPhaseEnd => Sys2Proof.Machine.execTestPhaseEnd s
  | .sliceEnd tracked => Sys2Proof.Machine.execSliceEnd tracked s
  | .spareLearn g => Sys2Proof.Machine.execSpareLearn g s
  | .gainWrite n target => Sys2Proof.Machine.execGainWrite n target s
  | .gainStep n => Sys2Proof.Machine.execGainStep n s
  | .gainTimeout n => Sys2Proof.Machine.execGainTimeout n s
  | .gainRampEnd n => Sys2Proof.Machine.execGainRampEnd n s
  | .mbiasEnable m en vset => Sys2Proof.Machine.execMbiasEnable m en vset s
  | .biasSettled m => Sys2Proof.Machine.execBiasSettled m s
  | .mbiasCurrentLimit m => Sys2Proof.Machine.execMbiasCurrentLimit m s
  | .cmRiseEnd n => Sys2Proof.Machine.execCmRiseEnd n s
  | .cmFallEnd n => Sys2Proof.Machine.execCmFallEnd n s
  | .rangeWrite o high => Sys2Proof.Machine.execRangeWrite o high s
  | .rangeSwitch o => Sys2Proof.Machine.execRangeSwitch o s
  | .rangeChangeEnd o => Sys2Proof.Machine.execRangeChangeEnd o s
  | .outputRelease o => Sys2Proof.Machine.execOutputRelease o s
  | .clocheShut => Sys2Proof.Machine.execClocheShut s
  | .clocheOpen => Sys2Proof.Machine.execClocheOpen s
  | .clocheOpenDone => Sys2Proof.Machine.execClocheOpenDone s
  | .chainOutput c => Sys2Proof.Machine.execChainOutput c s
  | .srst c => Sys2Proof.Machine.execSrst c s
  | .chainShiftWrite c w => Sys2Proof.Machine.execChainShiftWrite c w s
  | .chainRestart c => Sys2Proof.Machine.execChainRestart c s
  | .xpGainWrite o inp gain => Sys2Proof.Machine.execXpGainWrite o inp gain s
  | .xpCrossingStep o inp => Sys2Proof.Machine.execXpCrossingStep o inp s
  | .xpGainTimeout o inp => Sys2Proof.Machine.execXpGainTimeout o inp s
  | .xpRampEnd o inp => Sys2Proof.Machine.execXpRampEnd o inp s
  | .dirHoldRelease => Sys2Proof.Machine.execDirHoldRelease s
  | .bqSwap o => Sys2Proof.Machine.execBqSwap o s
  | .bqSwapEnd o => Sys2Proof.Machine.execBqSwapEnd o s
  | .routeScarfEnd o => Sys2Proof.Machine.execRouteScarfEnd o s
  | .altWrite k alt => Sys2Proof.Machine.execAltWrite k alt s
  | .selectSwitchEnd k => Sys2Proof.Machine.execSelectSwitchEnd k s
  | .selholdRelease => Sys2Proof.Machine.execSelholdRelease s
  | .ringIndexWrite t isWr v => Sys2Proof.Machine.execRingIndexWrite t isWr v s
  | .apply b => Sys2Proof.Machine.execApply b s
  | .blockScarfEnd b => Sys2Proof.Machine.execBlockScarfEnd b s
  | .cnvSwap c => Sys2Proof.Machine.execCnvSwap c s
  | .cnvCoefWrite addr w => Sys2Proof.Machine.execCnvCoefWrite addr w s
  | .lforst m => Sys2Proof.Machine.execLforst m s
  | .delayJump d ch time => Sys2Proof.Machine.execDelayJump d ch time s
  | .preDelayWrite v pre => Sys2Proof.Machine.execPreDelayWrite v pre s
  | .prst g => Sys2Proof.Machine.execPrst g s
  | .tgSync mask => Sys2Proof.Machine.execTgSync mask s
  | .commit => Sys2Proof.Machine.execCommit s
  | .graftFreezeEnd => Sys2Proof.Machine.execGraftFreezeEnd s
  | .graftSwitch => Sys2Proof.Machine.execGraftSwitch s
  | .graftSettleEnd => Sys2Proof.Machine.execGraftSettleEnd s
  | .abort => Sys2Proof.Machine.execAbort s
  | .sapFrame p f => Sys2Proof.Machine.execSapFrame p f s
  | .fsTimeout p => Sys2Proof.Machine.execFsTimeout p s
  | .spkRelease c => Sys2Proof.Machine.execSpkRelease c s
  | .spkSwitchStart c => Sys2Proof.Machine.execSpkSwitchStart c s
  | .spkRampupStart c => Sys2Proof.Machine.execSpkRampupStart c s
  | .spkRun c => Sys2Proof.Machine.execSpkRun c s
  | .spkHold c => Sys2Proof.Machine.execSpkHold c s
  | .spkOff c => Sys2Proof.Machine.execSpkOff c s
  | .privilegedConversion ch code => Sys2Proof.Machine.execPrivilegedConversion ch code s
  | .currentLimit c => Sys2Proof.Machine.execCurrentLimit c s
  | .hardShort c => Sys2Proof.Machine.execHardShort c s
  | .loadCheck c => Sys2Proof.Machine.execLoadCheck c s
  | .loadCheckEnd c => Sys2Proof.Machine.execLoadCheckEnd c s
  | .retryClear c => Sys2Proof.Machine.execRetryClear c s
  | .spkClr c => Sys2Proof.Machine.execSpkClr c s
  | .check c => Sys2Proof.Machine.execCheck c s
  | .thermalUpdate c => Sys2Proof.Machine.execThermalUpdate c s
  | .powerDieOvertemp => Sys2Proof.Machine.execPowerDieOvertemp s
  | .jackSample n below => Sys2Proof.Machine.execJackSample n below s
  | .jackDebounced n => Sys2Proof.Machine.execJackDebounced n s
  | .identificationStep n zac => Sys2Proof.Machine.execIdentificationStep n zac s
  | .identificationEnd n => Sys2Proof.Machine.execIdentificationEnd n s
  | .jackRemoval n => Sys2Proof.Machine.execJackRemoval n s
  | .removalMuteEnd o => Sys2Proof.Machine.execRemovalMuteEnd o s
  | .reidentify n => Sys2Proof.Machine.execReidentify n s
  | .reid n => Sys2Proof.Machine.execReid n s
  | .cpok => Sys2Proof.Machine.execCpok s
  | .hpStageOn side => Sys2Proof.Machine.execHpStageOn side s
  | .pumpfail => Sys2Proof.Machine.execPumpfail s
  | .hpTrip side => Sys2Proof.Machine.execHpTrip side s
  | .hpClr side => Sys2Proof.Machine.execHpClr side s
  | .sequenceTrigger q => Sys2Proof.Machine.execSequenceTrigger q s
  | .cscStart mask => Sys2Proof.Machine.execCscStart mask s
  | .cscTimer t => Sys2Proof.Machine.execCscTimer t s
  | .cscConversion unit code => Sys2Proof.Machine.execCscConversion unit code s
  | .snapshotGo => Sys2Proof.Machine.execSnapshotGo s
  | .refReady => Sys2Proof.Machine.execRefReady s
  | .x32Fail => Sys2Proof.Machine.execX32Fail s
  | .ringMeasure dev => Sys2Proof.Machine.execRingMeasure dev s
  | .pllLocked => Sys2Proof.Machine.execPllLocked s
  | .referenceLost => Sys2Proof.Machine.execReferenceLost s
  | .coastLimit phi ppm => Sys2Proof.Machine.execCoastLimit phi ppm s
  | .referenceQualified r phi ppm => Sys2Proof.Machine.execReferenceQualified r phi ppm s
  | .slewDone => Sys2Proof.Machine.execSlewDone s
  | .snapPause => Sys2Proof.Machine.execSnapPause s
  | .snapEnd => Sys2Proof.Machine.execSnapEnd s
  | .clkCommit => Sys2Proof.Machine.execClkCommit s
  | .shadowApply phi ppm => Sys2Proof.Machine.execShadowApply phi ppm s
  | .xtiQualLoss => Sys2Proof.Machine.execXtiQualLoss s
  | .linkPllLock => Sys2Proof.Machine.execLinkPllLock s
  | .linkPllLoss => Sys2Proof.Machine.execLinkPllLoss s
  | .signalDetect p => Sys2Proof.Machine.execSignalDetect p s
  | .lossOfSignal p => Sys2Proof.Machine.execLossOfSignal p s
  | .microframeReceive p mf => Sys2Proof.Machine.execMicroframeReceive p mf s
  | .failedRetry p => Sys2Proof.Machine.execFailedRetry p s
  | .retrain p => Sys2Proof.Machine.execRetrain p s
  | .gridAlign => Sys2Proof.Machine.execGridAlign s
  | .tworoot p => Sys2Proof.Machine.execTworoot p s
  | .noroot => Sys2Proof.Machine.execNoroot s
  | .censusStart => Sys2Proof.Machine.execCensusStart s
  | .start => Sys2Proof.Machine.execStart s
  | .census p pkt => Sys2Proof.Machine.execCensus p pkt s
  | .cenret p pkt => Sys2Proof.Machine.execCenret p pkt s
  | .cendone p pkt => Sys2Proof.Machine.execCendone p pkt s
  | .topo p pkt => Sys2Proof.Machine.execTopo p pkt s
  | .write p pkt => Sys2Proof.Machine.execWrite p pkt s
  | .wack p pkt => Sys2Proof.Machine.execWack p pkt s
  | .read p pkt => Sys2Proof.Machine.execRead p pkt s
  | .rdata p pkt => Sys2Proof.Machine.execRdata p pkt s
  | .loffer p pkt => Sys2Proof.Machine.execLoffer p pkt s
  | .lanswer p pkt => Sys2Proof.Machine.execLanswer p pkt s
  | .notify p pkt => Sys2Proof.Machine.execNotify p pkt s
  | .img p pkt => Sys2Proof.Machine.execImg p pkt s
  | .censusRepeat p => Sys2Proof.Machine.execCensusRepeat p s
  | .cenfail => Sys2Proof.Machine.execCenfail s
  | .censusRestart => Sys2Proof.Machine.execCensusRestart s
  | .epochDiscard => Sys2Proof.Machine.execEpochDiscard s
  | .requestRepeat seq => Sys2Proof.Machine.execRequestRepeat seq s
  | .handshakeTimeout p => Sys2Proof.Machine.execHandshakeTimeout p s
  | .protectionSwitch l => Sys2Proof.Machine.execProtectionSwitch l s
  | .protectionRevert l => Sys2Proof.Machine.execProtectionRevert l s
  | .force k => Sys2Proof.Machine.execForce k s
  | .scrubWriteback addr => Sys2Proof.Machine.execScrubWriteback addr s
  | .sramClearDone => Sys2Proof.Machine.execSramClearDone s
  | .dmaGo c => Sys2Proof.Machine.execDmaGo c s
  | .descriptorFetch c => Sys2Proof.Machine.execDescriptorFetch c s
  | .dmaBeat c ext upsets => Sys2Proof.Machine.execDmaBeat c ext upsets s
  | .dmaComplete c ext upsets => Sys2Proof.Machine.execDmaComplete c ext upsets s
  | .stop c => Sys2Proof.Machine.execStop c s
  | .dmaAbort c inCompletion => Sys2Proof.Machine.execDmaAbort c inCompletion s
  | .skip c => Sys2Proof.Machine.execSkip c s
  | .restart c => Sys2Proof.Machine.execRestart c s
  | .pageGap => Sys2Proof.Machine.execPageGap s
  | .busyPoll status => Sys2Proof.Machine.execBusyPoll status s
  | .pollTimeout => Sys2Proof.Machine.execPollTimeout s
  | .indirectCommand => Sys2Proof.Machine.execIndirectCommand s
  | .indirectDone data => Sys2Proof.Machine.execIndirectDone data s
  | .xspiBootRead bytes => Sys2Proof.Machine.execXspiBootRead bytes s
  | .xspiBootRetry => Sys2Proof.Machine.execXspiBootRetry s
  | .signatureVerified => Sys2Proof.Machine.execSignatureVerified s
  | .admission => Sys2Proof.Machine.execAdmission s
  | .admissionEnd => Sys2Proof.Machine.execAdmissionEnd s
  | .load => Sys2Proof.Machine.execLoad s
  | .discard => Sys2Proof.Machine.execDiscard s
  | .rearm => Sys2Proof.Machine.execRearm s
  | .rearmEnd => Sys2Proof.Machine.execRearmEnd s
  | .kick v => Sys2Proof.Machine.execKick v s
  | .wdwarn => Sys2Proof.Machine.execWdwarn s
  | .wdogExpiry => Sys2Proof.Machine.execWdogExpiry s
  | .rstkey v => Sys2Proof.Machine.execRstkey v s
  | .softwareReset => Sys2Proof.Machine.execSoftwareReset s
  | .wakeEvent => Sys2Proof.Machine.execWakeEvent s
  | .modeRequest req => Sys2Proof.Machine.execModeRequest req s
  | .modeEntryDone => Sys2Proof.Machine.execModeEntryDone s
  | .wakeReady => Sys2Proof.Machine.execWakeReady s
  | .tl0SignalDetect => Sys2Proof.Machine.execTl0SignalDetect s
  | .aonTimerMatch => Sys2Proof.Machine.execAonTimerMatch s
  | .hostWake => Sys2Proof.Machine.execHostWake s
  | .tslatch => Sys2Proof.Machine.execTslatch s
  | .listenSample codes => Sys2Proof.Machine.execListenSample codes s
  | .onsetBlock => Sys2Proof.Machine.execOnsetBlock s
  | .handoff => Sys2Proof.Machine.execHandoff s
  | .lsnend => Sys2Proof.Machine.execLsnend s
  | .ringstop => Sys2Proof.Machine.execRingstop s
  | .railFault r => Sys2Proof.Machine.execRailFault r s
  | .railRecovery rails cool => Sys2Proof.Machine.execRailRecovery rails cool s
  | .railReset rails => Sys2Proof.Machine.execRailReset rails s
  | .por => Sys2Proof.Machine.execPor s
  | .pinReset cause => Sys2Proof.Machine.execPinReset cause s
  | .overtemp code => Sys2Proof.Machine.execOvertemp code s
  | .coreRelease => Sys2Proof.Machine.execCoreRelease s
  | .otpLoadDone boot => Sys2Proof.Machine.execOtpLoadDone boot s
  | .bstSlice t => Sys2Proof.Machine.execBstSlice t s
  | .bstSliceEnd v => Sys2Proof.Machine.execBstSliceEnd v s
  | .bstCycleEnd => Sys2Proof.Machine.execBstCycleEnd s
  | .full => Sys2Proof.Machine.execFull s
  | .serviceEnd results => Sys2Proof.Machine.execServiceEnd results s
  | .lcTransition target key => Sys2Proof.Machine.execLcTransition target key s
  | .lcProgrammed => Sys2Proof.Machine.execLcProgrammed s
  | .secProgram sel opt => Sys2Proof.Machine.execSecProgram sel opt s
  | .revoke sel => Sys2Proof.Machine.execRevoke sel s
  | .scanen => Sys2Proof.Machine.execScanen s
  | .fltClr => Sys2Proof.Machine.execFltClr s
  | .ack => Sys2Proof.Machine.execAck s
  | .powerLoss off => Sys2Proof.Machine.execPowerLoss off s
  | .resetRelease => Sys2Proof.Machine.execResetRelease s
  | .progdone verified => Sys2Proof.Machine.execProgdone verified s
  | .slowClockSwitch => Sys2Proof.Machine.execSlowClockSwitch s
  | .mbiasOkLost m => Sys2Proof.Machine.execMbiasOkLost m s

end Sys2Proof.Machine
end

