-- ==== Sys2Proof/Machine/Tick.lean ====
section
/-! DEFINITION. What passes with one tick of the grid (R14 to R16): what the block does whatever is commanded. -/

namespace Sys2Proof.Machine

/-- A period of the slow clock begins: the always-on timer and the watchdog count (R520, R534). -/
def Block.slowPeriod (s : Block) : Block :=
  let t := s.time
  ({ s with time := { t with slowLeft := Config.slowPeriod (t.slowCount + 1) + 1, slowCount := t.slowCount + 1, aont := (t.aont + 1) % 2 ^ 48 } }).wdCount

/-- The slow clock over one tick (R359). -/
def Block.slowTick (s : Block) : Block :=
  if s.time.slowLeft ≤ 1 then s.slowPeriod else { s with time := { s.time with slowLeft := s.time.slowLeft - 1 } }

/-- The grid moves on by one tick: 16 core cycles; tick 0 carries a frame boundary, and the graph takes a sample every graph period (R14 to R16). -/
def Block.advance (s : Block) : Block :=
  let t := s.time
  let n := (t.tick + 1) % 256
  { s with time := { t with now := t.now + 16, tick := n, frameDue := t.frameDue || n == 0, graphDue := t.graphDue || n % s.graphPeriod == 0 } }

/-- The handshake at each entry of a port to UP (R426, R427): the active image is offered, and during an admission the image under admission. -/
def Block.sendOffers (s : Block) : Block :=
  let due := (List.range 4).filter (fun p => (s.port p).offerDue && s.portUp p)
  match s.img.proving, s.img.shadow with
  | some (k, _), some d =>
    if due.isEmpty then s else
    let t := (s.candidate (k == .graft) d).regs
    s.forAll (due.filter (fun p => !(s.port p).hsKeep && hasReservation t p)) (fun p s => s.sendOffer t true s.img.active.isSome p)
  | _, _ =>
    if s.img.active.isNone then s else
    s.forAll due (fun p s => if hasReservation s.regs p then s.sendOffer s.regs false false p else s.modPort p (fun x => { x with offerDue := false }))

/-- What the block does in one tick: the microframes of the tick that ends have left, the grid moves on, and everything takes its sample. -/
def Block.tickOp (s : Block) : Block :=
  if s.base = modeOff then s else
  let s := s.txSend.slotEnd
  let s := s.slowTick.advance.streamsTick.linkTick.censusTick.clkTick.cscTick.sapTick.chainTick.dirTick.spkTick
  (s.txTick s.laneOuts).txDrain.bstTick.tryActivate.sendOffers

/-- An empty queue: a tick passes. -/
def State.idle (s : State) : State := { s with toBlock := s.toBlock.tickOp.settle }

end Sys2Proof.Machine
end

