-- ==== Sys2Proof/Safety.lean ====
section
/-! DEFINITION. What counts as a safe step and as a sound state, and what a command leaves alone, in the terms the claims use. -/

namespace Sys2Proof.Machine

/-- A step went on: neither a fault nor a refusal. -/
def stepsOn (s : State) : Prop := ∃ t, step s = .next t

/-- The command answers a next state: the queue is as it was, and the block is `u` once the interrupt pin and NOTIFY have followed (R515, R517),
for a `u` of which `P` holds. -/
def gives (c : Instr) (s : State) (P : Block → Prop) : Prop := ∃ u : Block, exec c s = .next { s with toBlock := u.settle } ∧ P u

/-- The interrupt pin and NOTIFY are up to date: IRQ_N is low exactly while the masked summary is not zero and no REARM holds it released
(R515, R516), and the record of the summary being zero is right (R517). -/
def Block.irqSound (s : Block) : Prop :=
  s.host.irqLow = (s.irqPend != 0 && s.host.release.isNone) ∧ s.host.wasZero = (s.irqPend == 0)

/-- The register file and the memories are in their canonical form. -/
def Block.memSound (s : Block) : Prop :=
  Tab.wf resetWord s.regs = true ∧ s.mem.sram.wf = true ∧ s.mem.coef.wf = true ∧ s.mem.active.wf = true ∧ s.mem.shadow.wf = true

/-- What the hidden records name exists: the cells and group of a slice, the failed cell that a spare is to replace, if its slot has one, the cells of the
last conversions, the DMA channel of a flash page; and the fault ledger is in its canonical form. -/
def Block.namesExist (s : Block) : Prop :=
  (∀ sl, s.cells.slice = some sl →
    sl.cell < 86 ∧ sl.group < 18 ∧ sl.role < 8 ∧ (sl.phase = 1 → sl.spare < 86 ∧ sl.spare ≠ sl.cell)) ∧
  (∀ g slot bad due rec, (s.grp g).retarget = some (slot, bad, due, rec) → bad < 86 ∨ bad = noCell) ∧
  (∀ g t r, (s.grp g).conv = some (t, r) → r.v.isSome = true → r.cell < 86) ∧
  (∀ g r, r ∈ (s.grp g).raws → r.v.isSome = true → r.cell < 86) ∧
  s.mem.xspi.chan < 16 ∧ Tab.wf (fun _ => none) s.ledger.entries = true

/-- The components of a block other than its register file. -/
inductive Part where
  | time | free | host | ledger | core | cells | ports | chains | dir | graph | sap | spk | csc | clk | net | mem | img | pwr | lsn | bst | otp
deriving DecidableEq, Repr

/-- A component is the same in two blocks. -/
def Part.same (s t : Block) : Part → Prop
  | .time => t.time = s.time
  | .free => t.freeK = s.freeK
  | .host => t.host = s.host
  | .ledger => t.ledger = s.ledger
  | .core => t.core = s.core
  | .cells => t.cells = s.cells
  | .ports => t.ports = s.ports
  | .chains => t.chains = s.chains
  | .dir => t.dir = s.dir
  | .graph => t.graph = s.graph
  | .sap => t.sap = s.sap
  | .spk => t.spk = s.spk
  | .csc => t.csc = s.csc
  | .clk => t.clk = s.clk
  | .net => t.net = s.net
  | .mem => t.mem = s.mem
  | .img => t.img = s.img
  | .pwr => t.pwr = s.pwr
  | .lsn => t.lsn = s.lsn
  | .bst => t.bst = s.bst
  | .otp => t.otp = s.otp

/-- Whether a bit of a register lies in a field. -/
def Fld.covers (x : Fld) (a i : Nat) : Bool := x.addr == a && decide (x.lo ≤ i) && decide (i < x.lo + x.width)

/-- All of a register. -/
def Fld.all (a : Nat) : Fld := ⟨a, 0, 32⟩

/-- The frame: from `s` to `t` no register bit outside the fields `flds` changes, and no component outside `parts` does. -/
def Block.only (s t : Block) (flds : List Fld) (parts : List Part) : Prop :=
  (∀ a i, flds.any (fun x => x.covers a i) = false → (t.word a).getLsbD i = (s.word a).getLsbD i) ∧ ∀ p, p ∉ parts → p.same s t

/-- The frame by registers: from `s` to `t` no register outside `sel` changes, and no component outside `parts` does. -/
def Block.within (s t : Block) (sel : Nat → Prop) (parts : List Part) : Prop :=
  (∀ a, ¬ sel a → t.word a = s.word a) ∧ ∀ p, p ∉ parts → p.same s t

/-- The register fields that recording a fault moves (R561, R562). -/
def faultFlds : List Fld := [Reg.FLT_EVT_NEW, Reg.FLT_EVT_LOST, Reg.FLT_STAT_COUNT, Reg.FLT_STAT_NEWEST, Reg.FLT_STAT_LOST]

/-- The registers that recording a fault moves (R561, R562). -/
def faultRegs (a : Nat) : Prop := a = Reg.FLT_EVT ∨ a = Reg.FLT_STAT

/-- The registers of the converter cells, their groups and the self-test's counts that the cells' operations move (R77, R555). -/
def cellMoves (a : Nat) : Prop :=
  a = Reg.CELL_GLB_STAT ∨ a = Reg.BST_EVT ∨ faultRegs a ∨
  ∃ i, a ∈ [Reg.CELL_CFG i, Reg.CELL_STAT i, Reg.CELL_OFS i, Reg.CELL_GAIN i, Reg.CELL_SKEW i, Reg.CELL_SUBCNT i, Reg.CELL_CLIPCNT i, Reg.CELL_SLICE i,
    Reg.CELL_FAILCNT i, Reg.CELL_GRP_STAT i, Reg.CELL_GRP_EVT i, Reg.CELL_GRP_CNT i, Reg.BST_FAILCNT i]

/-- The commands that are a write of the host to a register: without a core clock they are ignored (R511). -/
def hostWrites : Instr → Bool
  | .rotNow _ | .retry _ | .gainWrite _ _ | .mbiasEnable _ _ _ | .rangeWrite _ _ | .srst _ | .chainShiftWrite _ _ | .xpGainWrite _ _ _
  | .dirHoldRelease | .bqSwap _ | .altWrite _ _ | .selholdRelease | .ringIndexWrite _ _ _ | .apply _ | .cnvSwap _ | .cnvCoefWrite _ _ | .lforst _
  | .delayJump _ _ _ | .preDelayWrite _ _ | .prst _ | .tgSync _ | .commit | .abort | .spkClr _ | .check _ | .reid _ | .hpClr _ | .cscStart _
  | .snapshotGo | .clkCommit | .retrain _ | .start | .force _ | .dmaGo _ | .stop _ | .dmaAbort _ _ | .skip _ | .restart _ | .indirectCommand
  | .load | .discard | .rearm | .kick _ | .rstkey _ | .modeRequest _ | .tslatch | .ringstop | .full | .lcTransition _ _ | .secProgram _ _
  | .revoke _ | .scanen | .fltClr | .ack => true
  | .spiWrite _ _ | .spiRead _ _ _ _ | .spiStatus _ | .imageStream _ _ | .unknownOpcode _ | .frameBoundary | .graphInstant _
  | .cellConversion _ _ _ | .spareRetarget _ | .monConversion _ _ _ | .outSwap _ | .outRampEnd _ | .sliceQueue _ | .sliceStart | .recoverySlice
  | .promotionSlice | .scarfInEnd _ | .slicePattern _ | .testPhaseEnd | .sliceEnd _ | .spareLearn _ | .gainStep _ | .gainTimeout _ | .gainRampEnd _
  | .biasSettled _ | .mbiasCurrentLimit _ | .cmRiseEnd _ | .cmFallEnd _ | .rangeSwitch _ | .rangeChangeEnd _ | .outputRelease _ | .clocheShut
  | .clocheOpen | .clocheOpenDone | .chainOutput _ | .chainRestart _ | .xpCrossingStep _ _ | .xpGainTimeout _ _ | .xpRampEnd _ _ | .bqSwapEnd _
  | .routeScarfEnd _ | .selectSwitchEnd _ | .blockScarfEnd _ | .graftFreezeEnd | .graftSwitch | .graftSettleEnd | .sapFrame _ _ | .fsTimeout _
  | .spkRelease _ | .spkSwitchStart _ | .spkRampupStart _ | .spkRun _ | .spkHold _ | .spkOff _ | .privilegedConversion _ _ | .currentLimit _
  | .hardShort _ | .loadCheck _ | .loadCheckEnd _ | .retryClear _ | .thermalUpdate _ | .powerDieOvertemp | .jackSample _ _ | .jackDebounced _
  | .identificationStep _ _ | .identificationEnd _ | .jackRemoval _ | .removalMuteEnd _ | .reidentify _ | .cpok | .hpStageOn _ | .pumpfail
  | .hpTrip _ | .sequenceTrigger _ | .cscTimer _ | .cscConversion _ _ | .refReady | .x32Fail | .ringMeasure _ | .pllLocked | .referenceLost
  | .coastLimit _ _ | .referenceQualified _ _ _ | .slewDone | .snapPause | .snapEnd | .shadowApply _ _ | .xtiQualLoss | .linkPllLock | .linkPllLoss
  | .signalDetect _ | .lossOfSignal _ | .microframeReceive _ _ | .failedRetry _ | .gridAlign | .tworoot _ | .noroot | .censusStart | .census _ _
  | .cenret _ _ | .cendone _ _ | .topo _ _ | .write _ _ | .wack _ _ | .read _ _ | .rdata _ _ | .loffer _ _ | .lanswer _ _ | .notify _ _ | .img _ _
  | .censusRepeat _ | .cenfail | .censusRestart | .epochDiscard | .requestRepeat _ | .handshakeTimeout _ | .protectionSwitch _
  | .protectionRevert _ | .scrubWriteback _ | .sramClearDone | .descriptorFetch _ | .dmaBeat _ _ _ | .dmaComplete _ _ _ | .pageGap | .busyPoll _
  | .pollTimeout | .indirectDone _ | .xspiBootRead _ | .xspiBootRetry | .signatureVerified | .admission | .admissionEnd | .rearmEnd | .wdwarn
  | .wdogExpiry | .softwareReset | .wakeEvent | .modeEntryDone | .wakeReady | .tl0SignalDetect | .aonTimerMatch | .hostWake | .listenSample _
  | .onsetBlock | .handoff | .lsnend | .railFault _ | .railRecovery _ _ | .railReset _ | .por | .pinReset _ | .overtemp _ | .coreRelease
  | .otpLoadDone _ | .bstSlice _ | .bstSliceEnd _ | .bstCycleEnd | .serviceEnd _ | .lcProgrammed | .powerLoss _ | .resetRelease | .progdone _
  | .slowClockSwitch | .mbiasOkLost _ => false

end Sys2Proof.Machine
end

