-- ==== Sys2Proof/WellFormed.lean ====
section
/-! DEFINITION. The operands that a command of this hardware can carry: unit numbers in range, values that fit their fields. Everything the
hardware decides at run time is the machine's own. -/

namespace Sys2Proof

/-- Whether the id names a half-band chain of R112 or R115. -/
def ChainId.wf : ChainId → Bool
  | .dec n => n < 16
  | .int m => m < 20

/-- Whether the id names a lane in or a bulk tap (R430, R432). -/
def ProtId.wf : ProtId → Bool
  | .lane k => k < 4
  | .bulk k => k < 32

/-- The operand check of every command. -/
def Instr.wf : Instr → Bool
  | .spiWrite _ _ | .spiRead _ _ _ _ | .spiStatus _ | .imageStream _ _ | .frameBoundary | .graphInstant _ | .sliceStart | .recoverySlice
  | .promotionSlice | .scarfInEnd _ | .slicePattern _ | .testPhaseEnd | .sliceEnd _ | .clocheShut | .clocheOpen | .clocheOpenDone
  | .dirHoldRelease | .selholdRelease | .tgSync _ | .commit | .graftFreezeEnd | .graftSwitch | .graftSettleEnd | .abort
  | .privilegedConversion _ _ | .powerDieOvertemp | .cpok | .pumpfail | .sequenceTrigger _ | .cscStart _ | .snapshotGo | .refReady
  | .x32Fail | .ringMeasure _ | .pllLocked | .referenceLost | .coastLimit _ _ | .referenceQualified _ _ _ | .slewDone | .snapPause
  | .snapEnd | .clkCommit | .shadowApply _ _ | .xtiQualLoss | .linkPllLock | .linkPllLoss | .gridAlign | .noroot | .censusStart | .start
  | .cenfail | .censusRestart | .epochDiscard | .sramClearDone | .pageGap | .busyPoll _ | .pollTimeout | .indirectCommand | .indirectDone _
  | .xspiBootRetry | .signatureVerified | .admission | .admissionEnd | .load | .discard | .rearm | .rearmEnd | .kick _ | .wdwarn
  | .wdogExpiry | .rstkey _ | .softwareReset | .wakeEvent | .modeEntryDone | .wakeReady | .tl0SignalDetect | .aonTimerMatch | .hostWake
  | .tslatch | .onsetBlock | .handoff | .lsnend | .ringstop | .railRecovery _ _ | .railReset _ | .por | .pinReset _ | .overtemp _
  | .coreRelease | .otpLoadDone _ | .bstSliceEnd _ | .bstCycleEnd | .full | .serviceEnd _ | .lcProgrammed | .scanen | .fltClr | .ack
  | .powerLoss _ | .resetRelease | .progdone _ | .slowClockSwitch => true
  | .unknownOpcode op => op != 0x02 && op != 0x03 && op != 0x05 && op != 0x0C
  | .cellConversion cell _ _ => cell < 86
  | .spareRetarget g | .monConversion g _ _ | .outSwap g | .outRampEnd g | .rotNow g | .retry g | .sliceQueue g | .spareLearn g => g < 18
  | .gainWrite n target => n < 16 && target < 64
  | .gainStep n | .gainTimeout n | .gainRampEnd n | .cmRiseEnd n | .cmFallEnd n => n < 16
  | .mbiasEnable m _ vset => m < 4 && vset < 128
  | .biasSettled m | .mbiasCurrentLimit m | .lforst m | .mbiasOkLost m => m < 4
  | .rangeWrite o _ | .rangeSwitch o | .rangeChangeEnd o | .outputRelease o | .removalMuteEnd o => o < 18
  | .chainOutput c | .srst c | .chainShiftWrite c _ | .chainRestart c => c.wf
  | .xpGainWrite o inp _ | .xpCrossingStep o inp | .xpGainTimeout o inp | .xpRampEnd o inp => o < 24 && inp < 24
  | .bqSwap o | .bqSwapEnd o | .routeScarfEnd o => o < 24
  | .altWrite k alt => k < 196 && alt < 4
  | .selectSwitchEnd k => k < 196
  | .ringIndexWrite t _ _ => t < 16
  | .apply b => b < 40 || (54 ≤ b && b < 62)
  | .blockScarfEnd b => b < 62
  | .cnvSwap c => c < 4
  | .cnvCoefWrite addr _ => 0x500000 ≤ addr && addr < 0x510000 && addr % 4 = 0
  | .delayJump d ch time => d < 4 && ch < 2 && time < 2 ^ 26
  | .preDelayWrite v pre => v < 2 && pre < 2 ^ 13
  | .prst g => g < 8
  | .sapFrame p _ | .fsTimeout p | .signalDetect p | .lossOfSignal p | .microframeReceive p _ | .failedRetry p | .retrain p | .tworoot p
  | .census p _ | .cenret p _ | .cendone p _ | .topo p _ | .write p _ | .wack p _ | .read p _ | .rdata p _ | .loffer p _ | .lanswer p _
  | .notify p _ | .img p _ | .censusRepeat p | .handshakeTimeout p => p < 4
  | .spkRelease c | .spkSwitchStart c | .spkRampupStart c | .spkRun c | .spkHold c | .spkOff c | .currentLimit c | .hardShort c
  | .loadCheck c | .loadCheckEnd c | .retryClear c | .spkClr c | .check c | .thermalUpdate c => c < 2
  | .jackSample n _ | .jackDebounced n | .identificationStep n _ | .identificationEnd n | .jackRemoval n | .reidentify n | .reid n => n < 8
  | .hpStageOn side | .hpTrip side | .hpClr side => side < 2
  | .cscTimer t => t < 4
  | .cscConversion unit _ => unit < 2
  | .requestRepeat seq => seq < 256
  | .protectionSwitch l | .protectionRevert l => l.wf
  | .force k => k < 4
  | .scrubWriteback addr => addr % 4 = 0 && 0x100000 ≤ addr && addr < 0x510000
  | .dmaGo c | .descriptorFetch c | .dmaBeat c _ _ | .dmaComplete c _ _ | .stop c | .dmaAbort c _ | .skip c | .restart c => c < 16
  | .xspiBootRead bytes => bytes.length % 4 = 0
  | .modeRequest req => req < 16
  | .listenSample codes => codes.length = 48
  | .railFault r => r < 8
  | .bstSlice t => t < 7
  | .lcTransition target _ => target < 8
  | .secProgram sel _ | .revoke sel => sel < 8

end Sys2Proof
end

