-- ==== Sys2Proof/Certificates/Slice0/Obligations.lean ====
section
/-! DEFINITION. The statements about the machine. -/

open Sys2Proof Sys2Proof.Machine

/-- For every command c and every state: the step of a state whose queue begins with c is exec of c on the state with the queue's rest. Where no
command waits the step answers the state after one tick of the grid, with an empty queue still: that the tick is what an empty queue does is the
model's choice (assumption log 1). -/
def Obligations.StepRunsFront : Prop :=
  (∀ (c : Instr) (rest : List Instr) (s : State), step { s with pending := c :: rest } = exec c { s with pending := rest }) ∧
  (∀ s : State, s.pending = [] → ∃ t, step s = .next t ∧ t = s.idle ∧ t.pending = [])

/-- For every state: after one tick in OFF the grid, the slow clock and every other component but the host record, the packets that wait and the
count of assertions are as before. In every other mode the time is 16 core cycles later, a frame boundary is due where one was or the grid has come
to tick 0, a graph instant is due where one was or one falls on the new tick, the tick within the frame is one more modulo 256, and the always-on
timer counts one slow-clock period, modulo 2^48, exactly where the running period ends (R14 to R16, R359, R534). Ticks on an empty queue are the
model's choice (assumption log 1). FRAME_BOUNDARY serves the frame boundary that is due, and changes nothing where none is due. With the PLL locked
the frame index goes up by one, modulo 2^32, else it stays. A latch that was asked for takes the new frame index and the always-on timer, and is
done. A NOTIFY owed from the last frame goes out now, and the record of one sent in this frame starts anew. Only registers, the frame's due bit,
the chains, the network, the host record and the latch request change (R17, R517, R535). -/
def Obligations.TicksAndFrames : Prop :=
  (∀ s : State, (s.base = modeOff → ∃ u : Block, s.idle = { s with toBlock := u } ∧ s.only u [Reg.IRQ_CNT_ASSERTS] [.host, .net]) ∧
    (s.base ≠ modeOff →
      s.idle.time.now = s.time.now + 16 ∧ s.idle.time.tick = (s.time.tick + 1) % 256 ∧
      s.idle.time.frameDue = (s.time.frameDue || (s.time.tick + 1) % 256 == 0) ∧
      s.idle.time.graphDue = (s.time.graphDue || (s.time.tick + 1) % 256 % s.graphPeriod == 0) ∧
      (1 < s.time.slowLeft → s.idle.time.slowLeft = s.time.slowLeft - 1 ∧ s.idle.time.aont = s.time.aont) ∧
      (s.time.slowLeft ≤ 1 → s.idle.time.slowCount = s.time.slowCount + 1 ∧ s.idle.time.aont = (s.time.aont + 1) % 2 ^ 48) ∧
      s.idle.pending = s.pending))
  ∧
  (∀ s : State, gives .frameBoundary s fun u =>
    (s.time.frameDue = false → u = s.toBlock) ∧
    (s.time.frameDue = true →
      u.time = { s.time with frameDue := false } ∧
      u.f Reg.PWR_FRAME_FRAME = (if 2 ≤ s.pll then (s.f Reg.PWR_FRAME_FRAME + 1) % 2 ^ 32 else s.f Reg.PWR_FRAME_FRAME) ∧
      (s.pwr.tsDue = true → u.pwr.tsDue = false ∧ u.f Reg.PWR_TSF_FRAME = u.f Reg.PWR_FRAME_FRAME ∧ u.f Reg.PWR_TSA_LO_T = s.time.aont % 2 ^ 32) ∧
      u.host.noteSent = s.host.noteOwed ∧ u.host.noteOwed = false ∧ u.host.irqLow = s.host.irqLow) ∧
    (∀ p : Part, p ∉ [Part.time, Part.chains, Part.host, Part.net, Part.pwr] → p.same s.toBlock u))

/-- For every command c and every state s: where the operands of c lie in the ranges of the device (every command's own check, WellFormed), exec
answers a next state, whose queue is as it was, and whose interrupt pin and NOTIFY record are up to date; where they name no unit, exec stops with
the fault noSuchUnit. No command refuses. -/
def Obligations.WellFormedCompletes : Prop :=
  ∀ (c : Instr) (s : State),
    (c.wf = true → ∃ t, exec c s = .next t ∧ t.pending = s.pending ∧ t.irqSound) ∧
    (c.wf = false → exec c s = .fault .noSuchUnit)

/-- For every state s: if a step answers a next state t, then in t IRQ_N is low exactly while SYS_IRQ_SUMMARY AND IRQ_SUM_MASK is not zero and no
REARM holds it released, and the record of the masked summary being zero is right: whatever command or tick the step ran, and whatever s was (R514
to R517). -/
def Obligations.InterruptPinFollows : Prop :=
  ∀ s t : State, step s = .next t → t.irqSound

/-- For every state s whose register file, audio SRAM, coefficient memory and both halves of configuration memory list rising addresses and nothing
that an unlisted address reads as: if a step answers a next state t, the same holds of t. Equal contents are then equal data in every state that a
run reaches. The form is the model's own (assumption log 2); the memories are those of R437, R447 and R448. -/
def Obligations.MemoriesStayCanonical : Prop :=
  ∀ s t : State, s.memSound → step s = .next t → t.memSound

/-- For every state s in which the cells and the group of the slice that runs exist (and, while its scarf-in runs, its spare, another cell), the
failed cell that a spare is to replace, if its slot has one, and the cells of the last conversions exist, the channel of the flash page is one of
the sixteen and the fault ledger is in its canonical form: if a step answers a next state t, the same holds of t. These are the states that the
statements about rotation, retargets, the cloche, the flash and the ledger are about; the records are the model's own, the units those of R38, R457
and R561. -/
def Obligations.NamedUnitsExist : Prop :=
  ∀ s t : State, s.namesExist → step s = .next t → t.namesExist

/-- At State.reset: no command waits; every register of the local map has the word its fields' reset values make, and every other address reads
zero; memory lists nothing, the canonical forms hold and the hidden records name no unit that is not there; the interrupt pin is released and its
record right; FAULT_N is low, since POR holds the device; the core is not released, so CORE reads 0; the mode code is LOAD, and the port answers
its status word with CORE 0 and FLT 1 (R8, R11, R512, R518, R543, R544). That fields with no stated reset value are 0, and fields marked image hold
the values of log 2, is the model's choice. -/
def Obligations.ResetState : Prop :=
  State.reset.pending = [] ∧ (∀ a, State.reset.word a = resetWord a) ∧ (∀ a, findReg a = none → resetWord a = 0) ∧ State.reset.memSound ∧ State.reset.irqSound ∧ State.reset.namesExist ∧
  State.reset.mem = {} ∧ (∀ x, State.reset.mem.sram.read x = 0) ∧ State.reset.host.irqLow = false ∧ State.reset.faultLow = true ∧ State.reset.coreOn = false ∧ State.reset.mode = modeLoad ∧
  State.reset.statusWord.getLsbD 11 = false ∧ State.reset.statusWord.getLsbD 10 = true ∧
  State.reset.ledger.entries = [] ∧ State.reset.time.aont = 0

/-- For every block s, what follows a command's own effect (R515 to R517) sets IRQ_N low exactly while the masked summary is not zero and no REARM
holds it released, counts a fall of IRQ_N in IRQ_CNT.ASSERTS up to its largest value, and, where the masked summary has turned from zero to
non-zero and NOTE is not zero, sends one NOTIFY with it or owes it to the next frame boundary where one went out in this frame. It changes no other
register bit, no other field of the host record, and of the network only the packets that wait, to which it adds at the end. -/
def Obligations.SettleFrame : Prop :=
  ∀ s : Block,
    s.settle.host.irqLow = (s.irqPend != 0 && s.host.release.isNone) ∧
    s.settle.f Reg.IRQ_CNT_ASSERTS =
      (if s.irqPend ≠ 0 ∧ s.host.release = none ∧ s.host.irqLow = false then min (2 ^ 16 - 1) (s.f Reg.IRQ_CNT_ASSERTS + 1) else s.f Reg.IRQ_CNT_ASSERTS) ∧
    (s.settle.host = { s.host with irqLow := s.settle.host.irqLow, wasZero := s.irqPend == 0, noteSent := s.settle.host.noteSent, noteOwed := s.settle.host.noteOwed }) ∧
    (∃ ks, s.settle.net = { s.net with txq := s.net.txq ++ ks } ∧ (∀ k, k ∈ ks → k.pkt.type = 0x30 ∧ k.pkt.dst = s.f Reg.TRL_RT_CFG_NOTE) ∧
      (s.host.noteSent = true ∨ s.host.wasZero = false ∨ s.irqPend = 0 ∨ s.f Reg.TRL_RT_CFG_NOTE = 0 → ks = [])) ∧
    (s.host.wasZero = true → s.irqPend ≠ 0 → s.f Reg.TRL_RT_CFG_NOTE ≠ 0 → s.host.noteSent = true → s.settle.host.noteOwed = true) ∧
    s.only s.settle [Reg.IRQ_CNT_ASSERTS] [.host, .net]

/-- For every command that is a write of the host to a register (54 of them, listed in hostWrites), with operands in range, and every state in
which the core clock is stopped: in OFF and DORMANT, where the port is unpowered, nothing changes; else SYS_EVT.NOCORE is set, the next status byte
will show ERR, and no other register bit and nothing else changes (R506, R511). UNKNOWN_OPCODE with an opcode that R505 does not list, in every
mode in which the port has power, with no reset requested and no wake by a transaction: with the core clock SYS_EVT.OPC is set, without it NOCORE;
the next status byte will show ERR, and nothing else changes (R505, R506, R511). -/
def Obligations.HostErrors : Prop :=
  (∀ (c : Instr) (s : State), hostWrites c = true → c.wf = true → s.coreOn = false → gives c s fun u =>
    if s.base = modeOff ∨ s.base = modeDormant then u = s.toBlock
    else u.on Reg.SYS_EVT_NOCORE = true ∧ u.host = { s.host with prevErr := true } ∧ s.only u [Reg.SYS_EVT_NOCORE] [.host])
  ∧
  (∀ (s : State) (op : Byte), op ≠ 0x02 → op ≠ 0x03 → op ≠ 0x05 → op ≠ 0x0C → s.base ≠ modeOff → s.base ≠ modeDormant → s.host.rstReq = false →
    (s.base = modeRest → s.on (Reg.PWR_WAKE_EN_EN.bit 4) = false) →
    gives (.unknownOpcode op) s fun u =>
      u.host = { s.host with status := s.statusByte, prevErr := true, sdo := [] } ∧
      (s.coreOn = true → u.on Reg.SYS_EVT_OPC = true ∧ s.only u [Reg.SYS_EVT_OPC] [.host]) ∧
      (s.coreOn = false → u.on Reg.SYS_EVT_NOCORE = true ∧ s.only u [Reg.SYS_EVT_NOCORE] [.host]))

/-- SPI_STATUS in every mode in which the port has power, with no reset requested and no wake by a transaction: count copies of one word are
shifted out, whose bits [31:16] are SYS_IRQ_SUMMARY, [15:12] the mode code of PWR_MODE, [11] CORE, [10] FLT, and [9:0] zero. The status byte is
that of the state before, ERR is cleared, and nothing outside the host record changes. -/
def Obligations.StatusTransactions : Prop :=
  ∀ (s : State) (count : Nat), s.base ≠ modeOff → s.base ≠ modeDormant → s.host.rstReq = false →
    (s.base = modeRest → s.on (Reg.PWR_WAKE_EN_EN.bit 4) = false) → gives (.spiStatus count) s fun u =>
      (∃ w : Word, u.host = { s.host with status := s.statusByte, prevErr := false, sdo := List.replicate count w } ∧
        bitsOf w 16 16 = s.summary ∧ bitsOf w 12 4 = s.mode ∧ (w.getLsbD 11 = s.coreOn) ∧ (w.getLsbD 10 = s.faultLow) ∧ bitsOf w 0 10 = 0) ∧
      s.only u [] [.host]

/-- SPI_WRITE in every mode in which the port has power, with no reset requested and no wake by a transaction. Without the core clock NOCORE is
set, with an address bit 31 or 30 set RSV, each with ERR in the next status byte, and nothing else changes. For one word to this device at address
a: a reserved address, or one of an absent block, leaves everything but the host record; a register whose write is no command of its own takes the
word by the access codes of its fields and nothing else changes; configuration memory is not written and sets CFGWR; a word of audio SRAM in a bank
that has not failed, where no march works, takes the word and every byte outside its four stays (R440, R507, R508, R511). -/
def Obligations.WriteTransactions : Prop :=
  ∀ (s : State) (addr : Word) (ws : List Word), s.base ≠ modeOff → s.base ≠ modeDormant → s.host.rstReq = false →
    (s.base = modeRest → s.on (Reg.PWR_WAKE_EN_EN.bit 4) = false) →
    let h : HostSt := { s.host with status := s.statusByte, prevErr := false, sdo := [] }
    gives (.spiWrite addr ws) s fun u =>
      (s.coreOn = false → u.on Reg.SYS_EVT_NOCORE = true ∧ u.host = { h with prevErr := true } ∧ s.only u [Reg.SYS_EVT_NOCORE] [.host]) ∧
      (s.coreOn = true → addr.toNat / 2 ^ 30 ≠ 0 →
        u.on Reg.SYS_EVT_RSV = true ∧ u.host = { h with prevErr := true } ∧ s.only u [Reg.SYS_EVT_RSV] [.host]) ∧
      (s.coreOn = true → addr.toNat / 2 ^ 30 = 0 → (targetOf addr = 0 ∨ targetOf addr = s.addr) → ∀ w, ws = [w] → ∀ a, a = addr.toNat % 2 ^ 24 / 4 * 4 →
        (sramBase ≤ a → a < sramBase + sramSize → s.bankFailed (bankOf (a - sramBase)) = false → s.bst.run = none →
          u.mem.sram.readWord (a - sramBase) = w ∧ (∀ x, x < a - sramBase ∨ a - sramBase + 4 ≤ x → u.mem.sram.read x = s.mem.sram.read x) ∧
          u.mem.coef = s.mem.coef ∧ u.mem.active = s.mem.active ∧ u.mem.shadow = s.mem.shadow ∧ u.host = h ∧ s.only u [] [.host, .mem]) ∧
        (cfgBase ≤ a → a < cfgBase + 0x40000 → u.on Reg.MEM_EVT_CFGWR = true ∧ u.host = h ∧ s.only u [Reg.MEM_EVT_CFGWR] [.host]) ∧
        (a < sramBase → (findReg a = none ∨ s.absentAt a = true) → u.host = h ∧ s.only u [] [.host]) ∧
        (a < sramBase → ∀ r, findReg a = some r → s.absentAt a = false →
          (∀ i j, s.csFall.ownWrite r.base i j a w = none) → u.word a = writeFields r (s.word a) w ∧ u.host = h ∧ s.only u [Fld.all a] [.host]))

/-- SPI_READ of one word of this device, in every mode in which the port has power, with no reset requested and no wake by a transaction, and no
error in memory. Without the core clock an address the always-on controller does not serve gives zero and NOCORE, and SYS_SCRATCH and the ledger
are served. With it: an address bit 31 or 30 sets RSV and no word goes out; a word not ready in time is zero, sets LATE, and clears nothing; a
register's word goes out as it reads, and of its own word only the read-to-clear fields change; a reserved address reads zero; a ledger word goes
out, and word 7 marks its entry read; a word of audio SRAM in a bank that has not failed goes out as stored (R8, R10, R507, R509, R511, R561). -/
def Obligations.ReadTransactions : Prop :=
  ∀ (s : State) (addr : Word) (late : List Nat), s.base ≠ modeOff → s.base ≠ modeDormant → s.host.rstReq = false →
    (s.base = modeRest → s.on (Reg.PWR_WAKE_EN_EN.bit 4) = false) →
    let h : HostSt := { s.host with status := s.statusByte, prevErr := false }
    gives (.spiRead addr 1 late []) s fun u =>
      (s.coreOn = true → addr.toNat / 2 ^ 30 ≠ 0 →
        u.on Reg.SYS_EVT_RSV = true ∧ u.host = { h with prevErr := true, sdo := [] } ∧ s.only u [Reg.SYS_EVT_RSV] [.host]) ∧
      (addr.toNat / 2 ^ 30 = 0 → (targetOf addr = 0 ∨ targetOf addr = s.addr) → ∀ a, a = addr.toNat % 2 ^ 24 / 4 * 4 →
        (s.coreOn = false → aonServes a = false →
          u.on Reg.SYS_EVT_NOCORE = true ∧ u.host = { h with prevErr := true, sdo := [0] } ∧ s.only u [Reg.SYS_EVT_NOCORE] [.host]) ∧
        (s.coreOn = false → late = [] → a = Reg.SYS_SCRATCH → u.host = { h with sdo := [s.word Reg.SYS_SCRATCH] } ∧ s.only u [] [.host]) ∧
        (s.coreOn = true → late = [0] →
          u.on Reg.SYS_EVT_LATE = true ∧ u.host = { h with prevErr := true, sdo := [0] } ∧ s.only u [Reg.SYS_EVT_LATE] [.host]) ∧
        (s.coreOn = true → late = [] → a < sramBase → a < 0x800 ∨ 0xA00 ≤ a →
          u.host = { h with sdo := [s.regWord a] } ∧ u.word a = (s.clearRol a).word a ∧ s.only u [Fld.all a] [.host] ∧
          (findReg a = none → s.regWord a = 0 ∧ s.only u [] [.host])) ∧
        (late = [] → ∀ e w, e < 16 → w < 8 → a = 0x800 + 32 * e + 4 * w →
          u.host = { h with sdo := [s.ledgerWord e w] } ∧ (w ≠ 7 → s.only u [] [.host]) ∧
          (w = 7 → s.only u [] [.host, .ledger] ∧ u.ledgerEntry e = (s.ledgerEntry e).map (fun x => { x with read := true }) ∧
            ∀ k, k ≠ e → u.ledgerEntry k = s.ledgerEntry k)) ∧
        (s.coreOn = true → late = [] → sramBase ≤ a → a < sramBase + sramSize → s.bankFailed (bankOf (a - sramBase)) = false → s.bst.run = none →
          s.upset a = 0 → u.host = { h with sdo := [s.mem.sram.readWord (a - sramBase)] } ∧ s.only u [] [.host]))

/-- For every register whose fields do not overlap, every field f of it, every bit i of f and every stored word: a write gives the bit the written
value where f is RW or WO, clears it where f is W1C and the written bit is 1, and leaves it in every other case; a read shows 0 where f is WO or
W1P and the stored bit else; and a bit of no field is left by a write and reads 0 (R8, R10). What a read of a ROL field clears and what a W1P
starts are stated with the commands that do it. -/
def Obligations.AccessCodes : Prop :=
  ∀ (r : RegDef) (old w : Word), r.fields.Pairwise (fun f g => f.lo + f.width ≤ g.lo ∨ g.lo + g.width ≤ f.lo) →
    (∀ f, f ∈ r.fields → ∀ i, f.lo ≤ i → i < f.lo + f.width → i < 32 →
      (writeFields r old w).getLsbD i = (if f.access = .rw ∨ f.access = .wo then w.getLsbD i else if f.access = .w1c then old.getLsbD i && !w.getLsbD i else old.getLsbD i) ∧
      (old &&& readMask r).getLsbD i = (if f.access = .wo ∨ f.access = .w1p then false else old.getLsbD i)) ∧
    (∀ i, (∀ f, f ∈ r.fields → ¬(f.lo ≤ i ∧ i < f.lo + f.width)) →
      (writeFields r old w).getLsbD i = old.getLsbD i ∧ (old &&& readMask r).getLsbD i = false)

/-- REARM, with the core clock running: IRQ_N is released, until 16 core cycles from now, and whatever is pending meanwhile it stays released.
REARM_END, once those have passed: IRQ_N follows the masked summary again, and falls, counting once more, if anything is still pending. REARM_END
before that, or with no release, changes nothing. Neither changes anything else. -/
def Obligations.Rearm : Prop :=
  (∀ s : State, s.coreOn = true → ∃ t, exec .rearm s = .next t ∧ t.host.irqLow = false ∧ t.host.release = some (s.time.now + 16) ∧
    t.f Reg.IRQ_CNT_ASSERTS = s.f Reg.IRQ_CNT_ASSERTS ∧ s.only t.toBlock [Reg.IRQ_CNT_ASSERTS] [.host, .net]) ∧
  (∀ s t : State, ∀ c : Instr, ∀ d, exec c s = .next t → t.host.release = some d → t.host.irqLow = false) ∧
  (∀ s : State, ∃ t, exec .rearmEnd s = .next t ∧ s.only t.toBlock [Reg.IRQ_CNT_ASSERTS] [.host, .net] ∧
    (∀ d, s.host.release = some d → d ≤ s.time.now → t.host.release = none ∧ (t.host.irqLow = true ↔ s.irqPend ≠ 0)) ∧
    (∀ d, s.host.release = some d → s.time.now < d → t.host.release = some d) ∧
    (s.host.release = none → t = { s with toBlock := s.settle }))

/-- KICK, with the core clock running: a value whose low half is not 0x6480 sets WDBAD alone; the key restarts a count that runs and is not at
zero, at 8 periods of the slow clock for each unit of PERIOD, and changes nothing where no watchdog runs. WDWARN once the count is at half or less
sets the event, once in each count. WDOG_EXPIRY at zero: EXP and the SAFE cause are set and, in a mode whose core runs, the base mode is SAFE; out
of zero, or where it has expired, nothing changes. A kick in the cycle of expiry is the expiry. With no graft under way, only components that an
entry to SAFE moves change (R34, R520, R522). RSTKEY, with the core clock running: 0x6480 requests the reset and any other value changes nothing.
SOFTWARE_RESET with no request changes nothing; with one it is a PIN reset: the core is released no longer, the request is gone, KIND reads PIN and
SRC RSTKEY, and the count of PIN resets goes up to its largest value. The always-on timer, the ledger and the audio SRAM stay (R521, R544, R546).
-/
def Obligations.WatchdogAndSoftwareReset : Prop :=
  ((∀ (s : State) (v : Word), s.coreOn = true → gives (.kick v) s fun u =>
    (bitsOf v 0 16 ≠ 0x6480 → u.on Reg.SYS_EVT_WDBAD = true ∧ s.only u [Reg.SYS_EVT_WDBAD] []) ∧
    (bitsOf v 0 16 = 0x6480 → s.wdRuns = false → u = s.toBlock) ∧
    (bitsOf v 0 16 = 0x6480 → s.wdRuns = true → s.host.wdLeft ≠ 0 →
      u.host = { s.host with wdLeft := 8 * max 1 (s.f Reg.SYS_WDOG_CFG_PERIOD), wdWarned := false } ∧ s.only u [] [.host]) ∧
    (bitsOf v 0 16 = 0x6480 → s.wdRuns = true → s.host.wdLeft = 0 → u = s.wdExpire)) ∧
  (∀ s : State, gives .wdwarn s fun u =>
    if s.wdRuns ∧ s.host.wdWarned = false ∧ 2 * s.host.wdLeft ≤ 8 * max 1 (s.f Reg.SYS_WDOG_CFG_PERIOD) then
      u.on Reg.SYS_EVT_WDWARN = true ∧ u.host = { s.host with wdWarned := true } ∧ s.only u [Reg.SYS_EVT_WDWARN] [.host]
    else u = s.toBlock) ∧
  (∀ s : State, gives .wdogExpiry s fun u =>
    (s.wdRuns = false ∨ s.host.wdLeft ≠ 0 → u = s.toBlock) ∧
    (s.wdRuns = true → s.host.wdLeft = 0 →
      u.on Reg.SYS_WDOG_STAT_EXP = true ∧ u.on Reg.PWR_SAFE_WDOG = true ∧ (s.safeApplies = true → u.base = modeSafe) ∧ u.wdRuns = false) ∧
    (s.graftPhase = 0 → ∀ p : Part, p ∈ [Part.time, Part.host, Part.core, Part.dir, Part.clk, Part.net, Part.pwr, Part.lsn, Part.otp] → p.same s.toBlock u)))
  ∧
  ((∀ (s : State) (k : BitVec 16), s.coreOn = true → gives (.rstkey k) s fun u =>
    if k = 0x6480 then u.host = { s.host with rstReq := true } ∧ s.only u [] [.host] else u = s.toBlock) ∧
  (∀ s : State, gives .softwareReset s fun u =>
    (s.host.rstReq = false → u = s.toBlock) ∧
    (s.host.rstReq = true → s.base ≠ modeOff → s.base ≠ modeDormant → u.core = false ∧ u.host.rstReq = false ∧ u.f Reg.PWR_RST_KIND = 1 ∧ u.f Reg.PWR_RST_SRC = 2 ∧
      u.f Reg.PWR_RST_PINCNT = min 0xFFFF (s.f Reg.PWR_RST_PINCNT + 1) ∧ u.ledger = s.ledger ∧ u.time.aont = s.time.aont ∧ u.mem.sram = s.mem.sram)))

/-- For every reset kind, address and stored word, where the address holds a register whose fields do not overlap: a field of class A takes its
reset value at POR only, of class H at POR and PIN, of class S at POR, PIN and GRAFT, of class V at all four; at the others it keeps its value; and
a bit of no field keeps its value. -/
def Obligations.RetentionClasses : Prop :=
  ∀ (k : ResetKind) (a : Nat) (w : Word) (r : RegDef), findReg a = some r →
    r.fields.Pairwise (fun f g => f.lo + f.width ≤ g.lo ∨ g.lo + g.width ≤ f.lo) →
    (∀ f, f ∈ r.fields → ∀ i, f.lo ≤ i → i < f.lo + f.width → i < 32 →
      (resetKeep k a w).getLsbD i =
        (if (k = .por) ∨ (k = .pin ∧ f.kept ≠ .a) ∨ (k = .graft ∧ (f.kept = .s ∨ f.kept = .v)) ∨ (k = .sync ∧ f.kept = .v)
          then (resetWord a).getLsbD i else w.getLsbD i)) ∧
    (∀ i, (∀ f, f ∈ r.fields → ¬(f.lo ≤ i ∧ i < f.lo + f.width)) → i < 32 → (resetKeep k a w).getLsbD i = w.getLsbD i)

/-- POR: every register but CLOCHE_STAT takes its reset word; the always-on timer, the fault ledger, the memories, the image, the modes' record and
every engine are as after power-on; the core is held; CLOCHE_STAT.SHUT shows the switch that is shut. POWER_LOSS does the same, and where the
supply goes altogether the base mode is OFF. The slow clock's phase goes on, as the model's choice (R542, R544, R546). PIN_RESET in every mode but
OFF, with a register file in its canonical form. Every register outside the reset record, the rail and cause words, CLOCHE_STAT and the progress
records takes the word that its classes keep under a PIN reset (R11); the reset record shows PIN, the source, and one reset more; the ledger and
the always-on timer stay; the core is held; no image is left. The audio SRAM stays, but is lost with a wake from DORMANT; coefficient and
configuration memory are lost. A key or a wake from DORMANT starts the OTP load now, RESET_N and a rail hold it. In OFF nothing changes (R469,
R501, R521, R544 to R546, R565). -/
def Obligations.PowerOnAndPinResets : Prop :=
  ((∀ s : State, gives .por s fun u =>
    (∀ a, a ≠ Reg.CLOCHE_STAT → u.word a = resetWord a) ∧ u.on Reg.CLOCHE_STAT_SHUT = s.ports.shut ∧ u.core = false ∧ u.ledger = {} ∧ u.time.aont = 0 ∧
    u.mem = {} ∧ u.img = {} ∧ u.pwr = {} ∧ u.cells = {} ∧ u.chains = {} ∧ u.dir = {} ∧ u.graph = {} ∧ u.sap = {} ∧ u.spk = {} ∧ u.csc = {} ∧ u.lsn = {} ∧
    u.ports = { shut := s.ports.shut } ∧ u.freeK = s.freeK) ∧
  (∀ (s : State) (off : Bool), gives (.powerLoss off) s fun u =>
    (∀ a, a ≠ Reg.CLOCHE_STAT → a ≠ Reg.PWR_MODE → u.word a = resetWord a) ∧ u.base = (if off then modeOff else modeLoad) ∧
    u.on Reg.CLOCHE_STAT_SHUT = s.ports.shut ∧ u.core = false ∧ u.ledger = {} ∧ u.time.aont = 0 ∧ u.mem = {} ∧ u.img = {} ∧ u.pwr = {}))
  ∧
  (∀ (s : State) (cause : PinCause), gives (.pinReset cause) s fun u =>
    (s.base = modeOff → u = s.toBlock) ∧
    (s.base ≠ modeOff → Tab.wf resetWord s.regs = true →
      (∀ a, isProgress a = false → a ∉ [Reg.PWR_RST, Reg.PWR_RAIL, Reg.PWR_SAFE, Reg.CLOCHE_STAT] → u.word a = resetKeep .pin a (s.word a)) ∧
      u.f Reg.PWR_RST_KIND = 1 ∧ u.f Reg.PWR_RST_SRC = resetSource cause ∧ u.f Reg.PWR_RST_PINCNT = min 0xFFFF (s.f Reg.PWR_RST_PINCNT + 1) ∧
      u.f Reg.PWR_RAIL_OK = s.f Reg.PWR_RAIL_OK ∧ u.on Reg.CLOCHE_STAT_SHUT = s.ports.shut ∧
      u.core = false ∧ u.ledger = s.ledger ∧ u.time.aont = s.time.aont ∧ u.time.now = s.time.now ∧ u.img = {} ∧ u.graph = {} ∧ u.chains = {} ∧ u.dir = {} ∧
      u.mem.coef = [] ∧ u.mem.active = [] ∧ u.mem.shadow = [] ∧ u.mem.sram = (if s.base = modeDormant then [] else s.mem.sram) ∧
      u.pwr = (if cause = .rstkey ∨ cause = .dormantWake then { loadAt := some s.time.now } else {}) ∧ u.freeK = s.freeK))

/-- CORE_RELEASE with the core held by POR, 1.0 ms or more ago, or by a rail, and no load of the OTP under way, in a mode other than OFF: every
rail reads in range and the OTP load begins now. RESET_RELEASE does the same after RESET_N, and leaves the rails. OTP_LOAD_DONE 0.5 ms (98304 core
cycles) later: the core runs, BOOT is latched, with BOOT 0 the ring oscillator runs and no load starts, and after POR or a wake from DORMANT every
bank of the audio SRAM is cleared, which ends 32768 core cycles later. RAIL_RESET with a core rail below its threshold, in a mode that watches it,
is a PIN reset whose source is the rail, with the rails recorded. Else each changes nothing (R446, R490, R542, R543, R545). -/
def Obligations.StartUp : Prop :=
  (∀ s : State, gives .coreRelease s fun u =>
    if s.core = false ∧ s.base ≠ modeOff ∧ s.pwr.loadAt = none ∧ (s.f Reg.PWR_RST_KIND = 1 → s.f Reg.PWR_RST_SRC = 3) ∧
        (s.f Reg.PWR_RST_KIND = 0 → 196608 ≤ s.time.now) then
      u.f Reg.PWR_RAIL_OK = 0xFF ∧ u.pwr = { s.pwr with loadAt := some s.time.now } ∧ s.only u [Reg.PWR_RAIL_OK] [.pwr]
    else u = s.toBlock) ∧
  (∀ s : State, gives .resetRelease s fun u =>
    if s.core = false ∧ s.base ≠ modeOff ∧ s.pwr.loadAt = none ∧ s.f Reg.PWR_RST_KIND = 1 ∧ s.f Reg.PWR_RST_SRC = 1 then
      u.pwr = { s.pwr with loadAt := some s.time.now } ∧ s.only u [] [.pwr]
    else u = s.toBlock) ∧
  (∀ (s : State) (boot : BitVec 2), gives (.otpLoadDone boot) s fun u =>
    (s.core = true ∨ (∀ t, s.pwr.loadAt = some t → s.time.now < t + 98304) → u = s.toBlock) ∧
    (∀ t, s.core = false → s.pwr.loadAt = some t → t + 98304 ≤ s.time.now →
      u.core = true ∧ u.f Reg.IMG_SRC_BOOT = boot.toNat ∧
      (boot = 0 → u.on Reg.CLK_STAT_RING = true ∧ s.only u [Reg.CLK_STAT_RING, Reg.IMG_SRC_BOOT] [.core, .mem]) ∧
      (s.f Reg.PWR_RST_KIND = 0 ∨ s.f Reg.PWR_RST_SRC = 4 → u.mem.sram = [] ∧ u.mem.clearing = some (s.time.now + 32768)) ∧
      (s.f Reg.PWR_RST_KIND ≠ 0 → s.f Reg.PWR_RST_SRC ≠ 4 → u.mem.sram = s.mem.sram ∧ u.mem.clearing = s.mem.clearing) ∧
      (∀ p : Part, p ∈ [Part.time, Part.host, Part.cells, Part.ports, Part.chains, Part.dir, Part.graph, Part.sap, Part.spk, Part.csc, Part.pwr, Part.lsn,
        Part.otp] → p.same s.toBlock u))) ∧
  (∀ (s : State) (rails : BitVec 8), gives (.railReset rails) s fun u =>
    if rails &&& 0x7E = 0 ∨ s.base = modeOff ∨ s.base = modeDormant ∨ s.base = modeRest then u = s.toBlock
    else u.core = false ∧ u.f Reg.PWR_RST_KIND = 1 ∧ u.f Reg.PWR_RST_SRC = 3 ∧ u.f Reg.PWR_RST_RAILS = (rails &&& 0x7E).toNat ∧
      (∀ i, i < 8 → (rails &&& 0x7E).getLsbD i = true → u.f (Reg.PWR_RAIL_OK.bit i) = 0) ∧ u.ledger = s.ledger ∧ u.time.aont = s.time.aont ∧
      u.mem.sram = s.mem.sram ∧ u.pwr = {})

/-- RAIL_FAULT clears the rail's bit of PWR_RAIL. In a mode whose core runs, for PVDD only while a speaker is enabled, it also sets the cause, and
then the base mode is SAFE; else nothing more changes. OVERTEMP does so with its own cause, and changes nothing in a mode whose core stands. From
another mode every output is then at zero scale and unreleased, and no speaker runs. RAIL_RECOVERY takes the rails; with every watched rail in
range RAILNOW, and with the die cool OTEMPNOW, is 0; a SAFE with no active image then goes on to LOAD, and a wake from REST that waited for the
rails takes place. With no graft under way the grid, the links, the clocks, the host record and the Listen path stay (R34, R300, R528, R542, R564).
-/
def Obligations.SafeEvents : Prop :=
  let safe := fun (s : State) (u : Block) => u.base = modeSafe ∧ (s.base ≠ modeSafe → u.on Reg.PWR_EVT_MODE = true ∧ u.inEntry = false ∧
      (∀ o, o < 18 → u.outWeight o = 0 ∧ (u.out o).released = false) ∧ ∀ c, c < 2 → u.spkState c ∈ [spkOff, spkBackoff, spkLocked])
  let still := [Part.time, Part.host, Part.core, Part.dir, Part.clk, Part.net, Part.pwr, Part.lsn, Part.otp]
  (∀ (s : State) (r : Nat), r < 8 → gives (.railFault r) s fun u =>
    u.f (Reg.PWR_RAIL_OK.bit r) = 0 ∧ (s.graftPhase = 0 → ∀ p, p ∈ still → p.same s.toBlock u) ∧
    (s.safeApplies = true → (r = 7 → s.on (Reg.SPK_CFG_EN 0) = true ∨ s.on (Reg.SPK_CFG_EN 1) = true) →
      u.on Reg.PWR_SAFE_RAILNOW = true ∧ u.on Reg.PWR_SAFE_RAIL = true ∧ u.on Reg.PWR_EVT_RAIL = true ∧ safe s u) ∧
    (s.safeApplies = false ∨ (r = 7 ∧ s.on (Reg.SPK_CFG_EN 0) = false ∧ s.on (Reg.SPK_CFG_EN 1) = false) → s.only u [Reg.PWR_RAIL_OK.bit r] [])) ∧
  (∀ (s : State) (code : SenseCode), gives (.overtemp code) s fun u =>
    (s.safeApplies = false → u = s.toBlock) ∧ (s.graftPhase = 0 → ∀ p, p ∈ still → p.same s.toBlock u) ∧
    (s.safeApplies = true → u.on Reg.PWR_SAFE_OTEMPNOW = true ∧ u.on Reg.PWR_SAFE_OTEMP = true ∧ u.on Reg.PWR_EVT_OTEMP = true ∧ safe s u)) ∧
  (∀ (s : State) (rails : BitVec 8) (cool : Bool), gives (.railRecovery rails cool) s fun u =>
    (s.pwr.wakeHeld = true → s.base = modeRest → s.pwr.waking = false → rails = 0xFF →
      u.pwr.waking = true ∧ u.pwr.wakeHeld = false ∧ u.base = modeRest ∧ u.time = s.time) ∧
    (s.pwr.wakeHeld = false →
    u.f Reg.PWR_RAIL_OK = rails.toNat ∧ (rails = 0xFF → u.f Reg.PWR_SAFE_RAILNOW = 0) ∧ (cool = true → u.f Reg.PWR_SAFE_OTEMPNOW = 0) ∧
    (rails = 0xFF → cool = true → s.base = modeSafe → s.img.active = none → u.base = modeLoad ∧ u.on Reg.PWR_EVT_MODE = true) ∧
    (s.base ≠ modeSafe ∨ s.img.active.isSome = true → s.only u [Reg.PWR_RAIL_OK, Reg.PWR_SAFE_RAILNOW, Reg.PWR_SAFE_OTEMPNOW] []) ∧
    (∀ p, p ∈ still ++ [Part.cells, Part.chains, Part.graph, Part.img, Part.sap, Part.spk] → p.same s.toBlock u)))

/-- MODE_REQUEST, with the core clock running. While an entry, a load, an admission or a graft runs it sets REQBUSY; a target that R526 does not
list for the mode, or that R528, R538 or the life-cycle excludes, sets REQERR; nothing else but REQ changes. PLAY from READY is entered at once.
REST, DORMANT, RELAY, SERVICE and, from PLAY or RELAY, READY begin an entry now: TRANS reads 1, TARGET names the mode, BASE stays. READY from SAFE
is entered at once. READY or PLAY from LISTEN is the mode in which the wake ends, which begins now with every rail in range. MODE_ENTRY_DONE once
every action of the entry has ended: BASE reads the target, TRANS 0 and MODE is set; before that, or with no entry, nothing changes (R526 to R528).
-/
def Obligations.ModeRequests : Prop :=
  let busy := fun (s : State) => s.inEntry = true ∨ s.imgBusy = true ∨ s.img.proving.isSome = true ∨ s.img.admitWait.isSome = true
  let table := [(modeLoad, modeDormant), (modeReady, modePlay), (modeReady, modeRest), (modeReady, modeDormant), (modeReady, modeListen),
    (modeReady, modeRelay), (modeReady, modeService), (modePlay, modeReady), (modePlay, modeRest), (modePlay, modeDormant), (modePlay, modeListen),
    (modePlay, modeRelay), (modePlay, modeService), (modeRelay, modeReady), (modeRelay, modeRest), (modeRelay, modeDormant), (modeListen, modeReady),
    (modeListen, modePlay), (modeListen, modeRest), (modeListen, modeDormant), (modeSafe, modeReady)]
  (∀ (s : State) (m : Nat), m < 16 → s.coreOn = true → gives (.modeRequest m) s fun u =>
    u.f Reg.PWR_CTRL_REQ = m ∧
    (busy s → u.on Reg.PWR_EVT_REQBUSY = true ∧ s.only u [Reg.PWR_CTRL_REQ, Reg.PWR_EVT_REQBUSY] []) ∧
    (¬ busy s → m ≠ modeListen → ((s.base, m) ∉ table ∨ (s.base = modeSafe ∧ s.safeLeaves = false) ∨
        (m = modeService ∧ s.otp.lc ≠ lcDevelop ∧ s.otp.lc ≠ lcReturn)) →
      u.on Reg.PWR_EVT_REQERR = true ∧ s.only u [Reg.PWR_CTRL_REQ, Reg.PWR_EVT_REQERR] []) ∧
    (¬ busy s → m = modeListen → s.lsnState ≠ lsnWaking → s.lsnState ≠ lsnHandover →
        ((s.base ≠ modeReady ∧ s.base ≠ modePlay) ∨ s.isInput s.lsnPort = false ∨ s.f Reg.PWR_LSN_RING_LEN = 0) →
      u.on Reg.PWR_EVT_REQERR = true ∧ s.only u [Reg.PWR_CTRL_REQ, Reg.PWR_EVT_REQERR] []) ∧
    (¬ busy s → s.base = modeReady → m = modePlay → u.base = modePlay ∧ u.on Reg.PWR_EVT_MODE = true ∧ u.pwr = s.pwr) ∧
    (¬ busy s → (s.base, m) ∈ table → (s.base ≠ modeListen ∨ m = modeRest ∨ m = modeDormant) → s.base ≠ modeSafe → m ≠ modePlay → m ≠ modeListen →
        (m = modeService → s.otp.lc = lcDevelop ∨ s.otp.lc = lcReturn) →
      u.inEntry = true ∧ u.f Reg.PWR_MODE_TARGET = m ∧ u.base = s.base ∧
        u.pwr = { s.pwr with waking := false, wakeHeld := false, entryAt := s.time.now }) ∧
    (¬ busy s → s.base = modeListen → (m = modeReady ∨ m = modePlay) →
      u.lsn.want = some m ∧ u.base = modeListen ∧ (s.pwr.wakeHeld = false → s.railsGood = true → u.pwr.waking = true)) ∧
    (¬ busy s → s.base = modeSafe → m = modeReady → s.safeLeaves = true → u.base = modeReady ∧ u.on Reg.PWR_EVT_MODE = true ∧ u.pwr.tsDue = true)) ∧
  (∀ s : State, gives .modeEntryDone s fun u =>
    (s.inEntry = false ∨ s.entryOver = false → u = s.toBlock) ∧
    (s.inEntry = true → s.entryOver = true → s.f Reg.PWR_MODE_TARGET ∈ [modeReady, modeRelay, modeDormant, modeRest, modeListen, modeService] →
      u.base = s.f Reg.PWR_MODE_TARGET ∧ u.inEntry = false ∧ u.on Reg.PWR_EVT_MODE = true ∧ u.time = s.time ∧ u.host = s.host ∧ u.otp = s.otp) ∧
    (s.inEntry = true → s.entryOver = true → s.f Reg.PWR_MODE_TARGET = modeLoad → s.img.activate = false →
      u.base = modeLoad ∧ u.inEntry = false ∧ u.on Reg.PWR_EVT_MODE = true))

/-- The WAKE pin, a signal at TL0, a match of the always-on timer and a host transaction, in a state with no wake and no entry under way, none in
this slow-clock period, every rail in range, and a canonical register file. In REST, with the source enabled, its bit of PWR_WAKE is set and the
wake begins: the mode is REST still, links, PLL and class V fields start over, and the banks that were not kept are cleared. In DORMANT the pin,
TL0 and the timer make a PIN reset whose source is the wake, and the host none. With the source disabled, or in a mode that does not sleep, nothing
changes, but a match sets TIMER in every mode. WAKE_READY once the clear has ended, the PLL is locked and the grid aligned: READY, or PLAY where
WTGT or AUTOPLAY is 1, or the mode that the host requested; before that nothing changes. TSLATCH, with the core clock running, asks for a time pair
(R531 to R535). -/
def Obligations.Wakes : Prop :=
  let calm := fun (s : State) => s.inEntry = false ∧ s.pwr.waking = false ∧ s.pwr.wakeHeld = false ∧ s.railsGood = true ∧ s.pwr.wakeSlow ≠ some s.time.slowCount ∧
    Tab.wf resetWord s.regs = true
  let outcome := fun (k : Nat) (s u : Block) =>
    (s.base = modeRest → s.on (Reg.PWR_WAKE_EN_EN.bit k) = true →
      u.pwr.waking = true ∧ u.f Reg.PWR_WAKE_CAUSE = 2 ^ k ∧ u.base = modeRest ∧ u.pwr.wakeSlow = some s.time.slowCount ∧
      u.mem.clearing = some (s.time.now + 32768) ∧ u.ledger.seq ≥ s.ledger.seq ∧ u.img.active = s.img.active ∧ u.time = s.time) ∧
    (s.base = modeDormant → k ≠ 4 → s.on (Reg.PWR_WAKE_EN_EN.bit k) = true →
      u.core = false ∧ u.f Reg.PWR_RST_KIND = 1 ∧ u.f Reg.PWR_RST_SRC = 4 ∧ u.f Reg.PWR_WAKE_CAUSE = 2 ^ k ∧ u.pwr.loadAt = some s.time.now ∧ u.mem.sram = []) ∧
    (s.on (Reg.PWR_WAKE_EN_EN.bit k) = false ∨ sleepMode s.base = false ∨ (k = 4 ∧ s.base ≠ modeRest) → u = s)
  (∀ s : State, calm s → gives .wakeEvent s (outcome 0 s.toBlock)) ∧
  (∀ s : State, calm s → gives .tl0SignalDetect s (outcome 2 s.toBlock)) ∧
  (∀ s : State, calm s → gives .hostWake s (outcome 4 s.toBlock)) ∧
  (∀ s : State, calm s → gives .aonTimerMatch s fun u =>
    if s.time.aont = s.f Reg.PWR_AONT_CMP_LO_CMP + 2 ^ 32 * s.f Reg.PWR_AONT_CMP_HI_CMP then
      outcome 3 (s.raise Reg.PWR_EVT_TIMER) u ∧ (s.base ≠ modeDormant → u.on Reg.PWR_EVT_TIMER = true)
    else u = s.toBlock) ∧
  (∀ s : State, gives .wakeReady s fun u =>
    (s.pwr.waking = false ∨ s.mem.clearing.isSome = true ∨ s.pll < 2 ∨ s.gridReady = false → u = s.toBlock) ∧
    (s.pwr.waking = true → s.mem.clearing = none → 2 ≤ s.pll → s.gridReady = true →
      u.pwr.waking = false ∧ u.on Reg.PWR_EVT_MODE = true ∧ u.inEntry = false ∧
      (s.lsn.want = none → u.base = (if s.on Reg.PWR_CFG_WTGT ∨ s.on Reg.PWR_CFG_AUTOPLAY then modePlay else modeReady)) ∧
      (∀ m, s.lsn.want = some m → u.base = (if m = modePlay then modePlay else modeReady)))) ∧
  (∀ s : State, s.coreOn = true → gives .tslatch s fun u => u.pwr = { s.pwr with tsDue := true } ∧ s.only u [] [.pwr])

/-- LISTEN_SAMPLE of 48 codes while the ring runs and the cloche does not cut its port: the index goes up by one modulo 2^32, the codes enter the
decimator, and in the pre-roll the ring's half-word at that index takes the decimated sample rounded to Q1.15, or zero while the port holds zero;
nothing of the audio SRAM changes but that word and the 48 bytes of the header. With no ring nothing changes. ONSET_BLOCK with 128 samples: the
detector starts the next block, and where it does not fire, as never on the first block, nothing else changes; before 128 samples nothing changes.
HANDOFF 64 samples after SETTLED: STATE is tail, HANDOFF is set and the ring goes on for the rest of TAIL; LSNEND at the end of the tail and
RINGSTOP at any time stop the ring, STATE reads STOPPED and LSNEND is set; else each changes nothing (R536 to R540). -/
def Obligations.ListenPath : Prop :=
  let moved := fun (a : Nat) => a = Reg.PWR_EVT ∨ a = Reg.PWR_LSN_STAT ∨ ∃ i, a = Reg.CELL_CFG i ∨ a = Reg.CELL_GRP_STAT i
  let headerOnly := fun (s : State) (u : Block) => ∀ x, x < s.lsnBase ∨ s.lsnBase + 48 ≤ x → u.mem.sram.read x = s.mem.sram.read x
  let stopped := fun (s : State) (u : Block) => u.lsn.running = false ∧ u.lsnState = lsnStopped ∧ u.on Reg.PWR_EVT_LSNEND = true ∧ headerOnly s u ∧
    s.within u moved [.lsn, .mem]
  (∀ (s : State) (codes : List CellCode), codes.length = 48 → gives (.listenSample codes) s fun u =>
    let o := s.lsnBase + 48 + 4 * (s.lsn.wr % s.f Reg.PWR_LSN_RING_LEN / 2)
    let hist := (codes.reverse ++ s.lsn.hist).take 256
    (s.lsn.running = false → u = s.toBlock) ∧
    (s.lsn.running = true → s.lsnCut = false →
      u.lsn.wr = (s.lsn.wr + 1) % 2 ^ 32 ∧ u.lsn.running = true ∧ u.lsn.hist = hist ∧
      (∀ x, x < s.lsnBase ∨ s.lsnBase + 48 ≤ x → x < o ∨ o + 4 ≤ x → u.mem.sram.read x = s.mem.sram.read x) ∧
      (s.lsnState = lsnPre → 0 < s.f Reg.PWR_LSN_RING_LEN → s.bankFailed (bankOf o) = false →
        bitsOf (u.mem.sram.readWord o) (if s.lsn.wr % 2 = 0 then 16 else 0) 16 =
          (if s.zhold s.lsnPort then 0 else
            (toQ15 (firSum 1 (hist.map (fun c => (s.correct (s.f Reg.PWR_LSN_STAT_CELL) c : Rat) / 2 ^ 30)))).toNat)) ∧
      s.only u [Reg.PWR_LSN_STAT_STATE] [.lsn, .mem])) ∧
  (∀ s : State, gives .onsetBlock s fun u =>
    (s.lsn.count < 128 → u = s.toBlock) ∧
    (128 ≤ s.lsn.count → (s.lsn.blocks = 0 ∨ s.judgeBlock.1 = false) →
      u.lsn.count = 0 ∧ u.lsn.blocks = s.lsn.blocks + 1 ∧ u.lsn.energy = 0 ∧ u.lsn.onset = s.lsn.onset ∧ s.only u [] [.lsn]) ∧
    (128 ≤ s.lsn.count → s.judgeBlock.1 = true → s.lsnState = lsnPre → s.lsn.onset = none → s.on (Reg.PWR_WAKE_EN_EN.bit 5) = false →
      u.lsn.onset = some (s.lsn.wr - 128) ∧ headerOnly s u ∧ s.only u [] [.lsn, .mem])) ∧
  (∀ s : State, gives .handoff s fun u =>
    (s.lsn.settled = none ∨ s.lsnState ≠ lsnHandover ∨ (∀ t, s.lsn.settled = some t → s.lsn.wr < t + 64) → u = s.toBlock) ∧
    (∀ t, s.lsn.settled = some t → s.lsnState = lsnHandover → t + 64 ≤ s.lsn.wr →
      u.lsn.handoff = some (t + 64) ∧ u.lsn.tail = s.f Reg.PWR_LSN_RING_TAIL - (s.lsn.wr - (t + 64)) ∧ u.lsnState = lsnTail ∧
      u.on Reg.PWR_EVT_HANDOFF = true ∧ u.lsn.running = s.lsn.running ∧ headerOnly s u ∧ s.within u moved [.lsn, .mem])) ∧
  (∀ s : State, gives .lsnend s fun u => if s.lsnState = lsnTail ∧ s.lsn.tail = 0 then stopped s u else u = s.toBlock) ∧
  (∀ s : State, s.coreOn = true → gives .ringstop s fun u => if s.lsn.running = true then stopped s u else u = s.toBlock)

/-- LC_TRANSITION, with the core clock running: with the key 0xA5C3, none being programmed, and a target that the table allows from the state
programmed last, the transition is being programmed, and to RETURN or SCRAP every key slot reads cleared, holds nothing and KEYCLR is set; any
other request sets DENIED alone. LC_PROGRAMMED: the new state is pending and LCDONE set; with none under way nothing changes. POR and a PIN reset
bring the state programmed last into force (R557). SEC_PROGRAM, with the core clock running, clears the data registers. In BLANK or DEVELOP, with
no programming under way, it starts the programming of the options, of an empty key slot (SEL 0 to 3) or of an empty hash slot (SEL 4 to 7), with
the data as written, and BUSY reads 1; else PROGERR is set and nothing is programmed. REVOKE starts the revocation of a hash slot in any state but
SCRAP, where it sets DENIED; on a key slot or while programming it sets PROGERR. PROGDONE ends what is under way: verified, it takes effect and
PROGDONE is set; not verified, the slots stay and PROGERR is set. SCANEN enables scan in SERVICE in DEVELOP and RETURN, clearing the key slots
first in DEVELOP with SCANCLR set; else it sets DENIED alone (R558 to R560, R568). -/
def Obligations.LifeCycleAndKeys : Prop :=
  ((∀ (s : State) (target : Nat) (key : BitVec 16), target < 8 → s.coreOn = true → gives (.lcTransition target key) s fun u =>
    if key = 0xA5C3 ∧ s.otp.lcJob = none ∧ (s.otp.next, target) ∈ [(0, 1), (0, 4), (1, 2), (1, 4), (2, 3), (2, 4), (3, 4)] then
      u.otp.lcJob = some target ∧ u.otp.lc = s.otp.lc ∧ u.otp.next = s.otp.next ∧ u.otp.hashes = s.otp.hashes ∧
      (target = 3 ∨ target = 4 → (∀ i, i < 4 → u.keyStat i = 2) ∧ u.otp.keys = [] ∧ u.on Reg.SEC_EVT_KEYCLR = true ∧ s.only u [Reg.SEC_EVT_KEYCLR] [.otp]) ∧
      (target ≠ 3 → target ≠ 4 → u.otp = { s.otp with lcJob := some target } ∧ s.only u [] [.otp])
    else u.on Reg.SEC_EVT_DENIED = true ∧ s.only u [Reg.SEC_EVT_DENIED] []) ∧
  (∀ s : State, gives .lcProgrammed s fun u =>
    (s.otp.lcJob = none → u = s.toBlock) ∧
    (∀ t, s.otp.lcJob = some t → u.otp = { s.otp with next := t, lcJob := none } ∧ u.on Reg.SEC_EVT_LCDONE = true ∧ s.only u [Reg.SEC_EVT_LCDONE] [.otp])) ∧
  (∀ s : State, gives .por s fun u => u.otp.lc = s.otp.next) ∧
  (∀ (s : State) (cause : PinCause), s.base ≠ modeOff → gives (.pinReset cause) s fun u => u.otp.lc = s.otp.next))
  ∧
  ((∀ (s : State) (sel : Nat) (opt : Bool), sel < 8 → s.coreOn = true → gives (.secProgram sel opt) s fun u =>
    (∀ i, i < 8 → u.word (Reg.SEC_DATA i) = 0) ∧ u.f Reg.SEC_PROG_SEL = sel ∧ u.on Reg.SEC_PROG_OPT = opt ∧
    s.only u ([Reg.SEC_PROG_SEL, Reg.SEC_PROG_OPT, Reg.SEC_PROG_BUSY, Reg.SEC_EVT_PROGERR] ++ (List.range 8).map Reg.SEC_DATA_DATA) [.otp] ∧
    if (s.otp.lc = lcBlank ∨ s.otp.lc = lcDevelop) ∧ s.otp.job = none ∧ (opt = false → sel < 4 → s.keyStat sel = 0) ∧
        (opt = false → 4 ≤ sel → s.hashStat (sel - 4) = 0) then
      u.on Reg.SEC_PROG_BUSY = true ∧ u.f Reg.SEC_EVT_PROGERR = s.f Reg.SEC_EVT_PROGERR ∧
      u.otp = { s.otp with job := u.otp.job } ∧
      u.otp.job = some (if opt then .options ((s.word (Reg.SEC_DATA 0)).getLsbD 0) ((s.word (Reg.SEC_DATA 0)).getLsbD 1)
        else if sel < 4 then .key sel s.secData else .hash (sel - 4) s.secData)
    else u.on Reg.SEC_EVT_PROGERR = true ∧ u.f Reg.SEC_PROG_BUSY = s.f Reg.SEC_PROG_BUSY ∧ u.otp = s.otp) ∧
  (∀ (s : State) (sel : Nat), sel < 8 → s.coreOn = true → gives (.revoke sel) s fun u =>
    u.f Reg.SEC_PROG_SEL = sel ∧
    (s.otp.lc = lcScrap → u.on Reg.SEC_EVT_DENIED = true ∧ s.only u [Reg.SEC_PROG_SEL, Reg.SEC_EVT_DENIED] []) ∧
    (s.otp.lc ≠ lcScrap → (sel < 4 ∨ s.otp.job.isSome = true) → u.on Reg.SEC_EVT_PROGERR = true ∧ s.only u [Reg.SEC_PROG_SEL, Reg.SEC_EVT_PROGERR] []) ∧
    (s.otp.lc ≠ lcScrap → 4 ≤ sel → s.otp.job = none → u.otp = { s.otp with job := some (.revoke (sel - 4)) } ∧ u.on Reg.SEC_PROG_BUSY = true ∧
      s.only u [Reg.SEC_PROG_SEL, Reg.SEC_PROG_BUSY] [.otp])) ∧
  (∀ (s : State) (verified : Bool), gives (.progdone verified) s fun u =>
    (s.otp.job = none → u = s.toBlock) ∧
    (∀ j, s.otp.job = some j → u.f Reg.SEC_PROG_BUSY = 0 ∧ u.otp.job = none ∧ u.otp.lc = s.otp.lc ∧ u.otp.next = s.otp.next ∧
      (verified = false → u.on Reg.SEC_EVT_PROGERR = true ∧ u.otp = { s.otp with job := none } ∧ s.only u [Reg.SEC_PROG_BUSY, Reg.SEC_EVT_PROGERR] [.otp]) ∧
      (verified = true → u.on Reg.SEC_EVT_PROGDONE = true ∧ s.only u [Reg.SEC_PROG_BUSY, Reg.SEC_EVT_PROGDONE] [.otp] ∧
        (∀ i d, j = .key i d → u.keyStat i = 1 ∧ Tab.get (fun _ => []) u.otp.keys i = d ∧ ∀ k, k ≠ i → u.keyStat k = s.keyStat k) ∧
        (∀ i d, j = .hash i d → u.hashStat i = 1 ∧ Tab.get (fun _ => []) u.otp.hashes i = d ∧ ∀ k, k ≠ i → u.hashStat k = s.hashStat k) ∧
        (∀ a b, j = .options a b → u.otp.sigreq = (s.otp.sigreq || a) ∧ u.otp.scanclr = (s.otp.scanclr || b)) ∧
        (∀ i, j = .revoke i → u.hashStat i = 3 ∧ ∀ k, k ≠ i → u.hashStat k = s.hashStat k)))) ∧
  (∀ s : State, s.coreOn = true → gives .scanen s fun u =>
    if s.base = modeService ∧ (s.otp.lc = lcDevelop ∨ s.otp.lc = lcReturn) then
      u.bst = { s.bst with scan := true } ∧
      (s.otp.lc = lcDevelop → s.otp.scanclr = true → (∀ i, i < 4 → u.keyStat i = 2) ∧ u.otp.keys = [] ∧ u.on Reg.SEC_EVT_KEYCLR = true) ∧
      (s.otp.lc = lcReturn ∨ s.otp.scanclr = false → s.only u [] [.bst]) ∧ s.only u [Reg.SEC_EVT_KEYCLR] [.bst, .otp]
    else u.on Reg.SEC_EVT_DENIED = true ∧ s.only u [Reg.SEC_EVT_DENIED] []))

/-- Recording an event whose cause, block and instance are those of the newest entry, at most 8 slow-clock periods after it, counts one repeat in
that entry up to 255 and changes nothing else. Any other event is written at the index SEQ mod 16 with the timer, the mode, its detail and
snapshot; it becomes the newest, COUNT grows up to 16, NEW is set, SEQ goes up by one, and an entry not yet read that it overwrites counts in LOST;
every other entry stays. FLT_CLR, with the core clock running, clears every entry and leaves SEQ; ACK marks every entry read and changes nothing
else (R561, R562). That 1 ms is 8 nominal slow-clock periods is DEDUCED. -/
def Obligations.FaultLedger : Prop :=
  (∀ (s : Block) (cause block inst : Nat) (detail : Word) (snap : List Word),
    let u := s.record cause block inst detail snap
    let i := s.ledger.seq % 16
    s.only u faultFlds [.ledger] ∧
    (∀ e, s.f Reg.FLT_STAT_COUNT ≠ 0 → s.ledgerEntry (s.f Reg.FLT_STAT_NEWEST) = some e → e.cause = cause → e.block = block → e.inst = inst →
      s.time.aont ≤ e.t + 8 →
      u.ledgerEntry (s.f Reg.FLT_STAT_NEWEST) = some { e with rep := min 255 (e.rep + 1) } ∧ u.ledger.seq = s.ledger.seq ∧ s.only u [] [.ledger] ∧
      ∀ k, k ≠ s.f Reg.FLT_STAT_NEWEST → u.ledgerEntry k = s.ledgerEntry k) ∧
    ((s.f Reg.FLT_STAT_COUNT = 0 ∨ ∀ e, s.ledgerEntry (s.f Reg.FLT_STAT_NEWEST) = some e →
        e.cause ≠ cause ∨ e.block ≠ block ∨ e.inst ≠ inst ∨ e.t + 8 < s.time.aont) →
      u.ledgerEntry i = some
        { t := s.time.aont, cause := cause, block := block, mode := s.mode, seq := s.ledger.seq % 2 ^ 16, inst := inst, detail := detail, snap := snap } ∧
      u.f Reg.FLT_STAT_NEWEST = i ∧ u.on Reg.FLT_EVT_NEW = true ∧ u.ledger.seq = s.ledger.seq + 1 ∧
      u.f Reg.FLT_STAT_COUNT = (if s.f Reg.FLT_STAT_COUNT < 16 then s.f Reg.FLT_STAT_COUNT + 1 else s.f Reg.FLT_STAT_COUNT) ∧
      (∀ x, s.ledgerEntry i = some x → x.read = false → u.on Reg.FLT_EVT_LOST = true ∧ u.f Reg.FLT_STAT_LOST = min 0xFFFF (s.f Reg.FLT_STAT_LOST + 1)) ∧
      (∀ k, k ≠ i → u.ledgerEntry k = s.ledgerEntry k))) ∧
  (∀ s : State, s.coreOn = true → gives .fltClr s fun u =>
    (∀ e, u.ledgerEntry e = none) ∧ u.ledger.seq = s.ledger.seq ∧ u.f Reg.FLT_STAT_COUNT = 0 ∧ u.f Reg.FLT_STAT_NEWEST = 0 ∧
    s.only u [Reg.FLT_STAT_COUNT, Reg.FLT_STAT_NEWEST] [.ledger]) ∧
  (∀ s : State, s.coreOn = true → Tab.wf (fun _ => none) s.ledger.entries = true → gives .ack s fun u =>
    (∀ e, u.ledgerEntry e = (s.ledgerEntry e).map (fun x => { x with read := true })) ∧ u.ledger.seq = s.ledger.seq ∧ s.only u [] [.ledger])

/-- BST_SLICE of a target but the cells, with no slice and no full run, in a cycle, the target applicable and due, an item left and, for the MAC
lanes, idle slots: the item's slice runs from now, the progress record names it, and nothing else changes; else nothing changes. BST_SLICE_END of a
slice of targets 1, 2, 4 or 6 within its budget: with its full count applied, every comparison and the signature right it passes; with a mismatch,
or a full count with a wrong signature, it fails, counts, and a first failure of a unit or a lane starts the same slice once more; in every other
case it is incomplete and counts so. With no slice running nothing changes (R548 to R551, R555). BST_CYCLE_END with no slice running, in a cycle
whose applicable targets have all finished their sets or that began 60 s ago, and no full run: each target's two bits of BST_RES hold its result,
CYCLE is set, CYCLES counts up to its largest value, INC is set where a result is incomplete, and the next cycle begins now; else nothing changes.
FULL, with the core clock running: in SERVICE the full run is on and BUSY reads 1; else, or where it is on already, nothing changes. SERVICE_END of
a full run, with a verdict for each target: the results are shown, the audio SRAM is zero, the full run is over, and the base mode is READY, or
PLAY with AUTOPLAY; else nothing changes (R550, R556). -/
def Obligations.SelfTest : Prop :=
  (let prog := [Reg.BST_STAT_BUSY, Reg.BST_PROG_LAST, Reg.BST_PROG_DONE, Reg.BST_PROG1_APPLIED]
  (∀ (s : State) (t : Nat), t < 7 → gives (.bstSlice t) s fun u =>
    (t = 0 ∨ s.bst.run.isSome = true ∨ s.bst.full = true ∨ s.bst.cycleAt = none ∨ s.bstApplies t = false ∨ s.bstDue t = false ∨ s.bstNext t = none ∨
        (t = 4 ∧ s.idleSlots = 0) →
      u = s.toBlock) ∧
    (∀ i, t ≠ 0 → s.bst.run = none → s.bst.full = false → s.bst.cycleAt.isSome = true → s.bstApplies t = true → s.bstDue t = true → s.bstNext t = some i → (t = 4 → s.idleSlots ≠ 0) →
      u.bst.run = some (t, i, s.time.now, false) ∧ u.bst.results = s.bst.results ∧ u.f Reg.BST_STAT_TGT = t ∧ u.on Reg.BST_STAT_BUSY = true ∧ u.f Reg.BST_PROG_TGT = t ∧
      u.f Reg.BST_PROG_SLICE_ID = (s.f Reg.BST_PROG_SLICE_ID + 1) % 2 ^ 16 ∧ u.f Reg.BST_PROG1_COUNT = bstCount t ∧ u.f Reg.BST_PROG1_APPLIED = 0 ∧
      s.only u (prog ++ [Reg.BST_STAT_TGT, Reg.BST_PROG_TGT, Reg.BST_PROG_SLICE_ID, Reg.BST_PROG1_COUNT]) [.bst])) ∧
  (∀ (s : State) (v : SliceVerdict), gives (.bstSliceEnd v) s fun u =>
    (s.bst.run = none → u = s.toBlock) ∧
    (∀ t item start again, s.bst.run = some (t, item, start, again) → t ∈ [1, 2, 4, 6] → s.time.now ≤ start + s.bstBudget t → v.applied ≤ bstCount t →
      (v.applied = bstCount t → v.mismatch = false → v.signatureOk = true →
        u.bst.run = none ∧ u.f Reg.BST_PROG_LAST = 1 ∧ u.f Reg.BST_PROG1_APPLIED = v.applied ∧ u.on Reg.BST_PROG_DONE = true ∧ u.bstItem t item = 1 ∧ u.f Reg.BST_STAT_BUSY = 0 ∧ s.only u prog [.bst]) ∧
      (v.mismatch = true ∨ v.applied = bstCount t ∧ v.signatureOk = false →
        u.bstItem t item = 2 ∧ u.on Reg.BST_EVT_FAIL = true ∧ u.f (Reg.BST_FAILCNT_FAIL t) = min 0xFFFF (s.f (Reg.BST_FAILCNT_FAIL t) + 1) ∧
        (t ≠ 6 → again = false → u.bst.run = some (t, item, s.time.now, true)) ∧
        (t = 6 ∨ again = true → u.bst.run = none ∧ u.f Reg.BST_PROG_LAST = 2) ∧
        (t = 6 → u.on Reg.BST_EVT_CFGFAIL = true) ∧
        (t = 1 ∨ t = 2 → again = true → u.on (Reg.BST_STAT_CSCF.bit (t - 1)) = true ∧ u.on Reg.BST_EVT_CSCFAIL = true) ∧
        (t = 4 → again = true → item < 128 → u.on (Reg.GRF_LANE_FAIL.bit (item / 16)) = true ∧ u.on Reg.GRF_EVT_LANEFAIL = true)) ∧
      (v.applied < bstCount t → v.mismatch = false →
        u.bst.run = none ∧ u.f Reg.BST_PROG_LAST = 3 ∧ u.f Reg.BST_PROG1_APPLIED = v.applied ∧ u.f Reg.BST_PROG_DONE = 0 ∧ u.bstItem t item = 3 ∧
        u.f (Reg.BST_FAILCNT_INC t) = min 0xFFFF (s.f (Reg.BST_FAILCNT_INC t) + 1) ∧ s.only u (prog ++ [Reg.BST_FAILCNT_INC t]) [.bst]))))
  ∧
  ((∀ s : State, gives .bstCycleEnd s fun u =>
    (s.bst.cycleAt = none ∨ s.bst.full = true ∨ (s.bstOver = false ∧ ∀ t, s.bst.cycleAt = some t → s.time.now < t + 16 * (12288 * 60000)) → u = s.toBlock) ∧
    (∀ t, s.bst.cycleAt = some t → s.bst.full = false → (s.bstOver = true ∨ t + 16 * (12288 * 60000) ≤ s.time.now) → s.bst.run = none →
      (∀ k, k < 7 → u.f ⟨Reg.BST_RES, 2 * k, 2⟩ = s.bstResult k) ∧ u.on Reg.BST_EVT_CYCLE = true ∧
      u.f Reg.BST_STAT_CYCLES = min 0xFFFF (s.f Reg.BST_STAT_CYCLES + 1) ∧ ((∃ k, k < 7 ∧ s.bstResult k = 3) → u.on Reg.BST_EVT_INC = true) ∧
      u.bst.cycleAt = some s.time.now ∧ u.bst.results = [] ∧ u.bst.seen = 0 ∧
      s.only u [Reg.BST_RES_RES, Reg.BST_EVT_CYCLE, Reg.BST_EVT_INC, Reg.BST_STAT_CYCLES] [.bst])) ∧
  (∀ s : State, s.coreOn = true → gives .full s fun u =>
    if s.base = modeService ∧ s.bst.full = false then
      u.bst = { s.bst with full := true } ∧ u.on Reg.BST_STAT_BUSY = true ∧ s.only u [Reg.BST_STAT_BUSY] [.bst]
    else u = s.toBlock) ∧
  (∀ (s : State) (rs : List TargetVerdict), gives (.serviceEnd rs) s fun u =>
    (s.base ≠ modeService ∨ s.bst.full = false ∨ rs.length ≠ 7 → u = s.toBlock) ∧
    (s.base = modeService → s.bst.full = true → rs.length = 7 →
      u.bst.full = false ∧ u.mem.sram = [] ∧ u.ledger.seq ≥ s.ledger.seq ∧ u.img = s.img ∧ u.time = s.time ∧ u.otp = s.otp ∧ u.mem.active = s.mem.active ∧
      u.mem.coef = s.mem.coef ∧ u.base = (if s.on Reg.PWR_CFG_AUTOPLAY then modePlay else modeReady))))

/-- CELL_CONVERSION of a cell that does not hold now changes nothing. Of a SPARE that holds, with a possible pattern, it stores the corrected value
for the shadow and counts towards learning; of an IN cell with no slice running it gives the corrected value, tagged C where the code is an end of
the range, to its group's stream for this tick; an impossible pattern of either, with no slice and no spare on its way, sets INFLT; a clipped code
counts in CLIPCNT. MON_CONVERSION without a MON cell, outside a mode with audio, on no output or off its tick changes nothing; an impossible code
sets MONFLT; else, with the code inside the range and no range change: in normal service a comparison inside the window clears the misses, one
outside counts a miss, and the OUTN-th miss in a row sets OUTFLT; in the zero checks a comparison inside the window counts, the 16th ends them, and
one outside sets EXTFLT and holds zero scale. Nothing outside the cells, the ledger, the self-test record and, for an output fault, the output's
range changes (R42, R45, R51, R52, R53, R58, R608). -/
def Obligations.CellConversions : Prop :=
  (∀ (s : State) (k : Nat) (code : CellCode) (bad : Bool), k < 86 → gives (.cellConversion k code bad) s fun u =>
    let g := groupOfCell k
    let clip : Bool := code.toNat = 0 || code.toNat = 262143
    (s.holds k = false → u = s.toBlock) ∧
    (s.holds k = true → s.role k = roleSpare → bad = false →
      u.grp g = { s.grp g with spareV := s.correct k code, spareTag := if clip then tagC else 0, spareAt := s.time.now / 16 } ∧
      (u.cell k).learn = (s.cell k).learn + 1 ∧ s.only u [Reg.CELL_CLIPCNT_CLIP k] [.cells]) ∧
    (s.holds k = true → s.role k = roleIn → s.cells.slice = none → bad = false →
      u.grp g = { s.grp g with conv := some (s.time.now / 16, ⟨some (s.correct k code), if clip then tagC else 0, k⟩),
                               servers := Tab.set (fun _ => noCell) (s.grp g).servers (s.f (Reg.CELL_CFG_SLOT k)) k } ∧
      s.only u [Reg.CELL_CLIPCNT_CLIP k] [.cells]) ∧
    (s.holds k = true → s.role k = roleIn ∨ s.role k = roleSpare → s.cells.slice = none → bad = true → (s.grp g).retarget = none →
      u.on (Reg.CELL_GRP_EVT_INFLT g) = true) ∧
    (s.holds k = true → s.sliceOf g = none → u.f (Reg.CELL_CLIPCNT_CLIP k) = if clip then min (s.f (Reg.CELL_CLIPCNT_CLIP k) + 1) (2 ^ 32 - 1)
      else s.f (Reg.CELL_CLIPCNT_CLIP k)) ∧
    s.within u cellMoves [.cells, .ledger, .bst]) ∧
  (∀ (s : State) (g : Nat) (code : CellCode) (bad : Bool), g < 18 → gives (.monConversion g code bad) s fun u =>
    let win : Nat := 2 ^ (23 - s.f (Reg.CELL_GRP_CTRL_OUTWIN g))
    let runs : Bool := (s.withRole g roleMon).isSome && s.audioOn && (s.groupKind g).isOut && s.time.tick % 16 == 0
    let far : Bool := decide (win < (codeValue code - s.expectedMon g ((s.grp g).codes.getD 4 0)).natAbs)
    let plain : Bool := runs && !bad && code.toNat != 0 && code.toNat != 262143 && (s.out g).rng == 0
    (runs = false → u = s.toBlock) ∧
    (runs = true → bad = true → u.on (Reg.CELL_GRP_EVT_MONFLT g) = true) ∧
    (plain = true → (s.grp g).stage = 0 → far = false → u.grp g = { s.grp g with ends := 0, misses := 0 } ∧ s.only u [] [.cells]) ∧
    (plain = true → (s.grp g).stage = 0 → far = true → (s.grp g).misses + 1 < s.f (Reg.CELL_GRP_CTRL_OUTN g) →
      u.grp g = { s.grp g with ends := 0, misses := (s.grp g).misses + 1 } ∧ s.only u [] [.cells]) ∧
    (plain = true → (s.grp g).stage = 0 → far = true → s.f (Reg.CELL_GRP_CTRL_OUTN g) ≤ (s.grp g).misses + 1 → (s.withRole g roleOut).isSome = true →
      u.on (Reg.CELL_GRP_EVT_OUTFLT g) = true) ∧
    (plain = true → (s.grp g).stage = 2 → (codeValue code).natAbs ≤ win →
      u.grp g = { s.grp g with ends := 0, checks := (s.grp g).checks + 1, stage := if 16 ≤ (s.grp g).checks + 1 then 3 else 2 } ∧ s.only u [] [.cells]) ∧
    (plain = true → (s.grp g).stage = 2 → win < (codeValue code).natAbs →
      u.on (Reg.CELL_GRP_EVT_EXTFLT g) = true ∧ u.on (Reg.CELL_GRP_STAT_HOLDZ g) = true ∧ (u.grp g).stage = 4) ∧
    (∀ p : Part, p ∉ [Part.cells, Part.ledger, Part.bst, Part.ports] → p.same s.toBlock u))

/-- SPARE_RETARGET at its hold: the spare is IN on the failed slot, the retarget is done, and SPUSED is set (a spare that is itself the failed cell
is OFF); before its hold, or with none due, nothing changes. OUT_SWAP one tick after the declaration, with a spare: the spare is OUT, the zero
checks count from that tick, the cell that served is OFF and waits for its recovery slice, SPUSED is set. OUT_RAMP_END 256 ticks into the ramp:
normal service. RETRY, with the core clock running, on a held output with OUT and MON cells: the zero checks begin again and HOLDZ clears.
SPARE_LEARN after 4096 shadow conversions, outside FREEZE and a degraded group, writes the offset and gain of the spare, and where the stream has
moved by more than 2^-14 of full scale its skew, as free values and restarts the count; FREEZE and a degraded group only restart the count. Else
each changes nothing (R48, R50, R52, R53, R58). -/
def Obligations.CellFaultRecovery : Prop :=
  (∀ (s : State) (g : Nat), g < 18 → gives (.spareRetarget g) s fun u =>
    ((s.grp g).retarget = none → u = s.toBlock) ∧
    (∀ slot bad due rec sp, (s.grp g).retarget = some (slot, bad, due, rec) → s.spare g = some sp → bad < 86 ∨ bad = noCell →
      if s.reached due then
        (bad ≠ sp → u.role sp = roleIn ∧ u.f (Reg.CELL_CFG_SLOT sp) = slot % 4 ∧ (s.role bad = roleIn → u.role bad = roleOff)) ∧
        (bad = sp → u.role sp = roleOff) ∧ (u.grp g).retarget = none ∧
        u.on (Reg.CELL_GRP_EVT_SPUSED g) = true ∧ (rec = true → (u.cell bad).waitRec = true)
      else u = s.toBlock) ∧
    s.within u cellMoves [.cells, .ledger]) ∧
  (∀ (s : State) (g : Nat), g < 18 → gives (.outSwap g) s fun u =>
    (∀ sp, s.spare g = some sp → (s.grp g).stage = 1 → s.reached ((s.grp g).stageAt + 16) = true →
      u.role sp = roleOut ∧ (u.grp g).stage = 2 ∧ (u.grp g).stageAt = (s.grp g).stageAt + 16 ∧ (u.grp g).checks = 0 ∧ u.on (Reg.CELL_GRP_EVT_SPUSED g) = true ∧
      u.f (Reg.CELL_GRP_STAT_HOLDZ g) = 0 ∧ ∀ k, s.withRole g roleOut = some k → u.role k = roleOff ∧ (u.cell k).waitRec = true) ∧
    (s.spare g = none ∨ (s.grp g).stage ≠ 1 ∨ s.reached ((s.grp g).stageAt + 16) = false → u = s.toBlock) ∧
    s.within u cellMoves [.cells, .ledger]) ∧
  (∀ (s : State) (g : Nat), g < 18 → gives (.outRampEnd g) s fun u =>
    if (s.grp g).stage = 3 && s.reached ((s.grp g).stageAt + 16 * 512) then
      u.cells = (s.modGrp g (fun x => { x with stage := 0, misses := 0 })).cells ∧ s.only u [] [.cells]
    else u = s.toBlock) ∧
  (∀ (s : State) (g : Nat), g < 18 → s.coreOn = true → gives (.retry g) s fun u =>
    if (s.grp g).stage = 4 && (s.withRole g roleOut).isSome && (s.withRole g roleMon).isSome then
      u.grp g = { s.grp g with stage := 2, stageAt := s.time.now, checks := 0, misses := 0 } ∧ u.f (Reg.CELL_GRP_STAT_HOLDZ g) = 0 ∧
      (∀ k, k ≠ g → u.grp k = s.grp k) ∧ s.only u [Reg.CELL_GRP_STAT_HOLDZ g] [.cells]
    else u = s.toBlock) ∧
  (∀ (s : State) (g : Nat), g < 18 → gives (.spareLearn g) s fun u =>
    (s.spare g = none → u = s.toBlock) ∧
    (∀ k, s.spare g = some k → (s.cell k).learn < 4096 → u = s.toBlock) ∧
    (∀ k, s.spare g = some k → 4096 ≤ (s.cell k).learn →
      (u.cell k).learn = 0 ∧ s.only u [Reg.CELL_OFS_OFS k, Reg.CELL_GAIN_GAIN k, Reg.CELL_SKEW_SKEW k] [.cells, .free] ∧
      (s.on Reg.CELL_GLB_CTRL_FREEZE = true ∨ s.on (Reg.CELL_GRP_STAT_DEGRADED g) = true → s.only u [] [.cells]) ∧
      (s.on Reg.CELL_GLB_CTRL_FREEZE = false → s.on (Reg.CELL_GRP_STAT_DEGRADED g) = false →
        u.f (Reg.CELL_OFS_OFS k) = Config.freeNat s.freeK % 2 ^ 24 ∧ u.f (Reg.CELL_GAIN_GAIN k) = Config.freeNat (s.freeK + 1) % 2 ^ 24 ∧
        u.f (Reg.CELL_SKEW_SKEW k) = (if (s.grp g).diffN * 2 ^ 18 < (s.grp g).diffs then Config.freeNat (s.freeK + 2) % 2 ^ 16 else s.f (Reg.CELL_SKEW_SKEW k)))))

/-- SLICE_QUEUE in a group that rotates and whose time has come queues a slice and sets the next time PERIOD times 2 ms later; ROT_NOW, with the
core clock running and a spare, with none queued or running in the group, queues one. SLICE_START, in a mode in which slices run, with no slice
running and no recovery or promotion waiting that could start, starts the queued slice of the lowest group that the cloche does not shut on the
cell that leaves next: BUSY reads 1, GRP and CELL name it, the slice takes the next identifier. RECOVERY_SLICE starts the waiting recovery of the
lowest cell that could start, PROMOTION_SLICE the waiting promotion of a group without a spare: the cell is TEST and no longer waits. Else each
changes nothing; nothing but cell registers and the cells changes (R60 to R64, R72, R609). For a slice whose cell, spare and group exist.
SCARF_IN_END after 3072 ticks, with the ladders matching: the cell is TEST, the spare has its role, and the slice is in its test phase.
SLICE_PATTERN in the test phase counts a matching pattern and nothing else; a mismatch ends the slice as failed with the cell marked failed.
TEST_PHASE_END at the end of the test phase of a slice with a scarf-out: the slice tracks the cell that leaves next, in a recovery or promotion
slice the serving one. SLICE_END at its end: where the scarf-out has not tracked the slice fails; else with fewer than 128 patterns it is
incomplete, and with all of them it passes: LAST reads 1, SLPASS is set, the cell has passed and counts as the latest slice. Out of phase or before
their time they change nothing (R64 to R69). -/
def Obligations.Rotation : Prop :=
  ((∀ (s : State) (g : Nat), g < 18 → gives (.sliceQueue g) s fun u =>
    if s.rotates g && ((s.grp g).nextQ.isNone || (s.grp g).nextQ.any s.reached) then
      (u.grp g).queued = true ∧ (u.grp g).nextQ = some ((s.grp g).nextQ.getD s.time.now + 16 * (12288 * (2 * s.f (Reg.CELL_GRP_CTRL_PERIOD g)))) ∧
      u.f Reg.CELL_GLB_STAT_QUEUED = ((List.range 18).filter (fun k => (u.grp k).queued)).length ∧ (∀ k, k ≠ g → u.grp k = s.grp k) ∧
      s.only u [Reg.CELL_GLB_STAT_QUEUED] [.cells]
    else u = s.toBlock) ∧
  (∀ (s : State) (g : Nat), g < 18 → s.coreOn = true → gives (.rotNow g) s fun u =>
    if (s.grp g).queued || s.cells.slice.any (fun sl => sl.group == g) || (s.spare g).isNone then u = s.toBlock else
      (u.grp g).queued = true ∧ (u.grp g).nextQ = (s.grp g).nextQ ∧ (∀ k, k ≠ g → u.grp k = s.grp k) ∧ s.only u [Reg.CELL_GLB_STAT_QUEUED] [.cells]) ∧
  (∀ s : State, gives .sliceStart s fun u =>
    (s.cells.slice.isSome = true ∨ s.sliceMode = false ∨ (List.range 86).any s.waitsSlice = true →
      u = s.toBlock) ∧
    (∀ g sp k, s.cells.slice = none → s.sliceMode = true → (List.range 86).any s.waitsSlice = false →
      (List.range 18).find? (fun g => (s.grp g).queued && !s.groupShut g) = some g → s.spare g = some sp → s.nextLeaving g = some k →
      (u.grp g).queued = false ∧ u.f Reg.CELL_GLB_STAT_BUSY = 1 ∧ u.f Reg.CELL_GLB_STAT_GRP = g ∧ u.f Reg.CELL_GLB_STAT_CELL = k ∧
      u.f (Reg.CELL_SLICE_SLICE_ID k) = s.cells.nextId % 2 ^ 16 ∧ u.f (Reg.CELL_SLICE_PATTERNS k) = 0 ∧
      ∃ sl, u.cells.slice = some sl ∧ sl.group = g ∧ sl.cell = k ∧ sl.kind = .periodic ∧ sl.spare = sp ∧ sl.role = s.role k ∧
        sl.phase = (if s.role k = roleIn ∨ s.role k = roleOut then 1 else 2) ∧ s.time.now ≤ sl.start) ∧
    s.within u cellMoves [.cells]) ∧
  (∀ s : State, gives .recoverySlice s fun u =>
    (s.cells.slice.isSome = true ∨ s.sliceMode = false → u = s.toBlock) ∧
    (∀ k, s.cells.slice = none → s.sliceMode = true →
      (List.range 86).find? (fun k => (s.cell k).waitRec && s.waitsSlice k &&
        !((s.grp (groupOfCell k)).stage == 5 && (groupCells (groupOfCell k)).any (fun c => (s.cell c).waitPromo))) = some k →
      u.cells.slice = some { group := groupOfCell k, cell := k, kind := .recovery, role := roleOff, slot := 0, spare := noCell, phase := 2,
                             start := s.time.now, target := 0, k := 0 } ∧ u.role k = roleTest ∧ (u.cell k).waitRec = false ∧ u.f Reg.CELL_GLB_STAT_BUSY = 1) ∧
    s.within u cellMoves [.cells]) ∧
  (∀ s : State, gives .promotionSlice s fun u =>
    (s.cells.slice.isSome = true ∨ s.sliceMode = false → u = s.toBlock) ∧
    (∀ k, s.cells.slice = none → s.sliceMode = true →
      (List.range 86).find? (fun k => (s.cell k).waitPromo && s.waitsSlice k && (s.grp (groupOfCell k)).stage == 5) = none →
      (List.range 86).find? (fun k => (s.cell k).waitPromo && s.waitsSlice k && (groupCells (groupOfCell k)).all (fun c => !(s.cell c).waitRec)) = some k →
      (u.cell k).waitPromo = false ∧
      (s.spare (groupOfCell k) = none → u.role k = roleTest ∧ ∃ sl, u.cells.slice = some sl ∧ sl.cell = k ∧ sl.kind = .promotion ∧ sl.phase = 2) ∧
      ((s.spare (groupOfCell k)).isSome = true → u.cells.slice = none ∧ s.only u [] [.cells])) ∧
    s.within u cellMoves [.cells]))
  ∧
  ((∀ (s : State) (ladders : Bool), gives (.scarfInEnd ladders) s fun u =>
    (s.cells.slice = none → u = s.toBlock) ∧
    (∀ sl, s.cells.slice = some sl → (sl.phase ≠ 1 → u = s.toBlock) ∧
      (sl.phase = 1 → sl.cell < 86 → sl.spare < 86 → sl.spare ≠ sl.cell → sl.group < 18 → sl.role < 8 →
        (s.reached (sl.start + 16 * 3072) = true → (sl.role ≠ roleOut ∨ ladders = true) →
          u.role sl.cell = roleTest ∧ u.role sl.spare = sl.role ∧ u.cells.slice = some { sl with phase := 2 } ∧ u.f (Reg.CELL_SLICE_PHASE sl.cell) = 2 ∧
          s.within u cellMoves [.cells]) ∧
        (sl.role = roleOut → ladders = false → u.cells.slice = none ∧ u.on (Reg.CELL_STAT_FAILED sl.spare) = true))) ∧
    s.within u cellMoves [.cells, .ledger, .bst]) ∧
  (∀ (s : State) (matched : Bool), gives (.slicePattern matched) s fun u =>
    (s.cells.slice = none → u = s.toBlock) ∧
    (∀ sl, s.cells.slice = some sl → sl.cell < 86 → sl.group < 18 →
      (sl.phase ≠ 2 ∨ 128 ≤ s.f (Reg.CELL_SLICE_PATTERNS sl.cell) → u = s.toBlock) ∧
      (sl.phase = 2 → s.f (Reg.CELL_SLICE_PATTERNS sl.cell) < 128 → matched = true →
        u.f (Reg.CELL_SLICE_PATTERNS sl.cell) = s.f (Reg.CELL_SLICE_PATTERNS sl.cell) + 1 ∧ s.only u [Reg.CELL_SLICE_PATTERNS sl.cell] []) ∧
      (sl.phase = 2 → s.f (Reg.CELL_SLICE_PATTERNS sl.cell) < 128 → matched = false →
        u.cells.slice = none ∧ u.on (Reg.CELL_STAT_FAILED sl.cell) = true ∧ u.f (Reg.CELL_STAT_LAST sl.cell) = 2 ∧
        u.on (Reg.CELL_GRP_EVT_SLFAIL sl.group) = true ∧ u.role sl.cell = roleOff)) ∧
    s.within u cellMoves [.cells, .ledger, .bst]) ∧
  (∀ s : State, gives .testPhaseEnd s fun u =>
    (s.cells.slice = none → u = s.toBlock) ∧
    (∀ sl, s.cells.slice = some sl →
      if sl.phase = 2 && s.reached (sl.start + 16 * sl.testEnd) && sl.hasScarfOut then
        u.cells.slice = some { sl with
          phase := 3, shadow := none, tracks := true,
          target := (if sl.kind = .periodic then s.nextLeaving sl.group else s.nextServing sl.group).getD 0 } ∧ u.f (Reg.CELL_SLICE_PHASE sl.cell) = 3 ∧
        s.only u [Reg.CELL_SLICE_PHASE sl.cell, Reg.CELL_CFG_SLOT sl.cell] [.cells]
      else u = s.toBlock)) ∧
  (∀ (s : State) (tracked : Bool), gives (.sliceEnd tracked) s fun u =>
    (s.cells.slice = none → u = s.toBlock) ∧
    (∀ sl, s.cells.slice = some sl → sl.cell < 86 → sl.group < 18 →
      let due : Bool := s.reached (sl.start + 16 * sl.endTick) && sl.phase == (if sl.hasScarfOut then 3 else 2)
      (due = false → u = s.toBlock) ∧
      let good : Bool := !sl.hasScarfOut || tracked && sl.tracks
      (due = true → good = false → u.cells.slice = none ∧ u.on (Reg.CELL_GRP_EVT_SLFAIL sl.group) = true ∧
        u.f (Reg.CELL_STAT_LAST sl.cell) = 2 ∧ u.on (Reg.CELL_STAT_FAILED sl.cell) = true ∧ u.role sl.cell = roleOff) ∧
      (due = true → good = true → s.f (Reg.CELL_SLICE_PATTERNS sl.cell) < 128 → u.cells.slice = none ∧ u.on (Reg.CELL_GRP_EVT_SLINC sl.group) = true ∧
        u.f (Reg.CELL_STAT_LAST sl.cell) = 3) ∧
      (due = true → good = true → 128 ≤ s.f (Reg.CELL_SLICE_PATTERNS sl.cell) →
        u.cells.slice = none ∧ u.f (Reg.CELL_STAT_LAST sl.cell) = 1 ∧ u.on (Reg.CELL_GRP_EVT_SLPASS sl.group) = true ∧
        (u.cell sl.cell).passed = true ∧ (u.cell sl.cell).age = s.cells.done + 1 ∧ u.cells.done = s.cells.done + 1)) ∧
    s.within u cellMoves [.cells, .ledger, .bst, .free]))

/-- For every state and every port below 16: GAIN_STEP with a pending step and a crossing detected in an earlier tick, on a low-power input at an
even tick, moves CUR to the target that the crossing triggered, sets GZC and leaves PEND at 1 exactly where a later write has changed TARGET, and
changes nothing else; GAIN_TIMEOUT with a pending step, no crossing and the deadline come moves CUR to TARGET, clears PEND, sets COMP and GTO and
records the compensation of CUR - TARGET dB from now; GAIN_RAMP_END after 12288 ticks clears COMP, and where TARGET equals CUR changes nothing
else. Out of these conditions each changes nothing (R81 to R84). -/
def Obligations.InputGainSteps : Prop :=
  (∀ (s : State) (n : Nat), n < 16 → gives (.gainStep n) s fun u =>
    if s.on (Reg.UAP_IN_GAIN_PEND n) && (s.grp n).crossed && s.reached ((s.grp n).crossAt + 16) && (!s.on (Reg.UAP_CFG_LP n) || s.time.tick % 2 == 0) then
      let v := (s.inp n).stepTo.getD (s.f (Reg.UAP_IN_GAIN_TARGET n))
      u.f (Reg.UAP_IN_GAIN_CUR n) = v % 64 ∧ u.on (Reg.UAP_IN_GAIN_PEND n) = (s.f (Reg.UAP_IN_GAIN_TARGET n) != v) ∧ u.on (Reg.UAP_EVT_GZC n) = true ∧
      u.cells = (s.modGrp n (fun x => { x with crossed := false })).cells ∧ (u.inp n).stepTo = none ∧
      s.only u [Reg.UAP_IN_GAIN_CUR n, Reg.UAP_IN_GAIN_PEND n, Reg.UAP_EVT_GZC n] [.cells, .ports]
    else u = s.toBlock) ∧
  (∀ (s : State) (n : Nat), n < 16 → gives (.gainTimeout n) s fun u =>
    if s.on (Reg.UAP_IN_GAIN_PEND n) && !(s.grp n).crossed && s.reached (s.inp n).toAt then
      u.f (Reg.UAP_IN_GAIN_CUR n) = s.f (Reg.UAP_IN_GAIN_TARGET n) ∧ u.f (Reg.UAP_IN_GAIN_PEND n) = 0 ∧
      u.on (Reg.UAP_IN_GAIN_COMP n) = true ∧ u.on (Reg.UAP_EVT_GTO n) = true ∧
      (u.inp n).compDb = (s.f (Reg.UAP_IN_GAIN_CUR n) : Int) - s.f (Reg.UAP_IN_GAIN_TARGET n) ∧ (u.inp n).compAt = s.time.now ∧
      (∀ k, k ≠ n → u.inp k = s.inp k) ∧
      s.only u [Reg.UAP_IN_GAIN_CUR n, Reg.UAP_IN_GAIN_PEND n, Reg.UAP_IN_GAIN_COMP n, Reg.UAP_EVT_GTO n] [.ports]
    else u = s.toBlock) ∧
  (∀ (s : State) (n : Nat), n < 16 → gives (.gainRampEnd n) s fun u =>
    if s.on (Reg.UAP_IN_GAIN_COMP n) && s.reached ((s.inp n).compAt + 16 * 12288) then
      (s.f (Reg.UAP_IN_GAIN_TARGET n) = s.f (Reg.UAP_IN_GAIN_CUR n) →
        u.f (Reg.UAP_IN_GAIN_COMP n) = 0 ∧ s.only u [Reg.UAP_IN_GAIN_COMP n] []) ∧
      (s.f (Reg.UAP_IN_GAIN_TARGET n) ≠ s.f (Reg.UAP_IN_GAIN_CUR n) ∧ s.f (Reg.UAP_IN_CTRL_ZCTO n) ≠ 0 →
        u.f (Reg.UAP_IN_GAIN_COMP n) = 0 ∧ u.on (Reg.UAP_IN_GAIN_PEND n) = true ∧ (u.grp n).crossed = false ∧
        (u.inp n).toAt = (s.inp n).compAt + 16 * 12288 + 16 * 12288 * s.f (Reg.UAP_IN_CTRL_ZCTO n) ∧
        s.only u [Reg.UAP_IN_GAIN_COMP n, Reg.UAP_IN_GAIN_PEND n] [.cells, .ports])
    else u = s.toBlock)

/-- GAIN_WRITE on an input port, with the core clock running. TARGET takes the value, clamped to the maximum of the port's mode. During the
compensation ramp only TARGET changes, and at the end of the ramp the new TARGET waits for a crossing with its timeout from that end. After the
crossing of a pending step that step keeps the target it had, whatever is written before it is taken, and the write is a request of its own with
its timeout from the write. While a step waits for a crossing: a new TARGET other than CUR sets GOVR and leaves the deadline; one equal to CUR
cancels the step and sets GOVR. With no step pending or running a TARGET other than CUR starts one. Nothing outside the port's gain fields and
hidden gain state changes. -/
def Obligations.InputGainWrites : Prop :=
  ∀ (s : State) (n target : Nat), n < 16 → target < 64 → s.coreOn = true → s.isInput n = true →
    gives (.gainWrite n target) s (fun u =>
      let new := min target (s.maxGain n)
      let met := s.on (Reg.UAP_IN_GAIN_PEND n) && (s.grp n).crossed
      u.f (Reg.UAP_IN_GAIN_TARGET n) = new ∧
      s.only u [Reg.UAP_IN_GAIN_TARGET n, Reg.UAP_IN_GAIN_CUR n, Reg.UAP_IN_GAIN_PEND n, Reg.UAP_IN_GAIN_COMP n, Reg.UAP_EVT_GTO n,
        Reg.UAP_EVT_GOVR n] [.cells, .ports] ∧
      (s.on (Reg.UAP_IN_GAIN_COMP n) = true → s.only u [Reg.UAP_IN_GAIN_TARGET n] []) ∧
      (s.on (Reg.UAP_IN_GAIN_COMP n) = false → met = true →
        (u.inp n).stepTo = some ((s.inp n).stepTo.getD (s.f (Reg.UAP_IN_GAIN_TARGET n))) ∧
        (u.inp n).toAt = s.time.now + 16 * 12288 * s.f (Reg.UAP_IN_CTRL_ZCTO n) ∧ s.only u [Reg.UAP_IN_GAIN_TARGET n] [.ports]) ∧
      (s.on (Reg.UAP_IN_GAIN_COMP n) = false → met = false → s.on (Reg.UAP_IN_GAIN_PEND n) = true →
        (new = s.f (Reg.UAP_IN_GAIN_CUR n) → u.f (Reg.UAP_IN_GAIN_PEND n) = 0 ∧ u.on (Reg.UAP_EVT_GOVR n) = true) ∧
        (new ≠ s.f (Reg.UAP_IN_GAIN_CUR n) → new ≠ s.f (Reg.UAP_IN_GAIN_TARGET n) →
          u.on (Reg.UAP_IN_GAIN_PEND n) = true ∧ u.on (Reg.UAP_EVT_GOVR n) = true ∧ s.only u [Reg.UAP_IN_GAIN_TARGET n, Reg.UAP_EVT_GOVR n] [])) ∧
      (s.on (Reg.UAP_IN_GAIN_COMP n) = false → s.on (Reg.UAP_IN_GAIN_PEND n) = false → new ≠ s.f (Reg.UAP_IN_GAIN_CUR n) →
        s.f (Reg.UAP_IN_CTRL_ZCTO n) ≠ 0 → u.on (Reg.UAP_IN_GAIN_PEND n) = true ∧
        (u.inp n).toAt = s.time.now + 16 * 12288 * s.f (Reg.UAP_IN_CTRL_ZCTO n))) ∧
    gives (.gainRampEnd n) s (fun u =>
      s.on (Reg.UAP_IN_GAIN_COMP n) = true → s.reached ((s.inp n).compAt + 16 * 12288) = true →
      s.f (Reg.UAP_IN_GAIN_TARGET n) ≠ s.f (Reg.UAP_IN_GAIN_CUR n) → s.f (Reg.UAP_IN_CTRL_ZCTO n) ≠ 0 →
      u.f (Reg.UAP_IN_GAIN_COMP n) = 0 ∧ u.on (Reg.UAP_IN_GAIN_PEND n) = true ∧
      (u.inp n).toAt = (s.inp n).compAt + 16 * 12288 + 16 * 12288 * s.f (Reg.UAP_IN_CTRL_ZCTO n))

/-- For every supply m below 4. MBIAS_ENABLE with the core clock running stores VSET, clamped to 2.0 to 9.0 V, and EN; EN = 0 clears ILIM, stops
driving a supply that the cloche does not cut, and on a supply that was on lets its held ports ramp in, from now where no graft has set a later
start; EN = 1 on a supply that was off holds each input it serves and, in a mode whose pump runs and without the cloche's cut, drives it from 0 V
from now on; EN = 1 on an enabled supply with the same VSET changes neither its ports nor its course. BIAS_SETTLED, once OK has held for 50 ms on a
supply that is not cut, lets its held ports ramp in. MBIAS_CURRENT_LIMIT on a driven supply switches it off, sets ILIM and its event bit and holds
its inputs. MBIAS_OK_LOST on a supply whose OK reads 1 makes OK read 0 and holds its inputs. Else they change nothing; nothing outside the supply's
registers, the ZHOLD events and the ports changes, but for the count of free values where OK is lost: when the load lets the voltage return is the
model's free value (log 29; R88 to R90). CLOCHE_SHUT outside OFF on an open cloche, where a slice that runs names a cell of the device: SHUT and
its event are set, OPENING clears, the count of shuts goes up, every supply that serves a talkback port is cut and no longer driven, and every
talkback port is cloched. CLOCHE_OPEN on a shut cloche: SHUT clears, OPENING sets, every talkback port is no longer cloched and its cells discard
their conversions for 32 ticks, and the cuts clear; a port that no enabled supply serves and no graft holds ramps in from 40 ticks on.
CLOCHE_OPEN_DONE, while it opens and once every talkback port has ramped in over 12288 ticks: OPENING clears and the OPEN event is set. Else they
change nothing (R100, R101). -/
def Obligations.MicrophoneSupplies : Prop :=
  ((∀ (s : State) (m : Nat) (en : Bool) (vset : Nat), m < 4 → vset < 128 → s.coreOn = true → gives (.mbiasEnable m en vset) s fun u =>
    u.f (Reg.MB_CFG_VSET m) = max 20 (min 90 vset) ∧ u.on (Reg.MB_CFG_EN m) = en ∧ (en = false → u.f (Reg.MB_STAT_ILIM m) = 0) ∧
    (en = false → (s.on (Reg.MB_STAT_CUT m) = false → u.biasSt m = {}) ∧
      (s.on (Reg.MB_CFG_EN m) = true → ∀ n, n ∈ s.biasPorts m → (s.inp n).held = true → (s.inp n).waits = false →
        (u.inp n).held = false ∧ (u.inp n).rampAt = some s.time.now)) ∧
    (en = true → s.on (Reg.MB_CFG_EN m) = false →
      (s.on (Reg.MB_STAT_CUT m) = false → s.biasRuns m = true →
        (u.biasSt m).driven = true ∧ (u.biasSt m).v0 = 0 ∧ (u.biasSt m).at' = s.time.now ∧ (u.biasSt m).okAt = u.biasOkAt m) ∧
      ∀ n, n ∈ s.biasPorts m → s.isInput n = true → (u.inp n).held = true ∧ u.zhold n = true) ∧
    (en = true → s.on (Reg.MB_CFG_EN m) = true → max 20 (min 90 vset) = s.f (Reg.MB_CFG_VSET m) → u.ports = s.ports) ∧
    s.only u ([Reg.MB_CFG_VSET m, Reg.MB_CFG_EN m, Reg.MB_STAT_ILIM m] ++ (List.range 8).map Reg.UAP_EVT_BIASZ) [.ports]) ∧
  (∀ (s : State) (m : Nat), m < 4 → gives (.biasSettled m) s fun u =>
    if (s.biasSt m).driven && s.reached ((s.biasSt m).okAt + 16 * (12288 * 50)) && !s.on (Reg.MB_STAT_CUT m) then
      (∀ n, n ∈ s.biasPorts m → (s.inp n).held = true → (u.inp n).held = false ∧
        (u.inp n).rampAt = some (if (s.inp n).waits then max s.time.now ((s.inp n).rampAt.getD 0) else s.time.now)) ∧
      (∀ n, n ∉ s.biasPorts m → u.inp n = s.inp n) ∧ u.ports.bias = s.ports.bias ∧ s.only u [] [.ports]
    else u = s.toBlock) ∧
  (∀ (s : State) (m : Nat), m < 4 → gives (.mbiasCurrentLimit m) s fun u =>
    if (s.biasSt m).driven then
      u.biasSt m = {} ∧ u.on (Reg.MB_STAT_ILIM m) = true ∧ u.on (Reg.CLOCHE_EVT_ILIM.bit m) = true ∧
      (∀ n, n ∈ s.biasPorts m → s.isInput n = true → (u.inp n).held = true ∧ ((s.inp n).held = false → u.on (Reg.UAP_EVT_BIASZ n) = true)) ∧
      s.only u ([Reg.MB_STAT_ILIM m, Reg.CLOCHE_EVT_ILIM.bit m] ++ (List.range 8).map Reg.UAP_EVT_BIASZ) [.ports]
    else u = s.toBlock) ∧
  (∀ (s : State) (m : Nat), m < 4 → gives (.mbiasOkLost m) s fun u =>
    if s.biasOk m then
      u.biasOk m = false ∧ (u.biasSt m).driven = true ∧ s.time.now < (u.biasSt m).okAt ∧
      (∀ n, n ∈ s.biasPorts m → s.isInput n = true → (u.inp n).held = true ∧ ((s.inp n).held = false → u.on (Reg.UAP_EVT_BIASZ n) = true)) ∧
      s.only u ((List.range 8).map Reg.UAP_EVT_BIASZ) [.ports, .free]
    else u = s.toBlock))
  ∧
  ((∀ s : State, (∀ sl, s.cells.slice = some sl → sl.cell < 86) → gives .clocheShut s fun u =>
    if s.base = modeOff || s.ports.shut then u = s.toBlock else
      u.ports.shut = true ∧ u.ports.opening = none ∧ u.on Reg.CLOCHE_STAT_SHUT = true ∧ u.on Reg.CLOCHE_EVT_SHUT = true ∧
      u.f Reg.CLOCHE_STAT_OPENING = 0 ∧ u.f Reg.CLOCHE_CNT_SHUTS = min (s.f Reg.CLOCHE_CNT_SHUTS + 1) 0xFFFF ∧ u.privLed = true ∧
      (∀ n, n ∈ s.talkPorts → u.on (Reg.UAP_STAT_CLOCHED n) = true) ∧
      (∀ m, m ∈ s.talkSupplies → u.on (Reg.MB_STAT_CUT m) = true ∧ (u.biasSt m).driven = false) ∧
      (∀ p : Part, p ∉ [Part.bst, Part.cells, Part.ledger, Part.ports] → p.same s.toBlock u)) ∧
  (∀ s : State, gives .clocheOpen s fun u =>
    if s.ports.shut then
      u.ports.shut = false ∧ u.ports.opening = some s.time.now ∧ u.f Reg.CLOCHE_STAT_SHUT = 0 ∧ u.on Reg.CLOCHE_STAT_OPENING = true ∧
      (∀ n, n ∈ s.talkPorts → u.f (Reg.UAP_STAT_CLOCHED n) = 0 ∧ (u.grp n).discardTo = s.time.now + 16 * 32 ∧ (u.grp n).raws = [] ∧ (u.grp n).conv = none) ∧
      (∀ n, n ∈ s.talkPorts → s.on (Reg.UAP_CFG_MBMAP n) = false → (s.inp n).waits = false → (∀ m, m < 4 → n ∉ s.biasPorts m) →
        (u.inp n).held = false ∧ (u.inp n).rampAt = some (s.time.now + 16 * 40)) ∧
      (∀ m, m < 4 → u.f (Reg.MB_STAT_CUT m) = 0) ∧
      s.only u ([Reg.CLOCHE_STAT_SHUT, Reg.CLOCHE_STAT_OPENING] ++ (List.range 16).map Reg.UAP_STAT_CLOCHED ++ (List.range 4).map Reg.MB_STAT_CUT ++
        (List.range 8).map Reg.UAP_EVT_BIASZ) [.cells, .ports]
    else u = s.toBlock) ∧
  (∀ s : State, gives .clocheOpenDone s fun u =>
    if s.ports.opening.isSome && s.talkPorts.all (fun n => !(s.inp n).held && (match (s.inp n).rampAt with
        | some t => s.reached (t + 16 * 12288)
        | none => true)) then
      u.ports = { s.ports with opening := none } ∧ u.f Reg.CLOCHE_STAT_OPENING = 0 ∧ u.on Reg.CLOCHE_EVT_OPEN = true ∧
      s.only u [Reg.CLOCHE_STAT_OPENING, Reg.CLOCHE_EVT_OPEN] [.ports]
    else u = s.toBlock))

/-- For every output o below 18. OUTPUT_RELEASE, where every condition of release holds and the output is not released, releases it and lets its
weight rise by 1/12288 a tick from the weight in force. REMOVAL_MUTE_END, on an output whose removal mute has come to weight zero, ends the mute,
and takes up a range held meanwhile. For every port n below 16: CM_RISE_END, 2457600 ticks after the rise began, makes CM read 2 and sets CMUP;
CM_FALL_END, 2457600 ticks after the fall began, makes CM read 0, sets CMDN and leaves the output unreleased at weight zero. Out of these
conditions each changes nothing. (R92 to R94, R320, R323). -/
def Obligations.OutputRamps : Prop :=
  (∀ (s : State) (o : Nat), o < 18 → gives (.outputRelease o) s fun u =>
    if s.outReady o && !(s.out o).released then
      (u.out o).released = true ∧ (u.out o).w0 = s.outWeight o ∧ (u.out o).slope = 1 ∧ (u.out o).at' = s.time.now ∧
      (16 ≤ o → u.on (Reg.HP_STAT_REL.bit (o - 16)) = true) ∧ (∀ k, k ≠ o → u.out k = s.out k) ∧
      s.only u (if o < 16 then [] else [Reg.HP_STAT_REL.bit (o - 16)]) [.ports]
    else u = s.toBlock) ∧
  (∀ (s : State) (o : Nat), o < 18 → gives (.removalMuteEnd o) s fun u =>
    if (s.out o).removal && s.outWeight o = 0 then
      (u.out o).removal = false ∧ u.outWeight o = 0 ∧ (u.out o).slope = 0 ∧ (∀ k, k ≠ o → u.out k = s.out k) ∧
      ((s.out o).rngHeld = none → s.only u [] [.ports]) ∧
      (∀ h, (s.out o).rng = 0 → (s.out o).rngHeld = some h → (h == s.on (rangeNow o)) = false → (u.out o).rng = (if (s.out o).released then 1 else 3)) ∧
      s.only u (if o < 16 then [Reg.UAP_STAT_RNGPEND o, Reg.UAP_STAT_RNGBUSY o] else []) [.ports]
    else u = s.toBlock) ∧
  (∀ (s : State) (n : Nat), n < 16 → gives (.cmRiseEnd n) s fun u =>
    if s.f (Reg.UAP_STAT_CM n) = 1 && s.reached ((s.out n).cmAt + 16 * 2457600) then
      u.f (Reg.UAP_STAT_CM n) = 2 ∧ u.on (Reg.UAP_EVT_CMUP n) = true ∧ s.only u [Reg.UAP_STAT_CM n, Reg.UAP_EVT_CMUP n] []
    else u = s.toBlock) ∧
  (∀ (s : State) (n : Nat), n < 16 → gives (.cmFallEnd n) s fun u =>
    if s.f (Reg.UAP_STAT_CM n) = 3 && s.reached ((s.out n).cmAt + 16 * 2457600) then
      u.f (Reg.UAP_STAT_CM n) = 0 ∧ u.on (Reg.UAP_EVT_CMDN n) = true ∧ (u.out n).released = false ∧ u.outWeight n = 0 ∧
      (∀ k, k ≠ n → u.out k = s.out k) ∧ s.only u [Reg.UAP_STAT_CM n, Reg.UAP_EVT_CMDN n] [.ports]
    else u = s.toBlock)

/-- For every output o below 18. RANGE_WRITE with the core clock running: on what is no output it changes nothing; else RANGE is stored, and during
a range change or a removal mute it is held and RNGPEND reads 1 on a port; on an idle output a value other than the range in force starts a change,
with ramps where the output is released and without them where it is not. RANGE_SWITCH, 12288 ticks after a change with ramps began or one tick
after one without, makes RANGE_NOW the other range. RANGE_CHANGE_END, 24640 ticks after the write or 64 ticks after the switch without ramps, sets
RNGDONE and ends the change; with nothing held and no removal mute the output is idle again. Out of these conditions each changes nothing (R95 to
R97). -/
def Obligations.RangeChanges : Prop :=
  (∀ (s : State) (o : Nat) (high : Bool), o < 18 → s.coreOn = true → gives (.rangeWrite o high) s fun u =>
    if s.isOut o then
      u.on (rangeReq o) = high ∧ (∀ k, k ≠ o → u.out k = s.out k) ∧
      ((s.out o).rng ≠ 0 ∨ (s.out o).removal = true →
        u.out o = { s.out o with rngHeld := some high } ∧ (o < 16 → u.on (Reg.UAP_STAT_RNGPEND o) = true)) ∧
      ((s.out o).rng = 0 → (s.out o).removal = false → (high == s.on (rangeNow o)) = true → s.only u [rangeReq o] []) ∧
      ((s.out o).rng = 0 → (s.out o).removal = false → (high == s.on (rangeNow o)) = false →
        u.out o = { s.out o with rng := if (s.out o).released then 1 else 3, rngAt := s.time.now } ∧ (o < 16 → u.on (Reg.UAP_STAT_RNGBUSY o) = true)) ∧
      s.only u (rangeReq o :: if o < 16 then [Reg.UAP_STAT_RNGBUSY o, Reg.UAP_STAT_RNGPEND o] else []) [.ports]
    else u = s.toBlock) ∧
  (∀ (s : State) (o : Nat), o < 18 → gives (.rangeSwitch o) s fun u =>
    if ((s.out o).rng = 1 && s.reached ((s.out o).rngAt + 16 * 12288)) || ((s.out o).rng = 3 && s.reached ((s.out o).rngAt + 16)) then
      u.on (rangeNow o) = !s.on (rangeNow o) ∧ (u.out o).rng = (if (s.out o).rng = 1 then 2 else 4) ∧
      (u.out o).rngAt = (if (s.out o).rng = 1 then (s.out o).rngAt else (s.out o).rngAt + 16) ∧
      (∀ k, k ≠ o → u.out k = s.out k) ∧ s.only u [rangeNow o] [.ports]
    else u = s.toBlock) ∧
  (∀ (s : State) (o : Nat), o < 18 → gives (.rangeChangeEnd o) s fun u =>
    if ((s.out o).rng = 2 && s.reached ((s.out o).rngAt + 16 * 24640)) || ((s.out o).rng = 4 && s.reached ((s.out o).rngAt + 16 * 64)) then
      u.on (rangeDone o) = true ∧ (∀ k, k ≠ o → u.out k = s.out k) ∧
      ((s.out o).rngHeld = none ∨ (s.out o).removal = true → u.out o = { s.out o with rng := 0 } ∧ (o < 16 → u.f (Reg.UAP_STAT_RNGBUSY o) = 0)) ∧
      (∀ h, (s.out o).rngHeld = some h → (s.out o).removal = false → (h == s.on (rangeNow o)) = true →
        u.out o = { s.out o with rng := 0, rngHeld := none }) ∧
      (∀ h, (s.out o).rngHeld = some h → (s.out o).removal = false → (h == s.on (rangeNow o)) = false →
        u.out o = { s.out o with rng := if (s.out o).released then 1 else 3, rngAt := s.time.now, rngHeld := none }) ∧
      s.only u (rangeDone o :: if o < 16 then [Reg.UAP_STAT_RNGBUSY o, Reg.UAP_STAT_RNGPEND o] else []) [.ports]
    else u = s.toBlock)

/-- CPOK with the pump running sets HP_STAT.CPOK and records its time. HP_STAGE_ON, 2 ms after CPOK, turns on the stage of an enabled side.
PUMPFAIL, with the pump running for 5 ms and CPOK reading 0, stops the pump, leaves both stages off and sets PUMPFAIL. HP_TRIP on a side whose
stage is on sets TRIPPED and TRIP of that side and holds it unreleased at weight zero, leaving the other outputs alone. HP_CLR, with the core clock
running, clears TRIPPED of the side. Out of these conditions each changes nothing (R325, R326). -/
def Obligations.Headphone : Prop :=
  (∀ s : State, gives .cpok s fun u =>
    if s.ports.pumpAt.isSome && !s.on Reg.HP_STAT_CPOK then
      u.on Reg.HP_STAT_CPOK = true ∧ u.ports = { s.ports with cpokAt := some s.time.now } ∧ s.only u [Reg.HP_STAT_CPOK] [.ports]
    else u = s.toBlock) ∧
  (∀ (s : State) (side : Nat), side < 2 → gives (.hpStageOn side) s fun u =>
    if s.ports.cpokAt.any (fun t => s.reached (t + 16 * (12288 * 2))) && s.on (Reg.HP_CFG_EN.bit side) then
      u.ports = { s.ports with hpOn := u.ports.hpOn } ∧ u.ports.hpOn.getLsbD side = true ∧
      (∀ k, k ≠ side → u.ports.hpOn.getLsbD k = s.ports.hpOn.getLsbD k) ∧ s.only u [] [.ports]
    else u = s.toBlock) ∧
  (∀ s : State, gives .pumpfail s fun u =>
    if s.ports.pumpAt.any (fun t => s.reached (t + 16 * (12288 * 5))) && !s.on Reg.HP_STAT_CPOK then
      u.ports = { s.ports with pumpAt := none, cpokAt := none, hpOn := 0 } ∧ u.on Reg.HP_EVT_PUMPFAIL = true ∧ u.f Reg.HP_STAT_CPOK = 0 ∧
      s.only u [Reg.HP_EVT_PUMPFAIL, Reg.HP_STAT_CPOK] [.ports]
    else u = s.toBlock) ∧
  (∀ (s : State) (side : Nat), side < 2 → gives (.hpTrip side) s fun u =>
    if s.ports.hpOn.getLsbD side && !s.on (Reg.HP_STAT_TRIPPED.bit side) then
      u.on (Reg.HP_STAT_TRIPPED.bit side) = true ∧ u.on (Reg.HP_EVT_TRIP.bit side) = true ∧ u.f (Reg.HP_STAT_REL.bit side) = 0 ∧
      (u.out (16 + side)).released = false ∧ u.outWeight (16 + side) = 0 ∧ (∀ k, k ≠ 16 + side → u.out k = s.out k) ∧
      s.only u [Reg.HP_STAT_TRIPPED.bit side, Reg.HP_EVT_TRIP.bit side, Reg.HP_STAT_REL.bit side] [.ports]
    else u = s.toBlock) ∧
  (∀ (s : State) (side : Nat), side < 2 → s.coreOn = true → gives (.hpClr side) s fun u =>
    u.f (Reg.HP_STAT_TRIPPED.bit side) = 0 ∧ s.only u [Reg.HP_STAT_TRIPPED.bit side] [])

/-- For every jack n below 8. JACK_SAMPLE on an enabled jack outside the sleeping modes stores PRES and the reading; one that differs from the
debounced reading moves a jack that is not PENDING to PENDING. JACK_DEBOUNCED on an enabled PENDING jack whose reading has held for 16 * 2^DEB ms,
with no identification running or due: with no plug the jack is EMPTY and CHG is set; with a plug, in a mode with audio, an identification starts.
JACK_REMOVAL on an enabled jack that is not EMPTY, in a mode with a tick, moves it to PENDING, aborts a running identification and starts the
removal mute, 2/12288 a tick, on every output that depends on it and is released. Out of these conditions they change nothing (R313 to R316, R320,
R321). For every jack n below 8. IDENTIFICATION_STEP with an identification running ends the measurement of the step in force at its time (2, 3, 8
ms, and 10 ms where Vdc reached the compliance) and changes nothing but the jack's record and, where a measurement had no conversion, the count of
free values; else it changes nothing. IDENTIFICATION_END after the last step writes R, L and Zac, clears IDRUN, and takes the class of the first
matching row: a first UNKNOWN leaves the state and makes a second identification due 100 ms later, any other result enters the class and sets CHG.
REIDENTIFY, once that time has come in a mode with audio, starts the second identification. REID on a jack neither EMPTY nor PENDING, with the core
clock running, moves it to PENDING and in a mode with audio starts an identification; on another jack it changes nothing (R317 to R319). -/
def Obligations.Jacks : Prop :=
  ((∀ (s : State) (n : Nat) (below : Bool), n < 8 → s.on (Reg.JACK_CFG_EN n) = true → s.base ≠ modeOff → s.sleeping = false →
    gives (.jackSample n below) s fun u =>
      u.on (Reg.JACK_STAT_PRES n) = (below != s.on (Reg.JACK_AON_POL.bit n)) ∧
      (u.jack n).reading = (below != s.on (Reg.JACK_AON_POL.bit n)) ∧ (u.jack n).seen = true ∧
      ((u.jack n).reading ≠ (s.jack n).deb → u.f (Reg.JACK_STAT_STATE n) = 1) ∧
      ((u.jack n).reading = (s.jack n).deb → u.f (Reg.JACK_STAT_STATE n) = s.f (Reg.JACK_STAT_STATE n)) ∧
      (∀ k, k ≠ n → u.jack k = s.jack k) ∧
      (∀ p : Part, p ∉ [Part.ports, Part.spk] → p.same s.toBlock u)) ∧
  (∀ (s : State) (n : Nat) (below : Bool), n < 8 → s.on (Reg.JACK_CFG_EN n) = false → gives (.jackSample n below) s fun u => u = s.toBlock) ∧
  (∀ (s : State) (n : Nat), n < 8 → gives (.jackDebounced n) s fun u =>
    if s.on (Reg.JACK_CFG_EN n) && s.f (Reg.JACK_STAT_STATE n) = 1 && (s.jack n).idAt.isNone && (s.jack n).again.isNone && (s.jack n).seen &&
       16 * 2 ^ s.f (Reg.JACK_CFG_DEB n) ≤ (s.jack n).same then
      ((s.jack n).reading = false → u.f (Reg.JACK_STAT_STATE n) = 0 ∧ u.on (Reg.JACK_EVT_CHG.bit n) = true ∧ (u.jack n).deb = false ∧
        (∀ p : Part, p ∉ [Part.ports, Part.spk] → p.same s.toBlock u)) ∧
      ((s.jack n).reading = true → s.audioOn = true → u.f (Reg.JACK_STAT_STATE n) = 1 ∧ u.on (Reg.JACK_STAT_IDRUN n) = true ∧
        (u.jack n).deb = true ∧ (u.jack n).idAt = some s.time.now ∧ (u.jack n).second = false ∧ (u.jack n).step = 0 ∧
        s.only u [Reg.JACK_STAT_STATE n, Reg.JACK_STAT_IDRUN n] [.ports]) ∧
      ((s.jack n).reading = true → s.audioOn = false → u = s.toBlock)
    else u = s.toBlock) ∧
  (∀ (s : State) (n : Nat), n < 8 → gives (.jackRemoval n) s fun u =>
    if !s.on (Reg.JACK_CFG_EN n) || s.sleeping || s.f (Reg.JACK_STAT_STATE n) = 0 then u = s.toBlock else
      u.f (Reg.JACK_STAT_STATE n) = 1 ∧ (u.jack n).reading = false ∧ (u.jack n).idAt = none ∧ (u.jack n).again = none ∧
      ((s.jack n).idAt.isSome = true → u.on (Reg.JACK_EVT_ABORT.bit n) = true ∧ u.f (Reg.JACK_STAT_IDRUN n) = 0) ∧
      (∀ o, o < 18 → s.on (Reg.JACK_OUTMAP_USE o) = true → s.f (Reg.JACK_OUTMAP_JACK o) = n → (s.out o).released = true →
        (u.out o).released = false ∧ (u.out o).removal = true ∧ (u.out o).slope = -2 ∧ (u.out o).w0 = s.outWeight o ∧ (u.out o).at' = s.time.now) ∧
      (∀ p : Part, p ∉ [Part.ports, Part.spk] → p.same s.toBlock u)))
  ∧
  ((∀ (s : State) (n zac : Nat), n < 8 → gives (.identificationStep n zac) s fun u =>
    (∀ k, k ≠ n → u.jack k = s.jack k) ∧ s.only u [] [.ports, .free] ∧
    (∀ t, (s.jack n).idAt = some t →
      ((s.jack n).step = 0 → s.reached (t + 16 * 24576) = true → (u.jack n).step = 1) ∧
      ((s.jack n).step = 1 → s.reached (t + 16 * 36864) = true → (u.jack n).step = 2) ∧
      ((s.jack n).step = 2 → s.reached (t + 16 * 98304) = true → (u.jack n).step = 3) ∧
      ((s.jack n).step = 3 → s.atCompliance n = true → s.reached (t + 16 * 122880) = true → (u.jack n).step = 4 ∧ (u.jack n).zac = zac)) ∧
    ((s.jack n).idAt = none → u = s.toBlock)) ∧
  (∀ (s : State) (n : Nat), n < 8 → gives (.identificationEnd n) s fun u =>
    let cls := jackClass (s.identRL n).1 (s.identRL n).2 (s.atCompliance n) (s.jack n).zac
    if (s.jack n).idAt.isSome && (((s.jack n).step = 3 && !s.atCompliance n) || (s.jack n).step = 4) then
      u.f (Reg.JACK_STAT_IDRUN n) = 0 ∧ (u.jack n).idAt = none ∧ u.f (Reg.JACK_IDL_ZAC n) = min (s.jack n).zac 0xFFFF ∧
      (s.atCompliance n = true → u.f (Reg.JACK_ID_R n) = 0x1FFFFF) ∧
      (cls = 8 ∧ (s.jack n).second = false → (u.jack n).again = some (s.time.now + 16 * (12288 * 100)) ∧
        u.f (Reg.JACK_STAT_STATE n) = s.f (Reg.JACK_STAT_STATE n) ∧
        s.only u [Reg.JACK_ID_R n, Reg.JACK_IDL_L n, Reg.JACK_IDL_ZAC n, Reg.JACK_STAT_IDRUN n] [.ports]) ∧
      (cls ≠ 8 ∨ (s.jack n).second = true → u.f (Reg.JACK_STAT_STATE n) = cls ∧ u.on (Reg.JACK_EVT_CHG.bit n) = true) ∧
      (cls = 8 ∧ (s.jack n).second = true → u.on (Reg.JACK_EVT_UNK.bit n) = true) ∧
      (∀ p : Part, p ∉ [Part.ports, Part.spk] → p.same s.toBlock u)
    else u = s.toBlock) ∧
  (∀ (s : State) (n : Nat), n < 8 → gives (.reidentify n) s fun u =>
    if (s.jack n).again.any s.reached && s.audioOn then
      u.f (Reg.JACK_STAT_STATE n) = 1 ∧ u.on (Reg.JACK_STAT_IDRUN n) = true ∧ (u.jack n).idAt = some s.time.now ∧ (u.jack n).again = none ∧
      (u.jack n).second = true ∧ (∀ k, k ≠ n → u.jack k = s.jack k) ∧ s.only u [Reg.JACK_STAT_STATE n, Reg.JACK_STAT_IDRUN n] [.ports]
    else u = s.toBlock) ∧
  (∀ (s : State) (n : Nat), n < 8 → s.coreOn = true → gives (.reid n) s fun u =>
    if s.f (Reg.JACK_STAT_STATE n) = 0 ∨ s.f (Reg.JACK_STAT_STATE n) = 1 then u = s.toBlock else
      u.f (Reg.JACK_STAT_STATE n) = 1 ∧ (s.audioOn = true → u.on (Reg.JACK_STAT_IDRUN n) = true ∧ (u.jack n).idAt = some s.time.now ∧
        (u.jack n).second = false) ∧ (∀ k, k ≠ n → u.jack k = s.jack k) ∧
      (∀ p : Part, p ∉ [Part.ports, Part.spk] → p.same s.toBlock u)))

/-- For both channels c. SPK_RELEASE where every release condition holds: from OFF the channel is in BOOT from now on; from RAMPDN, where no graft
has stopped it, it is in RAMPUP from the weight in force. SPK_SWITCH_START in BOOT, 3072 ticks after it began, at a carrier-period start, makes
both half-bridges switch. SPK_RAMPUP_START in BOOT, 3072 ticks after the switching began, is RAMPUP from weight zero, 1/12288 a tick. SPK_RUN in
RAMPUP at full weight is RUN with RUNNING set. SPK_HOLD in RAMPDN at weight zero begins the hold. SPK_OFF at a carrier-period start is OFF from a
broken-off BOOT, and with STOPPED set after a hold of 3072 ticks, and without it after the commit of a graft that stops the channel. Out of these
conditions each changes nothing; none changes anything but the channel's record, its state and its event (R298 to R301). For both channels c.
CURRENT_LIMIT on a driving channel makes both legs drive the current toward zero until the carrier half-period ends, and, in a carrier period not
counted yet, counts it, sets ILIM and counts the run of limited periods: during a load check the check has failed; the 64th in a row outside a
check trips the channel. HARD_SHORT on a driving channel fails a running check and trips any other. POWER_DIE_OVERTEMP trips every enabled channel
that is not LOCKED. A trip sets TRIP, counts it, records cause 0x20 and puts the channel into BACKOFF with its half-bridges off for max(1, BACKOFF)
* 10 ms. A channel that does not drive changes nothing (R302, R304, R580). -/
def Obligations.Speakers : Prop :=
  ((∀ (s : State) (c : Nat), c < 2 → gives (.spkRelease c) s fun u =>
    (∀ k, k ≠ c → u.spkSt k = s.spkSt k) ∧ s.only u [Reg.SPK_STAT_STATE c] [.spk] ∧
    (s.spkFree c = true → s.spkState c = spkOff → u.spkState c = spkBoot ∧ (u.spkSt c).since = s.time.now ∧ (u.spkSt c).switching = false) ∧
    (s.spkFree c = true → s.spkState c = spkDn → s.spkGone c = false → u.spkState c = spkUp ∧ (u.spkSt c).w0 = s.spkWeight c ∧ (u.spkSt c).slope = 1 ∧
      (u.spkSt c).at' = s.time.now) ∧
    (s.spkFree c = false ∨ (s.spkState c ≠ spkOff ∧ s.spkState c ≠ spkDn) ∨ (s.spkState c = spkDn ∧ s.spkGone c = true) → u = s.toBlock)) ∧
  (∀ (s : State) (c : Nat), c < 2 → gives (.spkSwitchStart c) s fun u =>
    if s.spkState c = spkBoot && !(s.spkSt c).switching && !(s.spkSt c).quit && s.reached ((s.spkSt c).since + 16 * 3072) && s.carrierStart c then
      u.spkSt c = { s.spkSt c with switching := true, since := s.time.now } ∧ (∀ k, k ≠ c → u.spkSt k = s.spkSt k) ∧ s.only u [] [.spk]
    else u = s.toBlock) ∧
  (∀ (s : State) (c : Nat), c < 2 → gives (.spkRampupStart c) s fun u =>
    if s.spkState c = spkBoot && (s.spkSt c).switching && !(s.spkSt c).quit && s.reached ((s.spkSt c).since + 16 * 3072) then
      u.spkState c = spkUp ∧ (u.spkSt c).w0 = 0 ∧ (u.spkSt c).slope = 1 ∧ (u.spkSt c).at' = s.time.now ∧ (u.spkSt c).switching = true ∧
      (∀ k, k ≠ c → u.spkSt k = s.spkSt k) ∧ s.only u [Reg.SPK_STAT_STATE c] [.spk]
    else u = s.toBlock) ∧
  (∀ (s : State) (c : Nat), c < 2 → gives (.spkRun c) s fun u =>
    if s.spkState c = spkUp && s.spkWeight c = 12288 then
      u.spkState c = spkRun ∧ u.on (Reg.SPK_EVT_RUNNING c) = true ∧ u.spkWeight c = 12288 ∧ (u.spkSt c).runAt = s.time.now ∧
      (∀ k, k ≠ c → u.spkSt k = s.spkSt k) ∧ s.only u [Reg.SPK_STAT_STATE c, Reg.SPK_EVT_RUNNING c] [.spk]
    else u = s.toBlock) ∧
  (∀ (s : State) (c : Nat), c < 2 → gives (.spkHold c) s fun u =>
    if s.spkState c = spkDn && !(s.spkSt c).hold && s.spkWeight c = 0 then
      (u.spkSt c).hold = true ∧ u.spkWeight c = 0 ∧ (u.spkSt c).since = (s.spkSt c).at' + 16 * (s.spkSt c).w0 ∧
      (∀ k, k ≠ c → u.spkSt k = s.spkSt k) ∧ s.only u [] [.spk]
    else u = s.toBlock) ∧
  (∀ (s : State) (c : Nat), c < 2 → gives (.spkOff c) s fun u =>
    (∀ k, k ≠ c → u.spkSt k = s.spkSt k) ∧ s.only u [Reg.SPK_STAT_STATE c, Reg.SPK_EVT_STOPPED c] [.spk] ∧
    (s.carrierStart c = true → s.spkState c = spkBoot → (s.spkSt c).quit = true → u.spkState c = spkOff ∧ (u.spkSt c).switching = false ∧
      s.only u [Reg.SPK_STAT_STATE c] [.spk]) ∧
    (s.carrierStart c = true → s.spkState c = spkDn → s.spkGone c = true → u.spkState c = spkOff ∧ (u.spkSt c).switching = false ∧
      s.only u [Reg.SPK_STAT_STATE c] [.spk]) ∧
    (s.carrierStart c = true → s.spkState c = spkDn → s.spkGone c = false → (s.spkSt c).hold = true → s.reached ((s.spkSt c).since + 16 * 3072) = true →
      u.spkState c = spkOff ∧ (u.spkSt c).switching = false ∧ u.on (Reg.SPK_EVT_STOPPED c) = true) ∧
    (s.carrierStart c = false ∨ (s.spkState c ≠ spkBoot ∧ s.spkState c ≠ spkDn) → u = s.toBlock)))
  ∧
  ((∀ (s : State) (c : Nat), c < 2 → gives (.currentLimit c) s fun u =>
    if !s.spkDriving c then u = s.toBlock
    else if (s.spkSt c).limRun ≠ 0 && (s.spkSt c).limLast = s.carrierNo c then
      u.spkSt c = { s.spkSt c with limUntil := s.halfEnd c } ∧ (∀ k, k ≠ c → u.spkSt k = s.spkSt k) ∧ s.only u [] [.spk]
    else
      let run := if (s.spkSt c).limRun ≠ 0 && (s.spkSt c).limLast + 1 = s.carrierNo c then (s.spkSt c).limRun + 1 else 1
      u.on (Reg.SPK_EVT_ILIM c) = true ∧ u.f (Reg.SPK_ILIMCNT_ILIM c) = min (s.f (Reg.SPK_ILIMCNT_ILIM c) + 1) (2 ^ (Reg.SPK_ILIMCNT_ILIM c).width - 1) ∧
      (s.spkState c = spkCheck → (u.spkSt c).checkBad = true ∧ (u.spkSt c).limUntil = s.halfEnd c ∧ u.spkState c = spkCheck) ∧
      (s.spkState c ≠ spkCheck → run < 64 → u.spkSt c = { s.spkSt c with limUntil := s.halfEnd c, limRun := run, limLast := s.carrierNo c } ∧
        s.only u [Reg.SPK_EVT_ILIM c, Reg.SPK_ILIMCNT_ILIM c] [.spk]) ∧
      (s.spkState c ≠ spkCheck → 64 ≤ run → u.spkState c = spkBackoff ∧ u.on (Reg.SPK_EVT_TRIP c) = true) ∧
      (∀ k, k ≠ c → u.spkSt k = s.spkSt k) ∧
      s.only u ([Reg.SPK_EVT_ILIM c, Reg.SPK_ILIMCNT_ILIM c, Reg.SPK_EVT_TRIP c, Reg.SPK_TRIPCNT_TRIP c, Reg.SPK_STAT_STATE c] ++ faultFlds) [.spk, .ledger]) ∧
  (∀ (s : State) (c : Nat), c < 2 → gives (.hardShort c) s fun u =>
    (s.spkDriving c = false → u = s.toBlock) ∧
    (s.spkState c = spkCheck → (u.spkSt c).checkBad = true ∧ s.only u [] [.spk]) ∧
    (s.spkDriving c = true → s.spkState c ≠ spkCheck →
      u.spkState c = spkBackoff ∧ u.on (Reg.SPK_EVT_TRIP c) = true ∧ (u.spkSt c).switching = false ∧
      (u.spkSt c).backLeft = 12288 * (10 * max 1 (s.f (Reg.SPK_PROT_BACKOFF c))) ∧
      u.f (Reg.SPK_TRIPCNT_TRIP c) = min (s.f (Reg.SPK_TRIPCNT_TRIP c) + 1) (2 ^ (Reg.SPK_TRIPCNT_TRIP c).width - 1) ∧
      u.ledger = (s.record 0x20 5 c (s.word (Reg.SPK_RLOAD c)) []).ledger) ∧
    (∀ k, k ≠ c → u.spkSt k = s.spkSt k) ∧
    s.only u ([Reg.SPK_EVT_TRIP c, Reg.SPK_TRIPCNT_TRIP c, Reg.SPK_STAT_STATE c] ++ faultFlds) [.spk, .ledger]) ∧
  (∀ s : State, gives .powerDieOvertemp s fun u =>
    (∀ c, c < 2 → s.on (Reg.SPK_CFG_EN c) = true → s.spkState c ≠ spkLocked → u.spkState c = spkBackoff ∧ u.on (Reg.SPK_EVT_TRIP c) = true ∧
      (u.spkSt c).switching = false) ∧
    (∀ c, c < 2 → s.on (Reg.SPK_CFG_EN c) = false ∨ s.spkState c = spkLocked → u.spkState c = s.spkState c ∧ u.spkSt c = s.spkSt c) ∧
    s.only u ((List.range 2).flatMap (fun c => [Reg.SPK_EVT_TRIP c, Reg.SPK_TRIPCNT_TRIP c, Reg.SPK_STAT_STATE c]) ++ faultFlds) [.spk, .ledger]))

/-- For both channels c. LOAD_CHECK in BACKOFF, once its wait has passed with the release conditions holding, starts a check; CHECK, with the core
clock running, starts one on an OFF channel in READY, PLAY, COAST or ISLAND and changes nothing else where. LOAD_CHECK_END in CHECK: a check a
comparator has failed counts in RETRY, sets CHKFAIL, and the eighth locks the channel and records cause 0x21; after 18432 ticks with samples taken,
a resistance of at least RMIN passes the check, and the device's own check then ramps up while the release conditions hold. RETRY_CLEAR one second
into RUN clears RETRY. SPK_CLR, with the core clock running, leaves LOCKED for OFF with RETRY 0, and changes nothing in another state.
THERMAL_UPDATE outside the modes with audio, outside every 48th frame or a second time in a frame changes nothing; else it resets the sums of the
millisecond (R304 to R307). -/
def Obligations.SpeakerLoadChecks : Prop :=
  (∀ (s : State) (c : Nat), c < 2 → gives (.loadCheck c) s fun u =>
    if s.spkState c = spkBackoff && s.spkFree c && (s.spkSt c).backAt.any (fun t => s.reached (t + 16 * (s.spkSt c).backLeft)) then
      u.spkState c = spkCheck ∧ (u.spkSt c).checkAt = s.time.now ∧ (u.spkSt c).checkHost = false ∧ (u.spkSt c).checkBad = false ∧ (u.spkSt c).checkN = 0 ∧
      (∀ k, k ≠ c → u.spkSt k = s.spkSt k) ∧ s.only u [Reg.SPK_STAT_STATE c] [.spk]
    else u = s.toBlock) ∧
  (∀ (s : State) (c : Nat), c < 2 → s.coreOn = true → gives (.check c) s fun u =>
    if s.spkState c = spkOff && (s.base = modeReady || s.base = modePlay) then
      u.spkState c = spkCheck ∧ (u.spkSt c).checkAt = s.time.now ∧ (u.spkSt c).checkHost = true ∧ (u.spkSt c).checkBad = false ∧
      (∀ k, k ≠ c → u.spkSt k = s.spkSt k) ∧ s.only u [Reg.SPK_STAT_STATE c] [.spk]
    else u = s.toBlock) ∧
  (∀ (s : State) (c : Nat), c < 2 → gives (.loadCheckEnd c) s fun u =>
    (s.spkState c ≠ spkCheck → u = s.toBlock) ∧
    (s.spkState c = spkCheck → (s.spkSt c).checkBad = true →
      u.on (Reg.SPK_EVT_CHKFAIL c) = true ∧ u.f (Reg.SPK_STAT_RETRY c) = min 8 (s.f (Reg.SPK_STAT_RETRY c) + 1) ∧
      (7 ≤ s.f (Reg.SPK_STAT_RETRY c) → u.spkState c = spkLocked ∧ u.on (Reg.SPK_EVT_LOCK c) = true ∧
        u.ledger = (s.record 0x21 5 c (s.word (Reg.SPK_RLOAD c)) []).ledger) ∧
      (s.f (Reg.SPK_STAT_RETRY c) < 7 → u.spkState c = (if (s.spkSt c).checkHost then spkOff else spkBackoff))) ∧
    (s.spkState c = spkCheck → (s.spkSt c).checkBad = false → s.reached ((s.spkSt c).checkAt + 16 * 18432) = false → u = s.toBlock) ∧
    (s.spkState c = spkCheck → (s.spkSt c).checkBad = false → s.reached ((s.spkSt c).checkAt + 16 * 18432) = true → (s.spkSt c).checkN ≠ 0 →
      1000 * s.f (Reg.SPK_PROT_RMIN c) ≤ 16 * checkOhms (s.spkSt c).sumV (s.spkSt c).sumI →
      u.f (Reg.SPK_RLOAD_R c) = checkOhms (s.spkSt c).sumV (s.spkSt c).sumI ∧
      u.on (Reg.SPK_STAT_OPEN c) = decide (64000 < checkOhms (s.spkSt c).sumV (s.spkSt c).sumI) ∧
      u.spkState c = (if (s.spkSt c).checkHost then spkOff else if s.spkFree c then spkUp else spkDn)) ∧
    (∀ k, k ≠ c → u.spkSt k = s.spkSt k) ∧
    s.only u ([Reg.SPK_EVT_CHKFAIL c, Reg.SPK_EVT_CHKOPEN c, Reg.SPK_EVT_LOCK c, Reg.SPK_RLOAD_R c, Reg.SPK_STAT_OPEN c, Reg.SPK_STAT_RETRY c,
      Reg.SPK_STAT_STATE c] ++ faultFlds) [.spk, .ledger, .free]) ∧
  (∀ (s : State) (c : Nat), c < 2 → gives (.retryClear c) s fun u =>
    if s.spkState c = spkRun && s.reached ((s.spkSt c).runAt + 16 * (12288 * 1000)) then
      u.f (Reg.SPK_STAT_RETRY c) = 0 ∧ s.only u [Reg.SPK_STAT_RETRY c] []
    else u = s.toBlock) ∧
  (∀ (s : State) (c : Nat), c < 2 → s.coreOn = true → gives (.spkClr c) s fun u =>
    if s.spkState c = spkLocked then
      u.f (Reg.SPK_STAT_RETRY c) = 0 ∧ u.spkState c = spkOff ∧ (u.spkSt c).switching = false ∧ (∀ k, k ≠ c → u.spkSt k = s.spkSt k) ∧
      s.only u [Reg.SPK_STAT_RETRY c, Reg.SPK_STAT_STATE c] [.spk]
    else u = s.toBlock) ∧
  (∀ (s : State) (c : Nat), c < 2 → gives (.thermalUpdate c) s fun u =>
    if !s.audioOn || s.f Reg.PWR_FRAME_FRAME % 48 ≠ 0 || (s.spkSt c).updFrame = some (s.f Reg.PWR_FRAME_FRAME) then u = s.toBlock else
      (u.spkSt c).updFrame = some (s.f Reg.PWR_FRAME_FRAME) ∧ (u.spkSt c).updAt = s.time.now ∧ (u.spkSt c).pairs = 0 ∧ (u.spkSt c).sumVI = 0 ∧
      (u.spkSt c).attFrom = (s.spkSt c).att ∧ (u.spkSt c).att ≤ (s.spkSt c).att + 1 ∧
      (∀ p : Part, p ∉ [Part.ports, Part.spk, Part.ledger] → p.same s.toBlock u))

/-- For every chain of R112 and R115. CHAIN_OUTPUT of a chain that runs with an output formed delivers it: while outputs remain to be marked it is
tagged U and one fewer remains; the first one after that clears UNSET and sets SETTLED; before the first output at a new shift the count that ran
before it tags its outputs; a chain that feeds a graph inject presents the output to the matrix at once; a chain that does not run or has formed
none changes nothing. With the core clock running: SRST on a running chain with no restart waiting or just made by a graft takes effect at the next
output, else it changes nothing; CHAIN_SHIFT_WRITE stores the shifts of a running chain, and where a stage that it runs changes its shift, a count
of U begins and SHIFT is set. CHAIN_RESTART at its tick starts the chain anew, unsettled, from zero state but for the input of that very tick, with
RESTART set after a graft; before its tick it changes nothing. Only the chain's registers, the chains, and for an output the matrix inputs, the
speakers' graph feed and the Listen record change (R119 to R129; that a decimation chain runs only behind an input is the model's reading of R112,
log 89). -/
def Obligations.HalfBandChains : Prop :=
  (∀ (s : State) (c : ChainId), chainOk c = true → gives (.chainOutput c) s fun u =>
    (s.chainRuns c = false ∨ (s.chain c).ready = none → u = s.toBlock) ∧
    (∀ x, s.chainRuns c = true → (s.chain c).ready = some x → (s.chain c).srst = false → (s.chain c).uAt = none →
      (u.chain c).ready = none ∧
      (s.f (chainLeft c) ≠ 0 → u.f (chainLeft c) = s.f (chainLeft c) - 1 ∧ ((s.chain c).cut = none → (u.chain c).out = x.withTag tagU)) ∧
      (s.f (chainLeft c) = 0 → (s.on (chainUnset c) = true → u.f (chainUnset c) = 0 ∧ u.on (chainSettled c) = true) ∧
        ((s.chain c).cut = none → (u.chain c).out = x))) ∧
    (∀ x v, s.chainRuns c = true → (s.chain c).ready = some x → (s.chain c).srst = false → (s.chain c).uAt = some v → s.tickNo < v →
      u.f (chainLeft c) = s.f (chainLeft c) ∧ (u.chain c).uAt = some v ∧ (u.chain c).uOld = (s.chain c).uOld - 1 ∧
      ((s.chain c).cut = none → (u.chain c).out = if (s.chain c).uOld = 0 then x else x.withTag tagU)) ∧
    (s.chainRuns c = true → (s.chain c).ready.isSome = true → (s.chain c).srst = true → (u.chain c).hist = [] ∧ (u.chain c).srst = false) ∧
    (∀ m k, c = .int m → k < 4 → s.f (Reg.CHAIN_ICFG_SINK m) = 0x14 + k → s.chainRuns c = true → (s.chain c).ready.isSome = true →
      u.dir.inputs.getD (20 + k) {} = (u.chain c).out) ∧
    (∀ d, chainIx d ≠ chainIx c → u.chain d = s.chain d) ∧
    s.only u ([chainLeft c, chainUnset c, chainSettled c, Reg.DIR_EVT_INSF] ++ (List.range 24).map Reg.DIR_GLB_INSF_IN.bit) [.chains, .lsn, .spk, .dir]) ∧
  (∀ (s : State) (c : ChainId), chainOk c = true → s.coreOn = true → gives (.srst c) s fun u =>
    if s.chainRuns c && (s.chain c).restart.isNone && !((s.chain c).start = s.tickNo && (s.chain c).cut.isSome) then
      u.chain c = { s.chain c with srst := true } ∧ (∀ d, chainIx d ≠ chainIx c → u.chain d = s.chain d) ∧ s.only u [] [.chains]
    else u = s.toBlock) ∧
  (∀ (s : State) (c : ChainId) (w : Word), chainOk c = true → s.coreOn = true → gives (.chainShiftWrite c w) s fun u =>
    if s.chainRuns c then
      u.f (chainShift c) = w.toNat % 2 ^ 24 ∧
      ((s.chainStages c).any (fun k => w.toNat % 2 ^ 24 / 2 ^ (3 * (k - 1)) % 8 != s.stageShift c k) = false → s.only u [chainShift c] []) ∧
      ((s.chainStages c).any (fun k => w.toNat % 2 ^ 24 / 2 ^ (3 * (k - 1)) % 8 != s.stageShift c k) = true →
        u.on (chainUnset c) = true ∧ u.on (chainShiftEvt c) = true ∧ (u.chain c).uAt.isSome = true ∧ (u.chain c).hist = (s.chain c).hist) ∧
      (∀ d, chainIx d ≠ chainIx c → u.chain d = s.chain d) ∧
      s.only u [chainShift c, chainLeft c, chainUnset c, chainShiftEvt c] [.chains]
    else u = s.toBlock) ∧
  (∀ (s : State) (c : ChainId), chainOk c = true → gives (.chainRestart c) s fun u =>
    ((s.chain c).restart = none → u = s.toBlock) ∧
    (∀ t graft, (s.chain c).restart = some (t, graft) →
      if t ≤ s.tickNo then
        (u.chain c).start = t ∧ (u.chain c).restart = none ∧ u.on (chainUnset c) = true ∧
        (t < s.tickNo ∨ s.audioOn = false → (u.chain c).hist = [] ∧ (u.chain c).ready = none) ∧
        (graft = true → u.on (chainRestarted c) = true) ∧ (∀ d, chainIx d ≠ chainIx c → u.chain d = s.chain d) ∧
        s.only u ([chainLeft c, chainUnset c, chainRestarted c, chainDly c, chainSat c, chainSatEvt c] ++ (match c with
          | .dec n => [Reg.CHAIN_DSTAT_OFS n]
          | .int _ => [])) [.chains]
      else u = s.toBlock))

/-- For an enabled crosspoint with HOLD at 0 and the core clock running, XP_GAIN_WRITE stores GAIN. While it waits for a crossing: a new target
replaces the target, keeps the deadline and sets GOVR; one equal to the gain in force cancels the wait and sets GOVR; on the tick of a detected
crossing the step takes the target held before, and the write is a new request. Before the end of a ramp's 64 ticks the ramp goes on unchanged, and
XP_RAMP_END then takes the new target up as if written at the ramp's last tick: it waits with its timeout from there and with the crossings of the
samples since, or ramps. Other crosspoints do not change. -/
def Obligations.CrosspointWrites : Prop :=
  (∀ (s : State) (o i : Nat) (g : BitVec 18), o < 24 → i < 24 → s.coreOn = true → s.on (Reg.DIR_XP_EN o i) = true → s.on Reg.DIR_GLB_CTRL_HOLD = false →
    gives (.xpGainWrite o i g) s fun u =>
      u.f (Reg.DIR_XP_GAIN o i) = g.toNat ∧
      (∀ t, (s.xp o i).rampAt = none → (s.xp o i).toAt = some t → (s.xp o i).crossed = false →
        (g.toInt = (s.xp o i).cur → (u.xp o i).toAt = none ∧ (u.xp o i).cur = (s.xp o i).cur ∧ u.on Reg.DIR_EVT_GOVR = true) ∧
        (g.toInt ≠ (s.xp o i).cur → g.toInt ≠ (s.xp o i).goal → (u.xp o i).goal = g.toInt ∧ (u.xp o i).toAt = some t ∧ u.on Reg.DIR_EVT_GOVR = true)) ∧
      (∀ t, (s.xp o i).rampAt = none → (s.xp o i).toAt = some t → (s.xp o i).crossed = true →
        (u.xp o i).cur = (s.xp o i).goal ∧ (g.toInt = (s.xp o i).goal → (u.xp o i).toAt = none) ∧
        (g.toInt ≠ (s.xp o i).goal → s.on (Reg.DIR_OCTRL_ZCMODE o) = false → s.f Reg.DIR_GLB_CTRL_ZCTO ≠ 0 →
          (u.xp o i).goal = g.toInt ∧ (u.xp o i).toAt = some (s.time.now + 16 * (12288 * s.f Reg.DIR_GLB_CTRL_ZCTO)))) ∧
      (∀ t, (s.xp o i).rampAt = some t → s.reached (t + 16 * 64) = false → u.xp o i = { s.xp o i with held := false } ∧ s.only u [Reg.DIR_XP_GAIN o i] [.dir]) ∧
      (∀ p j, p < 24 → j < 24 → (p ≠ o ∨ j ≠ i) → u.xp p j = s.xp p j) ∧ s.only u [Reg.DIR_XP_GAIN o i, Reg.DIR_EVT_GOVR] [.dir]) ∧
  (∀ (s : State) (o i t : Nat), o < 24 → i < 24 → (s.xp o i).rampAt = some t → s.reached (t + 16 * 64) = true → (s.xp o i).held = false →
    (s.xp o i).toAt = none → gives (.xpRampEnd o i) s fun u =>
      (u.xp o i).cur = (s.xp o i).goal ∧
      (s.xpTarget o i = (s.xp o i).goal → (u.xp o i).rampAt = none ∧ (u.xp o i).toAt = none) ∧
      (s.xpTarget o i ≠ (s.xp o i).goal → s.on (Reg.DIR_OCTRL_ZCMODE o) = false → s.f Reg.DIR_GLB_CTRL_ZCTO ≠ 0 →
        (u.xp o i).goal = s.xpTarget o i ∧ (u.xp o i).toAt = some (t + 16 * 63 + 16 * (12288 * s.f Reg.DIR_GLB_CTRL_ZCTO)) ∧
        (u.xp o i).crossed = (s.xp o i).crossed) ∧
      (s.xpTarget o i ≠ (s.xp o i).goal → (s.on (Reg.DIR_OCTRL_ZCMODE o) = true ∨ s.f Reg.DIR_GLB_CTRL_ZCTO = 0) →
        (u.xp o i).goal = s.xpTarget o i ∧ (u.xp o i).rampAt = some (t + 16 * 64)) ∧
      s.only u [Reg.DIR_EVT_GOVR] [.dir])

/-- XP_GAIN_WRITE with the core clock running: on a crosspoint not enabled nothing changes; under HOLD the target is stored and held; with no
change pending or running, a target other than the gain in force waits for a crossing for ZCTO ms from now, or with ZCMODE 1 or ZCTO 0 ramps from
the next tick. XP_CROSSING_STEP on a crosspoint that waits and has seen a crossing takes the whole difference; XP_GAIN_TIMEOUT at the deadline
without a crossing starts the ramp at the deadline and sets GTO; DIR_HOLD_RELEASE, with the core clock running, clears HOLD and every held target
is acted on now; XP_RAMP_END before 64 ticks, or with no ramp, changes nothing. Else each changes nothing (R141 to R144). For every output o below
24. BQ_SWAP with the core clock running: with no swap, freeze or route scarf a swap begins at the next tick and BQXF reads 1; else the swap waits,
BQPEND reads 1, and a second request sets BQOVR. At the first tick of a swap its new chain takes the staging sets as they then stand, with the
history of the active filters. BQ_SWAP_END after 256 ticks makes the new sets active, counts BQSET and sets BQDONE; where none has begun behind it
the swap is over. ROUTE_SCARF_END after 3072 ticks, or 12288 of a port that leaves the output role, clears RSCARF; the old route of a leaving port
goes at once, another one with the next tick, after its last sample. Else each changes nothing (R150, R151, R160). -/
def Obligations.DirectPath : Prop :=
  ((∀ (s : State) (o i : Nat) (g : BitVec 18), o < 24 → i < 24 → s.coreOn = true → gives (.xpGainWrite o i g) s fun u =>
    (s.on (Reg.DIR_XP_EN o i) = false → u = s.toBlock) ∧
    (s.on (Reg.DIR_XP_EN o i) = true → s.on Reg.DIR_GLB_CTRL_HOLD = true → (s.xp o i).rampAt.any (fun t => s.reached (t + 16 * 64)) = false →
      u.f (Reg.DIR_XP_GAIN o i) = g.toNat ∧ u.xp o i = { s.xp o i with held := true } ∧ s.only u [Reg.DIR_XP_GAIN o i] [.dir]) ∧
    (s.on (Reg.DIR_XP_EN o i) = true → s.on Reg.DIR_GLB_CTRL_HOLD = false → (s.xp o i).rampAt = none → (s.xp o i).toAt = none → g.toInt ≠ (s.xp o i).cur →
      (u.xp o i).goal = g.toInt ∧ (u.xp o i).cur = (s.xp o i).cur ∧
      (s.on (Reg.DIR_OCTRL_ZCMODE o) = false ∧ s.f Reg.DIR_GLB_CTRL_ZCTO ≠ 0 →
        (u.xp o i).toAt = some (s.time.now + 16 * (12288 * s.f Reg.DIR_GLB_CTRL_ZCTO)) ∧ (u.xp o i).crossed = false) ∧
      (s.on (Reg.DIR_OCTRL_ZCMODE o) = true ∨ s.f Reg.DIR_GLB_CTRL_ZCTO = 0 → (u.xp o i).rampAt = some (s.time.now + 16)) ∧
      s.only u [Reg.DIR_XP_GAIN o i] [.dir])) ∧
  (∀ (s : State) (o i : Nat), o < 24 → i < 24 → gives (.xpCrossingStep o i) s fun u =>
    if (s.xp o i).toAt.isSome && (s.xp o i).crossed then
      u.xp o i = { s.xp o i with cur := (s.xp o i).goal, toAt := none, crossed := false } ∧
      (∀ p j, p < 24 → j < 24 → (p ≠ o ∨ j ≠ i) → u.xp p j = s.xp p j) ∧ s.only u [] [.dir]
    else u = s.toBlock) ∧
  (∀ (s : State) (o i : Nat), o < 24 → i < 24 → gives (.xpGainTimeout o i) s fun u =>
    (∀ t, (s.xp o i).toAt = some t → s.reached t = true → (s.xp o i).crossed = false →
      (u.xp o i).rampAt = some t ∧ (u.xp o i).toAt = none ∧ (u.xp o i).goal = (s.xp o i).goal ∧ u.on Reg.DIR_EVT_GTO = true ∧
      s.only u [Reg.DIR_EVT_GTO] [.dir]) ∧
    ((s.xp o i).toAt.any s.reached = false ∨ (s.xp o i).crossed = true → u = s.toBlock)) ∧
  (∀ s : State, s.coreOn = true → gives .dirHoldRelease s fun u =>
    u.f Reg.DIR_GLB_CTRL_HOLD = 0 ∧
    (∀ o i, o < 24 → i < 24 → (s.xp o i).held = false → u.xp o i = s.xp o i) ∧
    (∀ o i, o < 24 → i < 24 → (s.xp o i).held = true → (u.xp o i).held = false ∧
      ((s.xp o i).rampAt = none → (s.xp o i).toAt = none → s.xpTarget o i ≠ (s.xp o i).cur → s.on (Reg.DIR_OCTRL_ZCMODE o) = false →
        s.f Reg.DIR_GLB_CTRL_ZCTO ≠ 0 → (u.xp o i).toAt = some (s.time.now + 16 * (12288 * s.f Reg.DIR_GLB_CTRL_ZCTO)))) ∧
    s.only u [Reg.DIR_GLB_CTRL_HOLD, Reg.DIR_EVT_GOVR] [.dir]) ∧
  (∀ (s : State) (o i : Nat), o < 24 → i < 24 → (s.xp o i).rampAt.any (fun t => s.reached (t + 16 * 64)) = false →
    gives (.xpRampEnd o i) s fun u => u = s.toBlock))
  ∧
  ((∀ (s : State) (o : Nat), o < 24 → s.coreOn = true → gives (.bqSwap o) s fun u =>
    if (s.dout o).swap.isSome || s.on Reg.GRF_SCARF_STAT_FREEZE || (s.dout o).old.isSome then
      u.on (Reg.DIR_OSTAT_BQPEND o) = true ∧ (s.on (Reg.DIR_OSTAT_BQPEND o) = true → u.on Reg.DIR_EVT_BQOVR = true) ∧
      (s.on (Reg.DIR_OSTAT_BQPEND o) = false → s.only u [Reg.DIR_OSTAT_BQPEND o] []) ∧ s.only u [Reg.DIR_OSTAT_BQPEND o, Reg.DIR_EVT_BQOVR] []
    else
      u.on (Reg.DIR_OSTAT_BQXF o) = true ∧ u.dout o = { s.dout o with swap := some { at' := s.time.now + 16 } } ∧
      (∀ k, k ≠ o → u.dout k = s.dout k) ∧ s.only u [Reg.DIR_OSTAT_BQXF o] [.dir]) ∧
  (∀ (b : Block) (o : Nat) (w : DirSwap), (b.dout o).swap = some w → w.live = false →
    (b.time.now < w.at' → b.beginSwaps o = b) ∧
    (w.at' ≤ b.time.now → (b.beginSwaps o).dout o = { b.dout o with swap := some { w with
      live := true,
      pipe := { (b.dout o).pipe with b0 := { (b.dout o).pipe.b0 with coef := b.staging o 0 }, b1 := { (b.dout o).pipe.b1 with coef := b.staging o 1 } } } })) ∧
  (∀ (s : State) (o : Nat), o < 24 → gives (.bqSwapEnd o) s fun u =>
    (∀ w, (s.dout o).swap = some w → s.reached (w.at' + 16 * 256) = true →
      (u.dout o).pipe = (if w.live then w.pipe else s.newChain o (s.dout o).pipe) ∧ u.on Reg.DIR_EVT_BQDONE = true ∧
      u.f (Reg.DIR_OSTAT_BQSET o) = (s.f (Reg.DIR_OSTAT_BQSET o) + 1) % 2 ^ (Reg.DIR_OSTAT_BQSET o).width ∧
      (w.next = none → (u.dout o).swap = none ∧ u.f (Reg.DIR_OSTAT_BQXF o) = 0) ∧
      (∀ t p, w.next = some (t, p) → (u.dout o).swap = some { at' := t, live := true, pipe := p } ∧ u.on (Reg.DIR_OSTAT_BQXF o) = true)) ∧
    ((s.dout o).swap.any (fun x => s.reached (x.at' + 16 * 256)) = false → u = s.toBlock) ∧
    (∀ k, k ≠ o → u.dout k = s.dout k) ∧
    s.only u [Reg.DIR_OSTAT_BQXF o, Reg.DIR_OSTAT_BQSET o, Reg.DIR_EVT_BQDONE] [.dir]) ∧
  (∀ (s : State) (o : Nat), o < 24 → gives (.routeScarfEnd o) s fun u =>
    (∀ y, (s.dout o).old = some y → s.reached (y.at' + 16 * (if y.leaving then 12288 else 3072)) = true →
      u.f (Reg.DIR_OSTAT_RSCARF o) = 0 ∧ u.dout o = (if y.leaving then { s.dout o with old := none } else s.dout o)) ∧
    ((s.dout o).old.any (fun y => s.reached (y.at' + 16 * (if y.leaving then 12288 else 3072))) = false → u = s.toBlock) ∧
    (∀ k, k ≠ o → u.dout k = s.dout k) ∧ s.only u [Reg.DIR_OSTAT_RSCARF o] [.dir]))

/-- GRAPH_INSTANT serves the graph instant that is due: it is due no longer, the grid stays where it is, and with no instant due nothing changes.
With the graph stopped (a mode without audio or no active image) nothing but the memory errors it names is taken in. With the graph running, the
sinks computed at the instant before pass to the output buffer. The clock, the control-sense converter, the Direct matrix, the speakers, the cells,
the network, the image and the OTP do not change (R165, R179). With the core clock running, ALT_WRITE above NALT sets ALTERR and stores nothing;
with NALT 0 it changes nothing; else it stores ALT, which under SELHOLD is held, and with no switch running and no freeze waits for the next graph
instant, or waits for nothing where it is the alternative in force. SELHOLD_RELEASE clears SELHOLD and no select holds a change any more.
SELECT_SWITCH_END once a switch has reached its last sample ends it and sets SELDONE; with none waiting the select is at rest; before, it changes
nothing. RING_INDEX_WRITE of the host's own index stores it where the fill stays within the ring, sets IDXERR where it does not, and changes
nothing on the device's own index (R174 to R176, R195, R248). -/
def Obligations.GraphAndSelects : Prop :=
  (∀ (s : State) (us : List Upset), gives (.graphInstant us) s fun u =>
    (s.time.graphDue = false → u = s.toBlock) ∧
    u.time.graphDue = false ∧ u.time = { s.time with graphDue := false } ∧
    (s.time.graphDue = true → s.graphOn = false → u.graph = s.graph ∧ u.mem.sram = s.mem.sram ∧ ∀ a, u.word a = s.word a) ∧
    (s.time.graphDue = true → s.graphOn = true → u.graph.buf = s.graph.work) ∧
    (∀ p : Part, p ∉ [Part.bst, Part.chains, Part.free, Part.graph, Part.ledger, Part.mem, Part.ports, Part.sap, Part.time] → p.same s.toBlock u))
  ∧
  ((∀ (s : State) (k alt : Nat), k < 196 → alt < 4 → s.coreOn = true → gives (.altWrite k alt) s fun u =>
    (s.f (Reg.GRF_SEL_NALT k) < alt → u.on Reg.GRF_EVT_ALTERR = true ∧ s.only u [Reg.GRF_EVT_ALTERR] []) ∧
    (alt ≤ s.f (Reg.GRF_SEL_NALT k) → s.f (Reg.GRF_SEL_NALT k) = 0 → u = s.toBlock) ∧
    (alt ≤ s.f (Reg.GRF_SEL_NALT k) → s.f (Reg.GRF_SEL_NALT k) ≠ 0 →
      u.f (Reg.GRF_SEL_ALT k) = alt ∧
      (s.on Reg.GRF_GLB_CTRL_SELHOLD = true → u.sel k = { s.sel k with held := some alt } ∧ s.only u [Reg.GRF_SEL_ALT k] [.graph]) ∧
      (s.on Reg.GRF_GLB_CTRL_SELHOLD = false → (s.sel k).run = none → s.frozen = false →
        u.sel k = { s.sel k with wait := if alt = (s.sel k).alt then none else some alt } ∧ s.only u [Reg.GRF_SEL_ALT k] [.graph]) ∧
      (s.on Reg.GRF_GLB_CTRL_SELHOLD = false → (s.sel k).run.isSome = true → (s.sel k).wait.isSome = true → u.on Reg.GRF_EVT_SELOVR = true)) ∧
    (∀ j, j ≠ k → u.sel j = s.sel j) ∧ s.only u [Reg.GRF_SEL_ALT k, Reg.GRF_EVT_ALTERR, Reg.GRF_EVT_SELOVR] [.graph]) ∧
  (∀ s : State, s.coreOn = true → gives .selholdRelease s fun u =>
    u.f Reg.GRF_GLB_CTRL_SELHOLD = 0 ∧ (∀ k, k < 196 → (u.sel k).held = none) ∧
    (∀ k, (s.sel k).held = none → u.sel k = s.sel k) ∧
    (∀ k alt, k < 196 → (s.sel k).held = some alt → (s.sel k).run = none → s.frozen = false →
      (u.sel k).wait = if alt = (s.sel k).alt then none else some alt) ∧
    s.only u [Reg.GRF_GLB_CTRL_SELHOLD, Reg.GRF_EVT_SELOVR] [.graph]) ∧
  (∀ (s : State) (k : Nat), k < 196 → gives (.selectSwitchEnd k) s fun u =>
    ((s.sel k).run.any (fun x => x.2.n ≤ x.2.k) = false → u = s.toBlock) ∧
    ((s.sel k).run.any (fun x => x.2.n ≤ x.2.k) = true → u.on Reg.GRF_EVT_SELDONE = true ∧
      ((s.sel k).wait = none → u.sel k = { s.sel k with run := none } ∧ s.only u [Reg.GRF_EVT_SELDONE] [.graph]) ∧
      (∀ alt, (s.sel k).wait = some alt → s.frozen = false → (u.sel k).alt = alt ∧ (u.sel k).wait = none ∧ (u.sel k).run.isSome = true ∧
        u.f (Reg.GRF_SEL_CUR k) = s.altSource k alt % 2 ^ (Reg.GRF_SEL_CUR k).width)) ∧
    (∀ j, j ≠ k → u.sel j = s.sel j) ∧ s.only u [Reg.GRF_EVT_SELDONE, Reg.GRF_SEL_CUR k] [.graph]) ∧
  (∀ (s : State) (t : Nat) (isWr : Bool) (v : Word), t < 16 → s.coreOn = true → gives (.ringIndexWrite t isWr v) s fun u =>
    (t < 8 → isWr = false → u = s.toBlock) ∧ (8 ≤ t → isWr = true → u = s.toBlock) ∧
    (t < 8 → isWr = true → (if (v - BitVec.ofNat 32 (s.f (Reg.GRF_RING_RD_RD t))).toNat ≤ s.ringLen t then
      u.f (Reg.GRF_RING_WR_WR t) = v.toNat ∧ s.only u [Reg.GRF_RING_WR_WR t] []
      else u.on (Reg.GRF_RING_EVT_IDXERR t) = true ∧ s.only u [Reg.GRF_RING_EVT_IDXERR t] [])) ∧
    (8 ≤ t → isWr = false → (if (BitVec.ofNat 32 (s.f (Reg.GRF_RING_WR_WR t)) - v).toNat < 2 ^ 31 then
      u.f (Reg.GRF_RING_RD_RD t) = v.toNat ∧ s.only u [Reg.GRF_RING_RD_RD t] []
      else u.on (Reg.GRF_RING_EVT_IDXERR t) = true ∧ s.only u [Reg.GRF_RING_EVT_IDXERR t] []))))

/-- With the core clock running, on a block the image has. APPLY of a strip, bus processor or tone generator, CNV_SWAP of a convolver, and
PRE_DELAY_WRITE of a reverb, which first stores PRE, request a scarf of the block; DELAY_JUMP stores TIME and requests one in jump mode only. A
request on a block that may not scarf sets XFREF and nothing else; on a block at rest it waits for the next graph instant; on one that scarfs,
fades or is frozen with none pending it is pending; behind a pending one it sets OVR, once an instant. On a block the image does not have each
changes nothing. Other blocks do not change. On a crossfadable block at rest, with nothing frozen, each is thus a request for the next graph
instant (R184, R201, R223, R229, R231, R244, R245). -/
def Obligations.BlockScarfRequests : Prop :=
  (∀ (s : State) (c : Instr) (b kind : Nat) (stored : List Fld), s.coreOn = true →
    ((∃ n, (n < 40 ∨ (54 ≤ n ∧ n < 62)) ∧ c = .apply n ∧ b = n ∧ kind = 1 ∧ stored = []) ∨
     (∃ n, n < 4 ∧ c = .cnvSwap n ∧ b = 40 + n ∧ kind = 2 ∧ stored = []) ∨
     (∃ d ch time, d < 4 ∧ ch < 2 ∧ time < 2 ^ 26 ∧ c = .delayJump d ch time ∧ b = 48 + d ∧ kind = 3 ∧ stored = [Reg.DLY_TIME_TIME d ch]) ∨
     (∃ v pre, v < 2 ∧ pre < 2 ^ 13 ∧ c = .preDelayWrite v pre ∧ b = 52 + v ∧ kind = 4 ∧ stored = [Reg.RVB_PRE_PRE v])) →
    gives c s fun u =>
      (s.present b = false → u = s.toBlock) ∧
      (∀ d ch time, c = .delayJump d ch time → s.present b = true → u.f (Reg.DLY_TIME_TIME d ch) = time) ∧
      (∀ v pre, c = .preDelayWrite v pre → s.present b = true → u.f (Reg.RVB_PRE_PRE v) = pre) ∧
      (s.present b = true → (∀ d ch time, c = .delayJump d ch time → s.on (Reg.DLY_CTRL_MODE d) = true) →
        (s.crossfadable b = false → u.on Reg.GRF_EVT_XFREF = true ∧ u.blk b = s.blk b) ∧
        (s.crossfadable b = true → (s.blk b).next = none → (s.blk b).fade = none → s.frozen = false → (s.blk b).pend = none → (s.blk b).req = none →
          u.blk b = { s.blk b with fresh := true, req := some (kind, s.time.now) }) ∧
        (s.crossfadable b = true → (s.blk b).next.isSome = true → (s.blk b).pend = none → u.blk b = { s.blk b with fresh := true, pend := some kind }) ∧
        (s.crossfadable b = true → (s.blk b).pend.isSome = true → (s.blk b).fresh = false → u.on Reg.GRF_SCARF_EVT_OVR = true)) ∧
      (∀ j, j ≠ b → u.blk j = s.blk j) ∧ s.only u (stored ++ [Reg.GRF_EVT_XFREF, Reg.GRF_SCARF_EVT_OVR]) [.graph]) ∧
  (∀ (s : State) (b : Nat), s.coreOn = true → s.present b = true → s.crossfadable b = true → s.frozen = false →
    (s.blk b).next = none → (s.blk b).fade = none → (s.blk b).pend = none → (s.blk b).req = none →
    ((b < 40 ∨ (54 ≤ b ∧ b < 62)) → gives (.apply b) s fun u =>
      u.blk b = { s.blk b with fresh := true, req := some (1, s.time.now) } ∧ (∀ j, j ≠ b → u.blk j = s.blk j) ∧ s.only u [] [.graph]) ∧
    (∀ n, n < 4 → b = 40 + n → gives (.cnvSwap n) s fun u =>
      u.blk b = { s.blk b with fresh := true, req := some (2, s.time.now) } ∧ (∀ j, j ≠ b → u.blk j = s.blk j) ∧ s.only u [] [.graph]) ∧
    (∀ d ch time, d < 4 → ch < 2 → time < 2 ^ 26 → b = 48 + d → s.on (Reg.DLY_CTRL_MODE d) = true → gives (.delayJump d ch time) s fun u =>
      u.f (Reg.DLY_TIME_TIME d ch) = time ∧ u.blk b = { s.blk b with fresh := true, req := some (3, s.time.now) } ∧
      (∀ j, j ≠ b → u.blk j = s.blk j) ∧ s.only u [Reg.DLY_TIME_TIME d ch] [.graph]) ∧
    (∀ v pre, v < 2 → pre < 2 ^ 13 → b = 52 + v → gives (.preDelayWrite v pre) s fun u =>
      u.f (Reg.RVB_PRE_PRE v) = pre ∧ u.blk b = { s.blk b with fresh := true, req := some (4, s.time.now) } ∧
      (∀ j, j ≠ b → u.blk j = s.blk j) ∧ s.only u [Reg.RVB_PRE_PRE v] [.graph]))

/-- BLOCK_SCARF_END of a scarf that has reached its last sample puts the new version in force, sets BDONE and, for a bank swap, moves ACTIVE of the
convolver; with none pending the block is at rest; before, it changes nothing. With the core clock running: CNV_COEF_WRITE to the inactive bank of
a convolver that neither swaps nor waits stores the word, every other byte of coefficient memory stays, and the memory error of the word is gone; a
closed one only sets CWERR. LFORST and PRST let the phase of a block the image has be reset at the next graph instant, TG_SYNC those of every tone
generator named; on other blocks they change nothing (R222 to R224, R236, R240, R245). -/
def Obligations.BlockEffects : Prop :=
  (∀ (s : State) (b : Nat), b < 62 → gives (.blockScarfEnd b) s fun u =>
    ((s.blk b).next.any (fun x => x.2.n ≤ x.2.k) = false → u = s.toBlock) ∧
    (∀ v sc, (s.blk b).next = some (v, sc) → sc.n ≤ sc.k →
      (u.blk b).cur = v ∧ u.on Reg.GRF_SCARF_EVT_BDONE = true ∧
      (sc.kind = 2 → 40 ≤ b → b < 44 → u.f (Reg.CNV_STAT_ACTIVE (b - 40)) = v.pos.getD 0 0 % 2 ∧ u.on (Reg.EFX_EVT_CNVDONE.bit (b - 40)) = true) ∧
      ((s.blk b).pend = none → (u.blk b).next = none ∧ u.f (Reg.GRF_BLK_PROG_ACTIVE b) = 0)) ∧
    (∀ j, j ≠ b → u.blk j = s.blk j) ∧ (∀ p : Part, p ∉ [Part.graph, Part.bst, Part.free] → p.same s.toBlock u) ∧
    ((s.blk b).pend = none → ∀ p : Part, p ≠ Part.graph → p.same s.toBlock u)) ∧
  (∀ (s : State) (addr : Nat) (w : Word), 0x500000 ≤ addr → addr < 0x510000 → addr % 4 = 0 → s.coreOn = true → gives (.cnvCoefWrite addr w) s fun u =>
    if s.coefClosed (addr - 0x500000) then u.on Reg.EFX_EVT_CWERR = true ∧ s.only u [Reg.EFX_EVT_CWERR] [] else
      u.mem.coef.readWord (addr - 0x500000) = w ∧ u.upset addr = 0 ∧
      (∀ x, x < addr - 0x500000 ∨ addr - 0x500000 + 4 ≤ x → u.mem.coef.read x = s.mem.coef.read x) ∧
      u.mem.sram = s.mem.sram ∧ u.mem.dma = s.mem.dma ∧ u.mem.xspi = s.mem.xspi ∧ s.only u [] [.mem]) ∧
  (∀ (s : State) (m : Nat), m < 4 → s.coreOn = true → gives (.lforst m) s fun u =>
    if s.present (44 + m) then
      u.blk (44 + m) = { s.blk (44 + m) with lfoRst := some s.time.now } ∧ (∀ j, j ≠ 44 + m → u.blk j = s.blk j) ∧ s.only u [] [.graph]
    else u = s.toBlock) ∧
  (∀ (s : State) (g : Nat), g < 8 → s.coreOn = true → gives (.prst g) s fun u =>
    if s.present (54 + g) then
      u.blk (54 + g) = { s.blk (54 + g) with prst := some s.time.now } ∧ (∀ j, j ≠ 54 + g → u.blk j = s.blk j) ∧ s.only u [] [.graph]
    else u = s.toBlock) ∧
  (∀ (s : State) (mask : BitVec 8), s.coreOn = true → gives (.tgSync mask) s fun u =>
    (∀ g, g < 8 → mask.getLsbD g = true → s.present (54 + g) = true → u.blk (54 + g) = { s.blk (54 + g) with prst := some s.time.now }) ∧
    (∀ j, (∀ g, g < 8 → mask.getLsbD g = true → j ≠ 54 + g) → u.blk j = s.blk j) ∧ s.only u [] [.graph])

/-- COMMIT, with the core clock running: during a load, a LOAD accepted or a graft it records error 0x43, with no shadow or no active image error
0x44, and nothing else changes; else the graft is in its first phase with the checks of a graft made at once, and its admission begins now where
one has failed or the clock plan runs, and else waits for the plan. GRAFT_FREEZE_END in the second phase, at tick 0 with nothing running that
FREEZE waits for: the third phase begins now, and every present block to be cut fades out from now. GRAFT_SWITCH in the third phase, at tick 0, 64
graph samples later, with the cloche open: the new image is active and the last phase begins now. GRAFT_SETTLE_END in the last phase once every
crossing has ended: no graft runs, FREEZE is 0 and GRAFTEND is set. ABORT, with the core clock running: with no graft nothing changes; before the
tick of C the graft is over and shadow and active image stay; from C on only LATE is set. Else each changes nothing (R254 to R257, R263). -/
def Obligations.Grafts : Prop :=
  (∀ s : State, s.coreOn = true → gives .commit s fun u =>
    (s.imgBusy = true → u.f Reg.IMG_ERR_CODE = 0x43 ∧ u.on Reg.IMG_EVT_ERR = true ∧
      s.only u [Reg.IMG_ERR_CODE, Reg.IMG_ERR_SECT, Reg.IMG_ERRDET_DETAIL, Reg.IMG_EVT_ERR] []) ∧
    (s.imgBusy = false → (s.img.shadow = none ∨ s.img.active = none) → u.f Reg.IMG_ERR_CODE = 0x44 ∧ u.on Reg.IMG_EVT_ERR = true ∧
      s.only u [Reg.IMG_ERR_CODE, Reg.IMG_ERR_SECT, Reg.IMG_ERRDET_DETAIL, Reg.IMG_EVT_ERR] []) ∧
    (s.imgBusy = false → s.img.shadow.isSome = true → s.img.active.isSome = true →
      u.f Reg.IMG_GRAFT_STAT_PHASE = 1 ∧ u.f Reg.IMG_PROG1_STATE = 4 ∧ u.img.shadow = s.img.shadow ∧ u.img.active = s.img.active ∧
      (∀ d, s.img.shadow = some d → u.img.early = s.graftChecks (s.candidate true d) true d ∧
        (u.img.early.isSome = true ∨ s.planReady s.regs = true → u.img.proving = some (.graft, s.time.now) ∧ u.img.admitWait = none) ∧
        (u.img.early = none → s.planReady s.regs = false → u.img.admitWait = some .graft ∧ u.img.proving = s.img.proving))) ∧
    (∀ p : Part, p ∉ [Part.img, Part.net] → p.same s.toBlock u)) ∧
  (∀ s : State, gives .graftFreezeEnd s fun u =>
    if s.graftPhase = 2 ∧ s.time.tick = 0 ∧ s.graftQuiet = true ∧ s.img.active.isSome = true ∧ s.img.shadow.isSome = true then
      u.f Reg.IMG_GRAFT_STAT_PHASE = 3 ∧ u.img.graft.at' = s.time.now ∧ u.img.active = s.img.active ∧ u.img.shadow = s.img.shadow ∧
      (∀ b, b ∈ u.img.graft.blks → s.present b = true → (u.blk b).fade = some ⟨64, false, some s.time.now⟩) ∧
      (∀ p : Part, p ∉ [Part.img, Part.graph, Part.chains, Part.ports, Part.sap, Part.spk] → p.same s.toBlock u)
    else u = s.toBlock) ∧
  (∀ s : State, gives .graftSwitch s fun u =>
    (s.graftPhase ≠ 3 ∨ s.time.tick ≠ 0 ∨ s.reached (s.img.graft.at' + 16 * (64 * s.graphPeriod)) = false ∨ s.img.active = none ∨ s.img.shadow = none →
      u = s.toBlock) ∧
    (∀ old new, s.graftPhase = 3 → s.time.tick = 0 → s.reached (s.img.graft.at' + 16 * (64 * s.graphPeriod)) = true → s.img.active = some old →
      s.img.shadow = some new → s.ports.shut = false → u.f Reg.IMG_GRAFT_STAT_PHASE = 5 ∧ u.img.graft.at' = s.time.now ∧ u.img.active = some new ∧
      u.img.shadow = none)) ∧
  (∀ s : State, gives .graftSettleEnd s fun u =>
    if s.graftPhase = 5 ∧ s.graftSettled = true then
      u.f Reg.IMG_GRAFT_STAT_PHASE = 0 ∧ u.f Reg.GRF_SCARF_STAT_FREEZE = 0 ∧ u.on Reg.IMG_EVT_GRAFTEND = true ∧ u.img = { s.img with graft := {} } ∧
      s.only u [Reg.IMG_GRAFT_STAT_PHASE, Reg.GRF_SCARF_STAT_FREEZE, Reg.IMG_EVT_GRAFTEND] [.img, .chains, .sap]
    else u = s.toBlock) ∧
  (∀ s : State, s.coreOn = true → gives .abort s fun u =>
    (s.graftPhase = 0 → u = s.toBlock) ∧
    (0 < s.graftPhase → s.graftPhase < 4 → s.commitDue = false → u.f Reg.IMG_GRAFT_STAT_PHASE = 0 ∧ u.f Reg.GRF_SCARF_STAT_FREEZE = 0 ∧ u.on Reg.IMG_EVT_GRAFTEND = true ∧
      u.img.proving = none ∧ u.img.shadow = s.img.shadow ∧ u.img.active = s.img.active ∧
      s.only u [Reg.IMG_GRAFT_STAT_PHASE, Reg.GRF_SCARF_STAT_FREEZE, Reg.IMG_EVT_GRAFTEND, Reg.IMG_PROG1_STATE] [.img, .graph, .chains, .ports, .sap, .spk]) ∧
    (4 ≤ s.graftPhase ∨ (0 < s.graftPhase ∧ s.commitDue = true) → u.on Reg.IMG_EVT_LATE = true ∧ s.only u [Reg.IMG_EVT_LATE] []))

/-- CSC_START, with the core clock running: each sequence of the mask whose SRC is software fires DLY cycles from now, in order. CSC_TIMER of an
enabled timer that has come: it expires next PER + 1 microseconds later (24576/125 cycles each, the fraction carried), and each sequence that names
it fires; else nothing changes. SEQUENCE_TRIGGER of a trigger whose delay has passed: in a mode without the converter it is used up; while its
sequence runs, out of its last cycle, it is dropped and counted, in its last cycle it waits; else its run starts with its entries; SIMUL with
unequal lengths sets CFGERR. With no such trigger nothing changes. SNAPSHOT_GO, with the core clock running, copies the selected accumulators into
their snapshot registers and, where CLR is 1, clears them; a code kept in that very cycle stays in the cleared one, or counts in the copy where CLR
is 0. REF_READY while the buffer runs sets RDY (R335, R338, R339, R346, R348, R351). CSC_CONVERSION of a unit whose conversion of a regular entry
has come: a kept code, with the reference ready and no identification on its channel, counts in the entry's accumulator unless that is full, and
its sum, least and largest follow; a discarded one, or one without reference, counts as unsettled only; the entry is used up after its discards,
and the last entry of A or B ends its run with DONE. Nothing outside the converter's record and its status, event and comparator registers changes,
but for the snapshot of that very cycle, which counts it. With no conversion, or before it is due, nothing changes. PRIVILEGED_CONVERSION at its
tick, while the speaker stage owns it: its unit is taken for 192 cycles from DLY on, a conversion it breaks off counts, and a current with the
reference ready reaches the stage as its code less 32768; out of its tick nothing changes (R293, R334, R336, R341, R343, R347 to R350). -/
def Obligations.ControlSense : Prop :=
  ((∀ (s : State) (mask : BitVec 3), s.coreOn = true → gives (.cscStart mask) s fun u =>
    u.csc = { s.csc with trigs := u.csc.trigs } ∧ s.only u [] [.csc] ∧
    u.csc.trigs = s.csc.trigs ++ ((List.range 3).filter (fun q => mask.getLsbD q && s.f (Reg.CSC_TRG_SRC q) == 1)).map
      (fun q => (q, s.time.now + s.f (Reg.CSC_TRG_DLY q)))) ∧
  (∀ (s : State) (t : Nat), t < 4 → gives (.cscTimer t) s fun u =>
    (s.on (Reg.CSC_TMR_EN t) = false ∨ s.time.now < (s.cscTmr t).due → u = s.toBlock) ∧
    (s.on (Reg.CSC_TMR_EN t) = true → (s.cscTmr t).due ≤ s.time.now →
      125 * (u.cscTmr t).due + (u.cscTmr t).frac = 125 * (s.cscTmr t).due + (s.cscTmr t).frac + 24576 * (s.f (Reg.CSC_TMR_PER t) + 1) ∧
      (u.cscTmr t).frac < 125 ∧ (∀ k, k ≠ t → u.cscTmr k = s.cscTmr k) ∧ s.only u [] [.csc] ∧
      u.csc.trigs = s.csc.trigs ++ ((List.range 3).filter (fun q => s.f (Reg.CSC_TRG_SRC q) == 2 && s.f (Reg.CSC_TRG_TMR q) == t)).map
        (fun q => (q, (s.cscTmr t).due + s.f (Reg.CSC_TRG_DLY q))))) ∧
  (∀ (s : State) (q : Seq), gives (.sequenceTrigger q) s fun u =>
    let n := match q with
      | .a => 0
      | .b => 1
      | .inj => 2
    s.only u ([Reg.CSC_STAT_RUNA, Reg.CSC_STAT_RUNB, Reg.CSC_STAT_RUNI, Reg.CSC_EVT_CFGERR] ++ [0, 1, 2].map ovrBit ++ [0, 1, 2].map ovrCnt) [.csc] ∧
    ((∀ p, p ∈ s.csc.trigs → p.1 = n → s.time.now < p.2) → u = s.toBlock) ∧
    (∀ t, s.csc.trigs = [(n, t)] → t ≤ s.time.now →
      (s.audioOn = false → u.csc = { s.csc with trigs := [] } ∧ s.only u [] [.csc]) ∧
      (s.audioOn = true → s.on Reg.CSC_RSEQ_SIMUL = false → s.on (runBit n) = true → s.inLastCycle n t = true → u = s.toBlock) ∧
      (s.audioOn = true → s.on Reg.CSC_RSEQ_SIMUL = true → n = 0 → s.on Reg.CSC_STAT_RUNA = false → s.on Reg.CSC_STAT_RUNB = false →
        s.f Reg.CSC_RSEQ_NA ≠ s.f Reg.CSC_RSEQ_NB → u.csc = { s.csc with trigs := [] } ∧ u.on Reg.CSC_EVT_CFGERR = true ∧ s.only u [Reg.CSC_EVT_CFGERR] [.csc]) ∧
      (s.audioOn = true → s.on Reg.CSC_RSEQ_SIMUL = false → s.on (runBit n) = true → s.inLastCycle n t = false →
        u.csc = { s.csc with trigs := [] } ∧ u.on (ovrBit n) = true ∧ u.f (ovrCnt n) = min 1023 (s.f (ovrCnt n) + 1) ∧ s.only u [ovrBit n, ovrCnt n] [.csc]) ∧
      (s.audioOn = true → s.on Reg.CSC_RSEQ_SIMUL = false → s.on (runBit n) = false → n < 2 →
        u.csc.trigs = [] ∧ u.csc.simul = false ∧
        (u.cscUnit n).regular.items = (if n = 0 then s.regularItems 0 (s.f Reg.CSC_RSEQ_NA) else s.regularItems (s.f Reg.CSC_RSEQ_NA) (s.f Reg.CSC_RSEQ_NB)) ∧
        u.on (runBit n) = !((u.cscUnit n).regular.items).isEmpty) ∧
      (s.audioOn = true → n = 2 → s.on Reg.CSC_STAT_RUNI = false → u.csc.trigs = [] ∧ ∀ k, k < 2 → (u.cscUnit k).injected.items = s.injectedItems k))) ∧
  (∀ s : State, s.coreOn = true → gives .snapshotGo s fun u =>
    let clr := s.on Reg.CSC_SNAP_CTRL_CLR
    let sel := fun (a : Nat) => if a < 32 then s.on (Reg.CSC_SNAP_MASK0_MASK.bit a) else s.on (Reg.CSC_SNAP_CTRL_MASK1.bit (a - 32))
    s.within u (fun r => ∃ a, a < 36 ∧ (r = Reg.CSC_SNAP_SUM a ∨ r = Reg.CSC_SNAP_CNT a ∨ r = Reg.CSC_SNAP_MM a)) [.csc] ∧
    u.csc.snap = (if clr then s.csc.snap else some (s.time.now, (List.range 36).filter sel)) ∧
    ∀ a, a < 36 →
      let x := if clr then (s.cscAcc a).before s.time.now else s.cscAcc a
      if sel a then
        u.f (Reg.CSC_SNAP_SUM_SUM a) = x.sum % 2 ^ 32 ∧ u.f (Reg.CSC_SNAP_CNT_COUNT a) = x.count % 2 ^ 11 ∧ u.f (Reg.CSC_SNAP_CNT_UNS a) = x.uns % 2 ^ 16 ∧
        u.on (Reg.CSC_SNAP_CNT_REFX a) = x.refx ∧ u.on (Reg.CSC_SNAP_CNT_FULL a) = decide (2 ^ min 10 (s.f (Reg.CSC_ACC_CFG_LIM a)) ≤ x.count) ∧
        u.f (Reg.CSC_SNAP_MM_MIN a) = x.min % 2 ^ 16 ∧ u.f (Reg.CSC_SNAP_MM_MAX a) = x.max % 2 ^ 16 ∧
        u.cscAcc a = (if clr then (s.cscAcc a).cleared (s.f (Reg.CSC_ACC_CFG_LIM a)) s.time.now else x) ∧
        (clr = true → (∀ p, (s.cscAcc a).last = some p → p.cycle ≠ s.time.now) → x = s.cscAcc a ∧ u.cscAcc a = {})
      else u.cscAcc a = s.cscAcc a ∧ u.word (Reg.CSC_SNAP_SUM a) = s.word (Reg.CSC_SNAP_SUM a) ∧ u.word (Reg.CSC_SNAP_CNT a) = s.word (Reg.CSC_SNAP_CNT a) ∧
        u.word (Reg.CSC_SNAP_MM a) = s.word (Reg.CSC_SNAP_MM a)) ∧
  (∀ s : State, gives .refReady s fun u =>
    if s.csc.refAt.isSome then u.on Reg.CSC_REF_RDY = true ∧ s.only u [Reg.CSC_REF_RDY] [] else u = s.toBlock))
  ∧
  (let moved := fun (k : Nat) (snap : Bool) (a : Nat) => a = Reg.CSC_STAT ∨ a = Reg.CSC_EVT ∨ a = Reg.CSC_WC_EVT ∨
    (∃ c, a = Reg.CSC_WC_CFG c ∨ a = Reg.CSC_WC_BAND c ∨ a = Reg.CSC_WC_VAL c) ∨
    (snap = true ∧ (a = Reg.CSC_SNAP_SUM k ∨ a = Reg.CSC_SNAP_CNT k ∨ a = Reg.CSC_SNAP_MM k))
  (∀ (s : State) (n : Nat) (code : SenseCode), n < 2 → gives (.cscConversion n code) s fun u =>
    ((s.cscUnit n).busy = none ∨ (∀ c, (s.cscUnit n).busy = some c → s.time.now < c.due) → u = s.toBlock) ∧
    (∀ c it rest, (s.cscUnit n).busy = some c → c.due ≤ s.time.now → c.work = .regular → (s.cscUnit n).regular.items = it :: rest →
      let a := s.cscAcc it.acc
      let d := (s.cscUnit n).regular.disc.getD 0
      s.within u (moved it.acc (s.csc.snap.any (fun p => p.1 == c.due && p.2.contains it.acc))) [.csc] ∧ (u.cscUnit n).lastCh = some c.ch ∧ (u.cscUnit n).injected.items = (s.cscUnit n).injected.items ∧
      (u.cscUnit n).regular.items = (if d = 0 then rest else it :: rest) ∧ (∀ k, k ≠ it.acc → u.cscAcc k = s.cscAcc k) ∧
      (d ≠ 0 ∨ c.rdy = false ∨ s.idBusy it.ch = true → u.cscAcc it.acc = { a with uns := min 65535 (a.uns + 1), refx := a.refx || !c.rdy }) ∧
      (d = 0 → c.rdy = true → s.idBusy it.ch = false → a.count < 2 ^ min (s.f (Reg.CSC_ACC_CFG_LIM it.acc)) 10 →
        u.cscAcc it.acc =
          { a with sum := a.sum + code.toNat, count := a.count + 1, min := min a.min code.toNat, max := max a.max code.toNat,
                   last := some ⟨c.due, code.toNat, a.sum, a.count, a.min, a.max⟩ }) ∧
      (d = 0 → c.rdy = true → s.idBusy it.ch = false → 2 ^ min (s.f (Reg.CSC_ACC_CFG_LIM it.acc)) 10 ≤ a.count →
        u.cscAcc it.acc = { a with last := some ⟨c.due, code.toNat, a.sum, a.count, a.min, a.max⟩ }) ∧
      (d = 0 → rest = [] → s.on (runBit n) = true → u.on (runBit n) = false ∧ u.on (doneBit n) = true))) ∧
  (∀ (s : State) (ch : PrivChannel) (code : SenseCode), gives (.privilegedConversion ch code) s fun u =>
    let n := privUnit ch
    let t := s.time.now + s.csc.dly % 16
    (s.spkOwns = false ∨ s.audioOn = false ∨ s.time.tick % 128 ≠ (s.privTick ch + s.csc.dly / 16) % 128 → u = s.toBlock) ∧
    (s.spkOwns = true → s.audioOn = true → s.time.tick % 128 = (s.privTick ch + s.csc.dly / 16) % 128 →
      (u.cscUnit n).freeAt = max (s.cscUnit n).freeAt (t + 192) ∧
      ((s.cscUnit n).busy = none → u.word Reg.CSC_PRIVCNT = s.word Reg.CSC_PRIVCNT) ∧
      (∀ c, (s.cscUnit n).busy = some c → c.start ≤ t → t + 1 < c.due → s.csc.simul = false →
        u.f (if n = 0 then Reg.CSC_PRIVCNT_A else Reg.CSC_PRIVCNT_B) = min 65535 (s.f (if n = 0 then Reg.CSC_PRIVCNT_A else Reg.CSC_PRIVCNT_B) + 1)) ∧
      (s.on Reg.CSC_REF_RDY = true → ch = .ia → (u.spkSt 0).curr = some ((code.toNat : Int) - 32768)) ∧
      (s.on Reg.CSC_REF_RDY = true → ch = .ib → (u.spkSt 1).curr = some ((code.toNat : Int) - 32768)) ∧
      (s.on Reg.CSC_REF_RDY = false → u.spk = s.spk) ∧
      s.within u (fun r => r = Reg.BST_STAT ∨ r = Reg.BST_PROG ∨ r = Reg.BST_PROG1 ∨ r = Reg.BST_FAILCNT (1 + n) ∨ r = Reg.CSC_PRIVCNT ∨
        r = Reg.SPK_GLB_PVDD) [.bst, .free, .csc, .spk])))

/-- REFERENCE_LOST in LOCKED, SLEW or SNAP: the PLL coasts, LOSS is set and counted, the coast timer starts, and PRIOK or XTOK of the reference in
force is 0; in OFF or COAST nothing changes. COAST_LIMIT once the limit has passed, not seen before: LIMIT is set and the crystal is taken where
the image has one, qualified and not in force; else LONG is set; before it nothing changes. REFERENCE_QUALIFIED sets PRIOK or XTOK; a waiting PLL
acquires it, one that coasts takes the primary or the reference it coasts on, and one locked to the crystal since the limit sets RETURN and takes
the primary with AUTOREV. A reference taken sets RETURN; within 2 ns the loop closes at once; beyond 30 ppm the PLL snaps with FSNAP; else it snaps
or slews by POLICY. SLEW_DONE, SNAP_PAUSE and SNAP_END at their times close the loop, set the pause and end in LOCKED; before them nothing changes.
PLL_LOCKED in ACQUIRE stops the ring oscillator, and a clock root has its grid (R362, R366, R371, R373 to R377). -/
def Obligations.ReferenceLossAndReturn : Prop :=
  let cut := [Reg.BST_STAT_BUSY, Reg.BST_PROG_LAST, Reg.BST_PROG_DONE, Reg.BST_PROG1_APPLIED, Reg.BST_FAILCNT_INC 5]
  let moves := [Reg.CLK_STAT_STATE, Reg.CLK_STAT_REF, Reg.CLK_STAT_PORT, Reg.CLK_STAT_LONG, Reg.CLK_STAT_PRIOK, Reg.CLK_STAT_XTOK, Reg.CLK_EVT_LIMIT,
    Reg.CLK_EVT_FALLBK, Reg.CLK_EVT_RETURN, Reg.CLK_EVT_FSNAP, Reg.CLK_PHERR_PHI, Reg.CLK_COAST_MS]
  let taken := fun (s u : Block) (r : Nat) (phi ppm : Int) =>
    s.only u (moves ++ cut) [.clk, .bst, .free] ∧ u.f Reg.CLK_STAT_REF = r ∧ u.on Reg.CLK_EVT_RETURN = true ∧ u.on Reg.CLK_STAT_LONG = false ∧ u.clk.moveAt = s.time.now ∧ u.clk.phi = phi ∧
    (phi.natAbs ≤ 16 → u.pll = pllLocked ∧ u.clk.coastAt = none) ∧
    (16 < phi.natAbs → 30 < ppm.natAbs → u.pll = pllSnap ∧ u.on Reg.CLK_EVT_FSNAP = true ∧ u.clk.snapAt = some s.time.now) ∧
    (16 < phi.natAbs → ppm.natAbs ≤ 30 → u.pll = (if s.on Reg.CLK_CFG_POLICY then pllSnap else pllSlew))
  (∀ s : State, gives .referenceLost s fun u =>
    (s.pll = pllOff ∨ s.pll = pllCoast → u = s.toBlock) ∧
    (s.pll ∈ [pllLocked, pllSlew, pllSnap] →
      u.pll = pllCoast ∧ u.on Reg.CLK_EVT_LOSS = true ∧ u.clk.coastAt = some s.time.now ∧ u.on Reg.CLK_STAT_LONG = false ∧
      u.f Reg.CLK_CNT_LOSSES = min (2 ^ Reg.CLK_CNT_LOSSES.width - 1) (s.f Reg.CLK_CNT_LOSSES + 1) ∧
      u.on Reg.CLK_STAT_PRIOK = (s.on Reg.CLK_STAT_PRIOK && !s.onPrimary) ∧ u.on Reg.CLK_STAT_XTOK = (s.on Reg.CLK_STAT_XTOK && !s.onCrystal) ∧
      s.only u ([Reg.CLK_STAT_STATE, Reg.CLK_STAT_PRIOK, Reg.CLK_STAT_XTOK, Reg.CLK_STAT_LONG, Reg.CLK_EVT_LOSS, Reg.CLK_CNT_LOSSES, Reg.CLK_COAST_MS] ++
        cut ++ faultFlds) [.clk, .ledger, .bst, .free])) ∧
  (∀ (s : State) (phi ppm : Int), gives (.coastLimit phi ppm) s fun u =>
    (s.pll ≠ pllCoast ∨ s.on Reg.CLK_STAT_LONG = true ∨ (∀ t, s.clk.coastAt = some t → s.time.now < t + 16 * (12288 * (10 * s.f Reg.CLK_CFG_COASTLIM))) → u = s.toBlock) ∧
    (∀ t, s.pll = pllCoast → s.on Reg.CLK_STAT_LONG = false → s.clk.coastAt = some t → t + 16 * (12288 * (10 * s.f Reg.CLK_CFG_COASTLIM)) ≤ s.time.now →
      u.on Reg.CLK_EVT_LIMIT = true ∧
      (s.on Reg.CLK_CFG_XTAL = true → s.onCrystal = false → s.on Reg.CLK_STAT_XTOK = true → u.on Reg.CLK_EVT_FALLBK = true ∧ taken s.toBlock u 0 phi ppm) ∧
      (s.on Reg.CLK_CFG_XTAL = false ∨ s.onCrystal = true ∨ s.on Reg.CLK_STAT_XTOK = false →
        u.on Reg.CLK_STAT_LONG = true ∧ s.only u [Reg.CLK_EVT_LIMIT, Reg.CLK_STAT_LONG] []))) ∧
  (∀ (s : State) (r : RefName) (phi ppm : Int), gives (.referenceQualified r phi ppm) s fun u =>
    let code := if r = .primary then s.primaryRef else 0
    (code = s.primaryRef → u.on Reg.CLK_STAT_PRIOK = true) ∧ (code = 0 → u.on Reg.CLK_STAT_XTOK = true) ∧
    (s.pll = pllOff → s.clk.want = true → code = s.primaryRef → u.pll = pllAcquire ∧ u.f Reg.CLK_STAT_REF = code) ∧
    (s.pll = pllCoast → s.f Reg.CLK_STAT_REF = code ∨ code = s.primaryRef → taken s.toBlock u code phi ppm) ∧
    (s.pll = pllLocked → s.clk.fallback = true → code = s.primaryRef → u.on Reg.CLK_EVT_RETURN = true ∧
      (s.on Reg.CLK_CFG_AUTOREV = true → u.clk.fallback = false ∧ taken s.toBlock u code phi ppm) ∧
      (s.on Reg.CLK_CFG_AUTOREV = false → u.pll = pllLocked ∧ s.only u [Reg.CLK_STAT_PRIOK, Reg.CLK_STAT_XTOK, Reg.CLK_EVT_RETURN] [.clk])) ∧
    (s.pll = pllLocked → s.clk.fallback = false → s.only u [Reg.CLK_STAT_PRIOK, Reg.CLK_STAT_XTOK] [.clk])) ∧
  (∀ s : State, gives .slewDone s fun u =>
    let due := s.clk.moveAt + s.clk.phi.natAbs * 49152 / 100 + 16 * 1024
    (s.pll ≠ pllSlew ∨ s.time.now < due → u = s.toBlock) ∧
    (s.pll = pllSlew → due ≤ s.time.now → s.clk.fallback = false → u.pll = pllLocked ∧ u.on Reg.CLK_EVT_SLEWDONE = true ∧ u.clk.coastAt = none ∧
      s.only u [Reg.CLK_STAT_STATE, Reg.CLK_EVT_SLEWDONE, Reg.CLK_COAST_MS] [.clk])) ∧
  (∀ s : State, gives .snapPause s fun u =>
    if s.pll = pllSnap ∧ s.clk.paused = false ∧ s.clk.moveAt + 16 * 12288 ≤ s.time.now then
      u.f Reg.CLK_PHERR_PAUSE = pauseCycles s.clk.phi ∧ u.clk = { s.clk with coastAt := none, paused := true } ∧
      s.only u [Reg.CLK_PHERR_PAUSE, Reg.CLK_COAST_MS] [.clk]
    else u = s.toBlock) ∧
  (∀ s : State, gives .snapEnd s fun u =>
    (s.clk.snapAt = none ∨ (s.pll = pllSnap ∧ s.clk.paused = false) ∨ (∀ t, s.clk.snapAt = some t → s.time.now < t + 16 * 24640) → u = s.toBlock) ∧
    (∀ t, s.clk.snapAt = some t → t + 16 * 24640 ≤ s.time.now → s.pll = pllSnap → s.clk.paused = true → s.clk.fallback = false →
      u.pll = pllLocked ∧ u.clk = { s.clk with snapAt := none } ∧ u.on Reg.CLK_EVT_SNAP = true ∧
      u.f Reg.CLK_CNT_SNAPS = min (2 ^ Reg.CLK_CNT_SNAPS.width - 1) (s.f Reg.CLK_CNT_SNAPS + 1) ∧
      s.only u [Reg.CLK_STAT_STATE, Reg.CLK_EVT_SNAP, Reg.CLK_CNT_SNAPS] [.clk]) ∧
    (∀ t, s.clk.snapAt = some t → t + 16 * 24640 ≤ s.time.now → s.pll ≠ pllSnap → u.clk = { s.clk with snapAt := none } ∧ s.only u [] [.clk])) ∧
  (∀ s : State, gives .pllLocked s fun u =>
    (s.pll ≠ pllAcquire → u = s.toBlock) ∧
    (s.pll = pllAcquire → s.img.activate = false → s.lsn.running = false →
      u.pll = pllLocked ∧ u.on Reg.CLK_EVT_LOCK = true ∧ u.on Reg.CLK_STAT_RING = false ∧
      u.on Reg.TRL_GLB_STAT_GRIDOK = (s.on Reg.TRL_GLB_STAT_GRIDOK || s.on Reg.TRL_RT_CFG_ROOT) ∧
      s.only u [Reg.CLK_STAT_STATE, Reg.CLK_EVT_LOCK, Reg.CLK_STAT_RING, Reg.TRL_GLB_STAT_GRIDOK] []))

/-- CLK_COMMIT, with the core clock running: in COAST with the named reference not qualified it sets NOREF alone; else it waits, with CPEND except
in LOCKED and COAST. SHADOW_APPLY of a commit that waits, in LOCKED, or in COAST where it is not held for LOCKED: CMTDONE, CPEND 0, MCLKOEN in
force; with a qualified reference REFSEL is in force, and one other than that in force is taken; else NOREF. XTI_QUAL_LOSS of a qualified crystal
clears XTOK, and sets XTFAIL for an image's crystal not in use. X32_FAIL on the crystal passes the slow clock to the internal oscillator.
RING_MEASURE records the deviation while ring and crystal run. SLOW_CLOCK_SWITCH selects the crystal while X32EN is 1 and it has not failed.
LINK_PLL_LOCK with an enabled port and a running PLL sets LLOCK and lets failed ports detect; LINK_PLL_LOSS, where LLOCK is 1, fails every enabled
port (R360 to R362, R369, R373, R380, R404). -/
def Obligations.ClockCommitsAndOscillators : Prop :=
  (∀ s : State, s.coreOn = true → gives .clkCommit s fun u =>
    if s.pll = pllCoast ∧ s.askedOk = false then u.on Reg.CLK_EVT_NOREF = true ∧ s.only u [Reg.CLK_EVT_NOREF] []
    else u.clk = { s.clk with commit := true } ∧ s.only u [Reg.CLK_STAT_CPEND] [.clk] ∧
      u.on Reg.CLK_STAT_CPEND = (s.pll != pllLocked && s.pll != pllCoast)) ∧
  (∀ (s : State) (phi ppm : Int), gives (.shadowApply phi ppm) s fun u =>
    let want := if s.on Reg.CLK_CTRL_REFSEL then 0 else s.primaryRef
    let now := s.pll = pllLocked ∨ (s.pll = pllCoast ∧ s.on Reg.CLK_STAT_CPEND = false)
    (s.clk.commit = false ∨ ¬ now → u = s.toBlock) ∧
    (s.clk.commit = true → now →
      u.clk.commit = false ∧ u.clk.mclkoen = s.on Reg.CLK_CTRL_MCLKOEN ∧ u.on Reg.CLK_STAT_CPEND = false ∧ u.on Reg.CLK_EVT_CMTDONE = true ∧
      (s.askedOk = false → u.on Reg.CLK_EVT_NOREF = true ∧ u.clk.refsel = s.clk.refsel ∧
        s.only u [Reg.CLK_STAT_CPEND, Reg.CLK_EVT_CMTDONE, Reg.CLK_EVT_NOREF] [.clk]) ∧
      (s.askedOk = true → u.clk.refsel = s.on Reg.CLK_CTRL_REFSEL ∧ u.clk.fallback = false ∧
        (want = s.f Reg.CLK_STAT_REF → s.pll = pllLocked → s.only u [Reg.CLK_STAT_CPEND, Reg.CLK_EVT_CMTDONE] [.clk]) ∧
        (want ≠ s.f Reg.CLK_STAT_REF ∨ s.pll = pllCoast → u.f Reg.CLK_STAT_REF = want ∧ u.on Reg.CLK_EVT_RETURN = true ∧ u.clk.moveAt = s.time.now)))) ∧
  (∀ s : State, gives .xtiQualLoss s fun u =>
    (s.on Reg.CLK_STAT_XTOK = false → u = s.toBlock) ∧
    (s.on Reg.CLK_STAT_XTOK = true → u.on Reg.CLK_STAT_XTOK = false ∧ s.only u [Reg.CLK_STAT_XTOK, Reg.CLK_EVT_XTFAIL] [] ∧
      u.on Reg.CLK_EVT_XTFAIL = (s.on Reg.CLK_EVT_XTFAIL || (s.on Reg.CLK_CFG_XTAL && !(s.onCrystal && s.pll != pllOff))))) ∧
  (∀ s : State, gives .x32Fail s fun u =>
    if s.on Reg.CLK_AON_SRC then u.on Reg.CLK_AON_SRC = false ∧ u.on Reg.CLK_EVT_X32FAIL = true ∧ u.clk = { s.clk with x32off := true } ∧
      s.only u [Reg.CLK_AON_SRC, Reg.CLK_EVT_X32FAIL] [.clk]
    else u = s.toBlock) ∧
  (∀ (s : State) (dev : Int), gives (.ringMeasure dev) s fun u =>
    if s.on Reg.CLK_STAT_RING && s.on Reg.CLK_AON_SRC then (-32768 ≤ dev → dev ≤ 32767 → u.fInt Reg.CLK_RING_DEV = dev) ∧ u.lsn = { s.lsn with rdev := some (u.f Reg.CLK_RING_DEV) } ∧
      s.only u [Reg.CLK_RING_DEV] [.lsn]
    else u = s.toBlock) ∧
  (∀ s : State, gives .slowClockSwitch s fun u =>
    u.on Reg.CLK_AON_SRC = (s.on Reg.CLK_AON_X32EN && !s.clk.x32off) ∧ s.only u [Reg.CLK_AON_SRC] []) ∧
  (∀ s : State, gives .linkPllLock s fun u =>
    if (∃ p, p < 4 ∧ s.on (Reg.TRL_PCFG_EN p) = true) ∧ s.pll ≠ pllOff ∧ s.pll ≠ pllAcquire then
      u.on Reg.CLK_STAT_LLOCK = true ∧ s.only u ([Reg.CLK_STAT_LLOCK] ++ (List.range 4).map Reg.TRL_LSTAT_STATE) [.net] ∧
      ∀ p, p < 4 → u.linkState p = (if s.linkState p = linkFailed then (if (s.port p).signal then linkAlign else linkDetect) else s.linkState p)
    else u = s.toBlock) ∧
  (∀ s : State, gives .linkPllLoss s fun u =>
    (s.on Reg.CLK_STAT_LLOCK = false → u = s.toBlock) ∧
    (s.on Reg.CLK_STAT_LLOCK = true → u.on Reg.CLK_STAT_LLOCK = false ∧ u.on Reg.CLK_EVT_LLOSS = true ∧
      (∀ p, p < 4 → u.linkState p = (if s.on (Reg.TRL_PCFG_EN p) then linkFailed else s.linkState p)) ∧
      (∀ p, p < 4 → s.portUp p = true → s.on (Reg.TRL_PCFG_EN p) = true → u.on (Reg.TRL_EVT_FAIL p) = true) ∧
      s.within u (fun r => r = Reg.CLK_STAT ∨ r = Reg.CLK_EVT ∨ faultRegs r ∨
        ∃ p, p < 4 ∧ (r = Reg.TRL_LSTAT p ∨ r = Reg.TRL_EVT p ∨ r = Reg.TRL_CNT_LINK p ∨ r = Reg.TRL_RT_PSTAT p)) [.net, .ledger]))

/-- SIGNAL_DETECT leads DETECT to ALIGN; LOSS_OF_SIGNAL in ALIGN, MEASURE or UP leads to FAILED with LIVE and HS at 0, and out of UP sets FAIL and
counts; FAILED_RETRY, 1 ms after the failure with the link PLL locked, leads to DETECT, or ALIGN where a signal stands; RETRAIN, with the core
clock running, leads MEASURE or UP to MEASURE. MICROFRAME_RECEIVE outside ALIGN, MEASURE and UP changes nothing; else its violations count and the
slot number goes on. In UP a missing slot and one that fails its check count and set their events, the fourth missing one in a row and the
sixteenth failed one among 256 fail the link, a good one gives its four samples, and the link stays up. In ALIGN the eighth marker in a row after a
clean superframe leads to MEASURE; in MEASURE the sixteenth stable marker leads to UP with A and the cable delay published (R386 to R396, R402 to
R404). -/
def Obligations.LinkStates : Prop :=
  let live := [linkAlign, linkMeasure, linkUp]
  (∀ (s : State) (p : Nat), p < 4 → gives (.signalDetect p) s fun u =>
    (u.port p).signal = true ∧ (∀ q, q ≠ p → u.port q = s.port q) ∧ s.only u [Reg.TRL_LSTAT_STATE p] [.net] ∧
    u.linkState p = (if s.linkState p = linkDetect then linkAlign else s.linkState p) ∧
    (s.linkState p = linkDetect → (u.port p).since = s.time.now)) ∧
  (∀ (s : State) (p : Nat), p < 4 → gives (.lossOfSignal p) s fun u =>
    (u.port p).signal = false ∧ (∀ q, q ≠ p → u.port q = s.port q) ∧
    (s.linkState p ∉ live → s.only u [] [.net]) ∧
    (s.linkState p ∈ live →
      u.linkState p = linkFailed ∧ (u.port p).since = s.time.now ∧ u.f (Reg.TRL_LSTAT_LIVE p) = 0 ∧ u.f (Reg.TRL_RT_PSTAT_HS p) = 0 ∧
      s.only u ([Reg.TRL_LSTAT_STATE p, Reg.TRL_LSTAT_LIVE p, Reg.TRL_LSTAT_PEERRX p, Reg.TRL_RT_PSTAT_HS p, Reg.TRL_RT_PSTAT_ROLE p, Reg.TRL_CNT_LINK_FAILS p, Reg.TRL_EVT_FAIL p] ++ faultFlds)
        [.net, .ledger]) ∧
    (s.linkState p = linkUp → u.on (Reg.TRL_EVT_FAIL p) = true ∧ u.f (Reg.TRL_CNT_LINK_FAILS p) = min 65535 (s.f (Reg.TRL_CNT_LINK_FAILS p) + 1)) ∧
    (s.linkState p ≠ linkUp → u.on (Reg.TRL_EVT_FAIL p) = s.on (Reg.TRL_EVT_FAIL p) ∧ u.ledger = s.ledger)) ∧
  (∀ (s : State) (p : Nat), p < 4 → gives (.failedRetry p) s fun u =>
    if s.linkState p = linkFailed ∧ (s.port p).since + 16 * 12288 ≤ s.time.now ∧ s.on Reg.CLK_STAT_LLOCK = true then
      u.linkState p = (if (s.port p).signal then linkAlign else linkDetect) ∧ (u.port p).since = s.time.now ∧ s.only u [Reg.TRL_LSTAT_STATE p] [.net]
    else u = s.toBlock) ∧
  (∀ (s : State) (p : Nat), p < 4 → s.coreOn = true → gives (.retrain p) s fun u =>
    if s.linkState p = linkUp ∨ s.linkState p = linkMeasure then
      u.linkState p = linkMeasure ∧ (u.port p).since = s.time.now ∧ (u.port p).peerRho = none ∧ (u.port p).rhos = [] ∧
      s.only u [Reg.TRL_LSTAT_STATE p] [.net]
    else u = s.toBlock) ∧
  (∀ (s : State) (p : Nat) (m : Microframe), p < 4 → gives (.microframeReceive p m) s fun u =>
    let st := s.linkState p
    let slot := if st = linkAlign ∧ m.kcode = .k281 then 0 else (s.port p).slot
    let missing := microframeMissing m slot
    let good := microframeGood m
    let failed := (((s.port p).fails.take 255).filter id).length
    (st ∉ live → u = s.toBlock) ∧
    (st ∈ live →
      u.f (Reg.TRL_CNT_CV_CV p) = min (2 ^ 32 - 1) (s.f (Reg.TRL_CNT_CV_CV p) + m.violations) ∧
      u.on (Reg.TRL_LSTAT_RXINV p) = m.inverted ∧ (u.port p).slot = (slot + 1) % 256 ∧
      s.within u (fun r => r = Reg.TRL_GLB_STAT ∨ r = Reg.TRL_RT_CNT ∨ r = Reg.TRL_RT_EVT ∨ faultRegs r ∨ (∃ q, q < 4 ∧ (r = Reg.TRL_LSTAT q ∨ r = Reg.TRL_LIN q)) ∨
        r ∈ [Reg.IMG_STAT, Reg.IMG_EVT, Reg.TRL_CABLE p, Reg.TRL_CNT_CRC p, Reg.TRL_CNT_CV p, Reg.TRL_CNT_LINK p, Reg.TRL_CNT_MISS p, Reg.TRL_EVT p, Reg.TRL_PEERID_HI p,
          Reg.TRL_PEERID_LO p, Reg.TRL_RHO p, Reg.TRL_RT_PSTAT p, Reg.TRL_RXDLY p]) [.net, .ledger, .img]) ∧
    (st = linkUp →
      (missing = true → u.on (Reg.TRL_EVT_MISS p) = true ∧
        u.f (Reg.TRL_CNT_MISS_MISS p) = min (2 ^ 32 - 1) (s.f (Reg.TRL_CNT_MISS_MISS p) + 1) ∧ (3 ≤ (s.port p).missRun → u.linkState p = linkFailed)) ∧
      (missing = false → good = false → u.on (Reg.TRL_EVT_CRC p) = true ∧
        u.f (Reg.TRL_CNT_CRC_CRC p) = min (2 ^ 32 - 1) (s.f (Reg.TRL_CNT_CRC_CRC p) + 1) ∧
        (15 ≤ failed → u.linkState p = linkFailed ∧ u.on (Reg.TRL_EVT_BURST p) = true)) ∧
      (missing = false → good = true →
        (failed < 16 → u.linkState p = linkUp ∧ u.on ((Reg.TRL_LSTAT_LIVE p).bit (slot % 4)) = (m.bytes.getD 16 0).getLsbD 0 ∧
          u.on (Reg.TRL_LSTAT_PEERRX p) = !(m.bytes.getD 16 0).getLsbD 1) ∧
        ∀ l, l < 4 → Tab.get (fun _ => {}) (u.port p).laneGood l = ⟨BitVec.ofNat 24 (beNat ((m.bytes.drop (3 * l)).take 3)), 0⟩)) ∧
    (st = linkAlign → m.kcode = .k281 → (s.port p).slot = 0 → 7 ≤ (s.port p).markers → (s.port p).superGood = true → good = true →
      u.linkState p = linkMeasure) ∧
    (∀ peer, st = linkMeasure → m.kcode = .k281 → (s.port p).slot = 0 → s.on Reg.TRL_GLB_STAT_GRIDOK = true → (s.port p).peerRho = some peer →
      15 ≤ (s.port p).rhos.length → (∀ r, (s.port p).rhos.head? = some r → (m.rho - r).natAbs ≤ 16) →
      let own := meanRho ((m.rho :: (s.port p).rhos).take 16)
      0 ≤ own + peer → own + peer ≤ 400 → (retiming own).natAbs ≤ 32 →
        u.linkState p = linkUp ∧ u.fInt (Reg.TRL_CABLE_DELTA p) = (own + peer) / 2 ∧ u.fInt (Reg.TRL_LSTAT_A p) = retiming own ∧
        u.on (Reg.TRL_EVT_UP p) = true))

/-- PROTECTION_SWITCH of a protected lane in or bulk tap whose route in force has been bad for HOLD > 0 microframes with the other good for at
least 256, PROTECTION_REVERT of one on its protect route, with REV > 0 and the working route good for REV times 100 ms, and FORCE of a protected
lane whose other route is good, with the core clock running: ACT turns, PSW is set, its counts of microframes are zero and the ledger records it.
Otherwise nothing changes (R431, R432, R563). LOFFER to this end of the link: the offer is kept for the equalisers, which follow it at the next
marker, and answered with LANSWER on the port it came on; a repeated one gets the stored answer and has no effect again. LANSWER for an offer that
is out, which is no graft's: with status 0 and result 0 HS is 1, accepted; else HS is 2, refused, and the mismatch bit is set; with no such offer
nothing changes. HANDSHAKE_TIMEOUT of an offer not accepted within 8 ms: a required port is refused with that bit, another one deferred; before
that, or with no offer out, nothing changes (R426, R427). -/
def Obligations.ProtectionAndHandshake : Prop :=
  (let turned := fun (s u : Block) (l : ProtId) =>
    u.on (protAct l) = !s.on (protAct l) ∧ u.on (rtEvt 7) = true ∧
    u.prot (protKey l) = { s.prot (protKey l) with badRun := 0, goodRun := 0, workGood := 0 } ∧ (∀ k, k ≠ protKey l → u.prot k = s.prot k) ∧
    s.only u ([protAct l, rtEvt 7] ++ faultFlds) [.net, .ledger]
  (∀ (s : State) (l : ProtId), protOk l = true → gives (.protectionSwitch l) s fun u =>
    if s.isProtected l = true ∧ s.f Reg.TRL_PROT_HOLD ≤ (s.prot (protKey l)).badRun ∧ 256 ≤ (s.prot (protKey l)).goodRun ∧ 0 < s.f Reg.TRL_PROT_HOLD
    then turned s.toBlock u l else u = s.toBlock) ∧
  (∀ (s : State) (l : ProtId), protOk l = true → gives (.protectionRevert l) s fun u =>
    if s.isProtected l = true ∧ s.on (protAct l) = true ∧ 0 < s.f Reg.TRL_PROT_REV ∧
      12288 * (100 * s.f Reg.TRL_PROT_REV) ≤ (s.prot (protKey l)).workGood
    then turned s.toBlock u l else u = s.toBlock) ∧
  (∀ (s : State) (k : Nat), k < 4 → s.coreOn = true → gives (.force k) s fun u =>
    if s.isProtected (.lane k) = true ∧ s.on (Reg.TRL_LIN_PGOOD k) = true then turned s.toBlock u (.lane k) else u = s.toBlock))
  ∧
  ((∀ (s : State) (p : Nat) (k : Packet), p < 4 → k.type = 0x20 → k.dst = 0 → gives (.loffer p k) s fun u =>
    (∀ a, s.storedAnswer { k with src := 64 + p } = some a → u = s.sendOn p a) ∧
    (s.storedAnswer { k with src := 64 + p } = none →
      (u.port p).offer = k.payload ∧ u.net.eqDue = true ∧
      ∃ a : Packet, u.net.txq = s.net.txq ++ [⟨p, 1, a⟩] ∧ a.type = 0x21 ∧ a.dst = 0 ∧ a.seq = k.seq ∧ a.status = 0 ∧ a.payload.length = 2 ∧
        u.storedAnswer { k with src := 64 + p } = some a) ∧
    (∀ q, q ≠ p → u.port q = s.port q) ∧ s.only u [] [.net]) ∧
  (∀ (s : State) (p : Nat) (k : Packet), p < 4 → k.type = 0x21 → k.dst = 0 → gives (.lanswer p k) s fun u =>
    (s.outstanding k.seq 0x20 = false → u = s.toBlock) ∧
    (s.outstanding k.seq 0x20 = true →
      u.net.requests = s.net.requests.filter (fun r => r.seq != k.seq) ∧ (u.port p).hsSince = none ∧ u.f Reg.TRL_RA_PROG_SEQACK = k.seq % 256 ∧
      s.only u [Reg.TRL_RA_STAT_WPEND, Reg.TRL_RA_STAT_QFREE, Reg.TRL_RA_PROG_OUT, Reg.TRL_RA_PROG_SEQACK, Reg.TRL_RA_PROG_STATE, Reg.TRL_RT_PSTAT_HS p, rtEvt 6]
        [.net] ∧ ((s.port p).hsKeep = true → u.f (Reg.TRL_RT_PSTAT_HS p) = s.f (Reg.TRL_RT_PSTAT_HS p)) ∧
      ((s.port p).hsKeep = false → k.status = 0 → k.payload.getD 0 1 = 0 → u.f (Reg.TRL_RT_PSTAT_HS p) = 1) ∧
      ((s.port p).hsKeep = false → k.status ≠ 0 ∨ k.payload.getD 0 1 ≠ 0 → u.f (Reg.TRL_RT_PSTAT_HS p) = 2 ∧ u.on (rtEvt 6) = true))) ∧
  (∀ (s : State) (p : Nat), p < 4 → gives (.handshakeTimeout p) s fun u =>
    ((s.port p).hsSince = none ∨ (∀ t, (s.port p).hsSince = some t → s.time.now < t + 16 * (12288 * 8)) → u = s.toBlock) ∧
    (∀ t, (s.port p).hsSince = some t → t + 16 * (12288 * 8) ≤ s.time.now → (s.port p).hsKeep = false → s.f (Reg.TRL_RT_PSTAT_HS p) ≠ 1 →
      (u.port p).hsSince = none ∧ s.only u [Reg.TRL_RT_PSTAT_HS p, rtEvt 6] [.net] ∧
      (s.on (Reg.TRL_RT_CFG_REQ.bit p) = true → u.f (Reg.TRL_RT_PSTAT_HS p) = 2 ∧ u.on (rtEvt 6) = true) ∧
      (s.on (Reg.TRL_RT_CFG_REQ.bit p) = false → u.f (Reg.TRL_RT_PSTAT_HS p) = 3 ∧ u.on (rtEvt 6) = s.on (rtEvt 6)))))

/-- GRID_ALIGN before the grid is aligned, on a device that is not the root, LOCKED with an upstream port, takes that port's slot number as its
tick; TWOROOT and NOROOT set their bits under the conditions of R407 and R408; otherwise the three change nothing. CENSUS_START and CENSUS_RESTART
of a root whose time has come, and START with the core clock running on the root, begin a census of the next epoch: CENSUS with address 2 goes to
the lowest port in UP; a root alone takes address 1 and is done. The requests that are due, or made in the same cycle, are met by it. TOPO to the
root asks for a census 2 frames from now, but where one has begun in this cycle. CENSUS_REPEAT repeats an unanswered CENSUS after 2 ms; CENFAIL
after 100 ms sets its bit and asks for a census 1 s later; EPOCH_DISCARD after 200 ms drops the census of any other device; else nothing changes
(R398, R407 to R411). -/
def Obligations.CensusOfTheRoot : Prop :=
  let began := fun (s u : Block) =>
    let e := ((s.net.census.map (·.epoch)).getD s.epoch + 1) % 256
    (∀ q rest, (List.range 4).dropWhile (fun q => !s.portUp q) = q :: rest →
      u.on Reg.TRL_RT_STAT_CENRUN = true ∧ s.only u [Reg.TRL_RT_STAT_CENRUN] [.net] ∧
      u.net = { s.net with censusAt := s.net.censusAt.filter (fun d => s.time.now < d && d != s.time.now + 16 * 512), txq := s.net.txq ++ [⟨q, 0, ⟨1, 0, s.addr, e, 0, 0, [2, 0]⟩⟩],
                           census := some { epoch := e, since := s.time.now, newAddr := 1, newHop := 0, next := 2, ports := rest,
                                            probe := some (q, 2, s.time.now), lastSend := s.time.now } }) ∧
    ((List.range 4).dropWhile (fun q => !s.portUp q) = [] → u.addr = 1 ∧ u.f Reg.TRL_RT_STAT_HOP = 0 ∧ u.epoch = e ∧ u.on Reg.TRL_RT_STAT_PV = false ∧
      u.on Reg.TRL_RT_STAT_CENRUN = false ∧ u.f Reg.TRL_RT_ROOT_COUNT = 1 ∧ u.on (rtEvt 0) = true)
  (∀ s : State, gives .gridAlign s fun u =>
    if s.on Reg.TRL_GLB_STAT_GRIDOK = false ∧ s.isRoot = false ∧ s.f Reg.CLK_STAT_STATE = pllLocked ∧ s.on Reg.TRL_GLB_STAT_UPV = true then
      u.time = { s.time with tick := (s.port (s.f Reg.TRL_GLB_STAT_UPPORT)).slot } ∧ u.on Reg.TRL_GLB_STAT_GRIDOK = true ∧
      u.on Reg.TRL_GLB_EVT_GRID = true ∧ s.only u [Reg.TRL_GLB_STAT_GRIDOK, Reg.TRL_GLB_EVT_GRID] [.time]
    else u = s.toBlock) ∧
  (∀ (s : State) (p : Nat), p < 4 → gives (.tworoot p) s fun u =>
    if s.linkState p = linkMeasure ∧ (s.port p).since + 16 * (12288 * 100) ≤ s.time.now ∧ (s.port p).peerDomain = true ∧
      (s.isRoot = true ∨ (s.f Reg.CLK_STAT_STATE = pllLocked ∧ s.on Reg.TRL_GLB_STAT_UPV = true))
    then u.on (rtEvt 4) = true ∧ s.only u [rtEvt 4] [] else u = s.toBlock) ∧
  (∀ s : State, gives .noroot s fun u =>
    (∀ d, s.net.domainBy = some d → d ≤ s.time.now → s.isRoot = false → (∃ p, p < 4 ∧ s.on (Reg.TRL_PCFG_EN p) = true) →
      (∀ p, p < 4 → s.on (Reg.TRL_PCFG_EN p) = true → (s.port p).peerDomain = false) →
      u.on (rtEvt 12) = true ∧ u.on Reg.CLK_EVT_NOREF = true ∧ u.net = { s.net with domainBy := none } ∧ s.only u [rtEvt 12, Reg.CLK_EVT_NOREF] [.net]) ∧
    (s.net.domainBy = none ∨ (∀ d, s.net.domainBy = some d → s.time.now < d) ∨ s.isRoot = true ∨ (∀ p, p < 4 → s.on (Reg.TRL_PCFG_EN p) = false) ∨
      (∃ p, p < 4 ∧ s.on (Reg.TRL_PCFG_EN p) = true ∧ (s.port p).peerDomain = true) → u = s.toBlock)) ∧
  (∀ (c : Instr) (s : State), c ∈ [Instr.censusStart, Instr.censusRestart] → gives c s fun u =>
    (s.isRoot = false ∨ (∀ d, d ∈ s.net.censusAt → s.time.now < d) → u = s.toBlock) ∧
    (∀ d, s.isRoot = true → d ∈ s.net.censusAt → d ≤ s.time.now → began s.toBlock u)) ∧
  (∀ s : State, s.coreOn = true → gives .start s fun u => if s.isRoot then began s.toBlock u else u = s.toBlock) ∧
  (∀ (s : State) (p : Nat) (k : Packet), p < 4 → k.dst = 0 ∨ (k.dst = s.addr ∧ s.addr ≠ 0) → k.type = 4 → gives (.topo p k) s fun u =>
    if s.isRoot && !s.net.census.any (fun r => r.since == s.time.now) then
      u.net = { s.net with censusAt := s.net.censusAt ++ [s.time.now + 16 * 512] } ∧ s.only u [] [.net]
    else u = s.toBlock) ∧
  (∀ (s : State) (p : Nat), p < 4 → gives (.censusRepeat p) s fun u =>
    (s.net.census = none ∨ (∀ r, s.net.census = some r → ∀ x, r.probe = some x → x.1 ≠ p) → u = s.toBlock) ∧
    (∀ r first t, s.net.census = some r → r.probe = some (p, first, t) → s.time.now < t + 16 * (12288 * 100) →
      if r.lastSend + 16 * (12288 * 2) ≤ s.time.now then
        u.net = { s.net with census := some { r with lastSend := s.time.now },
                             txq := s.net.txq ++ [⟨p, 0, ⟨1, 0, s.addr, r.epoch, 0, 0, [BitVec.ofNat 8 first, BitVec.ofNat 8 r.newHop]⟩⟩] } ∧
        s.only u [] [.net]
      else u = s.toBlock)) ∧
  (∀ s : State, gives .cenfail s fun u =>
    (s.net.census = none ∨ s.isRoot = false → u = s.toBlock) ∧
    (∀ r, s.net.census = some r → s.isRoot = true →
      if r.done = false ∧ r.since + 16 * (12288 * 100) ≤ s.time.now then
        u.on (rtEvt 1) = true ∧ u.on Reg.TRL_RT_STAT_CENRUN = false ∧ s.only u [rtEvt 1, Reg.TRL_RT_STAT_CENRUN] [.net] ∧
        u.net = { s.net with census := some { r with done := true, probe := none, ports := [] },
                             censusAt := s.net.censusAt ++ [s.time.now + 16 * (12288 * 1000)] }
      else u = s.toBlock)) ∧
  (∀ s : State, gives .epochDiscard s fun u =>
    (s.net.census = none ∨ s.isRoot = true → u = s.toBlock) ∧
    (∀ r, s.net.census = some r → s.isRoot = false →
      if r.done = false ∧ r.since + 16 * (12288 * 200) ≤ s.time.now then
        u.on Reg.TRL_RT_STAT_CENRUN = false ∧ u.net = { s.net with census := none } ∧ s.only u [Reg.TRL_RT_STAT_CENRUN] [.net]
      else u = s.toBlock))

/-- CENSUS of a newer epoch, on a device that is not the root, takes the address and hop count offered, notes the neighbour's address and goes to
the next port in UP with the next address, or is answered at once by CENRET to the parent. CENSUS of no newer epoch on a port that is not the
parent's is answered as a non-tree link. CENRET of the port under exploration, in this epoch, records the child's range, or the non-tree link and
its peer, and CENSUS goes to the next port; every other CENRET changes nothing. CENDONE of this epoch, on a device that has sent its CENRET, makes
address, hop count, parent, upstream port and destination table take effect and goes on along the tree; every other CENDONE changes nothing (R409,
R410, R412, R414, R418). -/
def Obligations.CensusOfADevice : Prop :=
  (∀ (s : State) (p : Nat) (k : Packet), p < 4 → s.isRoot = false → gives (.census p k) s fun u =>
    let n := (k.payload.getD 0 0).toNat
    let hop := (k.payload.getD 1 0).toNat
    let mine := (s.net.census.map (·.epoch)).getD s.epoch
    let run : CensusRun := { epoch := k.epoch, since := s.time.now, newAddr := if n ≤ 62 then n else 0, newHop := hop + 1, parent := p, next := n + 1 }
    (newerEpoch k.epoch mine = true → u.on Reg.TRL_RT_STAT_CENRUN = true ∧ u.f (Reg.TRL_RT_PSTAT_PEER p) = k.src % 64 ∧
      s.only u [Reg.TRL_RT_STAT_CENRUN, Reg.TRL_RT_PSTAT_PEER p] [.net] ∧
      (∀ q rest, ((List.range 4).filter (· != p)).dropWhile (fun q => !s.portUp q) = q :: rest →
        u.net = { s.net with census := some { run with ports := rest, probe := some (q, n + 1, s.time.now), lastSend := s.time.now },
                             txq := s.net.txq ++ [⟨q, 0, ⟨1, 0, s.addr, k.epoch, 0, 0, [BitVec.ofNat 8 (n + 1), BitVec.ofNat 8 (hop + 1)]⟩⟩] }) ∧
      (((List.range 4).filter (· != p)).dropWhile (fun q => !s.portUp q) = [] → ∃ c : Packet, u.net = { s.net with census := some { run with sent := some c }, txq := s.net.txq ++ [⟨p, 0, c⟩] } ∧
        c.type = 2 ∧ c.epoch = k.epoch ∧ c.payload.take 4 = [BitVec.ofNat 8 (n + 1), 0, 0, 0] ∧ c.payload.length = 20)) ∧
    (newerEpoch k.epoch mine = false → s.net.census = none ∨ (∃ r, s.net.census = some r ∧ p ≠ r.parent) →
      s.only u [] [.net] ∧
      u.net = { s.net with txq := s.net.txq ++ [⟨p, 0, ⟨2, 0, s.addr, k.epoch, 0, 0, [k.payload.getD 0 0, 1, 0, 0]⟩⟩] })) ∧
  (∀ (s : State) (p : Nat) (k : Packet), p < 4 → gives (.cenret p k) s fun u =>
    (s.net.census = none ∨ (∃ r, s.net.census = some r ∧ (r.probe = none ∨ k.epoch ≠ r.epoch ∨ ∀ x, r.probe = some x → x.1 ≠ p)) → u = s.toBlock) ∧
    (∀ r first t q rest, s.net.census = some r → r.probe = some (p, first, t) → k.epoch = r.epoch → r.ports.dropWhile (fun q => !s.portUp q) = q :: rest →
      let n := (k.payload.getD 0 0).toNat
      (k.payload.getD 1 0 = 0 → s.only u [] [.net] ∧
        u.net = { s.net with
          census := some { r with next := n, ranges := r.ranges ++ [(p, first, n - 1)], records := r.records ++ fillParent r.newAddr (k.payload.drop 4),
                                  ports := rest, probe := some (q, n, s.time.now), lastSend := s.time.now },
          txq := s.net.txq ++ [⟨q, 0, ⟨1, 0, s.addr, r.epoch, 0, 0, [BitVec.ofNat 8 n, BitVec.ofNat 8 r.newHop]⟩⟩] }) ∧
      (k.payload.getD 1 0 ≠ 0 → u.f (Reg.TRL_RT_PSTAT_PEER p) = k.src % 64 ∧ s.only u [Reg.TRL_RT_PSTAT_PEER p] [.net] ∧
        u.net = { s.net with
          census := some { r with nonTree := r.nonTree ++ [p], ports := rest, probe := some (q, r.next, s.time.now), lastSend := s.time.now },
          txq := s.net.txq ++ [⟨q, 0, ⟨1, 0, s.addr, r.epoch, 0, 0, [BitVec.ofNat 8 r.next, BitVec.ofNat 8 r.newHop]⟩⟩] }))) ∧
  (∀ (s : State) (p : Nat) (k : Packet), p < 4 → gives (.cendone p k) s fun u =>
    (s.net.census = none ∨ (∃ r, s.net.census = some r ∧ (k.epoch ≠ r.epoch ∨ r.sent = none ∨ r.done = true)) → u = s.toBlock) ∧
    (∀ r, s.net.census = some r → k.epoch = r.epoch → r.sent.isSome = true → r.done = false →
      u.addr = r.newAddr % 64 ∧ u.f Reg.TRL_RT_STAT_HOP = r.newHop % 64 ∧ u.epoch = r.epoch % 256 ∧ u.f Reg.TRL_RT_STAT_PARENT = r.parent % 4 ∧
      u.on Reg.TRL_RT_STAT_PV = true ∧ u.on Reg.TRL_RT_STAT_CENRUN = false ∧ u.net.census = some { r with done := true } ∧
      u.on Reg.TRL_GLB_STAT_UPV = true ∧ u.f Reg.TRL_GLB_STAT_UPPORT = r.parent % 4 ∧
      (s.addr ≠ r.newAddr → u.on (rtEvt 2) = true) ∧
      (∀ d, 1 ≤ d → d ≤ 62 → u.on (Reg.TRL_RT_DEST_VIA d) = decide (d ≠ r.newAddr) ∧ u.on (Reg.TRL_RT_DEST_LOCAL d) = decide (d = r.newAddr) ∧
        (d ≠ r.newAddr → (∀ x, x ∈ r.ranges → d < x.2.1 ∨ x.2.2 < d) → u.f (Reg.TRL_RT_DEST_PORT d) = r.parent % 4)) ∧
      u.net.txq = s.net.txq ++ (u.treePorts.filter (· ≠ p)).map (fun q => ⟨q, packetClass k.type, k⟩) ∧
      s.within u (fun a => a = Reg.TRL_RT_EVT ∨ a = Reg.TRL_RT_STAT ∨ a = Reg.TRL_GLB_STAT ∨ (∃ d, 1 ≤ d ∧ d ≤ 62 ∧ a = Reg.TRL_RT_DEST d) ∨
        ∃ q, q < 4 ∧ (a = Reg.TRL_RT_PSTAT q ∨ a = Reg.TRL_LSTAT q)) [.net]))

/-- WRITE, READ, IMG, WACK, RDATA, LANSWER, LOFFER and NOTIFY on a port. A packet for another single device goes out, as it came, on the port the
destination table names, and changes nothing else; without such an entry it is lost, but for a request at the root, which is counted and answered
with status 1. A request to this device whose epoch is not that in force is answered with status 4 and has no other effect; any other packet to it
of another epoch changes nothing (R419, R420). -/
def Obligations.PacketRouting : Prop :=
  ∀ (s : State) (p : Nat) (k : Packet), p < 4 → 5 ≤ k.type →
  ∀ c, c ∈ [Instr.write p k, .read p k, .img p k, .wack p k, .rdata p k, .lanswer p k, .loffer p k, .notify p k] → gives c s fun u =>
    (k.dst ≠ 0 → k.dst ≠ s.addr → k.dst ≠ 63 →
      (∀ q, s.routePort k.dst = some q → u.net = { s.net with txq := s.net.txq ++ [⟨q, packetClass k.type, k⟩] } ∧ s.only u [] [.net]) ∧
      (s.routePort k.dst = none → s.isRoot = false ∨ answerType k.type = none → u = s.toBlock) ∧
      (∀ t q, s.routePort k.dst = none → s.isRoot = true → answerType k.type = some t → k.src ≠ 63 → s.routePort k.src = some q →
        u.net = { s.net with txq := s.net.txq ++ [⟨q, packetClass t, ⟨t, k.src, s.addr, k.epoch, k.seq, 1, []⟩⟩] } ∧
        u.f Reg.TRL_RT_CNT_NOROUTE = min 65535 (s.f Reg.TRL_RT_CNT_NOROUTE + 1) ∧ s.only u [Reg.TRL_RT_CNT_NOROUTE] [.net])) ∧
    (k.dst = s.addr → s.addr ≠ 0 → k.epoch ≠ s.epoch →
      (answerType k.type = none → u = s.toBlock) ∧
      (∀ t q, answerType k.type = some t → k.src ≠ 63 → s.routePort k.src = some q →
        u.net = { s.net with txq := s.net.txq ++ [⟨q, packetClass t, ⟨t, k.src, s.addr, k.epoch, k.seq, 4, []⟩⟩] } ∧ s.only u [] [.net]))

/-- WRITE and READ to this device in the epoch in force: a repeated request gets its stored answer and has no effect again; a payload of another
form is answered with status 2 and changes no register; a WRITE of 1 to 64 words is the local write burst, answered with status 0, or 3 where the
cloche forbids a word; a READ of 1 to 64 words is answered by the words the local reads give. NOTIFY records the summary and the source and sets
its bit (R421, R422, R424, R517). -/
def Obligations.RemoteAccesses : Prop :=
  (∀ (s : State) (p : Nat) (k : Packet), p < 4 → k.type = 0x10 → k.dst = s.addr → s.addr ≠ 0 → k.dst ≠ 63 → k.epoch = s.epoch → gives (.write p k) s fun u =>
    let ws := wordsOf (k.payload.drop 4)
    let ok := k.payload.length % 4 = 0 ∧ 1 ≤ ws.length ∧ ws.length ≤ 64
    (∀ a, s.storedAnswer k = some a → u = s.send a) ∧
    (s.storedAnswer k = none → s.host.rstReq = false → ¬ok → u = s.answer k 2 [] ∧ s.only u [] [.net]) ∧
    (s.storedAnswer k = none → ok → (∀ i w, ws[i]? = some w → s.clocheForbids (burstAddr (beWord (k.payload.take 4)) i) w = false) →
      let v := s.toBlock.writeBurst (beWord (k.payload.take 4)) ws
      v.host.rstReq = false → u = v.answer k 0 []) ∧
    (s.storedAnswer k = none → ok → (∃ i w, ws[i]? = some w ∧ s.clocheForbids (burstAddr (beWord (k.payload.take 4)) i) w = true) →
      let v := s.toBlock.writeBurst (beWord (k.payload.take 4)) ws
      v.host.rstReq = false → u = v.answer k 3 [])) ∧
  (∀ (s : State) (p : Nat) (k : Packet), p < 4 → k.type = 0x12 → k.dst = s.addr → s.addr ≠ 0 → k.dst ≠ 63 → k.epoch = s.epoch → gives (.read p k) s fun u =>
    let n := (k.payload.getD 4 0).toNat
    let r := s.toBlock.readBurst (beWord (k.payload.take 4)) n []
    (∀ a, s.storedAnswer k = some a → u = s.send a) ∧
    (s.storedAnswer k = none → k.payload.length ≠ 5 ∨ n = 0 ∨ 64 < n → u = s.answer k 2 [] ∧ s.only u [] [.net]) ∧
    (s.storedAnswer k = none → k.payload.length = 5 → 1 ≤ n → n ≤ 64 →
      u = r.2.answer k 0 (r.1.flatMap (fun w => beBytes 4 w.toNat)) ∧ r.1.length = n)) ∧
  (∀ (s : State) (p : Nat) (k : Packet), p < 4 → k.type = 0x30 → k.dst = s.addr → s.addr ≠ 0 → k.dst ≠ 63 → k.epoch = s.epoch → gives (.notify p k) s fun u =>
    u.f Reg.TRL_RA_NOTE_SUM = beNat (k.payload.take 2) % 2 ^ 16 ∧ u.f Reg.TRL_RA_NOTE_SRC = k.src % 64 ∧ u.on (rtEvt 11) = true ∧
    s.only u [Reg.TRL_RA_NOTE_SUM, Reg.TRL_RA_NOTE_SRC, rtEvt 11] [])

/-- WACK and RDATA to this device in the epoch in force, for a request that is out: the request is settled, SEQACK is its SEQ, and STATE, where it
was the last request sent, is 2 on status 0 and else 3; with status 0 the done bit is set, and RDATA buffers its words with RDONE; else the error
bit is set, and ERR takes a status below 5. An answer to no request changes nothing. REQUEST_REPEAT of a request that is out sends it again once 2
ms have passed, three times at most, and then gives it up with ERR 5, a ledger entry and, where it was the last sent, STATE 4; else nothing changes
(R421 to R423, R563). -/
def Obligations.RemoteAnswers : Prop :=
  let rest := fun (s : Block) (k : Packet) => s.net.requests.filter (fun r => r.seq != k.seq)
  let settled := fun (s u : Block) (k : Packet) =>
    u.net.requests = rest s k ∧ u.f Reg.TRL_RA_PROG_SEQACK = k.seq % 256 ∧
    (k.seq % 256 = s.f Reg.TRL_RA_PROG_SEQTX → u.f Reg.TRL_RA_PROG_STATE = if k.status = 0 then 2 else 3) ∧
    (k.seq % 256 ≠ s.f Reg.TRL_RA_PROG_SEQTX → u.f Reg.TRL_RA_PROG_STATE = s.f Reg.TRL_RA_PROG_STATE) ∧
    (k.status = 0 → u.on (rtEvt 9) = true ∧ u.f Reg.TRL_RA_STAT_ERR = s.f Reg.TRL_RA_STAT_ERR) ∧
    (k.status ≠ 0 → u.on (rtEvt 10) = true ∧ (k.status < 5 → u.f Reg.TRL_RA_STAT_ERR = k.status))
  let flds := [Reg.TRL_RA_STAT_WPEND, Reg.TRL_RA_STAT_QFREE, Reg.TRL_RA_STAT_ERR, Reg.TRL_RA_PROG_OUT, Reg.TRL_RA_PROG_SEQACK, Reg.TRL_RA_PROG_STATE,
    rtEvt 9, rtEvt 10]
  (∀ (s : State) (p : Nat) (k : Packet), p < 4 → k.type = 0x11 → k.dst = s.addr → s.addr ≠ 0 → k.dst ≠ 63 → k.epoch = s.epoch → gives (.wack p k) s fun u =>
    (s.outstanding k.seq 0x10 = true → settled s.toBlock u k ∧ s.only u flds [.net] ∧
      u.on Reg.TRL_RA_STAT_WPEND = (u.writesOut != 0) ∧ u.net = { s.net with requests := rest s.toBlock k }) ∧
    (s.outstanding k.seq 0x10 = false → s.outstanding k.seq 0x40 = true → k.status ≠ 0 → settled s.toBlock u k ∧ s.only u flds [.net] ∧
      u.net = { s.net with requests := rest s.toBlock k, stream := [] }) ∧
    (s.outstanding k.seq 0x10 = false → s.outstanding k.seq 0x40 = false → u = s.toBlock)) ∧
  (∀ (s : State) (p : Nat) (k : Packet), p < 4 → k.type = 0x13 → k.dst = s.addr → s.addr ≠ 0 → k.dst ≠ 63 → k.epoch = s.epoch → gives (.rdata p k) s fun u =>
    (s.outstanding k.seq 0x12 = false → u = s.toBlock) ∧
    (s.outstanding k.seq 0x12 = true → settled s.toBlock u k ∧ u.on Reg.TRL_RA_STAT_RPEND = false ∧
      s.only u (flds ++ [Reg.TRL_RA_STAT_RPEND, Reg.TRL_RA_STAT_RDONE]) [.net] ∧
      (k.status = 0 → u.on Reg.TRL_RA_STAT_RDONE = true ∧ u.net = { s.net with requests := rest s.toBlock k, fetched := wordsOf k.payload }) ∧
      (k.status ≠ 0 → u.on Reg.TRL_RA_STAT_RDONE = s.on Reg.TRL_RA_STAT_RDONE ∧
        u.net = { s.net with requests := rest s.toBlock k, fetch := none }))) ∧
  (∀ (s : State) (seq : Nat), seq < 256 → gives (.requestRepeat seq) s fun u =>
    (s.net.requests.find? (fun r => r.seq == seq) = none → u = s.toBlock) ∧
    (∀ r, s.net.requests.find? (fun r => r.seq == seq) = some r →
      (s.time.now < r.at' + 16 * (12288 * 2) → u = s.toBlock) ∧
      (r.at' + 16 * (12288 * 2) ≤ s.time.now → r.sends ≤ 3 → s.only u [] [.net] ∧
        (∀ q, r.port = some q ∨ (r.port = none ∧ r.pkt.dst ≠ 63 ∧ s.routePort r.pkt.dst = some q) →
          u.net = { s.net with
            txq := s.net.txq ++ [⟨q, packetClass r.pkt.type, r.pkt⟩],
            requests := s.net.requests.map (fun x => if x.seq = seq then { x with sends := x.sends + 1, at' := s.time.now } else x) })) ∧
      (r.at' + 16 * (12288 * 2) ≤ s.time.now → 3 < r.sends →
        u.net.requests = s.net.requests.filter (fun x => x.seq != seq) ∧ (s.f Reg.TRL_RA_PROG_SEQTX = seq → u.f Reg.TRL_RA_PROG_STATE = 4) ∧
        u.f Reg.TRL_RA_STAT_ERR = 5 ∧
        u.on (rtEvt 10) = true ∧ (r.pkt.type = 0x12 → u.on Reg.TRL_RA_STAT_RPEND = false ∧ u.net.fetch = none) ∧
        s.only u ([Reg.TRL_RA_STAT_WPEND, Reg.TRL_RA_STAT_QFREE, Reg.TRL_RA_STAT_ERR, Reg.TRL_RA_STAT_RPEND, Reg.TRL_RA_PROG_OUT,
          Reg.TRL_RA_PROG_STATE, rtEvt 10] ++ faultFlds) [.net, .ledger])))

/-- SCRUB_WRITEBACK of a word that waits corrects it and no stored value changes; of any other word nothing changes. SRAM_CLEAR_DONE ends the
clearing once its time has come. For a channel, with the core clock running: GO out of IDLE sets GOPEND; in IDLE with the ring outside audio SRAM
it sets the error with cause ADDR and stays IDLE, else it fetches. STOP out of IDLE sets STOPREQ, in IDLE nothing. ABORT in IDLE changes nothing,
in FETCH stops the channel, and else ends the descriptor with RESULT 4, but in the completion cycle of READBACK it is late. SKIP in HALT ends the
descriptor with RESULT 3, RESTART in HALT fetches again, and out of HALT both change nothing (R441, R446, R458 to R460, R464, R467). -/
def Obligations.MemoryAndRequests : Prop :=
  let ended := fun (s u : Block) (c result : Nat) =>
    u.mem.sram = (s.writeBack c result).mem.sram ∧ u.f (Reg.DMA_CH_STAT_IDX c) = (s.f (Reg.DMA_CH_STAT_IDX c) + 1) % s.dmaCount c ∧
    s.only u [Reg.DMA_CH_STAT_STATE c, Reg.DMA_CH_STAT_STOPREQ c, Reg.DMA_CH_STAT_IDX c] [.mem] ∧ (u.dma c).buffer = []
  (∀ (s : State) (a : Nat), a % 4 = 0 → sramBase ≤ a → a < 0x510000 → gives (.scrubWriteback a) s fun u =>
    (a ∉ s.mem.scrub → u = s.toBlock) ∧
    (a ∈ s.mem.scrub → u.upset a = (if s.upset a = 1 then 0 else s.upset a) ∧ (∀ b, b / 4 ≠ a / 4 → u.upset b = s.upset b) ∧
      u.mem = { s.mem with scrub := s.mem.scrub.filter (· != a), upsets := u.mem.upsets } ∧ s.only u [] [.mem])) ∧
  (∀ s : State, gives .sramClearDone s fun u =>
    (s.mem.clearing = none ∨ (∀ t, s.mem.clearing = some t → s.time.now < t) → u = s.toBlock) ∧
    (∀ t, s.mem.clearing = some t → t ≤ s.time.now → u.mem = { s.mem with clearing := none } ∧ s.only u [] [.mem])) ∧
  (∀ (s : State) (c : Nat), c < 16 → s.coreOn = true → gives (.dmaGo c) s fun u =>
    let inside := sramBase ≤ s.dmaBase c ∧ s.dmaBase c + 16 * s.dmaCount c ≤ sramBase + sramSize
    (s.dmaState c ≠ dmaIdle → u.on (Reg.DMA_CH_STAT_GOPEND c) = true ∧ s.only u [Reg.DMA_CH_STAT_GOPEND c] []) ∧
    (s.dmaState c = dmaIdle → inside → u.dmaState c = dmaFetch ∧ s.only u [Reg.DMA_CH_STAT_STATE c] []) ∧
    (s.dmaState c = dmaIdle → ¬inside → u.f (Reg.DMA_CH_ERRADDR_ADDR c) = s.dmaBase c ∧ u.f (Reg.DMA_CH_ERRINFO_DIR c) = 0 ∧
      u.f (Reg.DMA_CH_ERRINFO_CAUSE c) = 1 ∧ u.on (Reg.DMA_EVT_ERR_ERR.bit c) = true ∧
      s.only u [Reg.DMA_CH_ERRADDR_ADDR c, Reg.DMA_CH_ERRINFO_DIR c, Reg.DMA_CH_ERRINFO_CAUSE c, Reg.DMA_EVT_ERR_ERR.bit c] [])) ∧
  (∀ (s : State) (c : Nat), c < 16 → s.coreOn = true → gives (.stop c) s fun u =>
    if s.dmaState c = dmaIdle then u = s.toBlock else u.on (Reg.DMA_CH_STAT_STOPREQ c) = true ∧ s.only u [Reg.DMA_CH_STAT_STOPREQ c] []) ∧
  (∀ (s : State) (c : Nat) (late : Bool), c < 16 → s.coreOn = true → gives (.dmaAbort c late) s fun u =>
    (s.dmaState c = dmaIdle → u = s.toBlock) ∧
    (s.dmaState c = dmaFetch → u.dmaState c = dmaIdle ∧ u.on (Reg.DMA_CH_STAT_STOPREQ c) = false ∧ u.mem.sram = s.mem.sram ∧
      s.only u [Reg.DMA_CH_STAT_STATE c, Reg.DMA_CH_STAT_STOPREQ c] [.mem]) ∧
    (late = true → s.dmaState c = dmaReadback → u.on (Reg.DMA_EVT_ERR_LATE.bit c) = true ∧ s.only u [Reg.DMA_EVT_ERR_LATE.bit c] []) ∧
    (late = false ∨ s.dmaState c ≠ dmaReadback → s.dmaState c ≠ dmaIdle → s.dmaState c ≠ dmaFetch → u.dmaState c = dmaIdle ∧ ended s.toBlock u c 4)) ∧
  (∀ (s : State) (c : Nat), c < 16 → s.coreOn = true → gives (.skip c) s fun u =>
    (s.dmaState c ≠ dmaHalt → u = s.toBlock) ∧
    (s.dmaState c = dmaHalt → ended s.toBlock u c 3 ∧
      u.dmaState c = (if (s.dma c).ctl.getLsbD 14 || s.on (Reg.DMA_CH_STAT_STOPREQ c) then dmaIdle else dmaFetch))) ∧
  (∀ (s : State) (c : Nat), c < 16 → s.coreOn = true → gives (.restart c) s fun u =>
    if s.dmaState c = dmaHalt then u.dmaState c = dmaFetch ∧ s.only u [Reg.DMA_CH_STAT_STATE c] [] else u = s.toBlock)

/-- DESCRIPTOR_FETCH in FETCH, of a descriptor the channel can read: one that software owns ends the run, or a pending GO lets the channel fetch
again; one at fault is written back with RESULT 2 and sets its cause; any other is taken and the channel runs, its progress at 0 and its index
shown; a word that cannot be read halts it. DMA_BEAT in RUN, in the channel's turn, of a fresh descriptor from audio SRAM to audio SRAM, without
swap or wrap, with good memory: the eight bytes at the source stand at the destination, every other byte stays, XFER counts them, and the channel
reads back after the last. DMA_COMPLETE in READBACK: bytes that agree end the descriptor with RESULT 1, CONF, the count and, where the descriptor
asks, the event; others halt the channel with cause VERIFY. Out of their state, or out of turn, the three change nothing (R457, R458, R460, R462,
R463 to R466, R469). -/
def Obligations.DmaTransfers : Prop :=
  (∀ (s : State) (c : Nat), c < 16 → gives (.descriptorFetch c) s fun u =>
    (s.dmaState c ≠ dmaFetch → u = s.toBlock) ∧
    (∀ ws e s', s.dmaState c = dmaFetch → s.toBlock.readDesc c = (ws, some e, s') → u.dmaState c = dmaHalt ∧ u.dma c = { desc := ws } ∧
      u.f (Reg.DMA_CH_ERRADDR_ADDR c) = e.2 % 2 ^ 32 ∧ u.f (Reg.DMA_CH_ERRINFO_CAUSE c) = e.1 % 16 ∧ u.on (Reg.DMA_EVT_ERR_ERR.bit c) = true ∧
      u.mem.sram = s.mem.sram) ∧
    (∀ ws, s.dmaState c = dmaFetch → s.toBlock.readDesc c = (ws, none, s.toBlock) →
      let d : DmaSt := { desc := ws }
      ((ws.getD 3 0).getLsbD 0 = false → s.on (Reg.DMA_CH_STAT_GOPEND c) = true →
        u.on (Reg.DMA_CH_STAT_GOPEND c) = false ∧ s.only u [Reg.DMA_CH_STAT_GOPEND c] []) ∧
      ((ws.getD 3 0).getLsbD 0 = false → s.on (Reg.DMA_CH_STAT_GOPEND c) = false →
        u.dmaState c = dmaIdle ∧ s.only u [Reg.DMA_CH_STAT_STATE c, Reg.DMA_CH_STAT_STOPREQ c] [.mem]) ∧
      ((ws.getD 3 0).getLsbD 0 = true → d.refusal = 0 → u.dma c = d ∧ u.dmaState c = dmaRun ∧ u.f (Reg.DMA_CH_PROG0_XFER c) = 0 ∧
        u.f (Reg.DMA_CH_PROG1_CONF c) = 0 ∧ u.f (Reg.DMA_CH_PROG1_IDX c) = s.f (Reg.DMA_CH_STAT_IDX c) ∧ u.mem.sram = s.mem.sram ∧
        s.only u [Reg.DMA_CH_STAT_STATE c, Reg.DMA_CH_PROG0_XFER c, Reg.DMA_CH_PROG1_CONF c, Reg.DMA_CH_PROG1_IDX c, Reg.XSPI_WPROG1_PAGES] [.mem]) ∧
      ((ws.getD 3 0).getLsbD 0 = true → d.refusal ≠ 0 → u.dmaState c = dmaIdle ∧ u.f (Reg.DMA_CH_ERRINFO_CAUSE c) = d.refusal ∧
        u.on (Reg.DMA_EVT_ERR_ERR.bit c) = true ∧ u.f (Reg.DMA_CH_STAT_IDX c) = (s.f (Reg.DMA_CH_STAT_IDX c) + 1) % s.dmaCount c ∧
        (sramBase ≤ s.descAddr c → s.descAddr c + 16 ≤ sramBase + sramSize → s.descAddr c % 16 = 0 → s.bankFailed (bankOf (s.descAddr c - sramBase)) = false →
          u.mem.sram.readWord (s.descAddr c + 12 - sramBase) = setBits (setBits (ws.getD 3 0) 0 1 0) 24 4 2 ∧
          ∀ x, x < s.descAddr c + 12 - sramBase ∨ s.descAddr c + 16 - sramBase ≤ x → u.mem.sram.read x = s.mem.sram.read x)))) ∧
  (∀ (s : State) (c : Nat) (ext : List Byte) (us : List Upset), c < 16 → s.dmaState c ≠ dmaRun ∨ s.dmaTurn c = false →
    gives (.dmaBeat c ext us) s fun u => u = s.toBlock) ∧
  (∀ (s : State) (c : Nat) (ext : List Byte), c < 16 → s.dmaState c = dmaRun → s.dmaTurn c = true → (s.dma c).got = 0 → (s.dma c).buffer = [] → 8 ≤ (s.dma c).len →
    (s.dma c).swap = 0 → (s.dma c).swrap = 0 → (s.dma c).dwrap = 0 → (s.dma c).overlaps = false → (s.dma c).src % 4 = 0 → (s.dma c).dst % 4 = 0 →
    sramBase ≤ (s.dma c).src → (s.dma c).src + 8 ≤ sramBase + sramSize → sramBase ≤ (s.dma c).dst → (s.dma c).dst + 8 ≤ sramBase + sramSize →
    (∀ k, s.bankFailed k = false) → (∀ a, s.upset a = 0) → s.bst.run = none → s.mem.xspi.page = none → gives (.dmaBeat c ext []) s fun u =>
      let from' := (s.dma c).src - sramBase
      let to' := (s.dma c).dst - sramBase
      (∀ i, u.mem.sram.read i = if to' ≤ i ∧ i < to' + 8 then s.mem.sram.read (from' + (i - to')) else s.mem.sram.read i) ∧
      u.f (Reg.DMA_CH_PROG0_XFER c) = (s.f (Reg.DMA_CH_PROG0_XFER c) + 8) % 2 ^ 24 ∧
      u.dmaState c = (if (s.dma c).len = 8 then dmaReadback else dmaRun) ∧
      s.only u [Reg.DMA_CH_STAT_STATE c, Reg.DMA_CH_PROG0_XFER c] [.mem]) ∧
  (∀ (s : State) (c : Nat) (ext : List Byte) (us : List Upset), c < 16 → s.dmaState c ≠ dmaReadback →
    gives (.dmaComplete c ext us) s fun u => u = s.toBlock) ∧
  (∀ (s : State) (c : Nat) (ext : List Byte) (o : Nat) (bs got : List Byte), c < 16 → s.dmaState c = dmaReadback → (s.dma c).lastBeat = some (o, bs) →
    let addrs := (List.range bs.length).map (fun i => wrapAddr (s.dma c).dst (s.dma c).dwrap (o + i))
    inWindow (addrs.headD 0) = false → inRegisters (addrs.headD 0) = false → s.toBlock.dmaReadMap c (wordGroups addrs) = (.ok got, s.toBlock) →
    gives (.dmaComplete c ext []) s fun u =>
      (got = bs → u.f (Reg.DMA_CH_PROG1_CONF c) = (s.dma c).len ∧ u.f (Reg.DMA_CH_CNT_DONE c) = min 65535 (s.f (Reg.DMA_CH_CNT_DONE c) + 1) ∧
        u.on (Reg.DMA_EVT_DONE_DONE.bit c) = (s.on (Reg.DMA_EVT_DONE_DONE.bit c) || (s.dma c).ctl.getLsbD 1) ∧
        u.mem.sram = (s.writeBack c 1).mem.sram ∧ u.f (Reg.DMA_CH_STAT_IDX c) = (s.f (Reg.DMA_CH_STAT_IDX c) + 1) % s.dmaCount c ∧
        u.dmaState c = (if (s.dma c).ctl.getLsbD 14 || s.on (Reg.DMA_CH_STAT_STOPREQ c) then dmaIdle else dmaFetch) ∧
        s.only u [Reg.DMA_CH_STAT_STATE c, Reg.DMA_CH_STAT_STOPREQ c, Reg.DMA_CH_STAT_IDX c, Reg.DMA_CH_PROG1_CONF c, Reg.DMA_CH_CNT_DONE c,
          Reg.DMA_EVT_DONE_DONE.bit c] [.mem]) ∧
      (got ≠ bs → u.dmaState c = dmaHalt ∧ u.f (Reg.DMA_CH_ERRINFO_CAUSE c) = causeVerify ∧ u.f (Reg.DMA_CH_ERRADDR_ADDR c) = addrs.headD 0 % 2 ^ 32 ∧
        u.on (Reg.DMA_EVT_ERR_ERR.bit c) = true ∧ u.mem.sram = s.mem.sram ∧
        s.only u ([Reg.DMA_CH_STAT_STATE c, Reg.DMA_CH_ERRADDR_ADDR c, Reg.DMA_CH_ERRINFO_DIR c, Reg.DMA_CH_ERRINFO_CAUSE c, Reg.DMA_CH_CNT_ERR c,
          Reg.DMA_EVT_ERR_ERR.bit c] ++ faultFlds) [.mem, .ledger]))

/-- PAGE_GAP, with a page collected, no poll and 64 core cycles since its last beat, sends write enable and the program and starts polling.
BUSY_POLL at its time reads the status: busy, the next read is 1966 core cycles later; else the poll ends, a page counts, the rest of a
descriptor's last beat goes out, and an indirect command ends with IDONE. POLL_TIMEOUT after POLLTO ms sets PTO and the error, and ends the
indirect command with IERR or halts the channel that writes with cause XSPI. INDIRECT_COMMAND, with the core clock running and none under way, sets
IBUSY, takes its registers and goes out, or waits for a DMA access. INDIRECT_DONE of a read without polling shows its bytes and ends it. At any
other time the five change nothing (R453 to R456, R464). -/
def Obligations.FlashController : Prop :=
  (∀ s : State, gives .pageGap s fun u =>
    (s.mem.xspi.page = none ∨ s.mem.xspi.poll.isSome = true ∨ s.time.now < s.mem.xspi.lastBeat + 64 → u = s.toBlock) ∧
    (∀ a bs, s.mem.xspi.page = some (a, bs) → s.mem.xspi.poll = none → s.mem.xspi.lastBeat + 64 ≤ s.time.now →
      u.mem = { s.mem with xspi := { s.mem.xspi with
        page := none, poll := some (s.time.now, s.time.now, false), flow := none,
        sent := s.mem.xspi.sent ++ [(s.f Reg.XSPI_CMD2_WREN, 0, []), (s.f Reg.XSPI_CMD_WROPC, a, bs)] } } ∧
      u.f Reg.XSPI_WPROG0_ADDR = a % 2 ^ 29 ∧ u.f Reg.XSPI_WPROG1_STATE = 3 ∧ u.f Reg.XSPI_WPROG1_KIND = 0 ∧ u.on Reg.XSPI_STAT_BUSY = true ∧
      s.only u [Reg.XSPI_WPROG0_ADDR, Reg.XSPI_WPROG1_STATE, Reg.XSPI_WPROG1_KIND, Reg.XSPI_STAT_BUSY] [.mem])) ∧
  (∀ (s : State) (status : Byte), gives (.busyPoll status) s fun u =>
    (s.mem.xspi.poll = none ∨ (∀ x, s.mem.xspi.poll = some x → s.time.now < x.2.1) → u = s.toBlock) ∧
    (∀ t next ind, s.mem.xspi.poll = some (t, next, ind) → next ≤ s.time.now →
      let out := s.mem.xspi.sent ++ [(s.f Reg.XSPI_CMD2_RDSR, 0, [])]
      (status.toNat &&& s.f Reg.XSPI_POLL_BUSYMASK ≠ 0 →
        u.mem = { s.mem with xspi := { s.mem.xspi with poll := some (t, next + 1966, ind), sent := out, flow := none } } ∧ s.only u [] [.mem]) ∧
      (status.toNat &&& s.f Reg.XSPI_POLL_BUSYMASK = 0 →
        let last := s.f (Reg.DMA_CH_STAT_STATE s.mem.xspi.chan) = dmaReadback
        (ind = true ∨ s.mem.xspi.page = none ∨ ¬last → u.mem.xspi.poll = none ∧ u.mem.xspi.sent = out ∧ u.f Reg.XSPI_WPROG1_STATE = 4) ∧
        (∀ a bs, ind = false → s.mem.xspi.page = some (a, bs) → last → u.mem.xspi.poll = some (s.time.now, s.time.now, false) ∧ u.mem.xspi.page = none ∧
          u.mem.xspi.sent = out ++ [(s.f Reg.XSPI_CMD2_WREN, 0, []), (s.f Reg.XSPI_CMD_WROPC, a, bs)] ∧ u.f Reg.XSPI_WPROG1_STATE = 3) ∧
        s.only u [Reg.XSPI_WPROG0_ADDR, Reg.XSPI_WPROG1_KIND, Reg.XSPI_WPROG1_STATE, Reg.XSPI_WPROG1_PAGES, Reg.XSPI_STAT_BUSY, Reg.XSPI_STAT_MODE_NOW, Reg.XSPI_STAT_IBUSY, Reg.XSPI_STAT_IERR,
          Reg.XSPI_EVT_IDONE] [.mem] ∧
        (ind = true → u.on Reg.XSPI_STAT_IBUSY = false ∧ u.on Reg.XSPI_STAT_IERR = false ∧ u.on Reg.XSPI_EVT_IDONE = true) ∧
        (ind = false → u.f Reg.XSPI_WPROG1_PAGES = min 65535 (s.f Reg.XSPI_WPROG1_PAGES + 1) ∧ u.on Reg.XSPI_STAT_IBUSY = s.on Reg.XSPI_STAT_IBUSY)))) ∧
  (∀ s : State, gives .pollTimeout s fun u =>
    (s.mem.xspi.poll = none ∨ (∀ x, s.mem.xspi.poll = some x → s.time.now < x.1 + 16 * (12288 * s.f Reg.XSPI_POLL_POLLTO)) → u = s.toBlock) ∧
    (∀ t next ind, s.mem.xspi.poll = some (t, next, ind) → t + 16 * (12288 * s.f Reg.XSPI_POLL_POLLTO) ≤ s.time.now → s.mem.xspi.chan < 16 →
      let c := s.mem.xspi.chan
      u.mem.xspi.poll = none ∧ u.on Reg.XSPI_EVT_PTO = true ∧ u.f Reg.XSPI_WPROG1_STATE = 5 ∧ u.mem.sram = s.mem.sram ∧
      (ind = true → u.on Reg.XSPI_STAT_IBUSY = false ∧ u.on Reg.XSPI_STAT_IERR = true ∧ u.on Reg.XSPI_EVT_IDONE = true) ∧
      (ind = false → s.dmaState c = dmaRun ∨ s.dmaState c = dmaReadback → u.dmaState c = dmaHalt ∧ u.f (Reg.DMA_CH_ERRINFO_CAUSE c) = causeXspi ∧
        u.f (Reg.DMA_CH_ERRINFO_DIR c) = 1) ∧
      s.only u ([Reg.XSPI_WPROG1_STATE, Reg.XSPI_STAT_BUSY, Reg.XSPI_STAT_MODE_NOW, Reg.XSPI_STAT_IBUSY, Reg.XSPI_STAT_IERR, Reg.XSPI_EVT_IDONE,
        Reg.XSPI_EVT_PTO, Reg.DMA_CH_STAT_STATE c, Reg.DMA_CH_ERRADDR_ADDR c, Reg.DMA_CH_ERRINFO_DIR c, Reg.DMA_CH_ERRINFO_CAUSE c, Reg.DMA_CH_CNT_ERR c,
        Reg.DMA_EVT_ERR_ERR.bit c] ++ faultFlds) [.mem, .ledger])) ∧
  (∀ s : State, s.coreOn = true → gives .indirectCommand s fun u =>
    (s.on Reg.XSPI_STAT_IBUSY = true → u = s.toBlock) ∧
    (s.on Reg.XSPI_STAT_IBUSY = false → u.on Reg.XSPI_STAT_IBUSY = true ∧ u.on Reg.XSPI_STAT_IERR = false ∧
      s.only u [Reg.XSPI_STAT_IBUSY, Reg.XSPI_STAT_IERR, Reg.XSPI_WPROG0_ADDR, Reg.XSPI_WPROG1_STATE, Reg.XSPI_WPROG1_KIND] [.mem] ∧
      let cmd := [s.word Reg.XSPI_ICMD, s.word Reg.XSPI_IADDR, s.word (Reg.XSPI_IDATA 0), s.word (Reg.XSPI_IDATA 1)]
      (s.xspiDma = true → u.mem = { s.mem with xspi := { s.mem.xspi with cmd := cmd, indirect := true } }) ∧
      (s.xspiDma = false → s.f Reg.XSPI_ICMD_ADDRB ≠ 0 → s.f Reg.XSPI_ICMD_ADDRB ≠ 3 → s.on Reg.XSPI_ICMD_DIR = false →
        u.mem = { s.mem with xspi := { s.mem.xspi with
          cmd := cmd, flow := none, sent := s.mem.xspi.sent ++ [(s.f Reg.XSPI_ICMD_OPC, (s.word Reg.XSPI_IADDR).toNat, [])] } } ∧
        u.f Reg.XSPI_WPROG1_STATE = 2 ∧ u.f Reg.XSPI_WPROG1_KIND = 1))) ∧
  (∀ (s : State) (data : List Byte), gives (.indirectDone data) s fun u =>
    let x := s.mem.xspi
    (s.on Reg.XSPI_STAT_IBUSY = false ∨ x.poll.isSome = true ∨ x.page.isSome = true ∨
      (x.icmd Reg.XSPI_ICMD_DIR = 0 ∧ data.length < min 8 (x.icmd Reg.XSPI_ICMD_NDATA)) → u = s.toBlock) ∧
    (s.on Reg.XSPI_STAT_IBUSY = true → x.poll = none → x.page = none → x.indirect = false → x.icmd Reg.XSPI_ICMD_DIR = 0 →
      8 ≤ x.icmd Reg.XSPI_ICMD_NDATA → data.length = 8 → x.icmd Reg.XSPI_ICMD_POLL = 0 →
      u.word (Reg.XSPI_IDATA 0) = beWord (data.take 4) ∧ u.word (Reg.XSPI_IDATA 1) = beWord (data.drop 4) ∧ u.f Reg.XSPI_WPROG1_STATE = 4 ∧
      u.on Reg.XSPI_STAT_IBUSY = false ∧ u.on Reg.XSPI_STAT_IERR = false ∧ u.on Reg.XSPI_EVT_IDONE = true ∧ u.mem.xspi.sent = s.mem.xspi.sent ∧
      s.only u [Fld.all (Reg.XSPI_IDATA 0), Fld.all (Reg.XSPI_IDATA 1), Reg.XSPI_WPROG1_STATE, Reg.XSPI_STAT_BUSY, Reg.XSPI_STAT_MODE_NOW,
        Reg.XSPI_STAT_IBUSY, Reg.XSPI_STAT_IERR, Reg.XSPI_EVT_IDONE] [.mem]))

/-- SAP_FRAME of an enabled port, of a synchronous controller FPH ticks after an instant: RUN is 1; an incomplete frame counts; on a synchronous
port the FS offset is measured, one beyond 4 ticks on a target counts, and the fourth in a row loses SYNCOK, which the sixteenth within the window
regains; a slot whose code no other slot has brings its sample, or its absence where the frame is incomplete, outside or not in sync, to the tap or
source it names for the instant two frames on. Where a channel uses the port, period and deviation are shown, the loop stays within one tick of the
edge, and the tracker acquires, locks after 1024 edges in a row within one tick, and unlocks beyond 4 ticks or 2000 ppm. Of any other port nothing
changes. FS_TIMEOUT four frame periods after the last frame stops the port and unlocks its tracker; before that, or with no frame since, nothing
changes (R267, R268, R271 to R274, R281, R285). -/
def Obligations.SerialFrames : Prop :=
  let frame := fun (s u : Block) (p : Nat) => s.within u (fun r => r ∈ [Reg.SAP_STAT p, Reg.SAP_EVT p, Reg.SAP_CNT p, Reg.SAP_PHASE p, Reg.SAP_SAT p,
    Reg.SRC_GLB_EVT, Reg.SRC_GLB_XRUN, Reg.SRC_TRK_PER p, Reg.SRC_TRK_STAT p] ∨ ∃ c, c < 16 ∧ (r = Reg.SRC_STAT c ∨ r = Reg.SRC_XCNT c)) [.sap]
  (∀ (s : State) (p : Nat) (f : SapFrameIn), p < 4 → gives (.sapFrame p f) s fun u =>
    let sync := s.on (Reg.SAP_CFG_SYNC p)
    let off := if s.on (Reg.SAP_CFG_ROLE p) then 0 else f.fsOffset
    let outside := sync = true ∧ 4 < off.natAbs
    let begun := sync = true → s.on (Reg.SAP_CFG_ROLE p) = true → s.time.tick % s.sapP p = s.f (Reg.SAP_PHASE_FPH p) % s.sapP p
    let due := (s.frameInstant p off + 2 * s.sapP p).toNat
    let fresh := fun (b : Block) (code : Nat) => Tab.get (fun _ => []) (b.sapSt p).fresh code
    (s.on (Reg.SAP_CFG_EN p) = false ∨ ¬begun → u = s.toBlock) ∧
    (s.on (Reg.SAP_CFG_EN p) = true → begun →
      frame s.toBlock u p ∧ u.on (Reg.SAP_STAT_RUN p) = true ∧ (u.sapSt p).last = some s.time.now ∧ (∀ q, q ≠ p → u.sapSt q = s.sapSt q) ∧
      u.f (Reg.SAP_CNT_PART p) = (if f.complete then s.f (Reg.SAP_CNT_PART p) else min 65535 (s.f (Reg.SAP_CNT_PART p) + 1)) ∧
      (f.complete = false → u.on (Reg.SAP_EVT_PART p) = true) ∧
      (sync = true → -128 ≤ off → off ≤ 127 → u.fInt (Reg.SAP_PHASE_MEAS p) = off) ∧
      (outside → u.on (Reg.SAP_EVT_FSERR p) = true ∧ u.f (Reg.SAP_CNT_FSERR p) = min 65535 (s.f (Reg.SAP_CNT_FSERR p) + 1) ∧
        (u.sapSt p).bad = (s.sapSt p).bad + 1 ∧ (u.sapSt p).good = 0 ∧
        ((s.sapSt p).bad = 3 → u.on (Reg.SAP_STAT_SYNCOK p) = false ∧ u.on (Reg.SAP_EVT_LOST p) = true)) ∧
      (sync = true → ¬outside → 4 ≤ (s.sapSt p).bad →
        ((s.sapSt p).good < 15 → (u.sapSt p).good = (s.sapSt p).good + 1 ∧ u.on (Reg.SAP_STAT_SYNCOK p) = s.on (Reg.SAP_STAT_SYNCOK p)) ∧
        (15 ≤ (s.sapSt p).good → u.on (Reg.SAP_STAT_SYNCOK p) = true ∧ u.on (Reg.SAP_EVT_REGAIN p) = true ∧ (u.sapSt p).bad = 0 ∧ (u.sapSt p).good = 0)) ∧
      (sync = true → ¬outside → (s.sapSt p).bad < 4 → u.on (Reg.SAP_STAT_SYNCOK p) = true ∧ (u.sapSt p).bad = 0) ∧
      (∀ i, i ≤ s.f (Reg.SAP_CFG_SLOTS p) →
        let code := s.f (Reg.SAP_RXMAP_CODE p i)
        (0x20 ≤ code ∧ code < 0x40) ∨ (0x60 ≤ code ∧ code < 0x74) → (∀ j, j ≤ s.f (Reg.SAP_CFG_SLOTS p) → j ≠ i → s.f (Reg.SAP_RXMAP_CODE p j) ≠ code) →
        fresh u code = (fresh s.toBlock code).filter (fun z => z.1 ≠ due) ++ [(due, if f.complete = true ∧ ¬outside ∧ (u.sapSt p).bad < 4 then
          some (slotIn (s.f (Reg.SAP_CFG_WIDTH p)) (s.on (Reg.SAP_CFG_TAGIN p)) (f.slots.getD i 0)) else none)]) ∧
      (s.srcOf p ≠ [] →
        let far := f.ppm < -2000 ∨ 2000 < f.ppm
        let seen := (s.sapSt p).edge + (s.sapSt p).per + f.phaseErr
        (s.f (Reg.SRC_TRK_STAT_STATE p) ≠ 0 → (s.sapSt p).per ≠ 0 → seen - 16 ≤ (u.sapSt p).edge ∧ (u.sapSt p).edge ≤ seen + 16) ∧
        u.f (Reg.SRC_TRK_PER_PER p) = f.period % 2 ^ 32 ∧ (u.on (Reg.SRC_TRK_STAT_RANGE p) = true ↔ far) ∧
        (s.f (Reg.SRC_TRK_STAT_STATE p) = 0 → u.f (Reg.SRC_TRK_STAT_STATE p) = 1 ∧ (u.sapSt p).close = 0) ∧
        (s.f (Reg.SRC_TRK_STAT_STATE p) = 1 → f.phaseErr.natAbs ≤ 16 → 1023 ≤ (s.sapSt p).close →
          u.f (Reg.SRC_TRK_STAT_STATE p) = 2 ∧ u.on (Reg.SRC_GLB_EVT_LOCK.bit p) = true) ∧
        (s.f (Reg.SRC_TRK_STAT_STATE p) = 1 → 16 < f.phaseErr.natAbs → u.f (Reg.SRC_TRK_STAT_STATE p) = 1 ∧ (u.sapSt p).close = 0) ∧
        (s.f (Reg.SRC_TRK_STAT_STATE p) = 2 → 64 < f.phaseErr.natAbs ∨ far →
          u.f (Reg.SRC_TRK_STAT_STATE p) = 1 ∧ u.on (Reg.SRC_GLB_EVT_UNLOCK.bit p) = true) ∧
        (s.f (Reg.SRC_TRK_STAT_STATE p) = 2 → f.phaseErr.natAbs ≤ 64 → ¬far → u.f (Reg.SRC_TRK_STAT_STATE p) = 2)))) ∧
  (∀ (s : State) (p : Nat), p < 4 → gives (.fsTimeout p) s fun u =>
    ((s.sapSt p).last = none ∨ (∀ t, (s.sapSt p).last = some t → (s.time.now : Rat) < t + 4 * s.sapPeriod p) → u = s.toBlock) ∧
    (∀ t, (s.sapSt p).last = some t → (t : Rat) + 4 * s.sapPeriod p ≤ s.time.now →
      frame s.toBlock u p ∧ u.on (Reg.SAP_STAT_RUN p) = false ∧ u.on (Reg.SAP_STAT_SYNCOK p) = false ∧ (u.sapSt p).last = none ∧ (u.sapSt p).close = 0 ∧
      (s.f (Reg.SRC_TRK_STAT_STATE p) = 2 → u.f (Reg.SRC_TRK_STAT_STATE p) = 1 ∧ u.on (Reg.SRC_GLB_EVT_UNLOCK.bit p) = true) ∧
      (s.f (Reg.SRC_TRK_STAT_STATE p) ≠ 2 → u.f (Reg.SRC_TRK_STAT_STATE p) = s.f (Reg.SRC_TRK_STAT_STATE p))))

/-- IMAGE_STREAM, in every mode in which the port has power, with no reset requested and no wake by a transaction: without the core clock NOCORE is
set, with an address bit 31 or 30 set RSV, and nothing else changes. To this device, with no other load, graft, boot read or LOAD in the way: at
offset 0, with fewer words than a header, a load begins, the shadow is no longer valid, ACCEPTED counts the bytes and each word stands in the
shadow half; at an offset that is not the next one OFSERR alone is set. An IMG packet to this device at offset 0 begins a load in the same way and
is answered WACK with status 0. XSPI_BOOT_READ of a boot read under way stores its word in the same way; with none nothing changes. XSPI_BOOT_RETRY
at its time in LOAD begins the boot read again; else nothing changes (R490, R491, R493, R494, R501, R511). -/
def Obligations.ImageStreams : Prop :=
  (∀ (s : State) (addr : Word) (ws : List Word), s.base ≠ modeOff → s.base ≠ modeDormant → s.host.rstReq = false →
    (s.base = modeRest → s.on (Reg.PWR_WAKE_EN_EN.bit 4) = false) →
    let h : HostSt := { s.host with status := s.statusByte, prevErr := false, sdo := [] }
    gives (.imageStream addr ws) s fun u =>
      (s.coreOn = false → u.on Reg.SYS_EVT_NOCORE = true ∧ u.host = { h with prevErr := true } ∧ s.only u [Reg.SYS_EVT_NOCORE] [.host]) ∧
      (s.coreOn = true → addr.toNat / 2 ^ 30 ≠ 0 →
        u.on Reg.SYS_EVT_RSV = true ∧ u.host = { h with prevErr := true } ∧ s.only u [Reg.SYS_EVT_RSV] [.host]) ∧
      (s.coreOn = true → addr.toNat / 2 ^ 30 = 0 → targetOf addr = 0 ∨ targetOf addr = s.addr → s.f Reg.IMG_GRAFT_STAT_PHASE = 0 → s.loadActs = false →
        s.f Reg.IMG_SRC_BOOT ≠ 1 ∨ s.base ≠ modeLoad ∨ s.img.active.isSome = true → (∀ l, s.img.load = some l → l.src = .spi) →
        (bitsOf addr 0 24 = 0 → ws.length < 16 →
          u.f Reg.IMG_PROG0_ACCEPTED = 4 * ws.length ∧ u.f Reg.IMG_PROG1_STATE = 1 ∧ u.on Reg.IMG_STAT_LOADING = true ∧ u.on Reg.IMG_STAT_SVALID = false ∧
          u.img.load = some { src := .spi } ∧ u.img.shadow = none ∧ u.img.proving = none ∧ u.img.active = s.img.active ∧ u.host = h ∧
          (∀ i w, ws[i]? = some w → u.mem.shadow.readWord (4 * i) = w) ∧ (∀ x, 4 * ws.length ≤ x → u.mem.shadow.read x = s.mem.shadow.read x) ∧
          u.mem = { s.mem with shadow := u.mem.shadow } ∧
          s.only u [Fld.all Reg.IMG_PROG0, Fld.all Reg.IMG_PROG1, Reg.IMG_STAT_LOADING, Reg.IMG_STAT_SVALID] [.host, .mem, .img]) ∧
        (bitsOf addr 0 24 ≠ 0 → bitsOf addr 0 24 ≠ s.f Reg.IMG_PROG0_ACCEPTED →
          u.on Reg.IMG_EVT_OFSERR = true ∧ u.host = h ∧ s.only u [Reg.IMG_EVT_OFSERR] [.host]))) ∧
  (∀ (s : State) (p : Nat) (k : Packet), p < 4 → k.type = 0x40 → k.dst = s.addr → s.addr ≠ 0 → k.dst ≠ 63 → k.epoch = s.epoch →
    s.storedAnswer k = none → s.otp.lc ≠ lcScrap → s.f Reg.IMG_GRAFT_STAT_PHASE = 0 → s.loadActs = false →
    s.f Reg.IMG_SRC_BOOT ≠ 1 ∨ s.base ≠ modeLoad ∨ s.img.active.isSome = true → (∀ l, s.img.load = some l → l.src = .trellis k.src) →
    k.payload.take 4 = [0, 0, 0, 0] → k.payload.length % 4 = 0 → 8 ≤ k.payload.length → k.payload.length < 68 → gives (.img p k) s fun u =>
      u.f Reg.IMG_PROG0_ACCEPTED = k.payload.length - 4 ∧ u.f Reg.IMG_PROG1_STATE = 1 ∧ u.on Reg.IMG_STAT_LOADING = true ∧
      u.on Reg.IMG_STAT_SVALID = false ∧ u.img.load = some { src := .trellis k.src } ∧ u.img.shadow = none ∧ u.img.active = s.img.active ∧
      (∀ i w, (wordsOf (k.payload.drop 4))[i]? = some w → u.mem.shadow.readWord (4 * i) = w) ∧
      (∀ q, s.routePort k.src = some q → k.src ≠ 63 →
        u.net.txq = s.net.txq ++ [⟨q, packetClass 0x11, ⟨0x11, k.src, s.addr, k.epoch, k.seq, 0, []⟩⟩]) ∧
      s.only u [Fld.all Reg.IMG_PROG0, Fld.all Reg.IMG_PROG1, Reg.IMG_STAT_LOADING, Reg.IMG_STAT_SVALID] [.net, .mem, .img]) ∧
  (∀ (s : State) (bytes : List Byte), bytes.length % 4 = 0 → gives (.xspiBootRead bytes) s fun u =>
    (s.img.load = none ∨ (∀ l, s.img.load = some l → l.src ≠ .xspi) → u = s.toBlock) ∧
    (∀ l, s.img.load = some l → l.src = .xspi → l.next = 0 → l.payload = false → l.sigAt = none → s.f Reg.IMG_PROG0_ACCEPTED + 4 < 64 → bytes.length = 4 →
      u.f Reg.IMG_PROG0_ACCEPTED = s.f Reg.IMG_PROG0_ACCEPTED + 4 ∧ u.mem.shadow.readWord (s.f Reg.IMG_PROG0_ACCEPTED) = beWord bytes ∧
      (∀ x, x < s.f Reg.IMG_PROG0_ACCEPTED ∨ s.f Reg.IMG_PROG0_ACCEPTED + 4 ≤ x → u.mem.shadow.read x = s.mem.shadow.read x) ∧
      u.mem = { s.mem with shadow := u.mem.shadow } ∧ s.only u [Reg.IMG_PROG0_ACCEPTED] [.mem])) ∧
  (∀ s : State, gives .xspiBootRetry s fun u =>
    (s.img.retryAt = none ∨ s.base ≠ modeLoad ∨ s.img.load.isSome = true ∨ (∀ t, s.img.retryAt = some t → s.time.now < t) → u = s.toBlock) ∧
    (∀ t, s.img.retryAt = some t → t ≤ s.time.now → s.base = modeLoad → s.img.load = none →
      u.img.load = some { src := .xspi } ∧ u.img.retryAt = none ∧ u.f Reg.IMG_PROG0_ACCEPTED = 0 ∧ u.f Reg.IMG_PROG1_STATE = 1 ∧
      u.on Reg.IMG_STAT_LOADING = true ∧ u.on Reg.IMG_STAT_SVALID = false ∧ u.mem.xspi.sent = s.mem.xspi.sent ++ [(3, 0, [])] ∧
      u.on Reg.XSPI_STAT_BUSY = true ∧ u.f Reg.XSPI_STAT_MODE_NOW = 1 ∧
      s.only u [Fld.all Reg.IMG_PROG0, Fld.all Reg.IMG_PROG1, Reg.IMG_STAT_LOADING, Reg.IMG_STAT_SVALID, Reg.XSPI_STAT_BUSY, Reg.XSPI_STAT_MODE_NOW]
        [.img, .mem]))

/-- SIGNATURE_VERIFIED while a signature is checked: where it verifies the shadow is valid and LOADED is set, and with no active image the
admission of the first load waits for its clock plan; where it does not the load fails with code 0x0F. ADMISSION of one that waits begins once the
clock plan runs. ADMISSION_END, where admission has a verdict: a failed one reports its code and detail, a passed first load exchanges the halves
and enters READY or PLAY with ACTIVE, and a passed graft sets ADMITOK and freezes requests. LOAD, with the core clock running: refused with 0x43
while a load, graft or admission runs, with 0x44 without a valid shadow; else its admission waits. DISCARD, with the core clock running, in no
graft and no LOAD, drops load and shadow. At any other time the five change nothing (R24, R254, R488, R495 to R497, R502). -/
def Obligations.ImageAdmission : Prop :=
  (∀ s : State, gives .signatureVerified s fun u =>
    (s.img.load = none ∨ (∀ l, s.img.load = some l → l.sigAt = none) → u = s.toBlock) ∧
    (∀ l, s.img.load = some l → l.sigAt.isSome = true →
      let n := s.tlen
      let good := Config.ecdsa (s.shadowBytes 0 (n - 128)) (s.shadowBytes (n - 128) 64) (s.shadowBytes (n - 64) 64)
      u.img.load = none ∧ u.on Reg.IMG_STAT_LOADING = false ∧
      (good = true → u.on Reg.IMG_STAT_SVALID = true ∧ u.on Reg.IMG_EVT_LOADED = true ∧ u.img.shadow = some l.dec ∧
        (s.img.active.isSome = true → u.f Reg.IMG_PROG1_STATE = 5) ∧
        (s.img.active = none → u.f Reg.IMG_PROG1_STATE = 5 ∧ u.img.admitWait = some .first)) ∧
      (good = false → u.f Reg.IMG_PROG1_STATE = 6 ∧ u.f Reg.IMG_ERR_CODE = 0x0F ∧ u.f Reg.IMG_ERR_SECT = l.sections % 16 ∧
        u.on Reg.IMG_EVT_ERR = true ∧ u.img.shadow = none))) ∧
  (∀ s : State, gives .admission s fun u =>
    (s.img.admitWait = none ∨ s.img.shadow = none ∨ s.planReady s.regs = false ∨ (s.img.admitWait = some .first ∧ s.base ≠ modeLoad) → u = s.toBlock) ∧
    (∀ k d, s.img.admitWait = some k → s.img.shadow = some d → s.planReady s.regs = true → s.base = modeLoad ∨ k ≠ .first →
      u.f Reg.IMG_PROG1_STATE = 4 ∧ u.img = { s.img with
        proving := some (k, s.time.now), admitWait := none,
        early := if k = .graft then s.img.early else s.graftChecks (s.candidate false d) false d } ∧
      s.within u (fun r => r = Reg.IMG_PROG1 ∨ r = Reg.TRL_RA_PROG ∨ ∃ p, p < 4 ∧ r = Reg.TRL_RT_PSTAT p) [.img, .net])) ∧
  (∀ s : State, gives .admissionEnd s fun u =>
    (s.img.proving = none ∨ s.img.shadow = none ∨ (∃ t, s.img.proving = some (.first, t) ∧ s.base ≠ modeLoad) → u = s.toBlock) ∧
    (∀ k t d, s.img.proving = some (k, t) → s.img.shadow = some d → k ≠ .first ∨ s.base = modeLoad →
      (s.verdict k t d = none → u = s.toBlock) ∧
      (∀ code detail, s.verdict k t d = some (some (code, detail)) →
        u.img.proving = none ∧ u.f Reg.IMG_PROG1_STATE = 5 ∧ u.f Reg.IMG_ERR_CODE = code % 256 ∧ u.f Reg.IMG_ERRDET_DETAIL = detail % 2 ^ 32 ∧
        u.on Reg.IMG_EVT_ERR = true ∧ u.img.active = s.img.active ∧ u.mem = s.mem ∧ (k = .graft → u.f Reg.IMG_GRAFT_STAT_PHASE = 0) ∧
        s.only u ([Reg.IMG_PROG1_STATE, Reg.IMG_ERR_CODE, Reg.IMG_ERR_SECT, Reg.IMG_ERRDET_DETAIL, Reg.IMG_EVT_ERR, Reg.IMG_EVT_GRAFTEND,
          Reg.IMG_GRAFT_STAT_PHASE, Reg.GRF_SCARF_STAT_FREEZE] ++ faultFlds) [.img, .net, .ledger]) ∧
      (s.verdict k t d = some none →
        (k = .first → u.img.active = some d ∧ u.img.shadow = none ∧ u.img.proving = none ∧ u.mem.active = s.mem.shadow ∧
          (u.base = modeReady ∨ u.base = modePlay) ∧ u.on Reg.IMG_EVT_ACTIVE = true ∧ u.on Reg.IMG_STAT_SVALID = false) ∧
        (k = .graft → u.on Reg.IMG_EVT_ADMITOK = true ∧ u.f Reg.IMG_GRAFT_STAT_PHASE = 2 ∧ u.on Reg.GRF_SCARF_STAT_FREEZE = true ∧
          u.img.proving = none ∧ u.img.active = s.img.active ∧ u.img.shadow = some d ∧
          s.only u [Reg.IMG_PROG1_STATE, Reg.IMG_EVT_ADMITOK, Reg.IMG_GRAFT_STAT_PHASE, Reg.GRF_SCARF_STAT_FREEZE] [.img])))) ∧
  (∀ s : State, s.coreOn = true → gives .load s fun u =>
    let busy := s.imgBusy = true ∨ s.img.proving.isSome = true ∨ s.img.admitWait.isSome = true
    let refused := fun (code : Nat) => u.f Reg.IMG_ERR_CODE = code ∧ u.on Reg.IMG_EVT_ERR = true ∧
      s.only u [Reg.IMG_ERR_CODE, Reg.IMG_ERR_SECT, Reg.IMG_ERRDET_DETAIL, Reg.IMG_EVT_ERR, Reg.PWR_EVT_REQBUSY, Reg.PWR_EVT_REQERR] []
    (busy → refused 0x43) ∧ (¬busy → s.img.shadow = none → refused 0x44) ∧ (¬busy → s.img.shadow.isSome = true → s.loadMoves ≠ 0 → refused 0x43) ∧
    (¬busy → s.img.shadow.isSome = true → s.loadMoves = 0 → s.base ≠ modeLoad ∨ s.img.active.isSome = true →
      u.f Reg.IMG_PROG1_STATE = 4 ∧ u.img = { s.img with admitWait := some .load } ∧ s.only u [Reg.IMG_PROG1_STATE] [.img]) ∧
    (¬busy → s.img.shadow.isSome = true → s.base = modeLoad → s.img.active = none → s.loadMoves = 0 →
      u.f Reg.IMG_PROG1_STATE = 5 ∧ u.img.admitWait = some .first)) ∧
  (∀ s : State, s.coreOn = true → gives .discard s fun u =>
    (s.f Reg.IMG_GRAFT_STAT_PHASE ≠ 0 ∨ s.loadActs = true → u = s.toBlock) ∧
    (s.f Reg.IMG_GRAFT_STAT_PHASE = 0 → s.loadActs = false →
      u.img = { s.img with load := none, shadow := none, shadowTable := none, proving := none, admitWait := none } ∧
      u.on Reg.IMG_STAT_SVALID = false ∧ u.on Reg.IMG_STAT_LOADING = false ∧ u.f Reg.IMG_PROG1_STATE = 0 ∧ u.mem.shadow = s.mem.shadow ∧
      s.only u [Reg.IMG_STAT_SVALID, Reg.IMG_STAT_LOADING, Reg.IMG_PROG1_STATE, Reg.XSPI_STAT_BUSY, Reg.XSPI_STAT_MODE_NOW] [.img, .mem]))
end

