-- ==== Sys2Proof/Laws/Bits.lean ====
section
/-! SUPPORT. Laws of the bit fields of a word. -/

namespace Sys2Proof.Machine

theorem setBits_toNat (w : Word) (lo k v : Nat) (h : lo + k ≤ 32) :
    (setBits w lo k v).toNat = 2 ^ lo * (2 ^ k * (w.toNat / 2 ^ (lo + k)) + v % 2 ^ k) + w.toNat % 2 ^ lo := by
  have e : w.toNat % 2 ^ lo + (v % 2 ^ k) * 2 ^ lo + w.toNat / 2 ^ (lo + k) * 2 ^ (lo + k) =
      2 ^ lo * (2 ^ k * (w.toNat / 2 ^ (lo + k)) + v % 2 ^ k) + w.toNat % 2 ^ lo := by
    rw [Nat.pow_add]; ring
  rw [setBits, e, BitVec.toNat_ofNat, Nat.mod_eq_of_lt]
  have h1 : w.toNat % 2 ^ lo < 2 ^ lo := Nat.mod_lt _ (by positivity)
  have h2 : v % 2 ^ k < 2 ^ k := Nat.mod_lt _ (by positivity)
  have h3 : w.toNat / 2 ^ (lo + k) < 2 ^ (32 - (lo + k)) := by
    apply Nat.div_lt_of_lt_mul
    rw [← Nat.pow_add, show lo + k + (32 - (lo + k)) = 32 by omega]
    exact w.isLt
  have h4 : 2 ^ k * (w.toNat / 2 ^ (lo + k)) + v % 2 ^ k < 2 ^ (32 - lo) := by
    have e2 : 2 ^ (32 - lo) = 2 ^ k * 2 ^ (32 - (lo + k)) := by rw [← Nat.pow_add]; congr 1; omega
    rw [e2]
    calc 2 ^ k * (w.toNat / 2 ^ (lo + k)) + v % 2 ^ k < 2 ^ k * (w.toNat / 2 ^ (lo + k)) + 2 ^ k := by omega
      _ = 2 ^ k * (w.toNat / 2 ^ (lo + k) + 1) := by ring
      _ ≤ 2 ^ k * 2 ^ (32 - (lo + k)) := Nat.mul_le_mul_left _ h3
  calc _ < 2 ^ lo * (2 ^ k * (w.toNat / 2 ^ (lo + k)) + v % 2 ^ k) + 2 ^ lo := by omega
    _ = 2 ^ lo * (2 ^ k * (w.toNat / 2 ^ (lo + k)) + v % 2 ^ k + 1) := by ring
    _ ≤ 2 ^ lo * 2 ^ (32 - lo) := Nat.mul_le_mul_left _ h4
    _ = 2 ^ 32 := by rw [← Nat.pow_add]; congr 1; omega

/-- Bit by bit: a field store replaces the field's bits and no other. -/
theorem setBits_testBit (w : Word) (lo k v i : Nat) (h : lo + k ≤ 32) :
    (setBits w lo k v).toNat.testBit i = if lo ≤ i ∧ i < lo + k then v.testBit (i - lo) else w.toNat.testBit i := by
  have h1 : w.toNat % 2 ^ lo < 2 ^ lo := Nat.mod_lt _ (by positivity)
  have h2 : v % 2 ^ k < 2 ^ k := Nat.mod_lt _ (by positivity)
  rw [setBits_toNat w lo k v h, Nat.testBit_two_pow_mul_add _ h1]
  split
  · next hi => rw [if_neg (by omega), Nat.testBit_mod_two_pow]; simp [hi]
  · next hi =>
    rw [Nat.testBit_two_pow_mul_add _ h2]
    split
    · next hk => rw [if_pos (by omega), Nat.testBit_mod_two_pow]; simp [hk]
    · next hk => rw [if_neg (by omega), Nat.testBit_div_two_pow]; congr 1; omega

theorem bitsOf_testBit (w : Word) (lo k i : Nat) : (bitsOf w lo k).testBit i = (decide (i < k) && w.toNat.testBit (lo + i)) := by
  rw [bitsOf, Nat.testBit_mod_two_pow, Nat.testBit_div_two_pow, Nat.add_comm]

theorem bitsOf_lt (w : Word) (lo k : Nat) : bitsOf w lo k < 2 ^ k := Nat.mod_lt _ (by positivity)

/-- A field reads as stored. -/
theorem bitsOf_setBits_self (w : Word) (lo k v : Nat) (h : lo + k ≤ 32) : bitsOf (setBits w lo k v) lo k = v % 2 ^ k := by
  apply Nat.eq_of_testBit_eq
  intro i
  rw [bitsOf_testBit, setBits_testBit _ _ _ _ _ h, Nat.testBit_mod_two_pow]
  by_cases hi : i < k
  · simp [hi]
  · simp [hi]

/-- A store leaves a field that shares no bit with it. -/
theorem bitsOf_setBits_other (w : Word) (lo k v lo' k' : Nat) (h : lo + k ≤ 32) (hd : lo' + k' ≤ lo ∨ lo + k ≤ lo') :
    bitsOf (setBits w lo k v) lo' k' = bitsOf w lo' k' := by
  apply Nat.eq_of_testBit_eq
  intro i
  rw [bitsOf_testBit, bitsOf_testBit, setBits_testBit _ _ _ _ _ h]
  by_cases hi : i < k'
  · rw [if_neg (by omega)]
  · simp [hi]

end Sys2Proof.Machine
end

