-- ==== Sys2Proof/Laws/Elem.lean ====
section
/-! SUPPORT. Laws of the elementary functions: their exact values at the ends of the ranges in which the formulas of the manual use them
(R210, R211, R214, R218, R224, R227). -/

namespace Sys2Proof.Machine

/-- The exponential of 0 is 1. -/
@[simp] theorem expQ_zero : expQ 0 = 1 := by decide +kernel

/-- The logarithm of 1 is 0. -/
@[simp] theorem lnQ_one : lnQ 1 = 0 := by decide +kernel

/-- Full scale is 0 dB (R210). -/
@[simp] theorem dbQ_one : dbQ 1 = 0 := by simp [dbQ]

/-- 0 dB is a factor of 1 (R211, R218). -/
@[simp] theorem pow10Q_zero : pow10Q 0 = 1 := by decide +kernel

/-- A whole power of ten is exact. -/
theorem pow10Q_int (n : Int) : pow10Q n = tenPow n := by simp [pow10Q]

/-- The roots of 0 and 1 are exact. -/
@[simp] theorem sqrtQ_zero : sqrtQ 0 = 0 := by decide +kernel

@[simp] theorem sqrtQ_one : sqrtQ 1 = 1 := by decide +kernel

/-- The sine at 0 and at a quarter turn, with which PAN at its ends gives exactly 1 and 0 (R214). -/
@[simp] theorem sinPi_zero : sinPi 0 = 0 := by decide +kernel

@[simp] theorem sinPi_half : sinPi (1 / 2) = 1 := by decide +kernel

/-- The cosine at 0 and at a quarter turn (R214). -/
@[simp] theorem cosPi_zero : cosPi 0 = 1 := by decide +kernel

@[simp] theorem cosPi_half : cosPi (1 / 2) = 0 := by decide +kernel

/-- The tangent at 0 (R227). -/
@[simp] theorem tanPi_zero : tanPi 0 = 0 := by decide +kernel

end Sys2Proof.Machine
end

