-- ==== Sys2Proof/Laws/Tab.lean ====
section
/-! SUPPORT. Laws of the sparse tables: a read after a write, the canonical form and its preservation. -/

namespace Sys2Proof.Machine

variable {α : Type}

theorem Tab.get_insert_self (d : Nat → α) (k : Nat) (v : α) (t : Tab α) (h : ∀ p ∈ t, p.1 ≠ k) : Tab.get d (Tab.insert k v t) k = v := by
  induction t with
  | nil => simp [Tab.insert, Tab.get]
  | cons p t ih =>
    have hp : p.1 ≠ k := h p (by simp)
    simp only [Tab.insert]
    split
    · simp [Tab.get]
    · simp [Tab.get, hp, ih (fun q hq => h q (by simp [hq]))]

theorem Tab.get_insert_other (d : Nat → α) {j k : Nat} (v : α) (t : Tab α) (h : j ≠ k) : Tab.get d (Tab.insert k v t) j = Tab.get d t j := by
  induction t with
  | nil => simp [Tab.insert, Tab.get, h.symm]
  | cons p t ih =>
    simp only [Tab.insert]
    split
    · simp [Tab.get, h.symm]
    · simp [Tab.get, ih]

theorem Tab.get_erase_self (d : Nat → α) (t : Tab α) (k : Nat) : Tab.get d (t.erase k) k = d k := by
  induction t with
  | nil => simp [Tab.erase, Tab.get]
  | cons p t ih =>
    by_cases hp : p.1 = k
    · simpa [Tab.erase, hp] using ih
    · have hb : (p.1 != k) = true := by simpa using hp
      simp only [Tab.erase, List.filter_cons, hb, if_true] at ih ⊢
      simpa [Tab.get, hp] using ih

theorem Tab.get_erase_other (d : Nat → α) (t : Tab α) {j k : Nat} (h : j ≠ k) : Tab.get d (t.erase k) j = Tab.get d t j := by
  induction t with
  | nil => simp [Tab.erase, Tab.get]
  | cons p t ih =>
    by_cases hp : p.1 = k
    · have hj : p.1 ≠ j := by omega
      simpa [Tab.erase, hp, Tab.get, h.symm] using ih
    · have hb : (p.1 != k) = true := by simpa using hp
      simp only [Tab.erase, List.filter_cons, hb, if_true] at ih ⊢
      simp [Tab.get, ih]

theorem Tab.erase_ne (t : Tab α) (k : Nat) : ∀ p ∈ t.erase k, p.1 ≠ k := by
  intro p hp
  simpa [Tab.erase] using (List.mem_filter.1 hp).2

variable [DecidableEq α]

/-- A read after a write to the same key. -/
@[simp] theorem Tab.get_set_self (d : Nat → α) (t : Tab α) (k : Nat) (v : α) : Tab.get d (Tab.set d t k v) k = v := by
  unfold Tab.set
  split
  · next h => rw [Tab.get_erase_self, h]
  · exact Tab.get_insert_self d k v _ (t.erase_ne k)

/-- A write leaves every other key alone. -/
theorem Tab.get_set_other (d : Nat → α) (t : Tab α) {j k : Nat} (v : α) (h : j ≠ k) : Tab.get d (Tab.set d t k v) j = Tab.get d t j := by
  unfold Tab.set
  split
  · exact Tab.get_erase_other d t h
  · rw [Tab.get_insert_other d v _ h, Tab.get_erase_other d t h]

/-- A read after a write. -/
theorem Tab.get_set (d : Nat → α) (t : Tab α) (j k : Nat) (v : α) : Tab.get d (Tab.set d t k v) j = if j = k then v else Tab.get d t j := by
  split
  · next h => rw [h, Tab.get_set_self]
  · next h => exact Tab.get_set_other d t v h

omit [DecidableEq α] in
@[simp] theorem Tab.get_nil (d : Nat → α) (k : Nat) : Tab.get d ([] : Tab α) k = d k := rfl

/-! ## The canonical form -/

omit [DecidableEq α] in
theorem Tab.rising_iff (t : Tab α) : t.rising = true ↔ t.Pairwise (fun p q => p.1 < q.1) := by
  induction t with
  | nil => simp [Tab.rising]
  | cons p t ih =>
    cases t with
    | nil => simp [Tab.rising]
    | cons q t =>
      rw [Tab.rising, Bool.and_eq_true, ih, decide_eq_true_iff, List.pairwise_cons (l := q :: t)]
      constructor
      · rintro ⟨h, hp⟩
        refine ⟨fun r hr => ?_, hp⟩
        rcases List.mem_cons.1 hr with rfl | hr
        · exact h
        · exact h.trans (List.rel_of_pairwise_cons hp hr)
      · rintro ⟨h, hp⟩
        exact ⟨h q (by simp), hp⟩

omit [DecidableEq α] in
theorem Tab.mem_insert {k : Nat} {v : α} {t : Tab α} {p : Nat × α} (h : p ∈ Tab.insert k v t) : p = (k, v) ∨ p ∈ t := by
  induction t with
  | nil => simpa [Tab.insert] using h
  | cons q t ih =>
    simp only [Tab.insert] at h
    split at h
    · simpa using h
    · rcases List.mem_cons.1 h with rfl | h
      · simp
      · rcases ih h with h | h <;> simp [h]

omit [DecidableEq α] in
theorem Tab.insert_pairwise {k : Nat} {v : α} {t : Tab α} (ht : t.Pairwise (fun p q => p.1 < q.1)) (hk : ∀ p ∈ t, p.1 ≠ k) :
    (Tab.insert k v t).Pairwise (fun p q => p.1 < q.1) := by
  induction t with
  | nil => simp [Tab.insert]
  | cons q t ih =>
    rw [List.pairwise_cons] at ht
    simp only [Tab.insert]
    split
    · next hlt =>
      refine List.pairwise_cons.2 ⟨fun p hp => ?_, List.pairwise_cons.2 ht⟩
      rcases List.mem_cons.1 hp with rfl | hp
      · exact hlt
      · exact lt_trans hlt (ht.1 p hp)
    · next hlt =>
      refine List.pairwise_cons.2 ⟨fun p hp => ?_, ih ht.2 (fun p hp => hk p (by simp [hp]))⟩
      have hq : q.1 ≠ k := hk q (by simp)
      rcases Tab.mem_insert hp with rfl | hp
      · simp only; omega
      · exact ht.1 p hp

theorem Tab.wf_iff (d : Nat → α) (t : Tab α) : t.wf d = true ↔ t.Pairwise (fun p q => p.1 < q.1) ∧ ∀ p ∈ t, p.2 ≠ d p.1 := by
  simp [Tab.wf, Tab.rising_iff]

@[simp] theorem Tab.wf_nil (d : Nat → α) : Tab.wf d ([] : Tab α) = true := rfl

/-- Dropping entries keeps the canonical form. -/
theorem Tab.filter_wf {d : Nat → α} {t : Tab α} (h : t.wf d = true) (p : Nat × α → Bool) : Tab.wf d (t.filter p) = true := by
  rw [Tab.wf_iff] at h ⊢
  exact ⟨h.1.filter p, fun q hq => h.2 q (List.mem_of_mem_filter hq)⟩

/-- A write keeps the canonical form. -/
theorem Tab.set_wf {d : Nat → α} {t : Tab α} (h : t.wf d = true) (k : Nat) (v : α) : Tab.wf d (Tab.set d t k v) = true := by
  unfold Tab.set
  have he : Tab.wf d (t.erase k) = true := Tab.filter_wf h _
  split
  · exact he
  · next hv =>
    rw [Tab.wf_iff] at he ⊢
    refine ⟨Tab.insert_pairwise he.1 (t.erase_ne k), fun p hp => ?_⟩
    rcases Tab.mem_insert hp with rfl | hp
    · exact hv
    · exact he.2 p hp

/-- Rewriting every entry keeps the canonical form. -/
theorem Tab.mapAll_wf {d : Nat → α} {t : Tab α} (h : t.wf d = true) (f : Nat → α → α) : Tab.wf d (Tab.mapAll d t f) = true := by
  rw [Tab.wf_iff] at h ⊢
  unfold Tab.mapAll
  constructor
  · refine List.Pairwise.filterMap _ ?_ h.1
    intro a b hab x hx y hy
    simp only [Option.ite_none_left_eq_some, Option.some.injEq] at hx hy
    rw [← hx.2, ← hy.2]
    exact hab
  · intro p hp
    obtain ⟨q, -, hq⟩ := List.mem_filterMap.1 hp
    simp only [Option.ite_none_left_eq_some, Option.some.injEq] at hq
    rw [← hq.2]
    exact hq.1

omit [DecidableEq α] in
theorem Tab.get_of_lt (d : Nat → α) {k : Nat} {t : Tab α} (h : ∀ p ∈ t, k < p.1) : Tab.get d t k = d k := by
  induction t with
  | nil => rfl
  | cons p t ih =>
    have hp : p.1 ≠ k := by have := h p (by simp); omega
    simp [Tab.get, hp, ih (fun q hq => h q (by simp [hq]))]

/-- What a key reads as after every listed entry has been rewritten by a function that leaves the unlisted value alone. -/
theorem Tab.get_mapAll {d : Nat → α} {t : Tab α} (h : t.wf d = true) (f : Nat → α → α) (hf : ∀ k, f k (d k) = d k) (k : Nat) :
    Tab.get d (Tab.mapAll d t f) k = f k (Tab.get d t k) := by
  rw [Tab.wf_iff] at h
  obtain ⟨hp, -⟩ := h
  induction t with
  | nil => simp [Tab.mapAll, Tab.get, hf]
  | cons p t ih =>
    rw [List.pairwise_cons] at hp
    have ih := ih hp.2
    by_cases hk : p.1 = k
    · subst hk
      have ht : Tab.get d (Tab.mapAll d t f) p.1 = d p.1 := by
        rw [ih, Tab.get_of_lt d hp.1, hf]
      by_cases hd : f p.1 p.2 = d p.1
      · simp only [Tab.mapAll, List.filterMap_cons, hd, if_true, Tab.get] at ht ⊢
        exact ht
      · simp [Tab.mapAll, hd, Tab.get]
    · by_cases hd : f p.1 p.2 = d p.1
      · simp only [Tab.mapAll, List.filterMap_cons, hd, if_true, Tab.get, hk, if_false] at ih ⊢
        exact ih
      · simp only [Tab.mapAll, List.filterMap_cons, hd, if_false, Tab.get, hk] at ih ⊢
        exact ih

/-! ## Byte memory -/

@[simp] theorem Memory.read_write_self (m : Memory) (a : Nat) (b : Byte) : (m.write a b).read a = b := Tab.get_set_self _ m a b

theorem Memory.read_write_other (m : Memory) {x a : Nat} (b : Byte) (h : x ≠ a) : (m.write a b).read x = m.read x :=
  Tab.get_set_other _ m b h

theorem Memory.write_wf {m : Memory} (h : m.wf = true) (a : Nat) (b : Byte) : (m.write a b).wf = true := Tab.set_wf h a b

theorem Memory.writeList_wf {m : Memory} (h : m.wf = true) (a : Nat) (bs : List Byte) : (m.writeList a bs).wf = true := by
  induction bs generalizing m a with
  | nil => exact h
  | cons b bs ih => exact ih (Memory.write_wf h a b) (a + 1)

theorem Memory.writeWord_wf {m : Memory} (h : m.wf = true) (a : Nat) (w : Word) : (m.writeWord a w).wf = true :=
  Memory.writeList_wf h a _

/-- Bytes outside those written read as before. -/
theorem Memory.read_writeList_other (m : Memory) {x a : Nat} (bs : List Byte) (h : x < a ∨ a + bs.length ≤ x) :
    (m.writeList a bs).read x = m.read x := by
  induction bs generalizing m a with
  | nil => rfl
  | cons b bs ih =>
    simp only [List.length_cons] at h
    rw [Memory.writeList, ih _ (by omega), Memory.read_write_other m b (by omega)]

/-- Bytes within those written read as written. -/
theorem Memory.read_writeList_self (m : Memory) (a : Nat) (bs : List Byte) (i : Nat) (h : i < bs.length) :
    (m.writeList a bs).read (a + i) = bs[i] := by
  induction bs generalizing m a i with
  | nil => simp at h
  | cons b bs ih =>
    cases i with
    | zero => simp [Memory.writeList, Memory.read_writeList_other]
    | succ i =>
      have := ih (m.write a b) (a + 1) i (by simpa using h)
      simpa [Memory.writeList, Nat.add_assoc, Nat.add_comm 1 i] using this

/-- The bytes of a written word. -/
theorem Memory.read_writeWord_other (m : Memory) {x a : Nat} (w : Word) (h : x < a ∨ a + 4 ≤ x) :
    (m.writeWord a w).read x = m.read x := by
  apply Memory.read_writeList_other
  simpa [beBytes] using h

theorem beNat_beBytes_four (n : Nat) : beNat (beBytes 4 n) = n % 2 ^ 32 := by
  simp only [beBytes, beNat, List.range, List.range.loop, List.map, List.foldl, BitVec.toNat_ofNat]
  omega

/-- A word reads back as written. -/
@[simp] theorem Memory.readWord_writeWord_self (m : Memory) (a : Nat) (w : Word) : (m.writeWord a w).readWord a = w := by
  have h : (m.writeWord a w).readList a 4 = beBytes 4 w.toNat := by
    apply List.ext_getElem
    · simp [Memory.readList, beBytes]
    · intro i h1 h2
      simp only [Memory.readList, List.getElem_map, List.getElem_range]
      exact Memory.read_writeList_self m a _ i h2
  rw [Memory.readWord, h, beWord, beNat_beBytes_four]
  apply BitVec.eq_of_toNat_eq
  have := w.isLt
  rw [BitVec.toNat_ofNat, Nat.mod_mod, Nat.mod_eq_of_lt this]

end Sys2Proof.Machine
end

