-- ==== Sys2Proof/Laws/State.lean ====
section
/-! SUPPORT. Laws of State: what each update of a register leaves alone, and what a field reads as after a store. -/

namespace Sys2Proof.Machine

/-! ## Register updates -/

@[simp] theorem Block.setW_time (s : Block) (a : Nat) (w : Word) : (s.setW a w).time = s.time := rfl
@[simp] theorem Block.setW_freeK (s : Block) (a : Nat) (w : Word) : (s.setW a w).freeK = s.freeK := rfl
@[simp] theorem Block.setW_host (s : Block) (a : Nat) (w : Word) : (s.setW a w).host = s.host := rfl
@[simp] theorem Block.setW_ledger (s : Block) (a : Nat) (w : Word) : (s.setW a w).ledger = s.ledger := rfl
@[simp] theorem Block.setW_core (s : Block) (a : Nat) (w : Word) : (s.setW a w).core = s.core := rfl
@[simp] theorem Block.setW_cells (s : Block) (a : Nat) (w : Word) : (s.setW a w).cells = s.cells := rfl
@[simp] theorem Block.setW_ports (s : Block) (a : Nat) (w : Word) : (s.setW a w).ports = s.ports := rfl
@[simp] theorem Block.setW_chains (s : Block) (a : Nat) (w : Word) : (s.setW a w).chains = s.chains := rfl
@[simp] theorem Block.setW_dir (s : Block) (a : Nat) (w : Word) : (s.setW a w).dir = s.dir := rfl
@[simp] theorem Block.setW_graph (s : Block) (a : Nat) (w : Word) : (s.setW a w).graph = s.graph := rfl
@[simp] theorem Block.setW_sap (s : Block) (a : Nat) (w : Word) : (s.setW a w).sap = s.sap := rfl
@[simp] theorem Block.setW_spk (s : Block) (a : Nat) (w : Word) : (s.setW a w).spk = s.spk := rfl
@[simp] theorem Block.setW_csc (s : Block) (a : Nat) (w : Word) : (s.setW a w).csc = s.csc := rfl
@[simp] theorem Block.setW_clk (s : Block) (a : Nat) (w : Word) : (s.setW a w).clk = s.clk := rfl
@[simp] theorem Block.setW_net (s : Block) (a : Nat) (w : Word) : (s.setW a w).net = s.net := rfl
@[simp] theorem Block.setW_mem (s : Block) (a : Nat) (w : Word) : (s.setW a w).mem = s.mem := rfl
@[simp] theorem Block.setW_img (s : Block) (a : Nat) (w : Word) : (s.setW a w).img = s.img := rfl
@[simp] theorem Block.setW_pwr (s : Block) (a : Nat) (w : Word) : (s.setW a w).pwr = s.pwr := rfl
@[simp] theorem Block.setW_lsn (s : Block) (a : Nat) (w : Word) : (s.setW a w).lsn = s.lsn := rfl
@[simp] theorem Block.setW_bst (s : Block) (a : Nat) (w : Word) : (s.setW a w).bst = s.bst := rfl
@[simp] theorem Block.setW_otp (s : Block) (a : Nat) (w : Word) : (s.setW a w).otp = s.otp := rfl
@[simp] theorem Block.put_time (s : Block) (x : Fld) (v : Nat) : (s.put x v).time = s.time := rfl
@[simp] theorem Block.put_freeK (s : Block) (x : Fld) (v : Nat) : (s.put x v).freeK = s.freeK := rfl
@[simp] theorem Block.put_host (s : Block) (x : Fld) (v : Nat) : (s.put x v).host = s.host := rfl
@[simp] theorem Block.put_ledger (s : Block) (x : Fld) (v : Nat) : (s.put x v).ledger = s.ledger := rfl
@[simp] theorem Block.put_core (s : Block) (x : Fld) (v : Nat) : (s.put x v).core = s.core := rfl
@[simp] theorem Block.put_cells (s : Block) (x : Fld) (v : Nat) : (s.put x v).cells = s.cells := rfl
@[simp] theorem Block.put_ports (s : Block) (x : Fld) (v : Nat) : (s.put x v).ports = s.ports := rfl
@[simp] theorem Block.put_chains (s : Block) (x : Fld) (v : Nat) : (s.put x v).chains = s.chains := rfl
@[simp] theorem Block.put_dir (s : Block) (x : Fld) (v : Nat) : (s.put x v).dir = s.dir := rfl
@[simp] theorem Block.put_graph (s : Block) (x : Fld) (v : Nat) : (s.put x v).graph = s.graph := rfl
@[simp] theorem Block.put_sap (s : Block) (x : Fld) (v : Nat) : (s.put x v).sap = s.sap := rfl
@[simp] theorem Block.put_spk (s : Block) (x : Fld) (v : Nat) : (s.put x v).spk = s.spk := rfl
@[simp] theorem Block.put_csc (s : Block) (x : Fld) (v : Nat) : (s.put x v).csc = s.csc := rfl
@[simp] theorem Block.put_clk (s : Block) (x : Fld) (v : Nat) : (s.put x v).clk = s.clk := rfl
@[simp] theorem Block.put_net (s : Block) (x : Fld) (v : Nat) : (s.put x v).net = s.net := rfl
@[simp] theorem Block.put_mem (s : Block) (x : Fld) (v : Nat) : (s.put x v).mem = s.mem := rfl
@[simp] theorem Block.put_img (s : Block) (x : Fld) (v : Nat) : (s.put x v).img = s.img := rfl
@[simp] theorem Block.put_pwr (s : Block) (x : Fld) (v : Nat) : (s.put x v).pwr = s.pwr := rfl
@[simp] theorem Block.put_lsn (s : Block) (x : Fld) (v : Nat) : (s.put x v).lsn = s.lsn := rfl
@[simp] theorem Block.put_bst (s : Block) (x : Fld) (v : Nat) : (s.put x v).bst = s.bst := rfl
@[simp] theorem Block.put_otp (s : Block) (x : Fld) (v : Nat) : (s.put x v).otp = s.otp := rfl
@[simp] theorem Block.putInt_time (s : Block) (x : Fld) (v : Int) : (s.putInt x v).time = s.time := rfl
@[simp] theorem Block.putInt_freeK (s : Block) (x : Fld) (v : Int) : (s.putInt x v).freeK = s.freeK := rfl
@[simp] theorem Block.putInt_host (s : Block) (x : Fld) (v : Int) : (s.putInt x v).host = s.host := rfl
@[simp] theorem Block.putInt_ledger (s : Block) (x : Fld) (v : Int) : (s.putInt x v).ledger = s.ledger := rfl
@[simp] theorem Block.putInt_core (s : Block) (x : Fld) (v : Int) : (s.putInt x v).core = s.core := rfl
@[simp] theorem Block.putInt_cells (s : Block) (x : Fld) (v : Int) : (s.putInt x v).cells = s.cells := rfl
@[simp] theorem Block.putInt_ports (s : Block) (x : Fld) (v : Int) : (s.putInt x v).ports = s.ports := rfl
@[simp] theorem Block.putInt_chains (s : Block) (x : Fld) (v : Int) : (s.putInt x v).chains = s.chains := rfl
@[simp] theorem Block.putInt_dir (s : Block) (x : Fld) (v : Int) : (s.putInt x v).dir = s.dir := rfl
@[simp] theorem Block.putInt_graph (s : Block) (x : Fld) (v : Int) : (s.putInt x v).graph = s.graph := rfl
@[simp] theorem Block.putInt_sap (s : Block) (x : Fld) (v : Int) : (s.putInt x v).sap = s.sap := rfl
@[simp] theorem Block.putInt_spk (s : Block) (x : Fld) (v : Int) : (s.putInt x v).spk = s.spk := rfl
@[simp] theorem Block.putInt_csc (s : Block) (x : Fld) (v : Int) : (s.putInt x v).csc = s.csc := rfl
@[simp] theorem Block.putInt_clk (s : Block) (x : Fld) (v : Int) : (s.putInt x v).clk = s.clk := rfl
@[simp] theorem Block.putInt_net (s : Block) (x : Fld) (v : Int) : (s.putInt x v).net = s.net := rfl
@[simp] theorem Block.putInt_mem (s : Block) (x : Fld) (v : Int) : (s.putInt x v).mem = s.mem := rfl
@[simp] theorem Block.putInt_img (s : Block) (x : Fld) (v : Int) : (s.putInt x v).img = s.img := rfl
@[simp] theorem Block.putInt_pwr (s : Block) (x : Fld) (v : Int) : (s.putInt x v).pwr = s.pwr := rfl
@[simp] theorem Block.putInt_lsn (s : Block) (x : Fld) (v : Int) : (s.putInt x v).lsn = s.lsn := rfl
@[simp] theorem Block.putInt_bst (s : Block) (x : Fld) (v : Int) : (s.putInt x v).bst = s.bst := rfl
@[simp] theorem Block.putInt_otp (s : Block) (x : Fld) (v : Int) : (s.putInt x v).otp = s.otp := rfl
@[simp] theorem Block.putB_time (s : Block) (x : Fld) (v : Bool) : (s.putB x v).time = s.time := rfl
@[simp] theorem Block.putB_freeK (s : Block) (x : Fld) (v : Bool) : (s.putB x v).freeK = s.freeK := rfl
@[simp] theorem Block.putB_host (s : Block) (x : Fld) (v : Bool) : (s.putB x v).host = s.host := rfl
@[simp] theorem Block.putB_ledger (s : Block) (x : Fld) (v : Bool) : (s.putB x v).ledger = s.ledger := rfl
@[simp] theorem Block.putB_core (s : Block) (x : Fld) (v : Bool) : (s.putB x v).core = s.core := rfl
@[simp] theorem Block.putB_cells (s : Block) (x : Fld) (v : Bool) : (s.putB x v).cells = s.cells := rfl
@[simp] theorem Block.putB_ports (s : Block) (x : Fld) (v : Bool) : (s.putB x v).ports = s.ports := rfl
@[simp] theorem Block.putB_chains (s : Block) (x : Fld) (v : Bool) : (s.putB x v).chains = s.chains := rfl
@[simp] theorem Block.putB_dir (s : Block) (x : Fld) (v : Bool) : (s.putB x v).dir = s.dir := rfl
@[simp] theorem Block.putB_graph (s : Block) (x : Fld) (v : Bool) : (s.putB x v).graph = s.graph := rfl
@[simp] theorem Block.putB_sap (s : Block) (x : Fld) (v : Bool) : (s.putB x v).sap = s.sap := rfl
@[simp] theorem Block.putB_spk (s : Block) (x : Fld) (v : Bool) : (s.putB x v).spk = s.spk := rfl
@[simp] theorem Block.putB_csc (s : Block) (x : Fld) (v : Bool) : (s.putB x v).csc = s.csc := rfl
@[simp] theorem Block.putB_clk (s : Block) (x : Fld) (v : Bool) : (s.putB x v).clk = s.clk := rfl
@[simp] theorem Block.putB_net (s : Block) (x : Fld) (v : Bool) : (s.putB x v).net = s.net := rfl
@[simp] theorem Block.putB_mem (s : Block) (x : Fld) (v : Bool) : (s.putB x v).mem = s.mem := rfl
@[simp] theorem Block.putB_img (s : Block) (x : Fld) (v : Bool) : (s.putB x v).img = s.img := rfl
@[simp] theorem Block.putB_pwr (s : Block) (x : Fld) (v : Bool) : (s.putB x v).pwr = s.pwr := rfl
@[simp] theorem Block.putB_lsn (s : Block) (x : Fld) (v : Bool) : (s.putB x v).lsn = s.lsn := rfl
@[simp] theorem Block.putB_bst (s : Block) (x : Fld) (v : Bool) : (s.putB x v).bst = s.bst := rfl
@[simp] theorem Block.putB_otp (s : Block) (x : Fld) (v : Bool) : (s.putB x v).otp = s.otp := rfl
@[simp] theorem Block.raise_time (s : Block) (x : Fld) : (s.raise x).time = s.time := rfl
@[simp] theorem Block.raise_freeK (s : Block) (x : Fld) : (s.raise x).freeK = s.freeK := rfl
@[simp] theorem Block.raise_host (s : Block) (x : Fld) : (s.raise x).host = s.host := rfl
@[simp] theorem Block.raise_ledger (s : Block) (x : Fld) : (s.raise x).ledger = s.ledger := rfl
@[simp] theorem Block.raise_core (s : Block) (x : Fld) : (s.raise x).core = s.core := rfl
@[simp] theorem Block.raise_cells (s : Block) (x : Fld) : (s.raise x).cells = s.cells := rfl
@[simp] theorem Block.raise_ports (s : Block) (x : Fld) : (s.raise x).ports = s.ports := rfl
@[simp] theorem Block.raise_chains (s : Block) (x : Fld) : (s.raise x).chains = s.chains := rfl
@[simp] theorem Block.raise_dir (s : Block) (x : Fld) : (s.raise x).dir = s.dir := rfl
@[simp] theorem Block.raise_graph (s : Block) (x : Fld) : (s.raise x).graph = s.graph := rfl
@[simp] theorem Block.raise_sap (s : Block) (x : Fld) : (s.raise x).sap = s.sap := rfl
@[simp] theorem Block.raise_spk (s : Block) (x : Fld) : (s.raise x).spk = s.spk := rfl
@[simp] theorem Block.raise_csc (s : Block) (x : Fld) : (s.raise x).csc = s.csc := rfl
@[simp] theorem Block.raise_clk (s : Block) (x : Fld) : (s.raise x).clk = s.clk := rfl
@[simp] theorem Block.raise_net (s : Block) (x : Fld) : (s.raise x).net = s.net := rfl
@[simp] theorem Block.raise_mem (s : Block) (x : Fld) : (s.raise x).mem = s.mem := rfl
@[simp] theorem Block.raise_img (s : Block) (x : Fld) : (s.raise x).img = s.img := rfl
@[simp] theorem Block.raise_pwr (s : Block) (x : Fld) : (s.raise x).pwr = s.pwr := rfl
@[simp] theorem Block.raise_lsn (s : Block) (x : Fld) : (s.raise x).lsn = s.lsn := rfl
@[simp] theorem Block.raise_bst (s : Block) (x : Fld) : (s.raise x).bst = s.bst := rfl
@[simp] theorem Block.raise_otp (s : Block) (x : Fld) : (s.raise x).otp = s.otp := rfl
@[simp] theorem Block.bumpWrap_time (s : Block) (x : Fld) : (s.bumpWrap x).time = s.time := rfl
@[simp] theorem Block.bumpWrap_freeK (s : Block) (x : Fld) : (s.bumpWrap x).freeK = s.freeK := rfl
@[simp] theorem Block.bumpWrap_host (s : Block) (x : Fld) : (s.bumpWrap x).host = s.host := rfl
@[simp] theorem Block.bumpWrap_ledger (s : Block) (x : Fld) : (s.bumpWrap x).ledger = s.ledger := rfl
@[simp] theorem Block.bumpWrap_core (s : Block) (x : Fld) : (s.bumpWrap x).core = s.core := rfl
@[simp] theorem Block.bumpWrap_cells (s : Block) (x : Fld) : (s.bumpWrap x).cells = s.cells := rfl
@[simp] theorem Block.bumpWrap_ports (s : Block) (x : Fld) : (s.bumpWrap x).ports = s.ports := rfl
@[simp] theorem Block.bumpWrap_chains (s : Block) (x : Fld) : (s.bumpWrap x).chains = s.chains := rfl
@[simp] theorem Block.bumpWrap_dir (s : Block) (x : Fld) : (s.bumpWrap x).dir = s.dir := rfl
@[simp] theorem Block.bumpWrap_graph (s : Block) (x : Fld) : (s.bumpWrap x).graph = s.graph := rfl
@[simp] theorem Block.bumpWrap_sap (s : Block) (x : Fld) : (s.bumpWrap x).sap = s.sap := rfl
@[simp] theorem Block.bumpWrap_spk (s : Block) (x : Fld) : (s.bumpWrap x).spk = s.spk := rfl
@[simp] theorem Block.bumpWrap_csc (s : Block) (x : Fld) : (s.bumpWrap x).csc = s.csc := rfl
@[simp] theorem Block.bumpWrap_clk (s : Block) (x : Fld) : (s.bumpWrap x).clk = s.clk := rfl
@[simp] theorem Block.bumpWrap_net (s : Block) (x : Fld) : (s.bumpWrap x).net = s.net := rfl
@[simp] theorem Block.bumpWrap_mem (s : Block) (x : Fld) : (s.bumpWrap x).mem = s.mem := rfl
@[simp] theorem Block.bumpWrap_img (s : Block) (x : Fld) : (s.bumpWrap x).img = s.img := rfl
@[simp] theorem Block.bumpWrap_pwr (s : Block) (x : Fld) : (s.bumpWrap x).pwr = s.pwr := rfl
@[simp] theorem Block.bumpWrap_lsn (s : Block) (x : Fld) : (s.bumpWrap x).lsn = s.lsn := rfl
@[simp] theorem Block.bumpWrap_bst (s : Block) (x : Fld) : (s.bumpWrap x).bst = s.bst := rfl
@[simp] theorem Block.bumpWrap_otp (s : Block) (x : Fld) : (s.bumpWrap x).otp = s.otp := rfl
@[simp] theorem Block.bump_time (s : Block) (x : Fld) : (s.bump x).time = s.time := by unfold Block.bump; split <;> rfl
@[simp] theorem Block.bump_freeK (s : Block) (x : Fld) : (s.bump x).freeK = s.freeK := by unfold Block.bump; split <;> rfl
@[simp] theorem Block.bump_host (s : Block) (x : Fld) : (s.bump x).host = s.host := by unfold Block.bump; split <;> rfl
@[simp] theorem Block.bump_ledger (s : Block) (x : Fld) : (s.bump x).ledger = s.ledger := by unfold Block.bump; split <;> rfl
@[simp] theorem Block.bump_core (s : Block) (x : Fld) : (s.bump x).core = s.core := by unfold Block.bump; split <;> rfl
@[simp] theorem Block.bump_cells (s : Block) (x : Fld) : (s.bump x).cells = s.cells := by unfold Block.bump; split <;> rfl
@[simp] theorem Block.bump_ports (s : Block) (x : Fld) : (s.bump x).ports = s.ports := by unfold Block.bump; split <;> rfl
@[simp] theorem Block.bump_chains (s : Block) (x : Fld) : (s.bump x).chains = s.chains := by unfold Block.bump; split <;> rfl
@[simp] theorem Block.bump_dir (s : Block) (x : Fld) : (s.bump x).dir = s.dir := by unfold Block.bump; split <;> rfl
@[simp] theorem Block.bump_graph (s : Block) (x : Fld) : (s.bump x).graph = s.graph := by unfold Block.bump; split <;> rfl
@[simp] theorem Block.bump_sap (s : Block) (x : Fld) : (s.bump x).sap = s.sap := by unfold Block.bump; split <;> rfl
@[simp] theorem Block.bump_spk (s : Block) (x : Fld) : (s.bump x).spk = s.spk := by unfold Block.bump; split <;> rfl
@[simp] theorem Block.bump_csc (s : Block) (x : Fld) : (s.bump x).csc = s.csc := by unfold Block.bump; split <;> rfl
@[simp] theorem Block.bump_clk (s : Block) (x : Fld) : (s.bump x).clk = s.clk := by unfold Block.bump; split <;> rfl
@[simp] theorem Block.bump_net (s : Block) (x : Fld) : (s.bump x).net = s.net := by unfold Block.bump; split <;> rfl
@[simp] theorem Block.bump_mem (s : Block) (x : Fld) : (s.bump x).mem = s.mem := by unfold Block.bump; split <;> rfl
@[simp] theorem Block.bump_img (s : Block) (x : Fld) : (s.bump x).img = s.img := by unfold Block.bump; split <;> rfl
@[simp] theorem Block.bump_pwr (s : Block) (x : Fld) : (s.bump x).pwr = s.pwr := by unfold Block.bump; split <;> rfl
@[simp] theorem Block.bump_lsn (s : Block) (x : Fld) : (s.bump x).lsn = s.lsn := by unfold Block.bump; split <;> rfl
@[simp] theorem Block.bump_bst (s : Block) (x : Fld) : (s.bump x).bst = s.bst := by unfold Block.bump; split <;> rfl
@[simp] theorem Block.bump_otp (s : Block) (x : Fld) : (s.bump x).otp = s.otp := by unfold Block.bump; split <;> rfl

/-! ## Reading a field after a store -/

theorem Block.word_setW (s : Block) (a b : Nat) (w : Word) : (s.setW a w).word b = if b = a then w else s.word b := by
  simp [Block.word, Block.setW, Tab.get_set]

@[simp] theorem Block.word_setW_self (s : Block) (a : Nat) (w : Word) : (s.setW a w).word a = w := by simp [Block.word_setW]

theorem Block.word_setW_other (s : Block) {a b : Nat} (w : Word) (h : b ≠ a) : (s.setW a w).word b = s.word b := by
  simp [Block.word_setW, h]

theorem Block.word_put (s : Block) (x : Fld) (v b : Nat) :
    (s.put x v).word b = if b = x.addr then setBits (s.word x.addr) x.lo x.width v else s.word b := Block.word_setW ..

/-- A store to another register leaves a register alone. -/
theorem Block.word_put_other (s : Block) (x : Fld) (v : Nat) {b : Nat} (h : b ≠ x.addr) : (s.put x v).word b = s.word b :=
  Block.word_setW_other s _ h

/-- A field reads as stored. -/
theorem Block.f_put_self (s : Block) (x : Fld) (v : Nat) (h : x.lo + x.width ≤ 32) : (s.put x v).f x = v % 2 ^ x.width := by
  simp [Block.f, Block.word_put, bitsOf_setBits_self _ _ _ _ h]

/-- A store to another register leaves a field alone. -/
theorem Block.f_put_addr (s : Block) (x y : Fld) (v : Nat) (h : y.addr ≠ x.addr) : (s.put x v).f y = s.f y := by
  simp [Block.f, Block.word_put, h]

/-- A store to a field leaves a field that shares no bit with it alone. -/
theorem Block.f_put_other (s : Block) (x y : Fld) (v : Nat) (h : x.lo + x.width ≤ 32) (hd : y.lo + y.width ≤ x.lo ∨ x.lo + x.width ≤ y.lo) :
    (s.put x v).f y = s.f y := by
  by_cases ha : y.addr = x.addr
  · simp [Block.f, Block.word_put, ha, bitsOf_setBits_other _ _ _ _ _ _ h hd]
  · exact Block.f_put_addr s x y v ha

theorem Block.putB_eq (s : Block) (x : Fld) (b : Bool) : s.putB x b = s.put x (if b then 1 else 0) := rfl

theorem Block.raise_eq (s : Block) (x : Fld) : s.raise x = s.put x 1 := rfl

/-- A set bit reads 1. -/
theorem Block.on_raise_self (s : Block) (x : Fld) (h : x.lo + x.width ≤ 32) (hw : 0 < x.width) : (s.raise x).on x = true := by
  have : 1 % 2 ^ x.width = 1 := Nat.mod_eq_of_lt (Nat.one_lt_two_pow (by omega))
  simp [Block.on, Block.raise, Block.f_put_self _ _ _ h, this]

@[simp] theorem Block.onlyIf_true (s : Block) (g : Block → Block) : s.onlyIf true g = g s := rfl

@[simp] theorem Block.onlyIf_false (s : Block) (g : Block → Block) : s.onlyIf false g = s := rfl

@[simp] theorem Block.forAll_nil {α : Type} (s : Block) (g : α → Block → Block) : s.forAll [] g = s := rfl

@[simp] theorem Block.forAll_cons {α : Type} (s : Block) (a : α) (l : List α) (g : α → Block → Block) :
    s.forAll (a :: l) g = (g a s).forAll l g := rfl

/-- What every step of a loop keeps, the loop keeps. -/
theorem Block.forAll_keeps {α β : Type} (π : Block → β) (l : List α) (g : α → Block → Block) (h : ∀ a s, π (g a s) = π s) (s : Block) :
    π (s.forAll l g) = π s := by
  induction l generalizing s with
  | nil => rfl
  | cons a l ih => rw [Block.forAll_cons, ih, h]

/-- The register file keeps its canonical form under a store. -/
theorem Block.setW_wf (s : Block) (a : Nat) (w : Word) (h : Tab.wf resetWord s.regs = true) : Tab.wf resetWord (s.setW a w).regs = true :=
  Tab.set_wf h a w

theorem Block.put_wf (s : Block) (x : Fld) (v : Nat) (h : Tab.wf resetWord s.regs = true) : Tab.wf resetWord (s.put x v).regs = true :=
  Tab.set_wf h _ _

theorem Block.resetRegs_wf (s : Block) (k : ResetKind) (sel : Nat → Bool) (h : Tab.wf resetWord s.regs = true) :
    Tab.wf resetWord (s.resetRegs k sel).regs = true :=
  Tab.mapAll_wf (d := resetWord) (t := s.regs) h (fun a w => if sel a then resetKeep k a w else w)

end Sys2Proof.Machine
end

