-- ==== Sys2Proof/Laws/Parts.lean ====
section
/-! SUPPORT. Laws of the updates of one component of State: each leaves every other component, and every register, alone. -/

namespace Sys2Proof.Machine

/-! ## `modGraph` changes `graph` alone -/

@[simp] theorem Block.modGraph_regs (s : Block) (h : Graph → Graph) : (s.modGraph h).regs = s.regs := rfl
@[simp] theorem Block.modGraph_time (s : Block) (h : Graph → Graph) : (s.modGraph h).time = s.time := rfl
@[simp] theorem Block.modGraph_freeK (s : Block) (h : Graph → Graph) : (s.modGraph h).freeK = s.freeK := rfl
@[simp] theorem Block.modGraph_host (s : Block) (h : Graph → Graph) : (s.modGraph h).host = s.host := rfl
@[simp] theorem Block.modGraph_ledger (s : Block) (h : Graph → Graph) : (s.modGraph h).ledger = s.ledger := rfl
@[simp] theorem Block.modGraph_core (s : Block) (h : Graph → Graph) : (s.modGraph h).core = s.core := rfl
@[simp] theorem Block.modGraph_cells (s : Block) (h : Graph → Graph) : (s.modGraph h).cells = s.cells := rfl
@[simp] theorem Block.modGraph_ports (s : Block) (h : Graph → Graph) : (s.modGraph h).ports = s.ports := rfl
@[simp] theorem Block.modGraph_chains (s : Block) (h : Graph → Graph) : (s.modGraph h).chains = s.chains := rfl
@[simp] theorem Block.modGraph_dir (s : Block) (h : Graph → Graph) : (s.modGraph h).dir = s.dir := rfl
@[simp] theorem Block.modGraph_sap (s : Block) (h : Graph → Graph) : (s.modGraph h).sap = s.sap := rfl
@[simp] theorem Block.modGraph_spk (s : Block) (h : Graph → Graph) : (s.modGraph h).spk = s.spk := rfl
@[simp] theorem Block.modGraph_csc (s : Block) (h : Graph → Graph) : (s.modGraph h).csc = s.csc := rfl
@[simp] theorem Block.modGraph_clk (s : Block) (h : Graph → Graph) : (s.modGraph h).clk = s.clk := rfl
@[simp] theorem Block.modGraph_net (s : Block) (h : Graph → Graph) : (s.modGraph h).net = s.net := rfl
@[simp] theorem Block.modGraph_mem (s : Block) (h : Graph → Graph) : (s.modGraph h).mem = s.mem := rfl
@[simp] theorem Block.modGraph_img (s : Block) (h : Graph → Graph) : (s.modGraph h).img = s.img := rfl
@[simp] theorem Block.modGraph_pwr (s : Block) (h : Graph → Graph) : (s.modGraph h).pwr = s.pwr := rfl
@[simp] theorem Block.modGraph_lsn (s : Block) (h : Graph → Graph) : (s.modGraph h).lsn = s.lsn := rfl
@[simp] theorem Block.modGraph_bst (s : Block) (h : Graph → Graph) : (s.modGraph h).bst = s.bst := rfl
@[simp] theorem Block.modGraph_otp (s : Block) (h : Graph → Graph) : (s.modGraph h).otp = s.otp := rfl
@[simp] theorem Block.modGraph_word (s : Block) (h : Graph → Graph) (b : Nat) : (s.modGraph h).word b = s.word b := rfl
@[simp] theorem Block.modGraph_f (s : Block) (h : Graph → Graph) (x : Fld) : (s.modGraph h).f x = s.f x := rfl
@[simp] theorem Block.modGraph_on (s : Block) (h : Graph → Graph) (x : Fld) : (s.modGraph h).on x = s.on x := rfl

/-! ## `modBlk` changes `graph` alone -/

@[simp] theorem Block.modBlk_regs (s : Block) (b : Nat) (h : BlkSt → BlkSt) : (s.modBlk b h).regs = s.regs := rfl
@[simp] theorem Block.modBlk_time (s : Block) (b : Nat) (h : BlkSt → BlkSt) : (s.modBlk b h).time = s.time := rfl
@[simp] theorem Block.modBlk_freeK (s : Block) (b : Nat) (h : BlkSt → BlkSt) : (s.modBlk b h).freeK = s.freeK := rfl
@[simp] theorem Block.modBlk_host (s : Block) (b : Nat) (h : BlkSt → BlkSt) : (s.modBlk b h).host = s.host := rfl
@[simp] theorem Block.modBlk_ledger (s : Block) (b : Nat) (h : BlkSt → BlkSt) : (s.modBlk b h).ledger = s.ledger := rfl
@[simp] theorem Block.modBlk_core (s : Block) (b : Nat) (h : BlkSt → BlkSt) : (s.modBlk b h).core = s.core := rfl
@[simp] theorem Block.modBlk_cells (s : Block) (b : Nat) (h : BlkSt → BlkSt) : (s.modBlk b h).cells = s.cells := rfl
@[simp] theorem Block.modBlk_ports (s : Block) (b : Nat) (h : BlkSt → BlkSt) : (s.modBlk b h).ports = s.ports := rfl
@[simp] theorem Block.modBlk_chains (s : Block) (b : Nat) (h : BlkSt → BlkSt) : (s.modBlk b h).chains = s.chains := rfl
@[simp] theorem Block.modBlk_dir (s : Block) (b : Nat) (h : BlkSt → BlkSt) : (s.modBlk b h).dir = s.dir := rfl
@[simp] theorem Block.modBlk_sap (s : Block) (b : Nat) (h : BlkSt → BlkSt) : (s.modBlk b h).sap = s.sap := rfl
@[simp] theorem Block.modBlk_spk (s : Block) (b : Nat) (h : BlkSt → BlkSt) : (s.modBlk b h).spk = s.spk := rfl
@[simp] theorem Block.modBlk_csc (s : Block) (b : Nat) (h : BlkSt → BlkSt) : (s.modBlk b h).csc = s.csc := rfl
@[simp] theorem Block.modBlk_clk (s : Block) (b : Nat) (h : BlkSt → BlkSt) : (s.modBlk b h).clk = s.clk := rfl
@[simp] theorem Block.modBlk_net (s : Block) (b : Nat) (h : BlkSt → BlkSt) : (s.modBlk b h).net = s.net := rfl
@[simp] theorem Block.modBlk_mem (s : Block) (b : Nat) (h : BlkSt → BlkSt) : (s.modBlk b h).mem = s.mem := rfl
@[simp] theorem Block.modBlk_img (s : Block) (b : Nat) (h : BlkSt → BlkSt) : (s.modBlk b h).img = s.img := rfl
@[simp] theorem Block.modBlk_pwr (s : Block) (b : Nat) (h : BlkSt → BlkSt) : (s.modBlk b h).pwr = s.pwr := rfl
@[simp] theorem Block.modBlk_lsn (s : Block) (b : Nat) (h : BlkSt → BlkSt) : (s.modBlk b h).lsn = s.lsn := rfl
@[simp] theorem Block.modBlk_bst (s : Block) (b : Nat) (h : BlkSt → BlkSt) : (s.modBlk b h).bst = s.bst := rfl
@[simp] theorem Block.modBlk_otp (s : Block) (b : Nat) (h : BlkSt → BlkSt) : (s.modBlk b h).otp = s.otp := rfl
@[simp] theorem Block.modBlk_word (s : Block) (b : Nat) (h : BlkSt → BlkSt) (a : Nat) : (s.modBlk b h).word a = s.word a := rfl
@[simp] theorem Block.modBlk_f (s : Block) (b : Nat) (h : BlkSt → BlkSt) (x : Fld) : (s.modBlk b h).f x = s.f x := rfl
@[simp] theorem Block.modBlk_on (s : Block) (b : Nat) (h : BlkSt → BlkSt) (x : Fld) : (s.modBlk b h).on x = s.on x := rfl

/-! ## `modBst` changes `bst` alone -/

@[simp] theorem Block.modBst_regs (s : Block) (h : Bst → Bst) : (s.modBst h).regs = s.regs := rfl
@[simp] theorem Block.modBst_time (s : Block) (h : Bst → Bst) : (s.modBst h).time = s.time := rfl
@[simp] theorem Block.modBst_freeK (s : Block) (h : Bst → Bst) : (s.modBst h).freeK = s.freeK := rfl
@[simp] theorem Block.modBst_host (s : Block) (h : Bst → Bst) : (s.modBst h).host = s.host := rfl
@[simp] theorem Block.modBst_ledger (s : Block) (h : Bst → Bst) : (s.modBst h).ledger = s.ledger := rfl
@[simp] theorem Block.modBst_core (s : Block) (h : Bst → Bst) : (s.modBst h).core = s.core := rfl
@[simp] theorem Block.modBst_cells (s : Block) (h : Bst → Bst) : (s.modBst h).cells = s.cells := rfl
@[simp] theorem Block.modBst_ports (s : Block) (h : Bst → Bst) : (s.modBst h).ports = s.ports := rfl
@[simp] theorem Block.modBst_chains (s : Block) (h : Bst → Bst) : (s.modBst h).chains = s.chains := rfl
@[simp] theorem Block.modBst_dir (s : Block) (h : Bst → Bst) : (s.modBst h).dir = s.dir := rfl
@[simp] theorem Block.modBst_graph (s : Block) (h : Bst → Bst) : (s.modBst h).graph = s.graph := rfl
@[simp] theorem Block.modBst_sap (s : Block) (h : Bst → Bst) : (s.modBst h).sap = s.sap := rfl
@[simp] theorem Block.modBst_spk (s : Block) (h : Bst → Bst) : (s.modBst h).spk = s.spk := rfl
@[simp] theorem Block.modBst_csc (s : Block) (h : Bst → Bst) : (s.modBst h).csc = s.csc := rfl
@[simp] theorem Block.modBst_clk (s : Block) (h : Bst → Bst) : (s.modBst h).clk = s.clk := rfl
@[simp] theorem Block.modBst_net (s : Block) (h : Bst → Bst) : (s.modBst h).net = s.net := rfl
@[simp] theorem Block.modBst_mem (s : Block) (h : Bst → Bst) : (s.modBst h).mem = s.mem := rfl
@[simp] theorem Block.modBst_img (s : Block) (h : Bst → Bst) : (s.modBst h).img = s.img := rfl
@[simp] theorem Block.modBst_pwr (s : Block) (h : Bst → Bst) : (s.modBst h).pwr = s.pwr := rfl
@[simp] theorem Block.modBst_lsn (s : Block) (h : Bst → Bst) : (s.modBst h).lsn = s.lsn := rfl
@[simp] theorem Block.modBst_otp (s : Block) (h : Bst → Bst) : (s.modBst h).otp = s.otp := rfl
@[simp] theorem Block.modBst_word (s : Block) (h : Bst → Bst) (b : Nat) : (s.modBst h).word b = s.word b := rfl
@[simp] theorem Block.modBst_f (s : Block) (h : Bst → Bst) (x : Fld) : (s.modBst h).f x = s.f x := rfl
@[simp] theorem Block.modBst_on (s : Block) (h : Bst → Bst) (x : Fld) : (s.modBst h).on x = s.on x := rfl

/-! ## `modCell` changes `cells` alone -/

@[simp] theorem Block.modCell_regs (s : Block) (k : Nat) (h : CellSt → CellSt) : (s.modCell k h).regs = s.regs := rfl
@[simp] theorem Block.modCell_time (s : Block) (k : Nat) (h : CellSt → CellSt) : (s.modCell k h).time = s.time := rfl
@[simp] theorem Block.modCell_freeK (s : Block) (k : Nat) (h : CellSt → CellSt) : (s.modCell k h).freeK = s.freeK := rfl
@[simp] theorem Block.modCell_host (s : Block) (k : Nat) (h : CellSt → CellSt) : (s.modCell k h).host = s.host := rfl
@[simp] theorem Block.modCell_ledger (s : Block) (k : Nat) (h : CellSt → CellSt) : (s.modCell k h).ledger = s.ledger := rfl
@[simp] theorem Block.modCell_core (s : Block) (k : Nat) (h : CellSt → CellSt) : (s.modCell k h).core = s.core := rfl
@[simp] theorem Block.modCell_ports (s : Block) (k : Nat) (h : CellSt → CellSt) : (s.modCell k h).ports = s.ports := rfl
@[simp] theorem Block.modCell_chains (s : Block) (k : Nat) (h : CellSt → CellSt) : (s.modCell k h).chains = s.chains := rfl
@[simp] theorem Block.modCell_dir (s : Block) (k : Nat) (h : CellSt → CellSt) : (s.modCell k h).dir = s.dir := rfl
@[simp] theorem Block.modCell_graph (s : Block) (k : Nat) (h : CellSt → CellSt) : (s.modCell k h).graph = s.graph := rfl
@[simp] theorem Block.modCell_sap (s : Block) (k : Nat) (h : CellSt → CellSt) : (s.modCell k h).sap = s.sap := rfl
@[simp] theorem Block.modCell_spk (s : Block) (k : Nat) (h : CellSt → CellSt) : (s.modCell k h).spk = s.spk := rfl
@[simp] theorem Block.modCell_csc (s : Block) (k : Nat) (h : CellSt → CellSt) : (s.modCell k h).csc = s.csc := rfl
@[simp] theorem Block.modCell_clk (s : Block) (k : Nat) (h : CellSt → CellSt) : (s.modCell k h).clk = s.clk := rfl
@[simp] theorem Block.modCell_net (s : Block) (k : Nat) (h : CellSt → CellSt) : (s.modCell k h).net = s.net := rfl
@[simp] theorem Block.modCell_mem (s : Block) (k : Nat) (h : CellSt → CellSt) : (s.modCell k h).mem = s.mem := rfl
@[simp] theorem Block.modCell_img (s : Block) (k : Nat) (h : CellSt → CellSt) : (s.modCell k h).img = s.img := rfl
@[simp] theorem Block.modCell_pwr (s : Block) (k : Nat) (h : CellSt → CellSt) : (s.modCell k h).pwr = s.pwr := rfl
@[simp] theorem Block.modCell_lsn (s : Block) (k : Nat) (h : CellSt → CellSt) : (s.modCell k h).lsn = s.lsn := rfl
@[simp] theorem Block.modCell_bst (s : Block) (k : Nat) (h : CellSt → CellSt) : (s.modCell k h).bst = s.bst := rfl
@[simp] theorem Block.modCell_otp (s : Block) (k : Nat) (h : CellSt → CellSt) : (s.modCell k h).otp = s.otp := rfl
@[simp] theorem Block.modCell_word (s : Block) (k : Nat) (h : CellSt → CellSt) (b : Nat) : (s.modCell k h).word b = s.word b := rfl
@[simp] theorem Block.modCell_f (s : Block) (k : Nat) (h : CellSt → CellSt) (x : Fld) : (s.modCell k h).f x = s.f x := rfl
@[simp] theorem Block.modCell_on (s : Block) (k : Nat) (h : CellSt → CellSt) (x : Fld) : (s.modCell k h).on x = s.on x := rfl

/-! ## `modGrp` changes `cells` alone -/

@[simp] theorem Block.modGrp_regs (s : Block) (g : Nat) (h : GroupSt → GroupSt) : (s.modGrp g h).regs = s.regs := rfl
@[simp] theorem Block.modGrp_time (s : Block) (g : Nat) (h : GroupSt → GroupSt) : (s.modGrp g h).time = s.time := rfl
@[simp] theorem Block.modGrp_freeK (s : Block) (g : Nat) (h : GroupSt → GroupSt) : (s.modGrp g h).freeK = s.freeK := rfl
@[simp] theorem Block.modGrp_host (s : Block) (g : Nat) (h : GroupSt → GroupSt) : (s.modGrp g h).host = s.host := rfl
@[simp] theorem Block.modGrp_ledger (s : Block) (g : Nat) (h : GroupSt → GroupSt) : (s.modGrp g h).ledger = s.ledger := rfl
@[simp] theorem Block.modGrp_core (s : Block) (g : Nat) (h : GroupSt → GroupSt) : (s.modGrp g h).core = s.core := rfl
@[simp] theorem Block.modGrp_ports (s : Block) (g : Nat) (h : GroupSt → GroupSt) : (s.modGrp g h).ports = s.ports := rfl
@[simp] theorem Block.modGrp_chains (s : Block) (g : Nat) (h : GroupSt → GroupSt) : (s.modGrp g h).chains = s.chains := rfl
@[simp] theorem Block.modGrp_dir (s : Block) (g : Nat) (h : GroupSt → GroupSt) : (s.modGrp g h).dir = s.dir := rfl
@[simp] theorem Block.modGrp_graph (s : Block) (g : Nat) (h : GroupSt → GroupSt) : (s.modGrp g h).graph = s.graph := rfl
@[simp] theorem Block.modGrp_sap (s : Block) (g : Nat) (h : GroupSt → GroupSt) : (s.modGrp g h).sap = s.sap := rfl
@[simp] theorem Block.modGrp_spk (s : Block) (g : Nat) (h : GroupSt → GroupSt) : (s.modGrp g h).spk = s.spk := rfl
@[simp] theorem Block.modGrp_csc (s : Block) (g : Nat) (h : GroupSt → GroupSt) : (s.modGrp g h).csc = s.csc := rfl
@[simp] theorem Block.modGrp_clk (s : Block) (g : Nat) (h : GroupSt → GroupSt) : (s.modGrp g h).clk = s.clk := rfl
@[simp] theorem Block.modGrp_net (s : Block) (g : Nat) (h : GroupSt → GroupSt) : (s.modGrp g h).net = s.net := rfl
@[simp] theorem Block.modGrp_mem (s : Block) (g : Nat) (h : GroupSt → GroupSt) : (s.modGrp g h).mem = s.mem := rfl
@[simp] theorem Block.modGrp_img (s : Block) (g : Nat) (h : GroupSt → GroupSt) : (s.modGrp g h).img = s.img := rfl
@[simp] theorem Block.modGrp_pwr (s : Block) (g : Nat) (h : GroupSt → GroupSt) : (s.modGrp g h).pwr = s.pwr := rfl
@[simp] theorem Block.modGrp_lsn (s : Block) (g : Nat) (h : GroupSt → GroupSt) : (s.modGrp g h).lsn = s.lsn := rfl
@[simp] theorem Block.modGrp_bst (s : Block) (g : Nat) (h : GroupSt → GroupSt) : (s.modGrp g h).bst = s.bst := rfl
@[simp] theorem Block.modGrp_otp (s : Block) (g : Nat) (h : GroupSt → GroupSt) : (s.modGrp g h).otp = s.otp := rfl
@[simp] theorem Block.modGrp_word (s : Block) (g : Nat) (h : GroupSt → GroupSt) (b : Nat) : (s.modGrp g h).word b = s.word b := rfl
@[simp] theorem Block.modGrp_f (s : Block) (g : Nat) (h : GroupSt → GroupSt) (x : Fld) : (s.modGrp g h).f x = s.f x := rfl
@[simp] theorem Block.modGrp_on (s : Block) (g : Nat) (h : GroupSt → GroupSt) (x : Fld) : (s.modGrp g h).on x = s.on x := rfl

/-! ## `modOut` changes `ports` alone -/

@[simp] theorem Block.modOut_regs (s : Block) (o : Nat) (h : OutSt → OutSt) : (s.modOut o h).regs = s.regs := rfl
@[simp] theorem Block.modOut_time (s : Block) (o : Nat) (h : OutSt → OutSt) : (s.modOut o h).time = s.time := rfl
@[simp] theorem Block.modOut_freeK (s : Block) (o : Nat) (h : OutSt → OutSt) : (s.modOut o h).freeK = s.freeK := rfl
@[simp] theorem Block.modOut_host (s : Block) (o : Nat) (h : OutSt → OutSt) : (s.modOut o h).host = s.host := rfl
@[simp] theorem Block.modOut_ledger (s : Block) (o : Nat) (h : OutSt → OutSt) : (s.modOut o h).ledger = s.ledger := rfl
@[simp] theorem Block.modOut_core (s : Block) (o : Nat) (h : OutSt → OutSt) : (s.modOut o h).core = s.core := rfl
@[simp] theorem Block.modOut_cells (s : Block) (o : Nat) (h : OutSt → OutSt) : (s.modOut o h).cells = s.cells := rfl
@[simp] theorem Block.modOut_chains (s : Block) (o : Nat) (h : OutSt → OutSt) : (s.modOut o h).chains = s.chains := rfl
@[simp] theorem Block.modOut_dir (s : Block) (o : Nat) (h : OutSt → OutSt) : (s.modOut o h).dir = s.dir := rfl
@[simp] theorem Block.modOut_graph (s : Block) (o : Nat) (h : OutSt → OutSt) : (s.modOut o h).graph = s.graph := rfl
@[simp] theorem Block.modOut_sap (s : Block) (o : Nat) (h : OutSt → OutSt) : (s.modOut o h).sap = s.sap := rfl
@[simp] theorem Block.modOut_spk (s : Block) (o : Nat) (h : OutSt → OutSt) : (s.modOut o h).spk = s.spk := rfl
@[simp] theorem Block.modOut_csc (s : Block) (o : Nat) (h : OutSt → OutSt) : (s.modOut o h).csc = s.csc := rfl
@[simp] theorem Block.modOut_clk (s : Block) (o : Nat) (h : OutSt → OutSt) : (s.modOut o h).clk = s.clk := rfl
@[simp] theorem Block.modOut_net (s : Block) (o : Nat) (h : OutSt → OutSt) : (s.modOut o h).net = s.net := rfl
@[simp] theorem Block.modOut_mem (s : Block) (o : Nat) (h : OutSt → OutSt) : (s.modOut o h).mem = s.mem := rfl
@[simp] theorem Block.modOut_img (s : Block) (o : Nat) (h : OutSt → OutSt) : (s.modOut o h).img = s.img := rfl
@[simp] theorem Block.modOut_pwr (s : Block) (o : Nat) (h : OutSt → OutSt) : (s.modOut o h).pwr = s.pwr := rfl
@[simp] theorem Block.modOut_lsn (s : Block) (o : Nat) (h : OutSt → OutSt) : (s.modOut o h).lsn = s.lsn := rfl
@[simp] theorem Block.modOut_bst (s : Block) (o : Nat) (h : OutSt → OutSt) : (s.modOut o h).bst = s.bst := rfl
@[simp] theorem Block.modOut_otp (s : Block) (o : Nat) (h : OutSt → OutSt) : (s.modOut o h).otp = s.otp := rfl
@[simp] theorem Block.modOut_word (s : Block) (o : Nat) (h : OutSt → OutSt) (b : Nat) : (s.modOut o h).word b = s.word b := rfl
@[simp] theorem Block.modOut_f (s : Block) (o : Nat) (h : OutSt → OutSt) (x : Fld) : (s.modOut o h).f x = s.f x := rfl
@[simp] theorem Block.modOut_on (s : Block) (o : Nat) (h : OutSt → OutSt) (x : Fld) : (s.modOut o h).on x = s.on x := rfl

/-! ## `modNet` changes `net` alone -/

@[simp] theorem Block.modNet_regs (s : Block) (g : Net → Net) : (s.modNet g).regs = s.regs := rfl
@[simp] theorem Block.modNet_time (s : Block) (g : Net → Net) : (s.modNet g).time = s.time := rfl
@[simp] theorem Block.modNet_freeK (s : Block) (g : Net → Net) : (s.modNet g).freeK = s.freeK := rfl
@[simp] theorem Block.modNet_host (s : Block) (g : Net → Net) : (s.modNet g).host = s.host := rfl
@[simp] theorem Block.modNet_ledger (s : Block) (g : Net → Net) : (s.modNet g).ledger = s.ledger := rfl
@[simp] theorem Block.modNet_core (s : Block) (g : Net → Net) : (s.modNet g).core = s.core := rfl
@[simp] theorem Block.modNet_cells (s : Block) (g : Net → Net) : (s.modNet g).cells = s.cells := rfl
@[simp] theorem Block.modNet_ports (s : Block) (g : Net → Net) : (s.modNet g).ports = s.ports := rfl
@[simp] theorem Block.modNet_chains (s : Block) (g : Net → Net) : (s.modNet g).chains = s.chains := rfl
@[simp] theorem Block.modNet_dir (s : Block) (g : Net → Net) : (s.modNet g).dir = s.dir := rfl
@[simp] theorem Block.modNet_graph (s : Block) (g : Net → Net) : (s.modNet g).graph = s.graph := rfl
@[simp] theorem Block.modNet_sap (s : Block) (g : Net → Net) : (s.modNet g).sap = s.sap := rfl
@[simp] theorem Block.modNet_spk (s : Block) (g : Net → Net) : (s.modNet g).spk = s.spk := rfl
@[simp] theorem Block.modNet_csc (s : Block) (g : Net → Net) : (s.modNet g).csc = s.csc := rfl
@[simp] theorem Block.modNet_clk (s : Block) (g : Net → Net) : (s.modNet g).clk = s.clk := rfl
@[simp] theorem Block.modNet_mem (s : Block) (g : Net → Net) : (s.modNet g).mem = s.mem := rfl
@[simp] theorem Block.modNet_img (s : Block) (g : Net → Net) : (s.modNet g).img = s.img := rfl
@[simp] theorem Block.modNet_pwr (s : Block) (g : Net → Net) : (s.modNet g).pwr = s.pwr := rfl
@[simp] theorem Block.modNet_lsn (s : Block) (g : Net → Net) : (s.modNet g).lsn = s.lsn := rfl
@[simp] theorem Block.modNet_bst (s : Block) (g : Net → Net) : (s.modNet g).bst = s.bst := rfl
@[simp] theorem Block.modNet_otp (s : Block) (g : Net → Net) : (s.modNet g).otp = s.otp := rfl
@[simp] theorem Block.modNet_word (s : Block) (g : Net → Net) (b : Nat) : (s.modNet g).word b = s.word b := rfl
@[simp] theorem Block.modNet_f (s : Block) (g : Net → Net) (x : Fld) : (s.modNet g).f x = s.f x := rfl
@[simp] theorem Block.modNet_on (s : Block) (g : Net → Net) (x : Fld) : (s.modNet g).on x = s.on x := rfl

/-! ## `modRun` changes `net` alone -/

@[simp] theorem Block.modRun_regs (s : Block) (g : CensusRun → CensusRun) : (s.modRun g).regs = s.regs := rfl
@[simp] theorem Block.modRun_time (s : Block) (g : CensusRun → CensusRun) : (s.modRun g).time = s.time := rfl
@[simp] theorem Block.modRun_freeK (s : Block) (g : CensusRun → CensusRun) : (s.modRun g).freeK = s.freeK := rfl
@[simp] theorem Block.modRun_host (s : Block) (g : CensusRun → CensusRun) : (s.modRun g).host = s.host := rfl
@[simp] theorem Block.modRun_ledger (s : Block) (g : CensusRun → CensusRun) : (s.modRun g).ledger = s.ledger := rfl
@[simp] theorem Block.modRun_core (s : Block) (g : CensusRun → CensusRun) : (s.modRun g).core = s.core := rfl
@[simp] theorem Block.modRun_cells (s : Block) (g : CensusRun → CensusRun) : (s.modRun g).cells = s.cells := rfl
@[simp] theorem Block.modRun_ports (s : Block) (g : CensusRun → CensusRun) : (s.modRun g).ports = s.ports := rfl
@[simp] theorem Block.modRun_chains (s : Block) (g : CensusRun → CensusRun) : (s.modRun g).chains = s.chains := rfl
@[simp] theorem Block.modRun_dir (s : Block) (g : CensusRun → CensusRun) : (s.modRun g).dir = s.dir := rfl
@[simp] theorem Block.modRun_graph (s : Block) (g : CensusRun → CensusRun) : (s.modRun g).graph = s.graph := rfl
@[simp] theorem Block.modRun_sap (s : Block) (g : CensusRun → CensusRun) : (s.modRun g).sap = s.sap := rfl
@[simp] theorem Block.modRun_spk (s : Block) (g : CensusRun → CensusRun) : (s.modRun g).spk = s.spk := rfl
@[simp] theorem Block.modRun_csc (s : Block) (g : CensusRun → CensusRun) : (s.modRun g).csc = s.csc := rfl
@[simp] theorem Block.modRun_clk (s : Block) (g : CensusRun → CensusRun) : (s.modRun g).clk = s.clk := rfl
@[simp] theorem Block.modRun_mem (s : Block) (g : CensusRun → CensusRun) : (s.modRun g).mem = s.mem := rfl
@[simp] theorem Block.modRun_img (s : Block) (g : CensusRun → CensusRun) : (s.modRun g).img = s.img := rfl
@[simp] theorem Block.modRun_pwr (s : Block) (g : CensusRun → CensusRun) : (s.modRun g).pwr = s.pwr := rfl
@[simp] theorem Block.modRun_lsn (s : Block) (g : CensusRun → CensusRun) : (s.modRun g).lsn = s.lsn := rfl
@[simp] theorem Block.modRun_bst (s : Block) (g : CensusRun → CensusRun) : (s.modRun g).bst = s.bst := rfl
@[simp] theorem Block.modRun_otp (s : Block) (g : CensusRun → CensusRun) : (s.modRun g).otp = s.otp := rfl
@[simp] theorem Block.modRun_word (s : Block) (g : CensusRun → CensusRun) (b : Nat) : (s.modRun g).word b = s.word b := rfl
@[simp] theorem Block.modRun_f (s : Block) (g : CensusRun → CensusRun) (x : Fld) : (s.modRun g).f x = s.f x := rfl
@[simp] theorem Block.modRun_on (s : Block) (g : CensusRun → CensusRun) (x : Fld) : (s.modRun g).on x = s.on x := rfl

/-! ## `modChain` changes `chains` alone -/

@[simp] theorem Block.modChain_regs (s : Block) (c : ChainId) (h : ChainSt → ChainSt) : (s.modChain c h).regs = s.regs := rfl
@[simp] theorem Block.modChain_time (s : Block) (c : ChainId) (h : ChainSt → ChainSt) : (s.modChain c h).time = s.time := rfl
@[simp] theorem Block.modChain_freeK (s : Block) (c : ChainId) (h : ChainSt → ChainSt) : (s.modChain c h).freeK = s.freeK := rfl
@[simp] theorem Block.modChain_host (s : Block) (c : ChainId) (h : ChainSt → ChainSt) : (s.modChain c h).host = s.host := rfl
@[simp] theorem Block.modChain_ledger (s : Block) (c : ChainId) (h : ChainSt → ChainSt) : (s.modChain c h).ledger = s.ledger := rfl
@[simp] theorem Block.modChain_core (s : Block) (c : ChainId) (h : ChainSt → ChainSt) : (s.modChain c h).core = s.core := rfl
@[simp] theorem Block.modChain_cells (s : Block) (c : ChainId) (h : ChainSt → ChainSt) : (s.modChain c h).cells = s.cells := rfl
@[simp] theorem Block.modChain_ports (s : Block) (c : ChainId) (h : ChainSt → ChainSt) : (s.modChain c h).ports = s.ports := rfl
@[simp] theorem Block.modChain_dir (s : Block) (c : ChainId) (h : ChainSt → ChainSt) : (s.modChain c h).dir = s.dir := rfl
@[simp] theorem Block.modChain_graph (s : Block) (c : ChainId) (h : ChainSt → ChainSt) : (s.modChain c h).graph = s.graph := rfl
@[simp] theorem Block.modChain_sap (s : Block) (c : ChainId) (h : ChainSt → ChainSt) : (s.modChain c h).sap = s.sap := rfl
@[simp] theorem Block.modChain_spk (s : Block) (c : ChainId) (h : ChainSt → ChainSt) : (s.modChain c h).spk = s.spk := rfl
@[simp] theorem Block.modChain_csc (s : Block) (c : ChainId) (h : ChainSt → ChainSt) : (s.modChain c h).csc = s.csc := rfl
@[simp] theorem Block.modChain_clk (s : Block) (c : ChainId) (h : ChainSt → ChainSt) : (s.modChain c h).clk = s.clk := rfl
@[simp] theorem Block.modChain_net (s : Block) (c : ChainId) (h : ChainSt → ChainSt) : (s.modChain c h).net = s.net := rfl
@[simp] theorem Block.modChain_mem (s : Block) (c : ChainId) (h : ChainSt → ChainSt) : (s.modChain c h).mem = s.mem := rfl
@[simp] theorem Block.modChain_img (s : Block) (c : ChainId) (h : ChainSt → ChainSt) : (s.modChain c h).img = s.img := rfl
@[simp] theorem Block.modChain_pwr (s : Block) (c : ChainId) (h : ChainSt → ChainSt) : (s.modChain c h).pwr = s.pwr := rfl
@[simp] theorem Block.modChain_lsn (s : Block) (c : ChainId) (h : ChainSt → ChainSt) : (s.modChain c h).lsn = s.lsn := rfl
@[simp] theorem Block.modChain_bst (s : Block) (c : ChainId) (h : ChainSt → ChainSt) : (s.modChain c h).bst = s.bst := rfl
@[simp] theorem Block.modChain_otp (s : Block) (c : ChainId) (h : ChainSt → ChainSt) : (s.modChain c h).otp = s.otp := rfl
@[simp] theorem Block.modChain_word (s : Block) (c : ChainId) (h : ChainSt → ChainSt) (b : Nat) : (s.modChain c h).word b = s.word b := rfl
@[simp] theorem Block.modChain_f (s : Block) (c : ChainId) (h : ChainSt → ChainSt) (x : Fld) : (s.modChain c h).f x = s.f x := rfl
@[simp] theorem Block.modChain_on (s : Block) (c : ChainId) (h : ChainSt → ChainSt) (x : Fld) : (s.modChain c h).on x = s.on x := rfl

/-! ## `modClk` changes `clk` alone -/

@[simp] theorem Block.modClk_regs (s : Block) (g : Clk → Clk) : (s.modClk g).regs = s.regs := rfl
@[simp] theorem Block.modClk_time (s : Block) (g : Clk → Clk) : (s.modClk g).time = s.time := rfl
@[simp] theorem Block.modClk_freeK (s : Block) (g : Clk → Clk) : (s.modClk g).freeK = s.freeK := rfl
@[simp] theorem Block.modClk_host (s : Block) (g : Clk → Clk) : (s.modClk g).host = s.host := rfl
@[simp] theorem Block.modClk_ledger (s : Block) (g : Clk → Clk) : (s.modClk g).ledger = s.ledger := rfl
@[simp] theorem Block.modClk_core (s : Block) (g : Clk → Clk) : (s.modClk g).core = s.core := rfl
@[simp] theorem Block.modClk_cells (s : Block) (g : Clk → Clk) : (s.modClk g).cells = s.cells := rfl
@[simp] theorem Block.modClk_ports (s : Block) (g : Clk → Clk) : (s.modClk g).ports = s.ports := rfl
@[simp] theorem Block.modClk_chains (s : Block) (g : Clk → Clk) : (s.modClk g).chains = s.chains := rfl
@[simp] theorem Block.modClk_dir (s : Block) (g : Clk → Clk) : (s.modClk g).dir = s.dir := rfl
@[simp] theorem Block.modClk_graph (s : Block) (g : Clk → Clk) : (s.modClk g).graph = s.graph := rfl
@[simp] theorem Block.modClk_sap (s : Block) (g : Clk → Clk) : (s.modClk g).sap = s.sap := rfl
@[simp] theorem Block.modClk_spk (s : Block) (g : Clk → Clk) : (s.modClk g).spk = s.spk := rfl
@[simp] theorem Block.modClk_csc (s : Block) (g : Clk → Clk) : (s.modClk g).csc = s.csc := rfl
@[simp] theorem Block.modClk_net (s : Block) (g : Clk → Clk) : (s.modClk g).net = s.net := rfl
@[simp] theorem Block.modClk_mem (s : Block) (g : Clk → Clk) : (s.modClk g).mem = s.mem := rfl
@[simp] theorem Block.modClk_img (s : Block) (g : Clk → Clk) : (s.modClk g).img = s.img := rfl
@[simp] theorem Block.modClk_pwr (s : Block) (g : Clk → Clk) : (s.modClk g).pwr = s.pwr := rfl
@[simp] theorem Block.modClk_lsn (s : Block) (g : Clk → Clk) : (s.modClk g).lsn = s.lsn := rfl
@[simp] theorem Block.modClk_bst (s : Block) (g : Clk → Clk) : (s.modClk g).bst = s.bst := rfl
@[simp] theorem Block.modClk_otp (s : Block) (g : Clk → Clk) : (s.modClk g).otp = s.otp := rfl
@[simp] theorem Block.modClk_word (s : Block) (g : Clk → Clk) (b : Nat) : (s.modClk g).word b = s.word b := rfl
@[simp] theorem Block.modClk_f (s : Block) (g : Clk → Clk) (x : Fld) : (s.modClk g).f x = s.f x := rfl
@[simp] theorem Block.modClk_on (s : Block) (g : Clk → Clk) (x : Fld) : (s.modClk g).on x = s.on x := rfl

/-! ## `modUnit` changes `csc` alone -/

@[simp] theorem Block.modUnit_regs (s : Block) (u : Nat) (h : CscUnit → CscUnit) : (s.modUnit u h).regs = s.regs := rfl
@[simp] theorem Block.modUnit_time (s : Block) (u : Nat) (h : CscUnit → CscUnit) : (s.modUnit u h).time = s.time := rfl
@[simp] theorem Block.modUnit_freeK (s : Block) (u : Nat) (h : CscUnit → CscUnit) : (s.modUnit u h).freeK = s.freeK := rfl
@[simp] theorem Block.modUnit_host (s : Block) (u : Nat) (h : CscUnit → CscUnit) : (s.modUnit u h).host = s.host := rfl
@[simp] theorem Block.modUnit_ledger (s : Block) (u : Nat) (h : CscUnit → CscUnit) : (s.modUnit u h).ledger = s.ledger := rfl
@[simp] theorem Block.modUnit_core (s : Block) (u : Nat) (h : CscUnit → CscUnit) : (s.modUnit u h).core = s.core := rfl
@[simp] theorem Block.modUnit_cells (s : Block) (u : Nat) (h : CscUnit → CscUnit) : (s.modUnit u h).cells = s.cells := rfl
@[simp] theorem Block.modUnit_ports (s : Block) (u : Nat) (h : CscUnit → CscUnit) : (s.modUnit u h).ports = s.ports := rfl
@[simp] theorem Block.modUnit_chains (s : Block) (u : Nat) (h : CscUnit → CscUnit) : (s.modUnit u h).chains = s.chains := rfl
@[simp] theorem Block.modUnit_dir (s : Block) (u : Nat) (h : CscUnit → CscUnit) : (s.modUnit u h).dir = s.dir := rfl
@[simp] theorem Block.modUnit_graph (s : Block) (u : Nat) (h : CscUnit → CscUnit) : (s.modUnit u h).graph = s.graph := rfl
@[simp] theorem Block.modUnit_sap (s : Block) (u : Nat) (h : CscUnit → CscUnit) : (s.modUnit u h).sap = s.sap := rfl
@[simp] theorem Block.modUnit_spk (s : Block) (u : Nat) (h : CscUnit → CscUnit) : (s.modUnit u h).spk = s.spk := rfl
@[simp] theorem Block.modUnit_clk (s : Block) (u : Nat) (h : CscUnit → CscUnit) : (s.modUnit u h).clk = s.clk := rfl
@[simp] theorem Block.modUnit_net (s : Block) (u : Nat) (h : CscUnit → CscUnit) : (s.modUnit u h).net = s.net := rfl
@[simp] theorem Block.modUnit_mem (s : Block) (u : Nat) (h : CscUnit → CscUnit) : (s.modUnit u h).mem = s.mem := rfl
@[simp] theorem Block.modUnit_img (s : Block) (u : Nat) (h : CscUnit → CscUnit) : (s.modUnit u h).img = s.img := rfl
@[simp] theorem Block.modUnit_pwr (s : Block) (u : Nat) (h : CscUnit → CscUnit) : (s.modUnit u h).pwr = s.pwr := rfl
@[simp] theorem Block.modUnit_lsn (s : Block) (u : Nat) (h : CscUnit → CscUnit) : (s.modUnit u h).lsn = s.lsn := rfl
@[simp] theorem Block.modUnit_bst (s : Block) (u : Nat) (h : CscUnit → CscUnit) : (s.modUnit u h).bst = s.bst := rfl
@[simp] theorem Block.modUnit_otp (s : Block) (u : Nat) (h : CscUnit → CscUnit) : (s.modUnit u h).otp = s.otp := rfl
@[simp] theorem Block.modUnit_word (s : Block) (u : Nat) (h : CscUnit → CscUnit) (b : Nat) : (s.modUnit u h).word b = s.word b := rfl
@[simp] theorem Block.modUnit_f (s : Block) (u : Nat) (h : CscUnit → CscUnit) (x : Fld) : (s.modUnit u h).f x = s.f x := rfl
@[simp] theorem Block.modUnit_on (s : Block) (u : Nat) (h : CscUnit → CscUnit) (x : Fld) : (s.modUnit u h).on x = s.on x := rfl

/-! ## `modAcc` changes `csc` alone -/

@[simp] theorem Block.modAcc_regs (s : Block) (a : Nat) (h : CscAcc → CscAcc) : (s.modAcc a h).regs = s.regs := rfl
@[simp] theorem Block.modAcc_time (s : Block) (a : Nat) (h : CscAcc → CscAcc) : (s.modAcc a h).time = s.time := rfl
@[simp] theorem Block.modAcc_freeK (s : Block) (a : Nat) (h : CscAcc → CscAcc) : (s.modAcc a h).freeK = s.freeK := rfl
@[simp] theorem Block.modAcc_host (s : Block) (a : Nat) (h : CscAcc → CscAcc) : (s.modAcc a h).host = s.host := rfl
@[simp] theorem Block.modAcc_ledger (s : Block) (a : Nat) (h : CscAcc → CscAcc) : (s.modAcc a h).ledger = s.ledger := rfl
@[simp] theorem Block.modAcc_core (s : Block) (a : Nat) (h : CscAcc → CscAcc) : (s.modAcc a h).core = s.core := rfl
@[simp] theorem Block.modAcc_cells (s : Block) (a : Nat) (h : CscAcc → CscAcc) : (s.modAcc a h).cells = s.cells := rfl
@[simp] theorem Block.modAcc_ports (s : Block) (a : Nat) (h : CscAcc → CscAcc) : (s.modAcc a h).ports = s.ports := rfl
@[simp] theorem Block.modAcc_chains (s : Block) (a : Nat) (h : CscAcc → CscAcc) : (s.modAcc a h).chains = s.chains := rfl
@[simp] theorem Block.modAcc_dir (s : Block) (a : Nat) (h : CscAcc → CscAcc) : (s.modAcc a h).dir = s.dir := rfl
@[simp] theorem Block.modAcc_graph (s : Block) (a : Nat) (h : CscAcc → CscAcc) : (s.modAcc a h).graph = s.graph := rfl
@[simp] theorem Block.modAcc_sap (s : Block) (a : Nat) (h : CscAcc → CscAcc) : (s.modAcc a h).sap = s.sap := rfl
@[simp] theorem Block.modAcc_spk (s : Block) (a : Nat) (h : CscAcc → CscAcc) : (s.modAcc a h).spk = s.spk := rfl
@[simp] theorem Block.modAcc_clk (s : Block) (a : Nat) (h : CscAcc → CscAcc) : (s.modAcc a h).clk = s.clk := rfl
@[simp] theorem Block.modAcc_net (s : Block) (a : Nat) (h : CscAcc → CscAcc) : (s.modAcc a h).net = s.net := rfl
@[simp] theorem Block.modAcc_mem (s : Block) (a : Nat) (h : CscAcc → CscAcc) : (s.modAcc a h).mem = s.mem := rfl
@[simp] theorem Block.modAcc_img (s : Block) (a : Nat) (h : CscAcc → CscAcc) : (s.modAcc a h).img = s.img := rfl
@[simp] theorem Block.modAcc_pwr (s : Block) (a : Nat) (h : CscAcc → CscAcc) : (s.modAcc a h).pwr = s.pwr := rfl
@[simp] theorem Block.modAcc_lsn (s : Block) (a : Nat) (h : CscAcc → CscAcc) : (s.modAcc a h).lsn = s.lsn := rfl
@[simp] theorem Block.modAcc_bst (s : Block) (a : Nat) (h : CscAcc → CscAcc) : (s.modAcc a h).bst = s.bst := rfl
@[simp] theorem Block.modAcc_otp (s : Block) (a : Nat) (h : CscAcc → CscAcc) : (s.modAcc a h).otp = s.otp := rfl
@[simp] theorem Block.modAcc_word (s : Block) (a : Nat) (h : CscAcc → CscAcc) (b : Nat) : (s.modAcc a h).word b = s.word b := rfl
@[simp] theorem Block.modAcc_f (s : Block) (a : Nat) (h : CscAcc → CscAcc) (x : Fld) : (s.modAcc a h).f x = s.f x := rfl
@[simp] theorem Block.modAcc_on (s : Block) (a : Nat) (h : CscAcc → CscAcc) (x : Fld) : (s.modAcc a h).on x = s.on x := rfl

/-! ## `modTmr` changes `csc` alone -/

@[simp] theorem Block.modTmr_regs (s : Block) (t : Nat) (h : CscTimer → CscTimer) : (s.modTmr t h).regs = s.regs := rfl
@[simp] theorem Block.modTmr_time (s : Block) (t : Nat) (h : CscTimer → CscTimer) : (s.modTmr t h).time = s.time := rfl
@[simp] theorem Block.modTmr_freeK (s : Block) (t : Nat) (h : CscTimer → CscTimer) : (s.modTmr t h).freeK = s.freeK := rfl
@[simp] theorem Block.modTmr_host (s : Block) (t : Nat) (h : CscTimer → CscTimer) : (s.modTmr t h).host = s.host := rfl
@[simp] theorem Block.modTmr_ledger (s : Block) (t : Nat) (h : CscTimer → CscTimer) : (s.modTmr t h).ledger = s.ledger := rfl
@[simp] theorem Block.modTmr_core (s : Block) (t : Nat) (h : CscTimer → CscTimer) : (s.modTmr t h).core = s.core := rfl
@[simp] theorem Block.modTmr_cells (s : Block) (t : Nat) (h : CscTimer → CscTimer) : (s.modTmr t h).cells = s.cells := rfl
@[simp] theorem Block.modTmr_ports (s : Block) (t : Nat) (h : CscTimer → CscTimer) : (s.modTmr t h).ports = s.ports := rfl
@[simp] theorem Block.modTmr_chains (s : Block) (t : Nat) (h : CscTimer → CscTimer) : (s.modTmr t h).chains = s.chains := rfl
@[simp] theorem Block.modTmr_dir (s : Block) (t : Nat) (h : CscTimer → CscTimer) : (s.modTmr t h).dir = s.dir := rfl
@[simp] theorem Block.modTmr_graph (s : Block) (t : Nat) (h : CscTimer → CscTimer) : (s.modTmr t h).graph = s.graph := rfl
@[simp] theorem Block.modTmr_sap (s : Block) (t : Nat) (h : CscTimer → CscTimer) : (s.modTmr t h).sap = s.sap := rfl
@[simp] theorem Block.modTmr_spk (s : Block) (t : Nat) (h : CscTimer → CscTimer) : (s.modTmr t h).spk = s.spk := rfl
@[simp] theorem Block.modTmr_clk (s : Block) (t : Nat) (h : CscTimer → CscTimer) : (s.modTmr t h).clk = s.clk := rfl
@[simp] theorem Block.modTmr_net (s : Block) (t : Nat) (h : CscTimer → CscTimer) : (s.modTmr t h).net = s.net := rfl
@[simp] theorem Block.modTmr_mem (s : Block) (t : Nat) (h : CscTimer → CscTimer) : (s.modTmr t h).mem = s.mem := rfl
@[simp] theorem Block.modTmr_img (s : Block) (t : Nat) (h : CscTimer → CscTimer) : (s.modTmr t h).img = s.img := rfl
@[simp] theorem Block.modTmr_pwr (s : Block) (t : Nat) (h : CscTimer → CscTimer) : (s.modTmr t h).pwr = s.pwr := rfl
@[simp] theorem Block.modTmr_lsn (s : Block) (t : Nat) (h : CscTimer → CscTimer) : (s.modTmr t h).lsn = s.lsn := rfl
@[simp] theorem Block.modTmr_bst (s : Block) (t : Nat) (h : CscTimer → CscTimer) : (s.modTmr t h).bst = s.bst := rfl
@[simp] theorem Block.modTmr_otp (s : Block) (t : Nat) (h : CscTimer → CscTimer) : (s.modTmr t h).otp = s.otp := rfl
@[simp] theorem Block.modTmr_word (s : Block) (t : Nat) (h : CscTimer → CscTimer) (b : Nat) : (s.modTmr t h).word b = s.word b := rfl
@[simp] theorem Block.modTmr_f (s : Block) (t : Nat) (h : CscTimer → CscTimer) (x : Fld) : (s.modTmr t h).f x = s.f x := rfl
@[simp] theorem Block.modTmr_on (s : Block) (t : Nat) (h : CscTimer → CscTimer) (x : Fld) : (s.modTmr t h).on x = s.on x := rfl

/-! ## `modXp` changes `dir` alone -/

@[simp] theorem Block.modXp_regs (s : Block) (o i : Nat) (h : XpSt → XpSt) : (s.modXp o i h).regs = s.regs := rfl
@[simp] theorem Block.modXp_time (s : Block) (o i : Nat) (h : XpSt → XpSt) : (s.modXp o i h).time = s.time := rfl
@[simp] theorem Block.modXp_freeK (s : Block) (o i : Nat) (h : XpSt → XpSt) : (s.modXp o i h).freeK = s.freeK := rfl
@[simp] theorem Block.modXp_host (s : Block) (o i : Nat) (h : XpSt → XpSt) : (s.modXp o i h).host = s.host := rfl
@[simp] theorem Block.modXp_ledger (s : Block) (o i : Nat) (h : XpSt → XpSt) : (s.modXp o i h).ledger = s.ledger := rfl
@[simp] theorem Block.modXp_core (s : Block) (o i : Nat) (h : XpSt → XpSt) : (s.modXp o i h).core = s.core := rfl
@[simp] theorem Block.modXp_cells (s : Block) (o i : Nat) (h : XpSt → XpSt) : (s.modXp o i h).cells = s.cells := rfl
@[simp] theorem Block.modXp_ports (s : Block) (o i : Nat) (h : XpSt → XpSt) : (s.modXp o i h).ports = s.ports := rfl
@[simp] theorem Block.modXp_chains (s : Block) (o i : Nat) (h : XpSt → XpSt) : (s.modXp o i h).chains = s.chains := rfl
@[simp] theorem Block.modXp_graph (s : Block) (o i : Nat) (h : XpSt → XpSt) : (s.modXp o i h).graph = s.graph := rfl
@[simp] theorem Block.modXp_sap (s : Block) (o i : Nat) (h : XpSt → XpSt) : (s.modXp o i h).sap = s.sap := rfl
@[simp] theorem Block.modXp_spk (s : Block) (o i : Nat) (h : XpSt → XpSt) : (s.modXp o i h).spk = s.spk := rfl
@[simp] theorem Block.modXp_csc (s : Block) (o i : Nat) (h : XpSt → XpSt) : (s.modXp o i h).csc = s.csc := rfl
@[simp] theorem Block.modXp_clk (s : Block) (o i : Nat) (h : XpSt → XpSt) : (s.modXp o i h).clk = s.clk := rfl
@[simp] theorem Block.modXp_net (s : Block) (o i : Nat) (h : XpSt → XpSt) : (s.modXp o i h).net = s.net := rfl
@[simp] theorem Block.modXp_mem (s : Block) (o i : Nat) (h : XpSt → XpSt) : (s.modXp o i h).mem = s.mem := rfl
@[simp] theorem Block.modXp_img (s : Block) (o i : Nat) (h : XpSt → XpSt) : (s.modXp o i h).img = s.img := rfl
@[simp] theorem Block.modXp_pwr (s : Block) (o i : Nat) (h : XpSt → XpSt) : (s.modXp o i h).pwr = s.pwr := rfl
@[simp] theorem Block.modXp_lsn (s : Block) (o i : Nat) (h : XpSt → XpSt) : (s.modXp o i h).lsn = s.lsn := rfl
@[simp] theorem Block.modXp_bst (s : Block) (o i : Nat) (h : XpSt → XpSt) : (s.modXp o i h).bst = s.bst := rfl
@[simp] theorem Block.modXp_otp (s : Block) (o i : Nat) (h : XpSt → XpSt) : (s.modXp o i h).otp = s.otp := rfl
@[simp] theorem Block.modXp_word (s : Block) (o i : Nat) (h : XpSt → XpSt) (b : Nat) : (s.modXp o i h).word b = s.word b := rfl
@[simp] theorem Block.modXp_f (s : Block) (o i : Nat) (h : XpSt → XpSt) (x : Fld) : (s.modXp o i h).f x = s.f x := rfl
@[simp] theorem Block.modXp_on (s : Block) (o i : Nat) (h : XpSt → XpSt) (x : Fld) : (s.modXp o i h).on x = s.on x := rfl

/-! ## `modDout` changes `dir` alone -/

@[simp] theorem Block.modDout_regs (s : Block) (o : Nat) (h : DirOut → DirOut) : (s.modDout o h).regs = s.regs := rfl
@[simp] theorem Block.modDout_time (s : Block) (o : Nat) (h : DirOut → DirOut) : (s.modDout o h).time = s.time := rfl
@[simp] theorem Block.modDout_freeK (s : Block) (o : Nat) (h : DirOut → DirOut) : (s.modDout o h).freeK = s.freeK := rfl
@[simp] theorem Block.modDout_host (s : Block) (o : Nat) (h : DirOut → DirOut) : (s.modDout o h).host = s.host := rfl
@[simp] theorem Block.modDout_ledger (s : Block) (o : Nat) (h : DirOut → DirOut) : (s.modDout o h).ledger = s.ledger := rfl
@[simp] theorem Block.modDout_core (s : Block) (o : Nat) (h : DirOut → DirOut) : (s.modDout o h).core = s.core := rfl
@[simp] theorem Block.modDout_cells (s : Block) (o : Nat) (h : DirOut → DirOut) : (s.modDout o h).cells = s.cells := rfl
@[simp] theorem Block.modDout_ports (s : Block) (o : Nat) (h : DirOut → DirOut) : (s.modDout o h).ports = s.ports := rfl
@[simp] theorem Block.modDout_chains (s : Block) (o : Nat) (h : DirOut → DirOut) : (s.modDout o h).chains = s.chains := rfl
@[simp] theorem Block.modDout_graph (s : Block) (o : Nat) (h : DirOut → DirOut) : (s.modDout o h).graph = s.graph := rfl
@[simp] theorem Block.modDout_sap (s : Block) (o : Nat) (h : DirOut → DirOut) : (s.modDout o h).sap = s.sap := rfl
@[simp] theorem Block.modDout_spk (s : Block) (o : Nat) (h : DirOut → DirOut) : (s.modDout o h).spk = s.spk := rfl
@[simp] theorem Block.modDout_csc (s : Block) (o : Nat) (h : DirOut → DirOut) : (s.modDout o h).csc = s.csc := rfl
@[simp] theorem Block.modDout_clk (s : Block) (o : Nat) (h : DirOut → DirOut) : (s.modDout o h).clk = s.clk := rfl
@[simp] theorem Block.modDout_net (s : Block) (o : Nat) (h : DirOut → DirOut) : (s.modDout o h).net = s.net := rfl
@[simp] theorem Block.modDout_mem (s : Block) (o : Nat) (h : DirOut → DirOut) : (s.modDout o h).mem = s.mem := rfl
@[simp] theorem Block.modDout_img (s : Block) (o : Nat) (h : DirOut → DirOut) : (s.modDout o h).img = s.img := rfl
@[simp] theorem Block.modDout_pwr (s : Block) (o : Nat) (h : DirOut → DirOut) : (s.modDout o h).pwr = s.pwr := rfl
@[simp] theorem Block.modDout_lsn (s : Block) (o : Nat) (h : DirOut → DirOut) : (s.modDout o h).lsn = s.lsn := rfl
@[simp] theorem Block.modDout_bst (s : Block) (o : Nat) (h : DirOut → DirOut) : (s.modDout o h).bst = s.bst := rfl
@[simp] theorem Block.modDout_otp (s : Block) (o : Nat) (h : DirOut → DirOut) : (s.modDout o h).otp = s.otp := rfl
@[simp] theorem Block.modDout_word (s : Block) (o : Nat) (h : DirOut → DirOut) (b : Nat) : (s.modDout o h).word b = s.word b := rfl
@[simp] theorem Block.modDout_f (s : Block) (o : Nat) (h : DirOut → DirOut) (x : Fld) : (s.modDout o h).f x = s.f x := rfl
@[simp] theorem Block.modDout_on (s : Block) (o : Nat) (h : DirOut → DirOut) (x : Fld) : (s.modDout o h).on x = s.on x := rfl

/-! ## `modDma` changes `mem` alone -/

@[simp] theorem Block.modDma_regs (s : Block) (c : Nat) (h : DmaSt → DmaSt) : (s.modDma c h).regs = s.regs := rfl
@[simp] theorem Block.modDma_time (s : Block) (c : Nat) (h : DmaSt → DmaSt) : (s.modDma c h).time = s.time := rfl
@[simp] theorem Block.modDma_freeK (s : Block) (c : Nat) (h : DmaSt → DmaSt) : (s.modDma c h).freeK = s.freeK := rfl
@[simp] theorem Block.modDma_host (s : Block) (c : Nat) (h : DmaSt → DmaSt) : (s.modDma c h).host = s.host := rfl
@[simp] theorem Block.modDma_ledger (s : Block) (c : Nat) (h : DmaSt → DmaSt) : (s.modDma c h).ledger = s.ledger := rfl
@[simp] theorem Block.modDma_core (s : Block) (c : Nat) (h : DmaSt → DmaSt) : (s.modDma c h).core = s.core := rfl
@[simp] theorem Block.modDma_cells (s : Block) (c : Nat) (h : DmaSt → DmaSt) : (s.modDma c h).cells = s.cells := rfl
@[simp] theorem Block.modDma_ports (s : Block) (c : Nat) (h : DmaSt → DmaSt) : (s.modDma c h).ports = s.ports := rfl
@[simp] theorem Block.modDma_chains (s : Block) (c : Nat) (h : DmaSt → DmaSt) : (s.modDma c h).chains = s.chains := rfl
@[simp] theorem Block.modDma_dir (s : Block) (c : Nat) (h : DmaSt → DmaSt) : (s.modDma c h).dir = s.dir := rfl
@[simp] theorem Block.modDma_graph (s : Block) (c : Nat) (h : DmaSt → DmaSt) : (s.modDma c h).graph = s.graph := rfl
@[simp] theorem Block.modDma_sap (s : Block) (c : Nat) (h : DmaSt → DmaSt) : (s.modDma c h).sap = s.sap := rfl
@[simp] theorem Block.modDma_spk (s : Block) (c : Nat) (h : DmaSt → DmaSt) : (s.modDma c h).spk = s.spk := rfl
@[simp] theorem Block.modDma_csc (s : Block) (c : Nat) (h : DmaSt → DmaSt) : (s.modDma c h).csc = s.csc := rfl
@[simp] theorem Block.modDma_clk (s : Block) (c : Nat) (h : DmaSt → DmaSt) : (s.modDma c h).clk = s.clk := rfl
@[simp] theorem Block.modDma_net (s : Block) (c : Nat) (h : DmaSt → DmaSt) : (s.modDma c h).net = s.net := rfl
@[simp] theorem Block.modDma_img (s : Block) (c : Nat) (h : DmaSt → DmaSt) : (s.modDma c h).img = s.img := rfl
@[simp] theorem Block.modDma_pwr (s : Block) (c : Nat) (h : DmaSt → DmaSt) : (s.modDma c h).pwr = s.pwr := rfl
@[simp] theorem Block.modDma_lsn (s : Block) (c : Nat) (h : DmaSt → DmaSt) : (s.modDma c h).lsn = s.lsn := rfl
@[simp] theorem Block.modDma_bst (s : Block) (c : Nat) (h : DmaSt → DmaSt) : (s.modDma c h).bst = s.bst := rfl
@[simp] theorem Block.modDma_otp (s : Block) (c : Nat) (h : DmaSt → DmaSt) : (s.modDma c h).otp = s.otp := rfl
@[simp] theorem Block.modDma_word (s : Block) (c : Nat) (h : DmaSt → DmaSt) (b : Nat) : (s.modDma c h).word b = s.word b := rfl
@[simp] theorem Block.modDma_f (s : Block) (c : Nat) (h : DmaSt → DmaSt) (x : Fld) : (s.modDma c h).f x = s.f x := rfl
@[simp] theorem Block.modDma_on (s : Block) (c : Nat) (h : DmaSt → DmaSt) (x : Fld) : (s.modDma c h).on x = s.on x := rfl

/-! ## `modPort` changes `net` alone -/

@[simp] theorem Block.modPort_regs (s : Block) (p : Nat) (g : PortSt → PortSt) : (s.modPort p g).regs = s.regs := rfl
@[simp] theorem Block.modPort_time (s : Block) (p : Nat) (g : PortSt → PortSt) : (s.modPort p g).time = s.time := rfl
@[simp] theorem Block.modPort_freeK (s : Block) (p : Nat) (g : PortSt → PortSt) : (s.modPort p g).freeK = s.freeK := rfl
@[simp] theorem Block.modPort_host (s : Block) (p : Nat) (g : PortSt → PortSt) : (s.modPort p g).host = s.host := rfl
@[simp] theorem Block.modPort_ledger (s : Block) (p : Nat) (g : PortSt → PortSt) : (s.modPort p g).ledger = s.ledger := rfl
@[simp] theorem Block.modPort_core (s : Block) (p : Nat) (g : PortSt → PortSt) : (s.modPort p g).core = s.core := rfl
@[simp] theorem Block.modPort_cells (s : Block) (p : Nat) (g : PortSt → PortSt) : (s.modPort p g).cells = s.cells := rfl
@[simp] theorem Block.modPort_ports (s : Block) (p : Nat) (g : PortSt → PortSt) : (s.modPort p g).ports = s.ports := rfl
@[simp] theorem Block.modPort_chains (s : Block) (p : Nat) (g : PortSt → PortSt) : (s.modPort p g).chains = s.chains := rfl
@[simp] theorem Block.modPort_dir (s : Block) (p : Nat) (g : PortSt → PortSt) : (s.modPort p g).dir = s.dir := rfl
@[simp] theorem Block.modPort_graph (s : Block) (p : Nat) (g : PortSt → PortSt) : (s.modPort p g).graph = s.graph := rfl
@[simp] theorem Block.modPort_sap (s : Block) (p : Nat) (g : PortSt → PortSt) : (s.modPort p g).sap = s.sap := rfl
@[simp] theorem Block.modPort_spk (s : Block) (p : Nat) (g : PortSt → PortSt) : (s.modPort p g).spk = s.spk := rfl
@[simp] theorem Block.modPort_csc (s : Block) (p : Nat) (g : PortSt → PortSt) : (s.modPort p g).csc = s.csc := rfl
@[simp] theorem Block.modPort_clk (s : Block) (p : Nat) (g : PortSt → PortSt) : (s.modPort p g).clk = s.clk := rfl
@[simp] theorem Block.modPort_mem (s : Block) (p : Nat) (g : PortSt → PortSt) : (s.modPort p g).mem = s.mem := rfl
@[simp] theorem Block.modPort_img (s : Block) (p : Nat) (g : PortSt → PortSt) : (s.modPort p g).img = s.img := rfl
@[simp] theorem Block.modPort_pwr (s : Block) (p : Nat) (g : PortSt → PortSt) : (s.modPort p g).pwr = s.pwr := rfl
@[simp] theorem Block.modPort_lsn (s : Block) (p : Nat) (g : PortSt → PortSt) : (s.modPort p g).lsn = s.lsn := rfl
@[simp] theorem Block.modPort_bst (s : Block) (p : Nat) (g : PortSt → PortSt) : (s.modPort p g).bst = s.bst := rfl
@[simp] theorem Block.modPort_otp (s : Block) (p : Nat) (g : PortSt → PortSt) : (s.modPort p g).otp = s.otp := rfl
@[simp] theorem Block.modPort_word (s : Block) (p : Nat) (g : PortSt → PortSt) (b : Nat) : (s.modPort p g).word b = s.word b := rfl
@[simp] theorem Block.modPort_f (s : Block) (p : Nat) (g : PortSt → PortSt) (x : Fld) : (s.modPort p g).f x = s.f x := rfl
@[simp] theorem Block.modPort_on (s : Block) (p : Nat) (g : PortSt → PortSt) (x : Fld) : (s.modPort p g).on x = s.on x := rfl

/-! ## `modGraft` changes `img` alone -/

@[simp] theorem Block.modGraft_regs (s : Block) (h : Graft → Graft) : (s.modGraft h).regs = s.regs := rfl
@[simp] theorem Block.modGraft_time (s : Block) (h : Graft → Graft) : (s.modGraft h).time = s.time := rfl
@[simp] theorem Block.modGraft_freeK (s : Block) (h : Graft → Graft) : (s.modGraft h).freeK = s.freeK := rfl
@[simp] theorem Block.modGraft_host (s : Block) (h : Graft → Graft) : (s.modGraft h).host = s.host := rfl
@[simp] theorem Block.modGraft_ledger (s : Block) (h : Graft → Graft) : (s.modGraft h).ledger = s.ledger := rfl
@[simp] theorem Block.modGraft_core (s : Block) (h : Graft → Graft) : (s.modGraft h).core = s.core := rfl
@[simp] theorem Block.modGraft_cells (s : Block) (h : Graft → Graft) : (s.modGraft h).cells = s.cells := rfl
@[simp] theorem Block.modGraft_ports (s : Block) (h : Graft → Graft) : (s.modGraft h).ports = s.ports := rfl
@[simp] theorem Block.modGraft_chains (s : Block) (h : Graft → Graft) : (s.modGraft h).chains = s.chains := rfl
@[simp] theorem Block.modGraft_dir (s : Block) (h : Graft → Graft) : (s.modGraft h).dir = s.dir := rfl
@[simp] theorem Block.modGraft_graph (s : Block) (h : Graft → Graft) : (s.modGraft h).graph = s.graph := rfl
@[simp] theorem Block.modGraft_sap (s : Block) (h : Graft → Graft) : (s.modGraft h).sap = s.sap := rfl
@[simp] theorem Block.modGraft_spk (s : Block) (h : Graft → Graft) : (s.modGraft h).spk = s.spk := rfl
@[simp] theorem Block.modGraft_csc (s : Block) (h : Graft → Graft) : (s.modGraft h).csc = s.csc := rfl
@[simp] theorem Block.modGraft_clk (s : Block) (h : Graft → Graft) : (s.modGraft h).clk = s.clk := rfl
@[simp] theorem Block.modGraft_net (s : Block) (h : Graft → Graft) : (s.modGraft h).net = s.net := rfl
@[simp] theorem Block.modGraft_mem (s : Block) (h : Graft → Graft) : (s.modGraft h).mem = s.mem := rfl
@[simp] theorem Block.modGraft_pwr (s : Block) (h : Graft → Graft) : (s.modGraft h).pwr = s.pwr := rfl
@[simp] theorem Block.modGraft_lsn (s : Block) (h : Graft → Graft) : (s.modGraft h).lsn = s.lsn := rfl
@[simp] theorem Block.modGraft_bst (s : Block) (h : Graft → Graft) : (s.modGraft h).bst = s.bst := rfl
@[simp] theorem Block.modGraft_otp (s : Block) (h : Graft → Graft) : (s.modGraft h).otp = s.otp := rfl
@[simp] theorem Block.modGraft_word (s : Block) (h : Graft → Graft) (b : Nat) : (s.modGraft h).word b = s.word b := rfl
@[simp] theorem Block.modGraft_f (s : Block) (h : Graft → Graft) (x : Fld) : (s.modGraft h).f x = s.f x := rfl
@[simp] theorem Block.modGraft_on (s : Block) (h : Graft → Graft) (x : Fld) : (s.modGraft h).on x = s.on x := rfl

/-! ## `modSel` changes `graph` alone -/

@[simp] theorem Block.modSel_regs (s : Block) (k : Nat) (h : SelSt → SelSt) : (s.modSel k h).regs = s.regs := rfl
@[simp] theorem Block.modSel_time (s : Block) (k : Nat) (h : SelSt → SelSt) : (s.modSel k h).time = s.time := rfl
@[simp] theorem Block.modSel_freeK (s : Block) (k : Nat) (h : SelSt → SelSt) : (s.modSel k h).freeK = s.freeK := rfl
@[simp] theorem Block.modSel_host (s : Block) (k : Nat) (h : SelSt → SelSt) : (s.modSel k h).host = s.host := rfl
@[simp] theorem Block.modSel_ledger (s : Block) (k : Nat) (h : SelSt → SelSt) : (s.modSel k h).ledger = s.ledger := rfl
@[simp] theorem Block.modSel_core (s : Block) (k : Nat) (h : SelSt → SelSt) : (s.modSel k h).core = s.core := rfl
@[simp] theorem Block.modSel_cells (s : Block) (k : Nat) (h : SelSt → SelSt) : (s.modSel k h).cells = s.cells := rfl
@[simp] theorem Block.modSel_ports (s : Block) (k : Nat) (h : SelSt → SelSt) : (s.modSel k h).ports = s.ports := rfl
@[simp] theorem Block.modSel_chains (s : Block) (k : Nat) (h : SelSt → SelSt) : (s.modSel k h).chains = s.chains := rfl
@[simp] theorem Block.modSel_dir (s : Block) (k : Nat) (h : SelSt → SelSt) : (s.modSel k h).dir = s.dir := rfl
@[simp] theorem Block.modSel_sap (s : Block) (k : Nat) (h : SelSt → SelSt) : (s.modSel k h).sap = s.sap := rfl
@[simp] theorem Block.modSel_spk (s : Block) (k : Nat) (h : SelSt → SelSt) : (s.modSel k h).spk = s.spk := rfl
@[simp] theorem Block.modSel_csc (s : Block) (k : Nat) (h : SelSt → SelSt) : (s.modSel k h).csc = s.csc := rfl
@[simp] theorem Block.modSel_clk (s : Block) (k : Nat) (h : SelSt → SelSt) : (s.modSel k h).clk = s.clk := rfl
@[simp] theorem Block.modSel_net (s : Block) (k : Nat) (h : SelSt → SelSt) : (s.modSel k h).net = s.net := rfl
@[simp] theorem Block.modSel_mem (s : Block) (k : Nat) (h : SelSt → SelSt) : (s.modSel k h).mem = s.mem := rfl
@[simp] theorem Block.modSel_img (s : Block) (k : Nat) (h : SelSt → SelSt) : (s.modSel k h).img = s.img := rfl
@[simp] theorem Block.modSel_pwr (s : Block) (k : Nat) (h : SelSt → SelSt) : (s.modSel k h).pwr = s.pwr := rfl
@[simp] theorem Block.modSel_lsn (s : Block) (k : Nat) (h : SelSt → SelSt) : (s.modSel k h).lsn = s.lsn := rfl
@[simp] theorem Block.modSel_bst (s : Block) (k : Nat) (h : SelSt → SelSt) : (s.modSel k h).bst = s.bst := rfl
@[simp] theorem Block.modSel_otp (s : Block) (k : Nat) (h : SelSt → SelSt) : (s.modSel k h).otp = s.otp := rfl
@[simp] theorem Block.modSel_word (s : Block) (k : Nat) (h : SelSt → SelSt) (b : Nat) : (s.modSel k h).word b = s.word b := rfl
@[simp] theorem Block.modSel_f (s : Block) (k : Nat) (h : SelSt → SelSt) (x : Fld) : (s.modSel k h).f x = s.f x := rfl
@[simp] theorem Block.modSel_on (s : Block) (k : Nat) (h : SelSt → SelSt) (x : Fld) : (s.modSel k h).on x = s.on x := rfl

/-! ## `modHost` changes `host` alone -/

@[simp] theorem Block.modHost_regs (s : Block) (h : HostSt → HostSt) : (s.modHost h).regs = s.regs := rfl
@[simp] theorem Block.modHost_time (s : Block) (h : HostSt → HostSt) : (s.modHost h).time = s.time := rfl
@[simp] theorem Block.modHost_freeK (s : Block) (h : HostSt → HostSt) : (s.modHost h).freeK = s.freeK := rfl
@[simp] theorem Block.modHost_ledger (s : Block) (h : HostSt → HostSt) : (s.modHost h).ledger = s.ledger := rfl
@[simp] theorem Block.modHost_core (s : Block) (h : HostSt → HostSt) : (s.modHost h).core = s.core := rfl
@[simp] theorem Block.modHost_cells (s : Block) (h : HostSt → HostSt) : (s.modHost h).cells = s.cells := rfl
@[simp] theorem Block.modHost_ports (s : Block) (h : HostSt → HostSt) : (s.modHost h).ports = s.ports := rfl
@[simp] theorem Block.modHost_chains (s : Block) (h : HostSt → HostSt) : (s.modHost h).chains = s.chains := rfl
@[simp] theorem Block.modHost_dir (s : Block) (h : HostSt → HostSt) : (s.modHost h).dir = s.dir := rfl
@[simp] theorem Block.modHost_graph (s : Block) (h : HostSt → HostSt) : (s.modHost h).graph = s.graph := rfl
@[simp] theorem Block.modHost_sap (s : Block) (h : HostSt → HostSt) : (s.modHost h).sap = s.sap := rfl
@[simp] theorem Block.modHost_spk (s : Block) (h : HostSt → HostSt) : (s.modHost h).spk = s.spk := rfl
@[simp] theorem Block.modHost_csc (s : Block) (h : HostSt → HostSt) : (s.modHost h).csc = s.csc := rfl
@[simp] theorem Block.modHost_clk (s : Block) (h : HostSt → HostSt) : (s.modHost h).clk = s.clk := rfl
@[simp] theorem Block.modHost_net (s : Block) (h : HostSt → HostSt) : (s.modHost h).net = s.net := rfl
@[simp] theorem Block.modHost_mem (s : Block) (h : HostSt → HostSt) : (s.modHost h).mem = s.mem := rfl
@[simp] theorem Block.modHost_img (s : Block) (h : HostSt → HostSt) : (s.modHost h).img = s.img := rfl
@[simp] theorem Block.modHost_pwr (s : Block) (h : HostSt → HostSt) : (s.modHost h).pwr = s.pwr := rfl
@[simp] theorem Block.modHost_lsn (s : Block) (h : HostSt → HostSt) : (s.modHost h).lsn = s.lsn := rfl
@[simp] theorem Block.modHost_bst (s : Block) (h : HostSt → HostSt) : (s.modHost h).bst = s.bst := rfl
@[simp] theorem Block.modHost_otp (s : Block) (h : HostSt → HostSt) : (s.modHost h).otp = s.otp := rfl
@[simp] theorem Block.modHost_word (s : Block) (h : HostSt → HostSt) (b : Nat) : (s.modHost h).word b = s.word b := rfl
@[simp] theorem Block.modHost_f (s : Block) (h : HostSt → HostSt) (x : Fld) : (s.modHost h).f x = s.f x := rfl
@[simp] theorem Block.modHost_on (s : Block) (h : HostSt → HostSt) (x : Fld) : (s.modHost h).on x = s.on x := rfl

/-! ## `modImg` changes `img` alone -/

@[simp] theorem Block.modImg_regs (s : Block) (h : Img → Img) : (s.modImg h).regs = s.regs := rfl
@[simp] theorem Block.modImg_time (s : Block) (h : Img → Img) : (s.modImg h).time = s.time := rfl
@[simp] theorem Block.modImg_freeK (s : Block) (h : Img → Img) : (s.modImg h).freeK = s.freeK := rfl
@[simp] theorem Block.modImg_host (s : Block) (h : Img → Img) : (s.modImg h).host = s.host := rfl
@[simp] theorem Block.modImg_ledger (s : Block) (h : Img → Img) : (s.modImg h).ledger = s.ledger := rfl
@[simp] theorem Block.modImg_core (s : Block) (h : Img → Img) : (s.modImg h).core = s.core := rfl
@[simp] theorem Block.modImg_cells (s : Block) (h : Img → Img) : (s.modImg h).cells = s.cells := rfl
@[simp] theorem Block.modImg_ports (s : Block) (h : Img → Img) : (s.modImg h).ports = s.ports := rfl
@[simp] theorem Block.modImg_chains (s : Block) (h : Img → Img) : (s.modImg h).chains = s.chains := rfl
@[simp] theorem Block.modImg_dir (s : Block) (h : Img → Img) : (s.modImg h).dir = s.dir := rfl
@[simp] theorem Block.modImg_graph (s : Block) (h : Img → Img) : (s.modImg h).graph = s.graph := rfl
@[simp] theorem Block.modImg_sap (s : Block) (h : Img → Img) : (s.modImg h).sap = s.sap := rfl
@[simp] theorem Block.modImg_spk (s : Block) (h : Img → Img) : (s.modImg h).spk = s.spk := rfl
@[simp] theorem Block.modImg_csc (s : Block) (h : Img → Img) : (s.modImg h).csc = s.csc := rfl
@[simp] theorem Block.modImg_clk (s : Block) (h : Img → Img) : (s.modImg h).clk = s.clk := rfl
@[simp] theorem Block.modImg_net (s : Block) (h : Img → Img) : (s.modImg h).net = s.net := rfl
@[simp] theorem Block.modImg_mem (s : Block) (h : Img → Img) : (s.modImg h).mem = s.mem := rfl
@[simp] theorem Block.modImg_pwr (s : Block) (h : Img → Img) : (s.modImg h).pwr = s.pwr := rfl
@[simp] theorem Block.modImg_lsn (s : Block) (h : Img → Img) : (s.modImg h).lsn = s.lsn := rfl
@[simp] theorem Block.modImg_bst (s : Block) (h : Img → Img) : (s.modImg h).bst = s.bst := rfl
@[simp] theorem Block.modImg_otp (s : Block) (h : Img → Img) : (s.modImg h).otp = s.otp := rfl
@[simp] theorem Block.modImg_word (s : Block) (h : Img → Img) (b : Nat) : (s.modImg h).word b = s.word b := rfl
@[simp] theorem Block.modImg_f (s : Block) (h : Img → Img) (x : Fld) : (s.modImg h).f x = s.f x := rfl
@[simp] theorem Block.modImg_on (s : Block) (h : Img → Img) (x : Fld) : (s.modImg h).on x = s.on x := rfl

/-! ## `modLoad` changes `img` alone -/

@[simp] theorem Block.modLoad_regs (s : Block) (h : Load → Load) : (s.modLoad h).regs = s.regs := rfl
@[simp] theorem Block.modLoad_time (s : Block) (h : Load → Load) : (s.modLoad h).time = s.time := rfl
@[simp] theorem Block.modLoad_freeK (s : Block) (h : Load → Load) : (s.modLoad h).freeK = s.freeK := rfl
@[simp] theorem Block.modLoad_host (s : Block) (h : Load → Load) : (s.modLoad h).host = s.host := rfl
@[simp] theorem Block.modLoad_ledger (s : Block) (h : Load → Load) : (s.modLoad h).ledger = s.ledger := rfl
@[simp] theorem Block.modLoad_core (s : Block) (h : Load → Load) : (s.modLoad h).core = s.core := rfl
@[simp] theorem Block.modLoad_cells (s : Block) (h : Load → Load) : (s.modLoad h).cells = s.cells := rfl
@[simp] theorem Block.modLoad_ports (s : Block) (h : Load → Load) : (s.modLoad h).ports = s.ports := rfl
@[simp] theorem Block.modLoad_chains (s : Block) (h : Load → Load) : (s.modLoad h).chains = s.chains := rfl
@[simp] theorem Block.modLoad_dir (s : Block) (h : Load → Load) : (s.modLoad h).dir = s.dir := rfl
@[simp] theorem Block.modLoad_graph (s : Block) (h : Load → Load) : (s.modLoad h).graph = s.graph := rfl
@[simp] theorem Block.modLoad_sap (s : Block) (h : Load → Load) : (s.modLoad h).sap = s.sap := rfl
@[simp] theorem Block.modLoad_spk (s : Block) (h : Load → Load) : (s.modLoad h).spk = s.spk := rfl
@[simp] theorem Block.modLoad_csc (s : Block) (h : Load → Load) : (s.modLoad h).csc = s.csc := rfl
@[simp] theorem Block.modLoad_clk (s : Block) (h : Load → Load) : (s.modLoad h).clk = s.clk := rfl
@[simp] theorem Block.modLoad_net (s : Block) (h : Load → Load) : (s.modLoad h).net = s.net := rfl
@[simp] theorem Block.modLoad_mem (s : Block) (h : Load → Load) : (s.modLoad h).mem = s.mem := rfl
@[simp] theorem Block.modLoad_pwr (s : Block) (h : Load → Load) : (s.modLoad h).pwr = s.pwr := rfl
@[simp] theorem Block.modLoad_lsn (s : Block) (h : Load → Load) : (s.modLoad h).lsn = s.lsn := rfl
@[simp] theorem Block.modLoad_bst (s : Block) (h : Load → Load) : (s.modLoad h).bst = s.bst := rfl
@[simp] theorem Block.modLoad_otp (s : Block) (h : Load → Load) : (s.modLoad h).otp = s.otp := rfl
@[simp] theorem Block.modLoad_word (s : Block) (h : Load → Load) (b : Nat) : (s.modLoad h).word b = s.word b := rfl
@[simp] theorem Block.modLoad_f (s : Block) (h : Load → Load) (x : Fld) : (s.modLoad h).f x = s.f x := rfl
@[simp] theorem Block.modLoad_on (s : Block) (h : Load → Load) (x : Fld) : (s.modLoad h).on x = s.on x := rfl

/-! ## `modJack` changes `ports` alone -/

@[simp] theorem Block.modJack_regs (s : Block) (n : Nat) (h : JackSt → JackSt) : (s.modJack n h).regs = s.regs := rfl
@[simp] theorem Block.modJack_time (s : Block) (n : Nat) (h : JackSt → JackSt) : (s.modJack n h).time = s.time := rfl
@[simp] theorem Block.modJack_freeK (s : Block) (n : Nat) (h : JackSt → JackSt) : (s.modJack n h).freeK = s.freeK := rfl
@[simp] theorem Block.modJack_host (s : Block) (n : Nat) (h : JackSt → JackSt) : (s.modJack n h).host = s.host := rfl
@[simp] theorem Block.modJack_ledger (s : Block) (n : Nat) (h : JackSt → JackSt) : (s.modJack n h).ledger = s.ledger := rfl
@[simp] theorem Block.modJack_core (s : Block) (n : Nat) (h : JackSt → JackSt) : (s.modJack n h).core = s.core := rfl
@[simp] theorem Block.modJack_cells (s : Block) (n : Nat) (h : JackSt → JackSt) : (s.modJack n h).cells = s.cells := rfl
@[simp] theorem Block.modJack_chains (s : Block) (n : Nat) (h : JackSt → JackSt) : (s.modJack n h).chains = s.chains := rfl
@[simp] theorem Block.modJack_dir (s : Block) (n : Nat) (h : JackSt → JackSt) : (s.modJack n h).dir = s.dir := rfl
@[simp] theorem Block.modJack_graph (s : Block) (n : Nat) (h : JackSt → JackSt) : (s.modJack n h).graph = s.graph := rfl
@[simp] theorem Block.modJack_sap (s : Block) (n : Nat) (h : JackSt → JackSt) : (s.modJack n h).sap = s.sap := rfl
@[simp] theorem Block.modJack_spk (s : Block) (n : Nat) (h : JackSt → JackSt) : (s.modJack n h).spk = s.spk := rfl
@[simp] theorem Block.modJack_csc (s : Block) (n : Nat) (h : JackSt → JackSt) : (s.modJack n h).csc = s.csc := rfl
@[simp] theorem Block.modJack_clk (s : Block) (n : Nat) (h : JackSt → JackSt) : (s.modJack n h).clk = s.clk := rfl
@[simp] theorem Block.modJack_net (s : Block) (n : Nat) (h : JackSt → JackSt) : (s.modJack n h).net = s.net := rfl
@[simp] theorem Block.modJack_mem (s : Block) (n : Nat) (h : JackSt → JackSt) : (s.modJack n h).mem = s.mem := rfl
@[simp] theorem Block.modJack_img (s : Block) (n : Nat) (h : JackSt → JackSt) : (s.modJack n h).img = s.img := rfl
@[simp] theorem Block.modJack_pwr (s : Block) (n : Nat) (h : JackSt → JackSt) : (s.modJack n h).pwr = s.pwr := rfl
@[simp] theorem Block.modJack_lsn (s : Block) (n : Nat) (h : JackSt → JackSt) : (s.modJack n h).lsn = s.lsn := rfl
@[simp] theorem Block.modJack_bst (s : Block) (n : Nat) (h : JackSt → JackSt) : (s.modJack n h).bst = s.bst := rfl
@[simp] theorem Block.modJack_otp (s : Block) (n : Nat) (h : JackSt → JackSt) : (s.modJack n h).otp = s.otp := rfl
@[simp] theorem Block.modJack_word (s : Block) (n : Nat) (h : JackSt → JackSt) (b : Nat) : (s.modJack n h).word b = s.word b := rfl
@[simp] theorem Block.modJack_f (s : Block) (n : Nat) (h : JackSt → JackSt) (x : Fld) : (s.modJack n h).f x = s.f x := rfl
@[simp] theorem Block.modJack_on (s : Block) (n : Nat) (h : JackSt → JackSt) (x : Fld) : (s.modJack n h).on x = s.on x := rfl

/-! ## `modProt` changes `net` alone -/

@[simp] theorem Block.modProt_regs (s : Block) (i : Nat) (g : ProtSt → ProtSt) : (s.modProt i g).regs = s.regs := rfl
@[simp] theorem Block.modProt_time (s : Block) (i : Nat) (g : ProtSt → ProtSt) : (s.modProt i g).time = s.time := rfl
@[simp] theorem Block.modProt_freeK (s : Block) (i : Nat) (g : ProtSt → ProtSt) : (s.modProt i g).freeK = s.freeK := rfl
@[simp] theorem Block.modProt_host (s : Block) (i : Nat) (g : ProtSt → ProtSt) : (s.modProt i g).host = s.host := rfl
@[simp] theorem Block.modProt_ledger (s : Block) (i : Nat) (g : ProtSt → ProtSt) : (s.modProt i g).ledger = s.ledger := rfl
@[simp] theorem Block.modProt_core (s : Block) (i : Nat) (g : ProtSt → ProtSt) : (s.modProt i g).core = s.core := rfl
@[simp] theorem Block.modProt_cells (s : Block) (i : Nat) (g : ProtSt → ProtSt) : (s.modProt i g).cells = s.cells := rfl
@[simp] theorem Block.modProt_ports (s : Block) (i : Nat) (g : ProtSt → ProtSt) : (s.modProt i g).ports = s.ports := rfl
@[simp] theorem Block.modProt_chains (s : Block) (i : Nat) (g : ProtSt → ProtSt) : (s.modProt i g).chains = s.chains := rfl
@[simp] theorem Block.modProt_dir (s : Block) (i : Nat) (g : ProtSt → ProtSt) : (s.modProt i g).dir = s.dir := rfl
@[simp] theorem Block.modProt_graph (s : Block) (i : Nat) (g : ProtSt → ProtSt) : (s.modProt i g).graph = s.graph := rfl
@[simp] theorem Block.modProt_sap (s : Block) (i : Nat) (g : ProtSt → ProtSt) : (s.modProt i g).sap = s.sap := rfl
@[simp] theorem Block.modProt_spk (s : Block) (i : Nat) (g : ProtSt → ProtSt) : (s.modProt i g).spk = s.spk := rfl
@[simp] theorem Block.modProt_csc (s : Block) (i : Nat) (g : ProtSt → ProtSt) : (s.modProt i g).csc = s.csc := rfl
@[simp] theorem Block.modProt_clk (s : Block) (i : Nat) (g : ProtSt → ProtSt) : (s.modProt i g).clk = s.clk := rfl
@[simp] theorem Block.modProt_mem (s : Block) (i : Nat) (g : ProtSt → ProtSt) : (s.modProt i g).mem = s.mem := rfl
@[simp] theorem Block.modProt_img (s : Block) (i : Nat) (g : ProtSt → ProtSt) : (s.modProt i g).img = s.img := rfl
@[simp] theorem Block.modProt_pwr (s : Block) (i : Nat) (g : ProtSt → ProtSt) : (s.modProt i g).pwr = s.pwr := rfl
@[simp] theorem Block.modProt_lsn (s : Block) (i : Nat) (g : ProtSt → ProtSt) : (s.modProt i g).lsn = s.lsn := rfl
@[simp] theorem Block.modProt_bst (s : Block) (i : Nat) (g : ProtSt → ProtSt) : (s.modProt i g).bst = s.bst := rfl
@[simp] theorem Block.modProt_otp (s : Block) (i : Nat) (g : ProtSt → ProtSt) : (s.modProt i g).otp = s.otp := rfl
@[simp] theorem Block.modProt_word (s : Block) (i : Nat) (g : ProtSt → ProtSt) (b : Nat) : (s.modProt i g).word b = s.word b := rfl
@[simp] theorem Block.modProt_f (s : Block) (i : Nat) (g : ProtSt → ProtSt) (x : Fld) : (s.modProt i g).f x = s.f x := rfl
@[simp] theorem Block.modProt_on (s : Block) (i : Nat) (g : ProtSt → ProtSt) (x : Fld) : (s.modProt i g).on x = s.on x := rfl

/-! ## `modLsn` changes `lsn` alone -/

@[simp] theorem Block.modLsn_regs (s : Block) (h : Listen → Listen) : (s.modLsn h).regs = s.regs := rfl
@[simp] theorem Block.modLsn_time (s : Block) (h : Listen → Listen) : (s.modLsn h).time = s.time := rfl
@[simp] theorem Block.modLsn_freeK (s : Block) (h : Listen → Listen) : (s.modLsn h).freeK = s.freeK := rfl
@[simp] theorem Block.modLsn_host (s : Block) (h : Listen → Listen) : (s.modLsn h).host = s.host := rfl
@[simp] theorem Block.modLsn_ledger (s : Block) (h : Listen → Listen) : (s.modLsn h).ledger = s.ledger := rfl
@[simp] theorem Block.modLsn_core (s : Block) (h : Listen → Listen) : (s.modLsn h).core = s.core := rfl
@[simp] theorem Block.modLsn_cells (s : Block) (h : Listen → Listen) : (s.modLsn h).cells = s.cells := rfl
@[simp] theorem Block.modLsn_ports (s : Block) (h : Listen → Listen) : (s.modLsn h).ports = s.ports := rfl
@[simp] theorem Block.modLsn_chains (s : Block) (h : Listen → Listen) : (s.modLsn h).chains = s.chains := rfl
@[simp] theorem Block.modLsn_dir (s : Block) (h : Listen → Listen) : (s.modLsn h).dir = s.dir := rfl
@[simp] theorem Block.modLsn_graph (s : Block) (h : Listen → Listen) : (s.modLsn h).graph = s.graph := rfl
@[simp] theorem Block.modLsn_sap (s : Block) (h : Listen → Listen) : (s.modLsn h).sap = s.sap := rfl
@[simp] theorem Block.modLsn_spk (s : Block) (h : Listen → Listen) : (s.modLsn h).spk = s.spk := rfl
@[simp] theorem Block.modLsn_csc (s : Block) (h : Listen → Listen) : (s.modLsn h).csc = s.csc := rfl
@[simp] theorem Block.modLsn_clk (s : Block) (h : Listen → Listen) : (s.modLsn h).clk = s.clk := rfl
@[simp] theorem Block.modLsn_net (s : Block) (h : Listen → Listen) : (s.modLsn h).net = s.net := rfl
@[simp] theorem Block.modLsn_mem (s : Block) (h : Listen → Listen) : (s.modLsn h).mem = s.mem := rfl
@[simp] theorem Block.modLsn_img (s : Block) (h : Listen → Listen) : (s.modLsn h).img = s.img := rfl
@[simp] theorem Block.modLsn_pwr (s : Block) (h : Listen → Listen) : (s.modLsn h).pwr = s.pwr := rfl
@[simp] theorem Block.modLsn_bst (s : Block) (h : Listen → Listen) : (s.modLsn h).bst = s.bst := rfl
@[simp] theorem Block.modLsn_otp (s : Block) (h : Listen → Listen) : (s.modLsn h).otp = s.otp := rfl
@[simp] theorem Block.modLsn_word (s : Block) (h : Listen → Listen) (b : Nat) : (s.modLsn h).word b = s.word b := rfl
@[simp] theorem Block.modLsn_f (s : Block) (h : Listen → Listen) (x : Fld) : (s.modLsn h).f x = s.f x := rfl
@[simp] theorem Block.modLsn_on (s : Block) (h : Listen → Listen) (x : Fld) : (s.modLsn h).on x = s.on x := rfl

/-! ## `modMem` changes `mem` alone -/

@[simp] theorem Block.modMem_regs (s : Block) (h : Mem → Mem) : (s.modMem h).regs = s.regs := rfl
@[simp] theorem Block.modMem_time (s : Block) (h : Mem → Mem) : (s.modMem h).time = s.time := rfl
@[simp] theorem Block.modMem_freeK (s : Block) (h : Mem → Mem) : (s.modMem h).freeK = s.freeK := rfl
@[simp] theorem Block.modMem_host (s : Block) (h : Mem → Mem) : (s.modMem h).host = s.host := rfl
@[simp] theorem Block.modMem_ledger (s : Block) (h : Mem → Mem) : (s.modMem h).ledger = s.ledger := rfl
@[simp] theorem Block.modMem_core (s : Block) (h : Mem → Mem) : (s.modMem h).core = s.core := rfl
@[simp] theorem Block.modMem_cells (s : Block) (h : Mem → Mem) : (s.modMem h).cells = s.cells := rfl
@[simp] theorem Block.modMem_ports (s : Block) (h : Mem → Mem) : (s.modMem h).ports = s.ports := rfl
@[simp] theorem Block.modMem_chains (s : Block) (h : Mem → Mem) : (s.modMem h).chains = s.chains := rfl
@[simp] theorem Block.modMem_dir (s : Block) (h : Mem → Mem) : (s.modMem h).dir = s.dir := rfl
@[simp] theorem Block.modMem_graph (s : Block) (h : Mem → Mem) : (s.modMem h).graph = s.graph := rfl
@[simp] theorem Block.modMem_sap (s : Block) (h : Mem → Mem) : (s.modMem h).sap = s.sap := rfl
@[simp] theorem Block.modMem_spk (s : Block) (h : Mem → Mem) : (s.modMem h).spk = s.spk := rfl
@[simp] theorem Block.modMem_csc (s : Block) (h : Mem → Mem) : (s.modMem h).csc = s.csc := rfl
@[simp] theorem Block.modMem_clk (s : Block) (h : Mem → Mem) : (s.modMem h).clk = s.clk := rfl
@[simp] theorem Block.modMem_net (s : Block) (h : Mem → Mem) : (s.modMem h).net = s.net := rfl
@[simp] theorem Block.modMem_img (s : Block) (h : Mem → Mem) : (s.modMem h).img = s.img := rfl
@[simp] theorem Block.modMem_pwr (s : Block) (h : Mem → Mem) : (s.modMem h).pwr = s.pwr := rfl
@[simp] theorem Block.modMem_lsn (s : Block) (h : Mem → Mem) : (s.modMem h).lsn = s.lsn := rfl
@[simp] theorem Block.modMem_bst (s : Block) (h : Mem → Mem) : (s.modMem h).bst = s.bst := rfl
@[simp] theorem Block.modMem_otp (s : Block) (h : Mem → Mem) : (s.modMem h).otp = s.otp := rfl
@[simp] theorem Block.modMem_word (s : Block) (h : Mem → Mem) (b : Nat) : (s.modMem h).word b = s.word b := rfl
@[simp] theorem Block.modMem_f (s : Block) (h : Mem → Mem) (x : Fld) : (s.modMem h).f x = s.f x := rfl
@[simp] theorem Block.modMem_on (s : Block) (h : Mem → Mem) (x : Fld) : (s.modMem h).on x = s.on x := rfl

/-! ## `modPwr` changes `pwr` alone -/

@[simp] theorem Block.modPwr_regs (s : Block) (h : Pwr → Pwr) : (s.modPwr h).regs = s.regs := rfl
@[simp] theorem Block.modPwr_time (s : Block) (h : Pwr → Pwr) : (s.modPwr h).time = s.time := rfl
@[simp] theorem Block.modPwr_freeK (s : Block) (h : Pwr → Pwr) : (s.modPwr h).freeK = s.freeK := rfl
@[simp] theorem Block.modPwr_host (s : Block) (h : Pwr → Pwr) : (s.modPwr h).host = s.host := rfl
@[simp] theorem Block.modPwr_ledger (s : Block) (h : Pwr → Pwr) : (s.modPwr h).ledger = s.ledger := rfl
@[simp] theorem Block.modPwr_core (s : Block) (h : Pwr → Pwr) : (s.modPwr h).core = s.core := rfl
@[simp] theorem Block.modPwr_cells (s : Block) (h : Pwr → Pwr) : (s.modPwr h).cells = s.cells := rfl
@[simp] theorem Block.modPwr_ports (s : Block) (h : Pwr → Pwr) : (s.modPwr h).ports = s.ports := rfl
@[simp] theorem Block.modPwr_chains (s : Block) (h : Pwr → Pwr) : (s.modPwr h).chains = s.chains := rfl
@[simp] theorem Block.modPwr_dir (s : Block) (h : Pwr → Pwr) : (s.modPwr h).dir = s.dir := rfl
@[simp] theorem Block.modPwr_graph (s : Block) (h : Pwr → Pwr) : (s.modPwr h).graph = s.graph := rfl
@[simp] theorem Block.modPwr_sap (s : Block) (h : Pwr → Pwr) : (s.modPwr h).sap = s.sap := rfl
@[simp] theorem Block.modPwr_spk (s : Block) (h : Pwr → Pwr) : (s.modPwr h).spk = s.spk := rfl
@[simp] theorem Block.modPwr_csc (s : Block) (h : Pwr → Pwr) : (s.modPwr h).csc = s.csc := rfl
@[simp] theorem Block.modPwr_clk (s : Block) (h : Pwr → Pwr) : (s.modPwr h).clk = s.clk := rfl
@[simp] theorem Block.modPwr_net (s : Block) (h : Pwr → Pwr) : (s.modPwr h).net = s.net := rfl
@[simp] theorem Block.modPwr_mem (s : Block) (h : Pwr → Pwr) : (s.modPwr h).mem = s.mem := rfl
@[simp] theorem Block.modPwr_img (s : Block) (h : Pwr → Pwr) : (s.modPwr h).img = s.img := rfl
@[simp] theorem Block.modPwr_lsn (s : Block) (h : Pwr → Pwr) : (s.modPwr h).lsn = s.lsn := rfl
@[simp] theorem Block.modPwr_bst (s : Block) (h : Pwr → Pwr) : (s.modPwr h).bst = s.bst := rfl
@[simp] theorem Block.modPwr_otp (s : Block) (h : Pwr → Pwr) : (s.modPwr h).otp = s.otp := rfl
@[simp] theorem Block.modPwr_word (s : Block) (h : Pwr → Pwr) (b : Nat) : (s.modPwr h).word b = s.word b := rfl
@[simp] theorem Block.modPwr_f (s : Block) (h : Pwr → Pwr) (x : Fld) : (s.modPwr h).f x = s.f x := rfl
@[simp] theorem Block.modPwr_on (s : Block) (h : Pwr → Pwr) (x : Fld) : (s.modPwr h).on x = s.on x := rfl

/-! ## `modIn` changes `ports` alone -/

@[simp] theorem Block.modIn_regs (s : Block) (n : Nat) (h : InSt → InSt) : (s.modIn n h).regs = s.regs := rfl
@[simp] theorem Block.modIn_time (s : Block) (n : Nat) (h : InSt → InSt) : (s.modIn n h).time = s.time := rfl
@[simp] theorem Block.modIn_freeK (s : Block) (n : Nat) (h : InSt → InSt) : (s.modIn n h).freeK = s.freeK := rfl
@[simp] theorem Block.modIn_host (s : Block) (n : Nat) (h : InSt → InSt) : (s.modIn n h).host = s.host := rfl
@[simp] theorem Block.modIn_ledger (s : Block) (n : Nat) (h : InSt → InSt) : (s.modIn n h).ledger = s.ledger := rfl
@[simp] theorem Block.modIn_core (s : Block) (n : Nat) (h : InSt → InSt) : (s.modIn n h).core = s.core := rfl
@[simp] theorem Block.modIn_cells (s : Block) (n : Nat) (h : InSt → InSt) : (s.modIn n h).cells = s.cells := rfl
@[simp] theorem Block.modIn_chains (s : Block) (n : Nat) (h : InSt → InSt) : (s.modIn n h).chains = s.chains := rfl
@[simp] theorem Block.modIn_dir (s : Block) (n : Nat) (h : InSt → InSt) : (s.modIn n h).dir = s.dir := rfl
@[simp] theorem Block.modIn_graph (s : Block) (n : Nat) (h : InSt → InSt) : (s.modIn n h).graph = s.graph := rfl
@[simp] theorem Block.modIn_sap (s : Block) (n : Nat) (h : InSt → InSt) : (s.modIn n h).sap = s.sap := rfl
@[simp] theorem Block.modIn_spk (s : Block) (n : Nat) (h : InSt → InSt) : (s.modIn n h).spk = s.spk := rfl
@[simp] theorem Block.modIn_csc (s : Block) (n : Nat) (h : InSt → InSt) : (s.modIn n h).csc = s.csc := rfl
@[simp] theorem Block.modIn_clk (s : Block) (n : Nat) (h : InSt → InSt) : (s.modIn n h).clk = s.clk := rfl
@[simp] theorem Block.modIn_net (s : Block) (n : Nat) (h : InSt → InSt) : (s.modIn n h).net = s.net := rfl
@[simp] theorem Block.modIn_mem (s : Block) (n : Nat) (h : InSt → InSt) : (s.modIn n h).mem = s.mem := rfl
@[simp] theorem Block.modIn_img (s : Block) (n : Nat) (h : InSt → InSt) : (s.modIn n h).img = s.img := rfl
@[simp] theorem Block.modIn_pwr (s : Block) (n : Nat) (h : InSt → InSt) : (s.modIn n h).pwr = s.pwr := rfl
@[simp] theorem Block.modIn_lsn (s : Block) (n : Nat) (h : InSt → InSt) : (s.modIn n h).lsn = s.lsn := rfl
@[simp] theorem Block.modIn_bst (s : Block) (n : Nat) (h : InSt → InSt) : (s.modIn n h).bst = s.bst := rfl
@[simp] theorem Block.modIn_otp (s : Block) (n : Nat) (h : InSt → InSt) : (s.modIn n h).otp = s.otp := rfl
@[simp] theorem Block.modIn_word (s : Block) (n : Nat) (h : InSt → InSt) (b : Nat) : (s.modIn n h).word b = s.word b := rfl
@[simp] theorem Block.modIn_f (s : Block) (n : Nat) (h : InSt → InSt) (x : Fld) : (s.modIn n h).f x = s.f x := rfl
@[simp] theorem Block.modIn_on (s : Block) (n : Nat) (h : InSt → InSt) (x : Fld) : (s.modIn n h).on x = s.on x := rfl

/-! ## `modBias` changes `ports` alone -/

@[simp] theorem Block.modBias_regs (s : Block) (m : Nat) (h : BiasSt → BiasSt) : (s.modBias m h).regs = s.regs := rfl
@[simp] theorem Block.modBias_time (s : Block) (m : Nat) (h : BiasSt → BiasSt) : (s.modBias m h).time = s.time := rfl
@[simp] theorem Block.modBias_freeK (s : Block) (m : Nat) (h : BiasSt → BiasSt) : (s.modBias m h).freeK = s.freeK := rfl
@[simp] theorem Block.modBias_host (s : Block) (m : Nat) (h : BiasSt → BiasSt) : (s.modBias m h).host = s.host := rfl
@[simp] theorem Block.modBias_ledger (s : Block) (m : Nat) (h : BiasSt → BiasSt) : (s.modBias m h).ledger = s.ledger := rfl
@[simp] theorem Block.modBias_core (s : Block) (m : Nat) (h : BiasSt → BiasSt) : (s.modBias m h).core = s.core := rfl
@[simp] theorem Block.modBias_cells (s : Block) (m : Nat) (h : BiasSt → BiasSt) : (s.modBias m h).cells = s.cells := rfl
@[simp] theorem Block.modBias_chains (s : Block) (m : Nat) (h : BiasSt → BiasSt) : (s.modBias m h).chains = s.chains := rfl
@[simp] theorem Block.modBias_dir (s : Block) (m : Nat) (h : BiasSt → BiasSt) : (s.modBias m h).dir = s.dir := rfl
@[simp] theorem Block.modBias_graph (s : Block) (m : Nat) (h : BiasSt → BiasSt) : (s.modBias m h).graph = s.graph := rfl
@[simp] theorem Block.modBias_sap (s : Block) (m : Nat) (h : BiasSt → BiasSt) : (s.modBias m h).sap = s.sap := rfl
@[simp] theorem Block.modBias_spk (s : Block) (m : Nat) (h : BiasSt → BiasSt) : (s.modBias m h).spk = s.spk := rfl
@[simp] theorem Block.modBias_csc (s : Block) (m : Nat) (h : BiasSt → BiasSt) : (s.modBias m h).csc = s.csc := rfl
@[simp] theorem Block.modBias_clk (s : Block) (m : Nat) (h : BiasSt → BiasSt) : (s.modBias m h).clk = s.clk := rfl
@[simp] theorem Block.modBias_net (s : Block) (m : Nat) (h : BiasSt → BiasSt) : (s.modBias m h).net = s.net := rfl
@[simp] theorem Block.modBias_mem (s : Block) (m : Nat) (h : BiasSt → BiasSt) : (s.modBias m h).mem = s.mem := rfl
@[simp] theorem Block.modBias_img (s : Block) (m : Nat) (h : BiasSt → BiasSt) : (s.modBias m h).img = s.img := rfl
@[simp] theorem Block.modBias_pwr (s : Block) (m : Nat) (h : BiasSt → BiasSt) : (s.modBias m h).pwr = s.pwr := rfl
@[simp] theorem Block.modBias_lsn (s : Block) (m : Nat) (h : BiasSt → BiasSt) : (s.modBias m h).lsn = s.lsn := rfl
@[simp] theorem Block.modBias_bst (s : Block) (m : Nat) (h : BiasSt → BiasSt) : (s.modBias m h).bst = s.bst := rfl
@[simp] theorem Block.modBias_otp (s : Block) (m : Nat) (h : BiasSt → BiasSt) : (s.modBias m h).otp = s.otp := rfl
@[simp] theorem Block.modBias_word (s : Block) (m : Nat) (h : BiasSt → BiasSt) (b : Nat) : (s.modBias m h).word b = s.word b := rfl
@[simp] theorem Block.modBias_f (s : Block) (m : Nat) (h : BiasSt → BiasSt) (x : Fld) : (s.modBias m h).f x = s.f x := rfl
@[simp] theorem Block.modBias_on (s : Block) (m : Nat) (h : BiasSt → BiasSt) (x : Fld) : (s.modBias m h).on x = s.on x := rfl

/-! ## `modSap` changes `sap` alone -/

@[simp] theorem Block.modSap_regs (s : Block) (p : Nat) (h : SapSt → SapSt) : (s.modSap p h).regs = s.regs := rfl
@[simp] theorem Block.modSap_time (s : Block) (p : Nat) (h : SapSt → SapSt) : (s.modSap p h).time = s.time := rfl
@[simp] theorem Block.modSap_freeK (s : Block) (p : Nat) (h : SapSt → SapSt) : (s.modSap p h).freeK = s.freeK := rfl
@[simp] theorem Block.modSap_host (s : Block) (p : Nat) (h : SapSt → SapSt) : (s.modSap p h).host = s.host := rfl
@[simp] theorem Block.modSap_ledger (s : Block) (p : Nat) (h : SapSt → SapSt) : (s.modSap p h).ledger = s.ledger := rfl
@[simp] theorem Block.modSap_core (s : Block) (p : Nat) (h : SapSt → SapSt) : (s.modSap p h).core = s.core := rfl
@[simp] theorem Block.modSap_cells (s : Block) (p : Nat) (h : SapSt → SapSt) : (s.modSap p h).cells = s.cells := rfl
@[simp] theorem Block.modSap_ports (s : Block) (p : Nat) (h : SapSt → SapSt) : (s.modSap p h).ports = s.ports := rfl
@[simp] theorem Block.modSap_chains (s : Block) (p : Nat) (h : SapSt → SapSt) : (s.modSap p h).chains = s.chains := rfl
@[simp] theorem Block.modSap_dir (s : Block) (p : Nat) (h : SapSt → SapSt) : (s.modSap p h).dir = s.dir := rfl
@[simp] theorem Block.modSap_graph (s : Block) (p : Nat) (h : SapSt → SapSt) : (s.modSap p h).graph = s.graph := rfl
@[simp] theorem Block.modSap_spk (s : Block) (p : Nat) (h : SapSt → SapSt) : (s.modSap p h).spk = s.spk := rfl
@[simp] theorem Block.modSap_csc (s : Block) (p : Nat) (h : SapSt → SapSt) : (s.modSap p h).csc = s.csc := rfl
@[simp] theorem Block.modSap_clk (s : Block) (p : Nat) (h : SapSt → SapSt) : (s.modSap p h).clk = s.clk := rfl
@[simp] theorem Block.modSap_net (s : Block) (p : Nat) (h : SapSt → SapSt) : (s.modSap p h).net = s.net := rfl
@[simp] theorem Block.modSap_mem (s : Block) (p : Nat) (h : SapSt → SapSt) : (s.modSap p h).mem = s.mem := rfl
@[simp] theorem Block.modSap_img (s : Block) (p : Nat) (h : SapSt → SapSt) : (s.modSap p h).img = s.img := rfl
@[simp] theorem Block.modSap_pwr (s : Block) (p : Nat) (h : SapSt → SapSt) : (s.modSap p h).pwr = s.pwr := rfl
@[simp] theorem Block.modSap_lsn (s : Block) (p : Nat) (h : SapSt → SapSt) : (s.modSap p h).lsn = s.lsn := rfl
@[simp] theorem Block.modSap_bst (s : Block) (p : Nat) (h : SapSt → SapSt) : (s.modSap p h).bst = s.bst := rfl
@[simp] theorem Block.modSap_otp (s : Block) (p : Nat) (h : SapSt → SapSt) : (s.modSap p h).otp = s.otp := rfl
@[simp] theorem Block.modSap_word (s : Block) (p : Nat) (h : SapSt → SapSt) (b : Nat) : (s.modSap p h).word b = s.word b := rfl
@[simp] theorem Block.modSap_f (s : Block) (p : Nat) (h : SapSt → SapSt) (x : Fld) : (s.modSap p h).f x = s.f x := rfl
@[simp] theorem Block.modSap_on (s : Block) (p : Nat) (h : SapSt → SapSt) (x : Fld) : (s.modSap p h).on x = s.on x := rfl

/-! ## `modSrc` changes `sap` alone -/

@[simp] theorem Block.modSrc_regs (s : Block) (c : Nat) (h : SrcSt → SrcSt) : (s.modSrc c h).regs = s.regs := rfl
@[simp] theorem Block.modSrc_time (s : Block) (c : Nat) (h : SrcSt → SrcSt) : (s.modSrc c h).time = s.time := rfl
@[simp] theorem Block.modSrc_freeK (s : Block) (c : Nat) (h : SrcSt → SrcSt) : (s.modSrc c h).freeK = s.freeK := rfl
@[simp] theorem Block.modSrc_host (s : Block) (c : Nat) (h : SrcSt → SrcSt) : (s.modSrc c h).host = s.host := rfl
@[simp] theorem Block.modSrc_ledger (s : Block) (c : Nat) (h : SrcSt → SrcSt) : (s.modSrc c h).ledger = s.ledger := rfl
@[simp] theorem Block.modSrc_core (s : Block) (c : Nat) (h : SrcSt → SrcSt) : (s.modSrc c h).core = s.core := rfl
@[simp] theorem Block.modSrc_cells (s : Block) (c : Nat) (h : SrcSt → SrcSt) : (s.modSrc c h).cells = s.cells := rfl
@[simp] theorem Block.modSrc_ports (s : Block) (c : Nat) (h : SrcSt → SrcSt) : (s.modSrc c h).ports = s.ports := rfl
@[simp] theorem Block.modSrc_chains (s : Block) (c : Nat) (h : SrcSt → SrcSt) : (s.modSrc c h).chains = s.chains := rfl
@[simp] theorem Block.modSrc_dir (s : Block) (c : Nat) (h : SrcSt → SrcSt) : (s.modSrc c h).dir = s.dir := rfl
@[simp] theorem Block.modSrc_graph (s : Block) (c : Nat) (h : SrcSt → SrcSt) : (s.modSrc c h).graph = s.graph := rfl
@[simp] theorem Block.modSrc_spk (s : Block) (c : Nat) (h : SrcSt → SrcSt) : (s.modSrc c h).spk = s.spk := rfl
@[simp] theorem Block.modSrc_csc (s : Block) (c : Nat) (h : SrcSt → SrcSt) : (s.modSrc c h).csc = s.csc := rfl
@[simp] theorem Block.modSrc_clk (s : Block) (c : Nat) (h : SrcSt → SrcSt) : (s.modSrc c h).clk = s.clk := rfl
@[simp] theorem Block.modSrc_net (s : Block) (c : Nat) (h : SrcSt → SrcSt) : (s.modSrc c h).net = s.net := rfl
@[simp] theorem Block.modSrc_mem (s : Block) (c : Nat) (h : SrcSt → SrcSt) : (s.modSrc c h).mem = s.mem := rfl
@[simp] theorem Block.modSrc_img (s : Block) (c : Nat) (h : SrcSt → SrcSt) : (s.modSrc c h).img = s.img := rfl
@[simp] theorem Block.modSrc_pwr (s : Block) (c : Nat) (h : SrcSt → SrcSt) : (s.modSrc c h).pwr = s.pwr := rfl
@[simp] theorem Block.modSrc_lsn (s : Block) (c : Nat) (h : SrcSt → SrcSt) : (s.modSrc c h).lsn = s.lsn := rfl
@[simp] theorem Block.modSrc_bst (s : Block) (c : Nat) (h : SrcSt → SrcSt) : (s.modSrc c h).bst = s.bst := rfl
@[simp] theorem Block.modSrc_otp (s : Block) (c : Nat) (h : SrcSt → SrcSt) : (s.modSrc c h).otp = s.otp := rfl
@[simp] theorem Block.modSrc_word (s : Block) (c : Nat) (h : SrcSt → SrcSt) (b : Nat) : (s.modSrc c h).word b = s.word b := rfl
@[simp] theorem Block.modSrc_f (s : Block) (c : Nat) (h : SrcSt → SrcSt) (x : Fld) : (s.modSrc c h).f x = s.f x := rfl
@[simp] theorem Block.modSrc_on (s : Block) (c : Nat) (h : SrcSt → SrcSt) (x : Fld) : (s.modSrc c h).on x = s.on x := rfl

/-! ## `modSpk` changes `spk` alone -/

@[simp] theorem Block.modSpk_regs (s : Block) (c : Nat) (h : SpkSt → SpkSt) : (s.modSpk c h).regs = s.regs := rfl
@[simp] theorem Block.modSpk_time (s : Block) (c : Nat) (h : SpkSt → SpkSt) : (s.modSpk c h).time = s.time := rfl
@[simp] theorem Block.modSpk_freeK (s : Block) (c : Nat) (h : SpkSt → SpkSt) : (s.modSpk c h).freeK = s.freeK := rfl
@[simp] theorem Block.modSpk_host (s : Block) (c : Nat) (h : SpkSt → SpkSt) : (s.modSpk c h).host = s.host := rfl
@[simp] theorem Block.modSpk_ledger (s : Block) (c : Nat) (h : SpkSt → SpkSt) : (s.modSpk c h).ledger = s.ledger := rfl
@[simp] theorem Block.modSpk_core (s : Block) (c : Nat) (h : SpkSt → SpkSt) : (s.modSpk c h).core = s.core := rfl
@[simp] theorem Block.modSpk_cells (s : Block) (c : Nat) (h : SpkSt → SpkSt) : (s.modSpk c h).cells = s.cells := rfl
@[simp] theorem Block.modSpk_ports (s : Block) (c : Nat) (h : SpkSt → SpkSt) : (s.modSpk c h).ports = s.ports := rfl
@[simp] theorem Block.modSpk_chains (s : Block) (c : Nat) (h : SpkSt → SpkSt) : (s.modSpk c h).chains = s.chains := rfl
@[simp] theorem Block.modSpk_dir (s : Block) (c : Nat) (h : SpkSt → SpkSt) : (s.modSpk c h).dir = s.dir := rfl
@[simp] theorem Block.modSpk_graph (s : Block) (c : Nat) (h : SpkSt → SpkSt) : (s.modSpk c h).graph = s.graph := rfl
@[simp] theorem Block.modSpk_sap (s : Block) (c : Nat) (h : SpkSt → SpkSt) : (s.modSpk c h).sap = s.sap := rfl
@[simp] theorem Block.modSpk_csc (s : Block) (c : Nat) (h : SpkSt → SpkSt) : (s.modSpk c h).csc = s.csc := rfl
@[simp] theorem Block.modSpk_clk (s : Block) (c : Nat) (h : SpkSt → SpkSt) : (s.modSpk c h).clk = s.clk := rfl
@[simp] theorem Block.modSpk_net (s : Block) (c : Nat) (h : SpkSt → SpkSt) : (s.modSpk c h).net = s.net := rfl
@[simp] theorem Block.modSpk_mem (s : Block) (c : Nat) (h : SpkSt → SpkSt) : (s.modSpk c h).mem = s.mem := rfl
@[simp] theorem Block.modSpk_img (s : Block) (c : Nat) (h : SpkSt → SpkSt) : (s.modSpk c h).img = s.img := rfl
@[simp] theorem Block.modSpk_pwr (s : Block) (c : Nat) (h : SpkSt → SpkSt) : (s.modSpk c h).pwr = s.pwr := rfl
@[simp] theorem Block.modSpk_lsn (s : Block) (c : Nat) (h : SpkSt → SpkSt) : (s.modSpk c h).lsn = s.lsn := rfl
@[simp] theorem Block.modSpk_bst (s : Block) (c : Nat) (h : SpkSt → SpkSt) : (s.modSpk c h).bst = s.bst := rfl
@[simp] theorem Block.modSpk_otp (s : Block) (c : Nat) (h : SpkSt → SpkSt) : (s.modSpk c h).otp = s.otp := rfl
@[simp] theorem Block.modSpk_word (s : Block) (c : Nat) (h : SpkSt → SpkSt) (b : Nat) : (s.modSpk c h).word b = s.word b := rfl
@[simp] theorem Block.modSpk_f (s : Block) (c : Nat) (h : SpkSt → SpkSt) (x : Fld) : (s.modSpk c h).f x = s.f x := rfl
@[simp] theorem Block.modSpk_on (s : Block) (c : Nat) (h : SpkSt → SpkSt) (x : Fld) : (s.modSpk c h).on x = s.on x := rfl

/-! ## `modXspi` changes `mem` alone -/

@[simp] theorem Block.modXspi_regs (s : Block) (h : Xspi → Xspi) : (s.modXspi h).regs = s.regs := rfl
@[simp] theorem Block.modXspi_time (s : Block) (h : Xspi → Xspi) : (s.modXspi h).time = s.time := rfl
@[simp] theorem Block.modXspi_freeK (s : Block) (h : Xspi → Xspi) : (s.modXspi h).freeK = s.freeK := rfl
@[simp] theorem Block.modXspi_host (s : Block) (h : Xspi → Xspi) : (s.modXspi h).host = s.host := rfl
@[simp] theorem Block.modXspi_ledger (s : Block) (h : Xspi → Xspi) : (s.modXspi h).ledger = s.ledger := rfl
@[simp] theorem Block.modXspi_core (s : Block) (h : Xspi → Xspi) : (s.modXspi h).core = s.core := rfl
@[simp] theorem Block.modXspi_cells (s : Block) (h : Xspi → Xspi) : (s.modXspi h).cells = s.cells := rfl
@[simp] theorem Block.modXspi_ports (s : Block) (h : Xspi → Xspi) : (s.modXspi h).ports = s.ports := rfl
@[simp] theorem Block.modXspi_chains (s : Block) (h : Xspi → Xspi) : (s.modXspi h).chains = s.chains := rfl
@[simp] theorem Block.modXspi_dir (s : Block) (h : Xspi → Xspi) : (s.modXspi h).dir = s.dir := rfl
@[simp] theorem Block.modXspi_graph (s : Block) (h : Xspi → Xspi) : (s.modXspi h).graph = s.graph := rfl
@[simp] theorem Block.modXspi_sap (s : Block) (h : Xspi → Xspi) : (s.modXspi h).sap = s.sap := rfl
@[simp] theorem Block.modXspi_spk (s : Block) (h : Xspi → Xspi) : (s.modXspi h).spk = s.spk := rfl
@[simp] theorem Block.modXspi_csc (s : Block) (h : Xspi → Xspi) : (s.modXspi h).csc = s.csc := rfl
@[simp] theorem Block.modXspi_clk (s : Block) (h : Xspi → Xspi) : (s.modXspi h).clk = s.clk := rfl
@[simp] theorem Block.modXspi_net (s : Block) (h : Xspi → Xspi) : (s.modXspi h).net = s.net := rfl
@[simp] theorem Block.modXspi_img (s : Block) (h : Xspi → Xspi) : (s.modXspi h).img = s.img := rfl
@[simp] theorem Block.modXspi_pwr (s : Block) (h : Xspi → Xspi) : (s.modXspi h).pwr = s.pwr := rfl
@[simp] theorem Block.modXspi_lsn (s : Block) (h : Xspi → Xspi) : (s.modXspi h).lsn = s.lsn := rfl
@[simp] theorem Block.modXspi_bst (s : Block) (h : Xspi → Xspi) : (s.modXspi h).bst = s.bst := rfl
@[simp] theorem Block.modXspi_otp (s : Block) (h : Xspi → Xspi) : (s.modXspi h).otp = s.otp := rfl
@[simp] theorem Block.modXspi_word (s : Block) (h : Xspi → Xspi) (b : Nat) : (s.modXspi h).word b = s.word b := rfl
@[simp] theorem Block.modXspi_f (s : Block) (h : Xspi → Xspi) (x : Fld) : (s.modXspi h).f x = s.f x := rfl
@[simp] theorem Block.modXspi_on (s : Block) (h : Xspi → Xspi) (x : Fld) : (s.modXspi h).on x = s.on x := rfl

end Sys2Proof.Machine
end

