-- ==== Sys2Proof/Laws/Settle.lean ====
section
/-! SUPPORT. What follows every command (R515 to R517) changes only the interrupt pin and its count, the record of NOTIFY, and the packets that
wait; and what a meaning over an operation can answer. -/

namespace Sys2Proof.Machine

@[simp] theorem Block.sendOn_regs (s : Block) (p : Nat) (k : Packet) : (s.sendOn p k).regs = s.regs := rfl
@[simp] theorem Block.sendOn_host (s : Block) (p : Nat) (k : Packet) : (s.sendOn p k).host = s.host := rfl

@[simp] theorem Block.sendOn_time (s : Block) (p : Nat) (k : Packet) : (s.sendOn p k).time = s.time := rfl
@[simp] theorem Block.sendOn_freeK (s : Block) (p : Nat) (k : Packet) : (s.sendOn p k).freeK = s.freeK := rfl
@[simp] theorem Block.sendOn_ledger (s : Block) (p : Nat) (k : Packet) : (s.sendOn p k).ledger = s.ledger := rfl
@[simp] theorem Block.sendOn_core (s : Block) (p : Nat) (k : Packet) : (s.sendOn p k).core = s.core := rfl
@[simp] theorem Block.sendOn_cells (s : Block) (p : Nat) (k : Packet) : (s.sendOn p k).cells = s.cells := rfl
@[simp] theorem Block.sendOn_ports (s : Block) (p : Nat) (k : Packet) : (s.sendOn p k).ports = s.ports := rfl
@[simp] theorem Block.sendOn_chains (s : Block) (p : Nat) (k : Packet) : (s.sendOn p k).chains = s.chains := rfl
@[simp] theorem Block.sendOn_dir (s : Block) (p : Nat) (k : Packet) : (s.sendOn p k).dir = s.dir := rfl
@[simp] theorem Block.sendOn_graph (s : Block) (p : Nat) (k : Packet) : (s.sendOn p k).graph = s.graph := rfl
@[simp] theorem Block.sendOn_sap (s : Block) (p : Nat) (k : Packet) : (s.sendOn p k).sap = s.sap := rfl
@[simp] theorem Block.sendOn_spk (s : Block) (p : Nat) (k : Packet) : (s.sendOn p k).spk = s.spk := rfl
@[simp] theorem Block.sendOn_csc (s : Block) (p : Nat) (k : Packet) : (s.sendOn p k).csc = s.csc := rfl
@[simp] theorem Block.sendOn_clk (s : Block) (p : Nat) (k : Packet) : (s.sendOn p k).clk = s.clk := rfl
@[simp] theorem Block.sendOn_mem (s : Block) (p : Nat) (k : Packet) : (s.sendOn p k).mem = s.mem := rfl
@[simp] theorem Block.sendOn_img (s : Block) (p : Nat) (k : Packet) : (s.sendOn p k).img = s.img := rfl
@[simp] theorem Block.sendOn_pwr (s : Block) (p : Nat) (k : Packet) : (s.sendOn p k).pwr = s.pwr := rfl
@[simp] theorem Block.sendOn_lsn (s : Block) (p : Nat) (k : Packet) : (s.sendOn p k).lsn = s.lsn := rfl
@[simp] theorem Block.sendOn_bst (s : Block) (p : Nat) (k : Packet) : (s.sendOn p k).bst = s.bst := rfl
@[simp] theorem Block.sendOn_otp (s : Block) (p : Nat) (k : Packet) : (s.sendOn p k).otp = s.otp := rfl

/-- A packet that is sent changes nothing but the packets that wait. -/
theorem Block.send_keeps {β : Type} (π : Block → β) (h : ∀ s p k, π (Block.sendOn s p k) = π s) (s : Block) (k : Packet) : π (s.send k) = π s := by
  unfold Block.send
  split
  · exact Block.forAll_keeps π _ _ (fun a b => h b a k) s
  · split
    · exact h _ _ _
    · rfl

@[simp] theorem Block.send_regs (s : Block) (k : Packet) : (s.send k).regs = s.regs := Block.send_keeps (·.regs) (fun _ _ _ => rfl) s k
@[simp] theorem Block.send_time (s : Block) (k : Packet) : (s.send k).time = s.time := Block.send_keeps (·.time) (fun _ _ _ => rfl) s k
@[simp] theorem Block.send_freeK (s : Block) (k : Packet) : (s.send k).freeK = s.freeK := Block.send_keeps (·.freeK) (fun _ _ _ => rfl) s k
@[simp] theorem Block.send_host (s : Block) (k : Packet) : (s.send k).host = s.host := Block.send_keeps (·.host) (fun _ _ _ => rfl) s k
@[simp] theorem Block.send_ledger (s : Block) (k : Packet) : (s.send k).ledger = s.ledger := Block.send_keeps (·.ledger) (fun _ _ _ => rfl) s k
@[simp] theorem Block.send_core (s : Block) (k : Packet) : (s.send k).core = s.core := Block.send_keeps (·.core) (fun _ _ _ => rfl) s k
@[simp] theorem Block.send_cells (s : Block) (k : Packet) : (s.send k).cells = s.cells := Block.send_keeps (·.cells) (fun _ _ _ => rfl) s k
@[simp] theorem Block.send_ports (s : Block) (k : Packet) : (s.send k).ports = s.ports := Block.send_keeps (·.ports) (fun _ _ _ => rfl) s k
@[simp] theorem Block.send_chains (s : Block) (k : Packet) : (s.send k).chains = s.chains := Block.send_keeps (·.chains) (fun _ _ _ => rfl) s k
@[simp] theorem Block.send_dir (s : Block) (k : Packet) : (s.send k).dir = s.dir := Block.send_keeps (·.dir) (fun _ _ _ => rfl) s k
@[simp] theorem Block.send_graph (s : Block) (k : Packet) : (s.send k).graph = s.graph := Block.send_keeps (·.graph) (fun _ _ _ => rfl) s k
@[simp] theorem Block.send_sap (s : Block) (k : Packet) : (s.send k).sap = s.sap := Block.send_keeps (·.sap) (fun _ _ _ => rfl) s k
@[simp] theorem Block.send_spk (s : Block) (k : Packet) : (s.send k).spk = s.spk := Block.send_keeps (·.spk) (fun _ _ _ => rfl) s k
@[simp] theorem Block.send_csc (s : Block) (k : Packet) : (s.send k).csc = s.csc := Block.send_keeps (·.csc) (fun _ _ _ => rfl) s k
@[simp] theorem Block.send_clk (s : Block) (k : Packet) : (s.send k).clk = s.clk := Block.send_keeps (·.clk) (fun _ _ _ => rfl) s k
@[simp] theorem Block.send_mem (s : Block) (k : Packet) : (s.send k).mem = s.mem := Block.send_keeps (·.mem) (fun _ _ _ => rfl) s k
@[simp] theorem Block.send_img (s : Block) (k : Packet) : (s.send k).img = s.img := Block.send_keeps (·.img) (fun _ _ _ => rfl) s k
@[simp] theorem Block.send_pwr (s : Block) (k : Packet) : (s.send k).pwr = s.pwr := Block.send_keeps (·.pwr) (fun _ _ _ => rfl) s k
@[simp] theorem Block.send_lsn (s : Block) (k : Packet) : (s.send k).lsn = s.lsn := Block.send_keeps (·.lsn) (fun _ _ _ => rfl) s k
@[simp] theorem Block.send_bst (s : Block) (k : Packet) : (s.send k).bst = s.bst := Block.send_keeps (·.bst) (fun _ _ _ => rfl) s k
@[simp] theorem Block.send_otp (s : Block) (k : Packet) : (s.send k).otp = s.otp := Block.send_keeps (·.otp) (fun _ _ _ => rfl) s k

@[simp] theorem Block.sendNote_regs (s : Block) : s.sendNote.regs = s.regs := by simp [Block.sendNote]
@[simp] theorem Block.noteSettle_regs (s : Block) : s.noteSettle.regs = s.regs := by
  simp only [Block.noteSettle]; split <;> [(split <;> simp); rfl]
@[simp] theorem Block.sendNote_time (s : Block) : s.sendNote.time = s.time := by simp [Block.sendNote]
@[simp] theorem Block.noteSettle_time (s : Block) : s.noteSettle.time = s.time := by
  simp only [Block.noteSettle]; split <;> [(split <;> simp); rfl]
@[simp] theorem Block.sendNote_freeK (s : Block) : s.sendNote.freeK = s.freeK := by simp [Block.sendNote]
@[simp] theorem Block.noteSettle_freeK (s : Block) : s.noteSettle.freeK = s.freeK := by
  simp only [Block.noteSettle]; split <;> [(split <;> simp); rfl]
@[simp] theorem Block.sendNote_ledger (s : Block) : s.sendNote.ledger = s.ledger := by simp [Block.sendNote]
@[simp] theorem Block.noteSettle_ledger (s : Block) : s.noteSettle.ledger = s.ledger := by
  simp only [Block.noteSettle]; split <;> [(split <;> simp); rfl]
@[simp] theorem Block.sendNote_core (s : Block) : s.sendNote.core = s.core := by simp [Block.sendNote]
@[simp] theorem Block.noteSettle_core (s : Block) : s.noteSettle.core = s.core := by
  simp only [Block.noteSettle]; split <;> [(split <;> simp); rfl]
@[simp] theorem Block.sendNote_cells (s : Block) : s.sendNote.cells = s.cells := by simp [Block.sendNote]
@[simp] theorem Block.noteSettle_cells (s : Block) : s.noteSettle.cells = s.cells := by
  simp only [Block.noteSettle]; split <;> [(split <;> simp); rfl]
@[simp] theorem Block.sendNote_ports (s : Block) : s.sendNote.ports = s.ports := by simp [Block.sendNote]
@[simp] theorem Block.noteSettle_ports (s : Block) : s.noteSettle.ports = s.ports := by
  simp only [Block.noteSettle]; split <;> [(split <;> simp); rfl]
@[simp] theorem Block.sendNote_chains (s : Block) : s.sendNote.chains = s.chains := by simp [Block.sendNote]
@[simp] theorem Block.noteSettle_chains (s : Block) : s.noteSettle.chains = s.chains := by
  simp only [Block.noteSettle]; split <;> [(split <;> simp); rfl]
@[simp] theorem Block.sendNote_dir (s : Block) : s.sendNote.dir = s.dir := by simp [Block.sendNote]
@[simp] theorem Block.noteSettle_dir (s : Block) : s.noteSettle.dir = s.dir := by
  simp only [Block.noteSettle]; split <;> [(split <;> simp); rfl]
@[simp] theorem Block.sendNote_graph (s : Block) : s.sendNote.graph = s.graph := by simp [Block.sendNote]
@[simp] theorem Block.noteSettle_graph (s : Block) : s.noteSettle.graph = s.graph := by
  simp only [Block.noteSettle]; split <;> [(split <;> simp); rfl]
@[simp] theorem Block.sendNote_sap (s : Block) : s.sendNote.sap = s.sap := by simp [Block.sendNote]
@[simp] theorem Block.noteSettle_sap (s : Block) : s.noteSettle.sap = s.sap := by
  simp only [Block.noteSettle]; split <;> [(split <;> simp); rfl]
@[simp] theorem Block.sendNote_spk (s : Block) : s.sendNote.spk = s.spk := by simp [Block.sendNote]
@[simp] theorem Block.noteSettle_spk (s : Block) : s.noteSettle.spk = s.spk := by
  simp only [Block.noteSettle]; split <;> [(split <;> simp); rfl]
@[simp] theorem Block.sendNote_csc (s : Block) : s.sendNote.csc = s.csc := by simp [Block.sendNote]
@[simp] theorem Block.noteSettle_csc (s : Block) : s.noteSettle.csc = s.csc := by
  simp only [Block.noteSettle]; split <;> [(split <;> simp); rfl]
@[simp] theorem Block.sendNote_clk (s : Block) : s.sendNote.clk = s.clk := by simp [Block.sendNote]
@[simp] theorem Block.noteSettle_clk (s : Block) : s.noteSettle.clk = s.clk := by
  simp only [Block.noteSettle]; split <;> [(split <;> simp); rfl]
@[simp] theorem Block.sendNote_mem (s : Block) : s.sendNote.mem = s.mem := by simp [Block.sendNote]
@[simp] theorem Block.noteSettle_mem (s : Block) : s.noteSettle.mem = s.mem := by
  simp only [Block.noteSettle]; split <;> [(split <;> simp); rfl]
@[simp] theorem Block.sendNote_img (s : Block) : s.sendNote.img = s.img := by simp [Block.sendNote]
@[simp] theorem Block.noteSettle_img (s : Block) : s.noteSettle.img = s.img := by
  simp only [Block.noteSettle]; split <;> [(split <;> simp); rfl]
@[simp] theorem Block.sendNote_pwr (s : Block) : s.sendNote.pwr = s.pwr := by simp [Block.sendNote]
@[simp] theorem Block.noteSettle_pwr (s : Block) : s.noteSettle.pwr = s.pwr := by
  simp only [Block.noteSettle]; split <;> [(split <;> simp); rfl]
@[simp] theorem Block.sendNote_lsn (s : Block) : s.sendNote.lsn = s.lsn := by simp [Block.sendNote]
@[simp] theorem Block.noteSettle_lsn (s : Block) : s.noteSettle.lsn = s.lsn := by
  simp only [Block.noteSettle]; split <;> [(split <;> simp); rfl]
@[simp] theorem Block.sendNote_bst (s : Block) : s.sendNote.bst = s.bst := by simp [Block.sendNote]
@[simp] theorem Block.noteSettle_bst (s : Block) : s.noteSettle.bst = s.bst := by
  simp only [Block.noteSettle]; split <;> [(split <;> simp); rfl]
@[simp] theorem Block.sendNote_otp (s : Block) : s.sendNote.otp = s.otp := by simp [Block.sendNote]
@[simp] theorem Block.noteSettle_otp (s : Block) : s.noteSettle.otp = s.otp := by
  simp only [Block.noteSettle]; split <;> [(split <;> simp); rfl]
@[simp] theorem Block.irqSettle_time (s : Block) : s.irqSettle.time = s.time := by simp only [Block.irqSettle, Block.onlyIf]; split <;> simp
@[simp] theorem Block.irqSettle_freeK (s : Block) : s.irqSettle.freeK = s.freeK := by simp only [Block.irqSettle, Block.onlyIf]; split <;> simp
@[simp] theorem Block.irqSettle_ledger (s : Block) : s.irqSettle.ledger = s.ledger := by simp only [Block.irqSettle, Block.onlyIf]; split <;> simp
@[simp] theorem Block.irqSettle_core (s : Block) : s.irqSettle.core = s.core := by simp only [Block.irqSettle, Block.onlyIf]; split <;> simp
@[simp] theorem Block.irqSettle_cells (s : Block) : s.irqSettle.cells = s.cells := by simp only [Block.irqSettle, Block.onlyIf]; split <;> simp
@[simp] theorem Block.irqSettle_ports (s : Block) : s.irqSettle.ports = s.ports := by simp only [Block.irqSettle, Block.onlyIf]; split <;> simp
@[simp] theorem Block.irqSettle_chains (s : Block) : s.irqSettle.chains = s.chains := by simp only [Block.irqSettle, Block.onlyIf]; split <;> simp
@[simp] theorem Block.irqSettle_dir (s : Block) : s.irqSettle.dir = s.dir := by simp only [Block.irqSettle, Block.onlyIf]; split <;> simp
@[simp] theorem Block.irqSettle_graph (s : Block) : s.irqSettle.graph = s.graph := by simp only [Block.irqSettle, Block.onlyIf]; split <;> simp
@[simp] theorem Block.irqSettle_sap (s : Block) : s.irqSettle.sap = s.sap := by simp only [Block.irqSettle, Block.onlyIf]; split <;> simp
@[simp] theorem Block.irqSettle_spk (s : Block) : s.irqSettle.spk = s.spk := by simp only [Block.irqSettle, Block.onlyIf]; split <;> simp
@[simp] theorem Block.irqSettle_csc (s : Block) : s.irqSettle.csc = s.csc := by simp only [Block.irqSettle, Block.onlyIf]; split <;> simp
@[simp] theorem Block.irqSettle_clk (s : Block) : s.irqSettle.clk = s.clk := by simp only [Block.irqSettle, Block.onlyIf]; split <;> simp
@[simp] theorem Block.irqSettle_net (s : Block) : s.irqSettle.net = s.net := by simp only [Block.irqSettle, Block.onlyIf]; split <;> simp
@[simp] theorem Block.irqSettle_mem (s : Block) : s.irqSettle.mem = s.mem := by simp only [Block.irqSettle, Block.onlyIf]; split <;> simp
@[simp] theorem Block.irqSettle_img (s : Block) : s.irqSettle.img = s.img := by simp only [Block.irqSettle, Block.onlyIf]; split <;> simp
@[simp] theorem Block.irqSettle_pwr (s : Block) : s.irqSettle.pwr = s.pwr := by simp only [Block.irqSettle, Block.onlyIf]; split <;> simp
@[simp] theorem Block.irqSettle_lsn (s : Block) : s.irqSettle.lsn = s.lsn := by simp only [Block.irqSettle, Block.onlyIf]; split <;> simp
@[simp] theorem Block.irqSettle_bst (s : Block) : s.irqSettle.bst = s.bst := by simp only [Block.irqSettle, Block.onlyIf]; split <;> simp
@[simp] theorem Block.irqSettle_otp (s : Block) : s.irqSettle.otp = s.otp := by simp only [Block.irqSettle, Block.onlyIf]; split <;> simp

@[simp] theorem Block.settle_time (s : Block) : s.settle.time = s.time := by simp [Block.settle]
@[simp] theorem Block.settle_freeK (s : Block) : s.settle.freeK = s.freeK := by simp [Block.settle]
@[simp] theorem Block.settle_ledger (s : Block) : s.settle.ledger = s.ledger := by simp [Block.settle]
@[simp] theorem Block.settle_core (s : Block) : s.settle.core = s.core := by simp [Block.settle]
@[simp] theorem Block.settle_cells (s : Block) : s.settle.cells = s.cells := by simp [Block.settle]
@[simp] theorem Block.settle_ports (s : Block) : s.settle.ports = s.ports := by simp [Block.settle]
@[simp] theorem Block.settle_chains (s : Block) : s.settle.chains = s.chains := by simp [Block.settle]
@[simp] theorem Block.settle_dir (s : Block) : s.settle.dir = s.dir := by simp [Block.settle]
@[simp] theorem Block.settle_graph (s : Block) : s.settle.graph = s.graph := by simp [Block.settle]
@[simp] theorem Block.settle_sap (s : Block) : s.settle.sap = s.sap := by simp [Block.settle]
@[simp] theorem Block.settle_spk (s : Block) : s.settle.spk = s.spk := by simp [Block.settle]
@[simp] theorem Block.settle_csc (s : Block) : s.settle.csc = s.csc := by simp [Block.settle]
@[simp] theorem Block.settle_clk (s : Block) : s.settle.clk = s.clk := by simp [Block.settle]
@[simp] theorem Block.settle_mem (s : Block) : s.settle.mem = s.mem := by simp [Block.settle]
@[simp] theorem Block.settle_img (s : Block) : s.settle.img = s.img := by simp [Block.settle]
@[simp] theorem Block.settle_pwr (s : Block) : s.settle.pwr = s.pwr := by simp [Block.settle]
@[simp] theorem Block.settle_lsn (s : Block) : s.settle.lsn = s.lsn := by simp [Block.settle]
@[simp] theorem Block.settle_bst (s : Block) : s.settle.bst = s.bst := by simp [Block.settle]
@[simp] theorem Block.settle_otp (s : Block) : s.settle.otp = s.otp := by simp [Block.settle]

theorem Block.bump_word_other (s : Block) (x : Fld) {a : Nat} (h : a ≠ x.addr) : (s.bump x).word a = s.word a := by
  unfold Block.bump
  split
  · exact Block.word_put_other s x _ h
  · rfl

/-- Every register but the count of assertions reads as before. -/
theorem Block.settle_word (s : Block) {a : Nat} (h : a ≠ Reg.IRQ_CNT) : s.settle.word a = s.word a := by
  have e : s.settle.word a = s.irqSettle.word a := by simp only [Block.settle, Block.word, Block.noteSettle_regs]
  rw [e]
  simp only [Block.irqSettle, Block.onlyIf]
  split
  · exact Block.bump_word_other s _ h
  · rfl

/-- Every field of another register reads as before. -/
theorem Block.settle_f (s : Block) (x : Fld) (h : x.addr ≠ Reg.IRQ_CNT) : s.settle.f x = s.f x := by
  simp [Block.f, Block.settle_word s h]

theorem Block.settle_on (s : Block) (x : Fld) (h : x.addr ≠ Reg.IRQ_CNT) : s.settle.on x = s.on x := by
  simp [Block.on, Block.settle_f s x h]

theorem Block.send_net_ports (s : Block) (k : Packet) : (s.send k).net.ports = s.net.ports :=
  Block.send_keeps (·.net.ports) (fun _ _ _ => rfl) s k

/-- The packets that a port has sent, and everything of the network but the packets that wait, stay. -/
theorem Block.settle_net_keeps {β : Type} (π : Net → β) (h : ∀ n q, π { n with txq := q } = π n) (s : Block) : π s.settle.net = π s.net := by
  have hs : ∀ (s : Block) (k : Packet), π (s.send k).net = π s.net :=
    Block.send_keeps (fun s => π s.net) (fun s p k => h s.net _)
  have e : π s.settle.net = π s.irqSettle.net := by
    simp only [Block.settle, Block.noteSettle]
    split
    · split
      · rfl
      · simp only [Block.sendNote]; exact hs _ _
    · rfl
  rw [e, Block.irqSettle_net]

/-- What the host record keeps. -/
theorem Block.settle_host_keeps {β : Type} (π : HostSt → β)
    (h : ∀ (x : HostSt) (a b c d : Bool), π { x with irqLow := a, wasZero := b, noteSent := c, noteOwed := d } = π x) (s : Block) :
    π s.settle.host = π s.host := by
  have e : π s.settle.host = π s.irqSettle.host := by
    simp only [Block.settle, Block.noteSettle]
    split
    · split
      · exact h s.irqSettle.host s.irqSettle.host.irqLow _ s.irqSettle.host.noteSent _
      · simp only [Block.sendNote, Block.send_host]
        exact h s.irqSettle.host s.irqSettle.host.irqLow _ _ _
    · exact h s.irqSettle.host s.irqSettle.host.irqLow _ s.irqSettle.host.noteSent s.irqSettle.host.noteOwed
  rw [e]
  simp only [Block.irqSettle, Block.onlyIf]
  split
  · simp only [Block.bump_host]
    exact h s.host _ s.host.wasZero s.host.noteSent s.host.noteOwed
  · exact h s.host _ s.host.wasZero s.host.noteSent s.host.noteOwed

/-! ## Meanings -/

/-- A meaning whose operands name units of the hardware answers a next state. -/
@[simp] theorem State.act_true (s : State) (g : Block → Block) : s.act true g = .next { s with toBlock := (g s.toBlock).settle } := rfl

@[simp] theorem State.act_false (s : State) (g : Block → Block) : s.act false g = .fault .noSuchUnit := rfl

theorem State.act_pos (s : State) {ok : Bool} (g : Block → Block) (h : ok = true) : s.act ok g = .next { s with toBlock := (g s.toBlock).settle } := by
  rw [h]; rfl

/-- Everything a meaning over an operation can answer. -/
theorem State.act_next {s t : State} {ok : Bool} {g : Block → Block} (h : s.act ok g = .next t) :
    ok = true ∧ t.toBlock = (g s.toBlock).settle ∧ t.pending = s.pending := by
  cases ok with
  | true => rw [State.act_true] at h; cases h; exact ⟨rfl, rfl, rfl⟩
  | false => rw [State.act_false] at h; cases h

theorem State.act_fault {s : State} {ok : Bool} {g : Block → Block} {r : Fault} (h : s.act ok g = .fault r) : ok = false := by
  cases ok with
  | true => rw [State.act_true] at h; cases h
  | false => rfl

theorem State.act_refused {s : State} {ok : Bool} {g : Block → Block} {r : Refusal} : s.act ok g ≠ .refused r := by
  cases ok <;> simp

/-- A host's write while the core clock runs. -/
theorem State.hostWrite_on (s : State) (ok : Bool) (g : Block → Block) (h : s.coreOn = true) : s.hostWrite ok g = s.act ok g := by
  cases ok <;> simp [State.hostWrite, Block.hostWrite, h]

/-- A host's write while the core clock is stopped sets NOCORE and does nothing else (R511). -/
theorem State.hostWrite_off (s : State) (g : Block → Block) (h : s.coreOn = false) (h1 : s.base ≠ modeOff) (h2 : s.base ≠ modeDormant) :
    s.hostWrite true g = s.act true (fun b => let b := b.raise Reg.SYS_EVT_NOCORE; { b with host := { b.host with prevErr := true } }) := by
  simp [State.hostWrite, Block.hostWrite, h, h1, h2]

end Sys2Proof.Machine
end

