-- ==== Sys2Proof/Laws/Frames.lean ====
section
/-! SUPPORT. Laws of the frame of an operation: what a store to a field leaves alone, and how frames compose. -/

namespace Sys2Proof.Machine

theorem Block.only_refl (s : Block) (l : List Fld) (ps : List Part) : s.only s l ps :=
  ⟨fun _ _ _ => rfl, fun p _ => by cases p <;> exact rfl⟩

theorem Part.same_trans {s t u : Block} {p : Part} (h₁ : p.same s t) (h₂ : p.same t u) : p.same s u := by
  cases p <;> exact Eq.trans h₂ h₁

/-- Frames compose. -/
theorem Block.only_trans {s t u : Block} {l : List Fld} {ps : List Part} (h₁ : s.only t l ps) (h₂ : t.only u l ps) : s.only u l ps :=
  ⟨fun a i h => (h₂.1 a i h).trans (h₁.1 a i h), fun p h => Part.same_trans (h₁.2 p h) (h₂.2 p h)⟩

/-- A frame may be widened. -/
theorem Block.only_mono {s t : Block} {l l' : List Fld} {ps ps' : List Part} (h : s.only t l ps) (hl : l ⊆ l') (hp : ps ⊆ ps') :
    s.only t l' ps' := by
  refine ⟨fun a i ha => h.1 a i ?_, fun p hn => h.2 p (fun hm => hn (hp hm))⟩
  rw [List.any_eq_false] at ha ⊢
  exact fun x hx => ha x (hl hx)

/-- A store to a field changes that field alone. -/
theorem Block.only_put {s t : Block} {l : List Fld} {ps : List Part} (h : s.only t l ps) (x : Fld) (v : Nat) (hw : x.lo + x.width ≤ 32) (hx : x ∈ l) :
    s.only (t.put x v) l ps := by
  refine Block.only_trans h ⟨fun a i ha => ?_, fun p _ => by cases p <;> exact rfl⟩
  rw [List.any_eq_false] at ha
  have hc := ha x hx
  simp only [Fld.covers, Bool.and_eq_true, beq_iff_eq, decide_eq_true_eq, not_and] at hc
  rw [Block.word_put]
  by_cases hax : a = x.addr
  · subst hax
    rw [if_pos rfl, ← BitVec.testBit_toNat, setBits_testBit _ _ _ _ _ hw, ← BitVec.testBit_toNat]
    by_cases hlo : x.lo ≤ i
    · have : x.lo + x.width ≤ i := by have := hc ⟨rfl, hlo⟩; omega
      simp [show ¬ i < x.lo + x.width by omega]
    · simp [show i < x.lo by omega]
  · rw [if_neg hax]

/-- A store of a word changes that register alone. -/
theorem Block.only_setW {s t : Block} {l : List Fld} {ps : List Part} (h : s.only t l ps) (a : Nat) (w : Word) (hx : Fld.all a ∈ l) :
    s.only (t.setW a w) l ps := by
  refine Block.only_trans h ⟨fun b i hb => ?_, fun p _ => by cases p <;> exact rfl⟩
  rw [List.any_eq_false] at hb
  have hc := hb _ hx
  simp only [Fld.covers, Fld.all, Bool.and_eq_true, beq_iff_eq, decide_eq_true_eq, not_and, Nat.zero_le, and_true, Nat.zero_add] at hc
  rw [Block.word_setW]
  by_cases hab : b = a
  · subst hab
    have : 32 ≤ i := by have := hc rfl; omega
    simp [BitVec.getLsbD_of_ge, this]
  · rw [if_neg hab]

theorem Block.only_putB {s t : Block} {l : List Fld} {ps : List Part} (h : s.only t l ps) (x : Fld) (b : Bool) (hw : x.lo + x.width ≤ 32) (hx : x ∈ l) :
    s.only (t.putB x b) l ps := Block.only_put h x _ hw hx

theorem Block.only_putInt {s t : Block} {l : List Fld} {ps : List Part} (h : s.only t l ps) (x : Fld) (v : Int) (hw : x.lo + x.width ≤ 32) (hx : x ∈ l) :
    s.only (t.putInt x v) l ps := Block.only_put h x _ hw hx

theorem Block.only_raise {s t : Block} {l : List Fld} {ps : List Part} (h : s.only t l ps) (x : Fld) (hw : x.lo + x.width ≤ 32) (hx : x ∈ l) :
    s.only (t.raise x) l ps := Block.only_put h x _ hw hx

theorem Block.only_bump {s t : Block} {l : List Fld} {ps : List Part} (h : s.only t l ps) (x : Fld) (hw : x.lo + x.width ≤ 32) (hx : x ∈ l) :
    s.only (t.bump x) l ps := by
  unfold Block.bump; split
  · exact Block.only_put h x _ hw hx
  · exact h

theorem Block.only_bumpWrap {s t : Block} {l : List Fld} {ps : List Part} (h : s.only t l ps) (x : Fld) (hw : x.lo + x.width ≤ 32) (hx : x ∈ l) :
    s.only (t.bumpWrap x) l ps := Block.only_put h x _ hw hx

theorem Block.only_onlyIf {s t : Block} {l : List Fld} {ps : List Part} {c : Bool} {g : Block → Block} (h : s.only t l ps)
    (hg : c = true → s.only (g t) l ps) : s.only (t.onlyIf c g) l ps := by
  cases c
  · exact h
  · exact hg rfl

/-- A loop keeps what every step of it keeps. -/
theorem Block.only_forAll {α : Type} {s : Block} {l : List Fld} {ps : List Part} (xs : List α) (g : α → Block → Block)
    (hg : ∀ x ∈ xs, ∀ t, s.only t l ps → s.only (g x t) l ps) {t : Block} (h : s.only t l ps) : s.only (t.forAll xs g) l ps := by
  induction xs generalizing t with
  | nil => exact h
  | cons x xs ih =>
    rw [Block.forAll_cons]
    exact ih (fun y hy => hg y (List.mem_cons_of_mem _ hy)) (hg x List.mem_cons_self t h)

/-- A change of components alone: the registers stay, and every component outside the list does. -/
theorem Block.only_parts {s t u : Block} {l : List Fld} {ps : List Part} (h : s.only t l ps) (hr : u.regs = t.regs) (hp : ∀ p, p ∉ ps → p.same t u) :
    s.only u l ps :=
  Block.only_trans h ⟨fun a i _ => by simp [Block.word, hr], hp⟩

/-- A command that runs an operation gives what the operation gives. -/
theorem gives_of_act {c : Instr} {s : State} {ok : Bool} {g : Block → Block} {P : Block → Prop} (h : exec c s = s.act ok g) (hok : ok = true)
    (hp : P (g s.toBlock)) : gives c s P :=
  ⟨g s.toBlock, by rw [h, State.act_pos s g hok], hp⟩

/-- A write of the host with the core clock running gives what its operation gives. -/
theorem gives_of_hostWrite {c : Instr} {s : State} {ok : Bool} {g : Block → Block} {P : Block → Prop} (h : exec c s = s.hostWrite ok g)
    (hc : s.coreOn = true) (hok : ok = true) (hp : P (g s.toBlock)) : gives c s P :=
  gives_of_act (h.trans (State.hostWrite_on s ok g hc)) hok hp

/-- The word of a register that no field of the frame touches. -/
theorem Block.only_word {s t : Block} {l : List Fld} {ps : List Part} (h : s.only t l ps) {a : Nat} (ha : ∀ x ∈ l, x.addr ≠ a) : t.word a = s.word a := by
  apply BitVec.eq_of_getLsbD_eq
  intro i _
  refine h.1 a i ?_
  rw [List.any_eq_false]
  intro x hx
  simp [Fld.covers, ha x hx]

/-! ## Frames by registers -/

theorem Block.within_refl (s : Block) (sel : Nat → Prop) (ps : List Part) : s.within s sel ps :=
  ⟨fun _ _ => rfl, fun p _ => by cases p <;> exact rfl⟩

theorem Block.within_trans {s t u : Block} {sel : Nat → Prop} {ps : List Part} (h₁ : s.within t sel ps) (h₂ : t.within u sel ps) : s.within u sel ps :=
  ⟨fun a h => (h₂.1 a h).trans (h₁.1 a h), fun p h => Part.same_trans (h₁.2 p h) (h₂.2 p h)⟩

/-- A frame by fields is one by their registers. -/
theorem Block.within_of_only {s t : Block} {l : List Fld} {ps : List Part} {sel : Nat → Prop} (h : s.only t l ps) (hl : ∀ x ∈ l, sel x.addr) :
    s.within t sel ps :=
  ⟨fun _ ha => Block.only_word h (fun x hx he => ha (he ▸ hl x hx)), h.2⟩

theorem Block.within_setW {s t : Block} {sel : Nat → Prop} {ps : List Part} (h : s.within t sel ps) (a : Nat) (w : Word) (ha : sel a) :
    s.within (t.setW a w) sel ps :=
  Block.within_trans h ⟨fun _ hb => Block.word_setW_other t w (fun he => hb (he ▸ ha)), fun p _ => by cases p <;> exact rfl⟩

theorem Block.within_put {s t : Block} {sel : Nat → Prop} {ps : List Part} (h : s.within t sel ps) (x : Fld) (v : Nat) (hx : sel x.addr) :
    s.within (t.put x v) sel ps := Block.within_setW h _ _ hx

theorem Block.within_putB {s t : Block} {sel : Nat → Prop} {ps : List Part} (h : s.within t sel ps) (x : Fld) (v : Bool) (hx : sel x.addr) :
    s.within (t.putB x v) sel ps := Block.within_setW h _ _ hx

theorem Block.within_putInt {s t : Block} {sel : Nat → Prop} {ps : List Part} (h : s.within t sel ps) (x : Fld) (v : Int) (hx : sel x.addr) :
    s.within (t.putInt x v) sel ps := Block.within_setW h _ _ hx

theorem Block.within_raise {s t : Block} {sel : Nat → Prop} {ps : List Part} (h : s.within t sel ps) (x : Fld) (hx : sel x.addr) :
    s.within (t.raise x) sel ps := Block.within_setW h _ _ hx

theorem Block.within_bumpWrap {s t : Block} {sel : Nat → Prop} {ps : List Part} (h : s.within t sel ps) (x : Fld) (hx : sel x.addr) :
    s.within (t.bumpWrap x) sel ps := Block.within_setW h _ _ hx

theorem Block.within_bump {s t : Block} {sel : Nat → Prop} {ps : List Part} (h : s.within t sel ps) (x : Fld) (hx : sel x.addr) :
    s.within (t.bump x) sel ps := by
  unfold Block.bump; split
  · exact Block.within_setW h _ _ hx
  · exact h

theorem Block.within_onlyIf {s t : Block} {sel : Nat → Prop} {ps : List Part} {c : Bool} {g : Block → Block} (h : s.within t sel ps)
    (hg : c = true → s.within (g t) sel ps) : s.within (t.onlyIf c g) sel ps := by
  cases c
  · exact h
  · exact hg rfl

theorem Block.within_forAll {α : Type} {s : Block} {sel : Nat → Prop} {ps : List Part} (xs : List α) (g : α → Block → Block)
    (hg : ∀ x ∈ xs, ∀ t, s.within t sel ps → s.within (g x t) sel ps) {t : Block} (h : s.within t sel ps) : s.within (t.forAll xs g) sel ps := by
  induction xs generalizing t with
  | nil => exact h
  | cons x xs ih =>
    rw [Block.forAll_cons]
    exact ih (fun y hy => hg y (List.mem_cons_of_mem _ hy)) (hg x List.mem_cons_self t h)

theorem Block.within_parts {s t u : Block} {sel : Nat → Prop} {ps : List Part} (h : s.within t sel ps) (hr : u.regs = t.regs)
    (hp : ∀ p, p ∉ ps → p.same t u) : s.within u sel ps :=
  Block.within_trans h ⟨fun a _ => by simp [Block.word, hr], hp⟩

/-- What each step of a loop does to one record, the loop does to every record it visits. -/
theorem Block.forAll_each {β : Type} (π : Block → Nat → β) (F : Nat → β → β) (g : Nat → Block → Block)
    (hg : ∀ a s j, π (g a s) j = if j = a then F a (π s a) else π s j) (l : List Nat) (hl : l.Nodup) (s : Block) (j : Nat) :
    π (s.forAll l g) j = if j ∈ l then F j (π s j) else π s j := by
  induction l generalizing s with
  | nil => simp
  | cons a l ih =>
    rw [Block.forAll_cons, ih (List.nodup_cons.mp hl).2, hg]
    have ha := (List.nodup_cons.mp hl).1
    by_cases h : j = a
    · subst h; simp [ha]
    · simp [h]

/-! ## Updates of components -/

theorem Block.only_time {s t : Block} {l : List Fld} {ps : List Part} (h : s.only t l ps) (v : Time) (hp : Part.time ∈ ps) :
    s.only { t with time := v } l ps :=
  Block.only_parts h rfl (fun p hn => by cases p <;> first | exact rfl | exact absurd hp hn)
theorem Block.within_time {s t : Block} {sel : Nat → Prop} {ps : List Part} (h : s.within t sel ps) (v : Time) (hp : Part.time ∈ ps) :
    s.within { t with time := v } sel ps :=
  Block.within_parts h rfl (fun p hn => by cases p <;> first | exact rfl | exact absurd hp hn)
theorem Block.only_freeK {s t : Block} {l : List Fld} {ps : List Part} (h : s.only t l ps) (v : Nat) (hp : Part.free ∈ ps) :
    s.only { t with freeK := v } l ps :=
  Block.only_parts h rfl (fun p hn => by cases p <;> first | exact rfl | exact absurd hp hn)
theorem Block.within_freeK {s t : Block} {sel : Nat → Prop} {ps : List Part} (h : s.within t sel ps) (v : Nat) (hp : Part.free ∈ ps) :
    s.within { t with freeK := v } sel ps :=
  Block.within_parts h rfl (fun p hn => by cases p <;> first | exact rfl | exact absurd hp hn)
theorem Block.only_host {s t : Block} {l : List Fld} {ps : List Part} (h : s.only t l ps) (v : HostSt) (hp : Part.host ∈ ps) :
    s.only { t with host := v } l ps :=
  Block.only_parts h rfl (fun p hn => by cases p <;> first | exact rfl | exact absurd hp hn)
theorem Block.within_host {s t : Block} {sel : Nat → Prop} {ps : List Part} (h : s.within t sel ps) (v : HostSt) (hp : Part.host ∈ ps) :
    s.within { t with host := v } sel ps :=
  Block.within_parts h rfl (fun p hn => by cases p <;> first | exact rfl | exact absurd hp hn)
theorem Block.only_ledger {s t : Block} {l : List Fld} {ps : List Part} (h : s.only t l ps) (v : Ledger) (hp : Part.ledger ∈ ps) :
    s.only { t with ledger := v } l ps :=
  Block.only_parts h rfl (fun p hn => by cases p <;> first | exact rfl | exact absurd hp hn)
theorem Block.within_ledger {s t : Block} {sel : Nat → Prop} {ps : List Part} (h : s.within t sel ps) (v : Ledger) (hp : Part.ledger ∈ ps) :
    s.within { t with ledger := v } sel ps :=
  Block.within_parts h rfl (fun p hn => by cases p <;> first | exact rfl | exact absurd hp hn)
theorem Block.only_core {s t : Block} {l : List Fld} {ps : List Part} (h : s.only t l ps) (v : Bool) (hp : Part.core ∈ ps) :
    s.only { t with core := v } l ps :=
  Block.only_parts h rfl (fun p hn => by cases p <;> first | exact rfl | exact absurd hp hn)
theorem Block.within_core {s t : Block} {sel : Nat → Prop} {ps : List Part} (h : s.within t sel ps) (v : Bool) (hp : Part.core ∈ ps) :
    s.within { t with core := v } sel ps :=
  Block.within_parts h rfl (fun p hn => by cases p <;> first | exact rfl | exact absurd hp hn)
theorem Block.only_cells {s t : Block} {l : List Fld} {ps : List Part} (h : s.only t l ps) (v : Cells) (hp : Part.cells ∈ ps) :
    s.only { t with cells := v } l ps :=
  Block.only_parts h rfl (fun p hn => by cases p <;> first | exact rfl | exact absurd hp hn)
theorem Block.within_cells {s t : Block} {sel : Nat → Prop} {ps : List Part} (h : s.within t sel ps) (v : Cells) (hp : Part.cells ∈ ps) :
    s.within { t with cells := v } sel ps :=
  Block.within_parts h rfl (fun p hn => by cases p <;> first | exact rfl | exact absurd hp hn)
theorem Block.only_ports {s t : Block} {l : List Fld} {ps : List Part} (h : s.only t l ps) (v : Ports) (hp : Part.ports ∈ ps) :
    s.only { t with ports := v } l ps :=
  Block.only_parts h rfl (fun p hn => by cases p <;> first | exact rfl | exact absurd hp hn)
theorem Block.within_ports {s t : Block} {sel : Nat → Prop} {ps : List Part} (h : s.within t sel ps) (v : Ports) (hp : Part.ports ∈ ps) :
    s.within { t with ports := v } sel ps :=
  Block.within_parts h rfl (fun p hn => by cases p <;> first | exact rfl | exact absurd hp hn)
theorem Block.only_chains {s t : Block} {l : List Fld} {ps : List Part} (h : s.only t l ps) (v : Chains) (hp : Part.chains ∈ ps) :
    s.only { t with chains := v } l ps :=
  Block.only_parts h rfl (fun p hn => by cases p <;> first | exact rfl | exact absurd hp hn)
theorem Block.within_chains {s t : Block} {sel : Nat → Prop} {ps : List Part} (h : s.within t sel ps) (v : Chains) (hp : Part.chains ∈ ps) :
    s.within { t with chains := v } sel ps :=
  Block.within_parts h rfl (fun p hn => by cases p <;> first | exact rfl | exact absurd hp hn)
theorem Block.only_dir {s t : Block} {l : List Fld} {ps : List Part} (h : s.only t l ps) (v : Direct) (hp : Part.dir ∈ ps) :
    s.only { t with dir := v } l ps :=
  Block.only_parts h rfl (fun p hn => by cases p <;> first | exact rfl | exact absurd hp hn)
theorem Block.within_dir {s t : Block} {sel : Nat → Prop} {ps : List Part} (h : s.within t sel ps) (v : Direct) (hp : Part.dir ∈ ps) :
    s.within { t with dir := v } sel ps :=
  Block.within_parts h rfl (fun p hn => by cases p <;> first | exact rfl | exact absurd hp hn)
theorem Block.only_graph {s t : Block} {l : List Fld} {ps : List Part} (h : s.only t l ps) (v : Graph) (hp : Part.graph ∈ ps) :
    s.only { t with graph := v } l ps :=
  Block.only_parts h rfl (fun p hn => by cases p <;> first | exact rfl | exact absurd hp hn)
theorem Block.within_graph {s t : Block} {sel : Nat → Prop} {ps : List Part} (h : s.within t sel ps) (v : Graph) (hp : Part.graph ∈ ps) :
    s.within { t with graph := v } sel ps :=
  Block.within_parts h rfl (fun p hn => by cases p <;> first | exact rfl | exact absurd hp hn)
theorem Block.only_sap {s t : Block} {l : List Fld} {ps : List Part} (h : s.only t l ps) (v : Serial) (hp : Part.sap ∈ ps) :
    s.only { t with sap := v } l ps :=
  Block.only_parts h rfl (fun p hn => by cases p <;> first | exact rfl | exact absurd hp hn)
theorem Block.within_sap {s t : Block} {sel : Nat → Prop} {ps : List Part} (h : s.within t sel ps) (v : Serial) (hp : Part.sap ∈ ps) :
    s.within { t with sap := v } sel ps :=
  Block.within_parts h rfl (fun p hn => by cases p <;> first | exact rfl | exact absurd hp hn)
theorem Block.only_spk {s t : Block} {l : List Fld} {ps : List Part} (h : s.only t l ps) (v : Spk) (hp : Part.spk ∈ ps) :
    s.only { t with spk := v } l ps :=
  Block.only_parts h rfl (fun p hn => by cases p <;> first | exact rfl | exact absurd hp hn)
theorem Block.within_spk {s t : Block} {sel : Nat → Prop} {ps : List Part} (h : s.within t sel ps) (v : Spk) (hp : Part.spk ∈ ps) :
    s.within { t with spk := v } sel ps :=
  Block.within_parts h rfl (fun p hn => by cases p <;> first | exact rfl | exact absurd hp hn)
theorem Block.only_csc {s t : Block} {l : List Fld} {ps : List Part} (h : s.only t l ps) (v : Csc) (hp : Part.csc ∈ ps) :
    s.only { t with csc := v } l ps :=
  Block.only_parts h rfl (fun p hn => by cases p <;> first | exact rfl | exact absurd hp hn)
theorem Block.within_csc {s t : Block} {sel : Nat → Prop} {ps : List Part} (h : s.within t sel ps) (v : Csc) (hp : Part.csc ∈ ps) :
    s.within { t with csc := v } sel ps :=
  Block.within_parts h rfl (fun p hn => by cases p <;> first | exact rfl | exact absurd hp hn)
theorem Block.only_clk {s t : Block} {l : List Fld} {ps : List Part} (h : s.only t l ps) (v : Clk) (hp : Part.clk ∈ ps) :
    s.only { t with clk := v } l ps :=
  Block.only_parts h rfl (fun p hn => by cases p <;> first | exact rfl | exact absurd hp hn)
theorem Block.within_clk {s t : Block} {sel : Nat → Prop} {ps : List Part} (h : s.within t sel ps) (v : Clk) (hp : Part.clk ∈ ps) :
    s.within { t with clk := v } sel ps :=
  Block.within_parts h rfl (fun p hn => by cases p <;> first | exact rfl | exact absurd hp hn)
theorem Block.only_net {s t : Block} {l : List Fld} {ps : List Part} (h : s.only t l ps) (v : Net) (hp : Part.net ∈ ps) :
    s.only { t with net := v } l ps :=
  Block.only_parts h rfl (fun p hn => by cases p <;> first | exact rfl | exact absurd hp hn)
theorem Block.within_net {s t : Block} {sel : Nat → Prop} {ps : List Part} (h : s.within t sel ps) (v : Net) (hp : Part.net ∈ ps) :
    s.within { t with net := v } sel ps :=
  Block.within_parts h rfl (fun p hn => by cases p <;> first | exact rfl | exact absurd hp hn)
theorem Block.only_mem {s t : Block} {l : List Fld} {ps : List Part} (h : s.only t l ps) (v : Mem) (hp : Part.mem ∈ ps) :
    s.only { t with mem := v } l ps :=
  Block.only_parts h rfl (fun p hn => by cases p <;> first | exact rfl | exact absurd hp hn)
theorem Block.within_mem {s t : Block} {sel : Nat → Prop} {ps : List Part} (h : s.within t sel ps) (v : Mem) (hp : Part.mem ∈ ps) :
    s.within { t with mem := v } sel ps :=
  Block.within_parts h rfl (fun p hn => by cases p <;> first | exact rfl | exact absurd hp hn)
theorem Block.only_img {s t : Block} {l : List Fld} {ps : List Part} (h : s.only t l ps) (v : Img) (hp : Part.img ∈ ps) :
    s.only { t with img := v } l ps :=
  Block.only_parts h rfl (fun p hn => by cases p <;> first | exact rfl | exact absurd hp hn)
theorem Block.within_img {s t : Block} {sel : Nat → Prop} {ps : List Part} (h : s.within t sel ps) (v : Img) (hp : Part.img ∈ ps) :
    s.within { t with img := v } sel ps :=
  Block.within_parts h rfl (fun p hn => by cases p <;> first | exact rfl | exact absurd hp hn)
theorem Block.only_pwr {s t : Block} {l : List Fld} {ps : List Part} (h : s.only t l ps) (v : Pwr) (hp : Part.pwr ∈ ps) :
    s.only { t with pwr := v } l ps :=
  Block.only_parts h rfl (fun p hn => by cases p <;> first | exact rfl | exact absurd hp hn)
theorem Block.within_pwr {s t : Block} {sel : Nat → Prop} {ps : List Part} (h : s.within t sel ps) (v : Pwr) (hp : Part.pwr ∈ ps) :
    s.within { t with pwr := v } sel ps :=
  Block.within_parts h rfl (fun p hn => by cases p <;> first | exact rfl | exact absurd hp hn)
theorem Block.only_lsn {s t : Block} {l : List Fld} {ps : List Part} (h : s.only t l ps) (v : Listen) (hp : Part.lsn ∈ ps) :
    s.only { t with lsn := v } l ps :=
  Block.only_parts h rfl (fun p hn => by cases p <;> first | exact rfl | exact absurd hp hn)
theorem Block.within_lsn {s t : Block} {sel : Nat → Prop} {ps : List Part} (h : s.within t sel ps) (v : Listen) (hp : Part.lsn ∈ ps) :
    s.within { t with lsn := v } sel ps :=
  Block.within_parts h rfl (fun p hn => by cases p <;> first | exact rfl | exact absurd hp hn)
theorem Block.only_bst {s t : Block} {l : List Fld} {ps : List Part} (h : s.only t l ps) (v : Bst) (hp : Part.bst ∈ ps) :
    s.only { t with bst := v } l ps :=
  Block.only_parts h rfl (fun p hn => by cases p <;> first | exact rfl | exact absurd hp hn)
theorem Block.within_bst {s t : Block} {sel : Nat → Prop} {ps : List Part} (h : s.within t sel ps) (v : Bst) (hp : Part.bst ∈ ps) :
    s.within { t with bst := v } sel ps :=
  Block.within_parts h rfl (fun p hn => by cases p <;> first | exact rfl | exact absurd hp hn)
theorem Block.only_otp {s t : Block} {l : List Fld} {ps : List Part} (h : s.only t l ps) (v : Otp) (hp : Part.otp ∈ ps) :
    s.only { t with otp := v } l ps :=
  Block.only_parts h rfl (fun p hn => by cases p <;> first | exact rfl | exact absurd hp hn)
theorem Block.within_otp {s t : Block} {sel : Nat → Prop} {ps : List Part} (h : s.within t sel ps) (v : Otp) (hp : Part.otp ∈ ps) :
    s.within { t with otp := v } sel ps :=
  Block.within_parts h rfl (fun p hn => by cases p <;> first | exact rfl | exact absurd hp hn)
theorem Block.only_modCell {s t : Block} {l : List Fld} {ps : List Part} (h : s.only t l ps) (k : Nat) (f : CellSt → CellSt) (hp : Part.cells ∈ ps) :
    s.only (t.modCell k f) l ps := Block.only_cells h _ hp
theorem Block.within_modCell {s t : Block} {sel : Nat → Prop} {ps : List Part} (h : s.within t sel ps) (k : Nat) (f : CellSt → CellSt) (hp : Part.cells ∈ ps) :
    s.within (t.modCell k f) sel ps := Block.within_cells h _ hp
theorem Block.only_modGrp {s t : Block} {l : List Fld} {ps : List Part} (h : s.only t l ps) (k : Nat) (f : GroupSt → GroupSt) (hp : Part.cells ∈ ps) :
    s.only (t.modGrp k f) l ps := Block.only_cells h _ hp
theorem Block.within_modGrp {s t : Block} {sel : Nat → Prop} {ps : List Part} (h : s.within t sel ps) (k : Nat) (f : GroupSt → GroupSt) (hp : Part.cells ∈ ps) :
    s.within (t.modGrp k f) sel ps := Block.within_cells h _ hp
theorem Block.only_modOut {s t : Block} {l : List Fld} {ps : List Part} (h : s.only t l ps) (k : Nat) (f : OutSt → OutSt) (hp : Part.ports ∈ ps) :
    s.only (t.modOut k f) l ps := Block.only_ports h _ hp
theorem Block.within_modOut {s t : Block} {sel : Nat → Prop} {ps : List Part} (h : s.within t sel ps) (k : Nat) (f : OutSt → OutSt) (hp : Part.ports ∈ ps) :
    s.within (t.modOut k f) sel ps := Block.within_ports h _ hp
theorem Block.only_modIn {s t : Block} {l : List Fld} {ps : List Part} (h : s.only t l ps) (k : Nat) (f : InSt → InSt) (hp : Part.ports ∈ ps) :
    s.only (t.modIn k f) l ps := Block.only_ports h _ hp
theorem Block.within_modIn {s t : Block} {sel : Nat → Prop} {ps : List Part} (h : s.within t sel ps) (k : Nat) (f : InSt → InSt) (hp : Part.ports ∈ ps) :
    s.within (t.modIn k f) sel ps := Block.within_ports h _ hp
theorem Block.only_modBias {s t : Block} {l : List Fld} {ps : List Part} (h : s.only t l ps) (k : Nat) (f : BiasSt → BiasSt) (hp : Part.ports ∈ ps) :
    s.only (t.modBias k f) l ps := Block.only_ports h _ hp
theorem Block.within_modBias {s t : Block} {sel : Nat → Prop} {ps : List Part} (h : s.within t sel ps) (k : Nat) (f : BiasSt → BiasSt) (hp : Part.ports ∈ ps) :
    s.within (t.modBias k f) sel ps := Block.within_ports h _ hp
theorem Block.only_modJack {s t : Block} {l : List Fld} {ps : List Part} (h : s.only t l ps) (k : Nat) (f : JackSt → JackSt) (hp : Part.ports ∈ ps) :
    s.only (t.modJack k f) l ps := Block.only_ports h _ hp
theorem Block.within_modJack {s t : Block} {sel : Nat → Prop} {ps : List Part} (h : s.within t sel ps) (k : Nat) (f : JackSt → JackSt) (hp : Part.ports ∈ ps) :
    s.within (t.modJack k f) sel ps := Block.within_ports h _ hp
theorem Block.only_modChain {s t : Block} {l : List Fld} {ps : List Part} (h : s.only t l ps) (c : ChainId) (f : ChainSt → ChainSt) (hp : Part.chains ∈ ps) :
    s.only (t.modChain c f) l ps := Block.only_chains h _ hp
theorem Block.within_modChain {s t : Block} {sel : Nat → Prop} {ps : List Part} (h : s.within t sel ps) (c : ChainId) (f : ChainSt → ChainSt) (hp : Part.chains ∈ ps) :
    s.within (t.modChain c f) sel ps := Block.within_chains h _ hp
theorem Block.only_modXp {s t : Block} {l : List Fld} {ps : List Part} (h : s.only t l ps) (o i : Nat) (f : XpSt → XpSt) (hp : Part.dir ∈ ps) :
    s.only (t.modXp o i f) l ps := Block.only_dir h _ hp
theorem Block.within_modXp {s t : Block} {sel : Nat → Prop} {ps : List Part} (h : s.within t sel ps) (o i : Nat) (f : XpSt → XpSt) (hp : Part.dir ∈ ps) :
    s.within (t.modXp o i f) sel ps := Block.within_dir h _ hp
theorem Block.only_modDout {s t : Block} {l : List Fld} {ps : List Part} (h : s.only t l ps) (k : Nat) (f : DirOut → DirOut) (hp : Part.dir ∈ ps) :
    s.only (t.modDout k f) l ps := Block.only_dir h _ hp
theorem Block.within_modDout {s t : Block} {sel : Nat → Prop} {ps : List Part} (h : s.within t sel ps) (k : Nat) (f : DirOut → DirOut) (hp : Part.dir ∈ ps) :
    s.within (t.modDout k f) sel ps := Block.within_dir h _ hp
theorem Block.only_modGraph {s t : Block} {l : List Fld} {ps : List Part} (h : s.only t l ps) (f : Graph → Graph) (hp : Part.graph ∈ ps) :
    s.only (t.modGraph f) l ps := Block.only_graph h _ hp
theorem Block.within_modGraph {s t : Block} {sel : Nat → Prop} {ps : List Part} (h : s.within t sel ps) (f : Graph → Graph) (hp : Part.graph ∈ ps) :
    s.within (t.modGraph f) sel ps := Block.within_graph h _ hp
theorem Block.only_modBlk {s t : Block} {l : List Fld} {ps : List Part} (h : s.only t l ps) (k : Nat) (f : BlkSt → BlkSt) (hp : Part.graph ∈ ps) :
    s.only (t.modBlk k f) l ps := Block.only_graph h _ hp
theorem Block.within_modBlk {s t : Block} {sel : Nat → Prop} {ps : List Part} (h : s.within t sel ps) (k : Nat) (f : BlkSt → BlkSt) (hp : Part.graph ∈ ps) :
    s.within (t.modBlk k f) sel ps := Block.within_graph h _ hp
theorem Block.only_modSel {s t : Block} {l : List Fld} {ps : List Part} (h : s.only t l ps) (k : Nat) (f : SelSt → SelSt) (hp : Part.graph ∈ ps) :
    s.only (t.modSel k f) l ps := Block.only_graph h _ hp
theorem Block.within_modSel {s t : Block} {sel : Nat → Prop} {ps : List Part} (h : s.within t sel ps) (k : Nat) (f : SelSt → SelSt) (hp : Part.graph ∈ ps) :
    s.within (t.modSel k f) sel ps := Block.within_graph h _ hp
theorem Block.only_modSap {s t : Block} {l : List Fld} {ps : List Part} (h : s.only t l ps) (k : Nat) (f : SapSt → SapSt) (hp : Part.sap ∈ ps) :
    s.only (t.modSap k f) l ps := Block.only_sap h _ hp
theorem Block.within_modSap {s t : Block} {sel : Nat → Prop} {ps : List Part} (h : s.within t sel ps) (k : Nat) (f : SapSt → SapSt) (hp : Part.sap ∈ ps) :
    s.within (t.modSap k f) sel ps := Block.within_sap h _ hp
theorem Block.only_modSrc {s t : Block} {l : List Fld} {ps : List Part} (h : s.only t l ps) (k : Nat) (f : SrcSt → SrcSt) (hp : Part.sap ∈ ps) :
    s.only (t.modSrc k f) l ps := Block.only_sap h _ hp
theorem Block.within_modSrc {s t : Block} {sel : Nat → Prop} {ps : List Part} (h : s.within t sel ps) (k : Nat) (f : SrcSt → SrcSt) (hp : Part.sap ∈ ps) :
    s.within (t.modSrc k f) sel ps := Block.within_sap h _ hp
theorem Block.only_modSpk {s t : Block} {l : List Fld} {ps : List Part} (h : s.only t l ps) (k : Nat) (f : SpkSt → SpkSt) (hp : Part.spk ∈ ps) :
    s.only (t.modSpk k f) l ps := Block.only_spk h _ hp
theorem Block.within_modSpk {s t : Block} {sel : Nat → Prop} {ps : List Part} (h : s.within t sel ps) (k : Nat) (f : SpkSt → SpkSt) (hp : Part.spk ∈ ps) :
    s.within (t.modSpk k f) sel ps := Block.within_spk h _ hp
theorem Block.only_modUnit {s t : Block} {l : List Fld} {ps : List Part} (h : s.only t l ps) (k : Nat) (f : CscUnit → CscUnit) (hp : Part.csc ∈ ps) :
    s.only (t.modUnit k f) l ps := Block.only_csc h _ hp
theorem Block.within_modUnit {s t : Block} {sel : Nat → Prop} {ps : List Part} (h : s.within t sel ps) (k : Nat) (f : CscUnit → CscUnit) (hp : Part.csc ∈ ps) :
    s.within (t.modUnit k f) sel ps := Block.within_csc h _ hp
theorem Block.only_modAcc {s t : Block} {l : List Fld} {ps : List Part} (h : s.only t l ps) (k : Nat) (f : CscAcc → CscAcc) (hp : Part.csc ∈ ps) :
    s.only (t.modAcc k f) l ps := Block.only_csc h _ hp
theorem Block.within_modAcc {s t : Block} {sel : Nat → Prop} {ps : List Part} (h : s.within t sel ps) (k : Nat) (f : CscAcc → CscAcc) (hp : Part.csc ∈ ps) :
    s.within (t.modAcc k f) sel ps := Block.within_csc h _ hp
theorem Block.only_modTmr {s t : Block} {l : List Fld} {ps : List Part} (h : s.only t l ps) (k : Nat) (f : CscTimer → CscTimer) (hp : Part.csc ∈ ps) :
    s.only (t.modTmr k f) l ps := Block.only_csc h _ hp
theorem Block.within_modTmr {s t : Block} {sel : Nat → Prop} {ps : List Part} (h : s.within t sel ps) (k : Nat) (f : CscTimer → CscTimer) (hp : Part.csc ∈ ps) :
    s.within (t.modTmr k f) sel ps := Block.within_csc h _ hp
theorem Block.only_modPort {s t : Block} {l : List Fld} {ps : List Part} (h : s.only t l ps) (k : Nat) (f : PortSt → PortSt) (hp : Part.net ∈ ps) :
    s.only (t.modPort k f) l ps := Block.only_net h _ hp
theorem Block.within_modPort {s t : Block} {sel : Nat → Prop} {ps : List Part} (h : s.within t sel ps) (k : Nat) (f : PortSt → PortSt) (hp : Part.net ∈ ps) :
    s.within (t.modPort k f) sel ps := Block.within_net h _ hp
theorem Block.only_modProt {s t : Block} {l : List Fld} {ps : List Part} (h : s.only t l ps) (k : Nat) (f : ProtSt → ProtSt) (hp : Part.net ∈ ps) :
    s.only (t.modProt k f) l ps := Block.only_net h _ hp
theorem Block.within_modProt {s t : Block} {sel : Nat → Prop} {ps : List Part} (h : s.within t sel ps) (k : Nat) (f : ProtSt → ProtSt) (hp : Part.net ∈ ps) :
    s.within (t.modProt k f) sel ps := Block.within_net h _ hp
theorem Block.only_modDma {s t : Block} {l : List Fld} {ps : List Part} (h : s.only t l ps) (k : Nat) (f : DmaSt → DmaSt) (hp : Part.mem ∈ ps) :
    s.only (t.modDma k f) l ps := Block.only_mem h _ hp
theorem Block.within_modDma {s t : Block} {sel : Nat → Prop} {ps : List Part} (h : s.within t sel ps) (k : Nat) (f : DmaSt → DmaSt) (hp : Part.mem ∈ ps) :
    s.within (t.modDma k f) sel ps := Block.within_mem h _ hp
theorem Block.only_modMem {s t : Block} {l : List Fld} {ps : List Part} (h : s.only t l ps) (f : Mem → Mem) (hp : Part.mem ∈ ps) :
    s.only (t.modMem f) l ps := Block.only_mem h _ hp
theorem Block.within_modMem {s t : Block} {sel : Nat → Prop} {ps : List Part} (h : s.within t sel ps) (f : Mem → Mem) (hp : Part.mem ∈ ps) :
    s.within (t.modMem f) sel ps := Block.within_mem h _ hp
theorem Block.only_modXspi {s t : Block} {l : List Fld} {ps : List Part} (h : s.only t l ps) (f : Xspi → Xspi) (hp : Part.mem ∈ ps) :
    s.only (t.modXspi f) l ps := Block.only_mem h _ hp
theorem Block.within_modXspi {s t : Block} {sel : Nat → Prop} {ps : List Part} (h : s.within t sel ps) (f : Xspi → Xspi) (hp : Part.mem ∈ ps) :
    s.within (t.modXspi f) sel ps := Block.within_mem h _ hp
theorem Block.only_modNet {s t : Block} {l : List Fld} {ps : List Part} (h : s.only t l ps) (f : Net → Net) (hp : Part.net ∈ ps) :
    s.only (t.modNet f) l ps := Block.only_net h _ hp
theorem Block.within_modNet {s t : Block} {sel : Nat → Prop} {ps : List Part} (h : s.within t sel ps) (f : Net → Net) (hp : Part.net ∈ ps) :
    s.within (t.modNet f) sel ps := Block.within_net h _ hp
theorem Block.only_modRun {s t : Block} {l : List Fld} {ps : List Part} (h : s.only t l ps) (f : CensusRun → CensusRun) (hp : Part.net ∈ ps) :
    s.only (t.modRun f) l ps := Block.only_net h _ hp
theorem Block.within_modRun {s t : Block} {sel : Nat → Prop} {ps : List Part} (h : s.within t sel ps) (f : CensusRun → CensusRun) (hp : Part.net ∈ ps) :
    s.within (t.modRun f) sel ps := Block.within_net h _ hp
theorem Block.only_modClk {s t : Block} {l : List Fld} {ps : List Part} (h : s.only t l ps) (f : Clk → Clk) (hp : Part.clk ∈ ps) :
    s.only (t.modClk f) l ps := Block.only_clk h _ hp
theorem Block.within_modClk {s t : Block} {sel : Nat → Prop} {ps : List Part} (h : s.within t sel ps) (f : Clk → Clk) (hp : Part.clk ∈ ps) :
    s.within (t.modClk f) sel ps := Block.within_clk h _ hp
theorem Block.only_modImg {s t : Block} {l : List Fld} {ps : List Part} (h : s.only t l ps) (f : Img → Img) (hp : Part.img ∈ ps) :
    s.only (t.modImg f) l ps := Block.only_img h _ hp
theorem Block.within_modImg {s t : Block} {sel : Nat → Prop} {ps : List Part} (h : s.within t sel ps) (f : Img → Img) (hp : Part.img ∈ ps) :
    s.within (t.modImg f) sel ps := Block.within_img h _ hp
theorem Block.only_modLoad {s t : Block} {l : List Fld} {ps : List Part} (h : s.only t l ps) (f : Load → Load) (hp : Part.img ∈ ps) :
    s.only (t.modLoad f) l ps := Block.only_img h _ hp
theorem Block.within_modLoad {s t : Block} {sel : Nat → Prop} {ps : List Part} (h : s.within t sel ps) (f : Load → Load) (hp : Part.img ∈ ps) :
    s.within (t.modLoad f) sel ps := Block.within_img h _ hp
theorem Block.only_modGraft {s t : Block} {l : List Fld} {ps : List Part} (h : s.only t l ps) (f : Graft → Graft) (hp : Part.img ∈ ps) :
    s.only (t.modGraft f) l ps := Block.only_img h _ hp
theorem Block.within_modGraft {s t : Block} {sel : Nat → Prop} {ps : List Part} (h : s.within t sel ps) (f : Graft → Graft) (hp : Part.img ∈ ps) :
    s.within (t.modGraft f) sel ps := Block.within_img h _ hp
theorem Block.only_modPwr {s t : Block} {l : List Fld} {ps : List Part} (h : s.only t l ps) (f : Pwr → Pwr) (hp : Part.pwr ∈ ps) :
    s.only (t.modPwr f) l ps := Block.only_pwr h _ hp
theorem Block.within_modPwr {s t : Block} {sel : Nat → Prop} {ps : List Part} (h : s.within t sel ps) (f : Pwr → Pwr) (hp : Part.pwr ∈ ps) :
    s.within (t.modPwr f) sel ps := Block.within_pwr h _ hp
theorem Block.only_modLsn {s t : Block} {l : List Fld} {ps : List Part} (h : s.only t l ps) (f : Listen → Listen) (hp : Part.lsn ∈ ps) :
    s.only (t.modLsn f) l ps := Block.only_lsn h _ hp
theorem Block.within_modLsn {s t : Block} {sel : Nat → Prop} {ps : List Part} (h : s.within t sel ps) (f : Listen → Listen) (hp : Part.lsn ∈ ps) :
    s.within (t.modLsn f) sel ps := Block.within_lsn h _ hp
theorem Block.only_modBst {s t : Block} {l : List Fld} {ps : List Part} (h : s.only t l ps) (f : Bst → Bst) (hp : Part.bst ∈ ps) :
    s.only (t.modBst f) l ps := Block.only_bst h _ hp
theorem Block.within_modBst {s t : Block} {sel : Nat → Prop} {ps : List Part} (h : s.within t sel ps) (f : Bst → Bst) (hp : Part.bst ∈ ps) :
    s.within (t.modBst f) sel ps := Block.within_bst h _ hp
theorem Block.only_modHost {s t : Block} {l : List Fld} {ps : List Part} (h : s.only t l ps) (f : HostSt → HostSt) (hp : Part.host ∈ ps) :
    s.only (t.modHost f) l ps := Block.only_host h _ hp
theorem Block.within_modHost {s t : Block} {sel : Nat → Prop} {ps : List Part} (h : s.within t sel ps) (f : HostSt → HostSt) (hp : Part.host ∈ ps) :
    s.within (t.modHost f) sel ps := Block.within_host h _ hp
theorem Block.only_sendOn {s t : Block} {l : List Fld} {ps : List Part} (h : s.only t l ps) (k : Nat) (f : Packet) (hp : Part.net ∈ ps) :
    s.only (t.sendOn k f) l ps := Block.only_net h _ hp
theorem Block.within_sendOn {s t : Block} {sel : Nat → Prop} {ps : List Part} (h : s.within t sel ps) (k : Nat) (f : Packet) (hp : Part.net ∈ ps) :
    s.within (t.sendOn k f) sel ps := Block.within_net h _ hp
/-- Sending a packet changes the packets that wait alone. -/
theorem Block.only_send {s t : Block} {l : List Fld} {ps : List Part} (h : s.only t l ps) (k : Packet) (hp : Part.net ∈ ps) : s.only (t.send k) l ps := by
  unfold Block.send
  split
  · exact Block.only_forAll _ _ (fun x _ u hu => Block.only_sendOn hu x k hp) h
  · split
    · exact Block.only_sendOn h _ k hp
    · exact h

theorem Block.within_send {s t : Block} {sel : Nat → Prop} {ps : List Part} (h : s.within t sel ps) (k : Packet) (hp : Part.net ∈ ps) :
    s.within (t.send k) sel ps := by
  unfold Block.send
  split
  · exact Block.within_forAll _ _ (fun x _ u hu => Block.within_sendOn hu x k hp) h
  · split
    · exact Block.within_sendOn h _ k hp
    · exact h

end Sys2Proof.Machine
end

