-- ==== Sys2Proof/Laws/Memory.lean ====
section
/-! SUPPORT. Every operation over the register file and over the memories keeps the canonical form that `Block.memSound` names. -/

namespace Sys2Proof.Machine

variable {s : Block}

/-! ## The register file -/

theorem Block.memSound_setW (h : s.memSound) (a : Nat) (w : Word) : (s.setW a w).memSound := ⟨Tab.set_wf h.1 a w, h.2⟩

theorem Block.memSound_put (h : s.memSound) (x : Fld) (v : Nat) : (s.put x v).memSound := Block.memSound_setW h _ _

theorem Block.memSound_putInt (h : s.memSound) (x : Fld) (v : Int) : (s.putInt x v).memSound := Block.memSound_setW h _ _

theorem Block.memSound_putB (h : s.memSound) (x : Fld) (b : Bool) : (s.putB x b).memSound := Block.memSound_setW h _ _

theorem Block.memSound_raise (h : s.memSound) (x : Fld) : (s.raise x).memSound := Block.memSound_setW h _ _

theorem Block.memSound_bump (h : s.memSound) (x : Fld) : (s.bump x).memSound := by
  unfold Block.bump; split
  · exact Block.memSound_put h _ _
  · exact h

theorem Block.memSound_bumpWrap (h : s.memSound) (x : Fld) : (s.bumpWrap x).memSound := Block.memSound_setW h _ _

theorem Block.memSound_resetRegs (h : s.memSound) (k : ResetKind) (sel : Nat → Bool) : (s.resetRegs k sel).memSound :=
  ⟨Tab.mapAll_wf h.1 (fun a w => if sel a then resetKeep k a w else w), h.2⟩

theorem Block.memSound_used (h : s.memSound) : s.used.memSound := h

theorem Block.memSound_onlyIf (h : s.memSound) (c : Bool) {g : Block → Block} (hg : ∀ t : Block, t.memSound → (g t).memSound) :
    (s.onlyIf c g).memSound := by
  cases c
  · exact h
  · exact hg s h

theorem Block.memSound_forAll {α : Type} (h : s.memSound) (l : List α) {g : α → Block → Block}
    (hg : ∀ a, ∀ t : Block, t.memSound → (g a t).memSound) : (s.forAll l g).memSound := by
  unfold Block.forAll
  induction l generalizing s with
  | nil => exact h
  | cons a l ih => exact ih (hg a s h)

/-! ## The fault ledger -/

theorem Block.memSound_setEntry (h : s.memSound) (e : Nat) (x : Option LedgerEntry) : (s.setEntry e x).memSound := h

theorem Block.memSound_newEntry (h : s.memSound) (cause block inst : Nat) (detail : Word) (snap : List Word) :
    (s.newEntry cause block inst detail snap).memSound := by
  unfold Block.newEntry
  exact Block.memSound_onlyIf (Block.memSound_put (Block.memSound_onlyIf (Block.memSound_raise (Block.memSound_setEntry h _ _) _) _
    (fun t ht => Block.memSound_raise (Block.memSound_bump ht _) _)) _ _) _ (fun t ht => Block.memSound_bump ht _)

theorem Block.memSound_record (h : s.memSound) (cause block inst : Nat) (detail : Word) (snap : List Word) :
    (s.record cause block inst detail snap).memSound := by
  unfold Block.record
  split
  · split
    · exact Block.memSound_setEntry h _ _
    · exact Block.memSound_newEntry h _ _ _ _ _
  · exact Block.memSound_newEntry h _ _ _ _ _

/-! ## The memories -/

theorem Block.memSound_takeUpsets (h : s.memSound) (us : List Upset) : (s.takeUpsets us).memSound :=
  Block.memSound_forAll h us (fun _ _ ht => ht)

theorem Block.memSound_failBank (h : s.memSound) (k : Nat) : (s.failBank k).memSound := by
  unfold Block.failBank
  split
  · exact h
  · exact Block.memSound_record (Block.memSound_raise (Block.memSound_raise h _) _) _ _ _ _ _

theorem Block.memSound_corrected (h : s.memSound) (a : Nat) : (s.corrected a).memSound := by
  have hr := Block.memSound_raise (Block.memSound_bump h Reg.MEM_CE_CNT_CE) Reg.MEM_EVT_CE
  simp only [Block.corrected]
  split
  · exact hr
  · exact hr

theorem Block.memSound_ueSeen (h : s.memSound) (l : List (Nat × Nat)) : (s.modMem (fun m => { m with ueSeen := l })).memSound := h

theorem Block.memSound_ite {c : Prop} [Decidable c] {t : Block} (h : s.memSound) (ht : t.memSound) : (if c then s else t).memSound := by
  split <;> assumption

theorem Block.memSound_uncorrectable (h : s.memSound) (a reader : Nat) (snap : List Word) : (s.uncorrectable a reader snap).memSound := by
  have hr := Block.memSound_put (Block.memSound_put (Block.memSound_raise (Block.memSound_bump h Reg.MEM_UE_CNT_UE) Reg.MEM_EVT_UE)
    Reg.MEM_UE_ADDR_ADDR a) Reg.MEM_UE_ADDR_RDR reader
  unfold Block.uncorrectable
  refine Block.memSound_ite (Block.memSound_record hr _ _ _ _ _) ?_
  exact Block.memSound_ite (Block.memSound_failBank (Block.memSound_record (Block.memSound_ueSeen hr _) _ _ _ _ _) _)
    (Block.memSound_record (Block.memSound_ueSeen hr _) _ _ _ _ _)

/-- A read of the audio SRAM. -/
theorem Block.memSound_sramRead (h : s.memSound) (x reader : Nat) (snap : List Word) : (s.sramRead x reader snap).2.2.memSound := by
  simp only [Block.sramRead]
  split
  · exact h
  · split
    · exact h
    · exact Block.memSound_corrected h _
    · exact Block.memSound_uncorrectable (Block.memSound_used h) _ _ _

/-- A write of the audio SRAM. -/
theorem Block.memSound_sramWrite (h : s.memSound) (x : Nat) (w : Word) : (s.sramWrite x w).memSound := by
  unfold Block.sramWrite
  dsimp only
  split
  · exact h
  · exact ⟨h.1, Memory.writeWord_wf h.2.1 _ _, h.2.2⟩

/-- A read of coefficient memory. -/
theorem Block.memSound_coefRead (h : s.memSound) (x c : Nat) : (s.coefRead x c).2.2.memSound := by
  simp only [Block.coefRead]
  split
  · exact h
  · exact Block.memSound_corrected h _
  · exact Block.memSound_record (Block.memSound_put (Block.memSound_put (Block.memSound_raise h _) _ _) _ _) _ _ _ _ _

/-- A read of coefficient memory by the host or the DMA engine. -/
theorem Block.memSound_coefFetch (h : s.memSound) (x reader : Nat) (snap : List Word) : (s.coefFetch x reader snap).2.2.memSound := by
  simp only [Block.coefFetch]
  split
  · exact h
  · exact Block.memSound_corrected h _
  · exact Block.memSound_uncorrectable (Block.memSound_used h) _ _ _

/-- A write of coefficient memory. -/
theorem Block.memSound_coefWrite (h : s.memSound) (x : Nat) (w : Word) : (s.coefWrite x w).memSound :=
  ⟨h.1, h.2.1, Memory.writeWord_wf h.2.2.1 _ _, h.2.2.2⟩

theorem Block.memSound_scrubOp (h : s.memSound) (a : Nat) : (s.scrubOp a).memSound := by
  unfold Block.scrubOp
  split
  · exact h
  · exact h

theorem Block.memSound_clearBanks (h : s.memSound) (sel : Nat → Bool) : (s.clearBanks sel).memSound :=
  ⟨h.1, Tab.filter_wf h.2.1 _, h.2.2⟩

theorem Block.memSound_beginClear (h : s.memSound) (sel : Nat → Bool) : (s.beginClear sel).memSound := Block.memSound_clearBanks h sel

theorem Block.memSound_clearDoneOp (h : s.memSound) : s.clearDoneOp.memSound := by
  unfold Block.clearDoneOp
  split
  · split
    · exact h
    · exact h
  · exact h

theorem Block.memSound_renewBanks (h : s.memSound) : s.renewBanks.memSound := by
  have hr := Block.memSound_put (Block.memSound_clearBanks h (fun k => s.bankFailed k)) Reg.MEM_BANK_STAT_FAILED 0
  exact hr

/-- The halves of configuration memory are exchanged. -/
theorem Block.memSound_exchange (h : s.memSound) : s.exchange.memSound := ⟨h.1, h.2.1, h.2.2.1, h.2.2.2.2, h.2.2.2.1⟩

/-- The coefficient banks of a convolver are loaded. -/
theorem Block.memSound_loadCoefs (h : s.memSound) (d : Decoded) (c : Nat) : (s.loadCoefs d c).memSound := by
  unfold Block.loadCoefs
  refine Block.memSound_put (Block.memSound_forAll ?_ _ (fun p t ht => Block.memSound_coefWrite ht p.1 p.2)) _ _
  exact ⟨h.1, h.2.1, Tab.filter_wf h.2.2.1 _, h.2.2.2⟩

/-- A word of an image is stored. -/
theorem Block.memSound_imageWord (h : s.memSound) (a : Nat) (w : Word) :
    (s.modMem (fun m => { m with shadow := m.shadow.writeWord a w })).memSound :=
  ⟨h.1, h.2.1, h.2.2.1, h.2.2.2.1, Memory.writeWord_wf h.2.2.2.2 _ _⟩

/-- What a POR or PIN reset keeps outside registers. -/
theorem Block.memSound_afterReset (h : s.memSound) (por : Bool) : (s.afterReset por).memSound := by
  cases por
  · exact ⟨h.1, h.2.1, rfl, rfl, rfl⟩
  · exact ⟨h.1, rfl, rfl, rfl, rfl⟩

theorem Block.memSound_porOp (h : s.memSound) : s.porOp.memSound :=
  Block.memSound_putB (s := { s.afterReset true with regs := [] }) ⟨rfl, (Block.memSound_afterReset h true).2⟩ _ _

end Sys2Proof.Machine
end

