-- ==== Sys2Proof/Laws/Records.lean ====
section
/-! SUPPORT. Laws of the hidden records: a record reads as last changed, a change of one leaves the others alone, and a store to a register leaves
them all alone. -/

namespace Sys2Proof.Machine

/-- The value at a key after the value at a key is rewritten. -/
theorem Tab.get_upd {α : Type} [DecidableEq α] (d : Nat → α) (t : Tab α) (j k : Nat) (f : α → α) :
    Tab.get d (Tab.upd d t k f) j = if j = k then f (Tab.get d t k) else Tab.get d t j := by
  simp [Tab.upd, Tab.get_set]


/-! ## `cell` -/

@[simp] theorem Block.cell_modCell_self (s : Block) (k : Nat) (h : CellSt → CellSt) : (s.modCell k h).cell k = h (s.cell k) :=
  (Tab.get_upd _ _ k k h).trans (if_pos rfl)
theorem Block.cell_modCell_other (s : Block) {j k : Nat} (h : CellSt → CellSt) (hj : j ≠ k) : (s.modCell k h).cell j = s.cell j :=
  (Tab.get_upd _ _ j k h).trans (if_neg hj)
theorem Block.cell_congr {s t : Block} (h : t.cells = s.cells) (k : Nat) : t.cell k = s.cell k := by unfold Block.cell; rw [h]
@[simp] theorem Block.cell_setW (s : Block) (a : Nat) (w : Word) (k : Nat) : (s.setW a w).cell k = s.cell k := rfl
@[simp] theorem Block.cell_put (s : Block) (x : Fld) (v k : Nat) : (s.put x v).cell k = s.cell k := rfl
@[simp] theorem Block.cell_putInt (s : Block) (x : Fld) (v : Int) (k : Nat) : (s.putInt x v).cell k = s.cell k := rfl
@[simp] theorem Block.cell_putB (s : Block) (x : Fld) (b : Bool) (k : Nat) : (s.putB x b).cell k = s.cell k := rfl
@[simp] theorem Block.cell_raise (s : Block) (x : Fld) (k : Nat) : (s.raise x).cell k = s.cell k := rfl
@[simp] theorem Block.cell_bumpWrap (s : Block) (x : Fld) (k : Nat) : (s.bumpWrap x).cell k = s.cell k := rfl
@[simp] theorem Block.cell_bump (s : Block) (x : Fld) (k : Nat) : (s.bump x).cell k = s.cell k := Block.cell_congr (Block.bump_cells s x) k

/-! ## `grp` -/

@[simp] theorem Block.grp_modGrp_self (s : Block) (k : Nat) (h : GroupSt → GroupSt) : (s.modGrp k h).grp k = h (s.grp k) :=
  (Tab.get_upd _ _ k k h).trans (if_pos rfl)
theorem Block.grp_modGrp_other (s : Block) {j k : Nat} (h : GroupSt → GroupSt) (hj : j ≠ k) : (s.modGrp k h).grp j = s.grp j :=
  (Tab.get_upd _ _ j k h).trans (if_neg hj)
theorem Block.grp_congr {s t : Block} (h : t.cells = s.cells) (k : Nat) : t.grp k = s.grp k := by unfold Block.grp; rw [h]
@[simp] theorem Block.grp_setW (s : Block) (a : Nat) (w : Word) (k : Nat) : (s.setW a w).grp k = s.grp k := rfl
@[simp] theorem Block.grp_put (s : Block) (x : Fld) (v k : Nat) : (s.put x v).grp k = s.grp k := rfl
@[simp] theorem Block.grp_putInt (s : Block) (x : Fld) (v : Int) (k : Nat) : (s.putInt x v).grp k = s.grp k := rfl
@[simp] theorem Block.grp_putB (s : Block) (x : Fld) (b : Bool) (k : Nat) : (s.putB x b).grp k = s.grp k := rfl
@[simp] theorem Block.grp_raise (s : Block) (x : Fld) (k : Nat) : (s.raise x).grp k = s.grp k := rfl
@[simp] theorem Block.grp_bumpWrap (s : Block) (x : Fld) (k : Nat) : (s.bumpWrap x).grp k = s.grp k := rfl
@[simp] theorem Block.grp_bump (s : Block) (x : Fld) (k : Nat) : (s.bump x).grp k = s.grp k := Block.grp_congr (Block.bump_cells s x) k

/-! ## `out` -/

@[simp] theorem Block.out_modOut_self (s : Block) (k : Nat) (h : OutSt → OutSt) : (s.modOut k h).out k = h (s.out k) :=
  (Tab.get_upd _ _ k k h).trans (if_pos rfl)
theorem Block.out_modOut_other (s : Block) {j k : Nat} (h : OutSt → OutSt) (hj : j ≠ k) : (s.modOut k h).out j = s.out j :=
  (Tab.get_upd _ _ j k h).trans (if_neg hj)
theorem Block.out_congr {s t : Block} (h : t.ports = s.ports) (k : Nat) : t.out k = s.out k := by unfold Block.out; rw [h]
@[simp] theorem Block.out_setW (s : Block) (a : Nat) (w : Word) (k : Nat) : (s.setW a w).out k = s.out k := rfl
@[simp] theorem Block.out_put (s : Block) (x : Fld) (v k : Nat) : (s.put x v).out k = s.out k := rfl
@[simp] theorem Block.out_putInt (s : Block) (x : Fld) (v : Int) (k : Nat) : (s.putInt x v).out k = s.out k := rfl
@[simp] theorem Block.out_putB (s : Block) (x : Fld) (b : Bool) (k : Nat) : (s.putB x b).out k = s.out k := rfl
@[simp] theorem Block.out_raise (s : Block) (x : Fld) (k : Nat) : (s.raise x).out k = s.out k := rfl
@[simp] theorem Block.out_bumpWrap (s : Block) (x : Fld) (k : Nat) : (s.bumpWrap x).out k = s.out k := rfl
@[simp] theorem Block.out_bump (s : Block) (x : Fld) (k : Nat) : (s.bump x).out k = s.out k := Block.out_congr (Block.bump_ports s x) k

/-! ## `inp` -/

@[simp] theorem Block.inp_modIn_self (s : Block) (k : Nat) (h : InSt → InSt) : (s.modIn k h).inp k = h (s.inp k) :=
  (Tab.get_upd _ _ k k h).trans (if_pos rfl)
theorem Block.inp_modIn_other (s : Block) {j k : Nat} (h : InSt → InSt) (hj : j ≠ k) : (s.modIn k h).inp j = s.inp j :=
  (Tab.get_upd _ _ j k h).trans (if_neg hj)
theorem Block.inp_congr {s t : Block} (h : t.ports = s.ports) (k : Nat) : t.inp k = s.inp k := by unfold Block.inp; rw [h]
@[simp] theorem Block.inp_setW (s : Block) (a : Nat) (w : Word) (k : Nat) : (s.setW a w).inp k = s.inp k := rfl
@[simp] theorem Block.inp_put (s : Block) (x : Fld) (v k : Nat) : (s.put x v).inp k = s.inp k := rfl
@[simp] theorem Block.inp_putInt (s : Block) (x : Fld) (v : Int) (k : Nat) : (s.putInt x v).inp k = s.inp k := rfl
@[simp] theorem Block.inp_putB (s : Block) (x : Fld) (b : Bool) (k : Nat) : (s.putB x b).inp k = s.inp k := rfl
@[simp] theorem Block.inp_raise (s : Block) (x : Fld) (k : Nat) : (s.raise x).inp k = s.inp k := rfl
@[simp] theorem Block.inp_bumpWrap (s : Block) (x : Fld) (k : Nat) : (s.bumpWrap x).inp k = s.inp k := rfl
@[simp] theorem Block.inp_bump (s : Block) (x : Fld) (k : Nat) : (s.bump x).inp k = s.inp k := Block.inp_congr (Block.bump_ports s x) k

/-! ## `biasSt` -/

@[simp] theorem Block.biasSt_modBias_self (s : Block) (k : Nat) (h : BiasSt → BiasSt) : (s.modBias k h).biasSt k = h (s.biasSt k) :=
  (Tab.get_upd _ _ k k h).trans (if_pos rfl)
theorem Block.biasSt_modBias_other (s : Block) {j k : Nat} (h : BiasSt → BiasSt) (hj : j ≠ k) : (s.modBias k h).biasSt j = s.biasSt j :=
  (Tab.get_upd _ _ j k h).trans (if_neg hj)
theorem Block.biasSt_congr {s t : Block} (h : t.ports = s.ports) (k : Nat) : t.biasSt k = s.biasSt k := by unfold Block.biasSt; rw [h]
@[simp] theorem Block.biasSt_setW (s : Block) (a : Nat) (w : Word) (k : Nat) : (s.setW a w).biasSt k = s.biasSt k := rfl
@[simp] theorem Block.biasSt_put (s : Block) (x : Fld) (v k : Nat) : (s.put x v).biasSt k = s.biasSt k := rfl
@[simp] theorem Block.biasSt_putInt (s : Block) (x : Fld) (v : Int) (k : Nat) : (s.putInt x v).biasSt k = s.biasSt k := rfl
@[simp] theorem Block.biasSt_putB (s : Block) (x : Fld) (b : Bool) (k : Nat) : (s.putB x b).biasSt k = s.biasSt k := rfl
@[simp] theorem Block.biasSt_raise (s : Block) (x : Fld) (k : Nat) : (s.raise x).biasSt k = s.biasSt k := rfl
@[simp] theorem Block.biasSt_bumpWrap (s : Block) (x : Fld) (k : Nat) : (s.bumpWrap x).biasSt k = s.biasSt k := rfl
@[simp] theorem Block.biasSt_bump (s : Block) (x : Fld) (k : Nat) : (s.bump x).biasSt k = s.biasSt k := Block.biasSt_congr (Block.bump_ports s x) k

/-! ## `jack` -/

@[simp] theorem Block.jack_modJack_self (s : Block) (k : Nat) (h : JackSt → JackSt) : (s.modJack k h).jack k = h (s.jack k) :=
  (Tab.get_upd _ _ k k h).trans (if_pos rfl)
theorem Block.jack_modJack_other (s : Block) {j k : Nat} (h : JackSt → JackSt) (hj : j ≠ k) : (s.modJack k h).jack j = s.jack j :=
  (Tab.get_upd _ _ j k h).trans (if_neg hj)
theorem Block.jack_congr {s t : Block} (h : t.ports = s.ports) (k : Nat) : t.jack k = s.jack k := by unfold Block.jack; rw [h]
@[simp] theorem Block.jack_setW (s : Block) (a : Nat) (w : Word) (k : Nat) : (s.setW a w).jack k = s.jack k := rfl
@[simp] theorem Block.jack_put (s : Block) (x : Fld) (v k : Nat) : (s.put x v).jack k = s.jack k := rfl
@[simp] theorem Block.jack_putInt (s : Block) (x : Fld) (v : Int) (k : Nat) : (s.putInt x v).jack k = s.jack k := rfl
@[simp] theorem Block.jack_putB (s : Block) (x : Fld) (b : Bool) (k : Nat) : (s.putB x b).jack k = s.jack k := rfl
@[simp] theorem Block.jack_raise (s : Block) (x : Fld) (k : Nat) : (s.raise x).jack k = s.jack k := rfl
@[simp] theorem Block.jack_bumpWrap (s : Block) (x : Fld) (k : Nat) : (s.bumpWrap x).jack k = s.jack k := rfl
@[simp] theorem Block.jack_bump (s : Block) (x : Fld) (k : Nat) : (s.bump x).jack k = s.jack k := Block.jack_congr (Block.bump_ports s x) k

/-! ## `dout` -/

@[simp] theorem Block.dout_modDout_self (s : Block) (k : Nat) (h : DirOut → DirOut) : (s.modDout k h).dout k = h (s.dout k) :=
  (Tab.get_upd _ _ k k h).trans (if_pos rfl)
theorem Block.dout_modDout_other (s : Block) {j k : Nat} (h : DirOut → DirOut) (hj : j ≠ k) : (s.modDout k h).dout j = s.dout j :=
  (Tab.get_upd _ _ j k h).trans (if_neg hj)
theorem Block.dout_congr {s t : Block} (h : t.dir = s.dir) (k : Nat) : t.dout k = s.dout k := by unfold Block.dout; rw [h]
@[simp] theorem Block.dout_setW (s : Block) (a : Nat) (w : Word) (k : Nat) : (s.setW a w).dout k = s.dout k := rfl
@[simp] theorem Block.dout_put (s : Block) (x : Fld) (v k : Nat) : (s.put x v).dout k = s.dout k := rfl
@[simp] theorem Block.dout_putInt (s : Block) (x : Fld) (v : Int) (k : Nat) : (s.putInt x v).dout k = s.dout k := rfl
@[simp] theorem Block.dout_putB (s : Block) (x : Fld) (b : Bool) (k : Nat) : (s.putB x b).dout k = s.dout k := rfl
@[simp] theorem Block.dout_raise (s : Block) (x : Fld) (k : Nat) : (s.raise x).dout k = s.dout k := rfl
@[simp] theorem Block.dout_bumpWrap (s : Block) (x : Fld) (k : Nat) : (s.bumpWrap x).dout k = s.dout k := rfl
@[simp] theorem Block.dout_bump (s : Block) (x : Fld) (k : Nat) : (s.bump x).dout k = s.dout k := Block.dout_congr (Block.bump_dir s x) k

/-! ## `blk` -/

@[simp] theorem Block.blk_modBlk_self (s : Block) (k : Nat) (h : BlkSt → BlkSt) : (s.modBlk k h).blk k = h (s.blk k) :=
  (Tab.get_upd _ _ k k h).trans (if_pos rfl)
theorem Block.blk_modBlk_other (s : Block) {j k : Nat} (h : BlkSt → BlkSt) (hj : j ≠ k) : (s.modBlk k h).blk j = s.blk j :=
  (Tab.get_upd _ _ j k h).trans (if_neg hj)
theorem Block.blk_congr {s t : Block} (h : t.graph = s.graph) (k : Nat) : t.blk k = s.blk k := by unfold Block.blk; rw [h]
@[simp] theorem Block.blk_setW (s : Block) (a : Nat) (w : Word) (k : Nat) : (s.setW a w).blk k = s.blk k := rfl
@[simp] theorem Block.blk_put (s : Block) (x : Fld) (v k : Nat) : (s.put x v).blk k = s.blk k := rfl
@[simp] theorem Block.blk_putInt (s : Block) (x : Fld) (v : Int) (k : Nat) : (s.putInt x v).blk k = s.blk k := rfl
@[simp] theorem Block.blk_putB (s : Block) (x : Fld) (b : Bool) (k : Nat) : (s.putB x b).blk k = s.blk k := rfl
@[simp] theorem Block.blk_raise (s : Block) (x : Fld) (k : Nat) : (s.raise x).blk k = s.blk k := rfl
@[simp] theorem Block.blk_bumpWrap (s : Block) (x : Fld) (k : Nat) : (s.bumpWrap x).blk k = s.blk k := rfl
@[simp] theorem Block.blk_bump (s : Block) (x : Fld) (k : Nat) : (s.bump x).blk k = s.blk k := Block.blk_congr (Block.bump_graph s x) k

/-! ## `sel` -/

@[simp] theorem Block.sel_modSel_self (s : Block) (k : Nat) (h : SelSt → SelSt) : (s.modSel k h).sel k = h (s.sel k) :=
  (Tab.get_upd _ _ k k h).trans (if_pos rfl)
theorem Block.sel_modSel_other (s : Block) {j k : Nat} (h : SelSt → SelSt) (hj : j ≠ k) : (s.modSel k h).sel j = s.sel j :=
  (Tab.get_upd _ _ j k h).trans (if_neg hj)
theorem Block.sel_congr {s t : Block} (h : t.graph = s.graph) (k : Nat) : t.sel k = s.sel k := by unfold Block.sel; rw [h]
@[simp] theorem Block.sel_setW (s : Block) (a : Nat) (w : Word) (k : Nat) : (s.setW a w).sel k = s.sel k := rfl
@[simp] theorem Block.sel_put (s : Block) (x : Fld) (v k : Nat) : (s.put x v).sel k = s.sel k := rfl
@[simp] theorem Block.sel_putInt (s : Block) (x : Fld) (v : Int) (k : Nat) : (s.putInt x v).sel k = s.sel k := rfl
@[simp] theorem Block.sel_putB (s : Block) (x : Fld) (b : Bool) (k : Nat) : (s.putB x b).sel k = s.sel k := rfl
@[simp] theorem Block.sel_raise (s : Block) (x : Fld) (k : Nat) : (s.raise x).sel k = s.sel k := rfl
@[simp] theorem Block.sel_bumpWrap (s : Block) (x : Fld) (k : Nat) : (s.bumpWrap x).sel k = s.sel k := rfl
@[simp] theorem Block.sel_bump (s : Block) (x : Fld) (k : Nat) : (s.bump x).sel k = s.sel k := Block.sel_congr (Block.bump_graph s x) k

/-! ## `sapSt` -/

@[simp] theorem Block.sapSt_modSap_self (s : Block) (k : Nat) (h : SapSt → SapSt) : (s.modSap k h).sapSt k = h (s.sapSt k) :=
  (Tab.get_upd _ _ k k h).trans (if_pos rfl)
theorem Block.sapSt_modSap_other (s : Block) {j k : Nat} (h : SapSt → SapSt) (hj : j ≠ k) : (s.modSap k h).sapSt j = s.sapSt j :=
  (Tab.get_upd _ _ j k h).trans (if_neg hj)
theorem Block.sapSt_congr {s t : Block} (h : t.sap = s.sap) (k : Nat) : t.sapSt k = s.sapSt k := by unfold Block.sapSt; rw [h]
@[simp] theorem Block.sapSt_setW (s : Block) (a : Nat) (w : Word) (k : Nat) : (s.setW a w).sapSt k = s.sapSt k := rfl
@[simp] theorem Block.sapSt_put (s : Block) (x : Fld) (v k : Nat) : (s.put x v).sapSt k = s.sapSt k := rfl
@[simp] theorem Block.sapSt_putInt (s : Block) (x : Fld) (v : Int) (k : Nat) : (s.putInt x v).sapSt k = s.sapSt k := rfl
@[simp] theorem Block.sapSt_putB (s : Block) (x : Fld) (b : Bool) (k : Nat) : (s.putB x b).sapSt k = s.sapSt k := rfl
@[simp] theorem Block.sapSt_raise (s : Block) (x : Fld) (k : Nat) : (s.raise x).sapSt k = s.sapSt k := rfl
@[simp] theorem Block.sapSt_bumpWrap (s : Block) (x : Fld) (k : Nat) : (s.bumpWrap x).sapSt k = s.sapSt k := rfl
@[simp] theorem Block.sapSt_bump (s : Block) (x : Fld) (k : Nat) : (s.bump x).sapSt k = s.sapSt k := Block.sapSt_congr (Block.bump_sap s x) k

/-! ## `srcSt` -/

@[simp] theorem Block.srcSt_modSrc_self (s : Block) (k : Nat) (h : SrcSt → SrcSt) : (s.modSrc k h).srcSt k = h (s.srcSt k) :=
  (Tab.get_upd _ _ k k h).trans (if_pos rfl)
theorem Block.srcSt_modSrc_other (s : Block) {j k : Nat} (h : SrcSt → SrcSt) (hj : j ≠ k) : (s.modSrc k h).srcSt j = s.srcSt j :=
  (Tab.get_upd _ _ j k h).trans (if_neg hj)
theorem Block.srcSt_congr {s t : Block} (h : t.sap = s.sap) (k : Nat) : t.srcSt k = s.srcSt k := by unfold Block.srcSt; rw [h]
@[simp] theorem Block.srcSt_setW (s : Block) (a : Nat) (w : Word) (k : Nat) : (s.setW a w).srcSt k = s.srcSt k := rfl
@[simp] theorem Block.srcSt_put (s : Block) (x : Fld) (v k : Nat) : (s.put x v).srcSt k = s.srcSt k := rfl
@[simp] theorem Block.srcSt_putInt (s : Block) (x : Fld) (v : Int) (k : Nat) : (s.putInt x v).srcSt k = s.srcSt k := rfl
@[simp] theorem Block.srcSt_putB (s : Block) (x : Fld) (b : Bool) (k : Nat) : (s.putB x b).srcSt k = s.srcSt k := rfl
@[simp] theorem Block.srcSt_raise (s : Block) (x : Fld) (k : Nat) : (s.raise x).srcSt k = s.srcSt k := rfl
@[simp] theorem Block.srcSt_bumpWrap (s : Block) (x : Fld) (k : Nat) : (s.bumpWrap x).srcSt k = s.srcSt k := rfl
@[simp] theorem Block.srcSt_bump (s : Block) (x : Fld) (k : Nat) : (s.bump x).srcSt k = s.srcSt k := Block.srcSt_congr (Block.bump_sap s x) k

/-! ## `spkSt` -/

@[simp] theorem Block.spkSt_modSpk_self (s : Block) (k : Nat) (h : SpkSt → SpkSt) : (s.modSpk k h).spkSt k = h (s.spkSt k) :=
  (Tab.get_upd _ _ k k h).trans (if_pos rfl)
theorem Block.spkSt_modSpk_other (s : Block) {j k : Nat} (h : SpkSt → SpkSt) (hj : j ≠ k) : (s.modSpk k h).spkSt j = s.spkSt j :=
  (Tab.get_upd _ _ j k h).trans (if_neg hj)
theorem Block.spkSt_congr {s t : Block} (h : t.spk = s.spk) (k : Nat) : t.spkSt k = s.spkSt k := by unfold Block.spkSt; rw [h]
@[simp] theorem Block.spkSt_setW (s : Block) (a : Nat) (w : Word) (k : Nat) : (s.setW a w).spkSt k = s.spkSt k := rfl
@[simp] theorem Block.spkSt_put (s : Block) (x : Fld) (v k : Nat) : (s.put x v).spkSt k = s.spkSt k := rfl
@[simp] theorem Block.spkSt_putInt (s : Block) (x : Fld) (v : Int) (k : Nat) : (s.putInt x v).spkSt k = s.spkSt k := rfl
@[simp] theorem Block.spkSt_putB (s : Block) (x : Fld) (b : Bool) (k : Nat) : (s.putB x b).spkSt k = s.spkSt k := rfl
@[simp] theorem Block.spkSt_raise (s : Block) (x : Fld) (k : Nat) : (s.raise x).spkSt k = s.spkSt k := rfl
@[simp] theorem Block.spkSt_bumpWrap (s : Block) (x : Fld) (k : Nat) : (s.bumpWrap x).spkSt k = s.spkSt k := rfl
@[simp] theorem Block.spkSt_bump (s : Block) (x : Fld) (k : Nat) : (s.bump x).spkSt k = s.spkSt k := Block.spkSt_congr (Block.bump_spk s x) k

/-! ## `cscUnit` -/

@[simp] theorem Block.cscUnit_modUnit_self (s : Block) (k : Nat) (h : CscUnit → CscUnit) : (s.modUnit k h).cscUnit k = h (s.cscUnit k) :=
  (Tab.get_upd _ _ k k h).trans (if_pos rfl)
theorem Block.cscUnit_modUnit_other (s : Block) {j k : Nat} (h : CscUnit → CscUnit) (hj : j ≠ k) : (s.modUnit k h).cscUnit j = s.cscUnit j :=
  (Tab.get_upd _ _ j k h).trans (if_neg hj)
theorem Block.cscUnit_congr {s t : Block} (h : t.csc = s.csc) (k : Nat) : t.cscUnit k = s.cscUnit k := by unfold Block.cscUnit; rw [h]
@[simp] theorem Block.cscUnit_setW (s : Block) (a : Nat) (w : Word) (k : Nat) : (s.setW a w).cscUnit k = s.cscUnit k := rfl
@[simp] theorem Block.cscUnit_put (s : Block) (x : Fld) (v k : Nat) : (s.put x v).cscUnit k = s.cscUnit k := rfl
@[simp] theorem Block.cscUnit_putInt (s : Block) (x : Fld) (v : Int) (k : Nat) : (s.putInt x v).cscUnit k = s.cscUnit k := rfl
@[simp] theorem Block.cscUnit_putB (s : Block) (x : Fld) (b : Bool) (k : Nat) : (s.putB x b).cscUnit k = s.cscUnit k := rfl
@[simp] theorem Block.cscUnit_raise (s : Block) (x : Fld) (k : Nat) : (s.raise x).cscUnit k = s.cscUnit k := rfl
@[simp] theorem Block.cscUnit_bumpWrap (s : Block) (x : Fld) (k : Nat) : (s.bumpWrap x).cscUnit k = s.cscUnit k := rfl
@[simp] theorem Block.cscUnit_bump (s : Block) (x : Fld) (k : Nat) : (s.bump x).cscUnit k = s.cscUnit k := Block.cscUnit_congr (Block.bump_csc s x) k

/-! ## `cscAcc` -/

@[simp] theorem Block.cscAcc_modAcc_self (s : Block) (k : Nat) (h : CscAcc → CscAcc) : (s.modAcc k h).cscAcc k = h (s.cscAcc k) :=
  (Tab.get_upd _ _ k k h).trans (if_pos rfl)
theorem Block.cscAcc_modAcc_other (s : Block) {j k : Nat} (h : CscAcc → CscAcc) (hj : j ≠ k) : (s.modAcc k h).cscAcc j = s.cscAcc j :=
  (Tab.get_upd _ _ j k h).trans (if_neg hj)
theorem Block.cscAcc_congr {s t : Block} (h : t.csc = s.csc) (k : Nat) : t.cscAcc k = s.cscAcc k := by unfold Block.cscAcc; rw [h]
@[simp] theorem Block.cscAcc_setW (s : Block) (a : Nat) (w : Word) (k : Nat) : (s.setW a w).cscAcc k = s.cscAcc k := rfl
@[simp] theorem Block.cscAcc_put (s : Block) (x : Fld) (v k : Nat) : (s.put x v).cscAcc k = s.cscAcc k := rfl
@[simp] theorem Block.cscAcc_putInt (s : Block) (x : Fld) (v : Int) (k : Nat) : (s.putInt x v).cscAcc k = s.cscAcc k := rfl
@[simp] theorem Block.cscAcc_putB (s : Block) (x : Fld) (b : Bool) (k : Nat) : (s.putB x b).cscAcc k = s.cscAcc k := rfl
@[simp] theorem Block.cscAcc_raise (s : Block) (x : Fld) (k : Nat) : (s.raise x).cscAcc k = s.cscAcc k := rfl
@[simp] theorem Block.cscAcc_bumpWrap (s : Block) (x : Fld) (k : Nat) : (s.bumpWrap x).cscAcc k = s.cscAcc k := rfl
@[simp] theorem Block.cscAcc_bump (s : Block) (x : Fld) (k : Nat) : (s.bump x).cscAcc k = s.cscAcc k := Block.cscAcc_congr (Block.bump_csc s x) k

/-! ## `cscTmr` -/

@[simp] theorem Block.cscTmr_modTmr_self (s : Block) (k : Nat) (h : CscTimer → CscTimer) : (s.modTmr k h).cscTmr k = h (s.cscTmr k) :=
  (Tab.get_upd _ _ k k h).trans (if_pos rfl)
theorem Block.cscTmr_modTmr_other (s : Block) {j k : Nat} (h : CscTimer → CscTimer) (hj : j ≠ k) : (s.modTmr k h).cscTmr j = s.cscTmr j :=
  (Tab.get_upd _ _ j k h).trans (if_neg hj)
theorem Block.cscTmr_congr {s t : Block} (h : t.csc = s.csc) (k : Nat) : t.cscTmr k = s.cscTmr k := by unfold Block.cscTmr; rw [h]
@[simp] theorem Block.cscTmr_setW (s : Block) (a : Nat) (w : Word) (k : Nat) : (s.setW a w).cscTmr k = s.cscTmr k := rfl
@[simp] theorem Block.cscTmr_put (s : Block) (x : Fld) (v k : Nat) : (s.put x v).cscTmr k = s.cscTmr k := rfl
@[simp] theorem Block.cscTmr_putInt (s : Block) (x : Fld) (v : Int) (k : Nat) : (s.putInt x v).cscTmr k = s.cscTmr k := rfl
@[simp] theorem Block.cscTmr_putB (s : Block) (x : Fld) (b : Bool) (k : Nat) : (s.putB x b).cscTmr k = s.cscTmr k := rfl
@[simp] theorem Block.cscTmr_raise (s : Block) (x : Fld) (k : Nat) : (s.raise x).cscTmr k = s.cscTmr k := rfl
@[simp] theorem Block.cscTmr_bumpWrap (s : Block) (x : Fld) (k : Nat) : (s.bumpWrap x).cscTmr k = s.cscTmr k := rfl
@[simp] theorem Block.cscTmr_bump (s : Block) (x : Fld) (k : Nat) : (s.bump x).cscTmr k = s.cscTmr k := Block.cscTmr_congr (Block.bump_csc s x) k

/-! ## `port` -/

@[simp] theorem Block.port_modPort_self (s : Block) (k : Nat) (h : PortSt → PortSt) : (s.modPort k h).port k = h (s.port k) :=
  (Tab.get_upd _ _ k k h).trans (if_pos rfl)
theorem Block.port_modPort_other (s : Block) {j k : Nat} (h : PortSt → PortSt) (hj : j ≠ k) : (s.modPort k h).port j = s.port j :=
  (Tab.get_upd _ _ j k h).trans (if_neg hj)
theorem Block.port_congr {s t : Block} (h : t.net = s.net) (k : Nat) : t.port k = s.port k := by unfold Block.port; rw [h]
@[simp] theorem Block.port_setW (s : Block) (a : Nat) (w : Word) (k : Nat) : (s.setW a w).port k = s.port k := rfl
@[simp] theorem Block.port_put (s : Block) (x : Fld) (v k : Nat) : (s.put x v).port k = s.port k := rfl
@[simp] theorem Block.port_putInt (s : Block) (x : Fld) (v : Int) (k : Nat) : (s.putInt x v).port k = s.port k := rfl
@[simp] theorem Block.port_putB (s : Block) (x : Fld) (b : Bool) (k : Nat) : (s.putB x b).port k = s.port k := rfl
@[simp] theorem Block.port_raise (s : Block) (x : Fld) (k : Nat) : (s.raise x).port k = s.port k := rfl
@[simp] theorem Block.port_bumpWrap (s : Block) (x : Fld) (k : Nat) : (s.bumpWrap x).port k = s.port k := rfl
@[simp] theorem Block.port_bump (s : Block) (x : Fld) (k : Nat) : (s.bump x).port k = s.port k := Block.port_congr (Block.bump_net s x) k

/-! ## `prot` -/

@[simp] theorem Block.prot_modProt_self (s : Block) (k : Nat) (h : ProtSt → ProtSt) : (s.modProt k h).prot k = h (s.prot k) :=
  (Tab.get_upd _ _ k k h).trans (if_pos rfl)
theorem Block.prot_modProt_other (s : Block) {j k : Nat} (h : ProtSt → ProtSt) (hj : j ≠ k) : (s.modProt k h).prot j = s.prot j :=
  (Tab.get_upd _ _ j k h).trans (if_neg hj)
theorem Block.prot_congr {s t : Block} (h : t.net = s.net) (k : Nat) : t.prot k = s.prot k := by unfold Block.prot; rw [h]
@[simp] theorem Block.prot_setW (s : Block) (a : Nat) (w : Word) (k : Nat) : (s.setW a w).prot k = s.prot k := rfl
@[simp] theorem Block.prot_put (s : Block) (x : Fld) (v k : Nat) : (s.put x v).prot k = s.prot k := rfl
@[simp] theorem Block.prot_putInt (s : Block) (x : Fld) (v : Int) (k : Nat) : (s.putInt x v).prot k = s.prot k := rfl
@[simp] theorem Block.prot_putB (s : Block) (x : Fld) (b : Bool) (k : Nat) : (s.putB x b).prot k = s.prot k := rfl
@[simp] theorem Block.prot_raise (s : Block) (x : Fld) (k : Nat) : (s.raise x).prot k = s.prot k := rfl
@[simp] theorem Block.prot_bumpWrap (s : Block) (x : Fld) (k : Nat) : (s.bumpWrap x).prot k = s.prot k := rfl
@[simp] theorem Block.prot_bump (s : Block) (x : Fld) (k : Nat) : (s.bump x).prot k = s.prot k := Block.prot_congr (Block.bump_net s x) k

/-! ## `dma` -/

@[simp] theorem Block.dma_modDma_self (s : Block) (k : Nat) (h : DmaSt → DmaSt) : (s.modDma k h).dma k = h (s.dma k) :=
  (Tab.get_upd _ _ k k h).trans (if_pos rfl)
theorem Block.dma_modDma_other (s : Block) {j k : Nat} (h : DmaSt → DmaSt) (hj : j ≠ k) : (s.modDma k h).dma j = s.dma j :=
  (Tab.get_upd _ _ j k h).trans (if_neg hj)
theorem Block.dma_congr {s t : Block} (h : t.mem = s.mem) (k : Nat) : t.dma k = s.dma k := by unfold Block.dma; rw [h]
@[simp] theorem Block.dma_setW (s : Block) (a : Nat) (w : Word) (k : Nat) : (s.setW a w).dma k = s.dma k := rfl
@[simp] theorem Block.dma_put (s : Block) (x : Fld) (v k : Nat) : (s.put x v).dma k = s.dma k := rfl
@[simp] theorem Block.dma_putInt (s : Block) (x : Fld) (v : Int) (k : Nat) : (s.putInt x v).dma k = s.dma k := rfl
@[simp] theorem Block.dma_putB (s : Block) (x : Fld) (b : Bool) (k : Nat) : (s.putB x b).dma k = s.dma k := rfl
@[simp] theorem Block.dma_raise (s : Block) (x : Fld) (k : Nat) : (s.raise x).dma k = s.dma k := rfl
@[simp] theorem Block.dma_bumpWrap (s : Block) (x : Fld) (k : Nat) : (s.bumpWrap x).dma k = s.dma k := rfl
@[simp] theorem Block.dma_bump (s : Block) (x : Fld) (k : Nat) : (s.bump x).dma k = s.dma k := Block.dma_congr (Block.bump_mem s x) k

/-! ## Chains and crosspoints -/

@[simp] theorem Block.chain_modChain_self (s : Block) (c : ChainId) (h : ChainSt → ChainSt) : (s.modChain c h).chain c = h (s.chain c) :=
  (Tab.get_upd _ _ (chainIx c) (chainIx c) h).trans (if_pos rfl)
theorem Block.chain_modChain_other (s : Block) {c d : ChainId} (h : ChainSt → ChainSt) (hd : chainIx d ≠ chainIx c) :
    (s.modChain c h).chain d = s.chain d := (Tab.get_upd _ _ (chainIx d) (chainIx c) h).trans (if_neg hd)
@[simp] theorem Block.chain_put (s : Block) (x : Fld) (v : Nat) (c : ChainId) : (s.put x v).chain c = s.chain c := rfl
@[simp] theorem Block.chain_raise (s : Block) (x : Fld) (c : ChainId) : (s.raise x).chain c = s.chain c := rfl
@[simp] theorem Block.xp_modXp_self (s : Block) (o i : Nat) (h : XpSt → XpSt) : (s.modXp o i h).xp o i = h (s.xp o i) :=
  (Tab.get_upd _ _ (24 * o + i) (24 * o + i) h).trans (if_pos rfl)
theorem Block.xp_modXp_other (s : Block) {o i p j : Nat} (h : XpSt → XpSt) (hj : 24 * p + j ≠ 24 * o + i) : (s.modXp o i h).xp p j = s.xp p j :=
  (Tab.get_upd _ _ (24 * p + j) (24 * o + i) h).trans (if_neg hj)
@[simp] theorem Block.xp_put (s : Block) (x : Fld) (v o i : Nat) : (s.put x v).xp o i = s.xp o i := rfl
@[simp] theorem Block.xp_raise (s : Block) (x : Fld) (o i : Nat) : (s.raise x).xp o i = s.xp o i := rfl

end Sys2Proof.Machine
end

