-- ==== Sys2Proof/Tests/Slice0.lean ====
section
/-! SUPPORT. The model's own tests. Each takes one command on a small state, checks the conditions of the statement about it, and one outcome that
the manual gives: together they show that the hypotheses of the statements can be met, at the edges where clauses meet. -/

namespace Sys2Proof.Machine

set_option Elab.async false

/-- A block with the core running, no interrupt group enabled, whose named fields hold the named values; the base mode is LOAD unless named. -/
def bare (fs : List (Fld × Nat)) : Block := fs.foldl (fun s p => s.put p.1 p.2) (Block.put {} Reg.IRQ_SUM_MASK_MASK 0)

/-- As `bare`, in a base mode. -/
def inMode (m : Nat) (fs : List (Fld × Nat)) : Block := bare ((Reg.PWR_MODE_BASE, m) :: fs)

/-- All of a list. -/
def every (l : List Bool) : Bool := l.all id

/-- The command is well formed, the conditions hold, and it answers a next state, with no command added, of which the outcome holds. -/
def case (c : Instr) (s : Block) (hyp : Block → Bool) (post : Block → Bool) : Bool :=
  c.wf && hyp s && (match exec c { toBlock := s } with | .next t => t.pending.isEmpty && post t.toBlock | _ => false)

/-- The command leaves everything as it was. -/
def idle (c : Instr) (s : Block) (hyp : Block → Bool := fun _ => true) : Bool := case c s hyp (fun u => decide (u = s))

/-- The command is refused as ill-formed, by WellFormed and by the machine. -/
def illFormed (c : Instr) : Bool := !c.wf && (match exec c State.reset with | .fault .noSuchUnit => true | _ => false)

/-- A component is the same. -/
def sameB (s t : Block) : Part → Bool
  | .time => t.time == s.time
  | .free => t.freeK == s.freeK
  | .host => t.host == s.host
  | .ledger => t.ledger == s.ledger
  | .core => t.core == s.core
  | .cells => t.cells == s.cells
  | .ports => t.ports == s.ports
  | .chains => t.chains == s.chains
  | .dir => t.dir == s.dir
  | .graph => t.graph == s.graph
  | .sap => t.sap == s.sap
  | .spk => t.spk == s.spk
  | .csc => t.csc == s.csc
  | .clk => t.clk == s.clk
  | .net => t.net == s.net
  | .mem => t.mem == s.mem
  | .img => t.img == s.img
  | .pwr => t.pwr == s.pwr
  | .lsn => t.lsn == s.lsn
  | .bst => t.bst == s.bst
  | .otp => t.otp == s.otp

/-- The components. -/
def parts : List Part :=
  [.time, .free, .host, .ledger, .core, .cells, .ports, .chains, .dir, .graph, .sap, .spk, .csc, .clk, .net, .mem, .img, .pwr, .lsn, .bst, .otp]

/-- The bits of a word outside the fields at its address. -/
def outside (flds : List Fld) (a : Nat) (w : Word) : Word :=
  flds.foldl (fun w x => if x.addr = a then setBits w x.lo x.width 0 else w) w

/-- The frame, evaluated: nothing outside the fields and the components has changed. -/
def onlyB (s t : Block) (flds : List Fld) (ps : List Part) : Bool :=
  ((s.regs ++ t.regs).all (fun p => outside flds p.1 (s.word p.1) == outside flds p.1 (t.word p.1))) &&
  parts.all (fun p => ps.contains p || sameB s t p)


/-! ### The queue, ticks, reset, access codes and retention -/

/-- R14 to R16 and the model's queue: a tick of an empty queue, at the last tick of a frame and in OFF. -/
theorem test_idle :
    (let s : Block := { inMode 6 [] with time := { now := 4080, tick := 255, frameDue := false, graphDue := false, slowLeft := 1 } }
     let o : Block := { inMode 0 [] with time := { tick := 3 } }
     let u := (State.idle { toBlock := s }).toBlock
     u.time.now == 4096 && u.time.tick == 0 && u.time.frameDue && u.time.graphDue && u.time.aont == 1 && u.time.slowCount == 1 &&
       decide ((State.idle { toBlock := o }).toBlock = o)) = true := by decide +kernel

theorem test_step_front :
    (match step { State.reset with pending := [.wdwarn, .ack] } with | .next t => decide (t = { State.reset with pending := [.ack] }) | _ => false) = true := by
  decide +kernel

/-- R543, R544: what reset leaves. -/
theorem test_reset :
    (State.reset.mode == modeLoad && State.reset.faultLow && !State.reset.coreOn && State.reset.statusWord == 0x00004400 &&
      Tab.wf resetWord State.reset.regs && State.reset.mem.sram.wf) = true := by decide +kernel

/-- R515: what the interrupt pin does after a command, with the mask over a pending summary. -/
theorem test_settle :
    (let s := bare [(Reg.IRQ_SUM_MASK_MASK, 0xFFFF), (Reg.PWR_EVT_MODE, 1), (Reg.PWR_MASK_MASK, 0x1FF)]
     s.irqPend != 0 && s.settle.host.irqLow && s.settle.f Reg.IRQ_CNT_ASSERTS == 1 && onlyB s s.settle [Reg.IRQ_CNT_ASSERTS] [.host, .net]) = true := by decide +kernel

/-- R11: SYS_SCRATCH, a class S and a class V register under resets. -/
theorem test_retention :
    (resetKeep .por Reg.SYS_SCRATCH 5 == resetWord Reg.SYS_SCRATCH && resetKeep .pin Reg.SYS_SCRATCH 5 == 5 && resetKeep .graft Reg.IRQ_CNT 7 == 0 &&
      resetKeep .sync Reg.IRQ_CNT 7 == 7 && resetKeep .sync (Reg.IRQ_GCAUSE_LO 0) 7 == 0) = true := by decide +kernel

/-- R8: a write of an event register clears the bits written 1. -/
theorem test_access :
    ((findReg Reg.SYS_EVT).all (fun r => writeFields r 0xF 0x5 == 0xA &&
      r.fields.Pairwise (fun f g => f.lo + f.width ≤ g.lo ∨ g.lo + g.width ≤ f.lo))) = true := by decide +kernel


/-! ### The host port, the watchdog and the software reset -/

/-- R511: a register write without a core clock, in REST and in OFF. -/
theorem test_write_without_core :
    (let r := inMode 2 []
     every [case (.rotNow 17) r (fun s => !s.coreOn) (fun u => u.on Reg.SYS_EVT_NOCORE && u.host.prevErr && onlyB r u [Reg.SYS_EVT_NOCORE] [.host]),
       idle (.ack) (inMode 0 [])]) = true := by decide +kernel

/-- R512: two copies of the status word in PLAY. -/
theorem test_spiStatus :
    (let s := inMode 6 []
     case (.spiStatus 2) s (fun s => s.base != modeOff && !s.host.rstReq) (fun u =>
       u.host.sdo == [0x00006800, 0x00006800] && u.host.status == 0x02 && onlyB s u [] [.host])) = true := by decide +kernel

/-- R508, R511: a write without core clock, with bit 30 of the address set, to a register, to the last word of the audio SRAM, to configuration memory
and to a reserved address. -/
theorem test_spiWrite :
    (let s := inMode 6 []
     let plain (u : Block) := u.host == { s.host with status := s.statusByte }
     every [case (.spiWrite 0x30 [5]) (inMode 6 [] |> fun b => { b with core := false }) (fun s => !s.coreOn) (fun u => u.on Reg.SYS_EVT_NOCORE && u.host.prevErr),
       case (.spiWrite 0x40000030 [5]) s (fun s => s.coreOn) (fun u => u.on Reg.SYS_EVT_RSV && u.host.prevErr && onlyB s u [Reg.SYS_EVT_RSV] [.host]),
       case (.spiWrite 0x30 [5]) s (fun s => s.coreOn) (fun u => u.word 0x30 == 5 && plain u && onlyB s u [Fld.all 0x30] [.host]),
       case (.spiWrite 0x4FFFFC [0x01020304]) s (fun s => !s.bankFailed (bankOf 0x3FFFFC) && s.bst.run.isNone) (fun u =>
         u.mem.sram.readWord 0x3FFFFC == 0x01020304 && u.mem.sram.read 0x3FFFFC == 1 && u.mem.sram.read 0x3FFFFB == 0 && plain u && onlyB s u [] [.host, .mem]),
       case (.spiWrite 0x63FFFC [1]) s (fun _ => true) (fun u => u.on Reg.MEM_EVT_CFGWR && plain u && onlyB s u [Reg.MEM_EVT_CFGWR] [.host]),
       case (.spiWrite 0x7FC [1]) s (fun _ => (findReg 0x7FC).isNone) (fun u => plain u && onlyB s u [] [.host])]) = true := by decide +kernel

/-- R509, R511, R561: a late word, a register, a word of the ledger, a word of the audio SRAM, and reads without core clock. -/
theorem test_spiRead :
    (let s : Block := { inMode 6 [(Reg.SYS_SCRATCH_DATA, 7)] with ledger := { entries := [(15, some {})] } }
     let r : Block := { inMode 2 [(Reg.SYS_SCRATCH_DATA, 7)] with core := false }
     every [case (.spiRead 0x80000030 1 [] []) s (fun s => s.coreOn) (fun u => u.on Reg.SYS_EVT_RSV && u.host.sdo == [] && onlyB s u [Reg.SYS_EVT_RSV] [.host]),
       case (.spiRead 0x30 1 [0] []) s (fun s => s.coreOn) (fun u => u.on Reg.SYS_EVT_LATE && u.host.sdo == [0] && onlyB s u [Reg.SYS_EVT_LATE] [.host]),
       case (.spiRead 0x30 1 [] []) s (fun s => s.coreOn) (fun u => u.host.sdo == [7] && onlyB s u [] [.host]),
       case (.spiRead 0x9FC 1 [] []) s (fun _ => true) (fun u => u.host.sdo == [s.ledgerWord 15 7] && (u.ledgerEntry 15).all (fun e => e.read) && onlyB s u [] [.host, .ledger]),
       case (.spiRead 0x9F8 1 [] []) s (fun _ => true) (fun u => u.host.sdo == [s.ledgerWord 15 6] && onlyB s u [] [.host]),
       case (.spiRead 0x100000 1 [] []) s (fun s => s.upset 0x100000 == 0) (fun u => u.host.sdo == [0] && onlyB s u [] [.host]),
       case (.spiRead 0x30 1 [] []) r (fun s => !s.coreOn) (fun u => u.host.sdo == [7] && onlyB r u [] [.host]),
       case (.spiRead 0x34 1 [] []) r (fun s => !s.coreOn && !aonServes 0x34) (fun u => u.host.sdo == [0] && u.on Reg.SYS_EVT_NOCORE)]) = true := by
  decide +kernel

/-- R505: an opcode the port does not know, with and without core clock; the four it knows are no such command. -/
theorem test_unknownOpcode :
    (let s := inMode 6 []
     every [case (.unknownOpcode 0x0B) s (fun s => s.coreOn) (fun u => u.on Reg.SYS_EVT_OPC && u.host.prevErr && onlyB s u [Reg.SYS_EVT_OPC] [.host]),
       case (.unknownOpcode 0) (inMode 2 []) (fun s => !s.coreOn) (fun u => u.on Reg.SYS_EVT_NOCORE),
       illFormed (.unknownOpcode 0x02), illFormed (.unknownOpcode 0x03), illFormed (.unknownOpcode 0x05), illFormed (.unknownOpcode 0x0C)]) = true := by decide +kernel

/-- R516: the release of IRQ_N and its end, at its core cycle and one before. -/
theorem test_rearm :
    (let s := inMode 6 [(Reg.IRQ_SUM_MASK_MASK, 0xFFFF), (Reg.PWR_EVT_MODE, 1), (Reg.PWR_MASK_MASK, 0x1FF)]
     let r (d : Nat) : Block := { s with time := { now := 100 }, host := { release := some d, wasZero := false } }
     every [case .rearm s (fun s => s.coreOn) (fun u => !u.host.irqLow && u.host.release == some 16),
       case .rearmEnd (r 100) (fun s => s.irqPend != 0) (fun u => u.host.irqLow && u.host.release.isNone && u.f Reg.IRQ_CNT_ASSERTS == 1),
       case .rearmEnd (r 101) (fun s => s.irqPend != 0) (fun u => !u.host.irqLow && u.host.release == some 101),
       idle .rearmEnd (inMode 6 [])]) = true := by decide +kernel

/-- R520, R522: the key, a wrong key, a kick at zero, the warning at half and above, the expiry. -/
theorem test_watchdog :
    (let w (left : Nat) : Block := { inMode 6 [(Reg.SYS_WDOG_CFG_EN, 1), (Reg.SYS_WDOG_CFG_PERIOD, 10)] with host := { wdLeft := left } }
     let safe (u : Block) := u.base == modeSafe && u.on Reg.SYS_WDOG_STAT_EXP && u.on Reg.PWR_SAFE_WDOG && !u.wdRuns
     every [case (.kick 0x6481) (w 1) (fun s => s.coreOn) (fun u => onlyB (w 1) u [Reg.SYS_EVT_WDBAD] [] && u.on Reg.SYS_EVT_WDBAD),
       case (.kick 0xFFFF6480) (w 1) (fun s => s.wdRuns) (fun u => u.host.wdLeft == 80 && onlyB (w 1) u [] [.host]),
       idle (.kick 0x6480) (inMode 6 []) (fun s => !s.wdRuns), case (.kick 0x6480) (w 0) (fun s => s.wdRuns) safe,
       case .wdwarn (w 40) (fun s => s.wdRuns) (fun u => u.on Reg.SYS_EVT_WDWARN && u.host.wdWarned && onlyB (w 40) u [Reg.SYS_EVT_WDWARN] [.host]),
       idle .wdwarn (w 41), case .wdogExpiry (w 0) (fun s => s.safeApplies) safe, idle .wdogExpiry (w 1)]) = true := by decide +kernel

/-- R521: the key, another key, and the reset when CS_N rises. -/
theorem test_softwareReset :
    (let s : Block := { inMode 6 [] with host := { rstReq := true } }
     every [case (.rstkey 0x6480) (inMode 6 []) (fun s => s.coreOn) (fun u => u.host.rstReq), idle (.rstkey 0x6481) (inMode 6 []),
       case .softwareReset s (fun s => s.host.rstReq) (fun u => !u.core && !u.host.rstReq && u.f Reg.PWR_RST_KIND == 1 && u.f Reg.PWR_RST_SRC == 2 &&
         u.f Reg.PWR_RST_PINCNT == 1), idle .softwareReset (inMode 6 [])]) = true := by decide +kernel


/-! ### Power, resets and the SAFE mode -/

/-- R544, R546: POR and the loss of power. -/
theorem test_por :
    (let s : Block := { inMode 6 [(Reg.SYS_SCRATCH_DATA, 9)] with time := { aont := 5, now := 100 }, ports := { shut := true }, mem := { sram := [(0, 1)] } }
     every [case .por s (fun _ => true) (fun u => u.f Reg.SYS_SCRATCH_DATA == 0 && u.on Reg.CLOCHE_STAT_SHUT && !u.core && u.mem == {} && u.time.aont == 0 && u.time.now == 0),
       case (.powerLoss true) s (fun _ => true) (fun u => u.base == modeOff && !u.core && u.mem == {}),
       case (.powerLoss false) s (fun _ => true) (fun u => u.base == modeLoad && !u.core)]) = true := by decide +kernel

/-- R545, R546: a PIN reset in PLAY and in DORMANT, and in OFF. -/
theorem test_pinReset :
    (let s : Block := { inMode 6 [(Reg.SYS_SCRATCH_DATA, 9), (Reg.PWR_RST_PINCNT, 0xFFFF)] with time := { aont := 5, now := 100 }, mem := { sram := [(0, 1)], coef := [(0, 1)] } }
     let d : Block := { s.put Reg.PWR_MODE_BASE 1 with ports := { shut := true } }
     every [case (.pinReset .resetN) s (fun s => Tab.wf resetWord s.regs) (fun u => u.f Reg.SYS_SCRATCH_DATA == 9 && u.f Reg.PWR_RST_SRC == 1 && u.f Reg.PWR_RST_PINCNT == 0xFFFF &&
         !u.core && u.pwr == {} && u.mem.sram == [(0, 1)] && u.mem.coef == [] && u.time.aont == 5 && u.word Reg.IRQ_SUM_MASK == resetWord Reg.IRQ_SUM_MASK),
       case (.pinReset .dormantWake) d (fun s => Tab.wf resetWord s.regs) (fun u => u.mem.sram == [] && u.pwr.loadAt == some 100 && u.on Reg.CLOCHE_STAT_SHUT && u.f Reg.PWR_RST_SRC == 4),
       idle (.pinReset .resetN) (inMode 0 [])]) = true := by decide +kernel

/-- R490, R543, R545: the release, the load of the OTP at its end and one core cycle before, with the boot from the host and with the boot plan. -/
theorem test_startUp :
    (let h : Block := { bare [] with core := false, time := { now := 196608 } }
     let l (k src now : Nat) : Block :=
       { bare [(Reg.PWR_RST_KIND, k), (Reg.PWR_RST_SRC, src)] with core := false, pwr := { loadAt := some 0 }, time := { now := now }, mem := { sram := [(0, 1)] } }
     every [case .coreRelease h (fun s => !s.core) (fun u => u.f Reg.PWR_RAIL_OK == 0xFF && u.pwr.loadAt == some 196608 && onlyB h u [Reg.PWR_RAIL_OK] [.pwr]),
       idle .coreRelease (bare []), idle .coreRelease { h with time := { now := 196607 } }, idle .coreRelease { bare [(Reg.PWR_RST_KIND, 1), (Reg.PWR_RST_SRC, 1)] with core := false },
       case .resetRelease { bare [(Reg.PWR_RST_KIND, 1), (Reg.PWR_RST_SRC, 1)] with core := false } (fun _ => true) (fun u => u.pwr.loadAt == some 0),
       idle .resetRelease h,
       case (.otpLoadDone 0) (l 0 0 98304) (fun s => !s.core) (fun u => u.core && u.f Reg.IMG_SRC_BOOT == 0 && u.mem.sram == [] && u.mem.clearing == some 131072 &&
         u.on Reg.CLK_STAT_RING && onlyB (l 0 0 98304) u [Reg.CLK_STAT_RING, Reg.IMG_SRC_BOOT] [.core, .mem]),
       idle (.otpLoadDone 0) (l 0 0 98303), case (.otpLoadDone 0) (l 1 4 98304) (fun _ => true) (fun u => u.mem.sram == []),
       case (.otpLoadDone 1) (l 1 1 98304) (fun _ => true) (fun u => u.core && u.f Reg.IMG_SRC_BOOT == 1 && u.mem.sram == [(0, 1)] && u.mem.clearing.isNone),
       case (.otpLoadDone 2) (l 1 1 98304) (fun _ => true) (fun u => u.core && u.f Reg.IMG_SRC_BOOT == 2 && u.mem.sram == [(0, 1)])]) = true := by decide +kernel

/-- R542: a core rail, and rails that are no core rails or a mode that does not watch them. -/
theorem test_railReset :
    (let s := inMode 6 [(Reg.PWR_RAIL_OK, 0xFF)]
     every [case (.railReset 0x03) s (fun _ => true) (fun u => !u.core && u.f Reg.PWR_RST_SRC == 3 && u.f Reg.PWR_RST_RAILS == 2 && u.f Reg.PWR_RAIL_OK == 0xFD && u.pwr == {}),
       idle (.railReset 0x81) s, idle (.railReset 0x7E) (inMode 2 [])]) = true := by decide +kernel

/-- R34, R528, R542: a rail and the temperature bring SAFE; PVDD only with a speaker; the recovery. -/
theorem test_safe :
    (let s := inMode 6 [(Reg.PWR_RAIL_OK, 0xFF)]
     let safe (u : Block) := u.base == modeSafe && u.on Reg.PWR_EVT_MODE && (List.range 18).all (fun o => u.outWeight o == 0 && !(u.out o).released)
     let f := inMode 10 [(Reg.PWR_SAFE_RAILNOW, 1), (Reg.PWR_SAFE_OTEMPNOW, 1)]
     every [case (.railFault 0) s (fun s => s.safeApplies) (fun u => safe u && u.f Reg.PWR_RAIL_OK == 0xFE && u.on Reg.PWR_SAFE_RAILNOW && u.on Reg.PWR_SAFE_RAIL),
       case (.railFault 7) s (fun s => !s.on (Reg.SPK_CFG_EN 0)) (fun u => u.f Reg.PWR_RAIL_OK == 0x7F && onlyB s u [Reg.PWR_RAIL_OK] []),
       case (.railFault 7) (s.put (Reg.SPK_CFG_EN 1) 1) (fun _ => true) safe,
       case (.railFault 6) (s.put Reg.PWR_MODE_BASE 2) (fun s => !s.safeApplies) (fun u => u.base == 2 && u.f Reg.PWR_RAIL_OK == 0xBF),
       case (.overtemp 100) s (fun s => s.safeApplies) (fun u => safe u && u.on Reg.PWR_SAFE_OTEMPNOW && u.on Reg.PWR_EVT_OTEMP), idle (.overtemp 100) (inMode 2 []),
       case (.railRecovery 0xFF true) f (fun s => s.img.active.isNone) (fun u => u.base == modeLoad && u.f Reg.PWR_SAFE_RAILNOW == 0 && u.f Reg.PWR_SAFE_OTEMPNOW == 0),
       case (.railRecovery 0xFF false) f (fun _ => true) (fun u => u.base == modeSafe && u.f Reg.PWR_SAFE_RAILNOW == 0),
       case (.railRecovery 0x7F true) (inMode 6 []) (fun _ => true) (fun u => onlyB (inMode 6 []) u [Reg.PWR_RAIL_OK, Reg.PWR_SAFE_RAILNOW, Reg.PWR_SAFE_OTEMPNOW] []),
       illFormed (.railFault 8)]) = true := by decide +kernel


/-! ### Modes, wakes and the Listen path -/

/-- R526 to R528: requests while busy, refused, and taken from READY, PLAY and SAFE. -/
theorem test_modeRequest :
    (let r := inMode 5 []
     let f : Block := { inMode 10 [] with img := { active := some {} } }
     let err (s u : Block) := u.on Reg.PWR_EVT_REQERR && onlyB s u [Reg.PWR_CTRL_REQ, Reg.PWR_EVT_REQERR] []
     every [case (.modeRequest 6) (r.put Reg.PWR_MODE_TRANS 1) (fun s => s.inEntry) (fun u => u.f Reg.PWR_CTRL_REQ == 6 && u.on Reg.PWR_EVT_REQBUSY),
       case (.modeRequest 15) r (fun s => !s.imgBusy) (err r), case (.modeRequest 11) { r with otp := { lc := 2 } } (fun s => s.otp.lc != lcDevelop) (fun u => u.on Reg.PWR_EVT_REQERR),
       case (.modeRequest 5) (inMode 10 []) (fun s => !s.safeLeaves) (err (inMode 10 [])), case (.modeRequest 3) r (fun s => s.f Reg.PWR_LSN_RING_LEN == 0) (err r),
       case (.modeRequest 6) r (fun s => !s.imgBusy) (fun u => u.base == modePlay && u.on Reg.PWR_EVT_MODE),
       case (.modeRequest 2) r (fun s => !s.imgBusy) (fun u => u.inEntry && u.f Reg.PWR_MODE_TARGET == 2 && u.base == 5),
       case (.modeRequest 5) (inMode 6 []) (fun s => !s.imgBusy) (fun u => u.inEntry && u.f Reg.PWR_MODE_TARGET == 5 && u.base == 6),
       case (.modeRequest 11) { r with otp := { lc := 1 } } (fun s => s.otp.lc == lcDevelop) (fun u => u.inEntry && u.f Reg.PWR_MODE_TARGET == 11),
       case (.modeRequest 5) f (fun s => s.safeLeaves) (fun u => u.base == modeReady && u.pwr.tsDue), illFormed (.modeRequest 16)]) = true := by decide +kernel

/-- R527: the end of an entry to REST, to LOAD and to READY. -/
theorem test_modeEntryDone :
    (let e (m t : Nat) := inMode m [(Reg.PWR_MODE_TRANS, 1), (Reg.PWR_MODE_TARGET, t)]
     let done (m : Nat) (u : Block) := u.base == m && !u.inEntry && u.on Reg.PWR_EVT_MODE
     every [case .modeEntryDone (e 5 2) (fun s => s.entryOver) (done 2), case .modeEntryDone (e 6 4) (fun s => s.entryOver) (done 4),
       case .modeEntryDone (e 6 5) (fun s => s.entryOver) (done 5), case .modeEntryDone (e 5 9) (fun s => s.entryOver) (done 9), idle .modeEntryDone (inMode 6 []),
       idle .modeEntryDone { e 6 5 with ports := { outs := [(17, { w0 := 1 })] } } (fun s => !s.entryOver)]) = true := by decide +kernel

/-- R531 to R534: the wake sources in REST and DORMANT, disabled ones, and the match of the timer. -/
theorem test_wakes :
    (let r (en : Nat) : Block := { inMode 2 [(Reg.PWR_WAKE_EN_EN, en), (Reg.PWR_RAIL_OK, 0xFF)] with time := { now := 100 } }
     let d : Block := { inMode 1 [(Reg.PWR_WAKE_EN_EN, 0x3F), (Reg.PWR_RAIL_OK, 0xFF)] with time := { now := 100 } }
     let woke (k : Nat) (u : Block) := u.pwr.waking && u.f Reg.PWR_WAKE_CAUSE == 2 ^ k && u.base == 2 && u.mem.clearing == some 32868
     let reset (k : Nat) (u : Block) := !u.core && u.f Reg.PWR_RST_SRC == 4 && u.f Reg.PWR_WAKE_CAUSE == 2 ^ k && u.pwr.loadAt == some 100
     let zero (b : Block) := (b.put Reg.PWR_AONT_CMP_LO_CMP 0).put Reg.PWR_AONT_CMP_HI_CMP 0
     let calm (s : Block) := !s.inEntry && !s.pwr.waking && !s.pwr.wakeHeld && s.railsGood && s.pwr.wakeSlow.isNone && Tab.wf resetWord s.regs
     every [case .wakeEvent (r 1) calm (woke 0), case .tl0SignalDetect (r 4) calm (woke 2), case .hostWake (r 16) calm (woke 4), case .aonTimerMatch (zero (r 8)) calm (woke 3),
       case .wakeEvent d calm (reset 0), case .tl0SignalDetect d calm (reset 2), idle .hostWake d calm, case .aonTimerMatch (zero d) calm (reset 3),
       idle .wakeEvent (r 0x3E) calm, idle .tl0SignalDetect (inMode 6 [(Reg.PWR_RAIL_OK, 0xFF)]) calm, case .aonTimerMatch (zero (inMode 6 [(Reg.PWR_RAIL_OK, 0xFF)])) calm (fun u => u.on Reg.PWR_EVT_TIMER && u.base == 6),
       idle .aonTimerMatch (zero { r 8 with time := { aont := 1 } }) calm]) = true := by decide +kernel

/-- R533: the end of a wake. -/
theorem test_wakeReady :
    (let w : Block := { inMode 2 [(Reg.CLK_STAT_STATE, 2)] with pwr := { waking := true } }
     every [case .wakeReady w (fun s => 2 ≤ s.pll) (fun u => u.base == modeReady && !u.pwr.waking && u.on Reg.PWR_EVT_MODE),
       case .wakeReady (w.put Reg.PWR_CFG_WTGT 1) (fun _ => true) (fun u => u.base == modePlay),
       case .wakeReady { w with lsn := { want := some modePlay } } (fun _ => true) (fun u => u.base == modePlay && !u.pwr.waking),
       idle .wakeReady { w with mem := { clearing := some 0 } }, idle .wakeReady (w.put Reg.CLK_STAT_STATE 1), idle .wakeReady (inMode 6 [])]) = true := by
  decide +kernel

/-- R535: a time pair is asked for. -/
theorem test_tslatch : case .tslatch (inMode 6 []) (fun s => s.coreOn) (fun u => u.pwr.tsDue && onlyB (inMode 6 []) u [] [.pwr]) = true := by decide +kernel

/-- R536, R538: a sample enters the ring; none without a ring. -/
theorem test_listenSample :
    (let l : Block := { inMode 3 [(Reg.PWR_LSN_RING_LEN, 96), (Reg.PWR_LSN_STAT_STATE, 1)] with lsn := { running := true, wr := 0xFFFFFFFF } }
     every [case (.listenSample (List.replicate 48 0)) l (fun s => s.lsn.running && !s.lsnCut) (fun u => u.lsn.wr == 0 && u.lsn.running && u.lsn.hist.length == 48),
       idle (.listenSample (List.replicate 48 0)) (inMode 3 []), illFormed (.listenSample [])]) = true := by decide +kernel

/-- R537: the first block of the detector, and too few samples. -/
theorem test_onsetBlock :
    (let l (n : Nat) : Block := { inMode 3 [(Reg.PWR_LSN_STAT_STATE, 1)] with lsn := { running := true, count := n } }
     every [case .onsetBlock (l 128) (fun s => s.lsn.blocks == 0) (fun u => u.lsn.count == 0 && u.lsn.blocks == 1 && onlyB (l 128) u [] [.lsn]),
       idle .onsetBlock (l 127)]) = true := by decide +kernel

/-- R540: the handover ends at its sample 64, the tail ends, and the ring stops. -/
theorem test_listen_end :
    (let h (wr : Nat) : Block := { inMode 5 [(Reg.PWR_LSN_STAT_STATE, 3), (Reg.PWR_LSN_STAT_CELL, 0x7F), (Reg.PWR_LSN_RING_TAIL, 100)] with
       lsn := { running := true, settled := some 10, wr := wr } }
     let t (n : Nat) : Block := { inMode 5 [(Reg.PWR_LSN_STAT_STATE, 4), (Reg.PWR_LSN_STAT_CELL, 0x7F)] with lsn := { running := true, tail := n } }
     let stopped (u : Block) := !u.lsn.running && u.lsnState == lsnStopped && u.on Reg.PWR_EVT_LSNEND
     every [case .handoff (h 75) (fun s => s.lsnState == lsnHandover) (fun u => u.lsn.handoff == some 74 && u.lsn.tail == 99 && u.lsnState == lsnTail && u.on Reg.PWR_EVT_HANDOFF),
       idle .handoff (h 73), case .lsnend (t 0) (fun _ => true) stopped, idle .lsnend (t 1), case .ringstop (t 1) (fun s => s.coreOn) stopped,
       idle .ringstop (inMode 5 [])]) = true := by decide +kernel


/-! ### Life-cycle, keys, ledger and self-test -/

/-- R557: a transition along the table, the one that clears keys, a wrong key, one that the table lacks. -/
theorem test_lcTransition :
    (let s := inMode 5 []
     let p : Block := { inMode 5 [] with otp := { lc := 2, next := 2, keyStat := [(0, 1)], keys := [(0, [1])] } }
     let denied (u : Block) := u.on Reg.SEC_EVT_DENIED && onlyB s u [Reg.SEC_EVT_DENIED] []
     every [case (.lcTransition 1 0xA5C3) s (fun s => s.coreOn) (fun u => u.otp.lcJob == some 1 && onlyB s u [] [.otp]),
       case (.lcTransition 3 0xA5C3) p (fun _ => true) (fun u => u.otp.lcJob == some 3 && u.keyStat 0 == 2 && u.keyStat 3 == 2 && u.otp.keys == [] && u.on Reg.SEC_EVT_KEYCLR),
       case (.lcTransition 1 0xA5C2) s (fun _ => true) denied, case (.lcTransition 2 0xA5C3) s (fun _ => true) denied, illFormed (.lcTransition 8 0),
       case .lcProgrammed { s with otp := { lcJob := some 1 } } (fun _ => true) (fun u => u.otp.next == 1 && u.otp.lc == 0 && u.on Reg.SEC_EVT_LCDONE),
       idle .lcProgrammed s, case .por { s with otp := { next := 1 } } (fun _ => true) (fun u => u.otp.lc == 1)]) = true := by decide +kernel

/-- R558: the programming of a key slot, a slot that is not empty, the revocation, and the two ends. -/
theorem test_secProgram :
    (let s := inMode 5 [(Reg.SEC_DATA_DATA 0, 3), (Reg.SEC_DATA_DATA 7, 9)]
     let j (x : OtpJob) : Block := { inMode 5 [(Reg.SEC_PROG_BUSY, 1)] with otp := { job := some x } }
     every [case (.secProgram 3 false) s (fun s => s.coreOn) (fun u => u.on Reg.SEC_PROG_BUSY && u.otp.job == some (.key 3 [3, 0, 0, 0, 0, 0, 0, 9]) && u.word (Reg.SEC_DATA 0) == 0),
       case (.secProgram 0 true) s (fun _ => true) (fun u => u.otp.job == some (.options true true)),
       case (.secProgram 4 false) { s with otp := { hashStat := [(0, 1)] } } (fun _ => true) (fun u => u.on Reg.SEC_EVT_PROGERR && u.otp.job.isNone && u.word (Reg.SEC_DATA 7) == 0),
       case (.revoke 7) s (fun s => s.otp.lc != lcScrap) (fun u => u.otp.job == some (.revoke 3)), case (.revoke 3) s (fun _ => true) (fun u => u.on Reg.SEC_EVT_PROGERR),
       case (.revoke 7) { s with otp := { lc := 4 } } (fun _ => true) (fun u => u.on Reg.SEC_EVT_DENIED),
       case (.progdone true) (j (.key 3 [1])) (fun _ => true) (fun u => u.keyStat 3 == 1 && u.otp.job.isNone && u.on Reg.SEC_EVT_PROGDONE && !u.on Reg.SEC_PROG_BUSY),
       case (.progdone true) (j (.revoke 2)) (fun _ => true) (fun u => u.hashStat 2 == 3), case (.progdone true) (j (.hash 0 [5])) (fun _ => true) (fun u => u.hashStat 0 == 1),
       case (.progdone true) (j (.options true false)) (fun _ => true) (fun u => u.otp.sigreq && !u.otp.scanclr),
       case (.progdone false) (j (.key 3 [1])) (fun _ => true) (fun u => u.keyStat 3 == 0 && u.on Reg.SEC_EVT_PROGERR), idle (.progdone true) s,
       illFormed (.secProgram 8 false), illFormed (.revoke 8)]) = true := by decide +kernel

/-- R560: scan in SERVICE, with the slots cleared first, and outside it. -/
theorem test_scanen :
    (let s : Block := { inMode 11 [] with otp := { lc := 1, scanclr := true } }
     every [case .scanen s (fun s => s.base == modeService) (fun u => u.bst.scan && u.keyStat 2 == 2 && u.on Reg.SEC_EVT_KEYCLR),
       case .scanen (inMode 5 []) (fun s => s.coreOn) (fun u => u.on Reg.SEC_EVT_DENIED && !u.bst.scan)]) = true := by decide +kernel

/-- R561, R562: a new entry, a merge at the last slow-clock period of the window and a new entry one later, an unread entry overwritten, the commands. -/
theorem test_ledger :
    (let s := inMode 6 []
     let a := (s.record 0x10 3 5 1 [])
     let later (n : Nat) (b : Block) : Block := { b with time := { aont := n } }
     let full : Block := { inMode 6 [(Reg.FLT_STAT_COUNT, 16), (Reg.FLT_STAT_NEWEST, 15)] with ledger := { entries := [(0, some {})], seq := 16 } }
     every [a.f Reg.FLT_STAT_COUNT == 1 && a.f Reg.FLT_STAT_NEWEST == 0 && a.on Reg.FLT_EVT_NEW && (a.ledgerEntry 0).isSome,
       ((later 8 a).record 0x10 3 5 2 []).ledger.seq == 1, (((later 8 a).record 0x10 3 5 2 []).ledgerEntry 0).all (fun e => e.rep == 1),
       ((later 9 a).record 0x10 3 5 2 []).ledger.seq == 2, (full.record 1 0 0 0 []).on Reg.FLT_EVT_LOST, (full.record 1 0 0 0 []).f Reg.FLT_STAT_LOST == 1,
       case .fltClr a (fun s => s.coreOn) (fun u => (u.ledgerEntry 0).isNone && u.ledger.seq == 1 && u.f Reg.FLT_STAT_COUNT == 0),
       case .ack a (fun s => Tab.wf (fun _ => none) s.ledger.entries) (fun u => (u.ledgerEntry 0).all (fun e => e.read) && onlyB a u [] [.ledger])]) = true := by
  decide +kernel

/-- R548 to R551, R555: a slice starts; passes, fails first and again, and is incomplete. -/
theorem test_bstSlice :
    (let c : Block := { inMode 6 [(Reg.BST_CFG_EN, 0x7F)] with bst := { cycleAt := some 0 }, time := { now := 1000000000 } }
     let r (t item : Nat) (again : Bool) : Block := { inMode 6 [(Reg.BST_STAT_BUSY, 1)] with bst := { cycleAt := some 0, run := some (t, item, 0, again) } }
     every [case (.bstSlice 1) c (fun s => s.bstApplies 1 && s.bstDue 1) (fun u => u.bst.run == some (1, 0, 1000000000, false) && u.on Reg.BST_STAT_BUSY && u.f Reg.BST_PROG1_COUNT == 48),
       idle (.bstSlice 0) c, idle (.bstSlice 1) (r 2 0 false),
       case (.bstSliceEnd ⟨48, false, true⟩) (r 2 7 false) (fun s => s.time.now ≤ s.bstBudget 2) (fun u => u.bst.run.isNone && u.f Reg.BST_PROG_LAST == 1 && u.bstItem 2 7 == 1),
       case (.bstSliceEnd ⟨1, true, true⟩) (r 2 7 false) (fun _ => true) (fun u => u.bst.run == some (2, 7, 0, true) && u.f (Reg.BST_FAILCNT_FAIL 2) == 1),
       case (.bstSliceEnd ⟨48, false, false⟩) (r 2 7 true) (fun _ => true) (fun u => u.bst.run.isNone && u.on (Reg.BST_STAT_CSCF.bit 1) && u.on Reg.BST_EVT_CSCFAIL),
       case (.bstSliceEnd ⟨64, false, false⟩) (r 4 127 true) (fun _ => true) (fun u => u.on (Reg.GRF_LANE_FAIL.bit 7) && u.on Reg.GRF_EVT_LANEFAIL),
       case (.bstSliceEnd ⟨1, true, true⟩) (r 6 0 false) (fun _ => true) (fun u => u.bst.run.isNone && u.on Reg.BST_EVT_CFGFAIL && u.f Reg.BST_PROG_LAST == 2),
       case (.bstSliceEnd ⟨47, false, true⟩) (r 1 0 false) (fun _ => true) (fun u => u.bstItem 1 0 == 3 && u.f (Reg.BST_FAILCNT_INC 1) == 1 && u.f Reg.BST_PROG_LAST == 3),
       idle (.bstSliceEnd ⟨0, false, true⟩) c, illFormed (.bstSlice 7)]) = true := by decide +kernel

/-- R550, R556: the end of a cycle after 60 s and one core cycle before, the full run and its end. -/
theorem test_bstCycle :
    (let c (now : Nat) : Block := { inMode 6 [(Reg.BST_CFG_EN, 2)] with bst := { cycleAt := some 0, seen := 2, results := [(4096, 3)] }, time := { now := now } }
     let f : Block := { inMode 11 [] with bst := { full := true } }
     every [case .bstCycleEnd (c 11796480000) (fun s => s.bst.run.isNone) (fun u => u.f ⟨Reg.BST_RES, 2, 2⟩ == 3 && u.f ⟨Reg.BST_RES, 0, 2⟩ == 0 && u.on Reg.BST_EVT_CYCLE &&
         u.on Reg.BST_EVT_INC && u.f Reg.BST_STAT_CYCLES == 1 && u.bst.cycleAt == some 11796480000),
       idle .bstCycleEnd (c 11796479999) (fun s => !s.bstOver), idle .bstCycleEnd (inMode 6 []),
       case .full (inMode 11 []) (fun s => s.coreOn) (fun u => u.bst.full), idle .full (inMode 5 []),
       case (.serviceEnd (List.replicate 7 ⟨⟨1, false, true⟩, []⟩)) f (fun _ => true) (fun u => u.base == modeReady && !u.bst.full && u.mem.sram == []),
       idle (.serviceEnd []) f, idle (.serviceEnd (List.replicate 7 ⟨⟨1, false, true⟩, []⟩)) (inMode 5 [])]) = true := by decide +kernel


/-! ### Converter cells -/

/-- Input group 0 in PLAY with its five cells in their roles. -/
def inGroup (fs : List (Fld × Nat)) : Block := inMode 6 ([(Reg.UAP_CFG_DIR 0, 1), (Reg.CELL_CFG_ROLE 0, 1), (Reg.CELL_CFG_ROLE 1, 1), (Reg.CELL_CFG_SLOT 1, 1),
  (Reg.CELL_CFG_ROLE 2, 1), (Reg.CELL_CFG_SLOT 2, 2), (Reg.CELL_CFG_ROLE 3, 1), (Reg.CELL_CFG_SLOT 3, 3), (Reg.CELL_CFG_ROLE 4, 4)] ++ fs)

/-- Headphone group 17 in PLAY with OUT, MON and SPARE. -/
def outGroup (fs : List (Fld × Nat)) : Block := inMode 6 ([(Reg.HP_CFG_EN, 3), (Reg.CELL_CFG_ROLE 83, 2), (Reg.CELL_CFG_ROLE 84, 3), (Reg.CELL_CFG_ROLE 85, 4)] ++ fs)

/-- A group's hidden record. -/
def withGrp (s : Block) (g : Nat) (x : GroupSt) : Block := { s with cells := { s.cells with groups := [(g, x)] } }

/-- A slice that runs. -/
def withSlice (s : Block) (x : Slice) : Block := { s with cells := { s.cells with slice := some x } }

/-- A time. -/
def at' (s : Block) (now : Nat) : Block := { s with time := { now := now } }

/-- R42, R45, R58: a clipped code of the spare and of an IN cell, a cell that does not hold, the last cell of the device. -/
theorem test_cellConversion :
    (let s := inGroup []
     every [case (.cellConversion 4 262143 false) s (fun s => s.holds 4) (fun u => (u.grp 0).spareV == s.correct 4 262143 && (u.grp 0).spareTag == tagC && (u.cell 4).learn == 1 &&
         u.f (Reg.CELL_CLIPCNT_CLIP 4) == 1 && onlyB s u [Reg.CELL_CLIPCNT_CLIP 4] [.cells]),
       case (.cellConversion 0 131072 false) s (fun s => s.holds 0 && (s.sliceOf 0).isNone) (fun u => (u.grp 0).conv == some (0, ⟨some (s.correct 0 131072), 0, 0⟩) && u.f (Reg.CELL_CLIPCNT_CLIP 0) == 0),
       case (.cellConversion 0 0 true) s (fun s => s.holds 0) (fun u => u.on (Reg.CELL_GRP_EVT_INFLT 0) && u.f (Reg.CELL_CLIPCNT_CLIP 0) == 1 && (u.grp 0).retarget.isSome),
       idle (.cellConversion 1 0 false) s, idle (.cellConversion 85 0 true) s, illFormed (.cellConversion 86 0 false)]) = true := by decide +kernel

/-- R51, R52: a read-back inside and outside the window, the last miss, an impossible code, no monitor. -/
theorem test_monConversion :
    (let s := outGroup []
     let m (n : Nat) := withGrp s 17 { misses := n }
     every [case (.monConversion 17 131584 false) (m 2) (fun s => (s.withRole 17 roleMon).isSome && s.audioOn) (fun u => (u.grp 17).misses == 0 && onlyB (m 2) u [] [.cells]),
       case (.monConversion 17 131585 false) (m 1) (fun _ => true) (fun u => (u.grp 17).misses == 2 && onlyB (m 1) u [] [.cells]),
       case (.monConversion 17 131585 false) (m 2) (fun _ => true) (fun u => u.on (Reg.CELL_GRP_EVT_OUTFLT 17) && (u.grp 17).stage == 1),
       case (.monConversion 17 131072 true) s (fun _ => true) (fun u => u.on (Reg.CELL_GRP_EVT_MONFLT 17) && u.role 85 == roleMon),
       idle (.monConversion 0 0 true) s, illFormed (.monConversion 18 0 false)]) = true := by decide +kernel

/-- R58: the spare takes the failed slot at its hold; before, nothing. -/
theorem test_spareRetarget :
    (let s (now : Nat) := at' (withGrp (inGroup []) 0 { retarget := some (2, 2, 100, true) }) now
     every [case (.spareRetarget 0) (s 100) (fun s => s.spare 0 == some 4) (fun u => u.role 4 == roleIn && u.f (Reg.CELL_CFG_SLOT 4) == 2 && u.role 2 == roleOff &&
         (u.cell 2).waitRec && (u.grp 0).retarget.isNone && u.on (Reg.CELL_GRP_EVT_SPUSED 0)),
       idle (.spareRetarget 0) (s 99), idle (.spareRetarget 17) (s 100), illFormed (.spareRetarget 18)]) = true := by decide +kernel

/-- R52, R53: the swap of the ladders, the end of the ramp, the retry. -/
theorem test_outFault :
    (let s (x : GroupSt) (now : Nat) := at' (withGrp (outGroup []) 17 x) now
     every [case (.outSwap 17) (s { stage := 1 } 16) (fun s => s.spare 17 == some 85) (fun u => u.role 85 == roleOut && u.role 83 == roleOff && (u.cell 83).waitRec &&
         (u.grp 17).stage == 2 && u.on (Reg.CELL_GRP_EVT_SPUSED 17)),
       idle (.outSwap 17) (s { stage := 1 } 15), case (.outRampEnd 17) (s { stage := 3, misses := 1 } 8192) (fun _ => true) (fun u => (u.grp 17).stage == 0 && (u.grp 17).misses == 0),
       idle (.outRampEnd 17) (s { stage := 3 } 8191), idle (.outRampEnd 0) (s {} 8192),
       case (.retry 17) (s { stage := 4 } 50) (fun s => s.coreOn) (fun u => (u.grp 17).stage == 2 && (u.grp 17).stageAt == 50), idle (.retry 17) (s { stage := 3 } 50),
       illFormed (.outSwap 18), illFormed (.outRampEnd 18), illFormed (.retry 18)]) = true := by decide +kernel

/-- R48, R50: learning after 4096 conversions, under FREEZE, and one conversion before. -/
theorem test_spareLearn :
    (let s (n : Nat) (fs : List (Fld × Nat)) : Block := { inGroup fs with cells := { cells := [(4, { learn := n })] } }
     let z := s 4096 [(Reg.CELL_GLB_CTRL_FREEZE, 1)]
     every [case (.spareLearn 0) z (fun s => s.spare 0 == some 4) (fun u => (u.cell 4).learn == 0 && onlyB z u [] [.cells]), idle (.spareLearn 0) (s 4095 []),
       idle (.spareLearn 17) (s 4096 []), illFormed (.spareLearn 18)]) = true := by decide +kernel

/-- R61: a slice is queued when its time has come; ROT_NOW. -/
theorem test_sliceQueue :
    (let s := inGroup [(Reg.CELL_GRP_CTRL_ROT_EN 0, 1), (Reg.CELL_GRP_CTRL_PERIOD 0, 125)]
     every [case (.sliceQueue 0) s (fun s => s.rotates 0) (fun u => (u.grp 0).queued && (u.grp 0).nextQ == some 49152000 && u.f Reg.CELL_GLB_STAT_QUEUED == 1),
       idle (.sliceQueue 0) (withGrp s 0 { nextQ := some 1 }), idle (.sliceQueue 17) s,
       case (.rotNow 0) s (fun s => s.coreOn) (fun u => (u.grp 0).queued && (u.grp 0).nextQ.isNone), idle (.rotNow 0) (withGrp s 0 { queued := true }), idle (.rotNow 1) s,
       illFormed (.sliceQueue 18), illFormed (.rotNow 18)]) = true := by decide +kernel

/-- R62, R64, R72: the start of a periodic, a recovery and a promotion slice. -/
theorem test_sliceStart :
    (let q := withGrp (inGroup []) 0 { queued := true }
     let c (k : Nat) (x : CellSt) (fs : List (Fld × Nat)) : Block := { inMode 6 fs with cells := { cells := [(k, x)] } }
     let busy := withSlice q ⟨0, 0, .periodic, 1, 0, 4, 1, 0, 0, 0, none, true⟩
     every [case .sliceStart q (fun s => s.sliceMode) (fun u => u.f Reg.CELL_GLB_STAT_BUSY == 1 && u.f Reg.CELL_GLB_STAT_CELL == 0 && u.f (Reg.CELL_SLICE_SLICE_ID 0) == 1 &&
         u.cells.slice == some ⟨0, 0, .periodic, 1, 0, 4, 1, 0, 0, 0, none, true⟩ && !(u.grp 0).queued),
       idle .sliceStart busy, idle .sliceStart (inMode 5 []), idle .sliceStart (inMode 6 []), idle .recoverySlice busy, idle .promotionSlice busy,
       case .recoverySlice (c 85 { waitRec := true } []) (fun s => s.sliceMode) (fun u => u.role 85 == roleTest && !(u.cell 85).waitRec &&
         u.cells.slice == some ⟨17, 85, .recovery, 0, 0, noCell, 2, 0, 0, 0, none, true⟩),
       idle .recoverySlice (inMode 6 []),
       case .promotionSlice (c 8 { waitPromo := true } []) (fun s => (s.spare 1).isNone) (fun u => u.role 8 == roleTest && (u.cells.slice.map (·.kind)) == some .promotion),
       case .promotionSlice (c 8 { waitPromo := true } [(Reg.CELL_CFG_ROLE 9, 4)]) (fun _ => true) (fun u => u.cells.slice.isNone && !(u.cell 8).waitPromo)]) = true := by decide +kernel

/-- R64 to R69: the phases of a slice at their ticks and one core cycle before, with the ladders and patterns matching and not. -/
theorem test_slicePhases :
    (let i (phase now : Nat) : Block := at' (withSlice (inGroup [(Reg.CELL_SLICE_PHASE 0, phase)]) ⟨0, 0, .periodic, 1, 0, 4, phase, 0, 0, 0, none, true⟩) now
     let o : Block := withSlice (outGroup []) ⟨17, 83, .periodic, 2, 0, 85, 1, 0, 0, 0, none, true⟩
     every [case (.scarfInEnd false) (i 1 49152) (fun _ => true) (fun u => u.role 0 == roleTest && u.role 4 == roleIn && (u.cells.slice.map (·.phase)) == some 2 && u.f (Reg.CELL_SLICE_PHASE 0) == 2),
       idle (.scarfInEnd true) (i 1 49151), idle (.scarfInEnd true) (i 2 49152), case (.scarfInEnd false) o (fun _ => true) (fun u => u.cells.slice.isNone && u.on (Reg.CELL_STAT_FAILED 85)),
       case (.slicePattern true) ((i 2 0).put (Reg.CELL_SLICE_PATTERNS 0) 127) (fun _ => true) (fun u => u.f (Reg.CELL_SLICE_PATTERNS 0) == 128),
       case (.slicePattern false) (i 2 0) (fun _ => true) (fun u => u.cells.slice.isNone && u.on (Reg.CELL_STAT_FAILED 0) && u.f (Reg.CELL_STAT_LAST 0) == 2 && u.on (Reg.CELL_GRP_EVT_SLFAIL 0)),
       idle (.slicePattern false) ((i 2 0).put (Reg.CELL_SLICE_PATTERNS 0) 128), idle (.slicePattern false) (inGroup []),
       case .testPhaseEnd (i 2 344064) (fun _ => true) (fun u => (u.cells.slice.map (·.phase)) == some 3), idle .testPhaseEnd (i 2 344063), idle .testPhaseEnd (i 1 344064)]) = true := by
  decide +kernel

/-- R63, R65: the verdict of a slice at its end: incomplete with 127 patterns; one core cycle before, nothing; no slice, nothing; under FREEZE, passed. -/
theorem test_sliceEnd :
    (let i (n now : Nat) : Block := at' (withSlice (inGroup [(Reg.CELL_GLB_CTRL_FREEZE, 1), (Reg.CELL_SLICE_PATTERNS 0, n), (Reg.CELL_CFG_ROLE 0, 5), (Reg.CELL_CFG_ROLE 4, 1)])
       ⟨0, 0, .periodic, 1, 0, 4, 3, 0, 1, 0, none, true⟩) now
     every [case (.sliceEnd true) (i 127 393216) (fun _ => true) (fun u => u.cells.slice.isNone && u.f (Reg.CELL_STAT_LAST 0) == 3 && u.on (Reg.CELL_GRP_EVT_SLINC 0) && u.role 0 == roleSpare),
       case (.sliceEnd true) (i 128 393216) (fun _ => true) (fun u => u.f (Reg.CELL_STAT_LAST 0) == 1 && (u.cell 0).passed && (u.cell 0).age == 1 && u.on (Reg.CELL_GRP_EVT_SLPASS 0)),
       case (.sliceEnd false) (i 128 393216) (fun _ => true) (fun u => u.on (Reg.CELL_STAT_FAILED 0)), idle (.sliceEnd true) (i 128 393215), idle (.sliceEnd true) (inGroup [])]) = true := by
  decide +kernel


/-! ### Ports, bias supplies and the cloche -/

/-- A microphone input in PLAY whose step waits for a crossing. -/
def stepping (fs : List (Fld × Nat)) : Block := inMode 6 ([(Reg.UAP_CFG_DIR 15, 1), (Reg.UAP_CFG_MODE 15, 1), (Reg.UAP_IN_GAIN_TARGET 15, 20), (Reg.UAP_IN_GAIN_CUR 15, 10),
  (Reg.UAP_IN_CTRL_ZCTO 15, 20)] ++ fs)

/-- R82 to R84: the step at a crossing, at its timeout and one core cycle before, and the end of the ramp with the same and a new target. -/
theorem test_gainStep :
    (let p := stepping [(Reg.UAP_IN_GAIN_PEND 15, 1)]
     let c (now : Nat) : Block := at' (withGrp p 15 { crossed := true }) now
     let d (now : Nat) : Block := at' { p with ports := { ins := [(15, { toAt := 100 })] } } now
     let r (cur now : Nat) : Block := at' (stepping [(Reg.UAP_IN_GAIN_COMP 15, 1), (Reg.UAP_IN_GAIN_CUR 15, cur)]) now
     every [case (.gainStep 15) (c 16) (fun s => (s.grp 15).crossed) (fun u => u.f (Reg.UAP_IN_GAIN_CUR 15) == 20 && !u.on (Reg.UAP_IN_GAIN_PEND 15) && u.on (Reg.UAP_EVT_GZC 15) &&
         onlyB (c 16) u [Reg.UAP_IN_GAIN_CUR 15, Reg.UAP_IN_GAIN_PEND 15, Reg.UAP_EVT_GZC 15] [.cells, .ports]),
       idle (.gainStep 15) p, idle (.gainStep 15) (c 15), case (.gainTimeout 15) (d 100) (fun s => !(s.grp 15).crossed) (fun u => u.f (Reg.UAP_IN_GAIN_CUR 15) == 20 && u.on (Reg.UAP_IN_GAIN_COMP 15) &&
         u.on (Reg.UAP_EVT_GTO 15) && (u.inp 15).compDb == -10 && (u.inp 15).compAt == 100),
       idle (.gainTimeout 15) (d 99), case (.gainRampEnd 15) (r 20 196608) (fun _ => true) (fun u => onlyB (r 20 196608) u [Reg.UAP_IN_GAIN_COMP 15] [] && !u.on (Reg.UAP_IN_GAIN_COMP 15)),
       case (.gainRampEnd 15) (r 10 196608) (fun s => s.f (Reg.UAP_IN_CTRL_ZCTO 15) != 0) (fun u => u.on (Reg.UAP_IN_GAIN_PEND 15) && (u.inp 15).toAt == 196608 + 196608 * 20),
       idle (.gainRampEnd 15) (r 20 196607), illFormed (.gainStep 16), illFormed (.gainTimeout 16), illFormed (.gainRampEnd 16)]) = true := by decide +kernel

/-- R84: a write that overrides, cancels, meets a crossing, meets the ramp, and starts a step; the clamp of the mode. -/
theorem test_gainWrite :
    (let p := stepping [(Reg.UAP_IN_GAIN_PEND 15, 1)]
     let n := stepping [(Reg.UAP_IN_GAIN_TARGET 15, 10)]
     let r := stepping [(Reg.UAP_IN_GAIN_COMP 15, 1)]
     every [case (.gainWrite 15 63) p (fun s => s.coreOn && s.isInput 15) (fun u => u.f (Reg.UAP_IN_GAIN_TARGET 15) == 60 && u.on (Reg.UAP_IN_GAIN_PEND 15) && u.on (Reg.UAP_EVT_GOVR 15)),
       case (.gainWrite 15 10) p (fun _ => true) (fun u => !u.on (Reg.UAP_IN_GAIN_PEND 15) && u.on (Reg.UAP_EVT_GOVR 15)),
       case (.gainWrite 15 30) (withGrp p 15 { crossed := true }) (fun _ => true) (fun u => u.f (Reg.UAP_IN_GAIN_TARGET 15) == 30 && (u.inp 15).stepTo == some 20 && (u.inp 15).toAt == 196608 * 20 &&
         onlyB (withGrp p 15 { crossed := true }) u [Reg.UAP_IN_GAIN_TARGET 15] [.ports]),
       case (.gainWrite 15 0) r (fun _ => true) (fun u => onlyB r u [Reg.UAP_IN_GAIN_TARGET 15] []),
       case (.gainWrite 15 11) n (fun _ => true) (fun u => u.on (Reg.UAP_IN_GAIN_PEND 15) && (u.inp 15).toAt == 196608 * 20), idle (.gainWrite 0 1) p,
       illFormed (.gainWrite 16 0), illFormed (.gainWrite 0 64)]) = true := by decide +kernel

/-- R88 to R90: a supply enabled, disabled, cut, settled after 50 ms and one core cycle before, limited, lost. -/
theorem test_bias :
    (let i (fs : List (Fld × Nat)) : Block := inMode 6 ([(Reg.UAP_CFG_DIR 7, 1), (Reg.MB_CFG_MAP 3, 0x80)] ++ fs)
     let d (now : Nat) : Block := at' { i [(Reg.MB_CFG_EN 3, 1), (Reg.MB_CFG_VSET 3, 50)] with
       ports := { bias := [(3, { driven := true, v0 := 50 })], ins := [(7, { held := true })] } } now
     let o : Block := { d 0 with ports := { bias := [(3, { driven := true, v0 := 50 })] } }
     every [case (.mbiasEnable 3 true 127) (i []) (fun s => s.coreOn && s.biasRuns 3) (fun u => u.f (Reg.MB_CFG_VSET 3) == 90 && (u.biasSt 3).driven && (u.inp 7).held && u.zhold 7),
       case (.mbiasEnable 3 false 0) (d 0) (fun _ => true) (fun u => u.f (Reg.MB_CFG_VSET 3) == 20 && u.biasSt 3 == {} && !(u.inp 7).held && (u.inp 7).rampAt == some 0),
       case (.mbiasEnable 3 true 60) (i [(Reg.MB_STAT_CUT 3, 1)]) (fun _ => true) (fun u => u.biasSt 3 == {} && u.on (Reg.MB_CFG_EN 3)),
       case (.biasSettled 3) (d 9830400) (fun _ => true) (fun u => (u.biasSt 3).driven && !(u.inp 7).held && (u.inp 7).rampAt == some 9830400), idle (.biasSettled 3) (d 9830399), idle (.biasSettled 0) (d 0),
       case (.mbiasCurrentLimit 3) o (fun _ => true) (fun u => u.biasSt 3 == {} && u.on (Reg.MB_STAT_ILIM 3) && u.on (Reg.CLOCHE_EVT_ILIM.bit 3) && (u.inp 7).held && u.on (Reg.UAP_EVT_BIASZ 7)),
       idle (.mbiasCurrentLimit 0) o, case (.mbiasOkLost 3) o (fun s => s.biasOk 3) (fun u => (u.biasSt 3).driven && (u.inp 7).held && u.on (Reg.UAP_EVT_BIASZ 7)), idle (.mbiasOkLost 0) o,
       illFormed (.mbiasEnable 4 true 50), illFormed (.mbiasEnable 0 true 128), illFormed (.biasSettled 4), illFormed (.mbiasCurrentLimit 4), illFormed (.mbiasOkLost 4)]) = true := by
  decide +kernel

/-- R100, R101: the cloche shuts, opens, and has opened. -/
theorem test_cloche :
    (let i := inMode 6 [(Reg.UAP_CFG_DIR 2, 1), (Reg.UAP_CFG_TALK 2, 1), (Reg.MB_CFG_MAP 1, 4)]
     let t : Block := { i with ports := { shut := true } }
     let o (now : Nat) : Block := at' { i with ports := { opening := some 0, ins := [(2, { rampAt := some 0 })] } } now
     every [case .clocheShut i (fun s => !s.ports.shut) (fun u => u.ports.shut && u.on Reg.CLOCHE_STAT_SHUT && u.on (Reg.UAP_STAT_CLOCHED 2) && u.on (Reg.MB_STAT_CUT 1) &&
         u.f Reg.CLOCHE_CNT_SHUTS == 1 && u.privLed),
       idle .clocheShut t, case .clocheOpen t (fun _ => true) (fun u => !u.ports.shut && u.ports.opening == some 0 && (u.grp 2).discardTo == 512 && u.on Reg.CLOCHE_STAT_OPENING),
       idle .clocheOpen i, case .clocheOpenDone (o 196608) (fun _ => true) (fun u => u.ports.opening.isNone && u.on Reg.CLOCHE_EVT_OPEN), idle .clocheOpenDone (o 196607),
       idle .clocheOpenDone i]) = true := by decide +kernel


/-! ### Outputs, the headphone and jacks -/

/-- Output port 15 in PLAY, its common mode risen, and both headphone sides. -/
def outPort (fs : List (Fld × Nat)) : Block := inMode 6 ([(Reg.UAP_CFG_DIR 15, 2), (Reg.UAP_STAT_CM 15, 2), (Reg.UAP_OUT_CTRL_MUTE 15, 0), (Reg.HP_CFG_EN, 3),
  (Reg.HP_CTRL_MUTE, 0)] ++ fs)

/-- One output's hidden record. -/
def withOut (s : Block) (o : Nat) (x : OutSt) : Block := { s with ports := { s.ports with outs := [(o, x)] } }

/-- R93, R94, R320, R323: the release of a port and a headphone side, the end of a removal mute, and both ends of the common mode at their tick. -/
theorem test_release :
    (let s := outPort []
     let h : Block := { s with ports := { hpOn := 2 } }
     let r (w : Nat) := withOut s 17 { removal := true, w0 := w, slope := -2, rngHeld := some true }
     let c (v now : Nat) := at' (withOut (outPort [(Reg.UAP_STAT_CM 15, v)]) 15 { w0 := 1, released := true }) now
     every [case (.outputRelease 15) s (fun s => s.outReady 15) (fun u => (u.out 15).released && (u.out 15).slope == 1 && onlyB s u [] [.ports]),
       case (.outputRelease 17) h (fun s => s.outReady 17) (fun u => (u.out 17).released && u.on (Reg.HP_STAT_REL.bit 1)), idle (.outputRelease 16) h, idle (.outputRelease 0) s,
       case (.removalMuteEnd 17) (r 0) (fun s => s.outWeight 17 == 0) (fun u => !(u.out 17).removal && (u.out 17).rng == 3), idle (.removalMuteEnd 17) (r 1), idle (.removalMuteEnd 0) s,
       case (.cmRiseEnd 15) (c 1 39321600) (fun _ => true) (fun u => u.f (Reg.UAP_STAT_CM 15) == 2 && u.on (Reg.UAP_EVT_CMUP 15)), idle (.cmRiseEnd 15) (c 1 39321599),
       case (.cmFallEnd 15) (c 3 39321600) (fun _ => true) (fun u => u.f (Reg.UAP_STAT_CM 15) == 0 && u.on (Reg.UAP_EVT_CMDN 15) && !(u.out 15).released && u.outWeight 15 == 0),
       idle (.cmFallEnd 15) (c 3 39321599), illFormed (.outputRelease 18), illFormed (.removalMuteEnd 18), illFormed (.cmRiseEnd 16), illFormed (.cmFallEnd 16)]) = true := by decide +kernel

/-- R95 to R97: a range write on an idle, a released and a busy output; the switch and the end at their ticks, with a range held and with none. -/
theorem test_range :
    (let s := outPort []
     let o (x : OutSt) (now : Nat) := at' (withOut s 15 x) now
     every [case (.rangeWrite 15 true) s (fun s => s.coreOn && s.isOut 15) (fun u => (u.out 15).rng == 3 && u.on (Reg.UAP_STAT_RNGBUSY 15) && u.on (rangeReq 15)),
       case (.rangeWrite 15 true) (o { released := true } 0) (fun _ => true) (fun u => (u.out 15).rng == 1),
       case (.rangeWrite 15 true) (o { rng := 2 } 0) (fun _ => true) (fun u => (u.out 15).rngHeld == some true && u.on (Reg.UAP_STAT_RNGPEND 15)),
       case (.rangeWrite 17 false) s (fun _ => true) (fun u => onlyB s u [rangeReq 17] []), idle (.rangeWrite 0 true) s,
       case (.rangeSwitch 15) (o { rng := 1 } 196608) (fun _ => true) (fun u => (u.out 15).rng == 2 && u.on (rangeNow 15)), idle (.rangeSwitch 15) (o { rng := 1 } 196607),
       case (.rangeSwitch 15) (o { rng := 3 } 16) (fun _ => true) (fun u => (u.out 15).rng == 4 && (u.out 15).rngAt == 16), idle (.rangeSwitch 15) (o { rng := 3 } 15),
       case (.rangeChangeEnd 15) (o { rng := 2 } 394240) (fun _ => true) (fun u => (u.out 15).rng == 0 && u.on (rangeDone 15) && !u.on (Reg.UAP_STAT_RNGBUSY 15)),
       idle (.rangeChangeEnd 15) (o { rng := 2 } 394239), idle (.rangeChangeEnd 15) (o { rng := 4 } 1023),
       case (.rangeChangeEnd 15) (o { rng := 4, rngHeld := some true } 1024) (fun _ => true) (fun u => (u.out 15).rng == 3 && (u.out 15).rngHeld.isNone),
       case (.rangeChangeEnd 15) (o { rng := 4, rngHeld := some false } 1024) (fun _ => true) (fun u => (u.out 15).rng == 0 && (u.out 15).rngHeld.isNone),
       illFormed (.rangeWrite 18 true), illFormed (.rangeSwitch 18), illFormed (.rangeChangeEnd 18)]) = true := by decide +kernel

/-- R325, R326: CPOK, the stage 2 ms after it, a pump that fails after 5 ms, a trip and its clearing. -/
theorem test_headphone :
    (let p (now : Nat) : Block := at' { outPort [] with ports := { pumpAt := some 0 } } now
     let c (now : Nat) : Block := at' { outPort [] with ports := { cpokAt := some 0 } } now
     let h : Block := { outPort [] with ports := { hpOn := 2, outs := [(17, { released := true, w0 := 12288 })] } }
     every [case .cpok (p 7) (fun _ => true) (fun u => u.on Reg.HP_STAT_CPOK && u.ports.cpokAt == some 7), idle .cpok (outPort []),
       case (.hpStageOn 1) (c 393216) (fun _ => true) (fun u => u.ports.hpOn == 2 && onlyB (c 393216) u [] [.ports]), idle (.hpStageOn 1) (c 393215),
       case .pumpfail (p 983040) (fun _ => true) (fun u => u.ports.pumpAt.isNone && u.on Reg.HP_EVT_PUMPFAIL), idle .pumpfail (p 983039),
       case (.hpTrip 1) h (fun _ => true) (fun u => u.on (Reg.HP_STAT_TRIPPED.bit 1) && u.on (Reg.HP_EVT_TRIP.bit 1) && !(u.out 17).released && u.outWeight 17 == 0), idle (.hpTrip 0) h,
       case (.hpClr 1) (outPort [(Reg.HP_STAT_TRIPPED, 3)]) (fun s => s.coreOn) (fun u => u.f Reg.HP_STAT_TRIPPED == 1),
       illFormed (.hpStageOn 2), illFormed (.hpTrip 2), illFormed (.hpClr 2)]) = true := by decide +kernel

/-- Jack 7 enabled. -/
def jackIn (m : Nat) (x : JackSt) (fs : List (Fld × Nat)) : Block := { inMode m ((Reg.JACK_CFG_EN 7, 1) :: fs) with ports := { jacks := [(7, x)] } }

/-- R313 to R316, R320: samples, the debounce at its millisecond and one before, the removal. -/
theorem test_jackDetection :
    (let d (r : Bool) (n : Nat) := jackIn 6 { reading := r, seen := true, same := n } [(Reg.JACK_STAT_STATE 7, 1), (Reg.JACK_CFG_DEB 7, 2)]
     let q := jackIn 6 { idAt := some 0, reading := true } [(Reg.JACK_STAT_STATE 7, 4), (Reg.JACK_OUTMAP_USE 17, 1), (Reg.JACK_OUTMAP_JACK 17, 7)]
     let r : Block := { q with ports := { q.ports with outs := [(17, { released := true, w0 := 12288 })] } }
     every [case (.jackSample 7 true) (jackIn 6 {} [(Reg.JACK_STAT_STATE 7, 0)]) (fun s => !s.sleeping) (fun u => u.on (Reg.JACK_STAT_PRES 7) && (u.jack 7).reading && u.f (Reg.JACK_STAT_STATE 7) == 1),
       case (.jackSample 7 false) (jackIn 6 {} [(Reg.JACK_STAT_STATE 7, 0)]) (fun _ => true) (fun u => !(u.jack 7).reading && (u.jack 7).seen && u.f (Reg.JACK_STAT_STATE 7) == 0), idle (.jackSample 0 true) (jackIn 6 {} []),
       case (.jackDebounced 7) (d false 64) (fun _ => true) (fun u => u.f (Reg.JACK_STAT_STATE 7) == 0 && u.on (Reg.JACK_EVT_CHG.bit 7)),
       case (.jackDebounced 7) (d true 64) (fun s => s.audioOn) (fun u => u.on (Reg.JACK_STAT_IDRUN 7) && (u.jack 7).idAt == some 0 && (u.jack 7).deb), idle (.jackDebounced 7) (d true 63),
       case (.jackRemoval 7) r (fun _ => true) (fun u => u.f (Reg.JACK_STAT_STATE 7) == 1 && (u.jack 7).idAt.isNone && u.on (Reg.JACK_EVT_ABORT.bit 7) && (u.out 17).removal &&
         (u.out 17).slope == -2 && !(u.out 17).released), idle (.jackRemoval 7) (jackIn 6 {} [(Reg.JACK_STAT_STATE 7, 0)]),
       illFormed (.jackSample 8 true), illFormed (.jackDebounced 8), illFormed (.jackRemoval 8)]) = true := by decide +kernel

/-- R317 to R319: the measurements at their times, a class, a first and a second UNKNOWN, the second try, the host's request. -/
theorem test_identification :
    (let i (st now vd : Nat) := at' (jackIn 6 { idAt := some 0, step := st, n0 := 1, nm := 1, vd := vd, nd := 1, v0 := 32768, vm := 32768 } [(Reg.JACK_STAT_STATE 7, 1)]) now
     -- 0.05 V over 10 µA: 5 kΩ more than 1/2 H is no row but the line input's
     let e (second : Bool) := jackIn 6 { idAt := some 0, step := 3, n0 := 1, nm := 1, nd := 1, vd := 1311, vm := 656, second := second } []
     every [case (.identificationStep 7 0) (i 0 393216 0) (fun _ => true) (fun u => (u.jack 7).step == 1), idle (.identificationStep 7 0) (i 0 393215 0),
       case (.identificationStep 7 0) (i 1 589824 0) (fun _ => true) (fun u => (u.jack 7).step == 2), case (.identificationStep 7 0) (i 2 1572864 0) (fun _ => true) (fun u => (u.jack 7).step == 3),
       case (.identificationStep 7 150) (i 3 1966080 60000) (fun s => s.atCompliance 7) (fun u => (u.jack 7).step == 4 && (u.jack 7).zac == 150), idle (.identificationStep 7 0) (jackIn 6 {} []),
       case (.identificationEnd 7) (e false) (fun s => jackClass (s.identRL 7).1 (s.identRL 7).2 false 0 == 5) (fun u => u.f (Reg.JACK_STAT_STATE 7) == 5 && u.on (Reg.JACK_EVT_CHG.bit 7)),
       case (.identificationEnd 7) (i 4 5 60000) (fun s => jackClass (s.identRL 7).1 (s.identRL 7).2 true 0xFFFF == 2) (fun u => u.f (Reg.JACK_ID_R 7) == 0x1FFFFF),
       case (.identificationEnd 7) (jackIn 6 { idAt := some 0, step := 3, n0 := 1, nm := 1, nd := 1, vd := 20000, vm := 20000 } [(Reg.JACK_STAT_STATE 7, 1)])
         (fun s => jackClass (s.identRL 7).1 (s.identRL 7).2 false 0xFFFF == 8) (fun u => (u.jack 7).again == some 19660800 && u.f (Reg.JACK_STAT_STATE 7) == 1),
       case (.identificationEnd 7) (jackIn 6 { idAt := some 0, step := 3, n0 := 1, nm := 1, nd := 1, vd := 20000, vm := 20000, second := true } [(Reg.JACK_STAT_STATE 7, 1)])
         (fun _ => true) (fun u => u.f (Reg.JACK_STAT_STATE 7) == 8 && u.on (Reg.JACK_EVT_UNK.bit 7)),
       idle (.identificationEnd 7) (i 2 0 0), case (.reidentify 7) (jackIn 6 { again := some 0 } []) (fun s => s.audioOn) (fun u => (u.jack 7).second && u.on (Reg.JACK_STAT_IDRUN 7)),
       idle (.reidentify 7) (jackIn 6 { again := some 1 } []), case (.reid 7) (jackIn 6 {} [(Reg.JACK_STAT_STATE 7, 2)]) (fun s => s.coreOn) (fun u => u.f (Reg.JACK_STAT_STATE 7) == 1 &&
         (u.jack 7).idAt == some 0), idle (.reid 7) (jackIn 6 {} [(Reg.JACK_STAT_STATE 7, 1)]),
       illFormed (.identificationStep 8 0), illFormed (.identificationEnd 8), illFormed (.reidentify 8), illFormed (.reid 8)]) = true := by decide +kernel


/-! ### The speaker stage -/

/-- Channel B in PLAY in a state, with its release conditions met. -/
def speaker (st : Nat) (x : SpkSt) (fs : List (Fld × Nat)) : Block :=
  { inMode 6 ([(Reg.SPK_CFG_EN 1, 1), (Reg.SPK_CTRL_MUTE 1, 0), (Reg.SPK_STAT_STATE 1, st), (Reg.SPK_GLB_CFG_FSW, 0), (Reg.SPK_GLB_CFG_INTLV, 0)] ++ fs) with spk := { chans := [(1, x)] } }

/-- R298 to R300: the start from OFF and from RAMPDN, the switching, the ramp, RUN, the hold and OFF, each at its tick and one core cycle before. -/
theorem test_spkStart :
    (let is (n : Nat) (u : Block) := u.spkState 1 == n
     every [case (.spkRelease 1) (speaker 0 {} []) (fun s => s.spkFree 1) (fun u => is 1 u && onlyB (speaker 0 {} []) u [Reg.SPK_STAT_STATE 1] [.spk]),
       case (.spkRelease 1) (speaker 4 { w0 := 5 } []) (fun s => s.spkFree 1) (fun u => is 2 u && (u.spkSt 1).w0 == 5 && (u.spkSt 1).slope == 1), idle (.spkRelease 0) (speaker 0 {} []),
       case (.spkSwitchStart 1) (at' (speaker 1 {} []) 49152) (fun s => s.carrierStart 1) (fun u => (u.spkSt 1).switching && (u.spkSt 1).since == 49152), idle (.spkSwitchStart 1) (at' (speaker 1 {} []) 49151),
       case (.spkRampupStart 1) (at' (speaker 1 { switching := true } []) 49152) (fun _ => true) (fun u => is 2 u && (u.spkSt 1).slope == 1), idle (.spkRampupStart 1) (at' (speaker 1 { switching := true } []) 49151),
       case (.spkRun 1) (speaker 2 { w0 := 12288, slope := 1 } []) (fun s => s.spkWeight 1 == 12288) (fun u => is 3 u && u.on (Reg.SPK_EVT_RUNNING 1)), idle (.spkRun 1) (speaker 2 { w0 := 12287 } []),
       case (.spkHold 1) (speaker 4 {} []) (fun s => s.spkWeight 1 == 0) (fun u => (u.spkSt 1).hold), idle (.spkHold 1) (speaker 4 { w0 := 1 } []),
       case (.spkOff 1) (speaker 1 { quit := true } []) (fun s => s.carrierStart 1) (fun u => is 0 u), idle (.spkOff 0) (speaker 1 {} []),
       case (.spkOff 1) (at' (speaker 4 { hold := true } []) 49152) (fun s => s.carrierStart 1) (fun u => is 0 u && u.on (Reg.SPK_EVT_STOPPED 1)), idle (.spkOff 1) (at' (speaker 4 { hold := true } []) 49151),
       illFormed (.spkRelease 2), illFormed (.spkSwitchStart 2), illFormed (.spkRampupStart 2), illFormed (.spkRun 2), illFormed (.spkHold 2), illFormed (.spkOff 2)]) = true := by decide +kernel

/-- R302, R580: the 63rd and 64th limited carrier period, a limit and a short in a check, a short, the die. -/
theorem test_spkTrip :
    (let r (n : Nat) := at' (speaker 3 { limRun := n, limLast := 5 } [(Reg.SPK_PROT_BACKOFF 1, 2)]) 1280
     let trip (u : Block) := u.spkState 1 == 5 && u.on (Reg.SPK_EVT_TRIP 1) && u.f (Reg.SPK_TRIPCNT_TRIP 1) == 1 && (u.spkSt 1).backLeft == 245760 && !(u.spkSt 1).switching
     every [case (.currentLimit 1) (r 62) (fun s => s.carrierNo 1 == 6) (fun u => u.spkState 1 == 3 && (u.spkSt 1).limRun == 63 && u.on (Reg.SPK_EVT_ILIM 1) &&
         onlyB (r 62) u [Reg.SPK_EVT_ILIM 1, Reg.SPK_ILIMCNT_ILIM 1] [.spk]),
       case (.currentLimit 1) (at' (speaker 3 { limRun := 1, limLast := 6 } []) 1280) (fun s => s.carrierNo 1 == 6) (fun u =>
         u.spkSt 1 == { limRun := 1, limLast := 6, limUntil := u.halfEnd 1 } && !u.on (Reg.SPK_EVT_ILIM 1)),
       case (.currentLimit 1) (r 63) (fun _ => true) trip, idle (.currentLimit 1) (speaker 5 {} []), case (.currentLimit 1) (speaker 6 {} []) (fun _ => true) (fun u => (u.spkSt 1).checkBad && u.spkState 1 == 6),
       case (.hardShort 1) (r 0) (fun s => s.spkDriving 1) trip, case (.hardShort 1) (speaker 6 {} []) (fun _ => true) (fun u => (u.spkSt 1).checkBad), idle (.hardShort 0) (r 0),
       case .powerDieOvertemp (r 0) (fun _ => true) (fun u => trip u && u.spkState 0 == 0), case .powerDieOvertemp (speaker 7 {} []) (fun _ => true) (fun u => u.spkState 1 == 7),
       illFormed (.currentLimit 2), illFormed (.hardShort 2)]) = true := by decide +kernel

/-- R304, R305: the check after BACKOFF, the host's, its failures, its pass, the retries cleared, the lock left. -/
theorem test_spkCheck :
    (let b (now : Nat) := at' (speaker 5 { backAt := some 0, backLeft := 10 } []) now
     let c (x : SpkSt) (retry : Nat) (now : Nat) := at' (speaker 6 x [(Reg.SPK_STAT_RETRY 1, retry), (Reg.SPK_PROT_RMIN 1, 64)]) now
     every [case (.loadCheck 1) (b 160) (fun s => s.spkFree 1) (fun u => u.spkState 1 == 6 && (u.spkSt 1).checkAt == 160 && !(u.spkSt 1).checkHost), idle (.loadCheck 1) (b 159),
       case (.check 1) (speaker 0 {} []) (fun s => s.coreOn) (fun u => u.spkState 1 == 6 && (u.spkSt 1).checkHost), idle (.check 1) (speaker 3 {} []),
       case (.loadCheckEnd 1) (c { checkBad := true } 6 0) (fun _ => true) (fun u => u.spkState 1 == 5 && u.f (Reg.SPK_STAT_RETRY 1) == 7 && u.on (Reg.SPK_EVT_CHKFAIL 1)),
       case (.loadCheckEnd 1) (c { checkBad := true } 7 0) (fun _ => true) (fun u => u.spkState 1 == 7 && u.f (Reg.SPK_STAT_RETRY 1) == 8 && u.on (Reg.SPK_EVT_LOCK 1)),
       case (.loadCheckEnd 1) (c { checkBad := true, checkHost := true } 0 0) (fun _ => true) (fun u => u.spkState 1 == 0), idle (.loadCheckEnd 1) (c {} 0 294911), idle (.loadCheckEnd 0) (c {} 0 294912),
       case (.loadCheckEnd 1) (c { checkN := 1, sumV := 2, sumI := 1 } 0 294912) (fun s => checkOhms 2 1 == 4000 && s.spkFree 1) (fun u => u.spkState 1 == 2 && u.f (Reg.SPK_RLOAD_R 1) == 4000),
       case (.loadCheckEnd 1) (c { checkN := 1, sumV := 200, sumI := 6, checkHost := true } 0 294912) (fun _ => true) (fun u => u.spkState 1 == 0 && u.on (Reg.SPK_STAT_OPEN 1)),
       case (.loadCheckEnd 1) (c { checkN := 1, sumV := 19, sumI := 10 } 0 294912) (fun _ => true) (fun u => u.spkState 1 == 5 && u.f (Reg.SPK_STAT_RETRY 1) == 1),
       case (.retryClear 1) (at' (speaker 3 {} [(Reg.SPK_STAT_RETRY 1, 3)]) 196608000) (fun _ => true) (fun u => u.f (Reg.SPK_STAT_RETRY 1) == 0), idle (.retryClear 1) (at' (speaker 3 {} []) 196607999),
       case (.spkClr 1) (speaker 7 {} [(Reg.SPK_STAT_RETRY 1, 8)]) (fun s => s.coreOn) (fun u => u.spkState 1 == 0 && u.f (Reg.SPK_STAT_RETRY 1) == 0), idle (.spkClr 1) (speaker 5 {} []),
       illFormed (.loadCheck 2), illFormed (.check 2), illFormed (.loadCheckEnd 2), illFormed (.retryClear 2), illFormed (.spkClr 2)]) = true := by decide +kernel

/-- R307: an update in a frame that is a multiple of 48, and out of it. -/
theorem test_thermalUpdate :
    (let s := speaker 0 { pairs := 3, sumVI := 9 } [(Reg.PWR_FRAME_FRAME, 48), (Reg.SPK_THM_LIM_TLIM 1, 100), (Reg.SPK_THM_LIM_REL 1, 10), (Reg.SPK_THM_TAU_TAUV 1, 1), (Reg.SPK_THM_TAU_TAUM 1, 1)]
     every [case (.thermalUpdate 1) s (fun s => s.audioOn) (fun u => (u.spkSt 1).updFrame == some 48 && (u.spkSt 1).pairs == 0 && (u.spkSt 1).sumVI == 0 && decide ((u.spkSt 1).att ≤ 1)),
       idle (.thermalUpdate 1) (s.put Reg.PWR_FRAME_FRAME 49), idle (.thermalUpdate 1) (speaker 0 { updFrame := some 0 } []), illFormed (.thermalUpdate 2)]) = true := by decide +kernel


/-! ### Half-band chains and the Direct path -/

/-- Chain 19 of the interpolation chains and 15 of the decimation chains, enabled. -/
def chained (x : ChainSt) (fs : List (Fld × Nat)) : Block :=
  { inMode 6 ([(Reg.CHAIN_ICFG_EN 19, 1), (Reg.CHAIN_DCFG_EN 15, 1), (Reg.UAP_CFG_DIR 15, 1)] ++ fs) with chains := { chains := [(15, x), (35, x)] } }

/-- R121, R127, R128: an output marked U, the one that settles, a state reset, a chain with none formed; SRST, and one that a restart absorbs. -/
theorem test_chainOutput :
    (let r := chained { ready := some ⟨5, 0⟩ }
     let d : ChainId := .dec 15
     let i : ChainId := .int 19
     every [case (.chainOutput i) (r [(chainLeft i, 1)]) (fun s => s.on (chainEn i)) (fun u => (u.chain i).out == ⟨5, tagU⟩ && u.f (chainLeft i) == 0 && (u.chain i).ready.isNone),
       case (.chainOutput d) (r [(chainLeft d, 0), (chainUnset d, 1)]) (fun _ => true) (fun u => (u.chain d).out == ⟨5, 0⟩ && !u.on (chainUnset d) && u.on (chainSettled d) && u.chain i == (r []).chain i),
       case (.chainOutput d) (chained { ready := some ⟨5, 0⟩, srst := true, hist := [(1, [(1, 0)])] } []) (fun _ => true) (fun u => (u.chain d).hist == [] && !(u.chain d).srst),
       idle (.chainOutput d) (chained {} []), idle (.chainOutput (.dec 0)) (r []),
       case (.srst d) (chained {} []) (fun s => s.coreOn) (fun u => (u.chain d).srst && !(u.chain i).srst), idle (.srst i) (chained { restart := some (1, true) } []), idle (.srst (.int 0)) (r []),
       illFormed (.chainOutput (.dec 16)), illFormed (.chainOutput (.int 20)), illFormed (.srst (.int 20))]) = true := by decide +kernel

/-- R122, R129: a restart at its tick and one before; a shift that a running stage takes, and one that stays. -/
theorem test_chainRestart :
    (let i : ChainId := .int 19
     let d : ChainId := .dec 15
     let s (now : Nat) := at' (chained { restart := some (6, true), hist := [(1, [(1, 0)])] } []) now
     every [case (.chainRestart d) ((s 96).put Reg.PWR_MODE_BASE modeLoad) (fun s => !s.audioOn) (fun u => (u.chain d).start == 6 && (u.chain d).restart.isNone && u.on (chainUnset d) && u.on (chainRestarted d)),
       case (.chainRestart d) (s 112) (fun s => (s.chain d).restart == some (6, true)) (fun u => (u.chain d).start == 6 && (u.chain d).hist == []),
       idle (.chainRestart d) (s 95), idle (.chainRestart i) (chained {} []),
       case (.chainShiftWrite i 0xFF000000) (chained {} [(chainShift i, 0xFFFFFF)]) (fun s => s.coreOn) (fun u => u.f (chainShift i) == 0 && u.on (chainUnset i) && u.on (chainShiftEvt i)),
       case (.chainShiftWrite i 0xFF000000) (chained {} [(chainShift i, 0)]) (fun _ => true) (fun u => onlyB (chained {} [(chainShift i, 0)]) u [chainShift i] []),
       idle (.chainShiftWrite (.int 0) 0) (chained {} []), illFormed (.chainRestart (.dec 16)), illFormed (.chainShiftWrite (.int 20) 0)]) = true := by decide +kernel

/-- An enabled crosspoint (23, 23). -/
def crossed (x : XpSt) (fs : List (Fld × Nat)) : Block :=
  { inMode 6 ([(Reg.DIR_XP_EN 23 23, 1), (Reg.DIR_XP_GAIN 23 23, 0), (Reg.DIR_GLB_CTRL_ZCTO, 10)] ++ fs) with dir := { xps := [(575, x)] } }

/-- R141 to R145: a write on its own, under HOLD, with ZCMODE, waiting, at a crossing, in a ramp, of no enabled crosspoint. -/
theorem test_xpGainWrite :
    (let w : XpSt := { toAt := some 99, goal := 7 }
     let xp (u : Block) := u.xp 23 23
     every [case (.xpGainWrite 23 23 5) (crossed {} []) (fun s => s.coreOn) (fun u => (xp u).goal == 5 && (xp u).toAt == some 1966080 && u.f (Reg.DIR_XP_GAIN 23 23) == 5),
       case (.xpGainWrite 23 23 5) (crossed {} [(Reg.DIR_OCTRL_ZCMODE 23, 1)]) (fun _ => true) (fun u => (xp u).rampAt == some 16),
       case (.xpGainWrite 23 23 5) (crossed {} [(Reg.DIR_GLB_CTRL_HOLD, 1)]) (fun _ => true) (fun u => (xp u).held && (xp u).goal == 0),
       case (.xpGainWrite 23 23 5) (crossed w []) (fun _ => true) (fun u => (xp u).goal == 5 && (xp u).toAt == some 99 && u.on Reg.DIR_EVT_GOVR),
       case (.xpGainWrite 23 23 0) (crossed w []) (fun _ => true) (fun u => (xp u).toAt.isNone && u.on Reg.DIR_EVT_GOVR),
       case (.xpGainWrite 23 23 0x3FFFF) (crossed { w with crossed := true } []) (fun _ => true) (fun u => (xp u).cur == 7 && (xp u).goal == -1 && (xp u).toAt == some 1966080),
       case (.xpGainWrite 23 23 7) (crossed { w with crossed := true } []) (fun _ => true) (fun u => (xp u).cur == 7 && (xp u).toAt.isNone),
       case (.xpGainWrite 23 23 9) (crossed { rampAt := some 0, goal := 7 } []) (fun _ => true) (fun u => xp u == { rampAt := some 0, goal := 7 } && u.f (Reg.DIR_XP_GAIN 23 23) == 9),
       idle (.xpGainWrite 0 23 5) (crossed {} []), illFormed (.xpGainWrite 24 0 0), illFormed (.xpGainWrite 0 24 0)]) = true := by decide +kernel

/-- R141, R142, R144, R145: the crossing, the timeout and one core cycle before, the end of the ramp with a new target, the release of HOLD. -/
theorem test_xpSteps :
    (let w (c : Bool) (now : Nat) := at' (crossed { toAt := some 99, goal := 7, crossed := c } []) now
     let r (g now : Nat) := at' (crossed { rampAt := some 0, goal := 7 } [(Reg.DIR_XP_GAIN 23 23, g)]) now
     let xp (u : Block) := u.xp 23 23
     every [case (.xpCrossingStep 23 23) (w true 0) (fun _ => true) (fun u => xp u == { cur := 7, goal := 7 }), idle (.xpCrossingStep 23 23) (w false 0),
       case (.xpGainTimeout 23 23) (w false 99) (fun _ => true) (fun u => (xp u).rampAt == some 99 && (xp u).toAt.isNone && u.on Reg.DIR_EVT_GTO), idle (.xpGainTimeout 23 23) (w false 98),
       case (.xpRampEnd 23 23) (r 7 1024) (fun _ => true) (fun u => xp u == { cur := 7, goal := 7 }), idle (.xpRampEnd 23 23) (r 7 1023),
       case (.xpRampEnd 23 23) (r 9 1024) (fun _ => true) (fun u => (xp u).cur == 7 && (xp u).goal == 9 && (xp u).toAt == some (1008 + 1966080)),
       case .dirHoldRelease (crossed { held := true } [(Reg.DIR_GLB_CTRL_HOLD, 1), (Reg.DIR_XP_GAIN 23 23, 3)]) (fun s => s.coreOn) (fun u => !u.on Reg.DIR_GLB_CTRL_HOLD &&
         (xp u).toAt == some 1966080 && !(xp u).held),
       illFormed (.xpCrossingStep 24 0), illFormed (.xpGainTimeout 0 24), illFormed (.xpRampEnd 24 24)]) = true := by decide +kernel

/-- R150, R151, R160: a swap starts, waits, is overrun and ends at its tick; a route scarf ends. -/
theorem test_bqSwap :
    (let d (x : DirOut) (fs : List (Fld × Nat)) : Block := { inMode 6 fs with dir := { outs := [(23, x)] } }
     let run : DirOut := { swap := some { at' := 0 } }
     every [case (.bqSwap 23) (d {} []) (fun s => s.coreOn) (fun u => u.on (Reg.DIR_OSTAT_BQXF 23) && (u.dout 23).swap == some { at' := 16 }),
       case (.bqSwap 23) (d run []) (fun _ => true) (fun u => u.on (Reg.DIR_OSTAT_BQPEND 23) && !u.on Reg.DIR_EVT_BQOVR),
       case (.bqSwap 23) (d run [(Reg.DIR_OSTAT_BQPEND 23, 1)]) (fun _ => true) (fun u => u.on Reg.DIR_EVT_BQOVR),
       case (.bqSwapEnd 23) (at' (d run []) 4096) (fun _ => true) (fun u => (u.dout 23).swap.isNone && u.on Reg.DIR_EVT_BQDONE && u.f (Reg.DIR_OSTAT_BQSET 23) == 1), idle (.bqSwapEnd 23) (at' (d run []) 4095),
       case (.bqSwapEnd 23) (at' (d { swap := some { at' := 0, live := true, next := some (4096, {}) } } []) 4096) (fun _ => true) (fun u => (u.dout 23).swap == some { at' := 4096, live := true } && u.on (Reg.DIR_OSTAT_BQXF 23)),
       case (.routeScarfEnd 23) (at' (d { old := some {} } [(Reg.DIR_OSTAT_RSCARF 23, 1)]) 49152) (fun _ => true) (fun u => !u.on (Reg.DIR_OSTAT_RSCARF 23)),
       case (.routeScarfEnd 23) (at' (d { old := some { leaving := true } } []) 196608) (fun _ => true) (fun u => (u.dout 23).old.isNone),
       idle (.routeScarfEnd 23) (at' (d { old := some {} } []) 49151), idle (.routeScarfEnd 23) (at' (d { old := some { leaving := true } } []) 196607),
       illFormed (.bqSwap 24), illFormed (.bqSwapEnd 24), illFormed (.routeScarfEnd 24)]) = true := by decide +kernel


/-! ### Graph -/

/-- In PLAY with an image active. -/
def graphed (g : Graph) (fs : List (Fld × Nat)) : Block := { inMode 6 fs with graph := g, img := { active := some {} } }

/-- R17, R517, R535: a boundary with the PLL locked and not, with a latch asked for and a NOTIFY owed; none due. -/
theorem test_frameBoundary :
    (let s (pll : Nat) : Block := { inMode 6 [(Reg.CLK_STAT_STATE, pll), (Reg.PWR_FRAME_FRAME, 0xFFFFFFFF)] with time := { frameDue := true, aont := 0x100000007 }, pwr := { tsDue := true }, host := { noteOwed := true } }
     every [case .frameBoundary (s 2) (fun s => 2 ≤ s.pll) (fun u => u.f Reg.PWR_FRAME_FRAME == 0 && u.f Reg.PWR_TSF_FRAME == 0 && u.f Reg.PWR_TSA_LO_T == 7 && !u.pwr.tsDue && u.host.noteSent && !u.host.noteOwed && !u.time.frameDue),
       case .frameBoundary (s 1) (fun _ => true) (fun u => u.f Reg.PWR_FRAME_FRAME == 0xFFFFFFFF && u.f Reg.PWR_TSF_FRAME == 0xFFFFFFFF), idle .frameBoundary { bare [] with time := { frameDue := false } }]) = true := by decide +kernel

/-- R165, R179: an instant with the graph running, one with it stopped, none due. -/
theorem test_graphInstant :
    (let due (s : Block) : Block := { s with time := { s.time with graphDue := true } }
     every [case (.graphInstant []) (due (graphed { work := [⟨5, 0⟩] } [])) (fun s => s.graphOn) (fun u => u.graph.buf == [⟨5, 0⟩] && u.graph.work.length == 92 && !u.time.graphDue),
       case (.graphInstant []) (due (inMode 5 [])) (fun s => !s.graphOn) (fun u => onlyB (due (inMode 5 [])) u [] [.time] && !u.time.graphDue), idle (.graphInstant []) { graphed {} [] with time := { graphDue := false } }]) = true := by decide +kernel

/-- R174 to R176, R248: an alternative above NALT, NALT 0, under SELHOLD, at rest (new, and the one in force), behind a switch that has one waiting. -/
theorem test_altWrite :
    (let s (x : SelSt) (n : Nat) (fs : List (Fld × Nat)) := graphed { sels := [(195, x)] } ((Reg.GRF_SEL_NALT 195, n) :: fs)
     every [case (.altWrite 195 3) (s {} 2 []) (fun s => s.coreOn) (fun u => u.on Reg.GRF_EVT_ALTERR && u.f (Reg.GRF_SEL_ALT 195) == 0), idle (.altWrite 195 0) (s {} 0 []),
       case (.altWrite 195 3) (s {} 3 [(Reg.GRF_GLB_CTRL_SELHOLD, 1)]) (fun _ => true) (fun u => u.sel 195 == { held := some 3 } && u.f (Reg.GRF_SEL_ALT 195) == 3),
       case (.altWrite 195 1) (s {} 1 []) (fun s => !s.frozen) (fun u => u.sel 195 == { wait := some 1 }), case (.altWrite 195 0) (s { wait := some 1 } 1 []) (fun _ => true) (fun u => u.sel 195 == {}),
       case (.altWrite 195 2) (s { run := some (0, {}), wait := some 1 } 3 []) (fun _ => true) (fun u => u.on Reg.GRF_EVT_SELOVR && (u.sel 195).wait == some 2),
       illFormed (.altWrite 196 0), illFormed (.altWrite 0 4)]) = true := by decide +kernel

/-- R176, R240, R248: the release of SELHOLD; the last sample of a switch, alone, with one waiting, one sample before. -/
theorem test_selectSwitch :
    (let s (x : SelSt) (fs : List (Fld × Nat)) := graphed { sels := [(195, x)] } fs
     let r (k : Nat) (w : Option Nat) : SelSt := { alt := 1, run := some (0, ⟨k, 32, false, 0⟩), wait := w }
     every [case .selholdRelease (s { held := some 1 } [(Reg.GRF_GLB_CTRL_SELHOLD, 1)]) (fun s => s.coreOn) (fun u => !u.on Reg.GRF_GLB_CTRL_SELHOLD && u.sel 195 == { wait := some 1 }),
       case (.selectSwitchEnd 195) (s (r 32 none) []) (fun _ => true) (fun u => u.sel 195 == { alt := 1 } && u.on Reg.GRF_EVT_SELDONE), idle (.selectSwitchEnd 195) (s (r 31 none) []),
       case (.selectSwitchEnd 195) (s (r 32 (some 3)) [(Reg.GRF_SEL_ALT23_ALT3 195, 300)]) (fun s => !s.frozen) (fun u => (u.sel 195).alt == 3 && (u.sel 195).run.isSome && u.f (Reg.GRF_SEL_CUR 195) == 300 % 2 ^ (Reg.GRF_SEL_CUR 195).width),
       idle (.selectSwitchEnd 0) (graphed {} []), illFormed (.selectSwitchEnd 196)]) = true := by decide +kernel

/-- R195: the host's own index at the ring's length and one above; RD up to WR; the device's own. -/
theorem test_ringIndexWrite :
    (let s := graphed {} [(Reg.GRF_RING_CFG_LOG2N 7, 6), (Reg.GRF_RING_RD_RD 7, 0xFFFFFFF0), (Reg.GRF_RING_WR_WR 8, 4)]
     every [case (.ringIndexWrite 7 true 0x30) s (fun s => s.coreOn) (fun u => u.f (Reg.GRF_RING_WR_WR 7) == 0x30 && onlyB s u [Reg.GRF_RING_WR_WR 7] []),
       case (.ringIndexWrite 7 true 0x31) s (fun _ => true) (fun u => u.on (Reg.GRF_RING_EVT_IDXERR 7) && onlyB s u [Reg.GRF_RING_EVT_IDXERR 7] []), idle (.ringIndexWrite 7 false 0) s,
       case (.ringIndexWrite 8 false 4) s (fun _ => true) (fun u => u.f (Reg.GRF_RING_RD_RD 8) == 4), case (.ringIndexWrite 8 false 5) s (fun _ => true) (fun u => u.on (Reg.GRF_RING_EVT_IDXERR 8)),
       idle (.ringIndexWrite 15 true 0) s, illFormed (.ringIndexWrite 16 true 0)]) = true := by decide +kernel

/-- A present block with a record. -/
def blocked (b xf : Nat) (x : BlkSt) (fs : List (Fld × Nat)) : Block := graphed { blks := [(b, x)] } ([(Reg.GRF_BLK_CFG_PRESENT b, 1), (Reg.GRF_BLK_CFG_XF b, xf)] ++ fs)

/-- R184, R201, R223, R229, R231, R244, R245: a request on an absent block, one that may not scarf, at rest, behind a scarf, behind a pending one. -/
theorem test_scarfRequests :
    (let run : BlkSt := { next := some ({}, {}) }
     let of (c : Instr) (b kind : Nat) : Bool := every [idle c (graphed {} []) (fun s => s.coreOn && !s.present b),
       case c (blocked b 0 {} []) (fun s => s.present b) (fun u => u.on Reg.GRF_EVT_XFREF && u.blk b == {}),
       case c (blocked b 1 {} []) (fun s => s.crossfadable b) (fun u => u.blk b == { fresh := true, req := some (kind, 0) }),
       case c (blocked b 1 run []) (fun _ => true) (fun u => u.blk b == { run with fresh := true, pend := some kind }),
       case c (blocked b 1 { run with pend := some 1 } []) (fun _ => true) (fun u => u.on Reg.GRF_SCARF_EVT_OVR && (u.blk b).pend == some 1)]
     every [of (.apply 39) 39 1, of (.apply 54) 54 1, of (.apply 61) 61 1, of (.cnvSwap 3) 43 2, of (.preDelayWrite 1 0) 53 4,
       case (.preDelayWrite 1 0x1FFF) (blocked 53 1 {} []) (fun _ => true) (fun u => u.f (Reg.RVB_PRE_PRE 1) == 0x1FFF),
       case (.delayJump 3 1 0x3FFFFFF) (blocked 51 1 {} [(Reg.DLY_CTRL_MODE 3, 1)]) (fun s => s.present 51) (fun u => u.f (Reg.DLY_TIME_TIME 3 1) == 0x3FFFFFF && u.blk 51 == { fresh := true, req := some (3, 0) }),
       case (.delayJump 3 1 5) (blocked 51 1 {} []) (fun _ => true) (fun u => u.f (Reg.DLY_TIME_TIME 3 1) == 5 && u.blk 51 == {}), idle (.delayJump 3 1 5) (graphed {} []),
       illFormed (.apply 40), illFormed (.apply 53), illFormed (.apply 62), illFormed (.cnvSwap 4), illFormed (.preDelayWrite 2 0), illFormed (.preDelayWrite 0 0x2000),
       illFormed (.delayJump 4 0 0), illFormed (.delayJump 0 2 0), illFormed (.delayJump 0 0 0x4000000)]) = true := by decide +kernel

/-- R201, R223, R240, R245: the last sample of a scarf and one before; of a bank swap; with one pending. -/
theorem test_blockScarfEnd :
    (let s (b k kind : Nat) (p : Option Nat) := blocked b 1 { next := some ({ pos := [1] }, ⟨k, 64, false, kind⟩), pend := p } [(Reg.GRF_BLK_PROG_ACTIVE b, 1)]
     every [case (.blockScarfEnd 43) (s 43 64 2 none) (fun _ => true) (fun u => (u.blk 43).cur == { pos := [1] } && u.f (Reg.CNV_STAT_ACTIVE 3) == 1 && u.on (Reg.EFX_EVT_CNVDONE.bit 3) &&
         u.on Reg.GRF_SCARF_EVT_BDONE && !u.on (Reg.GRF_BLK_PROG_ACTIVE 43)),
       idle (.blockScarfEnd 43) (s 43 63 2 none), case (.blockScarfEnd 61) (s 61 64 1 (some 1)) (fun _ => true) (fun u => u.on (Reg.GRF_BLK_PROG_ACTIVE 61) && (u.blk 61).next.isSome && (u.blk 61).pend.isNone),
       idle (.blockScarfEnd 0) (graphed {} []), illFormed (.blockScarfEnd 62)]) = true := by decide +kernel

/-- R222: the last word of the inactive bank, over a memory error; the active bank; while a swap waits. -/
theorem test_cnvCoefWrite :
    (let s (x : BlkSt) : Block := { blocked 43 1 x [] with mem := { coef := [(0xE000, 9)], upsets := [(0x50FFFC, 2)] } }
     let w : Instr := .cnvCoefWrite 0x50FFFC 0x04030201
     every [case w (s {}) (fun s => !s.coefClosed 0xFFFC) (fun u => u.mem.coef.readWord 0xFFFC == 0x04030201 && u.upset 0x50FFFC == 0 && u.mem.coef.read 0xE000 == 9),
       case (.cnvCoefWrite 0x50C000 1) (s {}) (fun s => s.coefClosed 0xC000) (fun u => u.on Reg.EFX_EVT_CWERR && onlyB (s {}) u [Reg.EFX_EVT_CWERR] []),
       case w (s { req := some (2, 0) }) (fun _ => true) (fun u => u.on Reg.EFX_EVT_CWERR && u.mem == (s {}).mem),
       illFormed (.cnvCoefWrite 0x4FFFFC 0), illFormed (.cnvCoefWrite 0x510000 0), illFormed (.cnvCoefWrite 0x500002 0)]) = true := by decide +kernel

/-- R224, R236: the phase of an LFO, of a tone generator, of those that a mask names. -/
theorem test_phaseResets :
    (let s (b : Nat) := blocked b 0 {} []
     every [case (.lforst 3) (s 47) (fun s => s.coreOn && s.present 47) (fun u => u.blk 47 == { lfoRst := some 0 }), idle (.lforst 0) (s 47),
       case (.prst 7) (s 61) (fun _ => true) (fun u => u.blk 61 == { prst := some 0 }), idle (.prst 0) (s 61),
       case (.tgSync 0x80) (s 61) (fun _ => true) (fun u => u.blk 61 == { prst := some 0 }), idle (.tgSync 0x7F) (s 61), illFormed (.lforst 4), illFormed (.prst 8)]) = true := by decide +kernel

/-! ### Graft -/

/-- A graft in a phase begun at core cycle 0, with an empty image active and one in the shadow half. -/
def grafting (ph : Nat) (fs : List (Fld × Nat)) : Block := { inMode 6 ([(Reg.IMG_GRAFT_STAT_PHASE, ph), (Reg.IMG_PROG1_STATE, 4)] ++ fs) with img := { active := some {}, shadow := some {} } }

/-- R254, R496: COMMIT with the plan running and waiting, during a graft, with no shadow. -/
theorem test_commit :
    (let s (pll : Nat) := grafting 0 [(Reg.CLK_STAT_STATE, pll)]
     every [case .commit (s 2) (fun s => s.coreOn && !s.imgBusy && s.planReady s.regs && (s.graftChecks (s.candidate true {}) true {}).isNone) (fun u => u.f Reg.IMG_GRAFT_STAT_PHASE == 1 && u.f Reg.IMG_PROG1_STATE == 4 && u.img.proving == some (.graft, 0)),
       case .commit (s 1) (fun _ => true) (fun u => u.f Reg.IMG_GRAFT_STAT_PHASE == 1 && u.img.proving.isNone && u.img.admitWait == some .graft),
       case .commit (grafting 5 []) (fun s => s.imgBusy) (fun u => u.f Reg.IMG_ERR_CODE == 0x43 && u.on Reg.IMG_EVT_ERR && u.f Reg.IMG_GRAFT_STAT_PHASE == 5),
       case .commit (inMode 5 []) (fun s => !s.imgBusy && s.img.shadow.isNone) (fun u => u.f Reg.IMG_ERR_CODE == 0x44 && u.f Reg.IMG_GRAFT_STAT_PHASE == 0)]) = true := by decide +kernel

/-- R254: F at tick 0 and not, and with a switch still running. -/
theorem test_graftFreezeEnd :
    (let s := at' (grafting 2 []) 7
     every [case .graftFreezeEnd s (fun s => s.graftPhase == 2 && s.graftQuiet) (fun u => u.f Reg.IMG_GRAFT_STAT_PHASE == 3 && u.img.graft.at' == 7 && u.img.graft.blks == []),
       idle .graftFreezeEnd { s with time := { tick := 1 } }, idle .graftFreezeEnd { s with graph := { sels := [(195, { run := some (0, {}) })] } }, idle .graftFreezeEnd (grafting 3 [])]) = true := by decide +kernel

/-- R254: the conditions of C, 64 graph samples after F; one core cycle before, and in another phase, nothing happens. -/
theorem test_graftSwitch :
    (let s (now : Nat) := at' (grafting 3 []) now
     every [(fun s => s.graftPhase == 3 && s.time.tick == 0 && s.reached (s.img.graft.at' + 16 * (64 * s.graphPeriod)) && s.img.active == some {} && s.img.shadow == some {} && !s.ports.shut) (s 262144), idle .graftSwitch (s 262143),
       idle .graftSwitch (at' (grafting 2 []) 262144)]) = true := by decide +kernel

/-- R254, R263: E, and while a switch crosses; ABORT with no graft, before C, after C. -/
theorem test_graftSettle :
    (let s := grafting 5 [(Reg.GRF_SCARF_STAT_FREEZE, 1)]
     every [case .graftSettleEnd s (fun s => s.graftSettled) (fun u => u.f Reg.IMG_GRAFT_STAT_PHASE == 0 && !u.frozen && u.on Reg.IMG_EVT_GRAFTEND && u.img.active.isSome),
       idle .graftSettleEnd { s with img := { s.img with graft := { ends := 1 } } }, idle .graftSettleEnd (grafting 4 []),
       idle .abort (grafting 0 []), case .abort (grafting 3 []) (fun s => s.coreOn && !s.commitDue) (fun u => u.f Reg.IMG_GRAFT_STAT_PHASE == 0 && u.on Reg.IMG_EVT_GRAFTEND && u.img.shadow.isSome && u.img.active.isSome),
       case .abort s (fun _ => true) (fun u => u.on Reg.IMG_EVT_LATE && u.f Reg.IMG_GRAFT_STAT_PHASE == 5 && u.frozen)]) = true := by decide +kernel

/-! ### Control-sense converter and clocks -/

/-- The converter in PLAY. -/
def sensing (c : Csc) (fs : List (Fld × Nat)) : Block := { inMode 6 fs with csc := c }

/-- R338, R339: a software trigger of one of the sequences named; a timer that has come, with its fraction, and one core cycle before. -/
theorem test_cscTimer :
    (let s (now : Nat) := at' (sensing { timers := [(3, ⟨100, 124⟩)] } [(Reg.CSC_TMR_EN 3, 1), (Reg.CSC_TMR_PER 3, 0), (Reg.CSC_TRG_SRC 1, 2), (Reg.CSC_TRG_TMR 1, 3), (Reg.CSC_TRG_DLY 1, 5)]) now
     every [case (.cscStart 5) (sensing {} [(Reg.CSC_TRG_SRC 2, 1), (Reg.CSC_TRG_DLY 2, 9)]) (fun s => s.coreOn) (fun u => u.csc.trigs == [(2, 9)]),
       case (.cscTimer 3) (s 100) (fun s => s.on (Reg.CSC_TMR_EN 3)) (fun u => u.cscTmr 3 == ⟨100 + 197, 75⟩ && u.csc.trigs == [(1, 105)]), idle (.cscTimer 3) (s 99), idle (.cscTimer 0) (s 100),
       illFormed (.cscTimer 4)]) = true := by decide +kernel

/-- R338, R346: a trigger at its time starts a run; one that comes while it runs; one out of the audio modes; one core cycle before. -/
theorem test_sequenceTrigger :
    (let s (fs : List (Fld × Nat)) (now : Nat) := at' (sensing { trigs := [(1, 5)] } ([(Reg.CSC_RSEQ_NA, 1), (Reg.CSC_RSEQ_NB, 1), (Reg.CSC_RENT_CH 1, 3)] ++ fs)) now
     every [case (.sequenceTrigger .b) (s [] 5) (fun s => s.audioOn) (fun u => u.on Reg.CSC_STAT_RUNB && (u.cscUnit 1).regular.items == [⟨1, 3, 0⟩] && u.csc.trigs == []),
       case (.sequenceTrigger .b) (s [(Reg.CSC_STAT_RUNB, 1), (Reg.CSC_OVRCNT_B, 1023)] 5) (fun _ => true) (fun u => u.on Reg.CSC_EVT_OVRB && u.f Reg.CSC_OVRCNT_B == 1023 && u.csc.trigs == []),
       case (.sequenceTrigger .b) (s [(Reg.PWR_MODE_BASE, modeLoad)] 5) (fun s => !s.audioOn) (fun u => u.csc.trigs == []),
       idle (.sequenceTrigger .b) (s [] 4), idle (.sequenceTrigger .a) (s [] 5)]) = true := by decide +kernel

/-- R348, R351: the last accumulator and one of the first mask are copied and cleared, others are not; the reference. -/
theorem test_snapshotGo :
    (let s := sensing { accs := [(0, { sum := 5 }), (35, { sum := 0x100000007, count := 2, uns := 3, refx := true, min := 1, max := 9 })] } [(Reg.CSC_SNAP_CTRL_MASK1, 8), (Reg.CSC_SNAP_CTRL_CLR, 1), (Reg.CSC_ACC_CFG_LIM 35, 1)]
     every [case .snapshotGo s (fun s => s.coreOn) (fun u => u.f (Reg.CSC_SNAP_SUM_SUM 35) == 7 && u.f (Reg.CSC_SNAP_CNT_COUNT 35) == 2 && u.on (Reg.CSC_SNAP_CNT_FULL 35) && u.on (Reg.CSC_SNAP_CNT_REFX 35) &&
         u.f (Reg.CSC_SNAP_MM_MAX 35) == 9 && u.cscAcc 35 == {} && u.cscAcc 0 == { sum := 5 }),
       case .refReady (sensing { refAt := some 0 } []) (fun _ => true) (fun u => u.on Reg.CSC_REF_RDY), idle .refReady (sensing {} [])]) = true := by decide +kernel

/-- R336, R347, R349, R350: a kept code, a discarded one, one with a full accumulator, one without reference; before its time. -/
theorem test_cscConversion :
    (let s (d lim : Nat) (rdy : Bool) (now : Nat) := at' (sensing { accs := [(31, { count := 1, min := 8, max := 8, sum := 8 })], units := [(1, { busy := some ⟨.regular, 3, 0, 192, rdy⟩, regular := { items := [⟨31, 3, 0⟩], disc := some d } })] }
       [(Reg.CSC_ACC_CFG_LIM 31, lim), (Reg.CSC_STAT_RUNB, 1)]) now
     every [case (.cscConversion 1 7) (s 0 1 true 192) (fun s => !s.idBusy 3) (fun u => u.cscAcc 31 == { count := 2, sum := 15, min := 7, max := 8, last := some ⟨192, 7, 8, 1, 8, 8⟩ } && !u.on Reg.CSC_STAT_RUNB && u.on Reg.CSC_EVT_DONEB && (u.cscUnit 1).regular.items == []),
       case (.cscConversion 1 7) (s 0 0 true 192) (fun _ => true) (fun u => u.cscAcc 31 == { count := 1, sum := 8, min := 8, max := 8, last := some ⟨192, 7, 8, 1, 8, 8⟩ }),
       case (.cscConversion 1 7) (s 1 1 true 192) (fun _ => true) (fun u => (u.cscAcc 31).uns == 1 && (u.cscAcc 31).count == 1 && (u.cscUnit 1).regular.items == [⟨31, 3, 0⟩] && u.on Reg.CSC_STAT_RUNB),
       case (.cscConversion 1 7) (s 0 1 false 192) (fun _ => true) (fun u => (u.cscAcc 31).refx && (u.cscAcc 31).uns == 1), idle (.cscConversion 1 7) (s 0 1 true 191), idle (.cscConversion 0 7) (s 0 1 true 192),
       illFormed (.cscConversion 2 0)]) = true := by decide +kernel

/-- R293, R343, R348: a current at its tick takes its unit and breaks off what runs there; with no reference; out of its tick. -/
theorem test_privilegedConversion :
    (let s (t rdy : Nat) : Block := { sensing { units := [(0, { busy := some ⟨.regular, 3, 0, 192, true⟩ })] } [(Reg.SPK_STAT_STATE 0, 1), (Reg.SPK_GLB_CFG_FSW, 0), (Reg.CSC_REF_RDY, rdy)] with time := { tick := t } }
     every [case (.privilegedConversion .ia 0x8001) (s 136 1) (fun s => s.spkOwns && s.audioOn) (fun u => (u.cscUnit 0).freeAt == 192 && u.f Reg.CSC_PRIVCNT_A == 1 && (u.spkSt 0).curr == some 1),
       case (.privilegedConversion .ia 0x8001) (s 8 0) (fun _ => true) (fun u => (u.cscUnit 0).freeAt == 192 && u.spk == (s 8 0).spk), idle (.privilegedConversion .ia 0) (s 9 1),
       idle (.privilegedConversion .ia 0) { sensing {} [] with time := { tick := 8 } }]) = true := by decide +kernel

/-- The clocks with a record. -/
def clocked (c : Clk) (st : Nat) (fs : List (Fld × Nat)) : Block := { inMode 5 ((Reg.CLK_STAT_STATE, st) :: fs) with clk := c }

/-- R371, R373: a loss in LOCKED, and in COAST; the limit with and without a crystal to take, and one core cycle before. -/
theorem test_referenceLoss :
    (let s (fs : List (Fld × Nat)) (now : Nat) := at' (clocked { coastAt := some 0 } 3 ([(Reg.CLK_CFG_COASTLIM, 1), (Reg.CLK_STAT_REF, 1), (Reg.CLK_STAT_XTOK, 1)] ++ fs)) now
     every [case .referenceLost (clocked {} 2 [(Reg.CLK_STAT_PRIOK, 1), (Reg.CLK_STAT_REF, 1), (Reg.CLK_CFG_PREF, 1), (Reg.CLK_STAT_XTOK, 1)]) (fun s => s.pll == pllLocked) (fun u => u.pll == pllCoast && u.on Reg.CLK_EVT_LOSS &&
         u.clk.coastAt == some 0 && !u.on Reg.CLK_STAT_PRIOK && u.on Reg.CLK_STAT_XTOK && u.f Reg.CLK_CNT_LOSSES == 1),
       idle .referenceLost (s [] 0), idle .referenceLost (clocked {} 0 []), case (.coastLimit 16 0) (s [(Reg.CLK_CFG_XTAL, 1)] 1966080) (fun s => !s.onCrystal) (fun u => u.pll == pllLocked && u.on Reg.CLK_EVT_FALLBK && u.f Reg.CLK_STAT_REF == 0 && u.on Reg.CLK_EVT_LIMIT),
       case (.coastLimit 16 0) (s [] 1966080) (fun _ => true) (fun u => u.on Reg.CLK_STAT_LONG && u.pll == pllCoast), idle (.coastLimit 16 0) (s [] 1966079), idle (.coastLimit 16 0) (s [(Reg.CLK_STAT_LONG, 1)] 1966080)]) = true := by decide +kernel

/-- R374 to R377, R366: a reference comes back near, far in phase, far in frequency; one that qualifies for a waiting PLL and for a locked one; slew, pause and snap at their times. -/
theorem test_referenceReturn :
    (let q (phi ppm : Int) := case (.referenceQualified .primary phi ppm) (clocked { coastAt := some 0 } 3 [(Reg.CLK_CFG_PREF, 1), (Reg.CLK_STAT_REF, 1)]) (fun s => s.f Reg.CLK_STAT_REF == s.primaryRef)
     let slew (now : Nat) := at' (clocked { phi := -100 } 4 []) now
     let snap (p : Bool) (now : Nat) := at' (clocked { phi := -17, snapAt := some 0, paused := p } 5 []) now
     every [q 16 31 (fun u => u.pll == pllLocked && u.clk.coastAt.isNone && u.on Reg.CLK_EVT_RETURN && u.on Reg.CLK_STAT_PRIOK), q 17 30 (fun u => u.pll == pllSlew), q (-17) (-31) (fun u => u.pll == pllSnap && u.on Reg.CLK_EVT_FSNAP && u.clk.snapAt == some 0),
       case (.referenceQualified .crystal 0 0) (clocked { want := true } 0 []) (fun _ => true) (fun u => u.pll == pllAcquire && u.on Reg.CLK_STAT_XTOK && u.on Reg.CLK_STAT_PRIOK),
       case (.referenceQualified .crystal 0 0) (clocked {} 2 [(Reg.CLK_CFG_PREF, 1)]) (fun s => !s.clk.fallback) (fun u => u.pll == pllLocked && u.on Reg.CLK_STAT_XTOK && !u.on Reg.CLK_STAT_PRIOK),
       case .slewDone (slew 65536) (fun _ => true) (fun u => u.pll == pllLocked && u.on Reg.CLK_EVT_SLEWDONE), idle .slewDone (slew 65535),
       case .snapPause (snap false 196608) (fun _ => true) (fun u => u.clk.paused && u.f Reg.CLK_PHERR_PAUSE == 254), idle .snapPause (snap false 196607), idle .snapPause (snap true 196608),
       case .snapEnd (snap true 394240) (fun _ => true) (fun u => u.pll == pllLocked && u.clk.snapAt.isNone && u.on Reg.CLK_EVT_SNAP && u.f Reg.CLK_CNT_SNAPS == 1), idle .snapEnd (snap true 394239), idle .snapEnd (snap false 394240),
       case .snapEnd (at' (clocked { snapAt := some 0 } 3 []) 394240) (fun _ => true) (fun u => u.clk.snapAt.isNone && u.pll == pllCoast),
       case .pllLocked (clocked {} 1 [(Reg.CLK_STAT_RING, 1)]) (fun s => !s.img.activate && !s.lsn.running) (fun u => u.pll == pllLocked && u.on Reg.CLK_EVT_LOCK && !u.on Reg.CLK_STAT_RING), idle .pllLocked (clocked {} 2 [])]) = true := by decide +kernel

/-- R369: a commit in LOCKED, in ACQUIRE, and in COAST without its reference; the apply with and without its reference, to another reference, with none waiting. -/
theorem test_clkCommit :
    (let a (fs : List (Fld × Nat)) := clocked { commit := true } 2 ((Reg.CLK_CTRL_MCLKOEN, 1) :: fs)
     every [case .clkCommit (clocked {} 2 []) (fun s => s.coreOn) (fun u => u.clk.commit && !u.on Reg.CLK_STAT_CPEND), case .clkCommit (clocked {} 1 []) (fun _ => true) (fun u => u.clk.commit && u.on Reg.CLK_STAT_CPEND),
       case .clkCommit (clocked {} 3 []) (fun s => !s.askedOk) (fun u => u.on Reg.CLK_EVT_NOREF && !u.clk.commit), idle (.shadowApply 0 0) (clocked {} 2 []), idle (.shadowApply 0 0) (clocked { commit := true } 1 []),
       case (.shadowApply 0 0) (a []) (fun s => !s.askedOk) (fun u => !u.clk.commit && u.clk.mclkoen && u.on Reg.CLK_EVT_CMTDONE && u.on Reg.CLK_EVT_NOREF),
       case (.shadowApply 0 0) (a [(Reg.CLK_CTRL_REFSEL, 1), (Reg.CLK_STAT_XTOK, 1)]) (fun s => s.askedOk) (fun u => u.clk.refsel && !u.on Reg.CLK_EVT_RETURN && u.on Reg.CLK_EVT_CMTDONE),
       case (.shadowApply 0 0) (a [(Reg.CLK_CTRL_REFSEL, 1), (Reg.CLK_STAT_XTOK, 1), (Reg.CLK_STAT_REF, 1)]) (fun s => s.askedOk) (fun u => u.on Reg.CLK_EVT_RETURN && u.f Reg.CLK_STAT_REF == 0)]) = true := by decide +kernel

/-- R360 to R362, R373, R380, R404: the crystals, the measurement at the least DEV, and the link PLL. -/
theorem test_oscillators :
    (let x := bare [(Reg.CLK_AON_SRC, 1), (Reg.CLK_STAT_RING, 1)]
     let l (fs : List (Fld × Nat)) : Block := { inMode 6 ([(Reg.TRL_PCFG_EN 3, 1), (Reg.CLK_STAT_STATE, 2)] ++ fs) with net := { ports := [(3, { signal := true })] } }
     every [case .xtiQualLoss (clocked {} 2 [(Reg.CLK_STAT_XTOK, 1), (Reg.CLK_CFG_XTAL, 1), (Reg.CLK_STAT_REF, 1)]) (fun _ => true) (fun u => !u.on Reg.CLK_STAT_XTOK && u.on Reg.CLK_EVT_XTFAIL),
       case .x32Fail x (fun _ => true) (fun u => !u.on Reg.CLK_AON_SRC && u.on Reg.CLK_EVT_X32FAIL && u.clk.x32off), idle .x32Fail (bare []),
       case (.ringMeasure (-32768)) x (fun _ => true) (fun u => u.fInt Reg.CLK_RING_DEV == -32768 && u.lsn.rdev == some 32768), idle (.ringMeasure 5) (bare [(Reg.CLK_STAT_RING, 1), (Reg.CLK_AON_SRC, 0)]),
       case .slowClockSwitch (bare [(Reg.CLK_AON_X32EN, 1)]) (fun _ => true) (fun u => u.on Reg.CLK_AON_SRC), case .slowClockSwitch { x with clk := { x32off := true } } (fun _ => true) (fun u => !u.on Reg.CLK_AON_SRC),
       case .linkPllLock (l [(Reg.TRL_LSTAT_STATE 3, linkFailed)]) (fun _ => true) (fun u => u.on Reg.CLK_STAT_LLOCK && u.linkState 3 == linkAlign), idle .linkPllLock (l [(Reg.CLK_STAT_STATE, 1)]), idle .linkPllLock (clocked {} 2 []),
       case .linkPllLoss (l [(Reg.CLK_STAT_LLOCK, 1), (Reg.TRL_LSTAT_STATE 3, linkUp)]) (fun s => s.portUp 3) (fun u => !u.on Reg.CLK_STAT_LLOCK && u.on Reg.CLK_EVT_LLOSS && u.linkState 3 == linkFailed && u.on (Reg.TRL_EVT_FAIL 3)),
       idle .linkPllLoss (l [])]) = true := by decide +kernel

/-! ### Trellis links and census -/

/-- Port p enabled, in a receiver state, with a record. -/
def linked (p st : Nat) (x : PortSt) (fs : List (Fld × Nat)) : Block := { inMode 6 ([(Reg.TRL_PCFG_EN p, 1), (Reg.TRL_LSTAT_STATE p, st)] ++ fs) with net := { ports := [(p, x)] } }

/-- R393, R402, R404: signals, losses out of UP and of MEASURE, the retry after 1 ms and one core cycle before, RETRAIN. -/
theorem test_linkStates :
    (let r (sig : Bool) (now : Nat) := at' (linked 3 linkFailed { signal := sig } [(Reg.CLK_STAT_LLOCK, 1)]) now
     every [case (.signalDetect 3) (linked 3 linkDetect {} []) (fun _ => true) (fun u => u.linkState 3 == linkAlign && (u.port 3).signal), case (.signalDetect 3) (linked 3 linkFailed {} []) (fun _ => true) (fun u => u.linkState 3 == linkFailed && (u.port 3).signal),
       case (.lossOfSignal 3) (linked 3 linkUp {} [(Reg.TRL_LSTAT_LIVE 3, 15), (Reg.TRL_CNT_LINK_FAILS 3, 65535)]) (fun _ => true) (fun u => u.linkState 3 == linkFailed && u.on (Reg.TRL_EVT_FAIL 3) && u.f (Reg.TRL_LSTAT_LIVE 3) == 0 && u.f (Reg.TRL_CNT_LINK_FAILS 3) == 65535 && !u.ledger.entries.isEmpty),
       case (.lossOfSignal 3) (linked 3 linkMeasure {} []) (fun _ => true) (fun u => u.linkState 3 == linkFailed && !u.on (Reg.TRL_EVT_FAIL 3) && u.ledger.entries.isEmpty),
       case (.lossOfSignal 3) (linked 3 linkDetect { signal := true } []) (fun _ => true) (fun u => u.linkState 3 == linkDetect && !(u.port 3).signal),
       case (.failedRetry 3) (r true 196608) (fun _ => true) (fun u => u.linkState 3 == linkAlign), case (.failedRetry 3) (r false 196608) (fun _ => true) (fun u => u.linkState 3 == linkDetect), idle (.failedRetry 3) (r true 196607),
       case (.retrain 3) (linked 3 linkUp { peerRho := some 3 } []) (fun s => s.coreOn) (fun u => u.linkState 3 == linkMeasure && (u.port 3).peerRho.isNone), idle (.retrain 3) (linked 3 linkAlign {} []),
       illFormed (.signalDetect 4), illFormed (.lossOfSignal 4), illFormed (.failedRetry 4), illFormed (.retrain 4)]) = true := by decide +kernel

/-- A microframe that passes its check, of lane bytes 1 2 3, with a service byte. -/
def goodFrame (k : KCode) (b : Byte) : Microframe :=
  let body : List Byte := [1, 2, 3] ++ List.replicate 13 0 ++ [b]
  ⟨k, body ++ beBytes 2 (crc16 body).toNat, 0, false, 5⟩

/-- R387, R388, R390, R402: a good slot, a missing one, the fourth missing one, a failed one, the sixteenth, out of the receiving states. -/
theorem test_microframeUp :
    (let s (x : PortSt) := linked 3 linkUp x []
     let bad : Microframe := ⟨.k285, [], 1, true, 0⟩
     every [case (.microframeReceive 3 (goodFrame .k285 1)) (s { slot := 255 }) (fun s => microframeGood (goodFrame .k285 1) && !microframeMissing (goodFrame .k285 1) (s.port 3).slot) (fun u => u.linkState 3 == linkUp && (u.port 3).slot == 0 && u.on ((Reg.TRL_LSTAT_LIVE 3).bit 3) &&
         Tab.get (fun _ => {}) (u.port 3).laneGood 0 == ⟨0x010203, 0⟩ && u.on (Reg.TRL_LSTAT_PEERRX 3)),
       case (.microframeReceive 3 (goodFrame .k285 0)) (s { missRun := 2 }) (fun _ => true) (fun u => u.linkState 3 == linkUp && u.on (Reg.TRL_EVT_MISS 3) && u.f (Reg.TRL_CNT_MISS_MISS 3) == 1),
       case (.microframeReceive 3 (goodFrame .k281 0)) (s { slot := 1, missRun := 3 }) (fun _ => true) (fun u => u.linkState 3 == linkFailed && u.on (Reg.TRL_EVT_FAIL 3)),
       case (.microframeReceive 3 bad) (s { slot := 1, fails := List.replicate 14 true }) (fun _ => true) (fun u => u.linkState 3 == linkUp && u.on (Reg.TRL_EVT_CRC 3) && u.f (Reg.TRL_CNT_CV_CV 3) == 1 && u.on (Reg.TRL_LSTAT_RXINV 3)),
       case (.microframeReceive 3 bad) (s { slot := 1, fails := List.replicate 15 true }) (fun _ => true) (fun u => u.linkState 3 == linkFailed && u.on (Reg.TRL_EVT_BURST 3)),
       idle (.microframeReceive 3 bad) (linked 3 linkDetect {} []), idle (.microframeReceive 3 bad) (linked 3 linkFailed {} []), illFormed (.microframeReceive 4 bad)]) = true := by decide +kernel

/-- R393, R395: the eighth marker, the seventh; the sixteenth stable marker with the peer's record, and with δ just above 25 ns. -/
theorem test_microframeTraining :
    (let a (n : Nat) := linked 3 linkAlign { markers := n } []
     let m (peer : Int) := linked 3 linkMeasure { rhos := List.replicate 15 5, peerRho := some peer } [(Reg.TRL_GLB_STAT_GRIDOK, 1)]
     let k := Instr.microframeReceive 3 (goodFrame .k281 0)
     every [case k (a 7) (fun _ => true) (fun u => u.linkState 3 == linkMeasure), case k (a 6) (fun _ => true) (fun u => u.linkState 3 == linkAlign && (u.port 3).markers == 7),
       case k (m 395) (fun s => (s.port 3).rhos.length == 15) (fun u => u.linkState 3 == linkUp && u.fInt (Reg.TRL_CABLE_DELTA 3) == 200 && u.fInt (Reg.TRL_LSTAT_A 3) == 0 && u.on (Reg.TRL_EVT_UP 3)),
       case k (m (-5)) (fun _ => true) (fun u => u.linkState 3 == linkUp && u.fInt (Reg.TRL_CABLE_DELTA 3) == 0), case k (m 397) (fun _ => true) (fun u => u.linkState 3 == linkMeasure)]) = true := by decide +kernel

/-- R431, R432: a protected lane and the last tap turn at HOLD and 256, and not one below; the reversion; FORCE. -/
theorem test_protection :
    (let lane := 0x21 + 64 * 4
     let s (k : Nat) (x : ProtSt) (fs : List (Fld × Nat)) : Block := { inMode 6 ([(Reg.TRL_LIN_ROUTE 3, lane), (Reg.TRL_BIN_ROUTE 31, 0x401), (Reg.TRL_PROT_HOLD, 2), (Reg.TRL_PROT_REV, 1)] ++ fs) with net := { prot := [(k, x)] } }
     every [case (.protectionSwitch (.lane 3)) (s 3 { badRun := 2, goodRun := 256 } []) (fun s => s.isProtected (.lane 3)) (fun u => u.on (Reg.TRL_LIN_ACT 3) && u.on (rtEvt 7) && u.prot 3 == {}),
       idle (.protectionSwitch (.lane 3)) (s 3 { badRun := 1, goodRun := 256 } []), idle (.protectionSwitch (.lane 3)) (s 3 { badRun := 2, goodRun := 255 } []), idle (.protectionSwitch (.lane 0)) (s 0 { badRun := 2, goodRun := 256 } []),
       case (.protectionSwitch (.bulk 31)) (s 35 { badRun := 2, goodRun := 256 } []) (fun s => s.isProtected (.bulk 31)) (fun u => u.on (Reg.TRL_BIN_ACT 31)),
       case (.protectionRevert (.bulk 31)) (s 35 { workGood := 1228800 } [(Reg.TRL_BIN_ACT 31, 1)]) (fun _ => true) (fun u => !u.on (Reg.TRL_BIN_ACT 31)), idle (.protectionRevert (.bulk 31)) (s 35 { workGood := 1228799 } [(Reg.TRL_BIN_ACT 31, 1)]),
       idle (.protectionRevert (.lane 3)) (s 3 { workGood := 1228800 } []), case (.force 3) (s 3 {} [(Reg.TRL_LIN_PGOOD 3, 1)]) (fun s => s.coreOn) (fun u => u.on (Reg.TRL_LIN_ACT 3)), idle (.force 3) (s 3 {} []),
       illFormed (.protectionSwitch (.lane 4)), illFormed (.protectionRevert (.bulk 32)), illFormed (.force 4)]) = true := by decide +kernel

/-- R398, R407, R408: the grid, a second root, none, each at its time and before. -/
theorem test_roots :
    (let g (fs : List (Fld × Nat)) := linked 2 linkUp { slot := 77 } ([(Reg.CLK_STAT_STATE, 2), (Reg.TRL_GLB_STAT_UPV, 1), (Reg.TRL_GLB_STAT_UPPORT, 2)] ++ fs)
     let t (now : Nat) := at' (linked 3 linkMeasure { peerDomain := true } [(Reg.TRL_RT_CFG_ROOT, 1)]) now
     let n (d : Bool) (now : Nat) : Block := at' { linked 3 linkUp { peerDomain := d } [] with net := { ports := [(3, { peerDomain := d })], domainBy := some 9 } } now
     every [case .gridAlign (g []) (fun s => !s.isRoot) (fun u => u.time.tick == 77 && u.on Reg.TRL_GLB_STAT_GRIDOK && u.on Reg.TRL_GLB_EVT_GRID), idle .gridAlign (g [(Reg.TRL_GLB_STAT_GRIDOK, 1)]), idle .gridAlign (g [(Reg.TRL_RT_CFG_ROOT, 1)]),
       case (.tworoot 3) (t 19660800) (fun s => s.isRoot) (fun u => u.on (rtEvt 4)), idle (.tworoot 3) (t 19660799), illFormed (.tworoot 4),
       case .noroot (n false 9) (fun s => !s.isRoot) (fun u => u.on (rtEvt 12) && u.on Reg.CLK_EVT_NOREF && u.net.domainBy.isNone), idle .noroot (n false 8), idle .noroot (n true 9)]) = true := by decide +kernel

/-- A root with port 1 in UP, and its census record. -/
def rooted (n : Net) (fs : List (Fld × Nat)) : Block := { inMode 6 ([(Reg.TRL_RT_CFG_ROOT, 1), (Reg.TRL_LSTAT_STATE 1, linkUp)] ++ fs) with net := n }

/-- A census packet. -/
def censusPkt (type epoch : Nat) (p : List Byte) : Packet := ⟨type, 0, 0, epoch, 0, 0, p⟩

/-- R409 to R411: a census starts with its neighbours and alone, repeats, fails, starts again, is dropped; one core cycle before, nothing. -/
theorem test_censusRoot :
    (let w (now : Nat) := at' (rooted { censusAt := [9] } []) now
     let r (now : Nat) := at' (rooted { census := some { epoch := 5, probe := some (1, 2, 0) } } []) now
     let d (now : Nat) := at' { inMode 6 [] with net := { census := some { epoch := 5 } } } now
     every [case .censusStart (w 9) (fun s => s.isRoot && (List.range 4).filter s.portUp == [1]) (fun u => u.on Reg.TRL_RT_STAT_CENRUN && (u.net.census.map (·.epoch)) == some 1 && (u.net.txq.map (·.pkt.payload)) == [[2, 0]]), idle .censusStart (w 8), idle .censusRestart (w 8),
       case .censusRestart (w 9) (fun _ => true) (fun u => (u.net.census.map (·.probe)) == some (some (1, 2, 9))),
       case .start (at' (rooted {} [(Reg.TRL_LSTAT_STATE 1, 0), (Reg.TRL_RT_STAT_EPOCH, 255)]) 9) (fun s => s.coreOn && (List.range 4).filter s.portUp == []) (fun u => u.addr == 1 && u.epoch == 0 && u.f Reg.TRL_RT_ROOT_COUNT == 1 && u.on (rtEvt 0)), idle .start (inMode 6 []),
       case (.topo 3 (censusPkt 4 0 [])) (rooted {} []) (fun s => s.isRoot) (fun u => u.net.censusAt == [8192]), idle (.topo 3 (censusPkt 4 0 [])) (inMode 6 []),
       case (.censusRepeat 1) (r 393216) (fun _ => true) (fun u => (u.net.census.map (·.lastSend)) == some 393216 && u.net.txq.length == 1), idle (.censusRepeat 1) (r 393215), idle (.censusRepeat 0) (r 393216),
       case .cenfail (r 19660800) (fun _ => true) (fun u => u.on (rtEvt 1) && u.net.censusAt == [19660800 + 196608000]), idle .cenfail (r 19660799), idle .cenfail (d 39321600), idle .epochDiscard (r 39321600),
       case .epochDiscard (d 39321600) (fun _ => true) (fun u => u.net.census.isNone), idle .epochDiscard (d 39321599), illFormed (.topo 4 (censusPkt 4 0 [])), illFormed (.censusRepeat 4)]) = true := by decide +kernel

/-- R409, R410: CENSUS of the newest epoch that is newer and of the first that is not; with a port to explore and without; CENRET of a child and of a non-tree link. -/
theorem test_censusDevice :
    (let s (up : Nat) (fs : List (Fld × Nat)) := inMode 6 ([(Reg.TRL_LSTAT_STATE up, linkUp), (Reg.TRL_RT_STAT_EPOCH, 3)] ++ fs)
     let run : Block := { inMode 6 [(Reg.TRL_LSTAT_STATE 1, linkUp)] with net := { census := some { epoch := 5, probe := some (3, 2, 0), ports := [1], next := 2, newAddr := 1 } } }
     every [case (.census 3 (censusPkt 1 130 [62, 62])) (s 1 []) (fun s => !s.isRoot && newerEpoch 130 s.epoch) (fun u => u.on Reg.TRL_RT_STAT_CENRUN && (u.net.census.map (·.newAddr)) == some 62 && (u.net.txq.map (·.pkt.payload)) == [[63, 63]]),
       case (.census 3 (censusPkt 1 4 [63, 0])) (s 3 []) (fun s => (List.range 4).filter (fun q => q != 3 && s.portUp q) == []) (fun u => (u.net.census.map (·.newAddr)) == some 0 && (u.net.txq.map (fun t => (t.port, t.pkt.type, t.pkt.payload.take 4))) == [(3, 2, [64, 0, 0, 0])]),
       case (.census 3 (censusPkt 1 131 [9, 9])) (s 3 []) (fun s => !newerEpoch 131 s.epoch) (fun u => u.net.census.isNone && (u.net.txq.map (·.pkt.payload)) == [[9, 1, 0, 0]]),
       case (.cenret 3 (censusPkt 2 5 [4, 0, 0, 0])) run (fun _ => true) (fun u => (u.net.census.map (·.ranges)) == some [(3, 2, 3)] && (u.net.txq.map (·.pkt.payload)) == [[4, 0]]),
       case (.cenret 3 ⟨2, 0, 9, 5, 0, 0, [2, 1, 0, 0]⟩) run (fun _ => true) (fun u => u.f (Reg.TRL_RT_PSTAT_PEER 3) == 9 && (u.net.census.map (·.nonTree)) == some [3]),
       idle (.cenret 3 (censusPkt 2 6 [4, 0])) run, idle (.cenret 1 (censusPkt 2 5 [4, 0])) run, idle (.cenret 3 (censusPkt 2 5 [])) (s 3 []),
       illFormed (.census 4 (censusPkt 1 0 [])), illFormed (.cenret 4 (censusPkt 2 0 []))]) = true := by decide +kernel

/-- R412, R414: the census takes effect, in its epoch only; the last address of a range and of the table. -/
theorem test_cendone :
    (let s : Block := { inMode 6 [(Reg.TRL_LSTAT_STATE 1, linkUp)] with net := { census := some { epoch := 5, newAddr := 7, newHop := 2, parent := 3, ranges := [(1, 8, 10)], sent := some (censusPkt 2 5 []) } } }
     every [case (.cendone 3 (censusPkt 3 5 [])) s (fun _ => true) (fun u => u.addr == 7 && u.f Reg.TRL_RT_STAT_HOP == 2 && u.epoch == 5 && u.on Reg.TRL_GLB_STAT_UPV && u.f Reg.TRL_GLB_STAT_UPPORT == 3 && u.on (rtEvt 2) &&
         u.f (Reg.TRL_RT_DEST_PORT 10) == 1 && u.f (Reg.TRL_RT_DEST_PORT 11) == 3 && u.on (Reg.TRL_RT_DEST_LOCAL 7) && u.f (Reg.TRL_RT_DEST_PORT 62) == 3 && !u.on (Reg.TRL_RT_DEST_VIA 7)),
       idle (.cendone 3 (censusPkt 3 6 [])) s, idle (.cendone 3 (censusPkt 3 5 [])) (inMode 6 []), illFormed (.cendone 4 (censusPkt 3 5 []))]) = true := by decide +kernel

/-! ### Remote accesses and the handshake -/

/-- A device of address 7 in epoch 3, whose table reaches device 9 on port 2. -/
def addressed (n : Net) (fs : List (Fld × Nat)) : Block :=
  { inMode 6 ([(Reg.TRL_RT_STAT_ADDR, 7), (Reg.TRL_RT_STAT_EPOCH, 3), (Reg.TRL_RT_DEST_VIA 9, 1), (Reg.TRL_RT_DEST_PORT 9, 2)] ++ fs) with net := n }

/-- R419, R420: packets for another device of each type; a stale request and a stale answer; no route on the root and on another device. -/
theorem test_packetRouting :
    (let s (fs : List (Fld × Nat)) := addressed {} fs
     let k (t d e : Nat) : Packet := ⟨t, d, 9, e, 1, 0, []⟩
     let all (p : Packet) : List Instr := [.write 3 p, .read 3 p, .img 3 p, .wack 3 p, .rdata 3 p, .lanswer 3 p, .loffer 3 p, .notify 3 p]
     every [(all (k 0x30 9 99)).all (fun c => case c (s []) (fun s => s.routePort 9 == some 2) (fun u => u.net.txq == [⟨2, packetClass 0x30, k 0x30 9 99⟩])),
       (all (k 0x10 8 3)).all (fun c => idle c (s []) (fun s => s.routePort 8 == none && !s.isRoot)),
       case (.write 3 (k 0x10 8 3)) (s [(Reg.TRL_RT_CFG_ROOT, 1)]) (fun s => s.isRoot) (fun u => u.f Reg.TRL_RT_CNT_NOROUTE == 1 && (u.net.txq.map (fun t => (t.port, t.pkt.type, t.pkt.status))) == [(2, 0x11, 1)]),
       case (.read 3 (k 0x12 7 4)) (s []) (fun s => s.epoch != 4) (fun u => (u.net.txq.map (fun t => (t.pkt.type, t.pkt.status))) == [(0x13, 4)]), idle (.notify 3 (k 0x30 7 4)) (s []),
       (all (k 0x30 7 3)).all (fun c => match c with
         | .write _ p => illFormed (.write 4 p)
         | .read _ p => illFormed (.read 4 p)
         | .img _ p => illFormed (.img 4 p)
         | .wack _ p => illFormed (.wack 4 p)
         | .rdata _ p => illFormed (.rdata 4 p)
         | .lanswer _ p => illFormed (.lanswer 4 p)
         | .loffer _ p => illFormed (.loffer 4 p)
         | .notify _ p => illFormed (.notify 4 p)
         | _ => false)]) = true := by decide +kernel

/-- R421, R422: a WRITE of one word, of none, of 65, one that was answered before, one that the cloche forbids; a READ of 1 and of 0 words; NOTIFY. -/
theorem test_remoteAccess :
    (let s (fs : List (Fld × Nat)) := addressed {} fs
     let w (a : Nat) (n : Nat) : Packet := ⟨0x10, 7, 9, 3, 1, 0, beBytes 4 a ++ (List.range n).flatMap (fun _ => [0, 0, 0, 0x85])⟩
     let r (n : Byte) : Packet := ⟨0x12, 7, 9, 3, 1, 0, beBytes 4 Reg.TRL_RT_STAT ++ [n]⟩
     let status (n : Nat) (u : Block) : Bool := (u.net.txq.map (·.pkt.status)) == [n]
     let shut := { s [(Reg.MB_STAT_CUT 1, 1)] with ports := { shut := true } }
     every [case (.write 3 (w (Reg.UAP_IN_GAIN 0) 1)) (s []) (fun s => (s.storedAnswer (w 0 1)).isNone && !s.clocheForbids (Reg.UAP_IN_GAIN 0) 0x85) (fun u => status 0 u && u.net.answers.length == 1), case (.write 3 (w 0 0)) (s []) (fun _ => true) (status 2),
       case (.write 3 ⟨0x10, 7, 9, 3, 1, 0, beBytes 4 0 ++ List.replicate 260 0⟩) (s []) (fun _ => true) (status 2), case (.write 3 (w (Reg.MB_CFG 1) 1)) shut (fun s => s.clocheForbids (Reg.MB_CFG 1) 0x85) (fun u => status 3 u && !(u.biasSt 1).driven),
       case (.write 3 (w 0 1)) (addressed { answers := [⟨9, 1, ⟨0x11, 9, 7, 3, 1, 6, []⟩⟩] } []) (fun s => (s.storedAnswer (w 0 1)).isSome) (status 6),
       case (.read 3 (r 1)) (s []) (fun _ => true) (fun u => status 0 u && (u.net.txq.map (·.pkt.payload.length)) == [4]), case (.read 3 (r 0)) (s []) (fun _ => true) (status 2), case (.read 3 (r 65)) (s []) (fun _ => true) (status 2),
       case (.notify 3 ⟨0x30, 7, 9, 3, 1, 0, [0xAB, 0xCD]⟩) (s []) (fun _ => true) (fun u => u.f Reg.TRL_RA_NOTE_SUM == 0xABCD && u.f Reg.TRL_RA_NOTE_SRC == 9 && u.on (rtEvt 11))]) = true := by decide +kernel

/-- R421 to R423: answers to a WRITE, an IMG packet and a READ, with status 0, 4 and 5; the second sending, the last, one core cycle before. -/
theorem test_remoteAnswers :
    (let q (t n : Nat) : Request := { seq := 255, dst := 9, pkt := ⟨t, 9, 7, 3, 255, 0, []⟩, sends := n }
     let s (t n : Nat) := addressed { requests := [q t n], stream := [(9, [])], fetch := some (9, 0, 255) } [(Reg.TRL_RA_STAT_RPEND, 1), (Reg.TRL_RA_PROG_SEQTX, 255)]
     let a (t st : Nat) : Packet := ⟨t, 7, 9, 3, 255, st, [0, 0, 0, 1]⟩
     every [case (.wack 3 (a 0x11 0)) (s 0x10 1) (fun s => s.outstanding 255 0x10) (fun u => u.net.requests == [] && u.f Reg.TRL_RA_PROG_STATE == 2 && u.f Reg.TRL_RA_PROG_SEQACK == 255 && u.on (rtEvt 9)),
       case (.wack 3 (a 0x11 4)) (s 0x10 1) (fun _ => true) (fun u => u.f Reg.TRL_RA_PROG_STATE == 3 && u.f Reg.TRL_RA_STAT_ERR == 4 && u.on (rtEvt 10)), case (.wack 3 (a 0x11 5)) (s 0x40 1) (fun s => s.outstanding 255 0x40) (fun u => u.net.stream == [] && u.f Reg.TRL_RA_STAT_ERR == 0),
       idle (.wack 3 (a 0x11 0)) (s 0x12 1), idle (.rdata 3 (a 0x13 0)) (s 0x10 1),
       case (.rdata 3 (a 0x13 0)) (s 0x12 1) (fun s => s.outstanding 255 0x12) (fun u => u.net.fetched == [1] && u.on Reg.TRL_RA_STAT_RDONE && !u.on Reg.TRL_RA_STAT_RPEND), case (.rdata 3 (a 0x13 2)) (s 0x12 1) (fun _ => true) (fun u => u.net.fetch.isNone && !u.on Reg.TRL_RA_STAT_RDONE),
       case (.requestRepeat 255) (at' (s 0x10 3) 393216) (fun _ => true) (fun u => (u.net.requests.map (fun r => (r.sends, r.at'))) == [(4, 393216)] && u.net.txq.length == 1), idle (.requestRepeat 255) (at' (s 0x10 3) 393215), idle (.requestRepeat 0) (at' (s 0x10 3) 393216),
       case (.requestRepeat 255) (at' (s 0x12 4) 393216) (fun _ => true) (fun u => u.net.requests == [] && u.f Reg.TRL_RA_PROG_STATE == 4 && u.f Reg.TRL_RA_STAT_ERR == 5 && u.net.fetch.isNone && !u.on Reg.TRL_RA_STAT_RPEND && u.net.txq == []),
       illFormed (.requestRepeat 256)]) = true := by decide +kernel

/-- R426, R427: an offer of a lane that is not expected; answers, accepted and refused; the timeout of a required and of another port, and one core cycle before. -/
theorem test_handshake :
    (let s (x : PortSt) (fs : List (Fld × Nat)) : Block := { inMode 6 fs with img := { active := some {} }, net := { ports := [(3, x)], requests := [{ seq := 4, pkt := ⟨0x20, 0, 7, 3, 4, 0, []⟩ }] } }
     let t (req now : Nat) := at' (s { hsSince := some 0 } [((Reg.TRL_RT_CFG_REQ.bit 3), req)]) now
     every [case (.loffer 3 ⟨0x20, 0, 9, 99, 5, 0, [1]⟩) (s {} []) (fun _ => true) (fun u => (u.port 3).offer == [1] && (u.net.txq.map (fun t => (t.port, t.pkt.type, t.pkt.seq, t.pkt.payload.length))) == [(3, 0x21, 5, 2)]),
       case (.lanswer 3 ⟨0x21, 0, 9, 99, 4, 0, [0, 0]⟩) (s {} []) (fun s => s.outstanding 4 0x20) (fun u => u.f (Reg.TRL_RT_PSTAT_HS 3) == 1 && u.net.requests == []), idle (.lanswer 3 ⟨0x21, 0, 9, 99, 5, 0, [0, 0]⟩) (s {} []),
       case (.lanswer 3 ⟨0x21, 0, 9, 99, 4, 0, [3, 0]⟩) (s {} []) (fun _ => true) (fun u => u.f (Reg.TRL_RT_PSTAT_HS 3) == 2 && u.on (rtEvt 6)),
       case (.handshakeTimeout 3) (t 1 1572864) (fun _ => true) (fun u => u.f (Reg.TRL_RT_PSTAT_HS 3) == 2 && u.on (rtEvt 6) && (u.port 3).hsSince.isNone), case (.handshakeTimeout 3) (t 0 1572864) (fun _ => true) (fun u => u.f (Reg.TRL_RT_PSTAT_HS 3) == 3 && !u.on (rtEvt 6)),
       idle (.handshakeTimeout 3) (t 1 1572863), idle (.handshakeTimeout 0) (t 1 1572864), illFormed (.handshakeTimeout 4)]) = true := by decide +kernel

/-! ### Memory and DMA -/

/-- Channel 15 in a state, its ring of two descriptors at the start of the audio SRAM. -/
def dmaAt (st : Nat) (x : DmaSt) (fs : List (Fld × Nat)) : Block :=
  { inMode 6 ([(Reg.DMA_CH_STAT_STATE 15, st), (Reg.DMA_CH_BASE_BASE 15, sramBase), (Reg.DMA_CH_CFG_COUNTM1 15, 1)] ++ fs) with mem := { dma := [(15, x)] } }

/-- R441, R446: the write-back of a word that waits, with its error and where a write came first; the end of clearing, and one core cycle before. -/
theorem test_scrub :
    (let s : Block := { bare [] with mem := { upsets := [(0x100000, 1), (0x50FFFC, 2)], scrub := [0x100000, 0x50FFFC] } }
     let t (now : Nat) : Block := at' { bare [] with mem := { clearing := some 9 } } now
     every [case (.scrubWriteback 0x100000) s (fun _ => true) (fun u => u.upset 0x100000 == 0 && u.mem.scrub == [0x50FFFC]), case (.scrubWriteback 0x50FFFC) s (fun _ => true) (fun u => u.upset 0x50FFFC == 2 && u.mem.scrub == [0x100000]),
       idle (.scrubWriteback 0x100004) s, case .sramClearDone (t 9) (fun _ => true) (fun u => u.mem.clearing.isNone), idle .sramClearDone (t 8), idle .sramClearDone (bare []),
       illFormed (.scrubWriteback 0x100002), illFormed (.scrubWriteback 0xFFFFC), illFormed (.scrubWriteback 0x510000)]) = true := by decide +kernel

/-- R458 to R460, R464, R467: each request in each state it tells apart; a ring that ends with the SRAM, and one beyond. -/
theorem test_dmaRequests :
    (let base (b : Nat) := dmaAt dmaIdle {} [(Reg.DMA_CH_BASE_BASE 15, b)]
     let s (st : Nat) := dmaAt st { desc := [0, 0, 0, 1], buffer := [(0, [])] } []
     every [case (.dmaGo 15) (base 0x4FFFE0) (fun s => s.coreOn) (fun u => u.dmaState 15 == dmaFetch), case (.dmaGo 15) (base 0x4FFFF0) (fun _ => true) (fun u => u.dmaState 15 == dmaIdle && u.f (Reg.DMA_CH_ERRADDR_ADDR 15) == 0x4FFFF0 && u.f (Reg.DMA_CH_ERRINFO_CAUSE 15) == 1 && u.on (Reg.DMA_EVT_ERR_ERR.bit 15)),
       case (.dmaGo 15) (base 0xFFFF0) (fun _ => true) (fun u => u.dmaState 15 == dmaIdle), case (.dmaGo 15) (s dmaHalt) (fun _ => true) (fun u => u.on (Reg.DMA_CH_STAT_GOPEND 15)),
       idle (.stop 15) (s dmaIdle), case (.stop 15) (s dmaRun) (fun _ => true) (fun u => u.on (Reg.DMA_CH_STAT_STOPREQ 15)), idle (.dmaAbort 15 true) (s dmaIdle), case (.dmaAbort 15 true) (s dmaFetch) (fun _ => true) (fun u => u.dmaState 15 == dmaIdle && u.f (Reg.DMA_CH_STAT_IDX 15) == 0),
       case (.dmaAbort 15 true) (s dmaReadback) (fun _ => true) (fun u => u.on (Reg.DMA_EVT_ERR_LATE.bit 15) && u.dmaState 15 == dmaReadback), case (.dmaAbort 15 false) (s dmaReadback) (fun _ => true) (fun u => u.dmaState 15 == dmaIdle && u.mem.sram.readWord 12 == 0x04000000 && u.f (Reg.DMA_CH_STAT_IDX 15) == 1),
       case (.dmaAbort 15 true) (s dmaHalt) (fun _ => true) (fun u => u.dmaState 15 == dmaIdle), case (.skip 15) (s dmaHalt) (fun _ => true) (fun u => u.dmaState 15 == dmaFetch && u.mem.sram.readWord 12 == 0x03000000), idle (.skip 15) (s dmaRun),
       case (.skip 15) (dmaAt dmaHalt { desc := [0, 0, 0, 0x4001] } [(Reg.DMA_CH_STAT_IDX 15, 1)]) (fun _ => true) (fun u => u.dmaState 15 == dmaIdle && u.f (Reg.DMA_CH_STAT_IDX 15) == 0),
       case (.restart 15) (s dmaHalt) (fun _ => true) (fun u => u.dmaState 15 == dmaFetch), idle (.restart 15) (s dmaReadback), illFormed (.dmaGo 16), illFormed (.stop 16), illFormed (.dmaAbort 16 true), illFormed (.skip 16), illFormed (.restart 16)]) = true := by decide +kernel

/-- R460, R463: a descriptor that is taken, one with LEN 0, one that software owns with and without a pending GO. -/
theorem test_descriptorFetch :
    (let s (len ctl : Nat) (fs : List (Fld × Nat)) : Block := [(0, 0x100100), (4, 0x100200), (8, len), (12, ctl)].foldl (fun s p => s.sramWrite p.1 (BitVec.ofNat 32 p.2)) (dmaAt dmaFetch {} fs)
     let reads (s : Block) : Bool := match s.readDesc 15 with
       | (ws, none, t) => ws.length == 4 && t == s
       | _ => false
     every [case (.descriptorFetch 15) (s 8 1 []) reads (fun u => u.dmaState 15 == dmaRun && (u.dma 15).desc == [0x100100, 0x100200, 8, 1]), case (.descriptorFetch 15) (s 0 1 []) reads (fun u => u.dmaState 15 == dmaIdle && u.f (Reg.DMA_CH_ERRINFO_CAUSE 15) == 8 && u.mem.sram.readWord 12 == 0x02000000 && u.f (Reg.DMA_CH_STAT_IDX 15) == 1),
       case (.descriptorFetch 15) (s 8 0 [(Reg.DMA_CH_STAT_GOPEND 15, 1)]) reads (fun u => u.dmaState 15 == dmaFetch && !u.on (Reg.DMA_CH_STAT_GOPEND 15)), case (.descriptorFetch 15) (s 8 0 []) reads (fun u => u.dmaState 15 == dmaIdle),
       idle (.descriptorFetch 15) (dmaAt dmaHalt {} []), illFormed (.descriptorFetch 16)]) = true := by decide +kernel

/-- R462, R465: the first and the last beat; the read-back that agrees and that does not; out of their states. -/
theorem test_dmaTransfer :
    (let s (len : Word) : Block := (((dmaAt dmaRun { desc := [0x100100, 0x4FFFF8, len, 1] } []).sramWrite 0x100 0x01020304).sramWrite 0x104 0x05060708)
     let r (b : Byte) : Block := (dmaAt dmaReadback { desc := [0x100100, 0x100200, 8, 3], lastBeat := some (4, [0, 0, 0, b]) } []).sramWrite 0x204 7
     every [case (.dmaBeat 15 [] []) (s 16) (fun s => !(s.dma 15).overlaps && s.bst.run.isNone) (fun u => u.dmaState 15 == dmaRun && u.mem.sram.readWord 0x3FFFF8 == 0x01020304 && u.mem.sram.readWord 0x3FFFFC == 0x05060708 && u.f (Reg.DMA_CH_PROG0_XFER 15) == 8),
       case (.dmaBeat 15 [] []) (s 8) (fun _ => true) (fun u => u.dmaState 15 == dmaReadback), idle (.dmaBeat 15 [] []) (dmaAt dmaHalt {} []),
       case (.dmaComplete 15 [] []) (r 7) (fun _ => true) (fun u => u.dmaState 15 == dmaFetch && u.f (Reg.DMA_CH_PROG1_CONF 15) == 8 && u.on (Reg.DMA_EVT_DONE_DONE.bit 15) && u.mem.sram.readWord 12 == 0x01000002 && u.f (Reg.DMA_CH_CNT_DONE 15) == 1),
       case (.dmaComplete 15 [] []) (r 8) (fun _ => true) (fun u => u.dmaState 15 == dmaHalt && u.f (Reg.DMA_CH_ERRINFO_CAUSE 15) == causeVerify && u.f (Reg.DMA_CH_ERRADDR_ADDR 15) == 0x100204), idle (.dmaComplete 15 [] []) (dmaAt dmaRun {} []),
       illFormed (.dmaBeat 16 [] []), illFormed (.dmaComplete 16 [] [])]) = true := by decide +kernel

/-! ### Flash controller and serial ports -/

/-- The controller in a mode. -/
def flash (x : Xspi) (fs : List (Fld × Nat)) : Block := { inMode 6 ([(Reg.XSPI_STAT_MODE_NOW, 1), (Reg.XSPI_POLL_BUSYMASK, 1), (Reg.XSPI_POLL_POLLTO, 1)] ++ fs) with mem := { xspi := x } }

/-- R453 to R456: a page after 64 cycles, a busy and a ready status, the timeout of an indirect command and of a channel's write, each one cycle before too. -/
theorem test_flash :
    (let p (now : Nat) := at' (flash { page := some (0x1000, [7]) } []) now
     let q (ind : Bool) (fs : List (Fld × Nat)) (now : Nat) : Block := at' (flash { poll := some (0, 9, ind), chan := 15 } fs) now
     every [case .pageGap (p 64) (fun _ => true) (fun u => u.mem.xspi.page.isNone && (u.mem.xspi.sent.map (·.2.2)) == [[], [7]] && u.mem.xspi.poll == some (64, 64, false) && u.f Reg.XSPI_WPROG1_STATE == 3), idle .pageGap (p 63), idle .pageGap (flash {} []),
       case (.busyPoll 1) (q false [] 9) (fun _ => true) (fun u => u.mem.xspi.poll == some (0, 1975, false)), case (.busyPoll 2) (q false [] 9) (fun _ => true) (fun u => u.mem.xspi.poll.isNone && u.f Reg.XSPI_WPROG1_PAGES == 1 && u.f Reg.XSPI_WPROG1_STATE == 4), idle (.busyPoll 0) (q false [] 8),
       case (.busyPoll 0) (q true [(Reg.XSPI_STAT_IBUSY, 1)] 9) (fun _ => true) (fun u => !u.on Reg.XSPI_STAT_IBUSY && u.on Reg.XSPI_EVT_IDONE && u.f Reg.XSPI_WPROG1_PAGES == 0),
       case .pollTimeout (q true [(Reg.XSPI_STAT_IBUSY, 1)] 196608) (fun _ => true) (fun u => u.on Reg.XSPI_EVT_PTO && u.on Reg.XSPI_STAT_IERR && !u.on Reg.XSPI_STAT_IBUSY), idle .pollTimeout (q true [] 196607),
       case .pollTimeout (q false [(Reg.DMA_CH_STAT_STATE 15, dmaRun)] 196608) (fun _ => true) (fun u => u.dmaState 15 == dmaHalt && u.f (Reg.DMA_CH_ERRINFO_CAUSE 15) == causeXspi && u.f Reg.XSPI_WPROG1_STATE == 5)]) = true := by decide +kernel

/-- R455, R456: an indirect read goes out, waits behind a DMA access, or finds one under way; its bytes; a poll still to end. -/
theorem test_indirect :
    (let c (fs : List (Fld × Nat)) := flash {} ([(Reg.XSPI_ICMD_OPC, 0x9F), (Reg.XSPI_ICMD_ADDRB, 1), (Reg.XSPI_ICMD_NDATA, 8)] ++ fs)
     every [case .indirectCommand (c []) (fun s => s.coreOn && !s.xspiDma) (fun u => u.on Reg.XSPI_STAT_IBUSY && u.mem.xspi.sent == [(0x9F, 0, [])] && u.f Reg.XSPI_WPROG1_STATE == 2),
       case .indirectCommand { c [] with mem := { xspi := { page := some (0, []) } } } (fun s => s.xspiDma) (fun u => u.on Reg.XSPI_STAT_IBUSY && u.mem.xspi.indirect), idle .indirectCommand (c [(Reg.XSPI_STAT_IBUSY, 1)]),
       case (.indirectDone [1, 2, 3, 4, 5, 6, 7, 8]) { c [(Reg.XSPI_STAT_IBUSY, 1)] with mem := { xspi := { cmd := [(c []).word Reg.XSPI_ICMD] } } } (fun s => s.mem.xspi.icmd Reg.XSPI_ICMD_NDATA == 8) (fun u => u.word (Reg.XSPI_IDATA 0) == 0x01020304 && u.word (Reg.XSPI_IDATA 1) == 0x05060708 && !u.on Reg.XSPI_STAT_IBUSY && u.on Reg.XSPI_EVT_IDONE),
       idle (.indirectDone []) (c []), idle (.indirectDone []) { c [(Reg.XSPI_STAT_IBUSY, 1)] with mem := { xspi := { poll := some (0, 0, true) } } }]) = true := by decide +kernel

/-- Port 3 enabled, synchronous, as a target. -/
def sapped (x : SapSt) (fs : List (Fld × Nat)) : Block := { inMode 6 ([(Reg.SAP_CFG_EN 3, 1), (Reg.SAP_CFG_SYNC 3, 1), (Reg.SAP_CFG_ROLE 3, 0), (Reg.SAP_CFG_WIDTH 3, 3), (Reg.SAP_RXMAP_CODE 3 0, 0x20), (Reg.SAP_CFG_SLOTS 3, 0)] ++ fs) with sap := { ports := [(3, x)] } }

/-- R271 to R273: a frame at 4 ticks and at 5, the fourth bad one, the fifteenth and the sixteenth good one after, an incomplete one, a port not enabled. -/
theorem test_sapFrame :
    (let f (o : Int) (c : Bool) : Instr := .sapFrame 3 ⟨[0x01020300], c, o, 0, 0, 0x10000⟩
     let code (u : Block) := (Tab.get (fun _ => []) (u.sapSt 3).fresh 0x20).map (·.2.isSome)
     every [case (f 4 true) (sapped {} []) (fun _ => true) (fun u => u.on (Reg.SAP_STAT_RUN 3) && u.on (Reg.SAP_STAT_SYNCOK 3) && code u == [true] && u.fInt (Reg.SAP_PHASE_MEAS 3) == 4),
       case (f (-5) true) (sapped { bad := 2 } [(Reg.SAP_STAT_SYNCOK 3, 1)]) (fun _ => true) (fun u => u.on (Reg.SAP_EVT_FSERR 3) && u.on (Reg.SAP_STAT_SYNCOK 3) && (u.sapSt 3).bad == 3 && code u == [false] && u.f (Reg.SAP_CNT_FSERR 3) == 1),
       case (f 5 true) (sapped { bad := 3 } [(Reg.SAP_STAT_SYNCOK 3, 1)]) (fun _ => true) (fun u => !u.on (Reg.SAP_STAT_SYNCOK 3) && u.on (Reg.SAP_EVT_LOST 3)),
       case (f 0 true) (sapped { bad := 4, good := 14 } []) (fun _ => true) (fun u => !u.on (Reg.SAP_STAT_SYNCOK 3) && (u.sapSt 3).good == 15 && code u == [false]),
       case (f 0 true) (sapped { bad := 4, good := 15 } []) (fun _ => true) (fun u => u.on (Reg.SAP_STAT_SYNCOK 3) && u.on (Reg.SAP_EVT_REGAIN 3) && (u.sapSt 3).bad == 0 && code u == [true]),
       case (f 0 false) (sapped {} []) (fun _ => true) (fun u => u.on (Reg.SAP_EVT_PART 3) && u.f (Reg.SAP_CNT_PART 3) == 1 && code u == [false]), idle (f 0 true) (inMode 6 []), illFormed (.sapFrame 4 ⟨[], true, 0, 0, 0, 0⟩)]) = true := by decide +kernel

/-- R274, R281: the tracker acquires, locks at its 1024th edge, starts anew, unlocks beyond 4 ticks and beyond 2000 ppm; the timeout of a port and one core cycle before. -/
theorem test_tracker :
    (let f (e ppm : Int) : Instr := .sapFrame 3 ⟨[], true, 0, e, ppm, 0x20000⟩
     let s (st close : Nat) := sapped { close := close } [(Reg.SAP_CFG_SYNC 3, 0), (Reg.SRC_CFG_EN 15, 1), (Reg.SRC_CFG_SAP 15, 3), (Reg.SRC_TRK_STAT_STATE 3, st)]
     let st (u : Block) := u.f (Reg.SRC_TRK_STAT_STATE 3)
     let o (now : Nat) := at' (sapped { last := some 0 } [(Reg.SAP_CFG_RATE 3, 1), (Reg.SAP_STAT_RUN 3, 1), (Reg.SAP_STAT_SYNCOK 3, 1), (Reg.SRC_TRK_STAT_STATE 3, 2)]) now
     every [case (f 0 0) (s 0 5) (fun s => !(s.srcOf 3).isEmpty) (fun u => st u == 1 && (u.sapSt 3).close == 0 && u.f (Reg.SRC_TRK_PER_PER 3) == 0x20000), case (f 16 0) (s 1 1023) (fun _ => true) (fun u => st u == 2 && u.on (Reg.SRC_GLB_EVT_LOCK.bit 3)),
       case (f 16 0) (s 1 1022) (fun _ => true) (fun u => st u == 1), case (f 17 0) (s 1 1023) (fun _ => true) (fun u => st u == 1 && (u.sapSt 3).close == 0), case (f 64 2000) (s 2 0) (fun _ => true) (fun u => st u == 2 && !u.on (Reg.SRC_TRK_STAT_RANGE 3)),
       case (f (-65) 0) (s 2 0) (fun _ => true) (fun u => st u == 1 && u.on (Reg.SRC_GLB_EVT_UNLOCK.bit 3)), case (f 0 (-2001)) (s 2 0) (fun _ => true) (fun u => st u == 1 && u.on (Reg.SRC_TRK_STAT_RANGE 3)),
       case (.fsTimeout 3) (o (4 * 4096)) (fun s => (4 : Rat) * s.sapPeriod 3 ≤ s.time.now) (fun u => !u.on (Reg.SAP_STAT_RUN 3) && !u.on (Reg.SAP_STAT_SYNCOK 3) && (u.sapSt 3).last.isNone && st u == 1), idle (.fsTimeout 3) (o (4 * 4096 - 1)) (fun s => s.time.now < (4 : Rat) * s.sapPeriod 3), idle (.fsTimeout 0) (o 16384),
       illFormed (.fsTimeout 4)]) = true := by decide +kernel

/-! ### Image -/

/-- R493, R511: a first word, one at an offset that is not next, one with reserved address bits, one without the core clock; R490: a boot word, and a boot read that is tried again. -/
theorem test_imageStream :
    (let s := inMode modePlay []
     let b (x : Load) (fs : List (Fld × Nat)) : Block := { inMode modeLoad fs with img := { load := some x } }
     let r (now : Nat) : Block := at' { inMode modeLoad [] with img := { retryAt := some 9 } } now
     every [case (.imageStream 0 [0x45535049]) s (fun s => s.coreOn && !s.loadActs && !s.host.rstReq) (fun u => u.f Reg.IMG_PROG0_ACCEPTED == 4 && u.on Reg.IMG_STAT_LOADING && u.mem.shadow.readWord 0 == 0x45535049 && u.img.load == some { src := .spi }),
       case (.imageStream 8 [0]) s (fun _ => true) (fun u => u.on Reg.IMG_EVT_OFSERR && u.img.load.isNone), case (.imageStream 0x40000000 [0]) s (fun _ => true) (fun u => u.on Reg.SYS_EVT_RSV && u.host.prevErr),
       case (.imageStream 0 [0]) { inMode modeListen [] with core := false } (fun s => !s.coreOn) (fun u => u.on Reg.SYS_EVT_NOCORE && u.img.load.isNone),
       case (.xspiBootRead [1, 2, 3, 4]) (b { src := .xspi } [(Reg.IMG_PROG0_ACCEPTED, 56)]) (fun _ => true) (fun u => u.f Reg.IMG_PROG0_ACCEPTED == 60 && u.mem.shadow.readWord 56 == 0x01020304), idle (.xspiBootRead [1, 2, 3, 4]) (b { src := .spi } []), idle (.xspiBootRead []) s,
       case .xspiBootRetry (r 9) (fun s => s.base == modeLoad) (fun u => (u.img.load.map (·.src)) == some .xspi && u.img.retryAt.isNone && u.on Reg.XSPI_STAT_BUSY), idle .xspiBootRetry (r 8), idle .xspiBootRetry s, illFormed (.xspiBootRead [1])]) = true := by decide +kernel

/-- R421, R493, R494: an IMG packet at offset 0 with 15 words and with 1, one without words, one at an offset that is not next. -/
theorem test_imagePacket :
    (let s := inMode modePlay [(Reg.TRL_RT_STAT_ADDR, 7), (Reg.TRL_RT_STAT_EPOCH, 3), (Reg.TRL_RT_DEST_VIA 9, 1), (Reg.TRL_RT_DEST_PORT 9, 2)]
     let k (o n : Nat) : Packet := ⟨0x40, 7, 9, 3, 1, 0, beBytes 4 o ++ List.replicate (4 * n) 5⟩
     let begun (n : Nat) (u : Block) : Bool := u.f Reg.IMG_PROG0_ACCEPTED == 4 * n && u.img.load == some { src := .trellis 9 } && u.mem.shadow.readWord (4 * n - 4) == 0x05050505 &&
       u.net.txq == [⟨2, packetClass 0x11, ⟨0x11, 9, 7, 3, 1, 0, []⟩⟩]
     every [case (.img 3 (k 0 15)) s (fun s => (s.storedAnswer (k 0 15)).isNone && !s.loadActs && s.otp.lc != lcScrap && (k 0 15).payload.length == 64) (begun 15), case (.img 3 (k 0 1)) s (fun s => s.routePort 9 == some 2) (begun 1),
       case (.img 3 (k 0 0)) s (fun _ => true) (fun u => u.img.load.isNone && (u.net.txq.map (·.pkt.status)) == [2]),
       case (.img 3 (k 8 1)) s (fun _ => true) (fun u => u.img.load.isNone && u.on Reg.IMG_EVT_OFSERR)]) = true := by decide +kernel

/-- R496, R502: LOAD with no shadow, with one in PLAY and in LOAD, during an admission; DISCARD, in a graft and not; the conditions of the signature check. -/
theorem test_imageRequests :
    (let sh (m : Nat) : Block := { inMode m [] with img := { shadow := some {}, active := if m = modeLoad then none else some {} } }
     let sg : Block := { inMode modePlay [] with img := { load := some { src := .spi, sigAt := some 0 } } }
     every [case .load (inMode modePlay []) (fun s => s.coreOn && !s.imgBusy) (fun u => u.f Reg.IMG_ERR_CODE == 0x44 && u.on Reg.IMG_EVT_ERR),
       case .load (sh modePlay) (fun s => s.loadMoves == 0) (fun u => u.f Reg.IMG_PROG1_STATE == 4 && u.img.admitWait == some .load), case .load (sh modeLoad) (fun s => s.loadMoves == 0) (fun u => u.f Reg.IMG_PROG1_STATE == 5 && u.img.admitWait == some .first),
       case .load { sh modePlay with img := { shadow := some {}, proving := some (.graft, 0) } } (fun _ => true) (fun u => u.f Reg.IMG_ERR_CODE == 0x43), case .load ((sh modeSafe).put Reg.PWR_SAFE_RAILNOW 1) (fun s => s.loadMoves == 2) (fun u => u.f Reg.IMG_ERR_CODE == 0x43),
       case .discard (sh modePlay) (fun s => !s.loadActs) (fun u => u.img.shadow.isNone && u.img.active.isSome && u.f Reg.IMG_PROG1_STATE == 0), idle .discard (grafting 3 []),
       idle .signatureVerified (sh modePlay), idle .signatureVerified { sg with img := { load := some { src := .spi } } }, (sg.img.load.map (·.sigAt.isSome)) == some true]) = true := by decide +kernel

/-- R24, R496: an admission that waits begins with the PLL locked, and not before; with none; the verdict on the empty image, first and by graft. -/
theorem test_admission :
    (let w (pll : Nat) : Block := { inMode modeLoad [(Reg.CLK_STAT_STATE, pll)] with img := { admitWait := some .first, shadow := some {} } }
     every [case .admission (w 2) (fun s => s.planReady s.regs) (fun u => u.img.proving == some (.first, 0) && u.img.admitWait.isNone && u.f Reg.IMG_PROG1_STATE == 4), idle .admission (w 1), idle .admission (inMode modeLoad []), idle .admissionEnd (w 2)]) = true := by decide +kernel

/-- An image that admits: a coast limit and nothing else. -/
def plain : Decoded := { fields := [(Reg.CLK_CFG, BitVec.ofNat 32 (2 ^ Reg.CLK_CFG_COASTLIM.lo))] }

/-- R24, R254, R497: the verdict on that image and on an empty one, of a first load and of a graft; the graft goes on, or ends with its code. -/
theorem test_verdict :
    (let v (k : AdmitFor) (d : Decoded) : Block := { inMode (if k = .first then modeLoad else modePlay) [(Reg.IMG_GRAFT_STAT_PHASE, if k = .graft then 1 else 0)] with
       img := { proving := some (k, 0), shadow := some d, active := if k = .first then none else some d } }
     every [(v .first plain).verdict .first 0 plain == some none, case .admissionEnd (v .graft plain) (fun s => s.verdict .graft 0 plain == some none) (fun u => u.on Reg.IMG_EVT_ADMITOK && u.f Reg.IMG_GRAFT_STAT_PHASE == 2 && u.frozen && u.img.proving.isNone),
       case .admissionEnd (v .graft {}) (fun s => s.verdict .graft 0 {} == some (some (0x28, 0))) (fun u => u.f Reg.IMG_ERR_CODE == 0x28 && u.on Reg.IMG_EVT_ERR && u.f Reg.IMG_GRAFT_STAT_PHASE == 0 && u.f Reg.IMG_PROG1_STATE == 5)]) = true := by decide +kernel

end Sys2Proof.Machine
end

section
/-! SUPPORT. What a sweep over the fields of a register does bit by bit, and the access codes (R8, R10) and retention classes (R11) that follow. -/

namespace Sys2Proof.Machine

/-- Bit `i` of the word lies in the field. -/
def FieldDef.coversBit (f : FieldDef) (i : Nat) : Prop := f.lo ≤ i ∧ i < f.lo + f.width

/-- Two fields share no bit. -/
def FieldDef.apart (f g : FieldDef) : Prop := f.lo + f.width ≤ g.lo ∨ g.lo + g.width ≤ f.lo

theorem FieldDef.not_coversBit_of_apart {f g : FieldDef} {i : Nat} (h : f.apart g) (hf : f.coversBit i) : ¬ g.coversBit i := by
  unfold FieldDef.apart at h
  unfold FieldDef.coversBit at hf ⊢
  omega

/-- The mask of a field holds exactly its bits. -/
theorem FieldDef.mask_getLsbD (f : FieldDef) {i : Nat} (hi : i < 32) : f.mask.getLsbD i = decide (f.lo ≤ i ∧ i < f.lo + f.width) := by
  rw [FieldDef.mask, BitVec.getLsbD_ofNat, Nat.mul_comm, Nat.testBit_two_pow_mul, Nat.testBit_two_pow_sub_one, Bool.eq_iff_iff]
  simp only [Bool.and_eq_true, decide_eq_true_eq, ge_iff_le]
  omega

theorem FieldDef.mask_getLsbD_of_covers {f : FieldDef} {i : Nat} (hi : i < 32) (h : f.coversBit i) : f.mask.getLsbD i = true := by
  rw [f.mask_getLsbD hi]
  exact decide_eq_true h

theorem FieldDef.mask_getLsbD_of_not_covers {f : FieldDef} {i : Nat} (h : ¬ f.coversBit i) : f.mask.getLsbD i = false := by
  by_cases hi : i < 32
  · rw [f.mask_getLsbD hi]
    exact decide_eq_false h
  · exact BitVec.getLsbD_of_ge _ _ (by omega)

/-- A field store bit by bit; bits past the word's end are lost, so the field need not lie within the word. -/
theorem setBits_getLsbD (w : Word) (lo k v : Nat) {i : Nat} (hi : i < 32) :
    (setBits w lo k v).getLsbD i = if lo ≤ i ∧ i < lo + k then v.testBit (i - lo) else w.getLsbD i := by
  have hlow : w.toNat % 2 ^ lo < 2 ^ lo := Nat.mod_lt _ (by positivity)
  have hmid : v % 2 ^ k < 2 ^ k := Nat.mod_lt _ (by positivity)
  have hsum : w.toNat % 2 ^ lo + (v % 2 ^ k) * 2 ^ lo + w.toNat / 2 ^ (lo + k) * 2 ^ (lo + k) =
      2 ^ lo * (2 ^ k * (w.toNat / 2 ^ (lo + k)) + v % 2 ^ k) + w.toNat % 2 ^ lo := by rw [Nat.pow_add]; ring
  rw [setBits, hsum, BitVec.getLsbD_ofNat, decide_eq_true hi, Bool.true_and, Nat.testBit_two_pow_mul_add _ hlow, ← BitVec.testBit_toNat]
  by_cases hlo : i < lo
  · rw [if_pos hlo, if_neg (by omega), Nat.testBit_mod_two_pow, decide_eq_true hlo, Bool.true_and]
  · rw [if_neg hlo, Nat.testBit_two_pow_mul_add _ hmid]
    by_cases hk : i - lo < k
    · rw [if_pos hk, if_pos (by omega), Nat.testBit_mod_two_pow, decide_eq_true hk, Bool.true_and]
    · rw [if_neg hk, if_neg (by omega), Nat.testBit_div_two_pow]
      congr 1
      omega

/-! ## A sweep over fields that share no bit -/

section Sweep

variable {step : Word → FieldDef → Word} {i : Nat}
  (hout : ∀ f w, ¬ f.coversBit i → (step w f).getLsbD i = w.getLsbD i)
include hout

/-- A bit of no field stays. -/
theorem foldl_fields_getLsbD_outside {fs : List FieldDef} (h : ∀ f ∈ fs, ¬ f.coversBit i) (w : Word) :
    (fs.foldl step w).getLsbD i = w.getLsbD i := by
  induction fs generalizing w with
  | nil => rfl
  | cons g fs ih =>
    rw [List.foldl_cons, ih (fun f hf => h f (List.mem_cons_of_mem _ hf)), hout g w (h g List.mem_cons_self)]

/-- A bit of a field is what the step of that field makes of it. -/
theorem foldl_fields_getLsbD {fs : List FieldDef} (hd : fs.Pairwise FieldDef.apart) {f : FieldDef} (hf : f ∈ fs) (hc : f.coversBit i)
    {F : Bool → Bool} (hin : ∀ w, (step w f).getLsbD i = F (w.getLsbD i)) (w : Word) : (fs.foldl step w).getLsbD i = F (w.getLsbD i) := by
  induction fs generalizing w with
  | nil => cases hf
  | cons g fs ih =>
    rw [List.pairwise_cons] at hd
    obtain ⟨hg, hd⟩ := hd
    rw [List.foldl_cons]
    rcases List.mem_cons.1 hf with rfl | hf
    · rw [foldl_fields_getLsbD_outside hout (fun x hx => FieldDef.not_coversBit_of_apart (hg x hx) hc), hin]
    · rw [ih hd hf, hout g w (fun hgc => FieldDef.not_coversBit_of_apart (hg f hf) hgc hc)]

end Sweep

/-! ## Access codes (R8, R10) -/

/-- What a write makes of a bit of a field: the old bit, the written one. -/
def Access.written : Access → Bool → Bool → Bool
  | .rw, _, new => new
  | .wo, _, new => new
  | .w1c, old, new => old && !new
  | _, old, _ => old

theorem Access.written_eq (c : Access) (old new : Bool) :
    c.written old new = if c = .rw ∨ c = .wo then new else if c = .w1c then old && !new else old := by
  cases c <;> rfl

/-- The step of a write at one field. -/
def writeField (w acc : Word) (f : FieldDef) : Word :=
  match f.access with
  | .rw => (acc &&& ~~~f.mask) ||| (w &&& f.mask)
  | .wo => (acc &&& ~~~f.mask) ||| (w &&& f.mask)
  | .w1c => acc &&& ~~~(w &&& f.mask)
  | _ => acc

theorem writeFields_eq_foldl (r : RegDef) (old w : Word) : writeFields r old w = r.fields.foldl (writeField w) old := rfl

theorem writeField_getLsbD_of_not_covers (w acc : Word) {f : FieldDef} {i : Nat} (h : ¬ f.coversBit i) :
    (writeField w acc f).getLsbD i = acc.getLsbD i := by
  have hm := FieldDef.mask_getLsbD_of_not_covers h
  by_cases hi : i < 32
  · unfold writeField
    split <;> simp [-BitVec.getLsbD_eq_getElem, BitVec.getLsbD_or, BitVec.getLsbD_and, BitVec.getLsbD_not, hm, hi]
  · rw [BitVec.getLsbD_of_ge _ _ (by omega), BitVec.getLsbD_of_ge _ _ (by omega)]

theorem writeField_getLsbD_of_covers (w acc : Word) {f : FieldDef} {i : Nat} (hi : i < 32) (h : f.coversBit i) :
    (writeField w acc f).getLsbD i = f.access.written (acc.getLsbD i) (w.getLsbD i) := by
  have hm := FieldDef.mask_getLsbD_of_covers hi h
  unfold writeField
  cases f.access <;>
    simp [-BitVec.getLsbD_eq_getElem, BitVec.getLsbD_or, BitVec.getLsbD_and, BitVec.getLsbD_not, Access.written, hm, hi]

/-- Whether a read shows a field as stored (R8). -/
def Access.shown (c : Access) : Bool := !(c == .wo || c == .w1p)

/-- The step of the read mask at one field. -/
def showField (m : Word) (f : FieldDef) : Word := if f.access == .wo || f.access == .w1p then m else m ||| f.mask

theorem readMask_eq_foldl (r : RegDef) : readMask r = r.fields.foldl showField 0 := rfl

theorem showField_getLsbD_of_not_covers (m : Word) {f : FieldDef} {i : Nat} (h : ¬ f.coversBit i) :
    (showField m f).getLsbD i = m.getLsbD i := by
  unfold showField
  split
  · rfl
  · rw [BitVec.getLsbD_or, FieldDef.mask_getLsbD_of_not_covers h, Bool.or_false]

theorem showField_getLsbD_of_covers (m : Word) {f : FieldDef} {i : Nat} (hi : i < 32) (h : f.coversBit i) :
    (showField m f).getLsbD i = (m.getLsbD i || f.access.shown) := by
  unfold showField Access.shown
  split
  · next hs => rw [hs, Bool.not_true, Bool.or_false]
  · next hs => rw [Bool.eq_false_iff.2 hs, BitVec.getLsbD_or, FieldDef.mask_getLsbD_of_covers hi h, Bool.not_false]

/-- A write of a register, at a bit of one of its fields. -/
theorem writeFields_getLsbD {r : RegDef} (hd : r.fields.Pairwise FieldDef.apart) {f : FieldDef} (hf : f ∈ r.fields) {i : Nat} (hi : i < 32)
    (hc : f.coversBit i) (old w : Word) : (writeFields r old w).getLsbD i = f.access.written (old.getLsbD i) (w.getLsbD i) :=
  foldl_fields_getLsbD (fun _ _ h => writeField_getLsbD_of_not_covers w _ h) hd hf hc (F := fun b => f.access.written b (w.getLsbD i))
    (fun acc => writeField_getLsbD_of_covers w acc hi hc) old

/-- A write of a register leaves a bit of no field. -/
theorem writeFields_getLsbD_outside {r : RegDef} {i : Nat} (h : ∀ f ∈ r.fields, ¬ f.coversBit i) (old w : Word) :
    (writeFields r old w).getLsbD i = old.getLsbD i :=
  foldl_fields_getLsbD_outside (fun _ _ h => writeField_getLsbD_of_not_covers w _ h) h old

theorem readMask_getLsbD {r : RegDef} (hd : r.fields.Pairwise FieldDef.apart) {f : FieldDef} (hf : f ∈ r.fields) {i : Nat} (hi : i < 32)
    (hc : f.coversBit i) : (readMask r).getLsbD i = f.access.shown :=
  (foldl_fields_getLsbD (fun _ m h => showField_getLsbD_of_not_covers m h) hd hf hc (F := fun b => b || f.access.shown)
    (fun m => showField_getLsbD_of_covers m hi hc) 0).trans (by rw [show (0 : Word).getLsbD i = false from BitVec.getLsbD_zero, Bool.false_or])

theorem readMask_getLsbD_outside {r : RegDef} {i : Nat} (h : ∀ f ∈ r.fields, ¬ f.coversBit i) : (readMask r).getLsbD i = false :=
  (foldl_fields_getLsbD_outside (fun _ m h => showField_getLsbD_of_not_covers m h) h 0).trans BitVec.getLsbD_zero

/-- Settles O13: a write and the read mask are sweeps over fields that share no bit, so a bit sees its own field's step alone. -/
theorem accessCodes : Obligations.AccessCodes := by
  intro r old w hd
  refine ⟨fun f hf i hlo hhi hi => ⟨?_, ?_⟩, fun i hno => ⟨writeFields_getLsbD_outside hno old w, ?_⟩⟩
  · rw [writeFields_getLsbD hd hf hi ⟨hlo, hhi⟩, Access.written_eq]
  · rw [BitVec.getLsbD_and, readMask_getLsbD hd hf hi ⟨hlo, hhi⟩]
    cases f.access <;> simp [Access.shown]
  · rw [BitVec.getLsbD_and, readMask_getLsbD_outside hno, Bool.and_false]

/-! ## Retention classes (R11) -/

/-- The step of a reset at one field; `v` is the register's reset word. -/
def keepField (k : ResetKind) (v acc : Word) (f : FieldDef) : Word :=
  if k.clears f.kept then setBits acc f.lo f.width (bitsOf v f.lo f.width) else acc

theorem resetKeep_eq_foldl (k : ResetKind) {a : Nat} {r : RegDef} (h : findReg a = some r) (w : Word) :
    resetKeep k a w = r.fields.foldl (keepField k (resetWord a)) w := by
  simp only [resetKeep, h]
  rfl

theorem keepField_getLsbD_of_not_covers (k : ResetKind) (v acc : Word) {f : FieldDef} {i : Nat} (hi : i < 32) (h : ¬ f.coversBit i) :
    (keepField k v acc f).getLsbD i = acc.getLsbD i := by
  unfold keepField
  split
  · rw [setBits_getLsbD _ _ _ _ hi]
    exact if_neg h
  · rfl

theorem keepField_getLsbD_of_covers (k : ResetKind) (v acc : Word) {f : FieldDef} {i : Nat} (hi : i < 32) (h : f.coversBit i) :
    (keepField k v acc f).getLsbD i = if k.clears f.kept then v.getLsbD i else acc.getLsbD i := by
  unfold keepField
  split
  · obtain ⟨hlo, hhi⟩ := h
    rw [setBits_getLsbD _ _ _ _ hi, if_pos ⟨hlo, hhi⟩, bitsOf_testBit, decide_eq_true (by omega), Bool.true_and, Nat.add_sub_cancel' hlo,
      BitVec.testBit_toNat]
  · rfl

/-- The resets that clear a class (R11). -/
theorem ResetKind.clears_iff (k : ResetKind) (c : Kept) :
    k.clears c = true ↔ (k = .por) ∨ (k = .pin ∧ c ≠ .a) ∨ (k = .graft ∧ (c = .s ∨ c = .v)) ∨ (k = .sync ∧ c = .v) := by
  cases k <;> cases c <;> decide

/-- Settles O16: a reset is a sweep over fields that share no bit, and its step at a field is decided by the field's class. -/
theorem retentionClasses : Obligations.RetentionClasses := by
  intro k a w r hr hd
  rw [resetKeep_eq_foldl k hr]
  refine ⟨fun f hf i hlo hhi hi => ?_, fun i hno hi => ?_⟩
  · rw [foldl_fields_getLsbD (fun g acc h => keepField_getLsbD_of_not_covers k _ acc hi h) hd hf ⟨hlo, hhi⟩
      (F := fun b => if k.clears f.kept then (resetWord a).getLsbD i else b) (fun acc => keepField_getLsbD_of_covers k _ acc hi ⟨hlo, hhi⟩)]
    exact if_congr (k.clears_iff f.kept) rfl rfl
  · exact foldl_fields_getLsbD_outside (fun g acc h => keepField_getLsbD_of_not_covers k _ acc hi h) hno w

end Sys2Proof.Machine
end

section
/-! SUPPORT. The host's transactions over the SPI port (R504 to R512): when a transaction leaves nothing behind at its end, what a single word of a
write or a read does, and the statements on them. -/

namespace Sys2Proof.Machine

/-! ## The two ends of a transaction -/

@[simp] theorem Block.csFall_coreOn (s : Block) : s.csFall.coreOn = s.coreOn := rfl
@[simp] theorem Block.csFall_isLocal (s : Block) (t : Nat) : s.csFall.isLocal t = s.isLocal t := rfl

/-- What a register reads as does not hang on the status byte, ERR or SDO. -/
theorem Block.csFall_regWord (s : Block) (a : Nat) : s.csFall.regWord a = s.regWord a := rfl

theorem Block.csFall_clearRol_word (s : Block) (a b : Nat) : (s.csFall.clearRol a).word b = (s.clearRol a).word b := by
  unfold Block.clearRol
  cases findReg a with
  | none => rfl
  | some r => dsimp only; split <;> rfl

theorem Block.only_csFall (s : Block) : s.only s.csFall [] [.host] := Block.only_modHost (s.only_refl _ _) _ (by simp)

/-- What the statements on transactions assume of a state: the port has power, no reset is requested, and in REST no transaction wakes the device. -/
structure Block.PortReady (s : Block) : Prop where
  notOff : s.base ≠ modeOff
  notDormant : s.base ≠ modeDormant
  noReset : s.host.rstReq = false
  noWake : s.base = modeRest → s.on (Reg.PWR_WAKE_EN_EN.bit 4) = false

/-- Nothing waits for CS_N to rise: no reset, and no wake of a device that sleeps in REST. -/
def Block.riseIdle (s : Block) : Prop :=
  s.host.rstReq = false ∧ (s.base = modeRest → s.pwr.waking = false → s.on (Reg.PWR_WAKE_EN_EN.bit 4) = false)

/-- A wake source that is not enabled wakes nothing. -/
theorem Block.wake_of_disabled (s : Block) (k : Nat) (h : s.on (Reg.PWR_WAKE_EN_EN.bit k) = false) : s.wake k = s := by
  simp [Block.wake, h]

theorem Block.csRise_of_riseIdle {s : Block} (h : s.riseIdle) : s.csRise = s := by
  obtain ⟨hreset, hwake⟩ := h
  have hw : (if s.base = modeRest && !s.pwr.waking then s.wake 4 else s) = s := by
    split
    · next hc =>
      simp only [Bool.and_eq_true, decide_eq_true_eq, Bool.not_eq_true'] at hc
      exact s.wake_of_disabled 4 (hwake hc.1 hc.2)
    · rfl
  rw [Block.csRise, hw, Block.softResetOp, hreset]
  rfl

/-- A transaction that leaves nothing to its end is its own effect after CS_N falls. -/
theorem Block.transact_of {s u : Block} (h : s.PortReady) {g : Block → Block} (he : g s.csFall = u) (hi : u.riseIdle) : s.transact g = u := by
  subst he
  simp [Block.transact, h.notOff, h.notDormant, Block.csRise_of_riseIdle hi]

/-- In REST the core clock runs in a wake alone (R511, R533). -/
theorem Block.waking_of_coreOn {s : Block} (h : s.coreOn = true) (hb : s.base = modeRest) : s.pwr.waking = true := by
  simp only [Block.coreOn, Bool.and_eq_true, Bool.or_eq_true, Bool.not_eq_true', hb] at h
  simpa using h.2

/-- What the end of a transaction looks at, as the transaction left it: the request of a reset, the mode, the wake that runs, and the wake sources, if
the core clock is stopped. -/
theorem Block.PortReady.riseIdle {s u : Block} (h : s.PortReady) (hr : u.host.rstReq = false) (hb : u.base = s.base) (hp : u.pwr = s.pwr)
    (hw : s.coreOn = false → u.word Reg.PWR_WAKE_EN = s.word Reg.PWR_WAKE_EN) : u.riseIdle := by
  refine ⟨hr, fun hrest hwaking => ?_⟩
  rw [hb] at hrest
  cases hc : s.coreOn with
  | true => rw [hp, Block.waking_of_coreOn hc hrest] at hwaking; cases hwaking
  | false =>
    have he : u.on (Reg.PWR_WAKE_EN_EN.bit 4) = s.on (Reg.PWR_WAKE_EN_EN.bit 4) := by
      simp only [Block.on, Block.f]
      rw [show (Reg.PWR_WAKE_EN_EN.bit 4).addr = Reg.PWR_WAKE_EN from rfl, hw hc]
    rw [he, h.noWake hrest]

/-- The base mode stands in the word of PWR_MODE. -/
theorem Block.base_congr {s u : Block} (h : u.word Reg.PWR_MODE = s.word Reg.PWR_MODE) : u.base = s.base := by
  simp only [Block.base, Block.f]
  rw [show Reg.PWR_MODE_BASE.addr = Reg.PWR_MODE from rfl, h]

/-- An effect within a frame that spares the mode, the wake sources and the record of modes leaves nothing to the end of a transaction. -/
theorem Block.PortReady.riseIdle_of_only {s u : Block} (h : s.PortReady) {l : List Fld} {ps : List Part} (hu : s.only u l ps)
    (hm : ∀ x ∈ l, x.addr ≠ Reg.PWR_MODE) (hw : ∀ x ∈ l, x.addr ≠ Reg.PWR_WAKE_EN) (hp : Part.pwr ∉ ps) (hr : u.host.rstReq = false) :
    u.riseIdle :=
  h.riseIdle hr (Block.base_congr (Block.only_word hu hm)) (hu.2 _ hp) (fun _ => Block.only_word hu hw)

/-! ## Errors of the port -/

theorem Block.portErr_on (s : Block) (x : Fld) (h : x.lo + x.width ≤ 32) (hw : 0 < x.width) : (s.portErr x).on x = true :=
  Block.on_raise_self s x h hw

theorem Block.only_csFall_portErr (s : Block) (x : Fld) (h : x.lo + x.width ≤ 32) : s.only (s.csFall.portErr x) [x] [.host] :=
  Block.only_modHost (Block.only_raise (Block.only_mono s.only_csFall (by simp) (by simp)) x h (by simp)) _ (by simp)

@[simp] theorem Block.shiftOut_host (s : Block) (ws : List Word) : (s.shiftOut ws).host = { s.host with sdo := ws } := rfl

theorem Block.only_shiftOut {s u : Block} {l : List Fld} {ps : List Part} (h : s.only u l ps) (ws : List Word) (hp : Part.host ∈ ps) :
    s.only (u.shiftOut ws) l ps := Block.only_modHost h _ hp

/-- An error bit of SYS_EVT leaves nothing to the end of a transaction. -/
theorem Block.PortReady.portErr_riseIdle {s : Block} (h : s.PortReady) (x : Fld) (hx : x.addr = Reg.SYS_EVT) (hw : x.lo + x.width ≤ 32) :
    (s.csFall.portErr x).riseIdle :=
  h.riseIdle_of_only (s.only_csFall_portErr x hw) (by simp [hx, Reg.SYS_EVT, Reg.PWR_MODE]) (by simp [hx, Reg.SYS_EVT, Reg.PWR_WAKE_EN]) (by simp)
    h.noReset

/-! ## Writes of a word (R8, R508) -/

/-- The local address of the first word of a transaction. -/
theorem burstAddr_zero (addr : Word) : burstAddr addr 0 = addr.toNat % 2 ^ 24 / 4 * 4 := by
  unfold burstAddr
  omega

theorem burstAddr_zero_aligned (addr : Word) : burstAddr addr 0 / 4 * 4 = burstAddr addr 0 := by
  rw [burstAddr_zero]
  omega

theorem Block.isLocal_of (s : Block) {t : Nat} (h : t = 0 ∨ t = s.addr) : s.isLocal t = true := by
  simpa [Block.isLocal] using h

theorem Block.writeWord_sram (s : Block) {a : Nat} (w : Word) (ha : a / 4 * 4 = a) (h1 : sramBase ≤ a) (h2 : a < sramBase + sramSize) :
    s.writeWord a w = (s.marchYields (a - sramBase)).sramWrite (a - sramBase) w := by
  simp [Block.writeWord, ha, h1, h2]

theorem Block.writeWord_config (s : Block) {a : Nat} (w : Word) (ha : a / 4 * 4 = a) (h1 : cfgBase ≤ a) (h2 : a < cfgBase + 0x40000) :
    s.writeWord a w = s.raise Reg.MEM_EVT_CFGWR := by
  have hs : ¬ a < sramBase + sramSize := by simp only [cfgBase, sramBase, sramSize] at *; omega
  have hc : ¬ a < coefBase + 0x10000 := by simp only [cfgBase, coefBase] at *; omega
  simp [Block.writeWord, ha, hs, hc, h1, h2]

theorem Block.writeWord_reg (s : Block) {a : Nat} (w : Word) (ha : a / 4 * 4 = a) (h : a < sramBase) : s.writeWord a w = s.regWrite a w := by
  have hs : ¬ sramBase ≤ a := by omega
  have hc : ¬ coefBase ≤ a := by simp only [sramBase, coefBase] at *; omega
  have hf : ¬ cfgBase ≤ a := by simp only [sramBase, cfgBase] at *; omega
  simp [Block.writeWord, ha, hs, hc, hf]

/-- Where no self-test slice runs, an access ends no march (R552). -/
theorem Block.marchYields_of_idle (s : Block) (x : Nat) (h : s.bst.run = none) : s.marchYields x = s := by
  simp [Block.marchYields, h]

/-- A reserved address, or one of an absent block, takes no write (R10, R202). -/
theorem Block.regWrite_reserved (s : Block) {a : Nat} (w : Word) (h : findReg a = none ∨ s.absentAt a = true) : s.regWrite a w = s := by
  unfold Block.regWrite
  rcases h with h | h
  · rw [h]
  · cases findReg a <;> simp [h]

/-- A register whose write is no command of its own takes the word by its access codes (R8). -/
theorem Block.regWrite_plain (s : Block) {a : Nat} (w : Word) {r : RegDef} (hr : findReg a = some r) (hp : s.absentAt a = false)
    (ho : ∀ i j, s.ownWrite r.base i j a w = none) : s.regWrite a w = s.setW a (writeFields r (s.word a) w) := by
  simp [Block.regWrite, Block.plainWrite, hr, hp, ho]

/-- A write leaves a register that has only fields to read. -/
theorem writeFields_of_readOnly {r : RegDef} (h : ∀ f ∈ r.fields, f.access = .ro) (old w : Word) : writeFields r old w = old := by
  unfold writeFields
  generalize r.fields = fs at h
  induction fs with
  | nil => rfl
  | cons f fs ih =>
    rw [List.foldl_cons, h f List.mem_cons_self]
    exact ih (fun g hg => h g (List.mem_cons_of_mem _ hg))

/-- Every field of PWR_MODE is for reading only (R547). -/
theorem pwrMode_readOnly {r : RegDef} (h : findReg Reg.PWR_MODE = some r) : ∀ f ∈ r.fields, f.access = .ro := by
  have hall : (findReg Reg.PWR_MODE).all (fun r => r.fields.all (fun f => f.access == .ro)) = true := by decide
  rw [h] at hall
  simpa using hall

/-- No write changes the base mode, unless by a command of its own. -/
theorem Block.base_setW_writeFields (s : Block) {a : Nat} {r : RegDef} (hr : findReg a = some r) (w : Word) :
    (s.setW a (writeFields r (s.word a) w)).base = s.base := by
  apply Block.base_congr
  by_cases ha : Reg.PWR_MODE = a
  · subst ha
    rw [Block.word_setW_self, writeFields_of_readOnly (pwrMode_readOnly hr)]
  · exact Block.word_setW_other s _ ha

/-! ## SPI_WRITE -/

theorem Block.spiWriteOp_noCore {s : Block} (h : s.PortReady) (addr : Word) (ws : List Word) (hc : s.coreOn = false) :
    s.spiWriteOp addr ws = s.csFall.portErr Reg.SYS_EVT_NOCORE :=
  Block.transact_of h (by simp [hc]) (h.portErr_riseIdle _ rfl (by decide))

theorem Block.spiWriteOp_reserved {s : Block} (h : s.PortReady) {addr : Word} (ws : List Word) (hc : s.coreOn = true) (ha : addr.toNat / 2 ^ 30 ≠ 0) :
    s.spiWriteOp addr ws = s.csFall.portErr Reg.SYS_EVT_RSV :=
  Block.transact_of h (by simp only [Block.csFall_coreOn, hc, bne_iff_ne.2 ha, Bool.not_true, Bool.false_eq_true, if_false, if_true])
    (h.portErr_riseIdle _ rfl (by decide))

theorem Block.writeBurst_one (s : Block) (addr w : Word) (hr : s.host.rstReq = false) (hc : s.coreOn = true) :
    s.writeBurst addr [w] = s.writeWord (burstAddr addr 0) w := by
  simp [Block.writeBurst, hr, hc]

/-- One word to this device is a write of the local map (R507, R508). -/
theorem Block.spiWriteOp_one {s u : Block} (h : s.PortReady) {addr w : Word} (hc : s.coreOn = true) (ha : addr.toNat / 2 ^ 30 = 0)
    (ht : targetOf addr = 0 ∨ targetOf addr = s.addr) (hu : s.csFall.writeWord (burstAddr addr 0) w = u) (hi : u.riseIdle) :
    s.spiWriteOp addr [w] = u := by
  refine Block.transact_of h ?_ hi
  have hw : s.csFall.writeBurst addr [w] = u := (s.csFall.writeBurst_one addr w h.noReset hc).trans hu
  simp only [Block.csFall_coreOn, hc, ha, Block.csFall_isLocal, s.isLocal_of ht]
  simpa using hw

/-- The write of a word of audio SRAM in a bank that has not failed (R440, R443). -/
theorem Block.sramWrite_good (s : Block) {x : Nat} (w : Word) (hx : x / 4 * 4 = x) (hb : s.bankFailed (bankOf x) = false) :
    ∃ ups scrub, s.sramWrite x w = s.modMem (fun m => { m with sram := m.sram.writeWord x w, upsets := ups, scrub := scrub }) := by
  refine ⟨Tab.set (fun _ => 0) s.mem.upsets (sramBase + x) 0, s.mem.scrub.filter (· != sramBase + x), ?_⟩
  simp [Block.sramWrite, hb, hx, Block.modMem]

section WriteClauses

variable {s : Block} (h : s.PortReady) {addr w : Word} (hc : s.coreOn = true) (ha : addr.toNat / 2 ^ 30 = 0)
  (ht : targetOf addr = 0 ∨ targetOf addr = s.addr)
include h hc ha ht

theorem Block.spiWriteOp_sram (h1 : sramBase ≤ burstAddr addr 0) (h2 : burstAddr addr 0 < sramBase + sramSize)
    (hb : s.bankFailed (bankOf (burstAddr addr 0 - sramBase)) = false) (hrun : s.bst.run = none) :
    ∃ ups scrub, s.spiWriteOp addr [w] =
      s.csFall.modMem (fun m => { m with sram := m.sram.writeWord (burstAddr addr 0 - sramBase) w, upsets := ups, scrub := scrub }) := by
  have hal := burstAddr_zero_aligned addr
  have hx : (burstAddr addr 0 - sramBase) / 4 * 4 = burstAddr addr 0 - sramBase := by simp only [sramBase] at *; omega
  obtain ⟨ups, scrub, e⟩ := s.csFall.sramWrite_good w hx hb
  refine ⟨ups, scrub, Block.spiWriteOp_one h hc ha ht ?_ ?_⟩
  · rw [Block.writeWord_sram _ w hal h1 h2, Block.marchYields_of_idle s.csFall _ hrun, e]
  · exact h.riseIdle h.noReset rfl rfl (fun _ => rfl)

theorem Block.spiWriteOp_config (h1 : cfgBase ≤ burstAddr addr 0) (h2 : burstAddr addr 0 < cfgBase + 0x40000) :
    s.spiWriteOp addr [w] = s.csFall.raise Reg.MEM_EVT_CFGWR :=
  Block.spiWriteOp_one h hc ha ht (Block.writeWord_config _ w (burstAddr_zero_aligned addr) h1 h2)
    (h.riseIdle_of_only (Block.only_raise (Block.only_mono s.only_csFall (List.nil_subset [Reg.MEM_EVT_CFGWR]) (List.Subset.refl _)) _ (by decide) (by simp))
      (by decide) (by decide) (by decide) h.noReset)

theorem Block.spiWriteOp_reg {u : Block} (hreg : burstAddr addr 0 < sramBase) (hu : s.csFall.regWrite (burstAddr addr 0) w = u) (hi : u.riseIdle) :
    s.spiWriteOp addr [w] = u :=
  Block.spiWriteOp_one h hc ha ht ((Block.writeWord_reg _ w (burstAddr_zero_aligned addr) hreg).trans hu) hi

end WriteClauses

/-- Settles O11: the transaction is its effect after CS_N falls, since nothing waits for CS_N to rise, and one word is one write of the local map. -/
theorem writeTransactions : Obligations.WriteTransactions := by
  intro s addr ws hoff hdorm hreset hwake h
  have hs : s.PortReady := ⟨hoff, hdorm, hreset, hwake⟩
  refine gives_of_act (g := fun b => b.spiWriteOp addr ws) rfl rfl ⟨fun hc => ?_, fun hc ha => ?_, ?_⟩
  · rw [Block.spiWriteOp_noCore hs addr ws hc]
    exact ⟨Block.portErr_on _ _ (by decide) (by decide), rfl, s.only_csFall_portErr _ (by decide)⟩
  · rw [Block.spiWriteOp_reserved hs ws hc ha]
    exact ⟨Block.portErr_on _ _ (by decide) (by decide), rfl, s.only_csFall_portErr _ (by decide)⟩
  · rintro hc ha ht w rfl a ha'
    rw [← burstAddr_zero] at ha'
    subst ha'
    refine ⟨fun h1 h2 hb hrun => ?_, fun h1 h2 => ?_, fun hreg hres => ?_, fun hreg r hr hp ho => ?_⟩
    · obtain ⟨ups, scrub, e⟩ := Block.spiWriteOp_sram hs (w := w) hc ha ht h1 h2 hb hrun
      rw [e]
      exact ⟨Memory.readWord_writeWord_self _ _ w, fun x hx => Memory.read_writeWord_other _ w hx, rfl, rfl, rfl, rfl,
        Block.only_mem (Block.only_mono s.only_csFall (by simp) (by simp)) _ (by simp)⟩
    · rw [Block.spiWriteOp_config hs hc ha ht h1 h2]
      exact ⟨Block.on_raise_self _ _ (by decide) (by decide), rfl,
        Block.only_raise (Block.only_mono s.only_csFall (by simp) (by simp)) _ (by decide) (by simp)⟩
    · rw [Block.spiWriteOp_reg hs hc ha ht hreg (Block.regWrite_reserved _ w hres) (hs.riseIdle hs.noReset rfl rfl (fun _ => rfl))]
      exact ⟨rfl, s.only_csFall⟩
    · rw [Block.spiWriteOp_reg hs hc ha ht hreg (Block.regWrite_plain _ w hr hp ho)
        (hs.riseIdle hs.noReset (Block.base_setW_writeFields s.csFall hr w) rfl (by simp [hc]))]
      exact ⟨Block.word_setW_self _ _ _, rfl, Block.only_setW (Block.only_mono s.only_csFall (by simp) (by simp)) _ _ (by simp)⟩

/-! ## Reads of a word (R509, R561) -/

theorem Block.readWord_ledger (s : Block) {a : Nat} (ha : a / 4 * 4 = a) (h : 0x800 ≤ a ∧ a < 0xA00) : s.readWord a = s.readLedger (a - 0x800) := by
  simp only [Block.readWord, ha, Bool.and_eq_true, decide_eq_true_eq, if_pos h]

/-- A word of the ledger window; word 7 read marks its entry read. -/
theorem Block.readLedger_entry (s : Block) {off e w : Nat} (he : off / 32 = e) (hw : off % 32 / 4 = w) :
    s.readLedger off =
      (s.ledgerWord e w, if w = 7 then s.setEntry e ((s.ledgerEntry e).map (fun x => { x with read := true })) else s) := by
  simp only [Block.readLedger, he, hw]

theorem Block.readWord_reg (s : Block) {a : Nat} (ha : a / 4 * 4 = a) (h : a < sramBase) (hl : a < 0x800 ∨ 0xA00 ≤ a) :
    s.readWord a = (s.regWord a, s.clearRol a) := by
  have hl : ¬ (0x800 ≤ a ∧ a < 0xA00) := by omega
  have hs : ¬ sramBase ≤ a := by omega
  have hc : ¬ coefBase ≤ a := by simp only [sramBase, coefBase] at *; omega
  have hf : ¬ cfgBase ≤ a := by simp only [sramBase, cfgBase] at *; omega
  simp only [Block.readWord, ha, Bool.and_eq_true, decide_eq_true_eq, hl, hs, hc, hf, false_and, if_false]

/-- A word of a bank that has not failed, with no error, reads as stored (R440 to R443). -/
theorem Block.sramRead_good (s : Block) {x : Nat} (reader : Nat) (snap : List Word) (hx : x / 4 * 4 = x) (hb : s.bankFailed (bankOf x) = false)
    (hu : s.upset (sramBase + x) = 0) : s.sramRead x reader snap = (s.mem.sram.readWord x, 0, s) := by
  simp only [Block.sramRead, hb, Bool.false_eq_true, if_false, hx, hu]

theorem Block.readWord_eq_readSram (s : Block) {a : Nat} (ha : a / 4 * 4 = a) (h1 : sramBase ≤ a) (h2 : a < sramBase + sramSize) :
    s.readWord a = s.readSram (a - sramBase) := by
  have hl : ¬ (0x800 ≤ a ∧ a < 0xA00) := by simp only [sramBase] at *; omega
  simp only [Block.readWord, ha, Bool.and_eq_true, decide_eq_true_eq, if_neg hl, if_pos (And.intro h1 h2)]

/-- With no march under way besides, the read changes nothing. -/
theorem Block.readWord_sram (s : Block) {a : Nat} (ha : a / 4 * 4 = a) (h1 : sramBase ≤ a) (h2 : a < sramBase + sramSize)
    (hb : s.bankFailed (bankOf (a - sramBase)) = false) (hrun : s.bst.run = none) (hu : s.upset a = 0) :
    s.readWord a = (s.mem.sram.readWord (a - sramBase), s) := by
  have hx : (a - sramBase) / 4 * 4 = a - sramBase := by simp only [sramBase] at *; omega
  have hxa : s.upset (sramBase + (a - sramBase)) = 0 := by rw [Nat.add_sub_cancel' h1, hu]
  rw [s.readWord_eq_readSram ha h1 h2, Block.readSram, s.marchYields_of_idle _ hrun, s.sramRead_good 2 [] hx hb hxa]

theorem Block.only_clearRol (s : Block) (a : Nat) : s.only (s.clearRol a) [Fld.all a] [] := by
  unfold Block.clearRol
  cases findReg a with
  | none => exact s.only_refl _ _
  | some r =>
    dsimp only
    split
    · exact Block.only_setW (s.only_refl _ _) a _ (by simp)
    · exact s.only_refl _ _

/-- A read of a register without read-to-clear fields changes nothing (R8). -/
theorem Block.clearRol_of_no_rol (s : Block) {a : Nat} (h : ∀ r, findReg a = some r → r.fields.any (fun f => f.access == .rol) = false) :
    s.clearRol a = s := by
  unfold Block.clearRol
  cases hr : findReg a with
  | none => rfl
  | some r => simp only [h r hr, Bool.false_eq_true, if_false]

/-- No read changes the base mode. -/
theorem Block.base_clearRol (s : Block) (a : Nat) : (s.clearRol a).base = s.base := by
  by_cases ha : a = Reg.PWR_MODE
  · rw [s.clearRol_of_no_rol]
    subst ha
    intro r hr
    rw [List.any_eq_false]
    intro f hf
    simp [pwrMode_readOnly hr f hf]
  · exact Block.base_congr (Block.only_word (s.only_clearRol a) (by simpa [Fld.all] using ha))

/-! ## SPI_READ -/

theorem Block.fetchWord_noCore (s : Block) {a : Nat} (late : Bool) (hc : s.coreOn = false) (ha : aonServes a = false) :
    s.fetchWord a late = (0, s.portErr Reg.SYS_EVT_NOCORE) := by
  simp [Block.fetchWord, hc, ha]

theorem Block.fetchWord_late (s : Block) (a : Nat) (hc : s.coreOn = true) : s.fetchWord a true = (0, s.portErr Reg.SYS_EVT_LATE) := by
  simp [Block.fetchWord, hc]

theorem Block.fetchWord_served (s : Block) {a : Nat} (h : s.coreOn = true ∨ aonServes a = true) : s.fetchWord a false = s.readWord a := by
  rcases h with h | h <;> simp [Block.fetchWord, h]

theorem Block.spiReadOp_reserved {s : Block} (h : s.PortReady) {addr : Word} (count : Nat) (late : List Nat) (hc : s.coreOn = true)
    (ha : addr.toNat / 2 ^ 30 ≠ 0) : s.spiReadOp addr count late [] = s.csFall.portErr Reg.SYS_EVT_RSV :=
  Block.transact_of h (by simp only [Block.takeUpsets, Block.forAll_nil, Block.csFall_coreOn, hc, bne_iff_ne.2 ha, if_true])
    (h.portErr_riseIdle _ rfl (by decide))

/-- One word of this device is a read of the local map, shifted out (R507, R509). -/
theorem Block.spiReadOp_one {s u : Block} (h : s.PortReady) {addr w : Word} {late : List Nat} (ha : addr.toNat / 2 ^ 30 = 0)
    (ht : targetOf addr = 0 ∨ targetOf addr = s.addr) (hu : s.csFall.fetchWord (burstAddr addr 0) (late.contains 0) = (w, u))
    (hi : u.riseIdle) : s.spiReadOp addr 1 late [] = u.shiftOut [w] := by
  refine Block.transact_of h ?_ hi
  have hw : s.csFall.readBurst addr 1 late = ([w], u) := by
    rw [Block.readBurst, List.range_one, List.foldl_cons, List.foldl_nil, hu]
    rfl
  simp only [Block.takeUpsets, Block.forAll_nil, ha, Block.csFall_isLocal, s.isLocal_of ht, hw]
  simp

section ReadClauses

variable {s : Block} (h : s.PortReady) {addr : Word} (ha : addr.toNat / 2 ^ 30 = 0) (ht : targetOf addr = 0 ∨ targetOf addr = s.addr)
include h ha ht

/-- A read that is served gives what the local map gives. -/
theorem Block.spiReadOp_served {u : Block} {w : Word} (hs : s.coreOn = true ∨ aonServes (burstAddr addr 0) = true)
    (hu : s.csFall.readWord (burstAddr addr 0) = (w, u)) (hi : u.riseIdle) : s.spiReadOp addr 1 [] [] = u.shiftOut [w] :=
  Block.spiReadOp_one h ha ht ((s.csFall.fetchWord_served hs).trans hu) hi

theorem Block.spiReadOp_noCore (late : List Nat) (hc : s.coreOn = false) (hs : aonServes (burstAddr addr 0) = false) :
    s.spiReadOp addr 1 late [] = (s.csFall.portErr Reg.SYS_EVT_NOCORE).shiftOut [0] :=
  Block.spiReadOp_one h ha ht (s.csFall.fetchWord_noCore _ hc hs) (h.portErr_riseIdle _ rfl (by decide))

theorem Block.spiReadOp_late (hc : s.coreOn = true) : s.spiReadOp addr 1 [0] [] = (s.csFall.portErr Reg.SYS_EVT_LATE).shiftOut [0] :=
  Block.spiReadOp_one h ha ht (s.csFall.fetchWord_late _ hc) (h.portErr_riseIdle _ rfl (by decide))

/-- A register's word goes out as it reads, and its read-to-clear fields clear. -/
theorem Block.spiReadOp_reg (hs : s.coreOn = true ∨ aonServes (burstAddr addr 0) = true) (hreg : burstAddr addr 0 < sramBase)
    (hl : burstAddr addr 0 < 0x800 ∨ 0xA00 ≤ burstAddr addr 0) (hwake : s.coreOn = false → burstAddr addr 0 ≠ Reg.PWR_WAKE_EN) :
    s.spiReadOp addr 1 [] [] = (s.csFall.clearRol (burstAddr addr 0)).shiftOut [s.regWord (burstAddr addr 0)] := by
  have hf := s.csFall.only_clearRol (burstAddr addr 0)
  have hhost : (s.csFall.clearRol (burstAddr addr 0)).host = s.csFall.host := hf.2 .host (by simp)
  refine Block.spiReadOp_served h ha ht hs ((s.csFall.readWord_reg (burstAddr_zero_aligned addr) hreg hl).trans (by rw [Block.csFall_regWord])) ?_
  refine h.riseIdle (by rw [hhost]; exact h.noReset) (s.csFall.base_clearRol _) (hf.2 .pwr (by simp)) (fun hc => ?_)
  exact Block.only_word hf (by simpa [Fld.all] using hwake hc)

/-- A word of the ledger window is served with and without the core clock (R511). -/
theorem Block.spiReadOp_ledger {e w : Nat} (he : e < 16) (hw : w < 8) (hb : burstAddr addr 0 = 0x800 + 32 * e + 4 * w) :
    s.spiReadOp addr 1 [] [] =
      (if w = 7 then s.csFall.setEntry e ((s.ledgerEntry e).map (fun x => { x with read := true })) else s.csFall).shiftOut [s.ledgerWord e w] := by
  have hin : 0x800 ≤ burstAddr addr 0 ∧ burstAddr addr 0 < 0xA00 := by omega
  have hserved : aonServes (burstAddr addr 0) = true := by simp [aonServes, hin]
  have hread := (s.csFall.readWord_ledger (burstAddr_zero_aligned addr) hin).trans
    (s.csFall.readLedger_entry (e := e) (w := w) (by omega) (by omega))
  refine Block.spiReadOp_served h ha ht (Or.inr hserved) hread ?_
  split
  · exact h.riseIdle h.noReset rfl rfl (fun _ => rfl)
  · exact h.riseIdle h.noReset rfl rfl (fun _ => rfl)

theorem Block.spiReadOp_sram (hc : s.coreOn = true) (h1 : sramBase ≤ burstAddr addr 0) (h2 : burstAddr addr 0 < sramBase + sramSize)
    (hb : s.bankFailed (bankOf (burstAddr addr 0 - sramBase)) = false) (hrun : s.bst.run = none) (hu : s.upset (burstAddr addr 0) = 0) :
    s.spiReadOp addr 1 [] [] = s.csFall.shiftOut [s.mem.sram.readWord (burstAddr addr 0 - sramBase)] :=
  Block.spiReadOp_served h ha ht (Or.inl hc) (s.csFall.readWord_sram (burstAddr_zero_aligned addr) h1 h2 hb hrun hu)
    (h.riseIdle h.noReset rfl rfl (fun _ => rfl))

end ReadClauses

theorem Block.regWord_reserved (s : Block) {a : Nat} (h : findReg a = none) : s.regWord a = 0 := by
  simp only [Block.regWord, h]

/-- The row of SYS_SCRATCH in the register table (R523). -/
def scratchReg : RegDef := ⟨"SYS_SCRATCH", Reg.SYS_SCRATCH, [], [⟨"DATA", 0, 32, .rw, 0, .a, false⟩]⟩

theorem findReg_scratch : findReg Reg.SYS_SCRATCH = some scratchReg := by decide

/-- No field of SYS_SCRATCH is cleared by a read. -/
theorem Block.clearRol_scratch (s : Block) : s.clearRol Reg.SYS_SCRATCH = s := by
  refine s.clearRol_of_no_rol (fun r hr => ?_)
  rw [findReg_scratch] at hr
  cases hr
  rfl

/-- SYS_SCRATCH reads as stored (R523). -/
theorem Block.regWord_scratch (s : Block) : s.regWord Reg.SYS_SCRATCH = s.word Reg.SYS_SCRATCH := by
  have hmask : readMask scratchReg = BitVec.allOnes 32 := by decide
  rw [Block.regWord, findReg_scratch]
  show (if s.absentAt Reg.SYS_SCRATCH then 0 else s.view scratchReg _ _ (s.word Reg.SYS_SCRATCH &&& readMask scratchReg)) = _
  rw [hmask, BitVec.and_allOnes]
  rfl

theorem Block.ledgerEntry_setEntry_self (s : Block) (e : Nat) (x : Option LedgerEntry) : (s.setEntry e x).ledgerEntry e = x := Tab.get_set_self ..

theorem Block.ledgerEntry_setEntry_other (s : Block) {e k : Nat} (x : Option LedgerEntry) (h : k ≠ e) :
    (s.setEntry e x).ledgerEntry k = s.ledgerEntry k := Tab.get_set_other _ _ _ h

/-- Settles O12: the transaction is its effect after CS_N falls, since nothing waits for CS_N to rise, and one word is one read of the local map,
shifted out. -/
theorem readTransactions : Obligations.ReadTransactions := by
  intro s addr late hoff hdorm hreset hwake h
  have hs : s.PortReady := ⟨hoff, hdorm, hreset, hwake⟩
  refine gives_of_act (g := fun b => b.spiReadOp addr 1 late []) rfl rfl ⟨fun hc ha => ?_, fun ha ht a haddr => ?_⟩
  · rw [Block.spiReadOp_reserved hs 1 late hc ha]
    exact ⟨Block.portErr_on _ _ (by decide) (by decide), rfl, s.only_csFall_portErr _ (by decide)⟩
  · rw [← burstAddr_zero] at haddr
    subst haddr
    refine ⟨fun hc hserved => ?_, fun hc hlate hscratch => ?_, fun hc hlate => ?_, fun hc hlate hreg hl => ?_, fun hlate e w he hw hb => ?_,
      fun hc hlate h1 h2 hb hrun hu => ?_⟩
    · rw [Block.spiReadOp_noCore hs ha ht late hc hserved]
      exact ⟨Block.portErr_on _ _ (by decide) (by decide), rfl, Block.only_shiftOut (s.only_csFall_portErr _ (by decide)) _ (by simp)⟩
    · subst hlate
      rw [Block.spiReadOp_reg hs ha ht (Or.inr (by rw [hscratch]; rfl)) (by rw [hscratch]; decide) (Or.inl (by rw [hscratch]; decide))
        (fun _ => by rw [hscratch]; decide), hscratch, Block.clearRol_scratch, Block.regWord_scratch]
      exact ⟨rfl, Block.only_shiftOut s.only_csFall _ (by simp)⟩
    · subst hlate
      rw [Block.spiReadOp_late hs ha ht hc]
      exact ⟨Block.portErr_on _ _ (by decide) (by decide), rfl, Block.only_shiftOut (s.only_csFall_portErr _ (by decide)) _ (by simp)⟩
    · subst hlate
      rw [Block.spiReadOp_reg hs ha ht (Or.inl hc) hreg hl (by simp [hc])]
      have hclear : s.only (s.csFall.clearRol (burstAddr addr 0)) [Fld.all (burstAddr addr 0)] [.host] :=
        Block.only_trans (Block.only_mono s.only_csFall (by simp) (by simp)) (Block.only_mono (s.csFall.only_clearRol _) (by simp) (by simp))
      refine ⟨?_, s.csFall_clearRol_word _ _, Block.only_shiftOut hclear _ (by simp), fun hnone => ⟨s.regWord_reserved hnone, ?_⟩⟩
      · rw [Block.shiftOut_host, (s.csFall.only_clearRol _).2 .host (by simp)]
        rfl
      · rw [s.csFall.clearRol_of_no_rol (fun r hr => by rw [hnone] at hr; cases hr)]
        exact Block.only_shiftOut s.only_csFall _ (by simp)
    · subst hlate
      rw [Block.spiReadOp_ledger hs ha ht he hw hb]
      by_cases h7 : w = 7
      · rw [if_pos h7]
        have honly : s.only (s.csFall.setEntry e ((s.ledgerEntry e).map (fun x => { x with read := true }))) [] [.host, .ledger] :=
          Block.only_ledger (Block.only_mono s.only_csFall (by simp) (by simp)) _ (by simp)
        exact ⟨rfl, fun hn => absurd h7 hn, fun _ => ⟨Block.only_shiftOut honly _ (by simp), s.csFall.ledgerEntry_setEntry_self e _,
          fun k hk => s.csFall.ledgerEntry_setEntry_other _ hk⟩⟩
      · rw [if_neg h7]
        exact ⟨rfl, fun _ => Block.only_shiftOut s.only_csFall _ (by simp), fun hw7 => absurd hw7 h7⟩
    · subst hlate
      rw [Block.spiReadOp_sram hs ha ht hc h1 h2 hb hrun hu]
      exact ⟨rfl, Block.only_shiftOut s.only_csFall _ (by simp)⟩

end Sys2Proof.Machine
end

section
/-! SUPPORT. Frames: what an operation leaves alone, as one equation between the parts of two blocks that a frame looks at, and the stores, records and
registers that stay out of its sight. -/

namespace Sys2Proof.Machine

/-- Which parts of a block a frame looks at. -/
structure Aspects where
  /-- system and power registers, the record of modes -/
  power : Bool
  /-- image registers, the loader's record, the halves of configuration memory -/
  image : Bool
  /-- host port, core, Direct, clocks, network, record of modes, Listen path, OTP -/
  still : Bool
  /-- cells, chains, graph, serial ports, speakers and their state, levels of the outputs -/
  units : Bool

/-- System and power registers but for those of the Listen path. -/
def powerReg (a : Nat) : Bool := decide (a < 0x800) || (decide (0x1000 ≤ a) && decide (a < 0x1050))

/-- Image registers. -/
def imageReg (a : Nat) : Bool := decide (0x4000 ≤ a) && decide (a < 0x5000)

/-- The state registers of the two speaker channels. -/
def speakerReg (a : Nat) : Bool := a == Reg.SPK_STAT 0 || a == Reg.SPK_STAT 1

/-- Whether the frame looks at a register. -/
def Aspects.sees (k : Aspects) (a : Nat) : Bool := (k.power && powerReg a) || (k.image && imageReg a) || (k.units && speakerReg a)

/-- The frame does not look at the field's register. -/
def Fld.unseen (x : Fld) (k : Aspects) : Prop := k.sees x.addr = false

/-- What the frame sees of a block. -/
structure Outer where
  regs : Tab Word
  time : Time
  pwr : Option Pwr
  image : Option (Img × Memory × Memory)
  still : Option (HostSt × Bool × Direct × Clk × Net × Listen × Otp)
  units : Option (Cells × Chains × Graph × Serial × Spk × (Nat → Nat × Int × Bool))

/-- Weight, its change, and release, of every output. -/
def levels (outs : Tab OutSt) (o : Nat) : Nat × Int × Bool :=
  ((Tab.get (fun _ => {}) outs o).w0, (Tab.get (fun _ => {}) outs o).slope, (Tab.get (fun _ => {}) outs o).released)

/-- A value that is looked at only where the flag is set. -/
def shown {α : Type} (b : Bool) (x : α) : Option α := if b then some x else none

/-- The block as the frame sees it: two blocks with the same outer part agree on every aspect that the frame looks at. -/
def Block.outer (s : Block) (k : Aspects) : Outer :=
  { regs := s.regs.filter (fun p => k.sees p.1)
    time := s.time
    pwr := shown (k.power || k.still) s.pwr
    image := shown k.image (s.img, s.mem.active, s.mem.shadow)
    still := shown k.still (s.host, s.core, s.dir, s.clk, s.net, s.lsn, s.otp)
    units := shown k.units (s.cells, s.chains, s.graph, s.sap, s.spk, levels s.ports.outs) }

/-! ## Stores -/

theorem Tab.filter_insert {α : Type} (q : Nat → Bool) (a : Nat) (v : α) (t : Tab α) (h : q a = false) :
    (Tab.insert a v t).filter (fun p => q p.1) = t.filter (fun p => q p.1) := by
  induction t with
  | nil => simp [Tab.insert, h]
  | cons p t ih =>
    unfold Tab.insert
    split
    · simp [h]
    · simp [List.filter_cons, ih]

theorem Tab.filter_erase {α : Type} (q : Nat → Bool) (a : Nat) (t : Tab α) (h : q a = false) :
    (t.erase a).filter (fun p => q p.1) = t.filter (fun p => q p.1) := by
  rw [Tab.erase, List.filter_filter]
  refine List.filter_congr (fun p _ => ?_)
  by_cases hp : p.1 = a <;> simp [hp, h]

theorem Tab.filter_set {α : Type} [DecidableEq α] (d : Nat → α) (q : Nat → Bool) (a : Nat) (v : α) (t : Tab α) (h : q a = false) :
    (Tab.set d t a v).filter (fun p => q p.1) = t.filter (fun p => q p.1) := by
  unfold Tab.set
  split
  · exact Tab.filter_erase q a t h
  · rw [Tab.filter_insert q a v _ h, Tab.filter_erase q a t h]

variable (s : Block) (k : Aspects)

@[simp] theorem Block.outer_setW (a : Nat) (w : Word) (h : k.sees a = false) : (s.setW a w).outer k = s.outer k := by
  simp only [Block.outer, Block.setW, Tab.filter_set resetWord k.sees a w s.regs h]

@[simp] theorem Block.outer_put (x : Fld) (v : Nat) (h : x.unseen k) : (s.put x v).outer k = s.outer k := s.outer_setW k _ _ h
@[simp] theorem Block.outer_putB (x : Fld) (v : Bool) (h : x.unseen k) : (s.putB x v).outer k = s.outer k := s.outer_setW k _ _ h
@[simp] theorem Block.outer_putInt (x : Fld) (v : Int) (h : x.unseen k) : (s.putInt x v).outer k = s.outer k := s.outer_setW k _ _ h
@[simp] theorem Block.outer_raise (x : Fld) (h : x.unseen k) : (s.raise x).outer k = s.outer k := s.outer_setW k _ _ h
@[simp] theorem Block.outer_bumpWrap (x : Fld) (h : x.unseen k) : (s.bumpWrap x).outer k = s.outer k := s.outer_setW k _ _ h
@[simp] theorem Block.outer_bump (x : Fld) (h : x.unseen k) : (s.bump x).outer k = s.outer k := by
  unfold Block.bump
  split
  · exact s.outer_put k x _ h
  · rfl

@[simp] theorem Block.outer_ite (c : Prop) [Decidable c] (t : Block) : (if c then s else t).outer k = if c then s.outer k else t.outer k :=
  apply_ite (·.outer k) c s t

@[simp] theorem Block.outer_onlyIf (c : Bool) (g : Block → Block) (h : (g s).outer k = s.outer k) : (s.onlyIf c g).outer k = s.outer k := by
  cases c
  · rfl
  · exact h

@[simp] theorem Block.outer_forAll {α : Type} (l : List α) (g : α → Block → Block) (h : ∀ a t, (g a t).outer k = t.outer k) :
    (s.forAll l g).outer k = s.outer k := Block.forAll_keeps (·.outer k) l g h s

@[simp] theorem Block.outer_ledger (x : Ledger) : ({ s with ledger := x } : Block).outer k = s.outer k := (rfl)
@[simp] theorem Block.outer_ports (x : Ports) (h : x.outs = s.ports.outs) : ({ s with ports := x } : Block).outer k = s.outer k := by
  simp only [Block.outer, h]
@[simp] theorem Block.outer_csc (x : Csc) : ({ s with csc := x } : Block).outer k = s.outer k := (rfl)
@[simp] theorem Block.outer_bst (x : Bst) : ({ s with bst := x } : Block).outer k = s.outer k := (rfl)
@[simp] theorem Block.outer_modBst (g : Bst → Bst) : (s.modBst g).outer k = s.outer k := (rfl)
@[simp] theorem Block.outer_modOut (n : Nat) (g : OutSt → OutSt)
    (h : ∀ x, (g x).w0 = x.w0 ∧ (g x).slope = x.slope ∧ (g x).released = x.released) : (s.modOut n g).outer k = s.outer k := by
  have hl : levels (s.modOut n g).ports.outs = levels s.ports.outs := by
    funext o
    by_cases ho : o = n
    · subst ho
      simp [levels, Block.modOut, Tab.get_upd, h]
    · simp [levels, Block.modOut, Tab.get_upd, ho]
  simp only [Block.outer, hl]
  rfl
@[simp] theorem Block.outer_modIn (n : Nat) (g : InSt → InSt) : (s.modIn n g).outer k = s.outer k := (rfl)
@[simp] theorem Block.outer_modBias (n : Nat) (g : BiasSt → BiasSt) : (s.modBias n g).outer k = s.outer k := (rfl)
@[simp] theorem Block.outer_setEntry (n : Nat) (x : Option LedgerEntry) : (s.setEntry n x).outer k = s.outer k := (rfl)
@[simp] theorem Block.outer_used : s.used.outer k = s.outer k := (rfl)

@[simp] theorem Block.outer_modMem_coef (g : Mem → Mem) (h : ∀ m, (g m).active = m.active ∧ (g m).shadow = m.shadow) :
    (s.modMem g).outer k = s.outer k := by
  simp only [Block.outer, Block.modMem, h]

@[simp] theorem Block.outer_modUnit (u : Nat) (g : CscUnit → CscUnit) : (s.modUnit u g).outer k = s.outer k := (rfl)
@[simp] theorem Block.outer_modTmr (t : Nat) (g : CscTimer → CscTimer) : (s.modTmr t g).outer k = s.outer k := (rfl)
@[simp] theorem Block.outer_modJack (n : Nat) (g : JackSt → JackSt) : (s.modJack n g).outer k = s.outer k := (rfl)

/-! ## Registers out of sight -/

/-- A register above the image's is seen only as a speaker's state. -/
theorem Aspects.sees_of_high {a : Nat} (h : 0x5000 ≤ a) (h0 : a ≠ Reg.SPK_STAT 0) (h1 : a ≠ Reg.SPK_STAT 1) : k.sees a = false := by
  have hp : powerReg a = false := by simp [powerReg]; omega
  have hi : imageReg a = false := by simp [imageReg]; omega
  simp [Aspects.sees, hp, hi, speakerReg, h0, h1]

@[simp] theorem Fld.unseen_bit (x : Fld) (n : Nat) : (x.bit n).unseen k ↔ x.unseen k := Iff.rfl

variable (p i r u : Bool)

theorem Fld.unseen_above {x : Fld} (h : 0x5000 ≤ x.addr) : x.unseen ⟨p, i, r, false⟩ := by
  have hp : powerReg x.addr = false := by simp [powerReg]; omega
  have hi : imageReg x.addr = false := by simp [imageReg]; omega
  simp [Fld.unseen, Aspects.sees, hp, hi]

theorem Fld.unseen_between {x : Fld} (h1 : 0x1050 ≤ x.addr) (h2 : x.addr < 0x4000) : x.unseen ⟨p, i, r, false⟩ := by
  have hp : powerReg x.addr = false := by simp [powerReg]; omega
  have hi : imageReg x.addr = false := by simp [imageReg]; omega
  simp [Fld.unseen, Aspects.sees, hp, hi]

theorem Fld.unseen_without_image {x : Fld} (h : imageReg x.addr = true) : x.unseen ⟨p, false, r, u⟩ := by
  have hp : powerReg x.addr = false := by simp [imageReg] at h; simp [powerReg]; omega
  have hs : speakerReg x.addr = false := by simp [imageReg] at h; simp [speakerReg, Reg.SPK_STAT]; omega
  simp [Fld.unseen, Aspects.sees, hp, hs]

theorem Fld.unseen_without_power {x : Fld} (hi : imageReg x.addr = false) (hs : speakerReg x.addr = false) : x.unseen ⟨false, i, r, u⟩ := by
  simp [Fld.unseen, Aspects.sees, hi, hs]

theorem Fld.unseen_apart {x : Fld} (h : (powerReg x.addr || imageReg x.addr || speakerReg x.addr) = false) : x.unseen k := by
  simp only [Bool.or_eq_false_iff] at h
  simp [Fld.unseen, Aspects.sees, h]

@[simp] theorem Fld.unseen_cell_array :
    (∀ n, (Reg.CELL_CFG_ROLE n).unseen ⟨p, i, r, false⟩) ∧ (∀ n, (Reg.CELL_CFG_SLOT n).unseen ⟨p, i, r, false⟩) ∧
    (∀ n, (Reg.CELL_GRP_CNT_FAIL n).unseen ⟨p, i, r, false⟩) ∧ (∀ n, (Reg.CELL_GRP_CNT_INC n).unseen ⟨p, i, r, false⟩) ∧
    (∀ n, (Reg.CELL_GRP_CNT_PASS n).unseen ⟨p, i, r, false⟩) ∧ (∀ n, (Reg.CELL_GRP_EVT_DEGR n).unseen ⟨p, i, r, false⟩) ∧
    (∀ n, (Reg.CELL_GRP_EVT_SLFAIL n).unseen ⟨p, i, r, false⟩) ∧ (∀ n, (Reg.CELL_GRP_EVT_SLINC n).unseen ⟨p, i, r, false⟩) ∧
    (∀ n, (Reg.CELL_GRP_EVT_SLPASS n).unseen ⟨p, i, r, false⟩) ∧ (∀ n, (Reg.CELL_GRP_STAT_CALV n).unseen ⟨p, i, r, false⟩) ∧
    (∀ n, (Reg.CELL_GRP_STAT_DEGRADED n).unseen ⟨p, i, r, false⟩) ∧ (∀ n, (Reg.CELL_GRP_STAT_HOLDZ n).unseen ⟨p, i, r, false⟩) ∧
    (∀ n, (Reg.CELL_GRP_STAT_NEXT n).unseen ⟨p, i, r, false⟩) ∧ (∀ n, (Reg.CELL_GRP_STAT_NO_ROT n).unseen ⟨p, i, r, false⟩) ∧
    (∀ n, (Reg.CELL_GRP_STAT_SPARE n).unseen ⟨p, i, r, false⟩) ∧ (∀ n, (Reg.CELL_SKEW_SKEW n).unseen ⟨p, i, r, false⟩) ∧
    (∀ n, (Reg.CELL_SLICE_DONE n).unseen ⟨p, i, r, false⟩) ∧ (∀ n, (Reg.CELL_SLICE_PHASE n).unseen ⟨p, i, r, false⟩) ∧
    (∀ n, (Reg.CELL_STAT_LAST n).unseen ⟨p, i, r, false⟩) := by
  and_intros <;> exact fun _ => Fld.unseen_above p i r (Nat.le_add_right_of_le (by decide))

@[simp] theorem Fld.unseen_bist_array :
    (∀ n, (Reg.BST_FAILCNT_FAIL n).unseen ⟨p, i, r, false⟩) ∧ (∀ n, (Reg.BST_FAILCNT_INC n).unseen ⟨p, i, r, false⟩) := by
  and_intros <;> exact fun _ => Fld.unseen_above p i r (Nat.le_add_right_of_le (by decide))

@[simp] theorem Fld.unseen_port_array :
    (∀ n, (Reg.UAP_CAL_GAIN_GAIN n).unseen ⟨p, i, r, false⟩) ∧ (∀ n, (Reg.UAP_EVT_GOVR n).unseen ⟨p, i, r, false⟩) ∧
    (∀ n, (Reg.UAP_EVT_GTO n).unseen ⟨p, i, r, false⟩) ∧ (∀ n, (Reg.UAP_IN_GAIN_COMP n).unseen ⟨p, i, r, false⟩) ∧
    (∀ n, (Reg.UAP_IN_GAIN_CUR n).unseen ⟨p, i, r, false⟩) ∧ (∀ n, (Reg.UAP_IN_GAIN_PEND n).unseen ⟨p, i, r, false⟩) ∧
    (∀ n, (Reg.UAP_IN_GAIN_TARGET n).unseen ⟨p, i, r, false⟩) ∧ (∀ n, (Reg.UAP_OUT_CTRL_RANGE n).unseen ⟨p, i, r, false⟩) ∧
    (∀ n, (Reg.UAP_STAT_CLOCHED n).unseen ⟨p, i, r, false⟩) ∧ (∀ n, (Reg.UAP_STAT_RANGE_NOW n).unseen ⟨p, i, r, false⟩) ∧
    (∀ n, (Reg.UAP_STAT_RNGBUSY n).unseen ⟨p, i, r, false⟩) ∧ (∀ n, (Reg.UAP_STAT_RNGPEND n).unseen ⟨p, i, r, false⟩) := by
  and_intros <;> exact fun _ => Fld.unseen_above p i r (Nat.le_add_right_of_le (by decide))

@[simp] theorem Fld.unseen_bias_array :
    (∀ n, (Reg.MB_CFG_EN n).unseen ⟨p, i, r, false⟩) ∧ (∀ n, (Reg.MB_CFG_MAP n).unseen ⟨p, i, r, false⟩) ∧
    (∀ n, (Reg.MB_CFG_VSET n).unseen ⟨p, i, r, false⟩) ∧ (∀ n, (Reg.MB_STAT_CUT n).unseen ⟨p, i, r, false⟩) ∧
    (∀ n, (Reg.MB_STAT_ILIM n).unseen ⟨p, i, r, false⟩) := by
  and_intros <;> exact fun _ => Fld.unseen_above p i r (Nat.le_add_right_of_le (by decide))

@[simp] theorem Fld.unseen_jack_array :
    ∀ n, (Reg.JACK_STAT_STATE n).unseen ⟨p, i, r, false⟩ := 
  fun _ => Fld.unseen_above p i r (Nat.le_add_right_of_le (by decide))

@[simp] theorem Fld.unseen_speaker_array :
    ∀ n, (Reg.SPK_STAT_STATE n).unseen ⟨p, i, r, false⟩ := 
  fun _ => Fld.unseen_above p i r (Nat.le_add_right_of_le (by decide))

@[simp] theorem Fld.unseen_chain_array :
    (∀ n, (Reg.CHAIN_DDLY_DLY n).unseen ⟨p, i, r, false⟩) ∧ (∀ n, (Reg.CHAIN_DEVT_SHIFT n).unseen ⟨p, i, r, false⟩) ∧
    (∀ n, (Reg.CHAIN_DSHIFT_SHIFT n).unseen ⟨p, i, r, false⟩) ∧ (∀ n, (Reg.CHAIN_DSTAT_LEFT n).unseen ⟨p, i, r, false⟩) ∧
    (∀ n, (Reg.CHAIN_DSTAT_OFS n).unseen ⟨p, i, r, false⟩) ∧ (∀ n, (Reg.CHAIN_DSTAT_UNSET n).unseen ⟨p, i, r, false⟩) ∧
    (∀ n, (Reg.CHAIN_IDLY_DLY n).unseen ⟨p, i, r, false⟩) ∧ (∀ n, (Reg.CHAIN_IEVT_SHIFT n).unseen ⟨p, i, r, false⟩) ∧
    (∀ n, (Reg.CHAIN_ISHIFT_SHIFT n).unseen ⟨p, i, r, false⟩) ∧ (∀ n, (Reg.CHAIN_ISTAT_LEFT n).unseen ⟨p, i, r, false⟩) ∧
    (∀ n, (Reg.CHAIN_ISTAT_UNSET n).unseen ⟨p, i, r, false⟩) := by
  and_intros <;> exact fun _ => Fld.unseen_above p i r (Nat.le_add_right_of_le (by decide))

@[simp] theorem Fld.unseen_direct_array :
    (∀ n, (Reg.DIR_OSTAT_BQPEND n).unseen ⟨p, i, r, false⟩) ∧ (∀ n, (Reg.DIR_OSTAT_BQSET n).unseen ⟨p, i, r, false⟩) ∧
    (∀ n, (Reg.DIR_OSTAT_BQXF n).unseen ⟨p, i, r, false⟩) ∧ (∀ n, (Reg.DIR_OSTAT_RSCARF n).unseen ⟨p, i, r, false⟩) := by
  and_intros <;> exact fun _ => Fld.unseen_above p i r (Nat.le_add_right_of_le (by decide))

@[simp] theorem Fld.unseen_converter_array :
    (∀ n, (Reg.SRC_CFG_DIR n).unseen ⟨p, i, r, false⟩) ∧ (∀ n, (Reg.SRC_CFG_SAP n).unseen ⟨p, i, r, false⟩) ∧
    (∀ n, (Reg.SRC_CFG_SLOT n).unseen ⟨p, i, r, false⟩) ∧ (∀ n, (Reg.SRC_CFG_STAGES n).unseen ⟨p, i, r, false⟩) ∧
    (∀ n, (Reg.SRC_DLY_D n).unseen ⟨p, i, r, false⟩) ∧ (∀ n, (Reg.SRC_STAT_LOCK n).unseen ⟨p, i, r, false⟩) ∧
    (∀ n, (Reg.SRC_STAT_MUTE n).unseen ⟨p, i, r, false⟩) ∧ (∀ n, (Reg.SRC_STAT_RAMP n).unseen ⟨p, i, r, false⟩) ∧
    (∀ n, (Reg.SRC_TRK_STAT_STATE n).unseen ⟨p, i, r, false⟩) := by
  and_intros <;> exact fun _ => Fld.unseen_above p i r (Nat.le_add_right_of_le (by decide))

@[simp] theorem Fld.unseen_serial_array :
    (∀ n, (Reg.SAP_STAT_RUN n).unseen ⟨p, i, r, false⟩) ∧ (∀ n, (Reg.SAP_STAT_SYNCOK n).unseen ⟨p, i, r, false⟩) := by
  and_intros <;> exact fun _ => Fld.unseen_above p i r (Nat.le_add_right_of_le (by decide))

@[simp] theorem Fld.unseen_graph_array :
    (∀ n, (Reg.GRF_BLK_CFG_SLOTS n).unseen ⟨p, i, r, false⟩) ∧ (∀ n, (Reg.GRF_BLK_PROG_ACTIVE n).unseen ⟨p, i, r, false⟩) ∧
    (∀ n, (Reg.GRF_BLK_PROG_DONE n).unseen ⟨p, i, r, false⟩) ∧ (∀ n, (Reg.GRF_BLK_PROG_KIND n).unseen ⟨p, i, r, false⟩) ∧
    (∀ n, (Reg.GRF_BLK_PROG_LEN n).unseen ⟨p, i, r, false⟩) ∧ (∀ n, (Reg.GRF_DRET_NXP n).unseen ⟨p, i, r, false⟩) ∧
    (∀ n, (Reg.GRF_RING_RD_RD n).unseen ⟨p, i, r, false⟩) ∧ (∀ n, (Reg.GRF_RING_WR_WR n).unseen ⟨p, i, r, false⟩) ∧
    (∀ n, (Reg.GRF_SEL_CUR n).unseen ⟨p, i, r, false⟩) := by
  and_intros <;> exact fun _ => Fld.unseen_above p i r (Nat.le_add_right_of_le (by decide))

@[simp] theorem Fld.unseen_convolver_array :
    ∀ n, (Reg.CNV_STAT_ACTIVE n).unseen ⟨p, i, r, false⟩ := 
  fun _ => Fld.unseen_above p i r (Nat.le_add_right_of_le (by decide))

@[simp] theorem Fld.unseen_link_array :
    (∀ n, (Reg.TRL_BIN_ACT n).unseen ⟨p, i, r, false⟩) ∧ (∀ n, (Reg.TRL_BIN_PGOOD n).unseen ⟨p, i, r, false⟩) ∧
    (∀ n, (Reg.TRL_LIN_ACT n).unseen ⟨p, i, r, false⟩) ∧ (∀ n, (Reg.TRL_LIN_EQ n).unseen ⟨p, i, r, false⟩) ∧
    (∀ n, (Reg.TRL_LIN_PGOOD n).unseen ⟨p, i, r, false⟩) ∧ (∀ n, (Reg.TRL_LSTAT_LIVE n).unseen ⟨p, i, r, false⟩) ∧
    (∀ n, (Reg.TRL_LSTAT_STATE n).unseen ⟨p, i, r, false⟩) ∧ (∀ n, (Reg.TRL_RT_PSTAT_HS n).unseen ⟨p, i, r, false⟩) := by
  and_intros <;> exact fun _ => Fld.unseen_above p i r (Nat.le_add_right_of_le (by decide))

@[simp] theorem Fld.unseen_single :
    Reg.CELL_GLB_STAT_BUSY.unseen ⟨p, i, r, false⟩ ∧ Reg.CLOCHE_STAT_SHUT.unseen ⟨p, i, r, false⟩ ∧ Reg.CLOCHE_STAT_TALK.unseen ⟨p, i, r, false⟩ ∧
    Reg.HP_STAT_CPOK.unseen ⟨p, i, r, false⟩ ∧ Reg.HP_STAT_REL.unseen ⟨p, i, r, false⟩ ∧ Reg.CHAIN_GLB_CFG_FG.unseen ⟨p, i, r, false⟩ ∧
    Reg.DIR_EVT_BQDONE.unseen ⟨p, i, r, false⟩ ∧ Reg.DIR_EVT_GOVR.unseen ⟨p, i, r, false⟩ ∧ Reg.GRF_BUDGET_BASE.unseen ⟨p, i, r, false⟩ ∧
    Reg.GRF_BUDGET_RES.unseen ⟨p, i, r, false⟩ ∧ Reg.GRF_EVT_SELDONE.unseen ⟨p, i, r, false⟩ ∧ Reg.GRF_EVT_XFREF.unseen ⟨p, i, r, false⟩ ∧
    Reg.GRF_LIMIT_FREE.unseen ⟨p, i, r, false⟩ ∧ Reg.GRF_LIMIT_LIMIT.unseen ⟨p, i, r, false⟩ ∧ Reg.GRF_SCARF_EVT_BDONE.unseen ⟨p, i, r, false⟩ ∧
    Reg.GRF_SCARF_EVT_DROP.unseen ⟨p, i, r, false⟩ ∧ Reg.GRF_SCARF_EVT_OVR.unseen ⟨p, i, r, false⟩ ∧
    Reg.GRF_SCARF_STAT_FREEZE.unseen ⟨p, i, r, false⟩ ∧ Reg.EFX_EVT_CNVDONE.unseen ⟨p, i, r, false⟩ ∧ Reg.CSC_REF_AUTO.unseen ⟨p, i, r, false⟩ ∧
    Reg.CSC_STAT_RUNA.unseen ⟨p, i, r, false⟩ ∧ Reg.CSC_STAT_RUNB.unseen ⟨p, i, r, false⟩ ∧ Reg.CSC_STAT_RUNI.unseen ⟨p, i, r, false⟩ ∧
    Reg.TRL_GLB_STAT_GRIDOK.unseen ⟨p, i, r, false⟩ ∧ Reg.TRL_RA_PROG_DST.unseen ⟨p, i, r, false⟩ ∧ Reg.TRL_RA_PROG_OUT.unseen ⟨p, i, r, false⟩ ∧
    Reg.TRL_RA_PROG_SEQTX.unseen ⟨p, i, r, false⟩ ∧ Reg.TRL_RA_PROG_STATE.unseen ⟨p, i, r, false⟩ ∧ Reg.TRL_RT_EVT_EVT.unseen ⟨p, i, r, false⟩ ∧
    Reg.MEM_BANK_STAT_FAILED.unseen ⟨p, i, r, false⟩ ∧ Reg.HP_CTRL_RANGE.unseen ⟨p, i, r, false⟩ ∧ Reg.HP_STAT_RANGE_NOW.unseen ⟨p, i, r, false⟩ := by
  and_intros <;> exact Fld.unseen_above p i r (by decide)

@[simp] theorem Fld.unseen_clock :
    Reg.CLK_EVT_NOREF.unseen ⟨p, i, r, false⟩ ∧ Reg.CLK_STAT_CPEND.unseen ⟨p, i, r, false⟩ ∧ Reg.CLK_STAT_LLOCK.unseen ⟨p, i, r, false⟩ ∧
    Reg.CLK_STAT_PORT.unseen ⟨p, i, r, false⟩ ∧ Reg.CLK_STAT_REF.unseen ⟨p, i, r, false⟩ ∧ Reg.CLK_STAT_RING.unseen ⟨p, i, r, false⟩ ∧
    Reg.CLK_STAT_STATE.unseen ⟨p, i, r, false⟩ ∧ Reg.CLK_STAT_XTOK.unseen ⟨p, i, r, false⟩ := by
  and_intros <;> exact Fld.unseen_between p i r (by decide) (by decide)

@[simp] theorem Fld.unseen_gain : ∀ o n, (Reg.DIR_XP_GAIN o n).unseen ⟨p, i, r, false⟩ :=
  fun _ _ => Fld.unseen_above p i r (Nat.le_add_right_of_le (Nat.le_add_right_of_le (by decide)))

@[simp] theorem Fld.unseen_image :
    Reg.IMG_ERRDET_DETAIL.unseen ⟨p, false, r, u⟩ ∧ Reg.IMG_ERR_CODE.unseen ⟨p, false, r, u⟩ ∧ Reg.IMG_ERR_SECT.unseen ⟨p, false, r, u⟩ ∧
    Reg.IMG_EVT_ACTIVE.unseen ⟨p, false, r, u⟩ ∧ Reg.IMG_EVT_ERR.unseen ⟨p, false, r, u⟩ ∧ Reg.IMG_EVT_GRAFTEND.unseen ⟨p, false, r, u⟩ ∧
    Reg.IMG_EVT_LATPUB.unseen ⟨p, false, r, u⟩ ∧ Reg.IMG_GRAFT_STAT_PHASE.unseen ⟨p, false, r, u⟩ ∧ Reg.IMG_PROG1_STATE.unseen ⟨p, false, r, u⟩ ∧
    Reg.IMG_SRC_ACT.unseen ⟨p, false, r, u⟩ ∧ Reg.IMG_STAT_ENC.unseen ⟨p, false, r, u⟩ ∧ Reg.IMG_STAT_GEN.unseen ⟨p, false, r, u⟩ ∧
    Reg.IMG_STAT_SIGNED.unseen ⟨p, false, r, u⟩ ∧ Reg.IMG_STAT_SVALID.unseen ⟨p, false, r, u⟩ := by
  and_intros <;> exact Fld.unseen_without_image p r u (by decide)

@[simp] theorem Fld.unseen_power :
    Reg.PWR_MODE_BASE.unseen ⟨false, i, r, u⟩ ∧ Reg.PWR_MODE_TARGET.unseen ⟨false, i, r, u⟩ ∧ Reg.PWR_MODE_TRANS.unseen ⟨false, i, r, u⟩ ∧
    Reg.PWR_EVT_MODE.unseen ⟨false, i, r, u⟩ := by
  and_intros <;> exact Fld.unseen_without_power i r u (by decide) (by decide)

@[simp] theorem Fld.unseen_anyhow :
    Reg.FLT_EVT_NEW.unseen k ∧ Reg.FLT_EVT_LOST.unseen k ∧ Reg.FLT_STAT_LOST.unseen k ∧ Reg.FLT_STAT_NEWEST.unseen k ∧ Reg.FLT_STAT_COUNT.unseen k ∧
    Reg.BST_EVT_FAIL.unseen k ∧ Reg.BST_PROG1_APPLIED.unseen k ∧ Reg.BST_PROG_DONE.unseen k ∧ Reg.BST_PROG_LAST.unseen k ∧
    Reg.BST_STAT_BUSY.unseen k ∧ Reg.CSC_REF_RDY.unseen k := by
  and_intros <;> exact Fld.unseen_apart k (by decide)

@[simp] theorem Fld.unseen_anyhow_array :
    (∀ n, (Reg.UAP_STAT_CM n).unseen k) ∧ (∀ n, (Reg.UAP_EVT_BIASZ n).unseen k) := by
  refine ⟨fun n => k.sees_of_high ?_ ?_ ?_, fun n => k.sees_of_high ?_ ?_ ?_⟩ <;>
    simp only [Reg.UAP_STAT_CM, Reg.UAP_STAT, Reg.UAP_EVT_BIASZ, Reg.UAP_EVT, Reg.SPK_STAT] <;> omega

@[simp] theorem Fld.unseen_rangeReq (o : Nat) : (rangeReq o).unseen ⟨p, i, r, false⟩ := by
  unfold rangeReq
  split <;> simp

@[simp] theorem Fld.unseen_rangeNow (o : Nat) : (rangeNow o).unseen ⟨p, i, r, false⟩ := by
  unfold rangeNow
  split <;> simp

@[simp] theorem Fld.unseen_chain (c : ChainId) :
    (chainShift c).unseen ⟨p, i, r, false⟩ ∧ (chainLeft c).unseen ⟨p, i, r, false⟩ ∧ (chainUnset c).unseen ⟨p, i, r, false⟩ ∧
    (chainShiftEvt c).unseen ⟨p, i, r, false⟩ := by
  cases c <;> simp [chainShift, chainLeft, chainUnset, chainShiftEvt, chainFld]

/-! ## Records out of sight -/

@[simp] theorem Block.outer_portsRecord (x : Ports) : ({ s with ports := x } : Block).outer ⟨p, i, r, false⟩ = s.outer ⟨p, i, r, false⟩ := (rfl)
@[simp] theorem Block.outer_outRecord (n : Nat) (g : OutSt → OutSt) : (s.modOut n g).outer ⟨p, i, r, false⟩ = s.outer ⟨p, i, r, false⟩ := (rfl)
@[simp] theorem Block.outer_modCell (n : Nat) (g : CellSt → CellSt) : (s.modCell n g).outer ⟨p, i, r, false⟩ = s.outer ⟨p, i, r, false⟩ := (rfl)
@[simp] theorem Block.outer_modGrp (n : Nat) (g : GroupSt → GroupSt) : (s.modGrp n g).outer ⟨p, i, r, false⟩ = s.outer ⟨p, i, r, false⟩ := (rfl)
@[simp] theorem Block.outer_modSpk (n : Nat) (g : SpkSt → SpkSt) : (s.modSpk n g).outer ⟨p, i, r, false⟩ = s.outer ⟨p, i, r, false⟩ := (rfl)
@[simp] theorem Block.outer_modChain (c : ChainId) (g : ChainSt → ChainSt) : (s.modChain c g).outer ⟨p, i, r, false⟩ = s.outer ⟨p, i, r, false⟩ := (rfl)
@[simp] theorem Block.outer_modGraph (g : Graph → Graph) : (s.modGraph g).outer ⟨p, i, r, false⟩ = s.outer ⟨p, i, r, false⟩ := (rfl)
@[simp] theorem Block.outer_modBlk (n : Nat) (g : BlkSt → BlkSt) : (s.modBlk n g).outer ⟨p, i, r, false⟩ = s.outer ⟨p, i, r, false⟩ := (rfl)
@[simp] theorem Block.outer_modSel (n : Nat) (g : SelSt → SelSt) : (s.modSel n g).outer ⟨p, i, r, false⟩ = s.outer ⟨p, i, r, false⟩ := (rfl)
@[simp] theorem Block.outer_modSap (n : Nat) (g : SapSt → SapSt) : (s.modSap n g).outer ⟨p, i, r, false⟩ = s.outer ⟨p, i, r, false⟩ := (rfl)
@[simp] theorem Block.outer_modSrc (n : Nat) (g : SrcSt → SrcSt) : (s.modSrc n g).outer ⟨p, i, r, false⟩ = s.outer ⟨p, i, r, false⟩ := (rfl)
@[simp] theorem Block.outer_cells (x : Cells) : ({ s with cells := x } : Block).outer ⟨p, i, r, false⟩ = s.outer ⟨p, i, r, false⟩ := (rfl)
@[simp] theorem Block.outer_graph (x : Graph) : ({ s with graph := x } : Block).outer ⟨p, i, r, false⟩ = s.outer ⟨p, i, r, false⟩ := (rfl)
@[simp] theorem Block.outer_modDout (n : Nat) (g : DirOut → DirOut) : (s.modDout n g).outer ⟨p, i, false, false⟩ = s.outer ⟨p, i, false, false⟩ := (rfl)
@[simp] theorem Block.outer_modXp (n m : Nat) (g : XpSt → XpSt) : (s.modXp n m g).outer ⟨p, i, false, false⟩ = s.outer ⟨p, i, false, false⟩ := (rfl)
@[simp] theorem Block.outer_modPort (n : Nat) (g : PortSt → PortSt) : (s.modPort n g).outer ⟨p, i, false, false⟩ = s.outer ⟨p, i, false, false⟩ := (rfl)
@[simp] theorem Block.outer_modProt (n : Nat) (g : ProtSt → ProtSt) : (s.modProt n g).outer ⟨p, i, false, false⟩ = s.outer ⟨p, i, false, false⟩ := (rfl)
@[simp] theorem Block.outer_modNet (g : Net → Net) : (s.modNet g).outer ⟨p, i, false, false⟩ = s.outer ⟨p, i, false, false⟩ := (rfl)
@[simp] theorem Block.outer_modClk (g : Clk → Clk) : (s.modClk g).outer ⟨p, i, false, false⟩ = s.outer ⟨p, i, false, false⟩ := (rfl)
@[simp] theorem Block.outer_latOwed : (s.latOwed).outer ⟨p, i, false, false⟩ = s.outer ⟨p, i, false, false⟩ := (rfl)
@[simp] theorem Block.outer_sendOn (n : Nat) (x : Packet) : (s.sendOn n x).outer ⟨p, i, false, false⟩ = s.outer ⟨p, i, false, false⟩ := (rfl)
@[simp] theorem Block.outer_dir (x : Direct) : ({ s with dir := x } : Block).outer ⟨p, i, false, false⟩ = s.outer ⟨p, i, false, false⟩ := (rfl)
@[simp] theorem Block.outer_net (x : Net) : ({ s with net := x } : Block).outer ⟨p, i, false, false⟩ = s.outer ⟨p, i, false, false⟩ := (rfl)
@[simp] theorem Block.outer_modImg (g : Img → Img) : (s.modImg g).outer ⟨p, false, r, u⟩ = s.outer ⟨p, false, r, u⟩ := (rfl)
@[simp] theorem Block.outer_modGraft (g : Graft → Graft) : (s.modGraft g).outer ⟨p, false, r, u⟩ = s.outer ⟨p, false, r, u⟩ := (rfl)
@[simp] theorem Block.outer_modPwr (g : Pwr → Pwr) : (s.modPwr g).outer ⟨false, i, false, u⟩ = s.outer ⟨false, i, false, u⟩ := (rfl)

@[simp] theorem Block.outer_spk_csc (x : Spk) (y : Csc) :
    ({ s with spk := x, csc := y } : Block).outer ⟨p, i, r, false⟩ = s.outer ⟨p, i, r, false⟩ := (rfl)
@[simp] theorem Block.outer_ports_sap (x : Ports) (y : Serial) :
    ({ s with ports := x, sap := y } : Block).outer ⟨p, i, r, false⟩ = s.outer ⟨p, i, r, false⟩ := (rfl)
@[simp] theorem Block.outer_chains_sap (x : Chains) (y : Serial) :
    ({ s with chains := x, sap := y } : Block).outer ⟨p, i, r, false⟩ = s.outer ⟨p, i, r, false⟩ := (rfl)

/-- The halves of configuration memory and the loader's record are the image aspect. -/
theorem Block.outer_memory_image (x : Mem) (y : Img) :
    ({ s with mem := x, img := y } : Block).outer ⟨p, false, r, u⟩ = s.outer ⟨p, false, r, u⟩ := (rfl)

@[simp] theorem Aspects.sees_version :
    (⟨p, false, r, u⟩ : Aspects).sees Reg.IMG_VER = false ∧ (⟨p, false, r, u⟩ : Aspects).sees Reg.IMG_BUILD_HI = false ∧
    (⟨p, false, r, u⟩ : Aspects).sees Reg.IMG_BUILD_LO = false :=
  ⟨Fld.unseen_without_image p r u (x := Fld.all Reg.IMG_VER) (by decide), Fld.unseen_without_image p r u (x := Fld.all Reg.IMG_BUILD_HI) (by decide),
   Fld.unseen_without_image p r u (x := Fld.all Reg.IMG_BUILD_LO) (by decide)⟩

/-- The failure counts of the targets that exist are not a speaker's state. -/
theorem Fld.unseen_failures {t : Nat} (h : t < 7) : (Reg.BST_FAILCNT_FAIL t).unseen k ∧ (Reg.BST_FAILCNT_INC t).unseen k := by
  constructor <;> exact k.sees_of_high (Nat.le_add_right_of_le (by decide))
    (by simp only [Reg.BST_FAILCNT_FAIL, Reg.BST_FAILCNT_INC, Reg.BST_FAILCNT, Reg.SPK_STAT]; omega)
    (by simp only [Reg.BST_FAILCNT_FAIL, Reg.BST_FAILCNT_INC, Reg.BST_FAILCNT, Reg.SPK_STAT]; omega)

@[simp] theorem Aspects.sees_plan :
    (⟨p, i, r, false⟩ : Aspects).sees Reg.CLK_CFG = false ∧ (⟨p, i, r, false⟩ : Aspects).sees Reg.CLK_CTRL = false ∧
    (⟨p, i, r, false⟩ : Aspects).sees Reg.TRL_RT_CFG = false ∧ ∀ n, (⟨p, i, r, false⟩ : Aspects).sees (Reg.TRL_PCFG n) = false :=
  ⟨Fld.unseen_between p i r (x := Fld.all Reg.CLK_CFG) (by decide) (by decide), Fld.unseen_between p i r (x := Fld.all Reg.CLK_CTRL) (by decide) (by decide),
   Fld.unseen_above p i r (x := Fld.all Reg.TRL_RT_CFG) (by decide),
   fun n => Fld.unseen_above p i r (x := Fld.all (Reg.TRL_PCFG n)) (Nat.le_add_right_of_le (by decide))⟩

@[simp] theorem Block.outer_takeField (d : Decoded) (a : Nat) (h : k.sees a = false) : (s.takeField d a).outer k = s.outer k := s.outer_setW k a _ h

theorem Block.forAll_map {α β : Type} (l : List α) (f : α → β) (g : β → Block → Block) : s.forAll (l.map f) g = s.forAll l (fun a => g (f a)) :=
  List.foldl_map

end Sys2Proof.Machine
end

section
/-! SUPPORT. The frame of every operation that a graft at its commit, a wake, the start of an image and an entry to SAFE go through: one equation each. -/

namespace Sys2Proof.Machine
@[simp] theorem Block.outer_fadeTaps (s : Block) (p i r : Bool) (g : Graft) (h : Option Fade → Option Fade) :
    (s.fadeTaps g h).outer ⟨p, i, r, false⟩ = s.outer ⟨p, i, r, false⟩ := by
  dsimp only [Block.fadeTaps]
  simp

@[simp] theorem Block.outer_graftOver (s : Block) (p : Bool) :
    (s.graftOver).outer ⟨p, false, false, false⟩ = s.outer ⟨p, false, false, false⟩ := by
  dsimp only [Block.graftOver]
  simp

@[simp] theorem Block.outer_imgState (s : Block) (p : Bool) (st : Nat) :
    (s.imgState st).outer ⟨p, false, false, false⟩ = s.outer ⟨p, false, false, false⟩ := by
  dsimp only [Block.imgState]
  simp

@[simp] theorem Block.outer_abandonGraft (s : Block) (p : Bool) :
    (s.abandonGraft).outer ⟨p, false, false, false⟩ = s.outer ⟨p, false, false, false⟩ := by
  unfold Block.abandonGraft
  extract_lets
  simp +zetaDelta

@[simp] theorem Block.outer_bstNote (s : Block) (k : Aspects) (target : Nat) (item : Nat) (verdict : Nat) :
    (s.bstNote target item verdict).outer k = s.outer k := by
  dsimp only [Block.bstNote]
  simp

@[simp] theorem Block.outer_newEntry (s : Block) (k : Aspects) (cause : Nat) (block : Nat) (inst : Nat) (detail : Word) (snap : List Word) :
    (s.newEntry cause block inst detail snap).outer k = s.outer k := by
  dsimp only [Block.newEntry]
  simp

@[simp] theorem Block.outer_record (s : Block) (k : Aspects) (cause : Nat) (block : Nat) (inst : Nat) (detail : Word) (snap : List Word) :
    (s.record cause block inst detail snap).outer k = s.outer k := by
  unfold Block.record
  split <;> simp

@[simp] theorem Block.outer_bstClose_any (s : Block) (k : Aspects) {t : Nat} (item verdict applied note : Nat) (h : t < 7) :
    (s.bstClose t item verdict applied note).outer k = s.outer k := by
  unfold Block.bstClose
  extract_lets a b c
  have hc : c.outer k = s.outer k := by simp [c, b, a]
  split
  · simp [Fld.unseen_failures, h, hc]
  · split <;> simp [Fld.unseen_failures, h, hc]

@[simp] theorem Block.outer_coefWrite (s : Block) (k : Aspects) (x : Nat) (w : Word) :
    (s.coefWrite x w).outer k = s.outer k := by
  dsimp only [Block.coefWrite]
  simp

@[simp] theorem Block.outer_sramWrite (s : Block) (k : Aspects) (x : Nat) (w : Word) :
    (s.sramWrite x w).outer k = s.outer k := by
  dsimp only [Block.sramWrite]
  simp

@[simp] theorem Block.outer_scrambleChunk (s : Block) (k : Aspects) (chunk : Nat) :
    (s.scrambleChunk chunk).outer k = s.outer k := by
  exact Block.outer_forAll s k _ _ (fun _ _ => by simp)

@[simp] theorem Block.outer_bstCut (s : Block) (k : Aspects) (sel : Nat → Bool) (restarted : Bool) :
    (s.bstCut sel restarted).outer k = s.outer k := by
  unfold Block.bstCut
  split
  · next t item _ _ _ =>
    dsimp only
    split
    · rfl
    · next h =>
      have ht : t < 7 := by simp at h; omega
      simp [ht]
  · rfl

@[simp] theorem Block.outer_bstNewImage (s : Block) (k : Aspects) :
    (s.bstNewImage).outer k = s.outer k := by
  dsimp only [Block.bstNewImage]
  simp

@[simp] theorem Block.outer_dropBias (s : Block) (k : Aspects) (m : Nat) :
    (s.dropBias m).outer k = s.outer k := by
  dsimp only [Block.dropBias]
  simp

@[simp] theorem Block.outer_holdInputs (s : Block) (k : Aspects) (ports : List Nat) :
    (s.holdInputs ports).outer k = s.outer k := by
  exact Block.outer_forAll s k _ _ (fun _ _ => by simp)

@[simp] theorem Block.outer_holdBias (s : Block) (k : Aspects) (m : Nat) :
    (s.holdBias m).outer k = s.outer k := by
  dsimp only [Block.holdBias]
  simp

@[simp] theorem Block.outer_loseBias (s : Block) (k : Aspects) (m : Nat) :
    (s.loseBias m).outer k = s.outer k := by
  dsimp only [Block.loseBias]
  simp

@[simp] theorem Block.outer_closeSlice (s : Block) (p i r : Bool) (sl : Slice) (verdict : Nat) (done : Bool) :
    (s.closeSlice sl verdict done).outer ⟨p, i, r, false⟩ = s.outer ⟨p, i, r, false⟩ := by
  unfold Block.closeSlice
  extract_lets
  simp +zetaDelta

@[simp] theorem Block.outer_recentre (s : Block) (p i r : Bool) (g : Nat) :
    (s.recentre g).outer ⟨p, i, r, false⟩ = s.outer ⟨p, i, r, false⟩ := by
  dsimp only [Block.recentre]
  simp

@[simp] theorem Block.outer_refreshGroup (s : Block) (p i r : Bool) (g : Nat) :
    (s.refreshGroup g).outer ⟨p, i, r, false⟩ = s.outer ⟨p, i, r, false⟩ := by
  dsimp only [Block.refreshGroup]
  simp

@[simp] theorem Block.outer_setRole (s : Block) (p i r : Bool) (kk : Nat) (role : Nat) (slot : Nat) :
    (s.setRole kk role slot).outer ⟨p, i, r, false⟩ = s.outer ⟨p, i, r, false⟩ := by
  dsimp only [Block.setRole]
  simp

@[simp] theorem Block.outer_returnPeriodic (s : Block) (p i r : Bool) (sl : Slice) :
    (s.returnPeriodic sl).outer ⟨p, i, r, false⟩ = s.outer ⟨p, i, r, false⟩ := by
  dsimp only [Block.returnPeriodic]
  simp

@[simp] theorem Block.outer_sliceIncomplete (s : Block) (p i r : Bool) (done : Bool) :
    (s.sliceIncomplete done).outer ⟨p, i, r, false⟩ = s.outer ⟨p, i, r, false⟩ := by
  unfold Block.sliceIncomplete
  split
  · rfl
  · dsimp only
    split <;> simp

@[simp] theorem Block.outer_clocheCut (s : Block) (p i r : Bool) :
    (s.clocheCut).outer ⟨p, i, r, false⟩ = s.outer ⟨p, i, r, false⟩ := by
  unfold Block.clocheCut
  extract_lets a b
  calc _ = b.outer ⟨p, i, r, false⟩ := by split <;> simp
    _ = a.outer ⟨p, i, r, false⟩ := by simp [b]
    _ = s.outer ⟨p, i, r, false⟩ := by simp [a]

@[simp] theorem Block.outer_computeFields (s : Block) (p i r : Bool) :
    (s.computeFields).outer ⟨p, i, r, false⟩ = s.outer ⟨p, i, r, false⟩ := by
  unfold Block.computeFields
  extract_lets a b c d e f g h j l rx tx m n
  calc _ = n.outer ⟨p, i, r, false⟩ := by simp
    _ = m.outer ⟨p, i, r, false⟩ := by simp [n]
    _ = l.outer ⟨p, i, r, false⟩ := Block.outer_forAll l _ _ _ (fun _ _ => by split <;> simp)
    _ = h.outer ⟨p, i, r, false⟩ := by simp [l, j]
    _ = e.outer ⟨p, i, r, false⟩ := by simp [h, g, f]
    _ = s.outer ⟨p, i, r, false⟩ := by simp [e, d, c, b, a]

@[simp] theorem Block.outer_dropGains (s : Block) (p i r : Bool) (b : Nat) :
    (s.dropGains b).outer ⟨p, i, r, false⟩ = s.outer ⟨p, i, r, false⟩ := by
  dsimp only [Block.dropGains]
  simp

@[simp] theorem Block.outer_loadCoefs (s : Block) (p i r : Bool) (d : Decoded) (c : Nat) :
    (s.loadCoefs d c).outer ⟨p, i, r, false⟩ = s.outer ⟨p, i, r, false⟩ := by
  dsimp only [Block.loadCoefs]
  simp

@[simp] theorem Block.outer_restartBlk (s : Block) (p i r : Bool) (b : Nat) :
    (s.restartBlk b).outer ⟨p, i, r, false⟩ = s.outer ⟨p, i, r, false⟩ := by
  unfold Block.restartBlk
  extract_lets
  simp +zetaDelta

@[simp] theorem Block.outer_scarfRequest (s : Block) (p i r : Bool) (b : Nat) (kind : Nat) :
    (s.scarfRequest b kind).outer ⟨p, i, r, false⟩ = s.outer ⟨p, i, r, false⟩ := by
  unfold Block.scarfRequest
  extract_lets
  simp +zetaDelta

@[simp] theorem Block.outer_startScarf (s : Block) (p i r : Bool) (b : Nat) (kind : Nat) :
    (s.startScarf b kind).outer ⟨p, i, r, false⟩ = s.outer ⟨p, i, r, false⟩ := by
  unfold Block.startScarf
  extract_lets
  simp +zetaDelta

@[simp] theorem Block.outer_crossBlocks (s : Block) (p i r : Bool) (was : Block) (d : Decoded) (g : Graft) :
    (s.crossBlocks was d g).outer ⟨p, i, r, false⟩ = s.outer ⟨p, i, r, false⟩ := by
  unfold Block.crossBlocks
  extract_lets
  simp +zetaDelta

@[simp] theorem Block.outer_degradeCheck (s : Block) (p i r : Bool) (g : Nat) :
    (s.degradeCheck g).outer ⟨p, i, r, false⟩ = s.outer ⟨p, i, r, false⟩ := by
  dsimp only [Block.degradeCheck]
  simp

@[simp] theorem Block.outer_refreshCalv (s : Block) (p i r : Bool) (g : Nat) :
    (s.refreshCalv g).outer ⟨p, i, r, false⟩ = s.outer ⟨p, i, r, false⟩ := by
  dsimp only [Block.refreshCalv]
  simp

@[simp] theorem Block.outer_assignRoles (s : Block) (p i r : Bool) (g : Nat) :
    (s.assignRoles g).outer ⟨p, i, r, false⟩ = s.outer ⟨p, i, r, false⟩ := by
  unfold Block.assignRoles
  extract_lets cs a b c d e
  calc _ = e.outer ⟨p, i, r, false⟩ := by simp
    _ = d.outer ⟨p, i, r, false⟩ := by simp only [e]; split <;> simp
    _ = b.outer ⟨p, i, r, false⟩ := by simp [d, c]
    _ = s.outer ⟨p, i, r, false⟩ := by simp [b, a]

@[simp] theorem Block.outer_redegrade (s : Block) (p i r : Bool) (g : Nat) :
    (s.redegrade g).outer ⟨p, i, r, false⟩ = s.outer ⟨p, i, r, false⟩ := by
  dsimp only [Block.redegrade]
  simp

@[simp] theorem Block.outer_crossCells (s : Block) (p i r : Bool) (was : Block) (d : Decoded) :
    (s.crossCells was d).outer ⟨p, i, r, false⟩ = s.outer ⟨p, i, r, false⟩ := by
  unfold Block.crossCells
  extract_lets
  simp +zetaDelta

@[simp] theorem Block.outer_setChainDelay (s : Block) (p i r : Bool) (c : ChainId) (t : Nat) (graft : Bool) :
    (s.setChainDelay c t graft).outer ⟨p, i, r, false⟩ = s.outer ⟨p, i, r, false⟩ := by
  unfold Block.setChainDelay
  split <;> simp

@[simp] theorem Block.outer_graftChain (s : Block) (p i r : Bool) (c : ChainId) :
    (s.graftChain c).outer ⟨p, i, r, false⟩ = s.outer ⟨p, i, r, false⟩ := by
  dsimp only [Block.graftChain]
  simp

@[simp] theorem Block.outer_shiftU (s : Block) (p i r : Bool) (c : ChainId) (changed : List Nat) :
    (s.shiftU c changed).outer ⟨p, i, r, false⟩ = s.outer ⟨p, i, r, false⟩ := by
  unfold Block.shiftU
  extract_lets x t first old apart a
  calc _ = a.outer ⟨p, i, r, false⟩ := by split <;> simp
    _ = s.outer ⟨p, i, r, false⟩ := by simp [a]

@[simp] theorem Block.outer_shiftWriteOp (s : Block) (p i r : Bool) (c : ChainId) (w : Nat) :
    (s.shiftWriteOp c w).outer ⟨p, i, r, false⟩ = s.outer ⟨p, i, r, false⟩ := by
  dsimp only [Block.shiftWriteOp]
  simp

@[simp] theorem Block.outer_crossChains (s : Block) (p i r : Bool) (was : Block) (g : Graft) :
    (s.crossChains was g).outer ⟨p, i, r, false⟩ = s.outer ⟨p, i, r, false⟩ := by
  unfold Block.crossChains
  extract_lets
  simp +zetaDelta

@[simp] theorem Block.outer_xpRamp (s : Block) (p i : Bool) (o : Nat) (ki : Nat) (at' : Nat) :
    (s.xpRamp o ki at').outer ⟨p, i, false, false⟩ = s.outer ⟨p, i, false, false⟩ := by
  dsimp only [Block.xpRamp]
  simp

@[simp] theorem Block.outer_xpStep (s : Block) (p i : Bool) (o : Nat) (ki : Nat) :
    (s.xpStep o ki).outer ⟨p, i, false, false⟩ = s.outer ⟨p, i, false, false⟩ := by
  dsimp only [Block.xpStep]
  simp

@[simp] theorem Block.outer_xpRequest (s : Block) (p i : Bool) (o : Nat) (ki : Nat) (at' : Nat) (seen : Bool) :
    (s.xpRequest o ki at' seen).outer ⟨p, i, false, false⟩ = s.outer ⟨p, i, false, false⟩ := by
  unfold Block.xpRequest
  extract_lets
  simp +zetaDelta

@[simp] theorem Block.outer_xpRampEndOp (s : Block) (p i : Bool) (o : Nat) (ki : Nat) :
    (s.xpRampEndOp o ki).outer ⟨p, i, false, false⟩ = s.outer ⟨p, i, false, false⟩ := by
  unfold Block.xpRampEndOp
  split <;> simp

@[simp] theorem Block.outer_xpGainWriteOp (s : Block) (p i : Bool) (o : Nat) (ki : Nat) (g : BitVec 18) :
    (s.xpGainWriteOp o ki g).outer ⟨p, i, false, false⟩ = s.outer ⟨p, i, false, false⟩ := by
  dsimp only [Block.xpGainWriteOp]
  simp

@[simp] theorem Block.outer_crossDirect (s : Block) (p i : Bool) (was : Block) (g : Graft) :
    (s.crossDirect was g).outer ⟨p, i, false, false⟩ = s.outer ⟨p, i, false, false⟩ := by
  unfold Block.crossDirect
  extract_lets
  simp +zetaDelta

@[simp] theorem Block.outer_enterLink (s : Block) (p i : Bool) (kp : Nat) (st : Nat) :
    (s.enterLink kp st).outer ⟨p, i, false, false⟩ = s.outer ⟨p, i, false, false⟩ := by
  dsimp only [Block.enterLink]
  simp

@[simp] theorem Block.outer_signalDetectOp (s : Block) (p i : Bool) (kp : Nat) :
    (s.signalDetectOp kp).outer ⟨p, i, false, false⟩ = s.outer ⟨p, i, false, false⟩ := by
  dsimp only [Block.signalDetectOp]
  simp

@[simp] theorem Block.outer_linkFollow (s : Block) (p i : Bool) :
    (s.linkFollow).outer ⟨p, i, false, false⟩ = s.outer ⟨p, i, false, false⟩ := by
  exact Block.outer_forAll s _ _ _ (fun _ _ => by simp)

@[simp] theorem Block.outer_refreshEq (s : Block) (p i : Bool) :
    (s.refreshEq).outer ⟨p, i, false, false⟩ = s.outer ⟨p, i, false, false⟩ := by
  refine (Block.outer_forAll _ _ _ _ fun n t => ?_).trans (Block.outer_net s p i _)
  dsimp only
  split
  · rfl
  · split <;> simp

@[simp] theorem Block.outer_crossLinks (s : Block) (p i : Bool) (was : Block) :
    (s.crossLinks was).outer ⟨p, i, false, false⟩ = s.outer ⟨p, i, false, false⟩ := by
  unfold Block.crossLinks
  extract_lets
  simp +zetaDelta

@[simp] theorem Block.outer_calGainWrite (s : Block) (p i r : Bool) (n : Nat) (v : Nat) :
    (s.calGainWrite n v).outer ⟨p, i, r, false⟩ = s.outer ⟨p, i, r, false⟩ := by
  dsimp only [Block.calGainWrite]
  simp

@[simp] theorem Block.outer_rampOut (s : Block) (p i r : Bool) (o : Nat) (slope : Int) :
    (s.rampOut o slope).outer ⟨p, i, r, false⟩ = s.outer ⟨p, i, r, false⟩ := by
  dsimp only [Block.rampOut]
  simp

@[simp] theorem Block.outer_setReleased (s : Block) (p i r : Bool) (o : Nat) (b : Bool) :
    (s.setReleased o b).outer ⟨p, i, r, false⟩ = s.outer ⟨p, i, r, false⟩ := by
  dsimp only [Block.setReleased]
  simp

@[simp] theorem Block.outer_cmFall (s : Block) (p i r : Bool) (n : Nat) :
    (s.cmFall n).outer ⟨p, i, r, false⟩ = s.outer ⟨p, i, r, false⟩ := by
  dsimp only [Block.cmFall]
  simp

@[simp] theorem Block.outer_cmRise (s : Block) (k : Aspects) (n : Nat) :
    (s.cmRise n).outer k = s.outer k := by
  dsimp only [Block.cmRise]
  simp

@[simp] theorem Block.outer_takeGainTimeout (s : Block) (p i r : Bool) (n : Nat) :
    (s.takeGainTimeout n).outer ⟨p, i, r, false⟩ = s.outer ⟨p, i, r, false⟩ := by
  dsimp only [Block.takeGainTimeout]
  simp

@[simp] theorem Block.outer_startGainWait (s : Block) (p i r : Bool) (n : Nat) (frm : Nat) :
    (s.startGainWait n frm).outer ⟨p, i, r, false⟩ = s.outer ⟨p, i, r, false⟩ := by
  unfold Block.startGainWait
  extract_lets a z b
  calc _ = b.outer ⟨p, i, r, false⟩ := by split <;> simp
    _ = a.outer ⟨p, i, r, false⟩ := by simp [b]
    _ = s.outer ⟨p, i, r, false⟩ := by simp [a]

@[simp] theorem Block.outer_gainWriteOp (s : Block) (p i r : Bool) (n : Nat) (target : Nat) :
    (s.gainWriteOp n target).outer ⟨p, i, r, false⟩ = s.outer ⟨p, i, r, false⟩ := by
  unfold Block.gainWriteOp
  extract_lets
  simp +zetaDelta

@[simp] theorem Block.outer_pumpStart (s : Block) (k : Aspects) :
    (s.pumpStart).outer k = s.outer k := by
  dsimp only [Block.pumpStart]
  simp

@[simp] theorem Block.outer_pumpStop (s : Block) (p i r : Bool) :
    (s.pumpStop).outer ⟨p, i, r, false⟩ = s.outer ⟨p, i, r, false⟩ := by
  dsimp only [Block.pumpStop]
  simp

@[simp] theorem Block.outer_rangeBusy (s : Block) (p i r : Bool) (o : Nat) (busy : Bool) :
    (s.rangeBusy o busy).outer ⟨p, i, r, false⟩ = s.outer ⟨p, i, r, false⟩ := by
  dsimp only [Block.rangeBusy]
  simp

@[simp] theorem Block.outer_startRange (s : Block) (p i r : Bool) (o : Nat) :
    (s.startRange o).outer ⟨p, i, r, false⟩ = s.outer ⟨p, i, r, false⟩ := by
  dsimp only [Block.startRange]
  simp

@[simp] theorem Block.outer_rangeWriteOp (s : Block) (p i r : Bool) (o : Nat) (high : Bool) :
    (s.rangeWriteOp o high).outer ⟨p, i, r, false⟩ = s.outer ⟨p, i, r, false⟩ := by
  unfold Block.rangeWriteOp
  extract_lets
  simp +zetaDelta

@[simp] theorem Block.outer_crossPorts (s : Block) (p i r : Bool) (was : Block) (g : Graft) :
    (s.crossPorts was g).outer ⟨p, i, r, false⟩ = s.outer ⟨p, i, r, false⟩ := by
  unfold Block.crossPorts
  extract_lets
  simp +zetaDelta

@[simp] theorem Block.outer_startSwitch (s : Block) (p i r : Bool) (kk : Nat) (alt : Nat) :
    (s.startSwitch kk alt).outer ⟨p, i, r, false⟩ = s.outer ⟨p, i, r, false⟩ := by
  dsimp only [Block.startSwitch]
  simp

@[simp] theorem Block.outer_crossSelects (s : Block) (p i r : Bool) :
    (s.crossSelects).outer ⟨p, i, r, false⟩ = s.outer ⟨p, i, r, false⟩ := by
  dsimp only [Block.crossSelects]
  simp

@[simp] theorem Block.outer_slewBias (s : Block) (k : Aspects) (m : Nat) (v : Rat) :
    (s.slewBias m v).outer k = s.outer k := by
  dsimp only [Block.slewBias]
  simp

@[simp] theorem Block.outer_driveBias (s : Block) (k : Aspects) (m : Nat) :
    (s.driveBias m).outer k = s.outer k := by
  dsimp only [Block.driveBias]
  simp

@[simp] theorem Block.outer_biasFollow (s : Block) (k : Aspects) :
    (s.biasFollow).outer k = s.outer k := by
  dsimp only [Block.biasFollow]
  simp

@[simp] theorem Block.outer_rampIn (s : Block) (p i r : Bool) (ports : List Nat) (when' : Nat) :
    (s.rampIn ports when').outer ⟨p, i, r, false⟩ = s.outer ⟨p, i, r, false⟩ := by
  dsimp only [Block.rampIn]
  simp

@[simp] theorem Block.outer_crossHolds (s : Block) (p i r : Bool) :
    (s.crossHolds).outer ⟨p, i, r, false⟩ = s.outer ⟨p, i, r, false⟩ := by
  unfold Block.crossHolds
  extract_lets
  simp +zetaDelta

@[simp] theorem Block.outer_cscClear (s : Block) (p i r : Bool) :
    (s.cscClear).outer ⟨p, i, r, false⟩ = s.outer ⟨p, i, r, false⟩ := by
  unfold Block.cscClear
  extract_lets a b x
  calc _ = b.outer ⟨p, i, r, false⟩ := Block.outer_csc b _ _
    _ = a.outer ⟨p, i, r, false⟩ := by simp [b]
    _ = s.outer ⟨p, i, r, false⟩ := by simp [a]

@[simp] theorem Block.outer_mbiasEnableOp (s : Block) (p i r : Bool) (m : Nat) (en : Bool) (vset : Nat) :
    (s.mbiasEnableOp m en vset).outer ⟨p, i, r, false⟩ = s.outer ⟨p, i, r, false⟩ := by
  unfold Block.mbiasEnableOp
  extract_lets
  simp +zetaDelta

@[simp] theorem Block.outer_refFollow (s : Block) (k : Aspects) :
    (s.refFollow).outer k = s.outer k := by
  unfold Block.refFollow
  dsimp only
  split <;> simp

@[simp] theorem Block.outer_setJack (s : Block) (p i r : Bool) (n : Nat) (st : Nat) :
    (s.setJack n st).outer ⟨p, i, r, false⟩ = s.outer ⟨p, i, r, false⟩ := by
  dsimp only [Block.setJack]
  simp

@[simp] theorem Block.outer_startTimer (s : Block) (p i r : Bool) (t : Nat) :
    (s.startTimer t).outer ⟨p, i, r, false⟩ = s.outer ⟨p, i, r, false⟩ := by
  dsimp only [Block.startTimer]
  simp

@[simp] theorem Block.outer_crossSense (s : Block) (p i r : Bool) (was : Block) :
    (s.crossSense was).outer ⟨p, i, r, false⟩ = s.outer ⟨p, i, r, false⟩ := by
  unfold Block.crossSense
  extract_lets
  simp +zetaDelta

@[simp] theorem Block.outer_sapRestart (s : Block) (p i r : Bool) (kp : Nat) :
    (s.sapRestart kp).outer ⟨p, i, r, false⟩ = s.outer ⟨p, i, r, false⟩ := by
  dsimp only [Block.sapRestart]
  simp

@[simp] theorem Block.outer_crossSerial (s : Block) (p i r : Bool) (o : Block) (n : Block) (g : Graft) :
    (s.crossSerial o n g).outer ⟨p, i, r, false⟩ = s.outer ⟨p, i, r, false⟩ := by
  unfold Block.crossSerial
  extract_lets
  simp +zetaDelta

@[simp] theorem Block.outer_setSpk (s : Block) (p i r : Bool) (c : Nat) (st : Nat) :
    (s.setSpk c st).outer ⟨p, i, r, false⟩ = s.outer ⟨p, i, r, false⟩ := by
  dsimp only [Block.setSpk]
  simp

@[simp] theorem Block.outer_spkOpen (s : Block) (p i r : Bool) (c : Nat) (st : Nat) :
    (s.spkOpen c st).outer ⟨p, i, r, false⟩ = s.outer ⟨p, i, r, false⟩ := by
  dsimp only [Block.spkOpen]
  simp

@[simp] theorem Block.outer_spkSafe (s : Block) (p i r : Bool) (c : Nat) :
    (s.spkSafe c).outer ⟨p, i, r, false⟩ = s.outer ⟨p, i, r, false⟩ := by
  dsimp only [Block.spkSafe]
  simp

@[simp] theorem Block.outer_spkCommit (s : Block) (p i r : Bool) (c : Nat) :
    (s.spkCommit c).outer ⟨p, i, r, false⟩ = s.outer ⟨p, i, r, false⟩ := by
  dsimp only [Block.spkCommit]
  simp

@[simp] theorem Block.outer_crossSpeakers (s : Block) (p i r : Bool) (g : Graft) :
    (s.crossSpeakers g).outer ⟨p, i, r, false⟩ = s.outer ⟨p, i, r, false⟩ := by
  dsimp only [Block.crossSpeakers]
  simp

@[simp] theorem Block.outer_dropPending (s : Block) (p i r : Bool) :
    (s.dropPending).outer ⟨p, i, r, false⟩ = s.outer ⟨p, i, r, false⟩ := by
  unfold Block.dropPending
  extract_lets
  simp +zetaDelta

@[simp] theorem Block.outer_exchange (s : Block) (p : Bool) :
    (s.exchange).outer ⟨p, false, false, false⟩ = s.outer ⟨p, false, false, false⟩ := by
  unfold Block.exchange
  exact Block.outer_memory_image s p false false _ _

@[simp] theorem Block.outer_followOutputs (s : Block) (p i r : Bool) :
    (s.followOutputs).outer ⟨p, i, r, false⟩ = s.outer ⟨p, i, r, false⟩ := by
  dsimp only [Block.followOutputs]
  simp

@[simp] theorem Block.outer_spkStop (s : Block) (p i r : Bool) (c : Nat) :
    (s.spkStop c).outer ⟨p, i, r, false⟩ = s.outer ⟨p, i, r, false⟩ := by
  dsimp only [Block.spkStop]
  simp

@[simp] theorem Block.outer_spkTimer (s : Block) (p i r : Bool) (c : Nat) :
    (s.spkTimer c).outer ⟨p, i, r, false⟩ = s.outer ⟨p, i, r, false⟩ := by
  unfold Block.spkTimer
  split
  · rfl
  · split <;> simp

@[simp] theorem Block.outer_followSpeakers (s : Block) (p i r : Bool) :
    (s.followSpeakers).outer ⟨p, i, r, false⟩ = s.outer ⟨p, i, r, false⟩ := by
  dsimp only [Block.followSpeakers]
  simp

@[simp] theorem Block.outer_follow (s : Block) (p i r : Bool) :
    (s.follow).outer ⟨p, i, r, false⟩ = s.outer ⟨p, i, r, false⟩ := by
  dsimp only [Block.follow]
  simp

@[simp] theorem Block.outer_holdGain (s : Block) (p i r : Bool) (x : Fld) (old : Rat) :
    (s.holdGain x old).outer ⟨p, i, r, false⟩ = s.outer ⟨p, i, r, false⟩ := by
  dsimp only [Block.holdGain]
  simp

@[simp] theorem Block.outer_holdGains (s : Block) (p i r : Bool) (b : Nat) :
    (s.holdGains b).outer ⟨p, i, r, false⟩ = s.outer ⟨p, i, r, false⟩ := by
  dsimp only [Block.holdGains]
  simp

@[simp] theorem Block.outer_publish (s : Block) (p : Bool) :
    (s.publish).outer ⟨p, false, false, false⟩ = s.outer ⟨p, false, false, false⟩ := by
  unfold Block.publish
  split
  · rfl
  · simp

@[simp] theorem Block.outer_clearBanks (s : Block) (k : Aspects) (sel : Nat → Bool) :
    (s.clearBanks sel).outer k = s.outer k := by
  dsimp only [Block.clearBanks]
  simp

@[simp] theorem Block.outer_renewBanks (s : Block) (p i r : Bool) :
    (s.renewBanks).outer ⟨p, i, r, false⟩ = s.outer ⟨p, i, r, false⟩ := by
  dsimp only [Block.renewBanks]
  simp

@[simp] theorem Block.outer_setInfo (s : Block) (p : Bool) (d : Decoded) :
    (s.setInfo d).outer ⟨p, false, false, false⟩ = s.outer ⟨p, false, false, false⟩ := by
  unfold Block.setInfo
  extract_lets a b
  calc _ = b.outer ⟨p, false, false, false⟩ := by simp
    _ = a.outer ⟨p, false, false, false⟩ := by simp [b]
    _ = s.outer ⟨p, false, false, false⟩ := by simp [a]

@[simp] theorem Block.outer_setPhase (s : Block) (p : Bool) (kp : Nat) :
    (s.setPhase kp).outer ⟨p, false, false, false⟩ = s.outer ⟨p, false, false, false⟩ := by
  dsimp only [Block.setPhase]
  simp

@[simp] theorem Block.outer_clearBlocks (s : Block) (p i r : Bool) :
    (s.clearBlocks).outer ⟨p, i, r, false⟩ = s.outer ⟨p, i, r, false⟩ := by
  exact Block.outer_forAll s _ _ _ (fun _ _ => by simp)

@[simp] theorem Block.outer_endScarf (s : Block) (p i r : Bool) (b : Nat) :
    (s.endScarf b).outer ⟨p, i, r, false⟩ = s.outer ⟨p, i, r, false⟩ := by
  unfold Block.endScarf
  split
  · rfl
  · simp

@[simp] theorem Block.outer_endSwap (s : Block) (p i : Bool) (o : Nat) :
    (s.endSwap o).outer ⟨p, i, false, false⟩ = s.outer ⟨p, i, false, false⟩ := by
  unfold Block.endSwap
  split
  · rfl
  · simp

@[simp] theorem Block.outer_endSwitch (s : Block) (p i r : Bool) (kk : Nat) :
    (s.endSwitch kk).outer ⟨p, i, r, false⟩ = s.outer ⟨p, i, r, false⟩ := by
  dsimp only [Block.endSwitch]
  simp

@[simp] theorem Block.outer_stopGraph (s : Block) (p i : Bool) :
    (s.stopGraph).outer ⟨p, i, false, false⟩ = s.outer ⟨p, i, false, false⟩ := by
  unfold Block.stopGraph
  extract_lets drop a b c d
  have hdrop : ∀ t, (drop t).outer ⟨p, i, false, false⟩ = t.outer ⟨p, i, false, false⟩ := fun t => by simp [drop]
  calc _ = d.outer ⟨p, i, false, false⟩ := by simp
    _ = c.outer ⟨p, i, false, false⟩ := Block.outer_forAll c _ _ _ (fun _ _ => by dsimp only; split <;> simp [hdrop])
    _ = b.outer ⟨p, i, false, false⟩ := Block.outer_forAll b _ _ _ (fun _ _ => by dsimp only; split <;> simp [hdrop])
    _ = a.outer ⟨p, i, false, false⟩ := Block.outer_forAll a _ _ _ (fun _ _ => by simp [hdrop])
    _ = s.outer ⟨p, i, false, false⟩ := by simp [a]

@[simp] theorem Block.outer_imgError (s : Block) (p : Bool) (code : Nat) (sect : Nat) (detail : Nat) :
    (s.imgError code sect detail).outer ⟨p, false, false, false⟩ = s.outer ⟨p, false, false, false⟩ := by
  dsimp only [Block.imgError]
  simp

@[simp] theorem Block.outer_imgLedger (s : Block) (p i r : Bool) :
    (s.imgLedger).outer ⟨p, i, r, false⟩ = s.outer ⟨p, i, r, false⟩ := by
  dsimp only [Block.imgLedger]
  simp

@[simp] theorem Block.outer_beginClear (s : Block) (k : Aspects) (sel : Nat → Bool) :
    (s.beginClear sel).outer k = s.outer k := by
  dsimp only [Block.beginClear]
  simp

@[simp] theorem Block.outer_entryEnd (s : Block) (i r u : Bool) :
    (s.entryEnd).outer ⟨false, i, r, u⟩ = s.outer ⟨false, i, r, u⟩ := by
  dsimp only [Block.entryEnd]
  simp

@[simp] theorem Block.outer_lsnShow (s : Block) (k : Aspects) :
    (s.lsnShow).outer k = s.outer k := by
  unfold Block.lsnShow
  split
  · rfl
  · exact Block.outer_forAll s _ _ _ (fun _ _ => by simp)

@[simp] theorem Block.outer_setPll (s : Block) (p i r : Bool) (st : Nat) :
    (s.setPll st).outer ⟨p, i, r, false⟩ = s.outer ⟨p, i, r, false⟩ := by
  dsimp only [Block.setPll]
  simp

@[simp] theorem Block.outer_setRef (s : Block) (p i r : Bool) (kr : Nat) :
    (s.setRef kr).outer ⟨p, i, r, false⟩ = s.outer ⟨p, i, r, false⟩ := by
  dsimp only [Block.setRef]
  simp

@[simp] theorem Block.outer_pllStart (s : Block) (p i r : Bool) :
    (s.pllStart).outer ⟨p, i, r, false⟩ = s.outer ⟨p, i, r, false⟩ := by
  dsimp only [Block.pllStart]
  simp

@[simp] theorem Block.outer_pllWanted (s : Block) (p i : Bool) :
    (s.pllWanted).outer ⟨p, i, false, false⟩ = s.outer ⟨p, i, false, false⟩ := by
  dsimp only [Block.pllWanted]
  simp

@[simp] theorem Block.outer_setLsn (s : Block) (p i r : Bool) (st : Nat) :
    (s.setLsn st).outer ⟨p, i, r, false⟩ = s.outer ⟨p, i, r, false⟩ := by
  exact s.outer_put _ _ _ (Fld.unseen_between p i r (by decide) (by decide))

@[simp] theorem Block.outer_freshRoutes (s : Block) (p i : Bool) :
    (s.freshRoutes).outer ⟨p, i, false, false⟩ = s.outer ⟨p, i, false, false⟩ := by
  dsimp only [Block.freshRoutes]
  simp

@[simp] theorem Block.outer_startDirect (s : Block) (p i : Bool) :
    (s.startDirect).outer ⟨p, i, false, false⟩ = s.outer ⟨p, i, false, false⟩ := by
  dsimp only [Block.startDirect]
  simp

@[simp] theorem Block.outer_startSense (s : Block) (p i r : Bool) :
    (s.startSense).outer ⟨p, i, r, false⟩ = s.outer ⟨p, i, r, false⟩ := by
  unfold Block.startSense
  extract_lets a pvdd b
  calc _ = b.outer ⟨p, i, r, false⟩ := by simp
    _ = a.outer ⟨p, i, r, false⟩ := Block.outer_spk_csc a p i r _ _
    _ = s.outer ⟨p, i, r, false⟩ := by simp [a]

@[simp] theorem Block.outer_wakeEngines (s : Block) (p i : Bool) :
    (s.wakeEngines).outer ⟨p, i, false, false⟩ = s.outer ⟨p, i, false, false⟩ := by
  unfold Block.wakeEngines
  extract_lets a jacks b c d e
  calc _ = e.outer ⟨p, i, false, false⟩ := by simp
    _ = b.outer ⟨p, i, false, false⟩ := by simp [e, d, c]
    _ = a.outer ⟨p, i, false, false⟩ := Block.outer_ports_sap a p i false _ _
    _ = s.outer ⟨p, i, false, false⟩ := by simp [a]

@[simp] theorem Block.outer_pllStop (s : Block) (p i : Bool) :
    (s.pllStop).outer ⟨p, i, false, false⟩ = s.outer ⟨p, i, false, false⟩ := by
  dsimp only [Block.pllStop]
  simp

@[simp] theorem Block.outer_startPlan (s : Block) (p i : Bool) (d : Decoded) :
    (s.startPlan d).outer ⟨p, i, false, false⟩ = s.outer ⟨p, i, false, false⟩ := by
  unfold Block.startPlan
  extract_lets a b c e
  calc _ = e.outer ⟨p, i, false, false⟩ := by simp
    _ = b.outer ⟨p, i, false, false⟩ := by simp [e, c]
    _ = a.outer ⟨p, i, false, false⟩ := by simp [b, Block.forAll_map]
    _ = s.outer ⟨p, i, false, false⟩ := by simp [a]

@[simp] theorem Block.outer_placeCells (s : Block) (p i r : Bool) (d : Decoded) :
    (s.placeCells d).outer ⟨p, i, r, false⟩ = s.outer ⟨p, i, r, false⟩ := by
  unfold Block.placeCells
  extract_lets
  simp +zetaDelta

@[simp] theorem Block.outer_startGraph (s : Block) (p i r : Bool) :
    (s.startGraph).outer ⟨p, i, r, false⟩ = s.outer ⟨p, i, r, false⟩ := by
  unfold Block.startGraph
  extract_lets
  simp +zetaDelta

@[simp] theorem Block.outer_startPorts (s : Block) (p i r : Bool) :
    (s.startPorts).outer ⟨p, i, r, false⟩ = s.outer ⟨p, i, r, false⟩ := by
  unfold Block.startPorts
  extract_lets
  simp +zetaDelta

@[simp] theorem Block.outer_setBase (s : Block) (i r u : Bool) (m : Nat) :
    (s.setBase m).outer ⟨false, i, r, u⟩ = s.outer ⟨false, i, r, u⟩ := by
  dsimp only [Block.setBase]
  simp

@[simp] theorem Block.outer_enterReady (s : Block) (i : Bool) (requested : Bool) :
    (s.enterReady requested).outer ⟨false, i, false, false⟩ = s.outer ⟨false, i, false, false⟩ := by
  unfold Block.enterReady
  extract_lets a b c
  calc _ = c.outer ⟨false, i, false, false⟩ := by simp
    _ = b.outer ⟨false, i, false, false⟩ := by simp only [c]; split <;> simp
    _ = a.outer ⟨false, i, false, false⟩ := by simp only [b]; split <;> simp
    _ = s.outer ⟨false, i, false, false⟩ := by simp [a]

@[simp] theorem Block.outer_cmRiseAll (s : Block) (k : Aspects) :
    (s.cmRiseAll).outer k = s.outer k := by
  dsimp only [Block.cmRiseAll]
  simp

@[simp] theorem Block.outer_riseOutputs (s : Block) (k : Aspects) :
    (s.riseOutputs).outer k = s.outer k := by
  dsimp only [Block.riseOutputs]
  simp

@[simp] theorem Block.outer_send (s : Block) (p i : Bool) (kk : Packet) :
    (s.send kk).outer ⟨p, i, false, false⟩ = s.outer ⟨p, i, false, false⟩ := by
  unfold Block.send
  split
  · simp
  · split <;> simp

@[simp] theorem Block.outer_request (s : Block) (p i : Bool) (type : Nat) (dst : Nat) (port : Option Nat) (payload : List Byte) :
    (s.request type dst port payload).outer ⟨p, i, false, false⟩ = s.outer ⟨p, i, false, false⟩ := by
  unfold Block.request
  extract_lets n k a b
  calc _ = b.outer ⟨p, i, false, false⟩ := by simp
    _ = a.outer ⟨p, i, false, false⟩ := by simp [b]
    _ = s.outer ⟨p, i, false, false⟩ := by simp only [a]; split <;> simp

@[simp] theorem Block.outer_sendOffer (s : Block) (p i : Bool) (t : Tab Word) (admission : Bool) (keep : Bool) (kp : Nat) :
    (s.sendOffer t admission keep kp).outer ⟨p, i, false, false⟩ = s.outer ⟨p, i, false, false⟩ := by
  dsimp only [Block.sendOffer]
  simp

end Sys2Proof.Machine
end

section
/-! SUPPORT. Reading a frame, and the registers that a graft keeps (R11, R255). -/

namespace Sys2Proof.Machine

/-! ## Reading the frame -/

theorem Tab.get_filter {α : Type} (d : Nat → α) (q : Nat → Bool) {a : Nat} (h : q a = true) (t : Tab α) :
    Tab.get d (t.filter (fun p => q p.1)) a = Tab.get d t a := by
  induction t with
  | nil => rfl
  | cons p t ih =>
    by_cases hp : p.1 = a
    · simp [hp, h, Tab.get]
    · by_cases hq : q p.1 = true <;> simp [hq, Tab.get, hp, ih]

/-- A read after a rewriting of every entry that keeps the value read, where an entry that reads as unlisted is not listed. -/
theorem Tab.get_mapAll_kept {α : Type} [DecidableEq α] (d : Nat → α) (f : Nat → α → α) {a : Nat} (t : Tab α)
    (hl : Tab.get d t a = d a → ∀ p ∈ t, p.1 ≠ a) (hf : f a (Tab.get d t a) = Tab.get d t a) :
    Tab.get d (Tab.mapAll d t f) a = Tab.get d t a := by
  induction t with
  | nil => rfl
  | cons p t ih =>
    by_cases hp : p.1 = a
    · subst hp
      have hne : p.2 ≠ d p.1 := fun he => hl (by simp [Tab.get, he]) p (by simp) rfl
      have hp : f p.1 p.2 = p.2 := by simpa [Tab.get] using hf
      simp [Tab.mapAll, hp, hne, Tab.get]
    · have ht : Tab.get d (p :: t) a = Tab.get d t a := by simp [Tab.get, hp]
      rw [ht] at hl hf ⊢
      rw [← ih (fun he q hq => hl he q (by simp [hq])) hf]
      by_cases hd : f p.1 p.2 = d p.1 <;> simp [Tab.mapAll, hd, Tab.get, hp]

variable {s t u : Block} {k : Aspects}

theorem Block.word_of_outer (h : t.outer k = s.outer k) {a : Nat} (ha : k.sees a = true) : t.word a = s.word a := by
  have hr : t.regs.filter (fun p => k.sees p.1) = s.regs.filter (fun p => k.sees p.1) := congrArg Outer.regs h
  rw [Block.word, Block.word, ← Tab.get_filter _ k.sees ha t.regs, hr, Tab.get_filter _ k.sees ha]

theorem Block.f_of_outer (h : t.outer k = s.outer k) (x : Fld) (hx : k.sees x.addr = true) : t.f x = s.f x :=
  congrArg (fun w => bitsOf w x.lo x.width) (Block.word_of_outer h hx)

theorem Block.on_of_outer (h : t.outer k = s.outer k) (x : Fld) (hx : k.sees x.addr = true) : t.on x = s.on x := by
  simp only [Block.on, Block.f_of_outer h x hx]

theorem Block.time_of_outer (h : t.outer k = s.outer k) : t.time = s.time := congrArg Outer.time h

theorem shown_inj {α : Type} {b : Bool} {x y : α} (h : shown b x = shown b y) (hb : b = true) : x = y := by
  simpa [shown, hb] using h

theorem Block.pwr_of_outer (h : t.outer k = s.outer k) (hk : (k.power || k.still) = true) : t.pwr = s.pwr := shown_inj (congrArg Outer.pwr h) hk

theorem Block.image_of_outer (h : t.outer k = s.outer k) (hk : k.image = true) :
    t.img = s.img ∧ t.mem.active = s.mem.active ∧ t.mem.shadow = s.mem.shadow := by
  simpa using shown_inj (congrArg Outer.image h) hk

theorem Block.still_of_outer (h : t.outer k = s.outer k) (hk : k.still = true) (p : Part)
    (hp : p ∈ [Part.time, Part.host, Part.core, Part.dir, Part.clk, Part.net, Part.pwr, Part.lsn, Part.otp]) : p.same s t := by
  have hs := shown_inj (congrArg Outer.still h) hk
  simp only [Prod.mk.injEq] at hs
  obtain ⟨hhost, hcore, hdir, hclk, hnet, hlsn, hotp⟩ := hs
  have hpwr := Block.pwr_of_outer h (by simp [hk])
  have htime := Block.time_of_outer h
  simp only [List.mem_cons, List.not_mem_nil, or_false] at hp
  rcases hp with rfl | rfl | rfl | rfl | rfl | rfl | rfl | rfl | rfl <;> assumption

theorem Block.units_of_outer (h : t.outer k = s.outer k) (hk : k.units = true) (p : Part)
    (hp : p ∈ [Part.cells, Part.chains, Part.graph, Part.sap, Part.spk]) : p.same s t := by
  have hs := shown_inj (congrArg Outer.units h) hk
  simp only [Prod.mk.injEq] at hs
  obtain ⟨hcells, hchains, hgraph, hsap, hspk, -⟩ := hs
  simp only [List.mem_cons, List.not_mem_nil, or_false] at hp
  rcases hp with rfl | rfl | rfl | rfl | rfl <;> assumption

theorem Block.levels_of_outer (h : t.outer k = s.outer k) (hk : k.units = true) : levels t.ports.outs = levels s.ports.outs := by
  have hs := shown_inj (congrArg Outer.units h) hk
  simp only [Prod.mk.injEq] at hs
  obtain ⟨-, -, -, -, -, hlevels⟩ := hs
  exact hlevels

/-! ## Registers that a graft keeps -/

/-- A register that reads as its reset word is not listed. -/
def Block.listedAt (s : Block) (a : Nat) : Prop := s.word a = resetWord a → ∀ p ∈ s.regs, p.1 ≠ a

theorem Block.listedAt_setW (s : Block) (a : Nat) (w : Word) : (s.setW a w).listedAt a := by
  intro h
  rw [Block.word_setW_self] at h
  simpa [Block.setW, Tab.set, h] using Tab.erase_ne s.regs a

theorem Block.listedAt_put (s : Block) (x : Fld) (v : Nat) : (s.put x v).listedAt x.addr := s.listedAt_setW _ _

theorem Block.listedAt_of_outer (h : t.outer k = s.outer k) {a : Nat} (ha : k.sees a = true) (hs : s.listedAt a) : t.listedAt a := by
  have hr : t.regs.filter (fun p => k.sees p.1) = s.regs.filter (fun p => k.sees p.1) := congrArg Outer.regs h
  intro hw p hp he
  have hm : p ∈ t.regs.filter (fun p => k.sees p.1) := List.mem_filter.2 ⟨hp, by simpa [he] using ha⟩
  rw [hr] at hm
  exact hs (by rw [← Block.word_of_outer h ha, hw]) p (List.mem_of_mem_filter hm) he

/-- A field that the GRAFT reset and the new image leave alone, whatever the image: neither settable nor reset (R11, R255). -/
def graftStays (r : RegDef) (f : FieldDef) : Bool :=
  !settable r f && (!ResetKind.graft.clears f.kept || computedFields.contains (r.name, f.name) || runsOn.contains (r.name, f.name) ||
    (f.kept == .v && (f.access == .ro || f.access == .rol) && !graftClears.contains (r.name, f.name)))

theorem graftField_stays (d : Decoded) (r : RegDef) (a : Nat) (w : Word) (f : FieldDef) (h : graftStays r f = true) : graftField true d r a w f = w := by
  obtain ⟨hset, hkept⟩ : settable r f = false ∧ _ := by simpa only [graftStays, Bool.and_eq_true, Bool.not_eq_true'] using h
  simp only [graftField, hset, Bool.false_eq_true, if_false, Bool.true_or, if_true, Bool.and_true]
  split
  · rfl
  · next hclears =>
    split
    · rfl
    · next hruns =>
      simp only [hclears, hruns, Bool.false_or] at hkept
      rw [if_pos hkept]

theorem graftWord_stays (d : Decoded) {a : Nat} {r : RegDef} (hr : findReg a = some r) (h : r.fields.all (graftStays r) = true) (w : Word) :
    graftWord true d a w = w := by
  rw [List.all_eq_true] at h
  simp only [graftWord, hr]
  generalize r.fields = l at h
  induction l with
  | nil => rfl
  | cons f l ih => rw [List.foldl_cons, graftField_stays d r a w f (h f (by simp)), ih (fun g hg => h g (by simp [hg]))]

/-- The registers of the watchdog, the events, the rails and the causes: what an event of R34 sets before a graft that may be due. -/
def alarmRegs : List Nat := [Reg.SYS_WDOG_STAT, Reg.PWR_EVT, Reg.PWR_RAIL, Reg.PWR_SAFE]

theorem graftWord_alarm (d : Decoded) {a : Nat} (ha : a ∈ alarmRegs) (w : Word) : graftWord true d a w = w := by
  simp only [alarmRegs, List.mem_cons, List.not_mem_nil, or_false] at ha
  rcases ha with rfl | rfl | rfl | rfl
  · exact graftWord_stays d (r := (findReg Reg.SYS_WDOG_STAT).get (by decide)) (by decide) (by decide) w
  · exact graftWord_stays d (r := (findReg Reg.PWR_EVT).get (by decide)) (by decide) (by decide) w
  · exact graftWord_stays d (r := (findReg Reg.PWR_RAIL).get (by decide)) (by decide) (by decide) w
  · exact graftWord_stays d (r := (findReg Reg.PWR_SAFE).get (by decide)) (by decide) (by decide) w

theorem Block.graftRegs_word (live : Bool) (d : Decoded) {a : Nat} (hs : s.listedAt a) (hf : ∀ w, graftWord live d a w = w) :
    (s.graftRegs live d).word a = s.word a := by
  refine (Block.forAll_keeps (·.word a) _ _ (fun p t => ?_) _).trans (Tab.get_mapAll_kept _ _ _ hs (hf _))
  rw [Block.word_setW]
  split
  · next h => rw [← h, hf]
  · rfl

/-- The frame of the system and power registers alone. -/
abbrev powerOnly : Aspects := ⟨true, false, false, false⟩

theorem powerOnly_sees_alarm {a : Nat} (ha : a ∈ alarmRegs) : powerOnly.sees a = true := by
  revert a
  decide

theorem Block.graftCommit_word (s : Block) (d : Decoded) (o n : Block) {a : Nat} (ha : a ∈ alarmRegs) (hs : s.listedAt a) :
    (s.graftCommit d o n).word a = s.word a := by
  unfold Block.graftCommit
  extract_lets was g b0 b1 b2 b3 b4 b5 b6 b7 b8 b9 b10
  have hbefore : (b0.bstNewImage.exchange).outer powerOnly = s.outer powerOnly := by simp [b0]
  have hafter : b10.outer powerOnly = (b0.bstNewImage.exchange.graftRegs true d).outer powerOnly := by
    calc b10.outer powerOnly = b9.outer powerOnly := by simp [b10]
      _ = b8.outer powerOnly := by simp only [b9]; split <;> simp
      _ = b6.outer powerOnly := by simp [b8, b7]
      _ = b3.outer powerOnly := by simp [b6, b5, b4]
      _ = _ := by simp [b3, b2, b1]
  have hend : ∀ h : Graft → Graft, ((b10.setPhase 5).modGraft h).outer powerOnly = b10.outer powerOnly := fun h => by simp
  have hsee := powerOnly_sees_alarm ha
  rw [Block.word_of_outer ((hend _).trans hafter) hsee, Block.graftRegs_word true d (Block.listedAt_of_outer hbefore hsee hs) (graftWord_alarm d ha),
    Block.word_of_outer hbefore hsee]

theorem Block.graftAtC_word (s : Block) {a : Nat} (ha : a ∈ alarmRegs) (hs : s.listedAt a) : s.graftAtC.word a = s.word a := by
  unfold Block.graftAtC
  split
  · dsimp only
    split
    · exact Block.word_of_outer (by simp : _ = s.outer powerOnly) (powerOnly_sees_alarm ha)
    · exact s.graftCommit_word _ _ _ ha hs
  · rfl

end Sys2Proof.Machine
end

section
/-! SUPPORT. An entry to SAFE (R34, R263, R528): what it brings about and what it keeps, also where a graft is under way. -/

namespace Sys2Proof.Machine

/-! ## Entering a base mode -/

theorem Block.setBase_keeps (s : Block) (m : Nat) (i r u : Bool) : (s.setBase m).outer ⟨false, i, r, u⟩ = s.outer ⟨false, i, r, u⟩ := s.outer_setBase i r u m

theorem Block.setBase_base (s : Block) {m : Nat} (h : m < 16) : (s.setBase m).base = m := by
  rw [Block.setBase, Block.base, Block.raise, Block.f_put_addr _ _ _ _ (by decide), Block.f_put_self _ _ _ (by decide)]
  exact Nat.mod_eq_of_lt h

theorem Block.setBase_event (s : Block) (m : Nat) : (s.setBase m).on Reg.PWR_EVT_MODE = true := Block.on_raise_self _ _ (by decide) (by decide)

theorem Block.setBase_inEntry (s : Block) (m : Nat) : (s.setBase m).inEntry = false := by
  have h : (s.setBase m).f Reg.PWR_MODE_TRANS = 0 := by
    rw [Block.setBase, Block.entryEnd, Block.raise, Block.f_put_addr _ _ _ _ (by decide), Block.f_put_other _ _ _ _ (by decide) (by decide),
      Block.f_put_other _ _ _ _ (by decide) (by decide), Block.f_put_self _ _ _ (by decide)]
    rfl
  simp [Block.inEntry, Block.on, h]

/-- A field of a register seen among the power registers, but for those of the mode, stays. -/
theorem Block.setBase_f (s : Block) (m : Nat) (x : Fld) (hx : powerOnly.sees x.addr = true) (hm : x.addr ≠ Reg.PWR_MODE)
    (he : x.addr ≠ Reg.PWR_EVT ∨ x.lo + x.width ≤ Reg.PWR_EVT_MODE.lo ∨ Reg.PWR_EVT_MODE.lo + 1 ≤ x.lo) : (s.setBase m).f x = s.f x := by
  have hbase : ∀ t : Block, ((t.entryEnd).put Reg.PWR_MODE_BASE m).f x = t.f x := fun t => by
    rw [Block.f_put_addr _ _ _ _ hm, Block.entryEnd, Block.f_put_addr _ _ _ _ hm, Block.f_put_addr _ _ _ _ hm]
  have hraise : ∀ t : Block, (t.raise Reg.PWR_EVT_MODE).f x = t.f x := fun t => by
    rcases he with he | he
    · exact Block.f_put_addr _ _ _ _ he
    · exact Block.f_put_other _ _ _ _ (by decide) he
  rw [Block.setBase, hraise, hbase]
  exact Block.f_of_outer (by simp : _ = s.outer powerOnly) x hx

/-! ## The parts of an entry to SAFE -/

/-- The graft, the admission and the activation that SAFE meets (R263, R528). -/
def Block.leaveWork (s : Block) : Block :=
  let s := s.graftAtC.abandonGraft
  if s.img.activate then s.modImg (fun m => { m with activate := false }) else s

/-- The slice, the outputs and the speakers at once (R34). -/
def Block.quiet (s : Block) : Block :=
  ((s.sliceIncomplete false).forAll (List.range 18) (fun o s => s.zeroOut o)).forAll (List.range 2) (fun c s => s.spkSafe c)

/-- The end of the entry: the self-test, the common modes and supplies that follow, and the ledger (R92, R528, R564). -/
def Block.settleSafe (s : Block) (entry : Bool) : Block :=
  let s := s.onlyIf s.bst.full (fun s => { (s.put Reg.BST_STAT_BUSY 0) with bst := { s.bst with full := false } })
  ((s.onlyIf entry (fun s => s.riseOutputs)).biasFollow.refFollow).inFlight

theorem Block.enterSafe_idle {s : Block} (h : s.safeApplies = false ∨ s.base = modeSafe) : s.enterSafe = s.inFlight := by
  have hc : (!s.safeApplies || s.base = modeSafe) = true := by simpa using h
  rw [Block.enterSafe, if_pos (by simpa using hc)]

theorem Block.enterSafe_eq {s : Block} (h : s.safeApplies = true) (hb : s.base ≠ modeSafe) :
    s.enterSafe = ((s.leaveWork.setBase modeSafe).quiet).settleSafe s.inEntry := by
  rw [Block.enterSafe, if_neg (by simp [h, hb])]
  rfl

@[simp] theorem Block.outer_inFlight (s : Block) (k : Aspects) : s.inFlight.outer k = s.outer k := by
  unfold Block.inFlight
  extract_lets a st b x c
  calc _ = c.outer k := by simp
    _ = a.outer k := by simp [c, b]
    _ = s.outer k := by simp [a]

theorem Block.settleSafe_outer (s : Block) (entry : Bool) (k : Aspects) : (s.settleSafe entry).outer k = s.outer k := by
  unfold Block.settleSafe
  extract_lets a
  calc _ = a.outer k := by simp
    _ = s.outer k := Block.outer_onlyIf s k _ _ ((Block.outer_bst _ k _).trans (s.outer_put k _ _ (by simp)))

@[simp] theorem Block.outer_zeroOut (s : Block) (p i r : Bool) (o : Nat) : (s.zeroOut o).outer ⟨p, i, r, false⟩ = s.outer ⟨p, i, r, false⟩ := by
  dsimp only [Block.zeroOut]
  simp

theorem Block.quiet_outer (s : Block) (p i r : Bool) : s.quiet.outer ⟨p, i, r, false⟩ = s.outer ⟨p, i, r, false⟩ := by
  dsimp only [Block.quiet]
  simp

theorem Block.leaveWork_word (s : Block) {a : Nat} (ha : a ∈ alarmRegs) (hs : s.listedAt a) : s.leaveWork.word a = s.word a := by
  have hleave : s.leaveWork.outer powerOnly = s.graftAtC.outer powerOnly := by
    unfold Block.leaveWork
    dsimp only
    split <;> simp
  rw [Block.word_of_outer hleave (powerOnly_sees_alarm ha), s.graftAtC_word ha hs]

/-- With no graft under way there is none to complete or to abandon. -/
theorem Block.leaveWork_outer (s : Block) (h : s.graftPhase = 0) (p r u : Bool) : s.leaveWork.outer ⟨p, false, r, u⟩ = s.outer ⟨p, false, r, u⟩ := by
  have hdue : s.commitDue = false := by simp [Block.commitDue, h]
  have hgraft : s.graftAtC.abandonGraft = s := by simp [Block.graftAtC, Block.abandonGraft, hdue, h]
  rw [Block.leaveWork, hgraft]
  split <;> simp

/-! ## Outputs and speakers -/

theorem Block.zeroOut_levels (s : Block) (a o : Nat) :
    levels (s.zeroOut a).ports.outs o = if o = a then (0, 0, false) else levels s.ports.outs o := by
  have hput : (s.setReleased a false).ports.outs = (s.modOut a (fun x => { x with released := false })).ports.outs := by
    unfold Block.setReleased
    dsimp only
    split <;> rfl
  split
  · next h =>
    subst h
    simp [Block.zeroOut, Block.modOut, levels, Tab.get_upd, hput]
  · next h => simp [Block.zeroOut, Block.modOut, levels, Tab.get_upd, hput, h]

theorem Block.spkSafe_ports (s : Block) (c : Nat) : (s.spkSafe c).ports = s.ports := by
  unfold Block.spkSafe
  dsimp only
  split
  · rfl
  · split <;> rfl

theorem Block.quiet_levels (s : Block) {o : Nat} (h : o < 18) : levels s.quiet.ports.outs o = (0, 0, false) := by
  have hspk : s.quiet.ports = _ := Block.forAll_keeps (·.ports) _ _ (fun c t => Block.spkSafe_ports t c) _
  rw [hspk, Block.forAll_each (fun s o => levels s.ports.outs o) (fun _ _ => (0, 0, false)) _ (fun a t j => t.zeroOut_levels a j) _ List.nodup_range,
    if_pos (List.mem_range.2 h)]

theorem Block.spkOpen_state (s : Block) (c : Nat) {st : Nat} (h : st < 8) : (s.spkOpen c st).spkState c = st :=
  (Block.f_put_self s (Reg.SPK_STAT_STATE c) st (by simp [Reg.SPK_STAT_STATE])).trans (Nat.mod_eq_of_lt h)

theorem Block.spkOpen_state_other (s : Block) {c d : Nat} (st : Nat) (h : d ≠ c) : (s.spkOpen c st).spkState d = s.spkState d :=
  Block.f_put_addr s (Reg.SPK_STAT_STATE c) (Reg.SPK_STAT_STATE d) st (by simp [Reg.SPK_STAT_STATE, Reg.SPK_STAT]; omega)

/-- No speaker runs: OFF, or a protection that goes on counting. -/
def Block.silent (s : Block) (c : Nat) : Prop := s.spkState c ∈ [spkOff, spkBackoff, spkLocked]

theorem Block.spkSafe_silent (s : Block) (c : Nat) : (s.spkSafe c).silent c := by
  unfold Block.spkSafe
  dsimp only
  split
  · have h : Block.spkState _ c = spkBackoff := s.spkOpen_state c (st := spkBackoff) (by decide)
    exact List.mem_cons_of_mem _ (List.mem_cons.2 (Or.inl h))
  · split
    · next h => simpa [Block.silent] using Or.inr h
    · have h := s.spkOpen_state c (st := spkOff) (by decide)
      simpa [Block.silent] using Or.inl h

theorem Block.spkSafe_state_other (s : Block) {c d : Nat} (h : d ≠ c) : (s.spkSafe c).spkState d = s.spkState d := by
  unfold Block.spkSafe
  dsimp only
  split
  · exact s.spkOpen_state_other spkBackoff h
  · split
    · rfl
    · exact s.spkOpen_state_other spkOff h

theorem Block.quiet_silent (s : Block) {c : Nat} (h : c < 2) : s.quiet.silent c := by
  have hrange : List.range 2 = [0, 1] := rfl
  simp only [Block.quiet, hrange, Block.forAll_cons, Block.forAll_nil]
  have hc : c = 0 ∨ c = 1 := by omega
  rcases hc with rfl | rfl
  · rw [Block.silent, Block.spkSafe_state_other _ (by decide)]
    exact Block.spkSafe_silent _ 0
  · exact Block.spkSafe_silent _ 1

/-- A weight that stands at zero is zero at any time. -/
theorem Block.outWeight_zero {s : Block} {o : Nat} (h : levels s.ports.outs o = (0, 0, false)) : s.outWeight o = 0 ∧ (s.out o).released = false := by
  obtain ⟨hw, hs, hr⟩ : (s.out o).w0 = 0 ∧ (s.out o).slope = 0 ∧ (s.out o).released = false := by simpa [levels, Block.out] using h
  exact ⟨by simp [Block.outWeight, hw, hs, weightAt], hr⟩

/-! ## The entry to SAFE -/

/-- The base mode after an entry to SAFE in a mode whose core runs. -/
theorem Block.enterSafe_base {s : Block} (h : s.safeApplies = true) : s.enterSafe.base = modeSafe := by
  by_cases hb : s.base = modeSafe
  · rw [Block.enterSafe_idle (Or.inr hb)]
    exact (Block.f_of_outer (by simp : _ = s.outer powerOnly) Reg.PWR_MODE_BASE (by decide)).trans hb
  · have hend := (Block.settleSafe_outer _ s.inEntry powerOnly).trans ((s.leaveWork.setBase modeSafe).quiet_outer true false false)
    rw [Block.enterSafe_eq h hb]
    exact (Block.f_of_outer hend Reg.PWR_MODE_BASE (by decide)).trans (Block.setBase_base _ (by decide))

/-- What an entry to SAFE from another mode brings about (R34, R528). -/
theorem Block.enterSafe_quiet {s : Block} (h : s.safeApplies = true) (hb : s.base ≠ modeSafe) :
    s.enterSafe.on Reg.PWR_EVT_MODE = true ∧ s.enterSafe.inEntry = false ∧
    (∀ o, o < 18 → s.enterSafe.outWeight o = 0 ∧ (s.enterSafe.out o).released = false) ∧ ∀ c, c < 2 → s.enterSafe.spkState c ∈ [spkOff, spkBackoff, spkLocked] := by
  have hend := (Block.settleSafe_outer _ s.inEntry powerOnly).trans ((s.leaveWork.setBase modeSafe).quiet_outer true false false)
  have hunits := Block.settleSafe_outer (s.leaveWork.setBase modeSafe).quiet s.inEntry ⟨false, false, false, true⟩
  rw [Block.enterSafe_eq h hb]
  refine ⟨(Block.on_of_outer hend Reg.PWR_EVT_MODE (by decide)).trans (Block.setBase_event _ _),
    (Block.on_of_outer hend Reg.PWR_MODE_TRANS (by decide)).trans (Block.setBase_inEntry _ _), fun o ho => ?_, fun c hc => ?_⟩
  · exact Block.outWeight_zero ((congrFun (Block.levels_of_outer hunits rfl) o).trans (Block.quiet_levels _ ho))
  · have hsee : (⟨false, false, false, true⟩ : Aspects).sees (Reg.SPK_STAT_STATE c).addr = true := by
      have hc : c = 0 ∨ c = 1 := by omega
      rcases hc with rfl | rfl <;> decide
    have hstate : Block.spkState _ c = _ := Block.f_of_outer hunits (Reg.SPK_STAT_STATE c) hsee
    rw [hstate]
    exact Block.quiet_silent _ hc

/-- Fields of the watchdog, the rails, the causes and the events, but for MODE, stay. -/
theorem Block.enterSafe_f (s : Block) (x : Fld) (hx : x.addr ∈ alarmRegs) (hs : s.listedAt x.addr)
    (he : x.addr ≠ Reg.PWR_EVT ∨ x.lo + x.width ≤ Reg.PWR_EVT_MODE.lo ∨ Reg.PWR_EVT_MODE.lo + 1 ≤ x.lo) : s.enterSafe.f x = s.f x := by
  have hsee := powerOnly_sees_alarm hx
  by_cases hc : s.safeApplies = true ∧ s.base ≠ modeSafe
  · obtain ⟨h, hb⟩ := hc
    have hend := (Block.settleSafe_outer _ s.inEntry powerOnly).trans ((s.leaveWork.setBase modeSafe).quiet_outer true false false)
    have hmode : x.addr ≠ Reg.PWR_MODE := by
      intro he
      rw [he] at hx
      exact absurd hx (by decide)
    rw [Block.enterSafe_eq h hb, Block.f_of_outer hend x hsee, Block.setBase_f _ _ x hsee hmode he, Block.f, s.leaveWork_word hx hs, Block.f]
  · have hidle : s.safeApplies = false ∨ s.base = modeSafe := by
      by_cases h : s.safeApplies = true
      · exact Or.inr (by_contra fun hb => hc ⟨h, hb⟩)
      · exact Or.inl (by simpa using h)
    rw [Block.enterSafe_idle hidle]
    exact Block.f_of_outer (by simp : _ = s.outer powerOnly) x hsee

/-- With no graft under way, what neither the modes nor the outputs hold stays. -/
theorem Block.enterSafe_still (s : Block) (h : s.graftPhase = 0) : s.enterSafe.outer ⟨false, false, true, false⟩ = s.outer ⟨false, false, true, false⟩ := by
  by_cases hc : s.safeApplies = true ∧ s.base ≠ modeSafe
  · obtain ⟨ha, hb⟩ := hc
    rw [Block.enterSafe_eq ha hb, Block.settleSafe_outer, Block.quiet_outer, Block.setBase_keeps, s.leaveWork_outer h]
  · have hidle : s.safeApplies = false ∨ s.base = modeSafe := by
      by_cases h : s.safeApplies = true
      · exact Or.inr (by_contra fun hb => hc ⟨h, hb⟩)
      · exact Or.inl (by simpa using h)
    rw [Block.enterSafe_idle hidle]
    simp

end Sys2Proof.Machine
end

section
/-! SUPPORT. The watchdog and the software reset (R34, R520 to R522, R544 to R546). -/

namespace Sys2Proof.Machine

/-! ## A cause recorded, then SAFE -/

/-- A store to any register leaves the listing of another in order. -/
theorem Block.listedAt_setW_other {s : Block} {a : Nat} (h : s.listedAt a) (b : Nat) (w : Word) : (s.setW b w).listedAt a := by
  by_cases hab : a = b
  · subst hab
    exact s.listedAt_setW a w
  · intro hw p hp he
    rw [Block.word_setW_other s w hab] at hw
    refine h hw p ?_ he
    simp only [Block.setW, Tab.set] at hp
    split at hp
    · exact List.mem_of_mem_filter hp
    · rcases Tab.mem_insert hp with rfl | hp
      · exact absurd he.symm hab
      · exact List.mem_of_mem_filter hp

theorem Block.listedAt_record {s : Block} {a : Nat} (ha : a ∈ alarmRegs) (h : s.listedAt a) (cause block inst : Nat) (detail : Word) (snap : List Word) :
    (s.record cause block inst detail snap).listedAt a :=
  Block.listedAt_of_outer (s.outer_record powerOnly cause block inst detail snap) (powerOnly_sees_alarm ha) h

theorem Block.record_f (s : Block) (x : Fld) (hx : powerOnly.sees x.addr = true) (cause block inst : Nat) (detail : Word) (snap : List Word) :
    (s.record cause block inst detail snap).f x = s.f x :=
  Block.f_of_outer (s.outer_record powerOnly cause block inst detail snap) x hx

theorem Block.record_safeApplies (s : Block) (cause block inst : Nat) (detail : Word) (snap : List Word) :
    (s.record cause block inst detail snap).safeApplies = s.safeApplies := by
  have hcore := Block.still_of_outer (s.outer_record ⟨true, false, true, false⟩ cause block inst detail snap) rfl .core (by simp)
  have hbase : Block.base _ = s.base := s.record_f Reg.PWR_MODE_BASE (by decide) cause block inst detail snap
  rw [Block.safeApplies, Block.safeApplies, hbase, hcore]

theorem Block.put_safeApplies (s : Block) (x : Fld) (v : Nat) (hx : x.addr ≠ Reg.PWR_MODE) : (s.put x v).safeApplies = s.safeApplies := by
  have hbase : (s.put x v).base = s.base := Block.f_put_addr s x Reg.PWR_MODE_BASE v (Ne.symm hx)
  rw [Block.safeApplies, Block.safeApplies, hbase, Block.put_core]

/-- Whether a field shares no bit with the event of a change of mode. -/
def Fld.besideMode (x : Fld) : Prop :=
  x.addr ≠ Reg.PWR_EVT ∨ x.lo + x.width ≤ Reg.PWR_EVT_MODE.lo ∨ Reg.PWR_EVT_MODE.lo + 1 ≤ x.lo

section Alarm
variable (s : Block) (cause block inst : Nat) (detail : Word) (snap : List Word)

theorem Block.alarm_f (x : Fld) (hx : x.addr ∈ alarmRegs) (hs : s.listedAt x.addr) (he : x.besideMode) :
    (s.record cause block inst detail snap).enterSafe.f x = s.f x :=
  (Block.enterSafe_f _ x hx (Block.listedAt_record hx hs cause block inst detail snap) he).trans (s.record_f x (powerOnly_sees_alarm hx) ..)

theorem Block.alarm_on (x : Fld) (hx : x.addr ∈ alarmRegs) (hs : s.listedAt x.addr) (he : x.besideMode) :
    (s.record cause block inst detail snap).enterSafe.on x = s.on x := by
  simp only [Block.on, s.alarm_f cause block inst detail snap x hx hs he]

theorem Block.alarm_base (h : s.safeApplies = true) : (s.record cause block inst detail snap).enterSafe.base = modeSafe :=
  Block.enterSafe_base ((s.record_safeApplies ..).trans h)

theorem Block.alarm_outer (h : s.graftPhase = 0) :
    (s.record cause block inst detail snap).enterSafe.outer ⟨false, false, true, false⟩ = s.outer ⟨false, false, true, false⟩ := by
  have hphase : Block.graftPhase _ = s.graftPhase :=
    Block.f_of_outer (s.outer_record ⟨false, true, false, false⟩ cause block inst detail snap) Reg.IMG_GRAFT_STAT_PHASE (by decide)
  exact (Block.enterSafe_still _ (hphase.trans h)).trans (s.outer_record _ ..)

end Alarm

/-! ## The watchdog -/

/-- The block with the expiry and its cause set. -/
def Block.expired (s : Block) : Block := (s.raise Reg.SYS_WDOG_STAT_EXP).raise Reg.PWR_SAFE_WDOG

theorem Block.wdExpire_eq (s : Block) : s.wdExpire = (s.expired.record 0x03 15 0 (s.expired.word Reg.SYS_WDOG_CFG) []).enterSafe := rfl

theorem Block.expired_safeApplies (s : Block) : s.expired.safeApplies = s.safeApplies := by
  rw [Block.expired, Block.raise, Block.raise, Block.put_safeApplies _ _ _ (by decide), Block.put_safeApplies _ _ _ (by decide)]

theorem Block.wdExpire_exp (s : Block) : s.wdExpire.on Reg.SYS_WDOG_STAT_EXP = true := by
  have hlisted : s.expired.listedAt Reg.SYS_WDOG_STAT := Block.listedAt_setW_other (s.listedAt_put Reg.SYS_WDOG_STAT_EXP 1) _ _
  have hexp : s.expired.on Reg.SYS_WDOG_STAT_EXP = true := by
    rw [Block.expired, Block.on, Block.raise_eq _ Reg.PWR_SAFE_WDOG, Block.f_put_addr _ _ _ _ (by decide)]
    exact Block.on_raise_self s _ (by decide) (by decide)
  rw [Block.wdExpire_eq, Block.alarm_on _ _ _ _ _ _ _ (by decide) hlisted (Or.inl (by decide)), hexp]

theorem Block.wdExpire_cause (s : Block) : s.wdExpire.on Reg.PWR_SAFE_WDOG = true := by
  have hlisted : s.expired.listedAt Reg.PWR_SAFE := Block.listedAt_put _ Reg.PWR_SAFE_WDOG 1
  rw [Block.wdExpire_eq, Block.alarm_on _ _ _ _ _ _ _ (by decide) hlisted (Or.inl (by decide))]
  exact Block.on_raise_self _ _ (by decide) (by decide)

theorem Block.wdExpire_base {s : Block} (h : s.safeApplies = true) : s.wdExpire.base = modeSafe :=
  Block.alarm_base _ _ _ _ _ _ (s.expired_safeApplies.trans h)

theorem Block.wdExpire_wdRuns (s : Block) : s.wdExpire.wdRuns = false := by simp [Block.wdRuns, s.wdExpire_exp]

theorem Block.wdExpire_still {s : Block} (h : s.graftPhase = 0) (p : Part)
    (hp : p ∈ [Part.time, Part.host, Part.core, Part.dir, Part.clk, Part.net, Part.pwr, Part.lsn, Part.otp]) : p.same s s.wdExpire := by
  have hphase : s.expired.graftPhase = 0 := by
    rw [Block.graftPhase, Block.expired, Block.raise, Block.raise, Block.f_put_addr _ _ _ _ (by decide), Block.f_put_addr _ _ _ _ (by decide)]
    exact h
  have hexpired : s.expired.outer ⟨false, false, true, false⟩ = s.outer ⟨false, false, true, false⟩ :=
    (Block.outer_raise _ _ _ (Fld.unseen_without_power _ _ _ (by decide) (by decide))).trans
      (Block.outer_raise _ _ _ (Fld.unseen_without_power _ _ _ (by decide) (by decide)))
  exact Block.still_of_outer ((Block.alarm_outer _ _ _ _ _ _ hphase).trans hexpired) rfl p hp

/-! ## The key, the warning and the expiry -/

theorem kick_gives {s : State} (v : Word) (hc : s.coreOn = true) : gives (.kick v) s fun u =>
    (bitsOf v 0 16 ≠ 0x6480 → u.on Reg.SYS_EVT_WDBAD = true ∧ s.only u [Reg.SYS_EVT_WDBAD] []) ∧
    (bitsOf v 0 16 = 0x6480 → s.wdRuns = false → u = s.toBlock) ∧
    (bitsOf v 0 16 = 0x6480 → s.wdRuns = true → s.host.wdLeft ≠ 0 →
      u.host = { s.host with wdLeft := 8 * max 1 (s.f Reg.SYS_WDOG_CFG_PERIOD), wdWarned := false } ∧ s.only u [] [.host]) ∧
    (bitsOf v 0 16 = 0x6480 → s.wdRuns = true → s.host.wdLeft = 0 → u = s.wdExpire) := by
  refine gives_of_hostWrite rfl hc rfl ⟨fun hv => ?_, fun hv hr => ?_, fun hv hr hl => ?_, fun hv hr hl => ?_⟩
  · rw [Block.kickOp, if_pos (by simpa using hv)]
    exact ⟨Block.on_raise_self _ _ (by decide) (by decide), Block.only_raise (s.only_refl _ _) _ (by decide) (by simp)⟩
  · simp [Block.kickOp, hv, hr]
  · rw [Block.kickOp, if_neg (by simp [hv]), if_neg (by simp [hr]), if_neg hl]
    exact ⟨rfl, Block.only_host (s.only_refl _ _) _ (by simp)⟩
  · simp [Block.kickOp, hv, hr, hl]

theorem Block.wdwarnOp_pos {s : Block} (h : s.wdRuns ∧ s.host.wdWarned = false ∧ 2 * s.host.wdLeft ≤ s.wdFull) :
    s.wdwarnOp = (s.raise Reg.SYS_EVT_WDWARN).modHost (fun h => { h with wdWarned := true }) :=
  if_pos (by simpa [and_assoc] using h)

theorem Block.wdwarnOp_neg {s : Block} (h : ¬ (s.wdRuns ∧ s.host.wdWarned = false ∧ 2 * s.host.wdLeft ≤ s.wdFull)) : s.wdwarnOp = s :=
  if_neg (by simpa [and_assoc] using h)

theorem wdwarn_gives (s : State) : gives .wdwarn s fun u =>
    if s.wdRuns ∧ s.host.wdWarned = false ∧ 2 * s.host.wdLeft ≤ 8 * max 1 (s.f Reg.SYS_WDOG_CFG_PERIOD) then
      u.on Reg.SYS_EVT_WDWARN = true ∧ u.host = { s.host with wdWarned := true } ∧ s.only u [Reg.SYS_EVT_WDWARN] [.host]
    else u = s.toBlock := by
  refine gives_of_act rfl rfl ?_
  split
  · next h =>
    rw [Block.wdwarnOp_pos h]
    exact ⟨Block.on_raise_self s.toBlock _ (by decide) (by decide), rfl,
      Block.only_host (Block.only_raise (s.only_refl _ _) _ (by decide) (by simp)) _ (by simp)⟩
  · next h => exact Block.wdwarnOp_neg h

theorem wdogExpiry_gives (s : State) : gives .wdogExpiry s fun u =>
    (s.wdRuns = false ∨ s.host.wdLeft ≠ 0 → u = s.toBlock) ∧
    (s.wdRuns = true → s.host.wdLeft = 0 →
      u.on Reg.SYS_WDOG_STAT_EXP = true ∧ u.on Reg.PWR_SAFE_WDOG = true ∧ (s.safeApplies = true → u.base = modeSafe) ∧ u.wdRuns = false) ∧
    (s.graftPhase = 0 → ∀ p : Part, p ∈ [Part.time, Part.host, Part.core, Part.dir, Part.clk, Part.net, Part.pwr, Part.lsn, Part.otp] →
      p.same s.toBlock u) := by
  refine gives_of_act rfl rfl ⟨fun h => ?_, fun hr hl => ?_, fun hg p hp => ?_⟩
  · rw [Block.wdogExpiryOp, if_neg (by simpa [imp_iff_not_or] using h)]
  · rw [Block.wdogExpiryOp, if_pos (by simp [hr, hl])]
    exact ⟨s.wdExpire_exp, s.wdExpire_cause, Block.wdExpire_base, s.wdExpire_wdRuns⟩
  · unfold Block.wdogExpiryOp
    split
    · exact Block.wdExpire_still hg p hp
    · cases p <;> rfl

/-! ## The software reset -/

theorem rstkey_gives {s : State} (k : BitVec 16) (hc : s.coreOn = true) : gives (.rstkey k) s fun u =>
    if k = 0x6480 then u.host = { s.host with rstReq := true } ∧ s.only u [] [.host] else u = s.toBlock := by
  refine gives_of_hostWrite rfl hc rfl ?_
  split
  · next h =>
    rw [Block.rstkeyOp, if_pos (by rw [h]; rfl)]
    exact ⟨rfl, Block.only_host (s.only_refl _ _) _ (by simp)⟩
  · next h =>
    have hk : k.toNat ≠ 0x6480 := fun he => h (BitVec.eq_of_toNat_eq he)
    rw [Block.rstkeyOp, if_neg hk]

/-- The record of a PIN reset: its kind, its source and the count after `n` resets (R547). -/
def Block.stampReset (s : Block) (src n : Nat) : Block :=
  ((s.put Reg.PWR_RST_KIND 1).put Reg.PWR_RST_SRC src).put Reg.PWR_RST_PINCNT (min 0xFFFF (n + 1))

theorem Block.stampReset_fields (s : Block) (src n : Nat) : (s.stampReset src n).f Reg.PWR_RST_KIND = 1 ∧
    (s.stampReset src n).f Reg.PWR_RST_SRC = src % 8 ∧ (s.stampReset src n).f Reg.PWR_RST_PINCNT = min 0xFFFF (n + 1) := by
  refine ⟨?_, ?_, ?_⟩
  · rw [Block.stampReset, Block.f_put_other _ _ _ _ (by decide) (by decide), Block.f_put_other _ _ _ _ (by decide) (by decide),
      Block.f_put_self _ _ _ (by decide)]
    rfl
  · rw [Block.stampReset, Block.f_put_other _ _ _ _ (by decide) (by decide), Block.f_put_self _ _ _ (by decide)]
    rfl
  · rw [Block.stampReset, Block.f_put_self _ _ _ (by decide)]
    exact Nat.mod_eq_of_lt (lt_of_le_of_lt (Nat.min_le_left _ _) (by decide))

/-- The block that a PIN reset leaves, before its record. -/
def Block.pinCleared (s : Block) : Block :=
  ({ s with regs := Tab.mapAll resetWord s.regs (fun a w => resetKeep (if isProgress a then .sync else .pin) a w) }).afterReset false

theorem Block.pinCleared_parts (s : Block) : s.pinCleared.core = false ∧ s.pinCleared.host.rstReq = false ∧ s.pinCleared.ledger = s.ledger ∧
    s.pinCleared.time.aont = s.time.aont ∧ s.pinCleared.mem.sram = s.mem.sram :=
  ⟨rfl, rfl, rfl, rfl, rfl⟩

theorem Block.pinResetOp_rstkey {s : Block} (hoff : s.base ≠ modeOff) (hdorm : s.base ≠ modeDormant) :
    ∃ g, s.pinResetOp .rstkey = ((s.pinCleared.liveAgain s).stampReset 2 (s.f Reg.PWR_RST_PINCNT)).modPwr g := by
  unfold Block.pinResetOp
  rw [if_neg hoff]
  extract_lets n a b c d
  have hc : c = b := if_neg hdorm
  exact ⟨_, congrArg (fun t => Block.modPwr t _) (congrArg (fun t => Block.stampReset t 2 n) hc)⟩

theorem Block.only_liveAgain_stampReset (r s : Block) (src n : Nat) (g : Pwr → Pwr) :
    r.only (((r.liveAgain s).stampReset src n).modPwr g) [Reg.PWR_RAIL_OK, Reg.PWR_SAFE_OTEMPNOW, Reg.CLOCHE_STAT_SHUT, Reg.PWR_RST_KIND,
      Reg.PWR_RST_SRC, Reg.PWR_RST_PINCNT] [.pwr] := by
  have hlive : r.only (r.liveAgain s) [Reg.PWR_RAIL_OK, Reg.PWR_SAFE_OTEMPNOW, Reg.CLOCHE_STAT_SHUT, Reg.PWR_RST_KIND, Reg.PWR_RST_SRC,
      Reg.PWR_RST_PINCNT] [.pwr] :=
    Block.only_putB (Block.only_put (Block.only_put (r.only_refl _ _) _ _ (by decide) (by simp)) _ _ (by decide) (by simp)) _ _ (by decide) (by simp)
  exact Block.only_pwr (Block.only_put (Block.only_put (Block.only_put hlive _ _ (by decide) (by simp)) _ _ (by decide) (by simp)) _ _
    (by decide) (by simp)) _ (by simp)

/-- A PIN reset by the key, in a mode that is not OFF and does not wake from DORMANT (R521, R544, R546). -/
theorem Block.pinResetOp_outcome {s : Block} (hoff : s.base ≠ modeOff) (hdorm : s.base ≠ modeDormant) :
    ∃ u, s.pinResetOp .rstkey = u ∧ u.core = false ∧ u.host.rstReq = false ∧ u.f Reg.PWR_RST_KIND = 1 ∧ u.f Reg.PWR_RST_SRC = 2 ∧
    u.f Reg.PWR_RST_PINCNT = min 0xFFFF (s.f Reg.PWR_RST_PINCNT + 1) ∧ u.ledger = s.ledger ∧ u.time.aont = s.time.aont ∧ u.mem.sram = s.mem.sram := by
  obtain ⟨g, hg⟩ := Block.pinResetOp_rstkey hoff hdorm
  obtain ⟨hkind, hsrc, hcount⟩ := (s.pinCleared.liveAgain s).stampReset_fields 2 (s.f Reg.PWR_RST_PINCNT)
  obtain ⟨ccore, creq, cledger, caont, csram⟩ := s.pinCleared_parts
  obtain ⟨-, hparts⟩ := s.pinCleared.only_liveAgain_stampReset s 2 (s.f Reg.PWR_RST_PINCNT) g
  have hcore : Block.core _ = _ := hparts .core (by simp)
  have hhost : Block.host _ = _ := hparts .host (by simp)
  have hledger : Block.ledger _ = _ := hparts .ledger (by simp)
  have htime : Block.time _ = _ := hparts .time (by simp)
  have hmem : Block.mem _ = _ := hparts .mem (by simp)
  refine ⟨_, hg, ?_, ?_, (Block.modPwr_f _ _ _).trans hkind, (Block.modPwr_f _ _ _).trans hsrc, (Block.modPwr_f _ _ _).trans hcount, ?_, ?_, ?_⟩
  · rw [hcore, ccore]
  · rw [hhost, creq]
  · rw [hledger, cledger]
  · rw [htime, caont]
  · rw [hmem, csram]

theorem softwareReset_gives (s : State) : gives .softwareReset s fun u =>
    (s.host.rstReq = false → u = s.toBlock) ∧
    (s.host.rstReq = true → s.base ≠ modeOff → s.base ≠ modeDormant → u.core = false ∧ u.host.rstReq = false ∧ u.f Reg.PWR_RST_KIND = 1 ∧ u.f Reg.PWR_RST_SRC = 2 ∧
      u.f Reg.PWR_RST_PINCNT = min 0xFFFF (s.f Reg.PWR_RST_PINCNT + 1) ∧ u.ledger = s.ledger ∧ u.time.aont = s.time.aont ∧ u.mem.sram = s.mem.sram) := by
  refine gives_of_act rfl rfl ⟨fun h => by simp [Block.softResetOp, h], fun h hoff hdorm => ?_⟩
  obtain ⟨u, hu, hall⟩ := Block.pinResetOp_outcome hoff hdorm
  rw [Block.softResetOp, if_pos h, hu]
  exact hall

/-- Settles O15: each command is its operation; an expiry sets its bits before an entry to SAFE, and a graft that completes on the way keeps them. -/
theorem watchdogAndSoftwareReset : Obligations.WatchdogAndSoftwareReset :=
  ⟨⟨fun _ v hc => kick_gives v hc, wdwarn_gives, wdogExpiry_gives⟩, fun _ k hc => rstkey_gives k hc, softwareReset_gives⟩

end Sys2Proof.Machine
end

section
/-! SUPPORT. Rails and overtemperature (R34, R300, R528, R542, R564). -/

namespace Sys2Proof.Machine

/-! ## An event of R34 -/

/-- What an event of R34 brings about: SAFE, and from another mode every output and speaker still. -/
def Block.madeSafe (s u : Block) : Prop :=
  u.base = modeSafe ∧ (s.base ≠ modeSafe → u.on Reg.PWR_EVT_MODE = true ∧ u.inEntry = false ∧
    (∀ o, o < 18 → u.outWeight o = 0 ∧ (u.out o).released = false) ∧ ∀ c, c < 2 → u.spkState c ∈ [spkOff, spkBackoff, spkLocked])

/-- From `s` to `t`, only causes, events and rails have been stored. -/
def Block.flagged (s t : Block) : Prop := s.within t (· ∈ alarmRegs) []

theorem Block.flagged.base {s t : Block} (h : s.flagged t) : t.base = s.base := by
  simp only [Block.base, Block.f, h.1 Reg.PWR_MODE_BASE.addr (by decide)]

theorem Block.flagged.safeApplies {s t : Block} (h : s.flagged t) : t.safeApplies = s.safeApplies := by
  have hcore : t.core = s.core := h.2 .core (by simp)
  rw [Block.safeApplies, Block.safeApplies, h.base, hcore]

theorem Block.flagged.graftPhase {s t : Block} (h : s.flagged t) : t.graftPhase = s.graftPhase := by
  simp only [Block.graftPhase, Block.f, h.1 Reg.IMG_GRAFT_STAT_PHASE.addr (by decide)]

section Alarm
variable {s t : Block} (cause block inst : Nat) (detail : Word) (snap : List Word)

theorem Block.alarm_madeSafe (hst : s.flagged t) (h : s.safeApplies = true) : s.madeSafe (t.record cause block inst detail snap).enterSafe := by
  have ht : t.safeApplies = true := hst.safeApplies.trans h
  refine ⟨t.alarm_base cause block inst detail snap ht, fun hb => ?_⟩
  have hbase : Block.base _ = t.base := t.record_f Reg.PWR_MODE_BASE (by decide) cause block inst detail snap
  exact Block.enterSafe_quiet ((t.record_safeApplies ..).trans ht) (by rw [hbase, hst.base]; exact hb)

theorem Block.alarm_parts (hst : s.flagged t) (h : s.graftPhase = 0) (p : Part)
    (hp : p ∈ [Part.time, Part.host, Part.core, Part.dir, Part.clk, Part.net, Part.pwr, Part.lsn, Part.otp]) :
    p.same s (t.record cause block inst detail snap).enterSafe :=
  Part.same_trans (hst.2 p (by simp)) (Block.still_of_outer (t.alarm_outer cause block inst detail snap (hst.graftPhase.trans h)) rfl p hp)

end Alarm

/-! ## A rail out of range -/

theorem Block.listedAt_raise {s : Block} {a : Nat} (h : s.listedAt a) (x : Fld) : (s.raise x).listedAt a := Block.listedAt_setW_other h _ _

theorem Block.on_put_addr (s : Block) (x y : Fld) (v : Nat) (h : y.addr ≠ x.addr) : (s.put x v).on y = s.on y := by
  simp only [Block.on, s.f_put_addr x y v h]

/-- Whether a rail counts: PVDD only while a speaker is enabled (R542). -/
def Block.watches (s : Block) (r : Nat) : Bool := r != 7 || (List.range 2).any (fun c => s.on (Reg.SPK_CFG_EN c))

/-- The block with the rail's bit cleared, the cause and the event set. -/
def Block.railLost (s : Block) (r : Nat) : Block :=
  (((s.put (Reg.PWR_RAIL_OK.bit r) 0).raise Reg.PWR_SAFE_RAILNOW).raise Reg.PWR_SAFE_RAIL).raise Reg.PWR_EVT_RAIL

theorem Block.watches_iff (s : Block) (r : Nat) : s.watches r = true ↔ (r = 7 → s.on (Reg.SPK_CFG_EN 0) = true ∨ s.on (Reg.SPK_CFG_EN 1) = true) := by
  have hrange : List.range 2 = [0, 1] := rfl
  simp [Block.watches, hrange, imp_iff_not_or]

theorem Block.put_watches (s : Block) (r q v : Nat) : (s.put (Reg.PWR_RAIL_OK.bit q) v).watches r = s.watches r := by
  have hen : ∀ c, (s.put (Reg.PWR_RAIL_OK.bit q) v).on (Reg.SPK_CFG_EN c) = s.on (Reg.SPK_CFG_EN c) := fun c =>
    Block.on_put_addr s _ _ v (by simp only [Reg.SPK_CFG_EN, Reg.SPK_CFG, Fld.bit, Reg.PWR_RAIL_OK, Reg.PWR_RAIL]; omega)
  simp only [Block.watches, hen]

theorem Block.railFaultOp_eq (s : Block) (r : Nat) : s.railFaultOp r =
    if s.watches r && s.safeApplies then ((s.railLost r).record 0x01 0 r ((s.railLost r).word Reg.PWR_RAIL) []).enterSafe
    else s.put (Reg.PWR_RAIL_OK.bit r) 0 := by
  have hsafe : (s.put (Reg.PWR_RAIL_OK.bit r) 0).safeApplies = s.safeApplies := s.put_safeApplies _ _ (by simp only [Fld.bit]; decide)
  unfold Block.railFaultOp
  extract_lets a watched b
  have hwatched : watched = s.watches r := s.put_watches r r 0
  have hb : (b.record 1 0 r (b.word Reg.PWR_RAIL) []).enterSafe =
    ((s.railLost r).record 0x01 0 r ((s.railLost r).word Reg.PWR_RAIL) []).enterSafe := rfl
  rw [hwatched, show a.safeApplies = s.safeApplies from hsafe, hb]
  cases s.watches r <;> cases s.safeApplies <;> rfl

theorem Block.flagged_railLost (s : Block) (r : Nat) : s.flagged (s.railLost r) :=
  Block.within_raise (Block.within_raise (Block.within_raise (Block.within_put (s.within_refl _ _) _ _ (show Reg.PWR_RAIL ∈ alarmRegs by decide)) _
    (by decide)) _ (by decide)) _ (by decide)

theorem Block.railLost_rail (s : Block) {r : Nat} (h : r < 8) : (s.railLost r).f (Reg.PWR_RAIL_OK.bit r) = 0 := by
  have hput : (s.put (Reg.PWR_RAIL_OK.bit r) 0).f (Reg.PWR_RAIL_OK.bit r) = 0 :=
    Block.f_put_self s _ 0 (by simp only [Fld.bit, Reg.PWR_RAIL_OK]; omega)
  rw [Block.railLost, Block.raise, Block.f_put_addr _ _ _ _ (by simp only [Fld.bit]; decide), Block.raise,
    Block.f_put_addr _ _ _ _ (by simp only [Fld.bit]; decide), Block.raise, Block.f_put_addr _ _ _ _ (by simp only [Fld.bit]; decide), hput]

theorem Block.railLost_now (s : Block) (r : Nat) : (s.railLost r).on Reg.PWR_SAFE_RAILNOW = true := by
  rw [Block.railLost, Block.on, Block.raise_eq _ Reg.PWR_EVT_RAIL, Block.f_put_addr _ _ _ _ (by decide), Block.raise_eq _ Reg.PWR_SAFE_RAIL,
    Block.f_put_other _ _ _ _ (by decide) (by decide)]
  exact Block.on_raise_self _ _ (by decide) (by decide)

theorem Block.railLost_cause (s : Block) (r : Nat) : (s.railLost r).on Reg.PWR_SAFE_RAIL = true := by
  rw [Block.railLost, Block.on, Block.raise_eq _ Reg.PWR_EVT_RAIL, Block.f_put_addr _ _ _ _ (by decide)]
  exact Block.on_raise_self _ _ (by decide) (by decide)

theorem Block.railLost_event (s : Block) (r : Nat) : (s.railLost r).on Reg.PWR_EVT_RAIL = true := Block.on_raise_self _ _ (by decide) (by decide)

theorem Block.railLost_listed (s : Block) (r : Nat) :
    (s.railLost r).listedAt Reg.PWR_RAIL ∧ (s.railLost r).listedAt Reg.PWR_SAFE ∧ (s.railLost r).listedAt Reg.PWR_EVT := by
  have hput : (s.put (Reg.PWR_RAIL_OK.bit r) 0).listedAt Reg.PWR_RAIL := s.listedAt_put (Reg.PWR_RAIL_OK.bit r) 0
  exact ⟨Block.listedAt_raise (Block.listedAt_raise (Block.listedAt_raise hput _) _) _,
    Block.listedAt_raise (Block.listedAt_put _ Reg.PWR_SAFE_RAIL 1) _, Block.listedAt_put _ Reg.PWR_EVT_RAIL 1⟩

/-- The parts of a block that neither the modes nor the outputs hold. -/
def stillParts : List Part := [Part.time, Part.host, Part.core, Part.dir, Part.clk, Part.net, Part.pwr, Part.lsn, Part.otp]

theorem railFault_gives (s : State) {r : Nat} (hr : r < 8) : gives (.railFault r) s fun u =>
    u.f (Reg.PWR_RAIL_OK.bit r) = 0 ∧ (s.graftPhase = 0 → ∀ p, p ∈ stillParts → p.same s.toBlock u) ∧
    (s.safeApplies = true → (r = 7 → s.on (Reg.SPK_CFG_EN 0) = true ∨ s.on (Reg.SPK_CFG_EN 1) = true) →
      u.on Reg.PWR_SAFE_RAILNOW = true ∧ u.on Reg.PWR_SAFE_RAIL = true ∧ u.on Reg.PWR_EVT_RAIL = true ∧ s.madeSafe u) ∧
    (s.safeApplies = false ∨ (r = 7 ∧ s.on (Reg.SPK_CFG_EN 0) = false ∧ s.on (Reg.SPK_CFG_EN 1) = false) → s.only u [Reg.PWR_RAIL_OK.bit r] []) := by
  refine gives_of_act (ok := decide (r < 8)) (g := fun b => b.railFaultOp r) rfl (by simpa using hr) ?_
  obtain ⟨hrail, hcause, hevent⟩ := s.railLost_listed r
  rw [Block.railFaultOp_eq]
  split
  · next hc =>
    obtain ⟨hw, hs⟩ : s.watches r = true ∧ s.safeApplies = true := by simpa using hc
    refine ⟨?_, fun hg p hp => Block.alarm_parts _ _ _ _ _ (s.flagged_railLost r) hg p hp, fun _ _ => ⟨?_, ?_, ?_, ?_⟩, fun hn => ?_⟩
    · rw [Block.alarm_f _ _ _ _ _ _ _ (show Reg.PWR_RAIL ∈ alarmRegs by decide) hrail (Or.inl (by simp only [Fld.bit]; decide)), s.railLost_rail hr]
    · rw [Block.alarm_on _ _ _ _ _ _ _ (by decide) hcause (Or.inl (by decide)), s.railLost_now]
    · rw [Block.alarm_on _ _ _ _ _ _ _ (by decide) hcause (Or.inl (by decide)), s.railLost_cause]
    · rw [Block.alarm_on _ _ _ _ _ _ _ (by decide) hevent (Or.inr (by decide)), s.railLost_event]
    · exact Block.alarm_madeSafe _ _ _ _ _ (s.flagged_railLost r) hs
    · have hw := (s.watches_iff r).1 hw
      rcases hn with hn | ⟨h7, h0, h1⟩
      · simp [hs] at hn
      · simp [h0, h1] at hw
        exact absurd h7 hw
  · next hc =>
    have hbit : (Reg.PWR_RAIL_OK.bit r).lo + (Reg.PWR_RAIL_OK.bit r).width ≤ 32 := by
      simp only [Fld.bit, Reg.PWR_RAIL_OK]
      omega
    have honly : s.only (s.put (Reg.PWR_RAIL_OK.bit r) 0) [Reg.PWR_RAIL_OK.bit r] [] := Block.only_put (s.only_refl _ _) _ _ hbit (by simp)
    exact ⟨Block.f_put_self _ _ _ hbit, fun _ p _ => honly.2 p (by simp),
      fun hs hw => absurd (by rw [(s.watches_iff r).2 hw, hs]; rfl) hc, fun _ => honly⟩

/-! ## Overtemperature -/

/-- The block with the cause and the event of overtemperature set. -/
def Block.overheated (s : Block) : Block := ((s.raise Reg.PWR_SAFE_OTEMPNOW).raise Reg.PWR_SAFE_OTEMP).raise Reg.PWR_EVT_OTEMP

theorem Block.flagged_overheated (s : Block) : s.flagged s.overheated :=
  Block.within_raise (Block.within_raise (Block.within_raise (s.within_refl _ _) _ (by decide)) _ (by decide)) _ (by decide)

theorem Block.overheated_now (s : Block) : s.overheated.on Reg.PWR_SAFE_OTEMPNOW = true := by
  rw [Block.overheated, Block.on, Block.raise_eq _ Reg.PWR_EVT_OTEMP, Block.f_put_addr _ _ _ _ (by decide), Block.raise_eq _ Reg.PWR_SAFE_OTEMP,
    Block.f_put_other _ _ _ _ (by decide) (by decide)]
  exact Block.on_raise_self _ _ (by decide) (by decide)

theorem Block.overheated_cause (s : Block) : s.overheated.on Reg.PWR_SAFE_OTEMP = true := by
  rw [Block.overheated, Block.on, Block.raise_eq _ Reg.PWR_EVT_OTEMP, Block.f_put_addr _ _ _ _ (by decide)]
  exact Block.on_raise_self _ _ (by decide) (by decide)

theorem Block.overheated_event (s : Block) : s.overheated.on Reg.PWR_EVT_OTEMP = true := Block.on_raise_self _ _ (by decide) (by decide)

theorem Block.overheated_listed (s : Block) : s.overheated.listedAt Reg.PWR_SAFE ∧ s.overheated.listedAt Reg.PWR_EVT :=
  ⟨Block.listedAt_raise (Block.listedAt_put _ Reg.PWR_SAFE_OTEMP 1) _, Block.listedAt_put _ Reg.PWR_EVT_OTEMP 1⟩

theorem Block.overtempOp_pos {s : Block} {code : SenseCode} (h : s.safeApplies = true) :
    s.overtempOp code = (s.overheated.record 0x02 0 0 (BitVec.ofNat 32 code.toNat) []).enterSafe :=
  if_neg (by simp [h])

theorem Block.overtempOp_neg {s : Block} {code : SenseCode} (h : s.safeApplies = false) : s.overtempOp code = s := if_pos (by simp [h])

theorem overtemp_gives (s : State) (code : SenseCode) : gives (.overtemp code) s fun u =>
    (s.safeApplies = false → u = s.toBlock) ∧ (s.graftPhase = 0 → ∀ p, p ∈ stillParts → p.same s.toBlock u) ∧
    (s.safeApplies = true → u.on Reg.PWR_SAFE_OTEMPNOW = true ∧ u.on Reg.PWR_SAFE_OTEMP = true ∧ u.on Reg.PWR_EVT_OTEMP = true ∧ s.madeSafe u) := by
  refine gives_of_act (ok := true) (g := fun b => b.overtempOp code) rfl rfl ?_
  obtain ⟨hcause, hevent⟩ := s.overheated_listed
  by_cases hs : s.safeApplies = true
  · rw [Block.overtempOp_pos hs]
    refine ⟨fun hn => by simp [hs] at hn, fun hg p hp => Block.alarm_parts _ _ _ _ _ s.flagged_overheated hg p hp, fun _ => ⟨?_, ?_, ?_, ?_⟩⟩
    · rw [Block.alarm_on _ _ _ _ _ _ _ (by decide) hcause (Or.inl (by decide)), s.overheated_now]
    · rw [Block.alarm_on _ _ _ _ _ _ _ (by decide) hcause (Or.inl (by decide)), s.overheated_cause]
    · rw [Block.alarm_on _ _ _ _ _ _ _ (by decide) hevent (Or.inr (by decide)), s.overheated_event]
    · exact Block.alarm_madeSafe _ _ _ _ _ s.flagged_overheated hs
  · rw [Block.overtempOp_neg (by simpa using hs)]
    exact ⟨fun _ => rfl, fun _ p _ => (s.only_refl [] []).2 p (by simp), fun h => absurd h hs⟩

end Sys2Proof.Machine
end

section
/-! SUPPORT. The return of the rails, and the wake that waits for it (R528, R532, R533, R542). -/

namespace Sys2Proof.Machine

/-! ## A wake -/

/-- The registers that the reset of a wake goes through (R11, R533). -/
def wakeClears (a : Nat) : Bool := a != Reg.PWR_MODE && a != Reg.PWR_RAIL && a != Reg.PWR_SAFE && a != Reg.CLOCHE_STAT

theorem Block.wakeReset_outer (s : Block) : s.wakeReset.outer powerOnly = (s.resetRegs .sync wakeClears).outer powerOnly := by
  unfold Block.wakeReset
  extract_lets was a b
  calc _ = b.outer powerOnly := by simp
    _ = a.outer powerOnly := by simp [b]

theorem Block.resetRegs_time (s : Block) (k : ResetKind) (sel : Nat → Bool) : (s.resetRegs k sel).time = s.time := rfl

theorem Block.resetRegs_pwr (s : Block) (k : ResetKind) (sel : Nat → Bool) : (s.resetRegs k sel).pwr = s.pwr := rfl

theorem Block.resetRegs_word_kept (s : Block) (k : ResetKind) (sel : Nat → Bool) {a : Nat} (ha : sel a = false) (hne : s.word a ≠ resetWord a) :
    (s.resetRegs k sel).word a = s.word a :=
  Tab.get_mapAll_kept resetWord (fun a w => if sel a then resetKeep k a w else w) s.regs (fun he => absurd he hne) (by rw [ha]; rfl)

theorem Block.wakeReset_base {s : Block} (h : s.base = modeRest) : s.wakeReset.base = modeRest := by
  have hne : s.word Reg.PWR_MODE ≠ resetWord Reg.PWR_MODE := by
    intro he
    have hb : s.base = bitsOf (resetWord Reg.PWR_MODE) 4 4 := congrArg (fun w => bitsOf w 4 4) he
    rw [h] at hb
    exact absurd hb (by decide)
  have hword : s.wakeReset.word Reg.PWR_MODE = s.word Reg.PWR_MODE :=
    (Block.word_of_outer s.wakeReset_outer (by decide)).trans (s.resetRegs_word_kept _ _ (by decide) hne)
  have hf : s.wakeReset.base = s.base := congrArg (fun w => bitsOf w 4 4) hword
  rw [hf, h]

/-- The block once a wake has begun: the resets done, no entry, the wake marked. -/
def Block.wakeBegun (s : Block) : Block := s.wakeReset.entryEnd.modPwr (fun p => { p with waking := true })

theorem Block.wakeBegun_base {s : Block} (h : s.base = modeRest) : s.wakeBegun.base = modeRest := by
  have hend : s.wakeBegun.base = s.wakeReset.base :=
    (Block.modPwr_f _ _ _).trans ((Block.f_put_other _ _ _ _ (by decide) (by decide)).trans (Block.f_put_other _ _ _ _ (by decide) (by decide)))
  rw [hend, Block.wakeReset_base h]

theorem Block.pwr_modPwr (s : Block) (g : Pwr → Pwr) : (s.modPwr g).pwr = g s.pwr := rfl

theorem Block.wakeBegun_parts (s : Block) : s.wakeBegun.time = s.time ∧ s.wakeBegun.pwr = { s.pwr with waking := true } := by
  have htime : s.wakeReset.time = s.time := (Block.time_of_outer s.wakeReset_outer).trans (s.resetRegs_time _ _)
  have hpwr : s.wakeReset.pwr = s.pwr := (Block.pwr_of_outer s.wakeReset_outer rfl).trans (s.resetRegs_pwr _ _)
  constructor
  · rw [Block.wakeBegun, Block.modPwr_time, Block.entryEnd, Block.put_time, Block.put_time, htime]
  · rw [Block.wakeBegun, Block.pwr_modPwr, Block.entryEnd, Block.put_pwr, Block.put_pwr, hpwr]

/-- The rest of a wake moves neither the mode nor its record. -/
theorem Block.wakeCore_outer {s : Block} (h : s.pwr.waking = false) : s.wakeCore.outer powerOnly = s.wakeBegun.outer powerOnly := by
  unfold Block.wakeCore
  rw [if_neg (by simp [h])]
  extract_lets listen a ins ports b c d e f
  calc _ = f.outer powerOnly := by split <;> simp
    _ = d.outer powerOnly := by simp [f, e]
    _ = b.outer powerOnly := by simp [d, c]
    _ = a.outer powerOnly := a.outer_portsRecord true false false _

/-! ## The rails return -/

/-- The block with the rails taken, and what is no longer so cleared. -/
def Block.railsTaken (s : Block) (rails : BitVec 8) (cool : Bool) : Block :=
  let s := s.put Reg.PWR_RAIL_OK rails.toNat
  let s := s.onlyIf s.railsGood (fun s => s.put Reg.PWR_SAFE_RAILNOW 0)
  s.onlyIf cool (fun s => s.put Reg.PWR_SAFE_OTEMPNOW 0)

theorem Block.railRecoveryOp_eq (s : Block) (rails : BitVec 8) (cool : Bool) : s.railRecoveryOp rails cool =
    if (s.railsTaken rails cool).pwr.wakeHeld then (s.railsTaken rails cool).wakeNow
    else if (s.railsTaken rails cool).base = modeSafe && (s.railsTaken rails cool).img.active.isNone && !(s.railsTaken rails cool).on Reg.PWR_SAFE_RAILNOW &&
      !(s.railsTaken rails cool).on Reg.PWR_SAFE_OTEMPNOW then (((s.railsTaken rails cool).setBase modeLoad).biasFollow.refFollow)
    else s.railsTaken rails cool := rfl

theorem Block.only_railsTaken (s : Block) (rails : BitVec 8) (cool : Bool) :
    s.only (s.railsTaken rails cool) [Reg.PWR_RAIL_OK, Reg.PWR_SAFE_RAILNOW, Reg.PWR_SAFE_OTEMPNOW] [] := by
  have hrails : s.only (s.put Reg.PWR_RAIL_OK rails.toNat) [Reg.PWR_RAIL_OK, Reg.PWR_SAFE_RAILNOW, Reg.PWR_SAFE_OTEMPNOW] [] :=
    Block.only_put (s.only_refl _ _) _ _ (by decide) (by simp)
  have hnow := Block.only_onlyIf (c := (s.put Reg.PWR_RAIL_OK rails.toNat).railsGood) (g := fun s => s.put Reg.PWR_SAFE_RAILNOW 0) hrails
    (fun _ => Block.only_put hrails _ _ (by decide) (by simp))
  exact Block.only_onlyIf hnow (fun _ => Block.only_put hnow _ _ (by decide) (by simp))

theorem Block.onlyIf_put_f (s : Block) (c : Bool) (x y : Fld) (v : Nat) (h : y.addr ≠ x.addr ∨ y.lo + y.width ≤ x.lo ∨ x.lo + x.width ≤ y.lo)
    (hx : x.lo + x.width ≤ 32) : (s.onlyIf c (fun s => s.put x v)).f y = s.f y := by
  cases c
  · rfl
  · rcases h with h | h
    · exact s.f_put_addr x y v h
    · exact s.f_put_other x y v hx h

theorem Block.railsTaken_ok (s : Block) (rails : BitVec 8) (cool : Bool) : (s.railsTaken rails cool).f Reg.PWR_RAIL_OK = rails.toNat := by
  dsimp only [Block.railsTaken]
  rw [Block.onlyIf_put_f _ _ _ _ _ (Or.inl (by decide)) (by decide), Block.onlyIf_put_f _ _ _ _ _ (Or.inl (by decide)) (by decide),
    Block.f_put_self _ _ _ (by decide)]
  exact Nat.mod_eq_of_lt rails.isLt

theorem Block.railsTaken_cool (s : Block) (rails : BitVec 8) : (s.railsTaken rails true).f Reg.PWR_SAFE_OTEMPNOW = 0 :=
  Block.f_put_self _ _ _ (by decide)

/-- A bit of a field reads as that bit of the value stored. -/
theorem Block.on_bit_put (s : Block) (x : Fld) (v : Nat) {i : Nat} (hx : x.lo + x.width ≤ 32) (hi : i < x.width) :
    (s.put x v).on (x.bit i) = v.testBit i := by
  have hsame : (x.bit i).addr = x.addr := rfl
  have hbit : ((s.put x v).f (x.bit i)).testBit 0 = v.testBit i := by
    rw [Block.f, Block.word_put, if_pos hsame]
    rw [bitsOf_testBit, setBits_testBit _ _ _ _ _ hx]
    simp [Fld.bit, hi]
  have hlt : (s.put x v).f (x.bit i) < 2 := bitsOf_lt _ _ 1
  have hcase : (s.put x v).f (x.bit i) = 0 ∨ (s.put x v).f (x.bit i) = 1 := by omega
  rcases hcase with h | h <;> simp [Block.on, h] at hbit ⊢ <;> exact hbit

theorem Block.railsGood_of_all {s : Block} (h : ∀ r, r < 8 → s.on (Reg.PWR_RAIL_OK.bit r) = true) : s.railsGood = true := by
  rw [Block.railsGood, List.all_eq_true]
  intro r hr
  rw [h r (List.mem_range.1 hr), Bool.true_or]

theorem Block.put_rails_on (s : Block) {r : Nat} (h : r < 8) : (s.put Reg.PWR_RAIL_OK (0xFF : BitVec 8).toNat).on (Reg.PWR_RAIL_OK.bit r) = true := by
  rw [Block.on_bit_put _ _ _ (by decide) h]
  interval_cases r <;> rfl

theorem Block.railsTaken_good (s : Block) (cool : Bool) : (s.railsTaken 0xFF cool).railsGood = true := by
  refine Block.railsGood_of_all (fun r hr => ?_)
  have hon : (s.railsTaken 0xFF cool).on (Reg.PWR_RAIL_OK.bit r) = (s.put Reg.PWR_RAIL_OK (0xFF : BitVec 8).toNat).on (Reg.PWR_RAIL_OK.bit r) := by
    dsimp only [Block.railsTaken, Block.on]
    rw [Block.onlyIf_put_f _ _ _ _ _ (Or.inl (by simp only [Fld.bit]; decide)) (by decide),
      Block.onlyIf_put_f _ _ _ _ _ (Or.inl (by simp only [Fld.bit]; decide)) (by decide)]
  rw [hon, s.put_rails_on hr]

theorem Block.railsTaken_now (s : Block) (cool : Bool) : (s.railsTaken 0xFF cool).f Reg.PWR_SAFE_RAILNOW = 0 := by
  have hgood := Block.railsGood_of_all (fun r hr => s.put_rails_on (r := r) hr)
  dsimp only [Block.railsTaken]
  rw [Block.onlyIf_put_f _ _ _ _ _ (Or.inr (by decide)) (by decide), hgood]
  exact Block.f_put_self _ _ _ (by decide)

/-- A SAFE with no image goes on to LOAD: what the registers of the mode and the events do not hold stays. -/
theorem Block.toLoad_keeps (s : Block) (x : Fld) (hx : powerOnly.sees x.addr = true) (hm : x.addr ≠ Reg.PWR_MODE) (he : x.addr ≠ Reg.PWR_EVT) :
    ((s.setBase modeLoad).biasFollow.refFollow).f x = s.f x :=
  (Block.f_of_outer (by simp : _ = (s.setBase modeLoad).outer powerOnly) x hx).trans (s.setBase_f _ x hx hm (Or.inl he))

theorem Block.toLoad_mode (s : Block) : ((s.setBase modeLoad).biasFollow.refFollow).base = modeLoad ∧
    ((s.setBase modeLoad).biasFollow.refFollow).on Reg.PWR_EVT_MODE = true := by
  have hend : ((s.setBase modeLoad).biasFollow.refFollow).outer powerOnly = (s.setBase modeLoad).outer powerOnly := by simp
  exact ⟨(Block.f_of_outer hend Reg.PWR_MODE_BASE (by decide)).trans (s.setBase_base (by decide)),
    (Block.on_of_outer hend Reg.PWR_EVT_MODE (by decide)).trans (s.setBase_event _)⟩

theorem Block.toLoad_parts (s : Block) (p : Part) (hp : p ∈ stillParts ++ [Part.cells, Part.chains, Part.graph, Part.img, Part.sap, Part.spk]) :
    p.same s ((s.setBase modeLoad).biasFollow.refFollow) := by
  have hend : ((s.setBase modeLoad).biasFollow.refFollow).outer ⟨false, true, true, true⟩ = s.outer ⟨false, true, true, true⟩ := by simp
  have hsplit : p ∈ stillParts ∨ p ∈ [Part.cells, Part.chains, Part.graph, Part.sap, Part.spk] ∨ p = .img := by
    simp only [List.mem_append, List.mem_cons, List.not_mem_nil, or_false] at hp ⊢
    tauto
  rcases hsplit with hp | hp | rfl
  · exact Block.still_of_outer hend rfl p hp
  · exact Block.units_of_outer hend rfl p hp
  · exact (Block.image_of_outer hend rfl).1

/-! ## The commands -/

theorem Block.railRecovery_wake {s : Block} (rails : BitVec 8) (cool : Bool) (hheld : s.pwr.wakeHeld = true) (hrest : s.base = modeRest)
    (hwaking : s.pwr.waking = false) (hrails : rails = 0xFF) :
    (s.railRecoveryOp rails cool).pwr.waking = true ∧ (s.railRecoveryOp rails cool).pwr.wakeHeld = false ∧
    (s.railRecoveryOp rails cool).base = modeRest ∧ (s.railRecoveryOp rails cool).time = s.time := by
  subst hrails
  have honly := s.only_railsTaken 0xFF cool
  have hpwr : (s.railsTaken 0xFF cool).pwr = s.pwr := honly.2 .pwr (by simp)
  have htime : (s.railsTaken 0xFF cool).time = s.time := honly.2 .time (by simp)
  have hbase : (s.railsTaken 0xFF cool).base = modeRest :=
    (congrArg (fun w => bitsOf w 4 4) (Block.only_word honly (a := Reg.PWR_MODE) (by decide))).trans hrest
  generalize ht : (s.railsTaken 0xFF cool).modPwr (fun p => { p with wakeHeld := false }) = t
  have htpwr : t.pwr = { s.pwr with wakeHeld := false } := by rw [← ht, Block.modPwr, hpwr]
  have htbase : t.base = modeRest := by rw [← ht]; exact hbase
  have httime : t.time = s.time := by rw [← ht]; exact htime
  have hop : s.railRecoveryOp 0xFF cool = t.wakeCore := by
    rw [Block.railRecoveryOp_eq, hpwr, if_pos hheld, Block.wakeNow, if_neg (by rw [s.railsTaken_good cool]; simp), ht]
    exact if_neg (by rw [htbase]; decide)
  have hend := Block.wakeCore_outer (s := t) (by rw [htpwr]; exact hwaking)
  obtain ⟨hbtime, hbpwr⟩ := t.wakeBegun_parts
  have hpend := (Block.pwr_of_outer hend rfl).trans hbpwr
  rw [hop]
  refine ⟨by rw [hpend], by rw [hpend, htpwr], ?_, ?_⟩
  · exact (Block.f_of_outer hend Reg.PWR_MODE_BASE (by decide)).trans (Block.wakeBegun_base htbase)
  · exact (Block.time_of_outer hend).trans (hbtime.trans httime)

theorem railRecovery_gives (s : State) (rails : BitVec 8) (cool : Bool) : gives (.railRecovery rails cool) s fun u =>
    (s.pwr.wakeHeld = true → s.base = modeRest → s.pwr.waking = false → rails = 0xFF →
      u.pwr.waking = true ∧ u.pwr.wakeHeld = false ∧ u.base = modeRest ∧ u.time = s.time) ∧
    (s.pwr.wakeHeld = false →
    u.f Reg.PWR_RAIL_OK = rails.toNat ∧ (rails = 0xFF → u.f Reg.PWR_SAFE_RAILNOW = 0) ∧ (cool = true → u.f Reg.PWR_SAFE_OTEMPNOW = 0) ∧
    (rails = 0xFF → cool = true → s.base = modeSafe → s.img.active = none → u.base = modeLoad ∧ u.on Reg.PWR_EVT_MODE = true) ∧
    (s.base ≠ modeSafe ∨ s.img.active.isSome = true → s.only u [Reg.PWR_RAIL_OK, Reg.PWR_SAFE_RAILNOW, Reg.PWR_SAFE_OTEMPNOW] []) ∧
    (∀ p, p ∈ stillParts ++ [Part.cells, Part.chains, Part.graph, Part.img, Part.sap, Part.spk] → p.same s.toBlock u)) := by
  refine gives_of_act (ok := true) (g := fun b => b.railRecoveryOp rails cool) rfl rfl
    ⟨fun hheld hrest hwaking hrails => Block.railRecovery_wake rails cool hheld hrest hwaking hrails, fun hheld => ?_⟩
  have honly := s.only_railsTaken rails cool
  have hbase : (s.railsTaken rails cool).base = s.base := congrArg (fun w => bitsOf w 4 4) (Block.only_word honly (a := Reg.PWR_MODE) (by decide))
  have hpwr : (s.railsTaken rails cool).pwr = s.pwr := honly.2 .pwr (by simp)
  have himg : (s.railsTaken rails cool).img = s.img := honly.2 .img (by simp)
  have hok := s.railsTaken_ok rails cool
  have hnow : rails = 0xFF → (s.railsTaken rails cool).f Reg.PWR_SAFE_RAILNOW = 0 := by
    rintro rfl
    exact s.railsTaken_now cool
  have hcool : cool = true → (s.railsTaken rails cool).f Reg.PWR_SAFE_OTEMPNOW = 0 := by
    rintro rfl
    exact s.railsTaken_cool rails
  rw [Block.railRecoveryOp_eq, if_neg (by rw [hpwr, hheld]; simp), hbase, himg]
  split
  · next hload =>
    obtain ⟨⟨⟨hsafe, hnone⟩, -⟩, -⟩ : ((s.base = modeSafe ∧ s.img.active.isNone = true) ∧ _) ∧ _ := by
      simpa only [Bool.and_eq_true, decide_eq_true_eq] using hload
    refine ⟨(Block.toLoad_keeps _ _ (by decide) (by decide) (by decide)).trans hok,
      fun h => (Block.toLoad_keeps _ _ (by decide) (by decide) (by decide)).trans (hnow h),
      fun h => (Block.toLoad_keeps _ _ (by decide) (by decide) (by decide)).trans (hcool h), fun _ _ _ _ => Block.toLoad_mode _, fun hn => ?_,
      fun p hp => Part.same_trans (honly.2 p (by simp)) (Block.toLoad_parts _ p hp)⟩
    rcases hn with hn | hn
    · exact absurd hsafe hn
    · simp [Option.isNone_iff_eq_none.1 hnone] at hn
  · next hload =>
    refine ⟨hok, hnow, hcool, fun hr hc hb ha => absurd ?_ hload, fun _ => honly, fun p _ => honly.2 p (by simp)⟩
    simp [Block.on, hnow hr, hcool hc, hb, ha]

/-- Settles O19: a rail or the die sets its bits and enters SAFE, whose last steps still every output and speaker; a graft that completes on the way
keeps the bits. The return of the rails is a store, then the wake that waits or the way to LOAD. -/
theorem safeEvents : Obligations.SafeEvents :=
  ⟨fun s _ hr => railFault_gives s hr, overtemp_gives, railRecovery_gives⟩

end Sys2Proof.Machine
end

section
/-! SUPPORT. The steps of a load that its commands share: an error, the ledger, the xSPI controller, the clock plan (R495 to R501, R561). -/

namespace Sys2Proof.Machine

/-! ## The ledger -/

theorem Block.only_setEntry {s t : Block} {l : List Fld} {ps : List Part} (h : s.only t l ps) (n : Nat) (x : Option LedgerEntry) (hp : Part.ledger ∈ ps) :
    s.only (t.setEntry n x) l ps := Block.only_ledger h _ hp

/-- A new entry moves the fault registers and the ledger alone (R561, R562). -/
theorem Block.only_newEntry {s t : Block} {l : List Fld} {ps : List Part} (h : s.only t l ps) (hl : faultFlds ⊆ l) (hp : Part.ledger ∈ ps)
    (cause block inst : Nat) (detail : Word) (snap : List Word) : s.only (t.newEntry cause block inst detail snap) l ps := by
  unfold Block.newEntry
  extract_lets i lost e a b c seq
  have ha : s.only a l ps := Block.only_raise (Block.only_setEntry h _ _ hp) _ (by decide) (hl (by decide))
  have hb : s.only b l ps := Block.only_onlyIf ha fun _ =>
    Block.only_raise (Block.only_bump ha _ (by decide) (hl (by decide))) _ (by decide) (hl (by decide))
  have hnewest : s.only (b.put Reg.FLT_STAT_NEWEST i) l ps := Block.only_put hb _ _ (by decide) (hl (by decide))
  have hc : s.only c l ps := Block.only_onlyIf hnewest fun _ => Block.only_bump hnewest _ (by decide) (hl (by decide))
  exact Block.only_ledger hc _ hp

theorem Block.only_record {s t : Block} {l : List Fld} {ps : List Part} (h : s.only t l ps) (hl : faultFlds ⊆ l) (hp : Part.ledger ∈ ps)
    (cause block inst : Nat) (detail : Word) (snap : List Word) : s.only (t.record cause block inst detail snap) l ps := by
  unfold Block.record
  split
  · split
    · exact Block.only_setEntry h _ _ hp
    · exact Block.only_newEntry h hl hp _ _ _ _ _
  · exact Block.only_newEntry h hl hp _ _ _ _ _

/-! ## An error code -/

theorem Block.imgError_fields (s : Block) (code sect detail : Nat) :
    (s.imgError code sect detail).f Reg.IMG_ERR_CODE = code % 256 ∧ (s.imgError code sect detail).f Reg.IMG_ERR_SECT = sect % 16 ∧
    (s.imgError code sect detail).f Reg.IMG_ERRDET_DETAIL = detail % 2 ^ 32 ∧ (s.imgError code sect detail).on Reg.IMG_EVT_ERR = true := by
  refine ⟨?_, ?_, ?_, Block.on_raise_self _ _ (by decide) (by decide)⟩
  · rw [Block.imgError, Block.raise, Block.f_put_addr _ _ _ _ (by decide), Block.f_put_addr _ _ _ _ (by decide),
      Block.f_put_other _ _ _ _ (by decide) (by decide), Block.f_put_self _ _ _ (by decide)]
    rfl
  · rw [Block.imgError, Block.raise, Block.f_put_addr _ _ _ _ (by decide), Block.f_put_addr _ _ _ _ (by decide), Block.f_put_self _ _ _ (by decide)]
    rfl
  · rw [Block.imgError, Block.raise, Block.f_put_addr _ _ _ _ (by decide), Block.f_put_self _ _ _ (by decide)]
    rfl

/-- The fields that an error code moves. -/
def errorFlds : List Fld := [Reg.IMG_ERR_CODE, Reg.IMG_ERR_SECT, Reg.IMG_ERRDET_DETAIL, Reg.IMG_EVT_ERR]

theorem Block.only_imgError {s t : Block} {l : List Fld} {ps : List Part} (h : s.only t l ps) (hl : errorFlds ⊆ l) (code sect detail : Nat) :
    s.only (t.imgError code sect detail) l ps :=
  Block.only_raise (Block.only_put (Block.only_put (Block.only_put h _ _ (by decide) (hl (by decide))) _ _ (by decide) (hl (by decide))) _ _ (by decide)
    (hl (by decide))) _ (by decide) (hl (by decide))

theorem Block.only_imgState {s t : Block} {l : List Fld} {ps : List Part} (h : s.only t l ps) (hl : Reg.IMG_PROG1_STATE ∈ l) (st : Nat) :
    s.only (t.imgState st) l ps := Block.only_put h _ _ (by decide) hl

theorem Block.imgState_self (s : Block) {st : Nat} (h : st < 8) : (s.imgState st).f Reg.IMG_PROG1_STATE = st :=
  (Block.f_put_self s _ st (by decide)).trans (Nat.mod_eq_of_lt h)

/-! ## The controller and the clock plan -/

theorem Block.img_modImg (s : Block) (g : Img → Img) : (s.modImg g).img = g s.img := rfl

/-- The frame of the image registers, the loader's record and the halves of configuration memory. -/
abbrev imageOnly : Aspects := ⟨false, true, false, false⟩

theorem Block.outer_modXspi (s : Block) (g : Xspi → Xspi) : (s.modXspi g).outer imageOnly = s.outer imageOnly := (rfl)

/-- The fields of the controller that follow its accesses. -/
def accessFlds : List Fld := [Reg.XSPI_STAT_BUSY, Reg.XSPI_STAT_MODE_NOW]

theorem Block.xspiFollow_outer (s : Block) : s.xspiFollow.outer imageOnly = s.outer imageOnly := by
  unfold Block.xspiFollow
  extract_lets busy a
  have ha : a.outer imageOnly = s.outer imageOnly := Block.outer_putB _ _ _ _ (Fld.unseen_above _ _ _ (by decide))
  split
  · exact ha
  · split
    · exact ha
    · exact (Block.outer_modXspi _ _).trans ((Block.outer_put _ _ _ _ (Fld.unseen_above _ _ _ (by decide))).trans ha)

theorem Block.only_xspiFollow {s t : Block} {l : List Fld} {ps : List Part} (h : s.only t l ps) (hl : accessFlds ⊆ l) (hp : Part.mem ∈ ps) :
    s.only t.xspiFollow l ps := by
  unfold Block.xspiFollow
  extract_lets busy a
  have ha : s.only a l ps := Block.only_putB h _ _ (by decide) (hl (by decide))
  split
  · exact ha
  · split
    · exact ha
    · exact Block.only_mem (Block.only_put ha _ _ (by decide) (hl (by decide))) _ hp

/-- What the frame of the image reads. -/
theorem Block.on_of_image {s t : Block} (h : t.outer imageOnly = s.outer imageOnly) (x : Fld) (hx : imageReg x.addr = true) : t.on x = s.on x :=
  Block.on_of_outer h x (by simp [Aspects.sees, hx])

theorem Block.f_of_image {s t : Block} (h : t.outer imageOnly = s.outer imageOnly) (x : Fld) (hx : imageReg x.addr = true) : t.f x = s.f x :=
  Block.f_of_outer h x (by simp [Aspects.sees, hx])

theorem Block.img_of_image {s t : Block} (h : t.outer imageOnly = s.outer imageOnly) : t.img = s.img := (Block.image_of_outer h rfl).1

/-- The admission of a first load waits for the clock plan that starts; the registers of the image show it done (R496, R501). -/
theorem Block.startFirst_facts (s : Block) (d : Decoded) : (s.startFirst d).f Reg.IMG_PROG1_STATE = 5 ∧
    (s.startFirst d).img = { s.img with admitWait := some .first } := by
  have hplan : (s.startPlan d).outer imageOnly = s.outer imageOnly := by simp
  have himg : (s.startPlan d).img = s.img := Block.img_of_image hplan
  constructor
  · rw [Block.startFirst, Block.modImg_f, Block.imgState_self _ (by decide)]
  · rw [Block.startFirst, Block.img_modImg, Block.imgState, Block.put_img, himg]

theorem Block.startFirst_f (s : Block) (d : Decoded) (x : Fld) (hx : imageReg x.addr = true) (hs : x.addr ≠ Reg.IMG_PROG1) :
    (s.startFirst d).f x = s.f x := by
  have hplan : (s.startPlan d).outer imageOnly = s.outer imageOnly := by simp
  have hmod : (s.startFirst d).f x = ((s.startPlan d).imgState 5).f x := Block.modImg_f _ _ _
  rw [hmod, Block.imgState, Block.f_put_addr _ _ _ _ hs, Block.f_of_image hplan x hx]

end Sys2Proof.Machine
end

section
/-! SUPPORT. The verified signature, LOAD and DISCARD (R488, R495, R496, R502). -/

namespace Sys2Proof.Machine

/-! ## A load that has passed every check -/

/-- The registers of a load that has passed (R495). -/
def Block.loadPassed (s : Block) : Block := ((s.put Reg.IMG_STAT_LOADING 0).raise Reg.IMG_STAT_SVALID).raise Reg.IMG_EVT_LOADED

theorem Block.loadPassed_fields (s : Block) : s.loadPassed.on Reg.IMG_STAT_LOADING = false ∧ s.loadPassed.on Reg.IMG_STAT_SVALID = true ∧
    s.loadPassed.on Reg.IMG_EVT_LOADED = true := by
  refine ⟨?_, ?_, Block.on_raise_self _ _ (by decide) (by decide)⟩
  · rw [Block.loadPassed, Block.on, Block.raise, Block.f_put_addr _ _ _ _ (by decide), Block.raise, Block.f_put_other _ _ _ _ (by decide) (by decide),
      Block.f_put_self _ _ _ (by decide)]
    rfl
  · rw [Block.loadPassed, Block.on, Block.raise_eq _ Reg.IMG_EVT_LOADED, Block.f_put_addr _ _ _ _ (by decide)]
    exact Block.on_raise_self _ _ (by decide) (by decide)

/-- The block once the shadow is valid, before it waits or is admitted. -/
def Block.shadowValid (s : Block) (l : Load) : Block :=
  (s.loadPassed.modImg (fun m => { m with load := none, shadow := some l.dec })).xspiFollow

theorem Block.finishLoad_eq (s : Block) (l : Load) : s.finishLoad l =
    if (s.shadowValid l).img.active.isNone then (s.shadowValid l).startFirst l.dec else (s.shadowValid l).imgState 5 := rfl

theorem Block.shadowValid_img (s : Block) (l : Load) : (s.shadowValid l).img = { s.img with load := none, shadow := some l.dec } := by
  rw [Block.shadowValid, Block.img_of_image (Block.xspiFollow_outer _), Block.img_modImg, Block.loadPassed, Block.raise_img, Block.raise_img,
    Block.put_img]

theorem Block.shadowValid_on (s : Block) (l : Load) (x : Fld) (hx : imageReg x.addr = true) : (s.shadowValid l).on x = s.loadPassed.on x := by
  rw [Block.shadowValid, Block.on_of_image (Block.xspiFollow_outer _) x hx, Block.modImg_on]

theorem Block.finishLoad_on (s : Block) (l : Load) (x : Fld) (hx : imageReg x.addr = true) (hp : x.addr ≠ Reg.IMG_PROG1) :
    (s.finishLoad l).on x = s.loadPassed.on x := by
  rw [Block.finishLoad_eq, ← s.shadowValid_on l x hx]
  split
  · simp only [Block.on, Block.startFirst_f _ _ x hx hp]
  · exact Block.on_put_addr _ _ _ _ hp

theorem Block.finishLoad_img (s : Block) (l : Load) : (s.finishLoad l).f Reg.IMG_PROG1_STATE = 5 ∧
    (s.finishLoad l).img = { s.img with
      load := none, shadow := some l.dec, admitWait := if s.img.active.isNone then some .first else s.img.admitWait } := by
  have himg := s.shadowValid_img l
  rw [Block.finishLoad_eq]
  simp only [himg]
  split
  · obtain ⟨hstate, hfirst⟩ := (s.shadowValid l).startFirst_facts l.dec
    exact ⟨hstate, by rw [hfirst, himg]⟩
  · exact ⟨Block.imgState_self _ (by decide), by rw [Block.imgState, Block.put_img, himg]⟩

/-! ## A load that fails -/

/-- The registers of a load that has failed (R495, R497). -/
def Block.loadFailed (s : Block) (l : Load) (code detail : Nat) : Block :=
  ((s.imgState 6).imgError code (l.sections % 16) detail).put Reg.IMG_STAT_LOADING 0

theorem Block.loadFailed_fields (s : Block) (l : Load) (code detail : Nat) : (s.loadFailed l code detail).f Reg.IMG_PROG1_STATE = 6 ∧
    (s.loadFailed l code detail).f Reg.IMG_ERR_CODE = code % 256 ∧ (s.loadFailed l code detail).f Reg.IMG_ERR_SECT = l.sections % 16 ∧
    (s.loadFailed l code detail).on Reg.IMG_EVT_ERR = true ∧ (s.loadFailed l code detail).on Reg.IMG_STAT_LOADING = false := by
  obtain ⟨hcode, hsect, -, hevent⟩ := (s.imgState 6).imgError_fields code (l.sections % 16) detail
  have hstate : ((s.imgState 6).imgError code (l.sections % 16) detail).f Reg.IMG_PROG1_STATE = 6 := by
    rw [Block.imgError, Block.raise, Block.f_put_addr _ _ _ _ (by decide), Block.f_put_addr _ _ _ _ (by decide), Block.f_put_addr _ _ _ _ (by decide),
      Block.f_put_addr _ _ _ _ (by decide), Block.imgState_self _ (by decide)]
  refine ⟨?_, ?_, ?_, ?_, ?_⟩
  · rw [Block.loadFailed, Block.f_put_addr _ _ _ _ (by decide), hstate]
  · rw [Block.loadFailed, Block.f_put_addr _ _ _ _ (by decide), hcode]
  · rw [Block.loadFailed, Block.f_put_addr _ _ _ _ (by decide), hsect, Nat.mod_mod]
  · rw [Block.loadFailed, Block.on_put_addr _ _ _ _ (by decide), hevent]
  · rw [Block.loadFailed, Block.on, Block.f_put_self _ _ _ (by decide)]
    rfl

/-- The block after the ledger entry of a failed load. -/
def Block.loadLogged (s : Block) (l : Load) (code detail : Nat) : Block :=
  ((s.loadFailed l code detail).modImg (fun m => { m with load := none, shadow := none })).imgLedger

theorem Block.loadLogged_f (s : Block) (l : Load) (code detail : Nat) (x : Fld) (hx : imageReg x.addr = true) :
    (s.loadLogged l code detail).f x = (s.loadFailed l code detail).f x := by
  rw [Block.loadLogged, Block.imgLedger, Block.f_of_image (Block.outer_record _ _ _ _ _ _ _) x hx, Block.modImg_f]

theorem Block.loadLogged_img (s : Block) (l : Load) (code detail : Nat) :
    (s.loadLogged l code detail).img.load = none ∧ (s.loadLogged l code detail).img.shadow = none := by
  rw [Block.loadLogged, Block.imgLedger, Block.img_of_image (Block.outer_record _ _ _ _ _ _ _), Block.img_modImg]
  exact ⟨rfl, rfl⟩

theorem Block.imgFail_cases (s : Block) (l : Load) (code detail : Nat) :
    s.imgFail l code detail = s.loadLogged l code detail ∨
    s.imgFail l code detail = ((s.loadLogged l code detail).raise Reg.IMG_SRC_FALLBK).xspiFollow ∨
    ∃ t, s.imgFail l code detail = ((s.loadLogged l code detail).modImg (fun m => { m with retryAt := some t })).xspiFollow := by
  unfold Block.imgFail
  extract_lets a b c
  have hb : b = s.loadLogged l code detail := rfl
  have hc : c = if b.f Reg.IMG_SRC_BOOT = 3 then b.raise Reg.IMG_SRC_FALLBK
    else b.modImg (fun m => { m with retryAt := some (b.after (msTicks 1000)) }) := rfl
  clear_value b c
  subst hb
  split
  · exact Or.inl rfl
  · rw [hc]
    split
    · exact Or.inr (Or.inl rfl)
    · exact Or.inr (Or.inr ⟨_, rfl⟩)

theorem Block.imgFail_f (s : Block) (l : Load) (code detail : Nat) (x : Fld) (hx : imageReg x.addr = true) (hs : x.addr ≠ Reg.IMG_SRC) :
    (s.imgFail l code detail).f x = (s.loadFailed l code detail).f x := by
  rw [← s.loadLogged_f l code detail x hx]
  obtain h | h | ⟨t, h⟩ := s.imgFail_cases l code detail
  · rw [h]
  · rw [h, Block.f_of_image (Block.xspiFollow_outer _) x hx, Block.raise, Block.f_put_addr _ _ _ _ hs]
  · rw [h, Block.f_of_image (Block.xspiFollow_outer _) x hx, Block.modImg_f]

theorem Img.retry_dropped (m : Img) (t : Nat) (h : m.load = none ∧ m.shadow = none) :
    ({ m with retryAt := some t } : Img).load = none ∧ ({ m with retryAt := some t } : Img).shadow = none := h

theorem Block.imgFail_img (s : Block) (l : Load) (code detail : Nat) :
    (s.imgFail l code detail).img.load = none ∧ (s.imgFail l code detail).img.shadow = none := by
  have himg := s.loadLogged_img l code detail
  obtain h | h | ⟨t, h⟩ := s.imgFail_cases l code detail
  · rw [h]
    exact himg
  · rw [h, Block.img_of_image (Block.xspiFollow_outer _), Block.raise_img]
    exact himg
  · rw [h, Block.img_of_image (Block.xspiFollow_outer _), Block.img_modImg]
    exact Img.retry_dropped _ t himg

/-! ## SIGNATURE_VERIFIED -/

/-- Whether the signature over the shadow verifies (R488). -/
def Block.signatureGood (s : Block) : Bool :=
  Config.ecdsa (s.shadowBytes 0 (s.tlen - 128)) (s.shadowBytes (s.tlen - 128) 64) (s.shadowBytes (s.tlen - 64) 64)

theorem Block.signatureOp_none {s : Block} (h : s.img.load = none ∨ ∀ l, s.img.load = some l → l.sigAt = none) : s.signatureOp = s := by
  unfold Block.signatureOp
  split
  · rfl
  · next l hl =>
    rcases h with h | h
    · simp [h] at hl
    · simp [h l hl]

theorem Block.signatureOp_some {s : Block} {l : Load} (hl : s.img.load = some l) (hs : l.sigAt.isSome = true) :
    s.signatureOp = if s.signatureGood then s.finishLoad l else s.imgFail l 0x0F 0 := by
  unfold Block.signatureOp
  split
  · next hn => simp [hn] at hl
  · next k hk =>
    obtain rfl : k = l := by simpa [hl] using hk.symm
    exact if_neg (by simpa using Option.isSome_iff_ne_none.1 hs)

theorem signatureVerified_gives (s : State) : gives .signatureVerified s fun u =>
    (s.img.load = none ∨ (∀ l, s.img.load = some l → l.sigAt = none) → u = s.toBlock) ∧
    (∀ l, s.img.load = some l → l.sigAt.isSome = true →
      u.img.load = none ∧ u.on Reg.IMG_STAT_LOADING = false ∧
      (s.signatureGood = true → u.on Reg.IMG_STAT_SVALID = true ∧ u.on Reg.IMG_EVT_LOADED = true ∧ u.img.shadow = some l.dec ∧
        (s.img.active.isSome = true → u.f Reg.IMG_PROG1_STATE = 5) ∧
        (s.img.active = none → u.f Reg.IMG_PROG1_STATE = 5 ∧ u.img.admitWait = some .first)) ∧
      (s.signatureGood = false → u.f Reg.IMG_PROG1_STATE = 6 ∧ u.f Reg.IMG_ERR_CODE = 0x0F ∧ u.f Reg.IMG_ERR_SECT = l.sections % 16 ∧
        u.on Reg.IMG_EVT_ERR = true ∧ u.img.shadow = none)) := by
  refine gives_of_act (ok := true) (g := fun b => b.signatureOp) rfl rfl ⟨Block.signatureOp_none, fun l hl hs => ?_⟩
  rw [Block.signatureOp_some hl hs]
  split
  · next hgood =>
    obtain ⟨hloading, hvalid, hloaded⟩ := s.loadPassed_fields
    obtain ⟨hstate, himg⟩ := s.finishLoad_img l
    refine ⟨by rw [himg], ?_, fun _ => ⟨?_, ?_, by rw [himg], fun _ => hstate, fun hnone => ⟨hstate, by rw [himg]; simp [hnone]⟩⟩,
      fun hbad => by simp [hgood] at hbad⟩
    · rw [s.finishLoad_on l _ (by decide) (by decide), hloading]
    · rw [s.finishLoad_on l _ (by decide) (by decide), hvalid]
    · rw [s.finishLoad_on l _ (by decide) (by decide), hloaded]
  · next hbad =>
    obtain ⟨hstate, hcode, hsect, hevent, hloading⟩ := s.loadFailed_fields l 0x0F 0
    obtain ⟨hload, hshadow⟩ := s.imgFail_img l 0x0F 0
    refine ⟨hload, ?_, fun hgood => absurd hgood hbad, fun _ => ⟨?_, ?_, ?_, ?_, hshadow⟩⟩
    · rw [Block.on, s.imgFail_f l _ _ _ (by decide) (by decide)]
      exact hloading
    · rw [s.imgFail_f l _ _ _ (by decide) (by decide), hstate]
    · rw [s.imgFail_f l _ _ _ (by decide) (by decide), hcode]
    · rw [s.imgFail_f l _ _ _ (by decide) (by decide), hsect]
    · rw [Block.on, s.imgFail_f l _ _ _ (by decide) (by decide)]
      exact hevent

end Sys2Proof.Machine
end

section
/-! SUPPORT. LOAD and DISCARD (R496, R502, R605). -/

namespace Sys2Proof.Machine

/-! ## LOAD -/

/-- A load, a graft or an admission runs (R496). -/
def Block.loadBusy (s : Block) : Prop := s.imgBusy = true ∨ s.img.proving.isSome = true ∨ s.img.admitWait.isSome = true

/-- From `s` to `u` a request is refused with an error code. -/
def Block.refusedWith (s u : Block) (code : Nat) : Prop := u.f Reg.IMG_ERR_CODE = code ∧ u.on Reg.IMG_EVT_ERR = true ∧
  s.only u [Reg.IMG_ERR_CODE, Reg.IMG_ERR_SECT, Reg.IMG_ERRDET_DETAIL, Reg.IMG_EVT_ERR, Reg.PWR_EVT_REQBUSY, Reg.PWR_EVT_REQERR] []

theorem Block.imgError_refused {s t : Block} {code : Nat} (h : s.only t [Reg.IMG_ERR_CODE, Reg.IMG_ERR_SECT, Reg.IMG_ERRDET_DETAIL, Reg.IMG_EVT_ERR,
    Reg.PWR_EVT_REQBUSY, Reg.PWR_EVT_REQERR] []) (hc : code < 256) : s.refusedWith (t.imgError code 0 0) code := by
  obtain ⟨hcode, -, -, hevent⟩ := t.imgError_fields code 0 0
  exact ⟨hcode.trans (Nat.mod_eq_of_lt hc), hevent, Block.only_imgError h (by decide) _ _ _⟩

theorem Block.loadRefused_refused (s : Block) : s.refusedWith s.loadRefused 0x43 := by
  refine Block.imgError_refused ?_ (by decide)
  split
  · exact Block.only_raise (s.only_refl _ _) _ (by decide) (by decide)
  · exact Block.only_raise (s.only_refl _ _) _ (by decide) (by decide)

theorem Block.loadBusy_iff (s : Block) : s.loadBusy ↔ (s.imgBusy || s.img.proving.isSome || s.img.admitWait.isSome) = true := by
  simp [Block.loadBusy, or_assoc]

theorem Block.loadOp_busy {s : Block} (h : s.loadBusy) : s.loadOp = s.imgError 0x43 0 0 := if_pos (s.loadBusy_iff.1 h)

theorem Block.loadOp_free {s : Block} (h : ¬ s.loadBusy) : s.loadOp = match s.img.shadow with
    | none => s.imgError 0x44 0 0
    | some d =>
      if s.loadMoves != 0 then s.loadRefused
      else if s.base = modeLoad && s.img.active.isNone then s.startFirst d
      else (s.imgState 4).modImg (fun m => { m with admitWait := some .load }) := if_neg (mt s.loadBusy_iff.2 h)

theorem load_gives {s : State} (hc : s.coreOn = true) : gives .load s fun u =>
    (s.loadBusy → s.refusedWith u 0x43) ∧ (¬s.loadBusy → s.img.shadow = none → s.refusedWith u 0x44) ∧
    (¬s.loadBusy → s.img.shadow.isSome = true → s.loadMoves ≠ 0 → s.refusedWith u 0x43) ∧
    (¬s.loadBusy → s.img.shadow.isSome = true → s.loadMoves = 0 → s.base ≠ modeLoad ∨ s.img.active.isSome = true →
      u.f Reg.IMG_PROG1_STATE = 4 ∧ u.img = { s.img with admitWait := some .load } ∧ s.only u [Reg.IMG_PROG1_STATE] [.img]) ∧
    (¬s.loadBusy → s.img.shadow.isSome = true → s.base = modeLoad → s.img.active = none → s.loadMoves = 0 →
      u.f Reg.IMG_PROG1_STATE = 5 ∧ u.img.admitWait = some .first) := by
  refine gives_of_hostWrite (ok := true) (g := fun b => b.loadOp) rfl hc rfl
    ⟨fun hb => ?_, fun hb hnone => ?_, fun hb hsome hm => ?_, fun hb hsome hm hmode => ?_, fun hb hsome hbase hnone hm => ?_⟩
  · rw [Block.loadOp_busy hb]
    exact Block.imgError_refused (s.only_refl _ _) (by decide)
  · rw [Block.loadOp_free hb, hnone]
    exact Block.imgError_refused (s.only_refl _ _) (by decide)
  · obtain ⟨d, hd⟩ := Option.isSome_iff_exists.1 hsome
    have hop : s.loadOp = s.loadRefused := by simp [Block.loadOp_free hb, hd, hm]
    rw [hop]
    exact s.loadRefused_refused
  · obtain ⟨d, hd⟩ := Option.isSome_iff_exists.1 hsome
    have hfirst : (decide (s.base = modeLoad) && s.img.active.isNone) = false := by
      rcases hmode with h | h
      · simp [h]
      · simp [h]
    have hop : s.loadOp = (s.imgState 4).modImg (fun m => { m with admitWait := some .load }) := by
      rw [Block.loadOp_free hb, hd]
      simp only [hm, hfirst, bne_self_eq_false, Bool.false_eq_true, if_false]
    rw [hop]
    exact ⟨by rw [Block.modImg_f, Block.imgState_self _ (by decide)], by rw [Block.img_modImg, Block.imgState, Block.put_img],
      Block.only_modImg (Block.only_imgState (s.only_refl _ _) (by simp) _) _ (by simp)⟩
  · obtain ⟨d, hd⟩ := Option.isSome_iff_exists.1 hsome
    have hop : s.loadOp = s.startFirst d := by simp [Block.loadOp_free hb, hd, hm, hbase, hnone]
    obtain ⟨hstate, himg⟩ := s.startFirst_facts d
    rw [hop]
    exact ⟨hstate, by rw [himg]⟩

/-! ## DISCARD -/

/-- The registers of a load that has been dropped (R502). -/
def Block.loadDropped (s : Block) : Block := ((s.put Reg.IMG_STAT_SVALID 0).put Reg.IMG_STAT_LOADING 0).imgState 0

theorem Block.loadDropped_fields (s : Block) : s.loadDropped.on Reg.IMG_STAT_SVALID = false ∧ s.loadDropped.on Reg.IMG_STAT_LOADING = false ∧
    s.loadDropped.f Reg.IMG_PROG1_STATE = 0 := by
  refine ⟨?_, ?_, Block.imgState_self _ (by decide)⟩
  · rw [Block.loadDropped, Block.imgState, Block.on, Block.f_put_addr _ _ _ _ (by decide), Block.f_put_other _ _ _ _ (by decide) (by decide),
      Block.f_put_self _ _ _ (by decide)]
    rfl
  · rw [Block.loadDropped, Block.imgState, Block.on, Block.f_put_addr _ _ _ _ (by decide), Block.f_put_self _ _ _ (by decide)]
    rfl

theorem Block.discardOp_kept {s : Block} (h : s.f Reg.IMG_GRAFT_STAT_PHASE ≠ 0 ∨ s.loadActs = true) : s.discardOp = s :=
  if_pos (by simpa using h)

theorem Block.discardOp_drops {s : Block} (hp : s.f Reg.IMG_GRAFT_STAT_PHASE = 0) (ha : s.loadActs = false) : s.discardOp =
    (s.loadDropped.modImg (fun m => { m with load := none, shadow := none, shadowTable := none, proving := none, admitWait := none })).xspiFollow :=
  if_neg (by simp [hp, ha])

theorem discard_gives {s : State} (hc : s.coreOn = true) : gives .discard s fun u =>
    (s.f Reg.IMG_GRAFT_STAT_PHASE ≠ 0 ∨ s.loadActs = true → u = s.toBlock) ∧
    (s.f Reg.IMG_GRAFT_STAT_PHASE = 0 → s.loadActs = false →
      u.img = { s.img with load := none, shadow := none, shadowTable := none, proving := none, admitWait := none } ∧
      u.on Reg.IMG_STAT_SVALID = false ∧ u.on Reg.IMG_STAT_LOADING = false ∧ u.f Reg.IMG_PROG1_STATE = 0 ∧ u.mem.shadow = s.mem.shadow ∧
      s.only u [Reg.IMG_STAT_SVALID, Reg.IMG_STAT_LOADING, Reg.IMG_PROG1_STATE, Reg.XSPI_STAT_BUSY, Reg.XSPI_STAT_MODE_NOW] [.img, .mem]) := by
  refine gives_of_hostWrite (ok := true) (g := fun b => b.discardOp) rfl hc rfl ⟨Block.discardOp_kept, fun hp ha => ?_⟩
  obtain ⟨hvalid, hloading, hstate⟩ := s.loadDropped_fields
  have hdropped : s.only s.loadDropped [Reg.IMG_STAT_SVALID, Reg.IMG_STAT_LOADING, Reg.IMG_PROG1_STATE, Reg.XSPI_STAT_BUSY, Reg.XSPI_STAT_MODE_NOW]
      [.img, .mem] :=
    Block.only_imgState (Block.only_put (Block.only_put (s.only_refl _ _) _ _ (by decide) (by simp)) _ _ (by decide) (by simp)) (by simp) _
  have hend := Block.xspiFollow_outer (s.loadDropped.modImg
    (fun m => { m with load := none, shadow := none, shadowTable := none, proving := none, admitWait := none }))
  rw [Block.discardOp_drops hp ha]
  refine ⟨?_, ?_, ?_, ?_, ?_, Block.only_xspiFollow (Block.only_modImg hdropped _ (by simp)) (by decide) (by simp)⟩
  · rw [Block.img_of_image hend, Block.img_modImg, Block.loadDropped, Block.imgState, Block.put_img, Block.put_img, Block.put_img]
  · rw [Block.on_of_image hend _ (by decide), Block.modImg_on, hvalid]
  · rw [Block.on_of_image hend _ (by decide), Block.modImg_on, hloading]
  · rw [Block.f_of_image hend _ (by decide), Block.modImg_f, hstate]
  · rw [(Block.image_of_outer hend rfl).2.2, Block.modImg_mem, Block.loadDropped, Block.imgState, Block.put_mem, Block.put_mem, Block.put_mem]

end Sys2Proof.Machine
end

section
/-! SUPPORT. The admission of an image: its beginning and its verdict (R24, R254, R426, R496, R497). -/

namespace Sys2Proof.Machine

/-! ## The offers -/

/-- A request moves the record of requests and the queues (R426). -/
theorem Block.within_request {s t : Block} {sel : Nat → Prop} {ps : List Part} (h : s.within t sel ps) (hp : Part.net ∈ ps) (hsel : sel Reg.TRL_RA_PROG)
    (type dst : Nat) (port : Option Nat) (payload : List Byte) : s.within (t.request type dst port payload) sel ps := by
  unfold Block.request
  extract_lets n k a b
  have ha : s.within a sel ps := by
    simp only [a]
    split
    · exact Block.within_sendOn h _ _ hp
    · exact Block.within_send h _ hp
  have hseq : s.within (a.put Reg.TRL_RA_PROG_SEQTX n) sel ps := Block.within_put ha _ _ hsel
  have hb : s.within b sel ps := Block.within_onlyIf hseq (fun _ => Block.within_modNet hseq _ hp)
  exact Block.within_put (Block.within_put (Block.within_put hb _ _ hsel) _ _ hsel) _ _ hsel

theorem Block.within_sendOffer {s t : Block} {sel : Nat → Prop} {ps : List Part} (h : s.within t sel ps) (hp : Part.net ∈ ps)
    (hsel : sel Reg.TRL_RA_PROG) (r : Tab Word) (admission keep : Bool) {n : Nat} (hn : sel (Reg.TRL_RT_PSTAT n)) :
    s.within (t.sendOffer r admission keep n) sel ps := by
  have hreq := Block.within_request h hp hsel 0x20 0 (some n) (t.offerPayload r admission n)
  have hhs := Block.within_onlyIf (c := !keep) (g := fun s => s.put (Reg.TRL_RT_PSTAT_HS n) 0) hreq (fun _ => Block.within_put hreq _ _ hn)
  exact Block.within_modPort hhs _ _ hp

/-! ## ADMISSION -/

/-- The registers that the beginning of an admission moves. -/
def admissionReg (r : Nat) : Prop := r = Reg.IMG_PROG1 ∨ r = Reg.TRL_RA_PROG ∨ ∃ p, p < 4 ∧ r = Reg.TRL_RT_PSTAT p

/-- The loader's record once an admission runs. -/
def Block.admitting (s : Block) (k : AdmitFor) (d : Decoded) : Img :=
  { s.img with
    proving := some (k, s.time.now), admitWait := none
    early := if k = .graft then s.img.early else s.graftChecks (s.candidate false d) false d }

/-- The block with its admission begun, before the offers. -/
def Block.admissionBegun (s : Block) (k : AdmitFor) (d : Decoded) : Block :=
  (s.imgState 4).modImg (fun m => { m with
    proving := some (k, s.time.now), admitWait := none
    early := if k == .graft then s.img.early else s.graftChecks (s.candidate (k == .graft) d) false d })

theorem Block.admissionBegun_facts (s : Block) (k : AdmitFor) (d : Decoded) :
    (s.admissionBegun k d).f Reg.IMG_PROG1_STATE = 4 ∧ (s.admissionBegun k d).img = s.admitting k d ∧
    s.within (s.admissionBegun k d) admissionReg [.img, .net] := by
  refine ⟨?_, ?_, Block.within_modImg (Block.within_put (s.within_refl _ _) _ _ (Or.inl rfl)) _ (by simp)⟩
  · rw [Block.admissionBegun, Block.modImg_f, Block.imgState_self _ (by decide)]
  · have hearly : (if k == .graft then s.img.early else s.graftChecks (s.candidate (k == .graft) d) false d) =
        if k = .graft then s.img.early else s.graftChecks (s.candidate false d) false d := by
      cases k with
      | graft => exact (if_pos rfl).trans (if_pos rfl).symm
      | first => exact (if_neg (by decide)).trans (if_neg (by decide)).symm
      | load => exact (if_neg (by decide)).trans (if_neg (by decide)).symm
    rw [Block.admissionBegun, Block.img_modImg, Block.imgState, Block.put_img, hearly, Block.admitting]

theorem Block.beginAdmission_cases (s : Block) (k : AdmitFor) (d : Decoded) : s.beginAdmission k d = s.admissionBegun k d ∨
    ∃ (l : List Nat) (r : Tab Word), (∀ p ∈ l, p < 4) ∧ s.beginAdmission k d =
      (s.admissionBegun k d).forAll l (fun p t => t.sendOffer r true t.img.active.isSome p) := by
  unfold Block.beginAdmission
  extract_lets t early a
  have ha : a = s.admissionBegun k d := rfl
  rw [ha]
  split
  · exact Or.inl rfl
  · exact Or.inr ⟨_, t.regs, fun p hp => List.mem_range.1 (List.mem_of_mem_filter hp), rfl⟩

theorem Block.beginAdmission_facts (s : Block) (k : AdmitFor) (d : Decoded) :
    (s.beginAdmission k d).f Reg.IMG_PROG1_STATE = 4 ∧ (s.beginAdmission k d).img = s.admitting k d ∧
    s.within (s.beginAdmission k d) admissionReg [.img, .net] := by
  obtain ⟨hstate, himg, hwithin⟩ := s.admissionBegun_facts k d
  obtain h | ⟨l, r, hl, h⟩ := s.beginAdmission_cases k d
  · rw [h]
    exact ⟨hstate, himg, hwithin⟩
  · have hkeep : ((s.admissionBegun k d).forAll l (fun p t => t.sendOffer r true t.img.active.isSome p)).outer imageOnly =
        (s.admissionBegun k d).outer imageOnly := by simp
    rw [h]
    refine ⟨(Block.f_of_image hkeep _ (by decide)).trans hstate, (Block.img_of_image hkeep).trans himg,
      Block.within_forAll _ _ (fun p hp t ht => Block.within_sendOffer ht (by simp) (Or.inr (Or.inl rfl)) _ _ _ ?_) hwithin⟩
    exact Or.inr (Or.inr ⟨p, hl p hp, rfl⟩)

theorem Block.admissionOp_kept {s : Block} (h : s.img.admitWait = none ∨ s.img.shadow = none ∨ s.planReady s.regs = false ∨
    (s.img.admitWait = some .first ∧ s.base ≠ modeLoad)) : s.admissionOp = s := by
  unfold Block.admissionOp
  split
  · next k d hk hd =>
    refine if_neg ?_
    rcases h with h | h | h | ⟨h, hb⟩
    · simp [h] at hk
    · simp [h] at hd
    · simp [h]
    · obtain rfl : k = .first := by simpa [h] using hk.symm
      simp [hb]
  · rfl

theorem Block.admissionOp_begins {s : Block} {k : AdmitFor} {d : Decoded} (hk : s.img.admitWait = some k) (hd : s.img.shadow = some d)
    (hp : s.planReady s.regs = true) (hb : s.base = modeLoad ∨ k ≠ .first) : s.admissionOp = s.beginAdmission k d := by
  unfold Block.admissionOp
  rw [hk, hd]
  exact if_pos (by simpa [hp] using hb)

theorem admission_gives (s : State) : gives .admission s fun u =>
    (s.img.admitWait = none ∨ s.img.shadow = none ∨ s.planReady s.regs = false ∨ (s.img.admitWait = some .first ∧ s.base ≠ modeLoad) → u = s.toBlock) ∧
    (∀ k d, s.img.admitWait = some k → s.img.shadow = some d → s.planReady s.regs = true → s.base = modeLoad ∨ k ≠ .first →
      u.f Reg.IMG_PROG1_STATE = 4 ∧ u.img = s.admitting k d ∧ s.within u admissionReg [.img, .net]) := by
  refine gives_of_act (ok := true) (g := fun b => b.admissionOp) rfl rfl ⟨Block.admissionOp_kept, fun k d hk hd hp hb => ?_⟩
  rw [Block.admissionOp_begins hk hd hp hb]
  exact s.beginAdmission_facts k d

end Sys2Proof.Machine
end

section
/-! SUPPORT. The verdict of an admission that fails, and that of a graft that passes (R254, R426, R496, R497). -/

namespace Sys2Proof.Machine

/-! ## The end of the admission -/

/-- The block with its admission over, whatever the verdict. -/
def Block.proved (s : Block) : Block := (s.imgState 5).modImg (fun m => { m with proving := none })

theorem Block.proved_img (s : Block) : s.proved.img = { s.img with proving := none } := by
  rw [Block.proved, Block.img_modImg, Block.imgState, Block.put_img]

theorem Block.proved_mem (s : Block) : s.proved.mem = s.mem := by
  rw [Block.proved, Block.modImg_mem, Block.imgState, Block.put_mem]

theorem Block.proved_state (s : Block) : s.proved.f Reg.IMG_PROG1_STATE = 5 := by
  rw [Block.proved, Block.modImg_f, Block.imgState_self _ (by decide)]

theorem Block.only_proved {s t : Block} {l : List Fld} {ps : List Part} (h : s.only t l ps) (hl : Reg.IMG_PROG1_STATE ∈ l) (hp : Part.img ∈ ps) :
    s.only t.proved l ps := Block.only_modImg (Block.only_imgState h hl _) _ hp

/-! ## A verdict against -/

/-- The block after an admission that has failed, a graft's end apart (R497). -/
def Block.admissionFailed (s : Block) (code detail : Nat) : Block := ((s.proved.imgError code 0 detail).imgLedger).handshakesOver

theorem Block.admissionFailed_outer (s : Block) (code detail : Nat) :
    (s.admissionFailed code detail).outer imageOnly = (s.proved.imgError code 0 detail).outer imageOnly := by
  rw [Block.admissionFailed, Block.handshakesOver]
  simp

theorem Block.admissionFailed_img (s : Block) (code detail : Nat) : (s.admissionFailed code detail).img = { s.img with proving := none } := by
  rw [Block.img_of_image (s.admissionFailed_outer code detail), Block.imgError, Block.raise_img, Block.put_img, Block.put_img, Block.put_img, Block.proved_img]

theorem Block.admissionFailed_fields (s : Block) (code detail : Nat) : (s.admissionFailed code detail).f Reg.IMG_PROG1_STATE = 5 ∧
    (s.admissionFailed code detail).f Reg.IMG_ERR_CODE = code % 256 ∧ (s.admissionFailed code detail).f Reg.IMG_ERRDET_DETAIL = detail % 2 ^ 32 ∧
    (s.admissionFailed code detail).on Reg.IMG_EVT_ERR = true := by
  obtain ⟨hcode, -, hdetail, hevent⟩ := s.proved.imgError_fields code 0 detail
  have hstate : (s.proved.imgError code 0 detail).f Reg.IMG_PROG1_STATE = 5 := by
    rw [Block.imgError, Block.raise, Block.f_put_addr _ _ _ _ (by decide), Block.f_put_addr _ _ _ _ (by decide), Block.f_put_addr _ _ _ _ (by decide),
      Block.f_put_addr _ _ _ _ (by decide), Block.proved_state]
  have hkeep := s.admissionFailed_outer code detail
  exact ⟨(Block.f_of_image hkeep _ (by decide)).trans hstate, (Block.f_of_image hkeep _ (by decide)).trans hcode,
    (Block.f_of_image hkeep _ (by decide)).trans hdetail, (Block.on_of_image hkeep _ (by decide)).trans hevent⟩

/-- The fields that a failed admission moves. -/
def failureFlds : List Fld := [Reg.IMG_PROG1_STATE, Reg.IMG_ERR_CODE, Reg.IMG_ERR_SECT, Reg.IMG_ERRDET_DETAIL, Reg.IMG_EVT_ERR, Reg.IMG_EVT_GRAFTEND,
  Reg.IMG_GRAFT_STAT_PHASE, Reg.GRF_SCARF_STAT_FREEZE] ++ faultFlds

theorem Block.only_admissionFailed (s : Block) (code detail : Nat) : s.only (s.admissionFailed code detail) failureFlds [.img, .net, .ledger] := by
  have herror : s.only (s.proved.imgError code 0 detail) failureFlds [.img, .net, .ledger] :=
    Block.only_imgError (Block.only_proved (s.only_refl _ _) (by decide) (by simp)) (by decide) _ _ _
  exact Block.only_forAll _ _ (fun p _ t ht => Block.only_modPort ht _ _ (by simp)) (Block.only_record herror (by decide) (by simp) _ _ _ _ _)

/-! ## The end of a graft -/

theorem Block.graftOver_img (s : Block) : s.graftOver.img = { s.img with graft := {} } := by
  rw [Block.graftOver, Block.raise_img, Block.modGraft, Block.img_modImg, Block.put_img, Block.put_img]

theorem Block.graftOver_phase (s : Block) : s.graftOver.f Reg.IMG_GRAFT_STAT_PHASE = 0 := by
  rw [Block.graftOver, Block.raise, Block.f_put_addr _ _ _ _ (by decide), Block.modGraft, Block.modImg_f, Block.f_put_addr _ _ _ _ (by decide),
    Block.f_put_self _ _ _ (by decide)]
  rfl

theorem Block.graftOver_f (s : Block) (x : Fld) (hg : x.addr ≠ Reg.IMG_GRAFT_STAT) (hf : x.addr ≠ Reg.GRF_SCARF_STAT)
    (he : x.lo + x.width ≤ Reg.IMG_EVT_GRAFTEND.lo ∨ x.addr ≠ Reg.IMG_EVT) : s.graftOver.f x = s.f x := by
  have hraise : ∀ t : Block, (t.raise Reg.IMG_EVT_GRAFTEND).f x = t.f x := fun t => by
    rcases he with he | he
    · exact Block.f_put_other _ _ _ _ (by decide) (Or.inl he)
    · exact Block.f_put_addr _ _ _ _ he
  rw [Block.graftOver, hraise, Block.modGraft, Block.modImg_f, Block.f_put_addr _ _ _ _ hf, Block.f_put_addr _ _ _ _ hg]

theorem Block.only_graftOver {s t : Block} {l : List Fld} {ps : List Part} (h : s.only t l ps)
    (hl : [Reg.IMG_EVT_GRAFTEND, Reg.IMG_GRAFT_STAT_PHASE, Reg.GRF_SCARF_STAT_FREEZE] ⊆ l) (hp : Part.img ∈ ps) : s.only t.graftOver l ps :=
  Block.only_raise (Block.only_modGraft (Block.only_put (Block.only_put h _ _ (by decide) (hl (by decide))) _ _ (by decide) (hl (by decide))) _ hp) _
    (by decide) (hl (by decide))

/-- The outcome of a failed admission: a graft ends with it (R254, R497). -/
def Block.admissionRejected (s : Block) (k : AdmitFor) (code detail : Nat) : Block :=
  if k == .graft then (s.admissionFailed code detail).graftOver else s.admissionFailed code detail

theorem Block.admissionRejected_facts (s : Block) (k : AdmitFor) (code detail : Nat) :
    (s.admissionRejected k code detail).img.proving = none ∧ (s.admissionRejected k code detail).f Reg.IMG_PROG1_STATE = 5 ∧
    (s.admissionRejected k code detail).f Reg.IMG_ERR_CODE = code % 256 ∧ (s.admissionRejected k code detail).f Reg.IMG_ERRDET_DETAIL = detail % 2 ^ 32 ∧
    (s.admissionRejected k code detail).on Reg.IMG_EVT_ERR = true ∧ (s.admissionRejected k code detail).img.active = s.img.active ∧
    (k = .graft → (s.admissionRejected k code detail).f Reg.IMG_GRAFT_STAT_PHASE = 0) ∧
    s.only (s.admissionRejected k code detail) failureFlds [.img, .net, .ledger] := by
  obtain ⟨hstate, hcode, hdetail, hevent⟩ := s.admissionFailed_fields code detail
  have himg := s.admissionFailed_img code detail
  have honly := s.only_admissionFailed code detail
  unfold Block.admissionRejected
  split
  · refine ⟨by rw [Block.graftOver_img, himg], ?_, ?_, ?_, ?_, by rw [Block.graftOver_img, himg], fun _ => Block.graftOver_phase _,
      Block.only_graftOver honly (by decide) (by simp)⟩
    · rw [Block.graftOver_f _ _ (by decide) (by decide) (by decide), hstate]
    · rw [Block.graftOver_f _ _ (by decide) (by decide) (by decide), hcode]
    · rw [Block.graftOver_f _ _ (by decide) (by decide) (by decide), hdetail]
    · rw [Block.on, Block.graftOver_f _ _ (by decide) (by decide) (by decide)]
      exact hevent
  · next hk => exact ⟨by rw [himg], hstate, hcode, hdetail, hevent, by rw [himg], fun h => absurd (by simp [h]) hk, honly⟩

/-! ## A graft that passes -/

/-- The block with ADMITOK, once an admission has passed. -/
def Block.admitted (s : Block) : Block := s.proved.raise Reg.IMG_EVT_ADMITOK

/-- A graft's shadow table, of the candidate with `d` (R255). -/
def Block.graftTable (s : Block) (d : Decoded) : List (Word × Word) × Nat × Nat :=
  ((s.candidate true d).latencyTable d.ceils, s.f Reg.PWR_FRAME_FRAME, s.f Reg.IMG_STAT_GEN + 1)

/-- The outcome of a graft's admission that has passed. -/
def Block.graftAdmitted (s : Block) (d : Decoded) : Block :=
  (s.admitted.modImg (fun m => { m with shadowTable := some (s.admitted.graftTable d) })).graftFreeze

theorem Block.admitted_img (s : Block) : s.admitted.img = { s.img with proving := none } := by
  rw [Block.admitted, Block.raise_img, Block.proved_img]

theorem Block.graftFreeze_img (s : Block) : s.graftFreeze.img = { s.img with graft := { s.img.graft with at' := s.time.now } } := by
  rw [Block.graftFreeze, Block.raise_img, Block.setPhase, Block.modGraft, Block.img_modImg, Block.put_img]

theorem Block.graftAdmitted_img (s : Block) (d : Decoded) : (s.graftAdmitted d).img.proving = none ∧ (s.graftAdmitted d).img.active = s.img.active ∧
    (s.graftAdmitted d).img.shadow = s.img.shadow := by
  rw [Block.graftAdmitted, Block.graftFreeze_img, Block.img_modImg, Block.admitted_img]
  exact ⟨rfl, rfl, rfl⟩

theorem Block.graftAdmitted_fields (s : Block) (d : Decoded) : (s.graftAdmitted d).on Reg.IMG_EVT_ADMITOK = true ∧
    (s.graftAdmitted d).f Reg.IMG_GRAFT_STAT_PHASE = 2 ∧ (s.graftAdmitted d).on Reg.GRF_SCARF_STAT_FREEZE = true := by
  refine ⟨?_, ?_, Block.on_raise_self _ _ (by decide) (by decide)⟩
  · rw [Block.graftAdmitted, Block.graftFreeze, Block.raise, Block.on_put_addr _ _ _ _ (by decide), Block.setPhase, Block.modGraft, Block.modImg_on,
      Block.on_put_addr _ _ _ _ (by decide), Block.modImg_on, Block.admitted]
    exact Block.on_raise_self _ _ (by decide) (by decide)
  · rw [Block.graftAdmitted, Block.graftFreeze, Block.raise, Block.f_put_addr _ _ _ _ (by decide), Block.setPhase, Block.modGraft, Block.modImg_f,
      Block.f_put_self _ _ _ (by decide)]
    rfl

theorem Block.only_graftAdmitted (s : Block) (d : Decoded) :
    s.only (s.graftAdmitted d) [Reg.IMG_PROG1_STATE, Reg.IMG_EVT_ADMITOK, Reg.IMG_GRAFT_STAT_PHASE, Reg.GRF_SCARF_STAT_FREEZE] [.img] := by
  have hadmitted : s.only s.admitted [Reg.IMG_PROG1_STATE, Reg.IMG_EVT_ADMITOK, Reg.IMG_GRAFT_STAT_PHASE, Reg.GRF_SCARF_STAT_FREEZE] [.img] :=
    Block.only_raise (Block.only_proved (s.only_refl _ _) (by decide) (by simp)) _ (by decide) (by decide)
  exact Block.only_raise (Block.only_modGraft (Block.only_put (Block.only_modImg hadmitted _ (by simp)) _ _ (by decide) (by decide)) _ (by simp)) _
    (by decide) (by decide)

end Sys2Proof.Machine
end

section
/-! SUPPORT. The start of an image whose first admission has passed (R496, R497). -/

namespace Sys2Proof.Machine

/-! ## The start of an image -/

theorem Block.setInfo_img (s : Block) (d : Decoded) :
    (s.setInfo d).img = { s.img with active := some d, shadow := none, proving := none, admitWait := none } := by
  rw [Block.setInfo, Block.img_modImg, Block.put_img, Block.setW_img, Block.setW_img, Block.setW_img, Block.put_img, Block.putB_img, Block.putB_img]

theorem Block.setInfo_mem (s : Block) (d : Decoded) : (s.setInfo d).mem = s.mem := by
  rw [Block.setInfo, Block.modImg_mem, Block.put_mem, Block.setW_mem, Block.setW_mem, Block.setW_mem, Block.put_mem, Block.putB_mem, Block.putB_mem]

theorem Block.on_setW_other (s : Block) (a : Nat) (w : Word) (x : Fld) (h : x.addr ≠ a) : (s.setW a w).on x = s.on x := by
  rw [Block.on, Block.f, Block.word_setW_other _ _ h, Block.on, Block.f]

theorem Block.setInfo_shadowInvalid (s : Block) (d : Decoded) : (s.setInfo d).on Reg.IMG_STAT_SVALID = false := by
  rw [Block.setInfo, Block.modImg_on, Block.on_put_addr _ _ _ _ (by decide), Block.on_setW_other _ _ _ _ (by decide),
    Block.on_setW_other _ _ _ _ (by decide), Block.on_setW_other _ _ _ _ (by decide), Block.on, Block.f_put_self _ _ _ (by decide)]
  rfl

theorem Block.graftRegs_mem (s : Block) (live : Bool) (d : Decoded) : (s.graftRegs live d).mem = s.mem :=
  (Block.forAll_keeps (·.mem) _ _ (fun _ t => t.setW_mem _ _) _).trans rfl

theorem Block.exchange_mem (s : Block) : s.exchange.mem.active = s.mem.shadow := rfl

/-- The block of a starting image before its record is set. -/
theorem Block.activateImage_eq (s : Block) (d : Decoded) : ∃ t : Block, t.mem.active = s.mem.shadow ∧
    s.activateImage d = ((t.setInfo d).modImg (fun m => { m with activate := false, graft := {} })).raise Reg.IMG_EVT_ACTIVE := by
  unfold Block.activateImage
  extract_lets b0 b1 b2 b3 b4 b5 b6 b7 b8
  refine ⟨b8, ?_, rfl⟩
  have hkeep : b8.outer imageOnly = (s.bstNewImage.exchange.graftRegs false d).outer imageOnly := by
    calc b8.outer imageOnly = b4.outer imageOnly := by simp [b8, b7, b6, b5]
      _ = b2.outer imageOnly := by simp [b4, b3]
      _ = _ := by simp [b2, b1, b0]
  have hnew : s.bstNewImage.outer imageOnly = s.outer imageOnly := by simp
  rw [(Block.image_of_outer hkeep rfl).2.1, Block.graftRegs_mem, Block.exchange_mem, (Block.image_of_outer hnew rfl).2.2]

/-- An image runs: its half of the memory, its record and its registers (R24, R497). -/
def Block.runs (s : Block) (d : Decoded) (half : Memory) : Prop := s.img.active = some d ∧ s.img.shadow = none ∧ s.img.proving = none ∧
  s.mem.active = half ∧ s.on Reg.IMG_EVT_ACTIVE = true ∧ s.on Reg.IMG_STAT_SVALID = false

theorem Block.activateImage_runs (s : Block) (d : Decoded) : (s.activateImage d).runs d s.mem.shadow := by
  obtain ⟨t, hmem, h⟩ := s.activateImage_eq d
  rw [h]
  refine ⟨?_, ?_, ?_, ?_, Block.on_raise_self _ _ (by decide) (by decide), ?_⟩
  · rw [Block.raise_img, Block.img_modImg, Block.setInfo_img]
  · rw [Block.raise_img, Block.img_modImg, Block.setInfo_img]
  · rw [Block.raise_img, Block.img_modImg, Block.setInfo_img]
  · rw [Block.raise_mem, Block.modImg_mem, Block.setInfo_mem, hmem]
  · rw [Block.raise, Block.on_put_addr _ _ _ _ (by decide), Block.modImg_on, Block.setInfo_shadowInvalid]

theorem Block.runs_of_image {s t : Block} (h : t.outer imageOnly = s.outer imageOnly) {d : Decoded} {half : Memory} (hs : s.runs d half) :
    t.runs d half := by
  obtain ⟨himg, hactive, -⟩ := Block.image_of_outer h rfl
  rw [Block.runs, himg, hactive, Block.on_of_image h _ (by decide), Block.on_of_image h _ (by decide)]
  exact hs

/-! ## The published table -/

theorem Block.publish_cases (s : Block) : s.publish = s ∨ ∃ (p : List (Word × Word)) (n : Nat), s.publish =
    (((s.modImg (fun m => { m with paths := p, pathFrame := n })).bumpWrap Reg.IMG_STAT_GEN).raise Reg.IMG_EVT_LATPUB).modNet
      (fun n => { n with latDue := false }) := by
  unfold Block.publish
  split
  · exact Or.inl rfl
  · exact Or.inr ⟨_, _, rfl⟩

theorem Block.publish_runs {s : Block} {d : Decoded} {half : Memory} (h : s.runs d half) : s.publish.runs d half := by
  obtain hp | ⟨p, n, hp⟩ := s.publish_cases
  · rwa [hp]
  · obtain ⟨hactive, hshadow, hproving, hmem, hevent, hvalid⟩ := h
    rw [hp]
    refine ⟨?_, ?_, ?_, ?_, ?_, ?_⟩
    · rw [Block.modNet_img, Block.raise_img, Block.bumpWrap_img, Block.img_modImg, hactive]
    · rw [Block.modNet_img, Block.raise_img, Block.bumpWrap_img, Block.img_modImg, hshadow]
    · rw [Block.modNet_img, Block.raise_img, Block.bumpWrap_img, Block.img_modImg, hproving]
    · rw [Block.modNet_mem, Block.raise_mem, Block.bumpWrap_mem, Block.modImg_mem, hmem]
    · rw [Block.modNet_on, Block.on, Block.raise, Block.f_put_other _ _ _ _ (by decide) (by decide), Block.bumpWrap,
        Block.f_put_addr _ _ _ _ (by decide), Block.modImg_f]
      exact hevent
    · rw [Block.modNet_on, Block.raise, Block.on_put_addr _ _ _ _ (by decide), Block.bumpWrap, Block.on,
        Block.f_put_other _ _ _ _ (by decide) (by decide), Block.modImg_f]
      exact hvalid

/-! ## READY or PLAY -/

theorem Block.base_of_power {s t : Block} (h : t.outer powerOnly = s.outer powerOnly) : t.base = s.base := Block.f_of_outer h _ (by decide)

/-- The base mode after an entry to READY, which AUTOPLAY takes on to PLAY (R535). -/
theorem Block.enterReady_base (s : Block) (requested : Bool) : (s.enterReady requested).base = modeReady ∨ (s.enterReady requested).base = modePlay := by
  unfold Block.enterReady
  extract_lets a b c
  have ha : a.base = modeReady := by
    have hbase : (s.setBase modeReady).base = modeReady := s.setBase_base (by decide)
    rw [Block.base] at hbase
    rw [Block.base, Block.modNet_f, Block.modPwr_f, hbase]
  have hb : b.base = modeReady := by
    simp only [b]
    split
    · exact (Block.base_of_power (by simp)).trans ha
    · exact ha
  have hend : (c.biasFollow.refFollow.follow).base = c.base := Block.base_of_power (by simp)
  rw [hend]
  simp only [c]
  split
  · exact Or.inr (Block.setBase_base _ (by decide))
  · exact Or.inl hb

theorem Block.activateNow_base (s : Block) (d : Decoded) : (s.activateNow d).base = modeReady ∨ (s.activateNow d).base = modePlay := by
  have hend : (s.activateNow d).base = (((s.activateImage d).riseOutputs).enterReady false).base := Block.base_of_power (Block.outer_publish _ _)
  rw [hend]
  exact Block.enterReady_base _ _

theorem Block.activateNow_runs (s : Block) (d : Decoded) : (s.activateNow d).runs d s.mem.shadow := by
  have hready : (((s.activateImage d).riseOutputs).enterReady false).outer imageOnly = (s.activateImage d).outer imageOnly := by simp
  exact Block.publish_runs (Block.runs_of_image hready (s.activateImage_runs d))

end Sys2Proof.Machine
end

section
/-! SUPPORT. ADMISSION_END by its verdict, and O60. -/

namespace Sys2Proof.Machine

theorem Block.admissionEndOp_kept {s : Block} (h : s.img.proving = none ∨ s.img.shadow = none ∨
    (∃ t, s.img.proving = some (.first, t) ∧ s.base ≠ modeLoad)) : s.admissionEndOp = s := by
  unfold Block.admissionEndOp
  split
  · next k t d hk hd =>
    rcases h with h | h | ⟨n, h, hb⟩
    · simp [h] at hk
    · simp [h] at hd
    · obtain ⟨rfl, rfl⟩ : k = .first ∧ t = n := by simpa [h, eq_comm] using hk
      exact if_pos (by simp [hb])
  · rfl

/-- The outcome of a LOAD's admission that has passed (R496, R502). -/
def Block.loadAdmitted (s : Block) (d : Decoded) : Block :=
  if s.admitted.loadMoves != 0 then s.admitted.loadRefused.handshakesOver
  else
    let s := s.admitted.modImg (fun m => { m with activate := true })
    if s.base = modeLoad then (s.onlyIf (!s.samePlan d) (fun s => s.startPlan d)).tryActivate else s.startEntry modeLoad

/-- What ADMISSION_END makes of a verdict (R254, R496, R497). -/
def Block.judged (s : Block) (k : AdmitFor) (d : Decoded) : Option (Nat × Nat) → Block
  | some (code, detail) => s.admissionRejected k code detail
  | none => match k with
    | .first => s.admitted.activateNow d
    | .graft => s.graftAdmitted d
    | .load => s.loadAdmitted d

theorem Block.admissionEndOp_judged {s : Block} {k : AdmitFor} {t : Nat} {d : Decoded} (hk : s.img.proving = some (k, t)) (hd : s.img.shadow = some d)
    (hb : k ≠ .first ∨ s.base = modeLoad) : s.admissionEndOp = match s.verdict k t d with
      | none => s
      | some r => s.judged k d r := by
  unfold Block.admissionEndOp
  rw [hk, hd]
  refine (if_neg ?_).trans ?_
  · simpa [or_iff_not_imp_left] using hb
  · cases s.verdict k t d with
    | none => rfl
    | some r =>
      cases r with
      | some e => rfl
      | none => cases k <;> rfl

theorem admissionEnd_gives (s : State) : gives .admissionEnd s fun u =>
    (s.img.proving = none ∨ s.img.shadow = none ∨ (∃ t, s.img.proving = some (.first, t) ∧ s.base ≠ modeLoad) → u = s.toBlock) ∧
    (∀ k t d, s.img.proving = some (k, t) → s.img.shadow = some d → k ≠ .first ∨ s.base = modeLoad →
      (s.verdict k t d = none → u = s.toBlock) ∧
      (∀ code detail, s.verdict k t d = some (some (code, detail)) →
        u.img.proving = none ∧ u.f Reg.IMG_PROG1_STATE = 5 ∧ u.f Reg.IMG_ERR_CODE = code % 256 ∧ u.f Reg.IMG_ERRDET_DETAIL = detail % 2 ^ 32 ∧
        u.on Reg.IMG_EVT_ERR = true ∧ u.img.active = s.img.active ∧ u.mem = s.mem ∧ (k = .graft → u.f Reg.IMG_GRAFT_STAT_PHASE = 0) ∧
        s.only u failureFlds [.img, .net, .ledger]) ∧
      (s.verdict k t d = some none →
        (k = .first → u.img.active = some d ∧ u.img.shadow = none ∧ u.img.proving = none ∧ u.mem.active = s.mem.shadow ∧
          (u.base = modeReady ∨ u.base = modePlay) ∧ u.on Reg.IMG_EVT_ACTIVE = true ∧ u.on Reg.IMG_STAT_SVALID = false) ∧
        (k = .graft → u.on Reg.IMG_EVT_ADMITOK = true ∧ u.f Reg.IMG_GRAFT_STAT_PHASE = 2 ∧ u.on Reg.GRF_SCARF_STAT_FREEZE = true ∧
          u.img.proving = none ∧ u.img.active = s.img.active ∧ u.img.shadow = some d ∧
          s.only u [Reg.IMG_PROG1_STATE, Reg.IMG_EVT_ADMITOK, Reg.IMG_GRAFT_STAT_PHASE, Reg.GRF_SCARF_STAT_FREEZE] [.img]))) := by
  refine gives_of_act (ok := true) (g := fun b => b.admissionEndOp) rfl rfl
    ⟨Block.admissionEndOp_kept, fun k t d hk hd hb => ⟨fun hv => ?_, fun code detail hv => ?_, fun hv => ⟨?_, ?_⟩⟩⟩
  · rw [Block.admissionEndOp_judged hk hd hb, hv]
  · have hop : s.admissionEndOp = s.admissionRejected k code detail := by rw [Block.admissionEndOp_judged hk hd hb, hv]; rfl
    obtain ⟨hproving, hstate, hcode, hdetail, hevent, hactive, hphase, honly⟩ := s.admissionRejected_facts k code detail
    rw [hop]
    exact ⟨hproving, hstate, hcode, hdetail, hevent, hactive, honly.2 .mem (by decide), hphase, honly⟩
  · rintro rfl
    have hop : s.admissionEndOp = s.admitted.activateNow d := by rw [Block.admissionEndOp_judged hk hd hb, hv]; rfl
    have hmem : s.admitted.mem = s.mem := by rw [Block.admitted, Block.raise_mem, Block.proved_mem]
    obtain ⟨hactive, hshadow, hproving, hhalf, hevent, hvalid⟩ := s.admitted.activateNow_runs d
    rw [hop]
    exact ⟨hactive, hshadow, hproving, by rw [hhalf, hmem], s.admitted.activateNow_base d, hevent, hvalid⟩
  · rintro rfl
    have hop : s.admissionEndOp = s.graftAdmitted d := by rw [Block.admissionEndOp_judged hk hd hb, hv]; rfl
    obtain ⟨hproving, hactive, hshadow⟩ := s.graftAdmitted_img d
    obtain ⟨hevent, hphase, hfreeze⟩ := s.graftAdmitted_fields d
    rw [hop]
    exact ⟨hevent, hphase, hfreeze, hproving, hactive, hshadow.trans hd, s.only_graftAdmitted d⟩

/-- Settles O60: one lemma for each of the five, from the steps that the verdict of an admission leads to. -/
theorem imageAdmission : Obligations.ImageAdmission :=
  ⟨signatureVerified_gives, admission_gives, admissionEnd_gives, fun _ hc => load_gives hc, fun _ hc => discard_gives hc⟩

end Sys2Proof.Machine
end

section
/-! SUPPORT. Frames that follow one another, and what a field reads as across a frame. -/

namespace Sys2Proof.Machine

/-- Two fields share no bit. -/
def Fld.apart (x y : Fld) : Prop := x.addr ≠ y.addr ∨ x.lo + x.width ≤ y.lo ∨ y.lo + y.width ≤ x.lo

variable {s t u : Block} {l l' : List Fld} {ps ps' : List Part} {sel sel' : Nat → Prop}

/-- A field that shares no bit with a frame reads as before. -/
theorem Block.only_f (h : s.only t l ps) {y : Fld} (hy : ∀ x ∈ l, x.apart y) : t.f y = s.f y := by
  apply Nat.eq_of_testBit_eq
  intro i
  rw [Block.f, Block.f, bitsOf_testBit, bitsOf_testBit]
  by_cases hi : i < y.width
  · rw [BitVec.testBit_toNat, BitVec.testBit_toNat, h.1 y.addr (y.lo + i)]
    rw [List.any_eq_false]
    intro x hx
    simp only [Fld.covers, Bool.and_eq_true, beq_iff_eq, decide_eq_true_eq, not_and]
    intro ha hlo
    have := hy x hx
    unfold Fld.apart at this
    omega
  · simp [hi]

theorem Block.only_on (h : s.only t l ps) {y : Fld} (hy : ∀ x ∈ l, x.apart y) : t.on y = s.on y := by
  rw [Block.on, Block.on, Block.only_f h hy]

/-- One frame after another, the second within the first. -/
theorem Block.only_then (h : s.only t l ps) (h' : t.only u l' ps') (hl : l' ⊆ l) (hp : ps' ⊆ ps) : s.only u l ps :=
  Block.only_trans h (Block.only_mono h' hl hp)

/-- A frame by fields after one by registers. -/
theorem Block.within_then (h : s.within t sel ps) (h' : t.only u l ps') (hl : ∀ x ∈ l, sel x.addr) (hp : ps' ⊆ ps) : s.within u sel ps :=
  Block.within_trans h (Block.within_of_only (Block.only_mono h' (List.Subset.refl l) hp) hl)

theorem Block.within_mono (h : s.within t sel ps) (hs : ∀ a, sel a → sel' a) (hp : ps ⊆ ps') : s.within t sel' ps' :=
  ⟨fun a ha => h.1 a (fun hn => ha (hs a hn)), fun p hn => h.2 p (fun hm => hn (hp hm))⟩

/-- A field of a register outside a frame reads as before. -/
theorem Block.within_f (h : s.within t sel ps) {y : Fld} (hy : ¬ sel y.addr) : t.f y = s.f y := by
  rw [Block.f, Block.f, h.1 _ hy]

end Sys2Proof.Machine
end

section
/-! SUPPORT. The operations that the faults and slices of converter cells share: the fields and records that each moves, and what it leaves alone
(R39, R49, R58, R59, R62 to R65, R72 to R77). -/

namespace Sys2Proof.Machine

/-! ## The registers moved -/

/-- The fields of a cell's role. -/
def roleFlds (k : Nat) : List Fld := [Reg.CELL_CFG_ROLE k, Reg.CELL_CFG_SLOT k]

/-- The fields of a cell that is marked failed (R76). -/
def failFlds (k : Nat) : List Fld := Reg.CELL_STAT_FAILED k :: Reg.CELL_FAILCNT_FAILS k :: roleFlds k

/-- The fields of the upkeep of a group: its status, DEGRADED with its ledger entry, the skews of its cells (R47, R49, R73, R77). -/
def upkeepFlds (g : Nat) : List Fld :=
  [Reg.CELL_GRP_STAT_SPARE g, Reg.CELL_GRP_STAT_NEXT g, Reg.CELL_GRP_STAT_CALV g, Reg.CELL_GRP_STAT_DEGRADED g, Reg.CELL_GRP_STAT_NO_ROT g,
   Reg.CELL_GRP_EVT_DEGR g] ++ faultFlds ++ (groupCells g).map Reg.CELL_SKEW_SKEW

/-- The events and counters of a verdict on a slice (R65, R77, R555). -/
def verdictFlds (g : Nat) : List Fld :=
  [Reg.CELL_GRP_EVT_SLPASS g, Reg.CELL_GRP_CNT_PASS g, Reg.CELL_GRP_EVT_SLFAIL g, Reg.CELL_GRP_CNT_FAIL g, Reg.BST_FAILCNT_FAIL 0, Reg.BST_EVT_FAIL,
   Reg.CELL_GRP_EVT_SLINC g, Reg.CELL_GRP_CNT_INC g, Reg.BST_FAILCNT_INC 0] ++ faultFlds

/-- The progress record of a slice that ends (R65, R77). -/
def progressFlds (k : Nat) : List Fld := [Reg.CELL_SLICE_PHASE k, Reg.CELL_SLICE_DONE k, Reg.CELL_STAT_LAST k, Reg.CELL_GLB_STAT_BUSY]

/-- The registers that faults and slices of cells move: those of `cellMoves` but the counts of conversions and what is learnt or measured. -/
def faultMoves (a : Nat) : Prop :=
  a = Reg.CELL_GLB_STAT ∨ a = Reg.BST_EVT ∨ a = Reg.BST_FAILCNT 0 ∨ faultRegs a ∨
  ∃ i, a ∈ [Reg.CELL_CFG i, Reg.CELL_STAT i, Reg.CELL_SKEW i, Reg.CELL_SLICE i, Reg.CELL_FAILCNT i, Reg.CELL_GRP_STAT i, Reg.CELL_GRP_EVT i,
    Reg.CELL_GRP_CNT i]

theorem cellMoves_of_faultMoves {a : Nat} (h : faultMoves a) : cellMoves a := by
  obtain h | h | h | h | ⟨i, h⟩ := h
  · exact .inl h
  · exact .inr (.inl h)
  · exact .inr (.inr (.inr ⟨0, by simp [h]⟩))
  · exact .inr (.inr (.inl h))
  · refine .inr (.inr (.inr ⟨i, ?_⟩))
    simp only [List.mem_cons, List.not_mem_nil, or_false] at h ⊢
    tauto

/-- A field at the register of a cell, of a group, of the ledger or of the self-test. -/
theorem faultMoves_of_unit {a : Nat} (i : Nat) (h : a ∈ [Reg.CELL_CFG i, Reg.CELL_STAT i, Reg.CELL_SKEW i, Reg.CELL_SLICE i, Reg.CELL_FAILCNT i,
    Reg.CELL_GRP_STAT i, Reg.CELL_GRP_EVT i, Reg.CELL_GRP_CNT i]) : faultMoves a := .inr (.inr (.inr (.inr ⟨i, h⟩)))

theorem faultFlds_moved : ∀ x ∈ faultFlds, faultMoves x.addr := by
  have h : ∀ x ∈ faultFlds, faultRegs x.addr := by simp [faultFlds, faultRegs, Reg.FLT_EVT_NEW, Reg.FLT_EVT_LOST, Reg.FLT_STAT_COUNT,
    Reg.FLT_STAT_NEWEST, Reg.FLT_STAT_LOST]
  exact fun x hx => .inr (.inr (.inr (.inl (h x hx))))

theorem roleFlds_moved (k : Nat) : ∀ x ∈ roleFlds k, faultMoves x.addr := by
  intro x hx
  refine faultMoves_of_unit k ?_
  simp only [roleFlds, List.mem_cons, List.not_mem_nil, or_false] at hx
  rcases hx with rfl | rfl <;> simp [Reg.CELL_CFG_ROLE, Reg.CELL_CFG_SLOT]

theorem failFlds_moved (k : Nat) : ∀ x ∈ failFlds k, faultMoves x.addr := by
  intro x hx
  simp only [failFlds, List.mem_cons] at hx
  rcases hx with rfl | rfl | hx
  · exact faultMoves_of_unit k (by simp [Reg.CELL_STAT_FAILED])
  · exact faultMoves_of_unit k (by simp [Reg.CELL_FAILCNT_FAILS])
  · exact roleFlds_moved k x hx

theorem upkeepFlds_moved (g : Nat) : ∀ x ∈ upkeepFlds g, faultMoves x.addr := by
  intro x hx
  simp only [upkeepFlds, List.mem_append, List.mem_map] at hx
  obtain (hx | hx) | ⟨k, -, rfl⟩ := hx
  · refine faultMoves_of_unit g ?_
    simp only [List.mem_cons, List.not_mem_nil, or_false] at hx
    rcases hx with rfl | rfl | rfl | rfl | rfl | rfl <;>
      simp [Reg.CELL_GRP_STAT_SPARE, Reg.CELL_GRP_STAT_NEXT, Reg.CELL_GRP_STAT_CALV, Reg.CELL_GRP_STAT_DEGRADED, Reg.CELL_GRP_STAT_NO_ROT,
        Reg.CELL_GRP_EVT_DEGR]
  · exact faultFlds_moved x hx
  · exact faultMoves_of_unit k (by simp [Reg.CELL_SKEW_SKEW])

theorem verdictFlds_moved (g : Nat) : ∀ x ∈ verdictFlds g, faultMoves x.addr := by
  intro x hx
  simp only [verdictFlds, List.mem_append, List.mem_cons, List.not_mem_nil, or_false] at hx
  rcases hx with (rfl | rfl | rfl | rfl | rfl | rfl | rfl | rfl | rfl) | hx
  · exact faultMoves_of_unit g (by simp [Reg.CELL_GRP_EVT_SLPASS])
  · exact faultMoves_of_unit g (by simp [Reg.CELL_GRP_CNT_PASS])
  · exact faultMoves_of_unit g (by simp [Reg.CELL_GRP_EVT_SLFAIL])
  · exact faultMoves_of_unit g (by simp [Reg.CELL_GRP_CNT_FAIL])
  · exact .inr (.inr (.inl rfl))
  · exact .inr (.inl rfl)
  · exact faultMoves_of_unit g (by simp [Reg.CELL_GRP_EVT_SLINC])
  · exact faultMoves_of_unit g (by simp [Reg.CELL_GRP_CNT_INC])
  · exact .inr (.inr (.inl rfl))
  · exact faultFlds_moved x hx

theorem progressFlds_moved (k : Nat) : ∀ x ∈ progressFlds k, faultMoves x.addr := by
  intro x hx
  simp only [progressFlds, List.mem_cons, List.not_mem_nil, or_false] at hx
  rcases hx with rfl | rfl | rfl | rfl
  · exact faultMoves_of_unit k (by simp [Reg.CELL_SLICE_PHASE])
  · exact faultMoves_of_unit k (by simp [Reg.CELL_SLICE_DONE])
  · exact faultMoves_of_unit k (by simp [Reg.CELL_STAT_LAST])
  · exact .inl rfl

/-! ## The frame of each operation -/

variable (s : Block)

theorem Block.only_setRole (k role slot : Nat) : s.only (s.setRole k role slot) (roleFlds k) [] :=
  Block.only_put (Block.only_put (s.only_refl _ _) _ _ (by simp [Reg.CELL_CFG_ROLE]) (by simp [roleFlds])) _ _ (by simp [Reg.CELL_CFG_SLOT])
    (by simp [roleFlds])

theorem Block.only_markFailed (k : Nat) : s.only (s.markFailed k) (failFlds k) [.cells] := by
  have hraise : s.only (s.raise (Reg.CELL_STAT_FAILED k)) (failFlds k) [.cells] :=
    Block.only_raise (s.only_refl _ _) _ (by simp [Reg.CELL_STAT_FAILED]) (by simp [failFlds])
  have hbump := Block.only_bump hraise (Reg.CELL_FAILCNT_FAILS k) (by simp [Reg.CELL_FAILCNT_FAILS]) (by simp [failFlds])
  exact Block.only_modCell (Block.only_then hbump (Block.only_setRole _ k roleOff 0) (by simp [failFlds]) (by simp)) _ _ (by simp)

theorem Block.only_refreshGroup (g : Nat) : s.only (s.refreshGroup g) (upkeepFlds g) [] :=
  Block.only_put (Block.only_put (s.only_refl _ _) _ _ (by simp [Reg.CELL_GRP_STAT_SPARE]) (by simp [upkeepFlds])) _ _
    (by simp [Reg.CELL_GRP_STAT_NEXT]) (by simp [upkeepFlds])

theorem Block.only_refreshCalv (g : Nat) : s.only (s.refreshCalv g) (upkeepFlds g) [] := by
  unfold Block.refreshCalv
  split
  · exact Block.only_putB (s.only_refl _ _) _ _ (by simp [Reg.CELL_GRP_STAT_CALV]) (by simp [upkeepFlds])
  · exact s.only_refl _ _

theorem faultFlds_subset_upkeepFlds (g : Nat) : faultFlds ⊆ upkeepFlds g := fun x hx => by simp [upkeepFlds, hx]

theorem faultFlds_subset_verdictFlds (g : Nat) : faultFlds ⊆ verdictFlds g := fun x hx => by simp [verdictFlds, hx]

theorem Block.only_degradeCheck (g : Nat) : s.only (s.degradeCheck g) (upkeepFlds g) [.ledger] := by
  unfold Block.degradeCheck
  split
  · have hdegraded : s.only (s.raise (Reg.CELL_GRP_STAT_DEGRADED g)) (upkeepFlds g) [.ledger] :=
      Block.only_raise (s.only_refl _ _) _ (by simp [Reg.CELL_GRP_STAT_DEGRADED]) (by simp [upkeepFlds])
    have hstop := Block.only_raise hdegraded (Reg.CELL_GRP_STAT_NO_ROT g) (by simp [Reg.CELL_GRP_STAT_NO_ROT]) (by simp [upkeepFlds])
    exact Block.only_record (Block.only_raise hstop (Reg.CELL_GRP_EVT_DEGR g) (by simp [Reg.CELL_GRP_EVT_DEGR]) (by simp [upkeepFlds]))
      (faultFlds_subset_upkeepFlds g) (by simp) _ _ _ _ _
  · exact s.only_refl _ _

theorem Block.only_redegrade (g : Nat) : s.only (s.redegrade g) (upkeepFlds g) [.ledger] := by
  unfold Block.redegrade
  split
  · exact s.only_degradeCheck g
  · exact Block.only_put (Block.only_put (s.only_refl _ _) _ _ (by simp [Reg.CELL_GRP_STAT_DEGRADED]) (by simp [upkeepFlds])) _ _
      (by simp [Reg.CELL_GRP_STAT_NO_ROT]) (by simp [upkeepFlds])

/-- Seeking a spare lets a cell wait for its promotion, or leaves the group degraded (R72, R73). -/
theorem Block.seekSpare_cases (g : Nat) :
    s.seekSpare g = s ∨ s.seekSpare g = s.degradeCheck g ∨ ∃ k, s.seekSpare g = s.modCell k (fun c => { c with waitPromo := true }) := by
  unfold Block.seekSpare
  split
  · exact .inl rfl
  · dsimp only
    split
    · split
      · exact .inr (.inl rfl)
      · exact .inr (.inr ⟨_, rfl⟩)
    · exact .inr (.inl rfl)

theorem Block.only_seekSpare (g : Nat) : s.only (s.seekSpare g) (upkeepFlds g) [.cells, .ledger] := by
  obtain h | h | ⟨k, h⟩ := s.seekSpare_cases g <;> rw [h]
  · exact s.only_refl _ _
  · exact Block.only_mono (s.only_degradeCheck g) (List.Subset.refl _) (by simp)
  · exact Block.only_modCell (s.only_refl _ _) _ _ (by simp)

theorem Block.only_recentre (g : Nat) : s.only (s.recentre g) (upkeepFlds g) [] := by
  unfold Block.recentre
  split
  · exact s.only_refl _ _
  · exact Block.only_forAll _ _ (fun k hk t ht => Block.only_putInt ht _ _ (by simp [Reg.CELL_SKEW_SKEW])
      (List.mem_append_right _ (List.mem_map_of_mem hk))) (s.only_refl _ _)

theorem Block.only_holdZero (g : Nat) : s.only (s.holdZero g) [Reg.CELL_GRP_STAT_HOLDZ g] [.cells] :=
  Block.only_modGrp (Block.only_raise (s.only_refl _ _) _ (by simp [Reg.CELL_GRP_STAT_HOLDZ]) (by simp)) _ _ (by simp)

theorem Block.only_startZeroChecks (g now : Nat) : s.only (s.startZeroChecks g now) [Reg.CELL_GRP_STAT_HOLDZ g] [.cells] :=
  Block.only_modGrp (Block.only_put (s.only_refl _ _) _ _ (by simp [Reg.CELL_GRP_STAT_HOLDZ]) (by simp)) _ _ (by simp)

theorem Block.only_startRetarget (g spare slot failed : Nat) (shadows recover : Bool) :
    s.only (s.startRetarget g spare slot failed shadows recover) [Reg.CELL_CFG_SLOT spare] [.cells] :=
  Block.only_modGrp (Block.only_put (s.only_refl _ _) _ _ (by simp [Reg.CELL_CFG_SLOT]) (by simp)) _ _ (by simp)

theorem Block.only_bstNote (target item verdict : Nat) : s.only (s.bstNote target item verdict) [] [.bst] :=
  Block.only_modBst (s.only_refl _ _) _ (by simp)

/-! ## The end of a slice -/

/-- The record of a slice that ends, before its verdict's events (R65, R77). -/
def Block.sliceOver (s : Block) (sl : Slice) (verdict : Nat) (done : Bool) : Block :=
  let s := { s with cells := { s.cells with slice := none } }
  let s := ((s.put (Reg.CELL_SLICE_PHASE sl.cell) 4).putB (Reg.CELL_SLICE_DONE sl.cell) done).put (Reg.CELL_STAT_LAST sl.cell) verdict
  (s.put Reg.CELL_GLB_STAT_BUSY 0).bstNote 0 sl.cell verdict

/-- The events and counters of a verdict (R65, R555). -/
def Block.verdictNoted (s : Block) (sl : Slice) (verdict : Nat) : Block :=
  if verdict = 1 then (s.raise (Reg.CELL_GRP_EVT_SLPASS sl.group)).bump (Reg.CELL_GRP_CNT_PASS sl.group)
  else if verdict = 2 then
    ((((s.raise (Reg.CELL_GRP_EVT_SLFAIL sl.group)).bump (Reg.CELL_GRP_CNT_FAIL sl.group)).bump (Reg.BST_FAILCNT_FAIL 0)).raise
      Reg.BST_EVT_FAIL).record 0x60 12 0 (BitVec.ofNat 32 (s.f (Reg.CELL_SLICE_SLICE_ID sl.cell))) [s.word Reg.BST_PROG]
  else ((s.raise (Reg.CELL_GRP_EVT_SLINC sl.group)).bump (Reg.CELL_GRP_CNT_INC sl.group)).bump (Reg.BST_FAILCNT_INC 0)

/-- A completed slice counts, and its cell counts as the latest (R60). -/
def Block.sliceCompleted (s : Block) (k : Nat) : Block :=
  ({ s with cells := { s.cells with done := s.cells.done + 1 } }).modCell k (fun c => { c with age := s.cells.done + 1 })

theorem Block.closeSlice_eq (sl : Slice) (verdict : Nat) (done : Bool) : s.closeSlice sl verdict done =
    ((s.sliceOver sl verdict done).verdictNoted sl verdict).onlyIf done (fun s => s.sliceCompleted sl.cell) := rfl

theorem Block.only_sliceOver (sl : Slice) (verdict : Nat) (done : Bool) :
    s.only (s.sliceOver sl verdict done) (progressFlds sl.cell) [.cells, .bst] := by
  have hslice : s.only { s with cells := { s.cells with slice := none } } (progressFlds sl.cell) [.cells, .bst] :=
    Block.only_cells (s.only_refl _ _) _ (by simp)
  have hphase := Block.only_put hslice (Reg.CELL_SLICE_PHASE sl.cell) 4 (by simp [Reg.CELL_SLICE_PHASE]) (by simp [progressFlds])
  have hdone := Block.only_putB hphase (Reg.CELL_SLICE_DONE sl.cell) done (by simp [Reg.CELL_SLICE_DONE]) (by simp [progressFlds])
  have hlast := Block.only_put hdone (Reg.CELL_STAT_LAST sl.cell) verdict (by simp [Reg.CELL_STAT_LAST]) (by simp [progressFlds])
  have hbusy := Block.only_put hlast Reg.CELL_GLB_STAT_BUSY 0 (by decide) (by simp [progressFlds])
  exact Block.only_then hbusy (Block.only_bstNote _ 0 sl.cell verdict) (by simp) (by simp)

theorem Block.only_verdictNoted (sl : Slice) (verdict : Nat) : s.only (s.verdictNoted sl verdict) (verdictFlds sl.group) [.ledger] := by
  have hcount (x y : Fld) (hx : x.lo + x.width ≤ 32) (hy : y.lo + y.width ≤ 32) (hx' : x ∈ verdictFlds sl.group) (hy' : y ∈ verdictFlds sl.group) :
      s.only ((s.raise x).bump y) (verdictFlds sl.group) [.ledger] := Block.only_bump (Block.only_raise (s.only_refl _ _) x hx hx') y hy hy'
  unfold Block.verdictNoted
  split
  · exact hcount _ _ (by simp [Reg.CELL_GRP_EVT_SLPASS]) (by simp [Reg.CELL_GRP_CNT_PASS]) (by simp [verdictFlds]) (by simp [verdictFlds])
  · split
    · have hfail := hcount (Reg.CELL_GRP_EVT_SLFAIL sl.group) (Reg.CELL_GRP_CNT_FAIL sl.group) (by simp [Reg.CELL_GRP_EVT_SLFAIL])
        (by simp [Reg.CELL_GRP_CNT_FAIL]) (by simp [verdictFlds]) (by simp [verdictFlds])
      have htarget := Block.only_bump hfail (Reg.BST_FAILCNT_FAIL 0) (by decide) (by simp [verdictFlds])
      exact Block.only_record (Block.only_raise htarget Reg.BST_EVT_FAIL (by decide) (by simp [verdictFlds])) (faultFlds_subset_verdictFlds _)
        (by simp) _ _ _ _ _
    · exact Block.only_bump (hcount _ _ (by simp [Reg.CELL_GRP_EVT_SLINC]) (by simp [Reg.CELL_GRP_CNT_INC]) (by simp [verdictFlds])
        (by simp [verdictFlds])) _ (by decide) (by simp [verdictFlds])

/-- The fields that the end of a slice moves. -/
def closeFlds (sl : Slice) : List Fld := progressFlds sl.cell ++ verdictFlds sl.group

theorem closeFlds_moved (sl : Slice) : ∀ x ∈ closeFlds sl, faultMoves x.addr := fun x hx =>
  (List.mem_append.mp hx).elim (progressFlds_moved _ x) (verdictFlds_moved _ x)

theorem Block.only_closeSlice (sl : Slice) (verdict : Nat) (done : Bool) :
    s.only (s.closeSlice sl verdict done) (closeFlds sl) [.cells, .ledger, .bst] := by
  have hover : s.only (s.sliceOver sl verdict done) (closeFlds sl) [.cells, .ledger, .bst] :=
    Block.only_mono (s.only_sliceOver sl verdict done) (by simp [closeFlds]) (by simp)
  have hnoted := Block.only_then hover (Block.only_verdictNoted _ sl verdict) (by simp [closeFlds]) (by simp)
  rw [Block.closeSlice_eq]
  exact Block.only_onlyIf hnoted (fun _ => Block.only_modCell (Block.only_cells hnoted _ (by simp)) _ _ (by simp))

end Sys2Proof.Machine
end

section
/-! SUPPORT. What the care of the cells moves: the fields that a fault, a slice's end and what follows from them may move, whatever the cell and
the group, and that they leave the fault events of a group alone. -/

namespace Sys2Proof.Machine

/-- A field that the care of the cells moves, where only the cells of `K` are marked failed. -/
inductive Tended (K : Nat → Prop) (x : Fld) : Prop
  | role (k : Nat) (h : x ∈ roleFlds k)
  | fail (k : Nat) (hk : K k) (h : x ∈ failFlds k)
  | close (sl : Slice) (h : x ∈ closeFlds sl)
  | upkeep (g : Nat) (h : x ∈ upkeepFlds g)
  | hold (g : Nat) (h : x = Reg.CELL_GRP_STAT_HOLDZ g)
  | used (g : Nat) (h : x = Reg.CELL_GRP_EVT_SPUSED g)

/-- From `s` to `t` only the care of the cells has moved anything. -/
def Block.tends (s : Block) (K : Nat → Prop) (t : Block) : Prop := ∃ l, (∀ x ∈ l, Tended K x) ∧ s.only t l [.cells, .ledger, .bst]

theorem Tended.moved {K : Nat → Prop} {x : Fld} (h : Tended K x) : faultMoves x.addr := by
  cases h with
  | role k h => exact roleFlds_moved k x h
  | fail k _ h => exact failFlds_moved k x h
  | close sl h => exact closeFlds_moved sl x h
  | upkeep g h => exact upkeepFlds_moved g x h
  | hold g h => exact h ▸ faultMoves_of_unit g (by simp [Reg.CELL_GRP_STAT_HOLDZ])
  | used g h => exact h ▸ faultMoves_of_unit g (by simp [Reg.CELL_GRP_EVT_SPUSED])

/-- Where the fields of a cell lie. -/
theorem Fld.of_cell (k : Nat) :
    Reg.CELL_CFG_ROLE k = ⟨0x10000 + 0x40 * k, 0, 3⟩ ∧ Reg.CELL_CFG_SLOT k = ⟨0x10000 + 0x40 * k, 4, 2⟩ ∧
    Reg.CELL_STAT_FAILED k = ⟨0x10004 + 0x40 * k, 0, 1⟩ ∧ Reg.CELL_STAT_LAST k = ⟨0x10004 + 0x40 * k, 1, 2⟩ ∧
    Reg.CELL_OFS_OFS k = ⟨0x10008 + 0x40 * k, 0, 24⟩ ∧ Reg.CELL_GAIN_GAIN k = ⟨0x1000C + 0x40 * k, 0, 24⟩ ∧
    Reg.CELL_SKEW_SKEW k = ⟨0x10010 + 0x40 * k, 0, 16⟩ ∧ Reg.CELL_CLIPCNT_CLIP k = ⟨0x10020 + 0x40 * k, 0, 32⟩ ∧
    Reg.CELL_SLICE_SLICE_ID k = ⟨0x10024 + 0x40 * k, 0, 16⟩ ∧ Reg.CELL_SLICE_PATTERNS k = ⟨0x10024 + 0x40 * k, 16, 8⟩ ∧
    Reg.CELL_SLICE_PHASE k = ⟨0x10024 + 0x40 * k, 24, 3⟩ ∧ Reg.CELL_SLICE_DONE k = ⟨0x10024 + 0x40 * k, 27, 1⟩ ∧
    Reg.CELL_FAILCNT_FAILS k = ⟨0x10028 + 0x40 * k, 0, 8⟩ :=
  ⟨rfl, rfl, rfl, rfl, rfl, rfl, rfl, rfl, rfl, rfl, rfl, rfl, rfl⟩

/-- Where the fields of a group of cells lie. -/
theorem Fld.of_group (g : Nat) :
    Reg.CELL_GRP_STAT_DEGRADED g = ⟨0x11804 + 0x20 * g, 0, 1⟩ ∧ Reg.CELL_GRP_STAT_NO_ROT g = ⟨0x11804 + 0x20 * g, 1, 1⟩ ∧
    Reg.CELL_GRP_STAT_CALV g = ⟨0x11804 + 0x20 * g, 2, 1⟩ ∧ Reg.CELL_GRP_STAT_HOLDZ g = ⟨0x11804 + 0x20 * g, 3, 1⟩ ∧
    Reg.CELL_GRP_STAT_SPARE g = ⟨0x11804 + 0x20 * g, 4, 7⟩ ∧ Reg.CELL_GRP_STAT_NEXT g = ⟨0x11804 + 0x20 * g, 12, 7⟩ ∧
    Reg.CELL_GRP_EVT_INFLT g = ⟨0x11808 + 0x20 * g, 0, 1⟩ ∧ Reg.CELL_GRP_EVT_OUTFLT g = ⟨0x11808 + 0x20 * g, 1, 1⟩ ∧
    Reg.CELL_GRP_EVT_MONFLT g = ⟨0x11808 + 0x20 * g, 2, 1⟩ ∧ Reg.CELL_GRP_EVT_EXTFLT g = ⟨0x11808 + 0x20 * g, 3, 1⟩ ∧
    Reg.CELL_GRP_EVT_SPUSED g = ⟨0x11808 + 0x20 * g, 4, 1⟩ ∧ Reg.CELL_GRP_EVT_DEGR g = ⟨0x11808 + 0x20 * g, 5, 1⟩ ∧
    Reg.CELL_GRP_EVT_SLPASS g = ⟨0x11808 + 0x20 * g, 6, 1⟩ ∧ Reg.CELL_GRP_EVT_SLFAIL g = ⟨0x11808 + 0x20 * g, 7, 1⟩ ∧
    Reg.CELL_GRP_EVT_SLINC g = ⟨0x11808 + 0x20 * g, 8, 1⟩ ∧ Reg.CELL_GRP_CNT_PASS g = ⟨0x11810 + 0x20 * g, 0, 16⟩ ∧
    Reg.CELL_GRP_CNT_FAIL g = ⟨0x11810 + 0x20 * g, 16, 8⟩ ∧ Reg.CELL_GRP_CNT_INC g = ⟨0x11810 + 0x20 * g, 24, 8⟩ :=
  ⟨rfl, rfl, rfl, rfl, rfl, rfl, rfl, rfl, rfl, rfl, rfl, rfl, rfl, rfl, rfl, rfl, rfl, rfl⟩

/-- Where the fields of the whole device lie that faults and slices move. -/
theorem Fld.of_device :
    Reg.CELL_GLB_STAT_BUSY = ⟨0x11C04, 0, 1⟩ ∧ Reg.CELL_GLB_STAT_GRP = ⟨0x11C04, 4, 5⟩ ∧ Reg.CELL_GLB_STAT_CELL = ⟨0x11C04, 9, 7⟩ ∧
    Reg.CELL_GLB_STAT_QUEUED = ⟨0x11C04, 16, 5⟩ ∧ Reg.BST_FAILCNT_FAIL 0 = ⟨0x6020, 0, 16⟩ ∧ Reg.BST_FAILCNT_INC 0 = ⟨0x6020, 16, 16⟩ ∧
    Reg.BST_EVT_FAIL = ⟨0x6018, 1, 1⟩ ∧ Reg.FLT_EVT_NEW = ⟨0xA08, 0, 1⟩ ∧ Reg.FLT_EVT_LOST = ⟨0xA08, 1, 1⟩ ∧
    Reg.FLT_STAT_COUNT = ⟨0xA00, 0, 5⟩ ∧ Reg.FLT_STAT_NEWEST = ⟨0xA00, 8, 4⟩ ∧ Reg.FLT_STAT_LOST = ⟨0xA00, 16, 16⟩ :=
  ⟨rfl, rfl, rfl, rfl, rfl, rfl, rfl, rfl, rfl, rfl, rfl, rfl⟩

/-- The events of a fault of a group (R52, R56, R58). -/
def Fld.faultEvent (y : Fld) : Prop := ∃ g < 18, y ∈ [Reg.CELL_GRP_EVT_INFLT g, Reg.CELL_GRP_EVT_OUTFLT g, Reg.CELL_GRP_EVT_MONFLT g]

theorem Fld.faultEvent_place {y : Fld} (h : y.faultEvent) : ∃ g < 18, y.addr = 0x11808 + 0x20 * g ∧ y.lo + y.width ≤ 3 := by
  obtain ⟨g, hg, hy⟩ := h
  simp only [List.mem_cons, List.not_mem_nil, or_false] at hy
  rcases hy with rfl | rfl | rfl <;> exact ⟨g, hg, by simp [Fld.of_group]⟩

/-- The care of the cells leaves the fault events alone, where only cells of the device are marked failed. -/
theorem Tended.apart_faultEvent {x y : Fld} (h : Tended (· < 86) x) (hy : y.faultEvent) : x.apart y := by
  obtain ⟨g, hg, ha, hlo⟩ := Fld.faultEvent_place hy
  unfold Fld.apart
  rw [ha]
  cases h with
  | role k h =>
    simp only [roleFlds, Fld.of_cell, List.mem_cons, List.not_mem_nil, or_false] at h
    rcases h with rfl | rfl <;> dsimp only <;> omega
  | fail k hk h =>
    simp only [failFlds, roleFlds, Fld.of_cell, List.mem_cons, List.not_mem_nil, or_false] at h
    rcases h with rfl | rfl | rfl | rfl <;> dsimp only <;> omega
  | close sl h =>
    simp only [closeFlds, progressFlds, verdictFlds, faultFlds, Fld.of_cell, Fld.of_group, Fld.of_device, List.mem_append, List.mem_cons,
      List.not_mem_nil, or_false] at h
    rcases h with (rfl | rfl | rfl | rfl) | (rfl | rfl | rfl | rfl | rfl | rfl | rfl | rfl | rfl) | rfl | rfl | rfl | rfl | rfl <;>
      dsimp only <;> omega
  | upkeep j h =>
    simp only [upkeepFlds, faultFlds, Fld.of_group, Fld.of_device, List.mem_append, List.mem_cons, List.not_mem_nil, or_false, List.mem_map,
      Fld.of_cell] at h
    rcases h with ((rfl | rfl | rfl | rfl | rfl | rfl) | rfl | rfl | rfl | rfl | rfl) | ⟨k, -, rfl⟩ <;> dsimp only <;> omega
  | hold j h => rw [h]; simp only [Fld.of_group]; omega
  | used j h => rw [h]; simp only [Fld.of_group]; omega

/-! ## The steps of the care of the cells -/

section Care

variable {K : Nat → Prop} {s t u : Block}

theorem Block.tends_refl : s.tends K s := ⟨[], by simp, s.only_refl _ _⟩

theorem Block.tends_of_only {l : List Fld} {ps : List Part} (h : s.tends K t) (h' : t.only u l ps) (hl : ∀ x ∈ l, Tended K x)
    (hp : ps ⊆ [.cells, .ledger, .bst]) : s.tends K u := by
  obtain ⟨m, hm, hs⟩ := h
  refine ⟨m ++ l, ?_, Block.only_then (Block.only_mono hs (by simp) (List.Subset.refl _)) h' (by simp) hp⟩
  simp only [List.mem_append]
  exact fun x hx => hx.elim (hm x) (hl x)

/-- What has moved is among the registers that faults and slices move. -/
theorem Block.tends_within (h : s.tends K t) : s.within t faultMoves [.cells, .ledger, .bst] := by
  obtain ⟨l, hl, hs⟩ := h
  exact Block.within_of_only hs (fun x hx => (hl x hx).moved)

/-- The fault events stay. -/
theorem Block.tends_faultEvent (h : s.tends (· < 86) t) {y : Fld} (hy : y.faultEvent) : t.on y = s.on y := by
  obtain ⟨l, hl, hs⟩ := h
  exact Block.only_on hs (fun x hx => (hl x hx).apart_faultEvent hy)

/-- A change of components that leaves the registers alone. -/
theorem Block.tends_cells (h : s.tends K t) (c : Cells) : s.tends K { t with cells := c } :=
  Block.tends_of_only h (Block.only_cells (t.only_refl [] [.cells]) c (by simp)) (by simp) (by simp)

theorem Block.tends_modCell (h : s.tends K t) (k : Nat) (f : CellSt → CellSt) : s.tends K (t.modCell k f) := Block.tends_cells h _

theorem Block.tends_modGrp (h : s.tends K t) (g : Nat) (f : GroupSt → GroupSt) : s.tends K (t.modGrp g f) := Block.tends_cells h _

theorem Block.tends_onlyIf {c : Bool} {f : Block → Block} (h : s.tends K t) (hf : ∀ b, s.tends K b → s.tends K (f b)) : s.tends K (t.onlyIf c f) := by
  cases c
  · exact h
  · exact hf t h

theorem Block.tends_setRole (h : s.tends K t) (k role slot : Nat) : s.tends K (t.setRole k role slot) :=
  Block.tends_of_only h (t.only_setRole k role slot) (fun _ => .role k) (by simp)

theorem Block.tends_markFailed (h : s.tends K t) {k : Nat} (hk : K k) : s.tends K (t.markFailed k) :=
  Block.tends_of_only h (t.only_markFailed k) (fun _ => .fail k hk) (by simp)

theorem Block.tends_closeSlice (h : s.tends K t) (sl : Slice) (verdict : Nat) (done : Bool) : s.tends K (t.closeSlice sl verdict done) :=
  Block.tends_of_only h (t.only_closeSlice sl verdict done) (fun _ => .close sl) (by simp)

theorem Block.tends_recentre (h : s.tends K t) (g : Nat) : s.tends K (t.recentre g) :=
  Block.tends_of_only h (t.only_recentre g) (fun _ => .upkeep g) (by simp)

theorem Block.tends_seekSpare (h : s.tends K t) (g : Nat) : s.tends K (t.seekSpare g) :=
  Block.tends_of_only h (t.only_seekSpare g) (fun _ => .upkeep g) (by simp)

theorem Block.tends_refreshGroup (h : s.tends K t) (g : Nat) : s.tends K (t.refreshGroup g) :=
  Block.tends_of_only h (t.only_refreshGroup g) (fun _ => .upkeep g) (by simp)

theorem Block.tends_refreshCalv (h : s.tends K t) (g : Nat) : s.tends K (t.refreshCalv g) :=
  Block.tends_of_only h (t.only_refreshCalv g) (fun _ => .upkeep g) (by simp)

theorem Block.tends_holdZero (h : s.tends K t) (g : Nat) : s.tends K (t.holdZero g) :=
  Block.tends_of_only h (t.only_holdZero g) (by simpa using .hold g rfl) (by simp)

theorem Block.tends_startRetarget (h : s.tends K t) (g spare slot failed : Nat) (shadows recover : Bool) :
    s.tends K (t.startRetarget g spare slot failed shadows recover) :=
  Block.tends_of_only h (t.only_startRetarget g spare slot failed shadows recover) (by simpa using .role spare (by simp [roleFlds])) (by simp)

theorem Block.tends_spareUsed (h : s.tends K t) (g : Nat) : s.tends K (t.raise (Reg.CELL_GRP_EVT_SPUSED g)) :=
  Block.tends_of_only h (Block.only_raise (t.only_refl [Reg.CELL_GRP_EVT_SPUSED g] []) _ (by simp [Fld.of_group]) (by simp))
    (by simpa using .used g rfl) (by simp)

theorem Block.tends_record (h : s.tends K t) (cause block inst : Nat) (detail : Word) (snap : List Word) :
    s.tends K (t.record cause block inst detail snap) :=
  Block.tends_of_only h (Block.only_record (t.only_refl faultFlds [.ledger]) (List.Subset.refl _) (by simp) _ _ _ _ _)
    (fun x hx => .upkeep 0 (faultFlds_subset_upkeepFlds 0 hx)) (by simp)

theorem Block.tends_returnPeriodic (h : s.tends K t) (sl : Slice) : s.tends K (t.returnPeriodic sl) := by
  unfold Block.returnPeriodic
  split <;> exact Block.tends_setRole h _ _ _

theorem Block.tends_sliceIncomplete (h : s.tends K t) (done : Bool) : s.tends K (t.sliceIncomplete done) := by
  unfold Block.sliceIncomplete
  split
  · exact h
  · next sl _ =>
    extract_lets closed returned
    have hclosed : s.tends K closed := Block.tends_closeSlice h sl 3 done
    have hreturned : s.tends K returned := by
      simp only [returned]
      split
      · split
        · exact hclosed
        · exact Block.tends_returnPeriodic hclosed sl
      · exact Block.tends_modCell (Block.tends_setRole hclosed _ _ _) _ _
      · exact Block.tends_modCell (Block.tends_setRole hclosed _ _ _) _ _
    exact Block.tends_refreshGroup (Block.tends_recentre hreturned _) _

theorem Block.tends_dropTracked (h : s.tends K t) (k : Nat) : s.tends K (t.dropTracked k) := by
  unfold Block.dropTracked
  split
  · split
    · exact Block.tends_sliceIncomplete h false
    · exact h
  · exact h

theorem Block.tends_urgePromotion (h : s.tends K t) (g : Nat) : s.tends K (t.urgePromotion g) := by
  unfold Block.urgePromotion
  split
  · split
    · exact Block.tends_cells h _
    · exact h
  · exact h

/-- What follows a fault on a cell of an input group with a slice in progress (R70). -/
theorem Block.tends_inSliceFault (h : s.tends K t) (sl : Slice) {k : Nat} (hk : K k) : s.tends K (t.inSliceFault sl k) := by
  unfold Block.inSliceFault
  extract_lets g failed slot reserve kept judged
  have hjudged : s.tends K judged := by
    have hleaver : s.tends K failed := Block.tends_markFailed (Block.tends_onlyIf h (fun _ hb => Block.tends_setRole hb _ _ _)) hk
    have hfailed : s.tends K (t.markFailed k) := Block.tends_markFailed h hk
    have hkept : s.tends K kept := Block.tends_onlyIf hfailed (fun _ hb => Block.tends_setRole hb _ _ _)
    simp only [judged]
    split
    · exact Block.tends_seekSpare (Block.tends_closeSlice hleaver sl 2 false) _
    · split
      · exact Block.tends_seekSpare (Block.tends_closeSlice hfailed sl 3 false) _
      · exact Block.tends_startRetarget (Block.tends_closeSlice hkept sl 3 false) _ _ _ _ _ _
  exact Block.tends_refreshCalv (Block.tends_refreshGroup (Block.tends_recentre hjudged _) _) _

/-- What follows a fault on a cell of an output group with a slice in progress (R56, R70). -/
theorem Block.tends_outSliceFault (h : s.tends K t) (sl : Slice) {k : Nat} (hk : K k) : s.tends K (t.outSliceFault sl k) := by
  unfold Block.outSliceFault
  extract_lets g wasOut verdict reserve closed replaced
  have hclosed : s.tends K closed := Block.tends_closeSlice (Block.tends_markFailed h hk) sl verdict false
  have hreplaced : s.tends K replaced := by
    simp only [replaced]
    split
    · exact hclosed
    · split
      · exact Block.tends_modGrp (Block.tends_setRole hclosed _ _ _) _ _
      · exact Block.tends_spareUsed (Block.tends_setRole hclosed _ _ _) _
  exact Block.tends_refreshGroup (Block.tends_seekSpare (Block.tends_recentre hreplaced _) _) _

/-! ## Declared faults -/

variable (s)

/-- An IN fault is declared, unless the slot of its cell waits for the spare already: beside INFLT only the care of the cells follows (R58, R59,
R70). -/
theorem Block.tends_inFault {g k : Nat} (hk : k < 86) (hw : (s.grp g).retarget.map (·.2.1) ≠ some k) :
    (s.raise (Reg.CELL_GRP_EVT_INFLT g)).tends (· < 86) (s.inFault g k) := by
  unfold Block.inFault
  extract_lets on declared dropped
  rw [if_neg hw]
  have hdeclared : (s.raise (Reg.CELL_GRP_EVT_INFLT g)).tends (· < 86) declared :=
    Block.tends_modCell (Block.tends_record Block.tends_refl _ _ _ _ _) _ _
  have halone {t : Block} (ht : (s.raise (Reg.CELL_GRP_EVT_INFLT g)).tends (· < 86) t) :
      (s.raise (Reg.CELL_GRP_EVT_INFLT g)).tends (· < 86) (((t.markFailed k).seekSpare g).refreshGroup g) :=
    Block.tends_refreshGroup (Block.tends_seekSpare (Block.tends_markFailed ht hk) _) _
  have hdropped := Block.tends_dropTracked hdeclared k
  split
  · exact Block.tends_inSliceFault hdeclared _ hk
  · split
    · split
      · exact halone hdropped
      · exact Block.tends_startRetarget hdropped _ _ _ _ _ _
    · exact halone hdropped

/-- A MON fault is declared: beside MONFLT only the care of the cells follows (R56, R70, R75, R608). -/
theorem Block.tends_monFault {g k : Nat} (hk : k < 86) : (s.raise (Reg.CELL_GRP_EVT_MONFLT g)).tends (· < 86) (s.monFault g k) := by
  unfold Block.monFault
  extract_lets declared dropped
  have hdeclared : (s.raise (Reg.CELL_GRP_EVT_MONFLT g)).tends (· < 86) declared :=
    Block.tends_modGrp (Block.tends_record Block.tends_refl _ _ _ _ _) _ _
  have hdropped := Block.tends_dropTracked hdeclared k
  split
  · exact Block.tends_outSliceFault hdeclared _ hk
  · split
    · refine Block.tends_refreshGroup (Block.tends_seekSpare (Block.tends_spareUsed (Block.tends_modCell ?_ _ _) _) _) _
      exact Block.tends_setRole (Block.tends_setRole hdropped _ _ _) _ _ _
    · split
      · exact Block.tends_seekSpare (Block.tends_holdZero (Block.tends_markFailed hdropped hk) _) _
      · exact Block.tends_holdZero (Block.tends_modCell (Block.tends_setRole hdropped _ _ _) _ _) _

/-- An OUT fault is declared: beside OUTFLT, and the range change that it ends, only the care of the cells follows (R52, R54, R70, R75, R98, R609). -/
theorem Block.tends_outFault {g k : Nat} (hk : k < 86) (hout : s.withRole g roleOut = some k) :
    ((s.endRange g).raise (Reg.CELL_GRP_EVT_OUTFLT g)).tends (· < 86) (s.outFault g) := by
  unfold Block.outFault
  split
  · next h => exact absurd (hout.symm.trans h) (by simp)
  next k' hk' =>
  obtain rfl : k = k' := Option.some.inj (hout.symm.trans hk')
  extract_lets ended declared dropped
  have hdeclared : ((s.endRange g).raise (Reg.CELL_GRP_EVT_OUTFLT g)).tends (· < 86) declared :=
    Block.tends_modGrp (Block.tends_record Block.tends_refl _ _ _ _ _) _ _
  have hdropped := Block.tends_dropTracked hdeclared k
  split
  · exact Block.tends_outSliceFault hdeclared _ hk
  · split
    · exact Block.tends_modGrp hdropped _ _
    · split
      · exact Block.tends_seekSpare (Block.tends_holdZero (Block.tends_markFailed hdropped hk) _) _
      · exact Block.tends_urgePromotion (Block.tends_modGrp (Block.tends_modCell (Block.tends_setRole hdropped _ _ _) _ _) _ _) _

end Care

end Sys2Proof.Machine
end

section
/-! SUPPORT. Conversions of a cell that serves, shadows or is tracked (R42, R45, R58, R64). -/

namespace Sys2Proof.Machine

/-! ## Cells and groups -/

theorem groupOfCell_lt (k : Nat) (h : k < 86) : groupOfCell k < 18 := by unfold groupOfCell; split <;> [omega; (split <;> omega)]

theorem lt_of_mem_groupCells {g k : Nat} (hg : g < 18) (h : k ∈ groupCells g) : k < 86 := by
  unfold groupCells at h
  split at h <;> simp only [List.mem_cons, List.not_mem_nil, or_false] at h <;> omega

theorem Block.withRole_mem {s : Block} {g role k : Nat} (h : s.withRole g role = some k) : k ∈ groupCells g := List.mem_of_find?_eq_some h

theorem Block.withRole_lt {s : Block} {g role k : Nat} (hg : g < 18) (h : s.withRole g role = some k) : k < 86 :=
  lt_of_mem_groupCells hg (Block.withRole_mem h)

@[simp] theorem Block.grp_modCell (s : Block) (k : Nat) (f : CellSt → CellSt) (g : Nat) : (s.modCell k f).grp g = s.grp g := rfl
@[simp] theorem Block.cell_modGrp (s : Block) (g : Nat) (f : GroupSt → GroupSt) (k : Nat) : (s.modGrp g f).cell k = s.cell k := rfl

/-! ## A conversion, its impossible pattern apart -/

/-- A code at an end of the range (R45). -/
def clips (code : CellCode) : Bool := code.toNat = 0 || code.toNat = 262143

/-- A clipped code counts (R45, R77). -/
def Block.clipCounted (s : Block) (k : Nat) (code : CellCode) : Block := s.onlyIf (clips code) (fun s => s.bump (Reg.CELL_CLIPCNT_CLIP k))

/-- What a cell that holds does with its code: the spare's goes to the shadow, an IN cell's to the stream, another one's to the comparison of its
scarf-out (R42, R48, R64). -/
def Block.taken (s : Block) (k : Nat) (code : CellCode) : Block :=
  let g := groupOfCell k
  let v := s.correct k code
  let tag : Byte := if clips code then tagC else 0
  if s.role k = roleSpare then
    (s.modGrp g (fun x => { x with spareV := v, spareTag := tag, spareAt := s.time.now / 16 })).modCell k (fun c => { c with learn := c.learn + 1 })
  else if s.role k = roleIn then
    let slot := s.f (Reg.CELL_CFG_SLOT k)
    let s := match s.sliceOf g with
      | some sl =>
        if sl.phase = 1 && sl.cell = k && s.reached sl.start then
          let both := (s.grp g).spareAt == s.time.now / 16
          let w : Int := if both then (sl.k : Int) else 0
          let mix := roundShift (2 * ((768 - w) * v + w * (s.grp g).spareV) / 768) 1
          let t := tagX ||| (if w = 768 then 0 else tag) ||| (if w = 0 then 0 else (s.grp g).spareTag)
          let s := s.setConversion g slot ⟨some mix, t, k⟩
          { s with cells := { s.cells with slice := s.cells.slice.map (fun (z : Slice) => { z with k := min 768 (z.k + 1) }) } }
        else s.setConversion g slot ⟨some v, tag, k⟩
      | none => s.setConversion g slot ⟨some v, tag, k⟩
    s.trackCheck g k v
  else { s with cells := { s.cells with slice := s.cells.slice.map (fun (z : Slice) => { z with shadow := some (s.time.now / 16, v) }) } }

/-- A cell that does not hold does nothing. -/
theorem Block.convert_idle {s : Block} {k : Nat} (h : s.holds k = false) (code : CellCode) (bad : Bool) : s.convert k code bad = s := by
  simp [Block.convert, h]

/-- A cell that holds counts a clipped code, takes its code, and may declare an IN fault. -/
theorem Block.convert_held {s : Block} {k : Nat} (h : s.holds k = true) (code : CellCode) (bad : Bool) :
    s.convert k code bad = ((s.clipCounted k code).taken k code).onlyIf bad (fun t => t.inFault (groupOfCell k) k) := by
  unfold Block.convert Block.taken
  rw [h]
  cases bad
  · simp only [Bool.not_true, Bool.false_eq_true, if_false, Block.onlyIf_false]
    rfl
  · simp only [Bool.not_true, Bool.false_eq_true, if_false, if_true, Block.onlyIf_true]
    change (if (s.clipCounted k code).role k = roleSpare then _ else if (s.clipCounted k code).role k = roleIn then _ else _) = _
    split
    · rfl
    · split <;> rfl

/-! ## What a conversion moves -/

section Taken

variable (s : Block) (k : Nat) (code : CellCode)

theorem Block.only_clipCounted : s.only (s.clipCounted k code) [Reg.CELL_CLIPCNT_CLIP k] [] :=
  Block.only_onlyIf (s.only_refl _ _) (fun _ => Block.only_bump (s.only_refl _ _) _ (by simp [Fld.of_cell]) (by simp))

@[simp] theorem Block.clipCounted_cells : (s.clipCounted k code).cells = s.cells := (s.only_clipCounted k code).2 .cells (by simp)

@[simp] theorem Block.clipCounted_time : (s.clipCounted k code).time = s.time := (s.only_clipCounted k code).2 .time (by simp)

/-- Every field of another register reads as before. -/
theorem Block.clipCounted_f {x : Fld} (h : x.addr ≠ Reg.CELL_CLIPCNT k) : (s.clipCounted k code).f x = s.f x :=
  Block.only_f (s.only_clipCounted k code) (by simpa [Fld.apart] using .inl (fun he => h he.symm))

@[simp] theorem Block.clipCounted_role (j : Nat) : (s.clipCounted k code).role j = s.role j :=
  s.clipCounted_f k code (by simp only [Reg.CELL_CFG_ROLE, Reg.CELL_CFG, Reg.CELL_CLIPCNT]; omega)

@[simp] theorem Block.clipCounted_slot : (s.clipCounted k code).f (Reg.CELL_CFG_SLOT k) = s.f (Reg.CELL_CFG_SLOT k) :=
  s.clipCounted_f k code (by simp only [Reg.CELL_CFG_SLOT, Reg.CELL_CFG, Reg.CELL_CLIPCNT]; omega)

@[simp] theorem Block.clipCounted_correct : (s.clipCounted k code).correct k code = s.correct k code := by
  have hgain := s.clipCounted_f k code (x := Reg.CELL_GAIN_GAIN k) (by simp only [Reg.CELL_GAIN_GAIN, Reg.CELL_GAIN, Reg.CELL_CLIPCNT]; omega)
  have hofs := s.clipCounted_f k code (x := Reg.CELL_OFS_OFS k) (by simp only [Reg.CELL_OFS_OFS, Reg.CELL_OFS, Reg.CELL_CLIPCNT]; omega)
  simp only [Block.correct, Block.fInt, hgain, hofs]

/-- The count of clipped codes stops at its largest value (R77). -/
theorem Block.clipCounted_count : (s.clipCounted k code).f (Reg.CELL_CLIPCNT_CLIP k) =
    if clips code then min (s.f (Reg.CELL_CLIPCNT_CLIP k) + 1) (2 ^ 32 - 1) else s.f (Reg.CELL_CLIPCNT_CLIP k) := by
  unfold Block.clipCounted
  cases clips code
  · rfl
  · rw [Block.onlyIf_true, if_pos rfl]
    have hlt : s.f (Reg.CELL_CLIPCNT_CLIP k) < 2 ^ 32 := bitsOf_lt _ _ _
    unfold Block.bump
    split
    · next h =>
      have hroom : s.f (Reg.CELL_CLIPCNT_CLIP k) + 1 < 2 ^ 32 := h
      rw [Block.f_put_self _ _ _ (by simp [Fld.of_cell])]
      simp only [Fld.of_cell]
      simp only [Fld.of_cell] at hroom
      omega
    · next h =>
      have hfull : ¬ s.f (Reg.CELL_CLIPCNT_CLIP k) + 1 < 2 ^ 32 := h
      omega

theorem Block.trackCheck_slice (g : Nat) (v : Int) : ∃ z, s.trackCheck g k v = { s with cells := { s.cells with slice := z } } := by
  unfold Block.trackCheck
  split
  · split
    · split
      · exact ⟨_, rfl⟩
      · exact ⟨s.cells.slice, rfl⟩
    · exact ⟨s.cells.slice, rfl⟩
  · exact ⟨s.cells.slice, rfl⟩

theorem Block.setConversion_retarget (g slot : Nat) (r : RawIn) : ((s.setConversion g slot r).grp g).retarget = (s.grp g).retarget := by
  rw [Block.setConversion, Block.grp_modGrp_self]

/-- A code moves nothing outside the cells, and no slot stops waiting for the spare. -/
theorem Block.taken_moves : s.only (s.taken k code) [] [.cells] ∧
    ((s.taken k code).grp (groupOfCell k)).retarget = (s.grp (groupOfCell k)).retarget := by
  unfold Block.taken
  extract_lets g v tag slot both streamed shadowed
  split
  · exact ⟨Block.only_modCell (Block.only_modGrp (s.only_refl _ _) _ _ (by simp)) _ _ (by simp), by
      rw [Block.grp_modCell, Block.grp_modGrp_self]⟩
  · split
    · have hplain (r : RawIn) : s.only (s.setConversion g slot r) [] [.cells] := Block.only_modGrp (s.only_refl _ _) _ _ (by simp)
      have hstreamed : s.only streamed [] [.cells] ∧ (streamed.grp g).retarget = (s.grp g).retarget := by
        simp only [streamed]
        split
        · split
          · exact ⟨Block.only_cells (hplain _) _ (by simp), s.setConversion_retarget g slot _⟩
          · exact ⟨hplain _, s.setConversion_retarget g slot _⟩
        · exact ⟨hplain _, s.setConversion_retarget g slot _⟩
      obtain ⟨z, hz⟩ := streamed.trackCheck_slice k g v
      rw [hz]
      exact ⟨Block.only_cells hstreamed.1 _ (by simp), hstreamed.2⟩
    · exact ⟨Block.only_cells (s.only_refl _ _) _ (by simp), rfl⟩

theorem Block.taken_spare (h : s.role k = roleSpare) : s.taken k code =
    (s.modGrp (groupOfCell k) (fun x => { x with
      spareV := s.correct k code, spareTag := if clips code then tagC else 0, spareAt := s.time.now / 16 })).modCell k
      (fun c => { c with learn := c.learn + 1 }) := if_pos h

theorem Block.taken_in (h : s.role k = roleIn) (hs : s.cells.slice = none) : s.taken k code =
    s.setConversion (groupOfCell k) (s.f (Reg.CELL_CFG_SLOT k)) ⟨some (s.correct k code), if clips code then tagC else 0, k⟩ := by
  have hof : s.sliceOf (groupOfCell k) = none := by simp [Block.sliceOf, hs]
  have hsp : s.role k ≠ roleSpare := by rw [h]; decide
  unfold Block.taken
  extract_lets g v tag slot both streamed
  rw [if_neg hsp, if_pos h]
  have hstreamed : streamed = s.setConversion g slot ⟨some v, tag, k⟩ := by simp only [streamed]; rw [hof]
  have hslice : (s.setConversion g slot ⟨some v, tag, k⟩).cells.slice = none := hs
  rw [hstreamed, Block.trackCheck, hslice]

end Taken

/-! ## CELL_CONVERSION -/

theorem Block.awaiting_inFault {s : Block} {g k : Nat} (h : (s.grp g).retarget.map (·.2.1) = some k) : s.inFault g k = s := if_pos h

/-- The fault of an impossible pattern moves what faults and slices move (R42, R58). -/
theorem Block.within_inFault (s : Block) (g : Nat) {k : Nat} (hk : k < 86) : s.within (s.inFault g k) faultMoves [.cells, .ledger, .bst] := by
  by_cases hw : (s.grp g).retarget.map (·.2.1) = some k
  · rw [Block.awaiting_inFault hw]
    exact s.within_refl _ _
  · have hraise : s.within (s.raise (Reg.CELL_GRP_EVT_INFLT g)) faultMoves [.cells, .ledger, .bst] :=
      Block.within_raise (s.within_refl _ _) _ (faultMoves_of_unit g (by simp [Reg.CELL_GRP_EVT_INFLT]))
    exact Block.within_trans hraise (Block.tends_within (s.tends_inFault hk hw))

/-- An IN fault sets INFLT unless its slot waits for the spare already (R58). -/
theorem Block.inFault_event (s : Block) {g k : Nat} (hg : g < 18) (hk : k < 86) (hw : (s.grp g).retarget = none) :
    (s.inFault g k).on (Reg.CELL_GRP_EVT_INFLT g) = true := by
  have htends := s.tends_inFault hk (g := g) (by simp [hw])
  rw [Block.tends_faultEvent htends ⟨g, hg, by simp⟩]
  exact Block.on_raise_self _ _ (by simp [Fld.of_group]) (by simp [Fld.of_group])

/-- No fault and no slice counts a clipped code. -/
theorem not_faultMoves_clipcnt {k : Nat} (hk : k < 86) : ¬ faultMoves (Reg.CELL_CLIPCNT k) := by
  rintro (h | h | h | h | ⟨i, h⟩)
  · simp only [Reg.CELL_CLIPCNT, Reg.CELL_GLB_STAT] at h; omega
  · simp only [Reg.CELL_CLIPCNT, Reg.BST_EVT] at h; omega
  · simp only [Reg.CELL_CLIPCNT, Reg.BST_FAILCNT] at h; omega
  · simp only [faultRegs, Reg.CELL_CLIPCNT, Reg.FLT_EVT, Reg.FLT_STAT] at h; omega
  · simp only [List.mem_cons, List.not_mem_nil, or_false, Reg.CELL_CLIPCNT, Reg.CELL_CFG, Reg.CELL_STAT, Reg.CELL_SKEW, Reg.CELL_SLICE,
      Reg.CELL_FAILCNT, Reg.CELL_GRP_STAT, Reg.CELL_GRP_EVT, Reg.CELL_GRP_CNT] at h
    omega

theorem Block.convert_count {s : Block} {k : Nat} (hk : k < 86) (h : s.holds k = true) (code : CellCode) (bad : Bool) :
    (s.convert k code bad).f (Reg.CELL_CLIPCNT_CLIP k) =
      if clips code then min (s.f (Reg.CELL_CLIPCNT_CLIP k) + 1) (2 ^ 32 - 1) else s.f (Reg.CELL_CLIPCNT_CLIP k) := by
  have htaken := Block.only_f ((s.clipCounted k code).taken_moves k code).1 (y := Reg.CELL_CLIPCNT_CLIP k) (by simp)
  rw [Block.convert_held h, ← s.clipCounted_count, ← htaken]
  cases bad
  · rfl
  · exact Block.within_f (Block.within_inFault _ _ hk) (not_faultMoves_clipcnt hk)

theorem Block.within_convert (s : Block) {k : Nat} (hk : k < 86) (code : CellCode) (bad : Bool) :
    s.within (s.convert k code bad) cellMoves [.cells, .ledger, .bst] := by
  cases h : s.holds k
  · rw [Block.convert_idle h]
    exact s.within_refl _ _
  · have hcounted : s.within (s.clipCounted k code) cellMoves [.cells, .ledger, .bst] :=
      Block.within_then (s.within_refl _ _) (s.only_clipCounted k code)
        (by simpa using .inr (.inr (.inr ⟨k, by simp [Reg.CELL_CLIPCNT_CLIP]⟩))) (by simp)
    have htaken := Block.within_then hcounted ((s.clipCounted k code).taken_moves k code).1 (by simp) (by simp)
    rw [Block.convert_held h]
    refine Block.within_onlyIf htaken fun _ => Block.within_trans htaken ?_
    exact Block.within_mono (Block.within_inFault _ _ hk) (fun _ => cellMoves_of_faultMoves) (List.Subset.refl _)

theorem cellConversion_gives (s : State) (k : Nat) (code : CellCode) (bad : Bool) (hk : k < 86) : gives (.cellConversion k code bad) s fun u =>
    let g := groupOfCell k
    let clip : Bool := code.toNat = 0 || code.toNat = 262143
    (s.holds k = false → u = s.toBlock) ∧
    (s.holds k = true → s.role k = roleSpare → bad = false →
      u.grp g = { s.grp g with spareV := s.correct k code, spareTag := if clip then tagC else 0, spareAt := s.time.now / 16 } ∧
      (u.cell k).learn = (s.cell k).learn + 1 ∧ s.only u [Reg.CELL_CLIPCNT_CLIP k] [.cells]) ∧
    (s.holds k = true → s.role k = roleIn → s.cells.slice = none → bad = false →
      u.grp g = { s.grp g with conv := some (s.time.now / 16, ⟨some (s.correct k code), if clip then tagC else 0, k⟩),
                               servers := Tab.set (fun _ => noCell) (s.grp g).servers (s.f (Reg.CELL_CFG_SLOT k)) k } ∧
      s.only u [Reg.CELL_CLIPCNT_CLIP k] [.cells]) ∧
    (s.holds k = true → s.role k = roleIn ∨ s.role k = roleSpare → s.cells.slice = none → bad = true → (s.grp g).retarget = none →
      u.on (Reg.CELL_GRP_EVT_INFLT g) = true) ∧
    (s.holds k = true → s.sliceOf g = none → u.f (Reg.CELL_CLIPCNT_CLIP k) = if clip then min (s.f (Reg.CELL_CLIPCNT_CLIP k) + 1) (2 ^ 32 - 1)
      else s.f (Reg.CELL_CLIPCNT_CLIP k)) ∧
    s.within u cellMoves [.cells, .ledger, .bst] := by
  have hcounted := s.only_clipCounted k code
  have hgrp (g : Nat) : (s.clipCounted k code).grp g = s.grp g := Block.grp_congr (s.clipCounted_cells k code) g
  have hcell : (s.clipCounted k code).cell k = s.cell k := Block.cell_congr (s.clipCounted_cells k code) k
  have hmoves := (s.clipCounted k code).taken_moves k code
  have honly : s.only ((s.clipCounted k code).taken k code) [Reg.CELL_CLIPCNT_CLIP k] [.cells] :=
    Block.only_then (Block.only_mono hcounted (List.Subset.refl _) (by simp)) hmoves.1 (by simp) (by simp)
  refine gives_of_act (ok := decide (k < 86)) (g := fun b => b.convert k code bad) rfl (by simpa using hk)
    ⟨fun h => Block.convert_idle h code bad, fun h hrole hb => ?_, fun h hrole hs hb => ?_, fun h _ _ hb hw => ?_,
      fun h _ => Block.convert_count hk h code bad, s.within_convert hk code bad⟩
  · subst hb
    have htaken := (s.clipCounted k code).taken_spare k code (by simpa using hrole)
    rw [Block.convert_held h, Block.onlyIf_false]
    refine ⟨?_, ?_, honly⟩
    · rw [htaken, Block.grp_modCell, Block.grp_modGrp_self, hgrp, Block.clipCounted_correct, Block.clipCounted_time]
      rfl
    · rw [htaken, Block.cell_modCell_self, Block.cell_modGrp, hcell]
  · subst hb
    have htaken := (s.clipCounted k code).taken_in k code (by simpa using hrole) (by simpa using hs)
    rw [Block.convert_held h, Block.onlyIf_false]
    refine ⟨?_, honly⟩
    rw [htaken, Block.setConversion, Block.grp_modGrp_self, hgrp, Block.clipCounted_correct, Block.clipCounted_time, Block.clipCounted_slot]
    rfl
  · subst hb
    rw [Block.convert_held h, Block.onlyIf_true]
    exact Block.inFault_event _ (groupOfCell_lt k hk) hk (by rw [hmoves.2, hgrp, hw])

end Sys2Proof.Machine
end

section
/-! SUPPORT. Read-back conversions: comparisons, the zero checks, OUT, MON and external faults (R51 to R53, R56, R98, R608); and O26. -/

namespace Sys2Proof.Machine

/-! ## Which components a read-back can move -/

/-- From `s` to `t` nothing outside the cells, the ledger, the self-test record and the output's range has changed. -/
def Block.readsBack (s t : Block) : Prop := s.within t (fun _ => True) [.cells, .ledger, .bst, .ports]

section Moves

variable {s t : Block}

theorem Block.readsBack_refl (s : Block) : s.readsBack s := s.within_refl _ _

theorem Block.readsBack_tends {K : Nat → Prop} {u : Block} (h : s.readsBack t) (h' : t.tends K u) : s.readsBack u :=
  Block.within_trans h (Block.within_mono (Block.tends_within h') (fun _ _ => trivial) (by simp))

theorem Block.readsBack_raise (h : s.readsBack t) (x : Fld) : s.readsBack (t.raise x) := Block.within_raise h x trivial

theorem Block.readsBack_modGrp (h : s.readsBack t) (g : Nat) (f : GroupSt → GroupSt) : s.readsBack (t.modGrp g f) :=
  Block.within_modGrp h g f (by simp)

theorem Block.readsBack_endRange (h : s.readsBack t) (o : Nat) : s.readsBack (t.endRange o) := by
  unfold Block.endRange
  split
  · exact h
  · extract_lets switched ended
    have hended : s.readsBack ended := Block.within_modOut (Block.within_put h _ _ trivial) _ _ (by simp)
    split
    · exact Block.within_put (Block.within_put hended _ _ trivial) _ _ trivial
    · exact hended

theorem Block.readsBack_outFault (h : s.readsBack t) {g : Nat} (hg : g < 18) : s.readsBack (t.outFault g) := by
  cases hout : t.withRole g roleOut with
  | none => simpa only [Block.outFault, hout] using h
  | some k =>
    exact Block.readsBack_tends (Block.readsBack_raise (Block.readsBack_endRange h g) _) (t.tends_outFault (Block.withRole_lt hg hout) hout)

theorem Block.readsBack_monFault (h : s.readsBack t) (g : Nat) {k : Nat} (hk : k < 86) : s.readsBack (t.monFault g k) :=
  Block.readsBack_tends (Block.readsBack_raise h _) (t.tends_monFault hk)

end Moves

/-! ## A comparison -/

/-- The window of a read-back comparison (R51). -/
def Block.outWindow (s : Block) (g : Nat) : Nat := 2 ^ (23 - s.f (Reg.CELL_GRP_CTRL_OUTWIN g))

/-- A comparison in normal service misses (R51). -/
def Block.missesAt (s : Block) (g : Nat) (mv : Int) : Bool :=
  decide (s.outWindow g < (mv - s.expectedMon g ((s.grp g).codes.getD 4 0)).natAbs)

section Compare

variable {s : Block} {g : Nat} {mv : Int}

theorem Block.readBack_hit (hstage : (s.grp g).stage = 0) (h : s.missesAt g mv = false) : s.readBack g mv = s.modGrp g (fun y => { y with misses := 0 }) := by
  unfold Block.readBack
  extract_lets x win
  rw [if_neg (by simp [x, hstage]), if_neg (by simp [x, hstage])]
  exact if_neg (of_decide_eq_false h)

theorem Block.readBack_miss (hstage : (s.grp g).stage = 0) (h : s.missesAt g mv = true) : s.readBack g mv =
    (s.modGrp g (fun y => { y with misses := y.misses + 1 })).onlyIf (decide (s.f (Reg.CELL_GRP_CTRL_OUTN g) ≤ (s.grp g).misses + 1))
      (fun t => t.outFault g) := by
  unfold Block.readBack
  extract_lets x win cell missed
  rw [if_neg (by simp [x, hstage]), if_neg (by simp [x, hstage])]
  refine (if_pos (of_decide_eq_true h)).trans ?_
  simp [missed, Block.onlyIf]

theorem Block.readBack_check (hstage : (s.grp g).stage = 2) (h : mv.natAbs ≤ s.outWindow g) : s.readBack g mv =
    s.modGrp g (fun y => { y with checks := y.checks + 1, stage := if y.checks + 1 ≥ 16 then 3 else 2 }) := by
  unfold Block.readBack
  extract_lets x win
  rw [if_pos hstage]
  exact if_neg (by simpa [Block.outWindow, win] using h)

theorem Block.readBack_external (hstage : (s.grp g).stage = 2) (h : s.outWindow g < mv.natAbs) : s.readBack g mv =
    ((s.raise (Reg.CELL_GRP_EVT_EXTFLT g)).record 0x13 3 ((s.withRole g roleOut).getD 0) (BitVec.ofNat 32 g)
      [s.word (Reg.CELL_SLICE ((s.withRole g roleOut).getD 0))]).holdZero g := by
  unfold Block.readBack
  extract_lets x win
  rw [if_pos hstage]
  exact if_pos h

/-- In the other stages of the fault engine no comparison is made (R52, R53). -/
theorem Block.readBack_idle (h0 : (s.grp g).stage ≠ 0) (h2 : (s.grp g).stage ≠ 2) : s.readBack g mv = s := by
  unfold Block.readBack
  extract_lets x win
  rw [if_neg h2, if_pos (by simpa [x] using h0)]

theorem Block.readsBack_readBack {s t : Block} (h : s.readsBack t) (hg : g < 18) : s.readsBack (t.readBack g mv) := by
  by_cases h2 : (t.grp g).stage = 2
  · by_cases hwin : mv.natAbs ≤ t.outWindow g
    · rw [Block.readBack_check h2 hwin]
      exact Block.readsBack_modGrp h g _
    · rw [Block.readBack_external h2 (Nat.lt_of_not_le hwin)]
      exact Block.readsBack_tends (Block.readsBack_raise h _)
        (Block.tends_holdZero (K := fun _ => True) (Block.tends_record Block.tends_refl _ _ _ _ _) g)
  · by_cases h0 : (t.grp g).stage = 0
    · cases hmiss : t.missesAt g mv
      · rw [Block.readBack_hit h0 hmiss]
        exact Block.readsBack_modGrp h g _
      · rw [Block.readBack_miss h0 hmiss]
        exact Block.within_onlyIf (Block.readsBack_modGrp h g _) fun _ => Block.readsBack_outFault (Block.readsBack_modGrp h g _) hg
    · rw [Block.readBack_idle h0 h2]
      exact h

end Compare

/-! ## MON_CONVERSION -/

/-- A read-back conversion takes place (R51). -/
def Block.monRuns (s : Block) (g : Nat) : Bool := (s.withRole g roleMon).isSome && s.audioOn && (s.groupKind g).isOut && s.time.tick % 16 == 0

section Monitor

variable {s : Block} {g : Nat} {code : CellCode} {bad : Bool}

theorem Block.monitor_idle (h : s.monRuns g = false) : s.monitor g code bad = s := by
  unfold Block.monitor
  split
  · rfl
  · next k hk =>
    rw [Block.monRuns, hk, Option.isSome_some, Bool.true_and] at h
    exact if_pos (by rw [h]; rfl)

/-- A read-back that takes place: an impossible code is a MON fault, as is the sixteenth code in a row at an end of the range; else the code is
compared unless the range settles (R51, R98, R608). -/
theorem Block.monitor_runs (h : s.monRuns g = true) : ∃ k, s.withRole g roleMon = some k ∧ s.monitor g code bad =
    if bad then s.monFault g k else
      let quiet := ((s.grp g).codes.getD 4 0).natAbs ≤ 2 ^ 22
      let atEnd := clips code && quiet
      let t := s.modGrp g (fun x => { x with ends := if atEnd then x.ends + 1 else 0 })
      if (t.grp g).ends ≥ 16 then t.monFault g k
      else if (t.out g).rng = 4 || ((t.out g).rng = 2 && t.time.now < (t.out g).rngAt + ticks 12352) then t
      else t.readBack g (codeValue code) := by
  simp only [Block.monRuns, Bool.and_eq_true] at h
  obtain ⟨⟨⟨hmon, haudio⟩, hout⟩, htick⟩ := h
  obtain ⟨k, hk⟩ := Option.isSome_iff_exists.mp hmon
  refine ⟨k, hk, ?_⟩
  unfold Block.monitor
  rw [hk]
  dsimp only
  rw [if_neg (by simp [haudio, hout, htick])]
  rfl

/-- A code inside the range, with no range change, is compared (R51). -/
theorem Block.monitor_plain (h : s.monRuns g = true) (hclip : clips code = false) (hrng : (s.out g).rng = 0) :
    s.monitor g code false = (s.modGrp g (fun x => { x with ends := 0 })).readBack g (codeValue code) := by
  obtain ⟨k, -, hmonitor⟩ := Block.monitor_runs (code := code) (bad := false) h
  have hout : (s.modGrp g (fun x => { x with ends := 0 })).out g = s.out g := rfl
  rw [hmonitor, if_neg Bool.false_ne_true]
  simp only [hclip, Bool.false_and, Bool.false_eq_true, if_false]
  rw [if_neg (by rw [Block.grp_modGrp_self]; simp), if_neg (by simp [hout, hrng])]

theorem Block.readsBack_monitor (hg : g < 18) : s.readsBack (s.monitor g code bad) := by
  cases h : s.monRuns g
  · rw [Block.monitor_idle h]
    exact s.readsBack_refl
  · obtain ⟨k, hk, hmonitor⟩ := Block.monitor_runs (code := code) (bad := bad) h
    have hlt := Block.withRole_lt hg hk
    rw [hmonitor]
    split
    · exact Block.readsBack_monFault s.readsBack_refl g hlt
    · extract_lets quiet atEnd t
      have ht : s.readsBack t := Block.readsBack_modGrp s.readsBack_refl g _
      split
      · exact Block.readsBack_monFault ht g hlt
      · split
        · exact ht
        · exact Block.readsBack_readBack ht hg

theorem Block.monFault_event {k : Nat} (hg : g < 18) (hk : k < 86) : (s.monFault g k).on (Reg.CELL_GRP_EVT_MONFLT g) = true := by
  rw [Block.tends_faultEvent (s.tends_monFault hk) ⟨g, hg, by simp⟩]
  exact Block.on_raise_self _ _ (by simp [Fld.of_group]) (by simp [Fld.of_group])

theorem Block.outFault_event (hg : g < 18) (h : (s.withRole g roleOut).isSome = true) : (s.outFault g).on (Reg.CELL_GRP_EVT_OUTFLT g) = true := by
  obtain ⟨k, hk⟩ := Option.isSome_iff_exists.mp h
  rw [Block.tends_faultEvent (s.tends_outFault (Block.withRole_lt hg hk) hk) ⟨g, hg, by simp⟩]
  exact Block.on_raise_self _ _ (by simp [Fld.of_group]) (by simp [Fld.of_group])

/-- An external fault holds zero scale (R53). -/
theorem Block.readBack_external_facts {mv : Int} (hg : g < 18) (hstage : (s.grp g).stage = 2) (h : s.outWindow g < mv.natAbs) :
    (s.readBack g mv).on (Reg.CELL_GRP_EVT_EXTFLT g) = true ∧ (s.readBack g mv).on (Reg.CELL_GRP_STAT_HOLDZ g) = true ∧
    ((s.readBack g mv).grp g).stage = 4 := by
  rw [Block.readBack_external hstage h]
  refine ⟨?_, ?_, by rw [Block.holdZero, Block.grp_modGrp_self]⟩
  · rw [Block.only_on (Block.only_holdZero _ g) (by simp [Fld.apart, Fld.of_group]),
      Block.only_on (Block.only_record (Block.only_refl _ faultFlds [.ledger]) (List.Subset.refl _) (by simp) _ _ _ _ _)
        (by simp [faultFlds, Fld.apart, Fld.of_group, Fld.of_device]; omega)]
    exact Block.on_raise_self _ _ (by simp [Fld.of_group]) (by simp [Fld.of_group])
  · rw [Block.holdZero, Block.modGrp_on]
    exact Block.on_raise_self _ _ (by simp [Fld.of_group]) (by simp [Fld.of_group])

end Monitor

theorem monConversion_gives (s : State) (g : Nat) (code : CellCode) (bad : Bool) (hg : g < 18) : gives (.monConversion g code bad) s fun u =>
    let win : Nat := 2 ^ (23 - s.f (Reg.CELL_GRP_CTRL_OUTWIN g))
    let runs : Bool := (s.withRole g roleMon).isSome && s.audioOn && (s.groupKind g).isOut && s.time.tick % 16 == 0
    let far : Bool := decide (win < (codeValue code - s.expectedMon g ((s.grp g).codes.getD 4 0)).natAbs)
    let plain : Bool := runs && !bad && code.toNat != 0 && code.toNat != 262143 && (s.out g).rng == 0
    (runs = false → u = s.toBlock) ∧
    (runs = true → bad = true → u.on (Reg.CELL_GRP_EVT_MONFLT g) = true) ∧
    (plain = true → (s.grp g).stage = 0 → far = false → u.grp g = { s.grp g with ends := 0, misses := 0 } ∧ s.only u [] [.cells]) ∧
    (plain = true → (s.grp g).stage = 0 → far = true → (s.grp g).misses + 1 < s.f (Reg.CELL_GRP_CTRL_OUTN g) →
      u.grp g = { s.grp g with ends := 0, misses := (s.grp g).misses + 1 } ∧ s.only u [] [.cells]) ∧
    (plain = true → (s.grp g).stage = 0 → far = true → s.f (Reg.CELL_GRP_CTRL_OUTN g) ≤ (s.grp g).misses + 1 → (s.withRole g roleOut).isSome = true →
      u.on (Reg.CELL_GRP_EVT_OUTFLT g) = true) ∧
    (plain = true → (s.grp g).stage = 2 → (codeValue code).natAbs ≤ win →
      u.grp g = { s.grp g with ends := 0, checks := (s.grp g).checks + 1, stage := if 16 ≤ (s.grp g).checks + 1 then 3 else 2 } ∧ s.only u [] [.cells]) ∧
    (plain = true → (s.grp g).stage = 2 → win < (codeValue code).natAbs →
      u.on (Reg.CELL_GRP_EVT_EXTFLT g) = true ∧ u.on (Reg.CELL_GRP_STAT_HOLDZ g) = true ∧ (u.grp g).stage = 4) ∧
    (∀ p : Part, p ∉ [Part.cells, Part.ledger, Part.bst, Part.ports] → p.same s.toBlock u) := by
  have hplain (h : (s.monRuns g && !bad && code.toNat != 0 && code.toNat != 262143 && (s.out g).rng == 0) = true) :
      s.monitor g code bad = (s.modGrp g (fun x => { x with ends := 0 })).readBack g (codeValue code) := by
    simp only [Bool.and_eq_true, Bool.not_eq_true', bne_iff_ne, ne_eq, beq_iff_eq] at h
    obtain ⟨⟨⟨⟨hruns, rfl⟩, hlow⟩, hhigh⟩, hrng⟩ := h
    exact Block.monitor_plain hruns (by simp [clips, hlow, hhigh]) hrng
  have hgrp : (s.modGrp g (fun x => { x with ends := 0 })).grp g = { s.grp g with ends := 0 } := Block.grp_modGrp_self _ _ _
  have honly : s.only (s.modGrp g (fun x => { x with ends := 0 })) [] [.cells] := Block.only_modGrp (s.only_refl _ _) _ _ (by simp)
  have hmisses : (s.modGrp g (fun x => { x with ends := 0 })).missesAt g (codeValue code) = s.missesAt g (codeValue code) := by
    unfold Block.missesAt
    rw [hgrp]
    rfl
  have hstage : ((s.modGrp g (fun x => { x with ends := 0 })).grp g).stage = (s.grp g).stage := by rw [hgrp]
  refine gives_of_act (ok := decide (g < 18)) (g := fun b => b.monitor g code bad) rfl (by simpa using hg)
    ⟨Block.monitor_idle, fun h hb => ?_, fun h h0 hfar => ?_, fun h h0 hfar hlt => ?_, fun h h0 hfar hle hout => ?_, fun h h2 hwin => ?_,
      fun h h2 hwin => ?_, (Block.readsBack_monitor hg).2⟩
  · obtain ⟨k, hk, hmonitor⟩ := Block.monitor_runs (code := code) (bad := bad) h
    rw [hmonitor, if_pos hb]
    exact Block.monFault_event hg (Block.withRole_lt hg hk)
  · rw [hplain h, Block.readBack_hit (hstage.trans h0) (hmisses.trans hfar)]
    exact ⟨by rw [Block.grp_modGrp_self, hgrp], Block.only_modGrp honly _ _ (by simp)⟩
  · have hnot : ¬ s.f (Reg.CELL_GRP_CTRL_OUTN g) ≤ (s.grp g).misses + 1 := by omega
    have hn : (s.modGrp g (fun x => { x with ends := 0 })).f (Reg.CELL_GRP_CTRL_OUTN g) = s.f (Reg.CELL_GRP_CTRL_OUTN g) := rfl
    rw [hplain h, Block.readBack_miss (hstage.trans h0) (hmisses.trans hfar), hgrp, hn, decide_eq_false hnot, Block.onlyIf_false]
    exact ⟨by rw [Block.grp_modGrp_self, hgrp], Block.only_modGrp honly _ _ (by simp)⟩
  · have hn : (s.modGrp g (fun x => { x with ends := 0 })).f (Reg.CELL_GRP_CTRL_OUTN g) = s.f (Reg.CELL_GRP_CTRL_OUTN g) := rfl
    rw [hplain h, Block.readBack_miss (hstage.trans h0) (hmisses.trans hfar), hgrp, hn, decide_eq_true hle, Block.onlyIf_true]
    exact Block.outFault_event hg hout
  · rw [hplain h, Block.readBack_check (hstage.trans h2) hwin]
    exact ⟨by rw [Block.grp_modGrp_self, hgrp], Block.only_modGrp honly _ _ (by simp)⟩
  · rw [hplain h]
    exact Block.readBack_external_facts hg (hstage.trans h2) hwin

/-- Settles O26: a conversion counts a clipped code, takes its code and may declare a fault; a read-back is compared in the stage of the fault
engine. What a fault leads to is the care of the cells, which keeps the fault events and counts no clipped code. -/
theorem cellConversions : Obligations.CellConversions := ⟨cellConversion_gives, monConversion_gives⟩

end Sys2Proof.Machine
end

section
/-! SUPPORT. The queue of slices, and the start of a periodic, a recovery and a promotion slice (R60 to R64, R72, R77, R609). -/

namespace Sys2Proof.Machine

/-! ## What steps of the care keep of the cells' records -/

@[simp] theorem Block.setRole_cells (s : Block) (k role slot : Nat) : (s.setRole k role slot).cells = s.cells := rfl
@[simp] theorem Block.refreshGroup_cells (s : Block) (g : Nat) : (s.refreshGroup g).cells = s.cells :=
  (s.only_refreshGroup g).2 .cells (by simp)

/-- A cell that takes a role has it. -/
theorem Block.setRole_role (s : Block) (k role slot : Nat) : (s.setRole k role slot).role k = role % 8 := by
  rw [Block.role, Block.setRole, Block.f_put_other _ _ _ _ (by simp [Fld.of_cell]) (by simp [Fld.of_cell]), Block.f_put_self _ _ _ (by simp [Fld.of_cell])]
  simp [Fld.of_cell]

theorem roleFlds_apart {j k : Nat} (h : j ≠ k) : ∀ x ∈ roleFlds j, ∀ y ∈ roleFlds k, x.apart y := by
  simp only [roleFlds, Fld.of_cell, List.forall_mem_cons, List.not_mem_nil, false_implies, implies_true, and_true, Fld.apart]
  omega

/-- A cell that takes a role leaves the other cells theirs. -/
theorem Block.setRole_role_other (s : Block) {j k : Nat} (h : j ≠ k) (role slot : Nat) : (s.setRole k role slot).role j = s.role j :=
  Block.only_f (s.only_setRole k role slot) (fun x hx => roleFlds_apart h.symm x hx _ (by simp [roleFlds]))

/-- The rotation reads the roles, the marks and the records of the cells. -/
theorem Block.nextLeaving_congr {s t : Block} (hrole : ∀ k, t.role k = s.role k) (hfailed : ∀ k, t.on (Reg.CELL_STAT_FAILED k) = s.on (Reg.CELL_STAT_FAILED k))
    (hcell : ∀ k, t.cell k = s.cell k) (g : Nat) : t.nextLeaving g = s.nextLeaving g := by
  simp only [Block.nextLeaving, Block.working, hrole, hfailed, hcell]

theorem Block.withRole_congr {s t : Block} (hrole : ∀ k, t.role k = s.role k) (g role : Nat) : t.withRole g role = s.withRole g role := by
  simp only [Block.withRole, hrole]

/-! ## The queue -/

section Queue

variable (s : Block)

theorem Block.only_refreshQueued : s.only s.refreshQueued [Reg.CELL_GLB_STAT_QUEUED] [] :=
  Block.only_put (s.only_refl _ _) _ _ (by simp [Fld.of_device]) (by simp)

@[simp] theorem Block.refreshQueued_cells : s.refreshQueued.cells = s.cells := Block.put_cells _ _ _
@[simp] theorem Block.refreshQueued_grp (g : Nat) : s.refreshQueued.grp g = s.grp g := Block.grp_put _ _ _ _

/-- QUEUED counts the groups whose slice waits (R77). -/
theorem Block.refreshQueued_count :
    s.refreshQueued.f Reg.CELL_GLB_STAT_QUEUED = ((List.range 18).filter (fun k => (s.refreshQueued.grp k).queued)).length := by
  simp only [Block.refreshQueued_grp]
  have hle : ((List.range 18).filter (fun k => (s.grp k).queued)).length ≤ 18 := by simpa using List.length_filter_le (fun k => (s.grp k).queued) (List.range 18)
  rw [Block.refreshQueued, Block.f_put_self _ _ _ (by simp [Fld.of_device])]
  exact Nat.mod_eq_of_lt (by simp only [Fld.of_device]; omega)

/-- Entering a group's record into the queue, or taking it out, moves QUEUED and the cells alone. -/
theorem Block.only_requeued (g : Nat) (f : GroupSt → GroupSt) : s.only (s.modGrp g f).refreshQueued [Reg.CELL_GLB_STAT_QUEUED] [.cells] :=
  Block.only_then (Block.only_modGrp (s.only_refl _ _) g f (by simp)) (Block.only_refreshQueued _) (by simp) (by simp)

theorem Block.requeued_grp (g : Nat) (f : GroupSt → GroupSt) : (s.modGrp g f).refreshQueued.grp g = f (s.grp g) := by
  rw [Block.refreshQueued_grp, Block.grp_modGrp_self]

theorem Block.requeued_grp_other {g k : Nat} (h : k ≠ g) (f : GroupSt → GroupSt) : (s.modGrp g f).refreshQueued.grp k = s.grp k := by
  rw [Block.refreshQueued_grp, Block.grp_modGrp_other _ _ h]

theorem Block.sliceQueueOp_eq (g : Nat) : s.sliceQueueOp g = if s.rotates g && ((s.grp g).nextQ.isNone || (s.grp g).nextQ.any s.reached) then
    (s.modGrp g (fun x => { x with
      queued := true, nextQ := some ((s.grp g).nextQ.getD s.time.now + 16 * (12288 * (2 * s.f (Reg.CELL_GRP_CTRL_PERIOD g)))) })).refreshQueued else s := by
  unfold Block.sliceQueueOp
  cases (s.grp g).nextQ <;> simp only [ticks, msTicks, Option.isNone_none, Option.isNone_some, Option.any_none, Option.any_some, 
    Bool.true_or, Bool.false_or]

theorem Block.rotNowOp_eq (g : Nat) :
    s.rotNowOp g = if (s.grp g).queued || s.cells.slice.any (fun sl => sl.group == g) || (s.spare g).isNone then s else
      (s.modGrp g (fun x => { x with queued := true })).refreshQueued := by
  unfold Block.rotNowOp
  cases s.cells.slice <;> cases s.spare g <;> rfl

end Queue

theorem sliceQueue_gives (s : State) (g : Nat) (hg : g < 18) : gives (.sliceQueue g) s fun u =>
    if s.rotates g && ((s.grp g).nextQ.isNone || (s.grp g).nextQ.any s.reached) then
      (u.grp g).queued = true ∧ (u.grp g).nextQ = some ((s.grp g).nextQ.getD s.time.now + 16 * (12288 * (2 * s.f (Reg.CELL_GRP_CTRL_PERIOD g)))) ∧
      u.f Reg.CELL_GLB_STAT_QUEUED = ((List.range 18).filter (fun k => (u.grp k).queued)).length ∧ (∀ k, k ≠ g → u.grp k = s.grp k) ∧
      s.only u [Reg.CELL_GLB_STAT_QUEUED] [.cells]
    else u = s.toBlock := by
  refine gives_of_act (ok := decide (g < 18)) (g := fun b => b.sliceQueueOp g) rfl (by simpa using hg) ?_
  rw [Block.sliceQueueOp_eq]
  split
  · refine ⟨?_, ?_, Block.refreshQueued_count _, fun k hk => s.requeued_grp_other hk _, s.only_requeued g _⟩ <;> rw [Block.requeued_grp]
  · rfl

theorem rotNow_gives (s : State) (g : Nat) (hg : g < 18) (hc : s.coreOn = true) : gives (.rotNow g) s fun u =>
    if (s.grp g).queued || s.cells.slice.any (fun sl => sl.group == g) || (s.spare g).isNone then u = s.toBlock else
      (u.grp g).queued = true ∧ (u.grp g).nextQ = (s.grp g).nextQ ∧ (∀ k, k ≠ g → u.grp k = s.grp k) ∧ s.only u [Reg.CELL_GLB_STAT_QUEUED] [.cells] := by
  refine gives_of_hostWrite (ok := decide (g < 18)) (g := fun b => b.rotNowOp g) rfl hc (by simpa using hg) ?_
  rw [Block.rotNowOp_eq]
  split
  · rfl
  · refine ⟨?_, ?_, fun k hk => s.requeued_grp_other hk _, s.only_requeued g _⟩ <;> rw [Block.requeued_grp]

/-! ## The start of a slice -/

/-- The fields of a slice that begins (R77). -/
def beginFlds (k : Nat) : List Fld := [Fld.all (Reg.CELL_SLICE k), Reg.CELL_GLB_STAT_BUSY, Reg.CELL_GLB_STAT_GRP, Reg.CELL_GLB_STAT_CELL]

theorem beginFlds_moved (k : Nat) : ∀ x ∈ beginFlds k, faultMoves x.addr := by
  simp only [beginFlds, List.forall_mem_cons, List.not_mem_nil, false_implies, implies_true, and_true]
  exact ⟨faultMoves_of_unit k (by simp [Fld.all]), .inl rfl, .inl rfl, .inl rfl⟩

section Begin

variable (s : Block) (sl : Slice)

theorem Block.only_beginSlice : s.only (s.beginSlice sl) (beginFlds sl.cell) [.cells] := by
  have hcells := Block.only_cells (s.only_refl (beginFlds sl.cell) [.cells])
    { s.cells with slice := some sl, nextId := (s.cells.nextId + 1) % 2 ^ 16 } (by simp)
  have hrecord := Block.only_setW hcells (Reg.CELL_SLICE sl.cell)
    (setBits (setBits 0 0 16 ((s.cells.nextId + 1) % 2 ^ 16 + 2 ^ 16 - 1)) 24 3 sl.phase) (by simp [beginFlds])
  have hbusy := Block.only_put hrecord Reg.CELL_GLB_STAT_BUSY 1 (by decide) (by simp [beginFlds])
  have hgrp := Block.only_put hbusy Reg.CELL_GLB_STAT_GRP sl.group (by decide) (by simp [beginFlds])
  exact Block.only_put hgrp Reg.CELL_GLB_STAT_CELL sl.cell (by decide) (by simp [beginFlds])

theorem Block.beginSlice_cells : (s.beginSlice sl).cells = { s.cells with slice := some sl, nextId := (s.cells.nextId + 1) % 2 ^ 16 } := rfl

theorem Block.beginSlice_grp (g : Nat) : (s.beginSlice sl).grp g = s.grp g := by rw [Block.grp, Block.beginSlice_cells, Block.grp]

theorem Block.beginSlice_cellSt (k : Nat) : (s.beginSlice sl).cell k = s.cell k := by rw [Block.cell, Block.beginSlice_cells, Block.cell]

theorem Block.beginSlice_busy : (s.beginSlice sl).f Reg.CELL_GLB_STAT_BUSY = 1 := by
  rw [Block.beginSlice, Block.f_put_other _ _ _ _ (by decide) (by decide), Block.f_put_other _ _ _ _ (by decide) (by decide),
    Block.f_put_self _ _ _ (by decide)]
  rfl

theorem Block.beginSlice_group (h : sl.group < 18) : (s.beginSlice sl).f Reg.CELL_GLB_STAT_GRP = sl.group := by
  rw [Block.beginSlice, Block.f_put_other _ _ _ _ (by decide) (by decide), Block.f_put_self _ _ _ (by decide)]
  exact Nat.mod_eq_of_lt (by simp only [Fld.of_device]; omega)

theorem Block.beginSlice_cell (h : sl.cell < 86) : (s.beginSlice sl).f Reg.CELL_GLB_STAT_CELL = sl.cell := by
  rw [Block.beginSlice, Block.f_put_self _ _ _ (by decide)]
  exact Nat.mod_eq_of_lt (by simp only [Fld.of_device]; omega)

/-- The progress record of a slice starts anew. -/
theorem Block.beginSlice_record {x : Fld} (h : x.addr = Reg.CELL_SLICE sl.cell) : (s.beginSlice sl).f x =
    bitsOf (setBits (setBits 0 0 16 ((s.cells.nextId + 1) % 2 ^ 16 + 2 ^ 16 - 1)) 24 3 sl.phase) x.lo x.width := by
  have hne : x.addr ≠ Reg.CELL_GLB_STAT := by rw [h]; simp only [Reg.CELL_SLICE, Reg.CELL_GLB_STAT]; omega
  rw [Block.beginSlice, Block.f_put_addr _ _ _ _ hne, Block.f_put_addr _ _ _ _ hne, Block.f_put_addr _ _ _ _ hne, Block.f, h, Block.word_setW_self]

theorem Block.beginSlice_id : (s.beginSlice sl).f (Reg.CELL_SLICE_SLICE_ID sl.cell) = s.cells.nextId % 2 ^ 16 := by
  rw [Block.beginSlice_record s sl rfl, bitsOf_setBits_other _ _ _ _ _ _ (by decide) (by simp [Fld.of_cell])]
  exact (bitsOf_setBits_self _ _ _ _ (by decide)).trans (by omega)

theorem Block.beginSlice_patterns : (s.beginSlice sl).f (Reg.CELL_SLICE_PATTERNS sl.cell) = 0 := by
  rw [Block.beginSlice_record s sl rfl, bitsOf_setBits_other _ _ _ _ _ _ (by decide) (by simp [Fld.of_cell]),
    bitsOf_setBits_other _ _ _ _ _ _ (by decide) (by simp [Fld.of_cell])]
  simp [bitsOf]

end Begin

/-! ## SLICE_START -/

/-- The roles with which a periodic slice begins: an input's spare shadows the slot of the leaving cell, a MON cell is swapped at once, an OFF cell
is tested in place (R64, R67, R68). -/
def Block.sliceRoles (s : Block) (g sp k : Nat) : Block :=
  let slot := s.slotOf k
  let role := s.role k
  let s := s.onlyIf (s.groupKind g).isIn (fun s => s.put (Reg.CELL_CFG_SLOT sp) slot)
  let s := s.onlyIf (role == roleMon) (fun s => (s.setRole sp roleMon 0).setRole k roleTest 0)
  s.onlyIf (role == roleOff) (fun s => s.setRole k roleTest 0)

/-- The periodic slice on a cell that leaves (R64). -/
def Block.periodicSlice (s : Block) (g sp k : Nat) : Slice :=
  { group := g, cell := k, kind := .periodic, role := s.role k, slot := s.slotOf k, spare := sp,
    phase := if s.role k = roleIn || s.role k = roleOut then 1 else 2,
    start := s.after (if (s.groupKind g).isIn && s.f (Reg.CELL_CFG_SLOT sp) != s.slotOf k then s.ticksToSlot (s.slotOf k) 40 else 0),
    target := 0, k := 0 }

section Start

variable (s : Block)

theorem Block.only_sliceRoles (g sp k : Nat) : s.only (s.sliceRoles g sp k) (roleFlds sp ++ roleFlds k) [] := by
  have hset (t : Block) (h : s.only t (roleFlds sp ++ roleFlds k) []) (j role slot : Nat) (hj : j = sp ∨ j = k) :
      s.only (t.setRole j role slot) (roleFlds sp ++ roleFlds k) [] :=
    Block.only_then h (t.only_setRole j role slot) (by rcases hj with rfl | rfl <;> simp) (by simp)
  unfold Block.sliceRoles
  extract_lets slot role shadowing swapped
  have hshadowing : s.only shadowing (roleFlds sp ++ roleFlds k) [] := Block.only_onlyIf (s.only_refl _ _) fun _ =>
    Block.only_put (s.only_refl _ _) _ _ (by simp [Fld.of_cell]) (by simp [roleFlds])
  have hswapped : s.only swapped (roleFlds sp ++ roleFlds k) [] := Block.only_onlyIf hshadowing fun _ =>
    hset _ (hset _ hshadowing sp _ _ (.inl rfl)) k _ _ (.inr rfl)
  exact Block.only_onlyIf hswapped fun _ => hset _ hswapped k _ _ (.inr rfl)

/-- The queued slice of a group leaves the queue (R64). -/
def Block.dequeued (s : Block) (g : Nat) : Block := (s.modGrp g (fun x => { x with queued := false })).refreshQueued

/-- The periodic slice of a group has begun (R64). -/
def Block.sliceBegun (s : Block) (g sp k : Nat) : Block := ((s.sliceRoles g sp k).beginSlice (s.periodicSlice g sp k)).refreshGroup g

theorem Block.sliceRoles_after (g sp k n : Nat) : (s.sliceRoles g sp k).after n = s.after n := by
  have htime : (s.sliceRoles g sp k).time = s.time := (s.only_sliceRoles g sp k).2 .time (by simp)
  rw [Block.after, Block.after, htime]

theorem Block.sliceStartOp_busy (h : s.cells.slice.isSome = true ∨ s.sliceMode = false ∨ (List.range 86).any s.waitsSlice = true) :
    s.sliceStartOp = s := if_pos (by rcases h with h | h | h <;> simp [h])

theorem Block.sliceStartOp_begins {g sp k : Nat} (hs : s.cells.slice = none) (hm : s.sliceMode = true) (hw : (List.range 86).any s.waitsSlice = false)
    (hq : (List.range 18).find? (fun g => (s.grp g).queued && !s.groupShut g) = some g) (hsp : (s.dequeued g).spare g = some sp)
    (hk : (s.dequeued g).nextLeaving g = some k) : s.sliceStartOp = (s.dequeued g).sliceBegun g sp k := by
  unfold Block.dequeued at hsp hk
  unfold Block.sliceStartOp
  rw [if_neg (by simp [hs, hm, hw]), hq]
  simp only [hsp, hk]
  rw [Block.sliceBegun, Block.periodicSlice, ← Block.sliceRoles_after (s.dequeued g) g sp k]
  rfl

theorem Block.sliceStartOp_cases : s.sliceStartOp = s ∨ ∃ g, s.sliceStartOp = s.dequeued g ∨ ∃ sp k, s.sliceStartOp = (s.dequeued g).sliceBegun g sp k := by
  by_cases hbusy : s.cells.slice.isSome = true ∨ s.sliceMode = false ∨ (List.range 86).any s.waitsSlice = true
  · exact .inl (s.sliceStartOp_busy hbusy)
  · simp only [not_or, Bool.not_eq_true, Bool.not_eq_false, Option.isSome_eq_false_iff, Option.isNone_iff_eq_none] at hbusy
    obtain ⟨hs, hm, hw⟩ := hbusy
    cases hq : (List.range 18).find? (fun g => (s.grp g).queued && !s.groupShut g) with
    | none => exact .inl (by unfold Block.sliceStartOp; rw [if_neg (by simp [hs, hm, hw]), hq])
    | some g =>
      refine .inr ⟨g, ?_⟩
      cases hsp : (s.dequeued g).spare g with
      | none =>
        refine .inl ?_
        unfold Block.dequeued at hsp ⊢
        unfold Block.sliceStartOp
        rw [if_neg (by simp [hs, hm, hw]), hq]
        simp only [hsp]
      | some sp =>
        cases hk : (s.dequeued g).nextLeaving g with
        | none =>
          refine .inl ?_
          unfold Block.dequeued at hsp hk ⊢
          unfold Block.sliceStartOp
          rw [if_neg (by simp [hs, hm, hw]), hq]
          simp only [hsp, hk]
        | some k => exact .inr ⟨sp, k, s.sliceStartOp_begins hs hm hw hq hsp hk⟩

end Start

/-- A slice that leaves the queue changes no role and no mark of a cell. -/
theorem Block.dequeued_f (s : Block) (g : Nat) {x : Fld} (h : Reg.CELL_GLB_STAT_QUEUED.apart x) : (s.dequeued g).f x = s.f x :=
  Block.only_f (s.only_requeued g _) (by simpa using h)

@[simp] theorem Block.dequeued_role (s : Block) (g k : Nat) : (s.dequeued g).role k = s.role k :=
  s.dequeued_f g (by simp only [Fld.apart, Fld.of_device, Fld.of_cell]; omega)

theorem Block.dequeued_cells (s : Block) (g : Nat) : (s.dequeued g).cells = (s.modGrp g (fun x => { x with queued := false })).cells :=
  Block.refreshQueued_cells _

theorem Block.dequeued_now (s : Block) (g : Nat) : (s.dequeued g).time = s.time := (s.only_requeued g _).2 .time (by simp)

theorem Block.dequeued_spare (s : Block) (g j : Nat) : (s.dequeued g).spare j = s.spare j := Block.withRole_congr (s.dequeued_role g) j roleSpare

theorem Block.dequeued_nextLeaving (s : Block) (g j : Nat) : (s.dequeued g).nextLeaving j = s.nextLeaving j := by
  refine Block.nextLeaving_congr (s.dequeued_role g) (fun k => ?_) (fun k => ?_) j
  · rw [Block.on, Block.on, s.dequeued_f g (by simp only [Fld.apart, Fld.of_device, Fld.of_cell]; omega)]
  · rw [Block.dequeued, Block.cell_congr (Block.refreshQueued_cells _), Block.cell_modGrp]

/-- A fold that keeps its choice or takes the element at hand chooses from the list. -/
theorem foldl_choice {f : Option Nat → Nat → Option Nat} (hf : ∀ b k, f b k = some k ∨ f b k = b) (l : List Nat) (b : Option Nat) :
    l.foldl f b = b ∨ ∃ k ∈ l, l.foldl f b = some k := by
  induction l generalizing b with
  | nil => exact .inl rfl
  | cons i l ih =>
    rw [List.foldl_cons]
    obtain h | ⟨k, hk, h⟩ := ih (f b i)
    · obtain hi | hi := hf b i
      · exact .inr ⟨i, List.mem_cons_self, h.trans hi⟩
      · exact .inl (h.trans hi)
    · exact .inr ⟨k, List.mem_cons_of_mem _ hk, h⟩

theorem foldl_choice_mem {f : Option Nat → Nat → Option Nat} (hf : ∀ b k, f b k = some k ∨ f b k = b) {l : List Nat} {k : Nat}
    (h : l.foldl f none = some k) : k ∈ l := by
  obtain hnone | ⟨j, hj, hsome⟩ := foldl_choice hf l none
  · exact absurd (h.symm.trans hnone) (by simp)
  · exact Option.some.inj (h.symm.trans hsome) ▸ hj

/-- The cell that leaves next is a cell of its group (R60). -/
theorem Block.nextLeaving_mem {s : Block} {g k : Nat} (h : s.nextLeaving g = some k) : k ∈ groupCells g := by
  unfold Block.nextLeaving at h
  refine (List.mem_filter.mp (foldl_choice_mem ?_ h)).1
  rintro (- | b) i
  · exact .inl rfl
  · dsimp only
    split
    · exact .inl rfl
    · exact .inr rfl

/-- What the start of a slice moves. -/
theorem Block.within_sliceBegun {s t : Block} (h : s.within t faultMoves [.cells]) (g sp k : Nat) : s.within (t.sliceBegun g sp k) faultMoves [.cells] := by
  have hroles := Block.within_then h (t.only_sliceRoles g sp k) (fun x hx => (List.mem_append.mp hx).elim (roleFlds_moved sp x) (roleFlds_moved k x)) (by simp)
  have hbegun := Block.within_then hroles (Block.only_beginSlice _ (t.periodicSlice g sp k)) (beginFlds_moved _) (List.Subset.refl _)
  exact Block.within_then hbegun (Block.only_refreshGroup _ g) (upkeepFlds_moved g) (by simp)

theorem Block.within_dequeued (s : Block) (g : Nat) : s.within (s.dequeued g) faultMoves [.cells] :=
  Block.within_of_only (s.only_requeued g _) (by simpa using .inl rfl)

theorem Block.within_sliceStartOp (s : Block) : s.within s.sliceStartOp faultMoves [.cells] := by
  obtain h | ⟨g, h | ⟨sp, k, h⟩⟩ := s.sliceStartOp_cases <;> rw [h]
  · exact s.within_refl _ _
  · exact s.within_dequeued g
  · exact Block.within_sliceBegun (s.within_dequeued g) g sp k

/-- The upkeep of a group leaves the progress record of a slice alone, and the device's. -/
theorem upkeepFlds_apart_begin {g k : Nat} (hk : k < 86) {y : Fld} (hy : y.addr = Reg.CELL_SLICE k ∨ y.addr = Reg.CELL_GLB_STAT) (hg : g < 18) :
    ∀ x ∈ upkeepFlds g, x.apart y := by
  intro x hx
  refine .inl ?_
  simp only [upkeepFlds, faultFlds, Fld.of_group, Fld.of_device, List.mem_append, List.mem_cons, List.not_mem_nil, or_false, List.mem_map, Fld.of_cell] at hx
  simp only [Reg.CELL_SLICE, Reg.CELL_GLB_STAT] at hy
  rcases hx with ((rfl | rfl | rfl | rfl | rfl | rfl) | rfl | rfl | rfl | rfl | rfl) | ⟨j, -, rfl⟩ <;> dsimp only <;> omega

theorem sliceStart_gives (s : State) : gives .sliceStart s fun u =>
    (s.cells.slice.isSome = true ∨ s.sliceMode = false ∨ (List.range 86).any s.waitsSlice = true →
      u = s.toBlock) ∧
    (∀ g sp k, s.cells.slice = none → s.sliceMode = true → (List.range 86).any s.waitsSlice = false →
      (List.range 18).find? (fun g => (s.grp g).queued && !s.groupShut g) = some g → s.spare g = some sp → s.nextLeaving g = some k →
      (u.grp g).queued = false ∧ u.f Reg.CELL_GLB_STAT_BUSY = 1 ∧ u.f Reg.CELL_GLB_STAT_GRP = g ∧ u.f Reg.CELL_GLB_STAT_CELL = k ∧
      u.f (Reg.CELL_SLICE_SLICE_ID k) = s.cells.nextId % 2 ^ 16 ∧ u.f (Reg.CELL_SLICE_PATTERNS k) = 0 ∧
      ∃ sl, u.cells.slice = some sl ∧ sl.group = g ∧ sl.cell = k ∧ sl.kind = .periodic ∧ sl.spare = sp ∧ sl.role = s.role k ∧
        sl.phase = (if s.role k = roleIn ∨ s.role k = roleOut then 1 else 2) ∧ s.time.now ≤ sl.start) ∧
    s.within u cellMoves [.cells] := by
  refine gives_of_act (ok := true) (g := fun b => b.sliceStartOp) rfl rfl
    ⟨s.sliceStartOp_busy, fun g sp k hs hm hw hq hsp hk => ?_, Block.within_mono s.within_sliceStartOp (fun _ => cellMoves_of_faultMoves) (List.Subset.refl _)⟩
  have hg : g < 18 := List.mem_range.mp (List.mem_of_find?_eq_some hq)
  have hk86 : k < 86 := lt_of_mem_groupCells hg (Block.nextLeaving_mem hk)
  have hop := s.sliceStartOp_begins hs hm hw hq ((s.dequeued_spare g g).trans hsp) ((s.dequeued_nextLeaving g g).trans hk)
  have hcells : ((s.dequeued g).sliceRoles g sp k).cells = (s.dequeued g).cells := ((s.dequeued g).only_sliceRoles g sp k).2 .cells (by simp)
  have hkept {y : Fld} (hy : y.addr = Reg.CELL_SLICE k ∨ y.addr = Reg.CELL_GLB_STAT) : ((s.dequeued g).sliceBegun g sp k).f y =
      (((s.dequeued g).sliceRoles g sp k).beginSlice ((s.dequeued g).periodicSlice g sp k)).f y :=
    Block.only_f (Block.only_refreshGroup _ g) (upkeepFlds_apart_begin hk86 hy hg)
  have hslice : ((s.dequeued g).sliceBegun g sp k).cells.slice = some ((s.dequeued g).periodicSlice g sp k) := by
    rw [Block.sliceBegun, Block.refreshGroup_cells, Block.beginSlice_cells]
  have hid : ((s.dequeued g).sliceRoles g sp k).cells.nextId = s.cells.nextId := by rw [hcells, Block.dequeued_cells]; rfl
  rw [hop]
  refine ⟨?_, ?_, ?_, ?_, ?_, ?_, _, hslice, rfl, rfl, rfl, rfl, s.dequeued_role g k, ?_, ?_⟩
  · rw [Block.sliceBegun, Block.grp_congr (Block.refreshGroup_cells _ g), Block.beginSlice_grp, Block.grp_congr hcells, Block.dequeued, Block.requeued_grp]
  · rw [hkept (.inr rfl), Block.beginSlice_busy]
  · rw [hkept (.inr rfl), Block.beginSlice_group _ _ hg]; rfl
  · rw [hkept (.inr rfl), Block.beginSlice_cell _ _ hk86]; rfl
  · rw [hkept (.inl rfl), ← hid]
    exact Block.beginSlice_id _ _
  · rw [hkept (.inl rfl)]
    exact Block.beginSlice_patterns _ _
  · simp [Block.periodicSlice]
  · rw [Block.periodicSlice, Block.after, Block.dequeued_now]
    exact Nat.le_add_right _ _

/-! ## RECOVERY_SLICE and PROMOTION_SLICE -/

/-- The recovery or promotion slice on a waiting cell (R62, R72, R609). -/
def Block.waitingSlice (s : Block) (k : Nat) (kind : SliceKind) : Slice :=
  { group := groupOfCell k, cell := k, kind := kind, role := roleOff, slot := 0, spare := noCell, phase := 2, start := s.time.now, target := 0, k := 0 }

section Waiting

variable (s : Block) (k : Nat) (kind : SliceKind)

theorem Block.startWaiting_eq : s.startWaiting k kind =
    ((s.modCell k (fun c => { c with waitRec := false, waitPromo := false })).setRole k roleTest 0).beginSlice (s.waitingSlice k kind) := rfl

theorem Block.only_startWaiting : s.only (s.startWaiting k kind) (roleFlds k ++ beginFlds k) [.cells] := by
  have hcell : s.only (s.modCell k (fun c => { c with waitRec := false, waitPromo := false })) (roleFlds k ++ beginFlds k) [.cells] :=
    Block.only_modCell (s.only_refl _ _) _ _ (by simp)
  have hrole := Block.only_then hcell (Block.only_setRole _ k roleTest 0) (by simp) (by simp)
  exact Block.only_then hrole (Block.only_beginSlice _ (s.waitingSlice k kind)) (by simp [Block.waitingSlice]) (by simp)

theorem Block.within_startWaiting : s.within (s.startWaiting k kind) cellMoves [.cells] :=
  Block.within_of_only (s.only_startWaiting k kind) fun x hx => cellMoves_of_faultMoves
    ((List.mem_append.mp hx).elim (roleFlds_moved k x) (beginFlds_moved k x))

theorem Block.startWaiting_slice : (s.startWaiting k kind).cells.slice = some (s.waitingSlice k kind) := by
  rw [Block.startWaiting_eq, Block.beginSlice_cells]

theorem Block.startWaiting_cell : (s.startWaiting k kind).cell k = { s.cell k with waitRec := false, waitPromo := false } := by
  rw [Block.startWaiting_eq, Block.beginSlice_cellSt, Block.cell_congr (Block.setRole_cells _ k roleTest 0), Block.cell_modCell_self]

theorem Block.startWaiting_busy : (s.startWaiting k kind).f Reg.CELL_GLB_STAT_BUSY = 1 := by rw [Block.startWaiting_eq, Block.beginSlice_busy]

theorem Block.startWaiting_role : (s.startWaiting k kind).role k = roleTest := by
  rw [Block.startWaiting_eq, Block.role, Block.only_f (Block.only_beginSlice _ (s.waitingSlice k kind)) ?_]
  · exact Block.setRole_role _ k roleTest 0
  · simp only [beginFlds, Block.waitingSlice, Fld.all, Fld.apart, Fld.of_device, Fld.of_cell, Reg.CELL_SLICE, List.forall_mem_cons, List.not_mem_nil,
      false_implies, implies_true, and_true]
    omega

end Waiting

section Requests

variable {s : Block}

theorem Block.recoverySliceOp_busy (h : s.cells.slice.isSome = true ∨ s.sliceMode = false) : s.recoverySliceOp = s :=
  if_pos (by rcases h with h | h <;> simp [h])

theorem Block.recoverySliceOp_starts {k : Nat} (hs : s.cells.slice = none) (hm : s.sliceMode = true)
    (hk : (List.range 86).find? (fun k => (s.cell k).waitRec && s.waitsSlice k &&
      !((s.grp (groupOfCell k)).stage == 5 && (groupCells (groupOfCell k)).any (fun c => (s.cell c).waitPromo))) = some k) :
    s.recoverySliceOp = s.startWaiting k .recovery := by
  unfold Block.recoverySliceOp
  rw [if_neg (by simp [hs, hm])]
  dsimp only
  rw [hk]

theorem Block.recoverySliceOp_cases (s : Block) : s.recoverySliceOp = s ∨ ∃ k, s.recoverySliceOp = s.startWaiting k .recovery := by
  unfold Block.recoverySliceOp
  split
  · exact .inl rfl
  · dsimp only
    split
    · exact .inr ⟨_, rfl⟩
    · exact .inl rfl

theorem Block.promotionSliceOp_busy (h : s.cells.slice.isSome = true ∨ s.sliceMode = false) : s.promotionSliceOp = s :=
  if_pos (by rcases h with h | h <;> simp [h])

/-- With no output that waits for a promotion, the lowest cell that can start its promotion takes it, or stops waiting where its group has a spare
(R72). -/
theorem Block.promotionSliceOp_next {k : Nat} (hs : s.cells.slice = none) (hm : s.sliceMode = true)
    (ho : (List.range 86).find? (fun k => (s.cell k).waitPromo && s.waitsSlice k && (s.grp (groupOfCell k)).stage == 5) = none)
    (hk : (List.range 86).find? (fun k => (s.cell k).waitPromo && s.waitsSlice k && (groupCells (groupOfCell k)).all (fun c => !(s.cell c).waitRec)) = some k) :
    s.promotionSliceOp = if (s.spare (groupOfCell k)).isSome then s.modCell k (fun c => { c with waitPromo := false }) else s.startWaiting k .promotion := by
  unfold Block.promotionSliceOp
  rw [if_neg (by simp [hs, hm]), ho]
  dsimp only
  rw [hk]

theorem Block.promotionSliceOp_cases (s : Block) : s.promotionSliceOp = s ∨ (∃ k, s.promotionSliceOp = s.modCell k (fun c => { c with waitPromo := false })) ∨
    ∃ k kind, s.promotionSliceOp = s.startWaiting k kind := by
  unfold Block.promotionSliceOp
  split
  · exact .inl rfl
  · split
    · exact .inr (.inr ⟨_, _, rfl⟩)
    · split
      · exact .inl rfl
      · split
        · exact .inr (.inl ⟨_, rfl⟩)
        · exact .inr (.inr ⟨_, _, rfl⟩)

end Requests

theorem recoverySlice_gives (s : State) : gives .recoverySlice s fun u =>
    (s.cells.slice.isSome = true ∨ s.sliceMode = false → u = s.toBlock) ∧
    (∀ k, s.cells.slice = none → s.sliceMode = true →
      (List.range 86).find? (fun k => (s.cell k).waitRec && s.waitsSlice k &&
        !((s.grp (groupOfCell k)).stage == 5 && (groupCells (groupOfCell k)).any (fun c => (s.cell c).waitPromo))) = some k →
      u.cells.slice = some { group := groupOfCell k, cell := k, kind := .recovery, role := roleOff, slot := 0, spare := noCell, phase := 2,
                             start := s.time.now, target := 0, k := 0 } ∧ u.role k = roleTest ∧ (u.cell k).waitRec = false ∧ u.f Reg.CELL_GLB_STAT_BUSY = 1) ∧
    s.within u cellMoves [.cells] := by
  refine gives_of_act (ok := true) (g := fun b => b.recoverySliceOp) rfl rfl ⟨Block.recoverySliceOp_busy, fun k hs hm hk => ?_, ?_⟩
  · rw [Block.recoverySliceOp_starts hs hm hk]
    exact ⟨Block.startWaiting_slice _ _ _, Block.startWaiting_role _ _ _, by rw [Block.startWaiting_cell], Block.startWaiting_busy _ _ _⟩
  · obtain h | ⟨k, h⟩ := s.recoverySliceOp_cases <;> rw [h]
    · exact s.within_refl _ _
    · exact s.within_startWaiting k .recovery

theorem promotionSlice_gives (s : State) : gives .promotionSlice s fun u =>
    (s.cells.slice.isSome = true ∨ s.sliceMode = false → u = s.toBlock) ∧
    (∀ k, s.cells.slice = none → s.sliceMode = true →
      (List.range 86).find? (fun k => (s.cell k).waitPromo && s.waitsSlice k && (s.grp (groupOfCell k)).stage == 5) = none →
      (List.range 86).find? (fun k => (s.cell k).waitPromo && s.waitsSlice k && (groupCells (groupOfCell k)).all (fun c => !(s.cell c).waitRec)) = some k →
      (u.cell k).waitPromo = false ∧
      (s.spare (groupOfCell k) = none → u.role k = roleTest ∧ ∃ sl, u.cells.slice = some sl ∧ sl.cell = k ∧ sl.kind = .promotion ∧ sl.phase = 2) ∧
      ((s.spare (groupOfCell k)).isSome = true → u.cells.slice = none ∧ s.only u [] [.cells])) ∧
    s.within u cellMoves [.cells] := by
  refine gives_of_act (ok := true) (g := fun b => b.promotionSliceOp) rfl rfl ⟨Block.promotionSliceOp_busy, fun k hs hm ho hk => ?_, ?_⟩
  · rw [Block.promotionSliceOp_next hs hm ho hk]
    cases hsp : s.spare (groupOfCell k) with
    | none =>
      rw [if_neg (by simp)]
      exact ⟨by rw [Block.startWaiting_cell], fun _ => ⟨Block.startWaiting_role _ _ _, _, Block.startWaiting_slice _ _ _, rfl, rfl, rfl⟩, by simp⟩
    | some sp =>
      rw [if_pos (by simp)]
      exact ⟨by rw [Block.cell_modCell_self], by simp, fun _ => ⟨hs, Block.only_modCell (s.only_refl _ _) _ _ (by simp)⟩⟩
  · obtain h | ⟨k, h⟩ | ⟨k, kind, h⟩ := s.promotionSliceOp_cases <;> rw [h]
    · exact s.within_refl _ _
    · exact Block.within_modCell (s.within_refl _ _) _ _ (by simp)
    · exact s.within_startWaiting k kind

end Sys2Proof.Machine
end

section
/-! SUPPORT. The end of a slice: its record and events, and what follows for its cell and its group (R54, R59, R62 to R65, R72, R262, R609). -/

namespace Sys2Proof.Machine

/-! ## Fields that the care of a group leaves alone -/

/-- A field of the roles, marks and progress records of the cells, or of the verdicts of a group. -/
def Fld.ofSlices (y : Fld) : Prop :=
  (∃ k < 86, y.addr = Reg.CELL_CFG k ∨ y.addr = Reg.CELL_STAT k ∨ y.addr = Reg.CELL_SLICE k) ∨ ∃ g < 18, y.addr = Reg.CELL_GRP_EVT g ∧ 6 ≤ y.lo

theorem upkeepFlds_apart {y : Fld} (h : y.ofSlices) (g : Nat) : ∀ x ∈ upkeepFlds g, x.apart y := by
  intro x hx
  simp only [Fld.ofSlices, Reg.CELL_CFG, Reg.CELL_STAT, Reg.CELL_SLICE, Reg.CELL_GRP_EVT] at h
  simp only [upkeepFlds, faultFlds, Fld.of_group, Fld.of_device, List.mem_append, List.mem_cons, List.not_mem_nil, or_false, List.mem_map, Fld.of_cell] at hx
  unfold Fld.apart
  obtain ⟨k, hk, h⟩ | ⟨j, hj, h, hlo⟩ := h <;>
    rcases hx with ((rfl | rfl | rfl | rfl | rfl | rfl) | rfl | rfl | rfl | rfl | rfl) | ⟨i, -, rfl⟩ <;> dsimp only <;> omega

theorem holdz_apart {y : Fld} (h : y.ofSlices) (g : Nat) : (Reg.CELL_GRP_STAT_HOLDZ g).apart y := by
  simp only [Fld.ofSlices, Reg.CELL_CFG, Reg.CELL_STAT, Reg.CELL_SLICE, Reg.CELL_GRP_EVT] at h
  simp only [Fld.apart, Fld.of_group]
  omega

theorem verdictFlds_apart {y : Fld} {k : Nat} (hk : k < 86) (h : y.addr = Reg.CELL_CFG k ∨ y.addr = Reg.CELL_STAT k) (g : Nat) : ∀ x ∈ verdictFlds g, x.apart y := by
  intro x hx
  refine .inl ?_
  simp only [Reg.CELL_CFG, Reg.CELL_STAT] at h
  simp only [verdictFlds, faultFlds, Fld.of_group, Fld.of_device, List.mem_append, List.mem_cons, List.not_mem_nil, or_false] at hx
  rcases hx with (rfl | rfl | rfl | rfl | rfl | rfl | rfl | rfl | rfl) | rfl | rfl | rfl | rfl | rfl <;> dsimp only <;> omega

theorem ofSlices_role {k : Nat} (h : k < 86) : (Reg.CELL_CFG_ROLE k).ofSlices := .inl ⟨k, h, .inl rfl⟩
theorem ofSlices_failed {k : Nat} (h : k < 86) : (Reg.CELL_STAT_FAILED k).ofSlices := .inl ⟨k, h, .inr (.inl rfl)⟩
theorem ofSlices_last {k : Nat} (h : k < 86) : (Reg.CELL_STAT_LAST k).ofSlices := .inl ⟨k, h, .inr (.inl rfl)⟩
theorem ofSlices_phase {k : Nat} (h : k < 86) : (Reg.CELL_SLICE_PHASE k).ofSlices := .inl ⟨k, h, .inr (.inr rfl)⟩
theorem ofSlices_event {g : Nat} (h : g < 18) : ∀ y ∈ [Reg.CELL_GRP_EVT_SLPASS g, Reg.CELL_GRP_EVT_SLFAIL g, Reg.CELL_GRP_EVT_SLINC g], y.ofSlices := by
  simp only [List.forall_mem_cons, List.not_mem_nil, false_implies, implies_true, and_true]
  exact ⟨.inr ⟨g, h, rfl, by simp [Fld.of_group]⟩, .inr ⟨g, h, rfl, by simp [Fld.of_group]⟩, .inr ⟨g, h, rfl, by simp [Fld.of_group]⟩⟩

/-! ## The log of slices -/

/-- The slice that runs, the slices completed, and what a cell has from its slices: whether it has passed one, and its last one's number. -/
def Block.sliceLog (s : Block) (k : Nat) : Option Slice × Nat × Bool × Nat := (s.cells.slice, s.cells.done, (s.cell k).passed, (s.cell k).age)

section Log

variable (s : Block) (k : Nat)

theorem Block.sliceLog_congr {s t : Block} (h : t.cells = s.cells) (k : Nat) : t.sliceLog k = s.sliceLog k := by
  rw [Block.sliceLog, Block.sliceLog, h, Block.cell_congr h]

theorem Block.slice_of_log {s t : Block} {k : Nat} (h : t.sliceLog k = s.sliceLog k) : t.cells.slice = s.cells.slice := congrArg Prod.fst h

/-- A change of a cell's record that keeps what it has from its slices. -/
theorem Block.sliceLog_modCell (j : Nat) {f : CellSt → CellSt} (hf : ∀ c, (f c).passed = c.passed ∧ (f c).age = c.age) :
    (s.modCell j f).sliceLog k = s.sliceLog k := by
  have hcell : ((s.modCell j f).cell k).passed = (s.cell k).passed ∧ ((s.modCell j f).cell k).age = (s.cell k).age := by
    by_cases h : k = j
    · subst h
      rw [Block.cell_modCell_self]
      exact hf _
    · rw [Block.cell_modCell_other _ _ h]
      exact ⟨rfl, rfl⟩
  rw [Block.sliceLog, hcell.1, hcell.2]
  rfl

theorem Block.sliceLog_onlyIf (c : Bool) (f : Block → Block) (h : (f s).sliceLog k = s.sliceLog k) : (s.onlyIf c f).sliceLog k = s.sliceLog k := by
  cases c
  · rfl
  · exact h

theorem Block.sliceLog_setRole (j role slot : Nat) : (s.setRole j role slot).sliceLog k = s.sliceLog k := Block.sliceLog_congr (Block.setRole_cells _ _ _ _) k

theorem Block.sliceLog_refreshGroup (g : Nat) : (s.refreshGroup g).sliceLog k = s.sliceLog k := Block.sliceLog_congr (Block.refreshGroup_cells _ _) k

theorem Block.sliceLog_refreshCalv (g : Nat) : (s.refreshCalv g).sliceLog k = s.sliceLog k :=
  Block.sliceLog_congr ((s.only_refreshCalv g).2 .cells (by simp)) k

theorem Block.sliceLog_recentre (g : Nat) : (s.recentre g).sliceLog k = s.sliceLog k := Block.sliceLog_congr ((s.only_recentre g).2 .cells (by simp)) k

theorem Block.sliceLog_degradeCheck (g : Nat) : (s.degradeCheck g).sliceLog k = s.sliceLog k :=
  Block.sliceLog_congr ((s.only_degradeCheck g).2 .cells (by simp)) k

theorem Block.sliceLog_redegrade (g : Nat) : (s.redegrade g).sliceLog k = s.sliceLog k :=
  Block.sliceLog_congr ((s.only_redegrade g).2 .cells (by simp)) k

theorem Block.sliceLog_seekSpare (g : Nat) : (s.seekSpare g).sliceLog k = s.sliceLog k := by
  obtain h | h | ⟨j, h⟩ := s.seekSpare_cases g <;> rw [h]
  · exact s.sliceLog_degradeCheck k g
  · exact s.sliceLog_modCell k j (fun _ => ⟨rfl, rfl⟩)

theorem Block.sliceLog_markFailed (j : Nat) : (s.markFailed j).sliceLog k = s.sliceLog k := by
  have hcells : (((s.raise (Reg.CELL_STAT_FAILED j)).bump (Reg.CELL_FAILCNT_FAILS j)).setRole j roleOff 0).cells = s.cells := by
    rw [Block.setRole_cells, Block.bump_cells, Block.raise_cells]
  rw [Block.markFailed]
  refine (Block.sliceLog_modCell _ k j ?_).trans (Block.sliceLog_congr hcells k)
  exact fun _ => ⟨rfl, rfl⟩

theorem Block.sliceLog_holdZero (g : Nat) : (s.holdZero g).sliceLog k = s.sliceLog k := rfl

theorem Block.sliceLog_startZeroChecks (g now : Nat) : (s.startZeroChecks g now).sliceLog k = s.sliceLog k := rfl

theorem Block.sliceLog_startRetarget (g spare slot failed : Nat) (shadows recover : Bool) :
    (s.startRetarget g spare slot failed shadows recover).sliceLog k = s.sliceLog k := rfl

end Log

/-! ## A cell marked failed -/

section Failed

variable (s : Block) (k : Nat)

theorem Block.markFailed_failed : (s.markFailed k).on (Reg.CELL_STAT_FAILED k) = true := by
  have hrole : ∀ x ∈ roleFlds k, x.apart (Reg.CELL_STAT_FAILED k) := by
    simp only [roleFlds, Fld.of_cell, Fld.apart, List.forall_mem_cons, List.not_mem_nil, false_implies, implies_true, and_true]
    omega
  have hbump := Block.only_bump (Block.only_refl (s.raise (Reg.CELL_STAT_FAILED k)) [Reg.CELL_FAILCNT_FAILS k] []) (Reg.CELL_FAILCNT_FAILS k)
    (by simp [Fld.of_cell]) (by simp)
  rw [Block.markFailed, Block.modCell_on, Block.only_on (Block.only_setRole _ k roleOff 0) hrole, Block.only_on hbump ?_]
  · exact Block.on_raise_self _ _ (by simp [Fld.of_cell]) (by simp [Fld.of_cell])
  · simp only [Fld.of_cell, Fld.apart, List.forall_mem_cons, List.not_mem_nil, false_implies, implies_true, and_true]
    omega

theorem Block.markFailed_role : (s.markFailed k).role k = roleOff := by
  rw [Block.role, Block.markFailed, Block.modCell_f]
  exact Block.setRole_role _ k roleOff 0

end Failed

/-! ## The record and events of a slice that ends -/

section Close

variable (s : Block) (sl : Slice)

theorem Block.sliceOver_cells (v : Nat) (done : Bool) : (s.sliceOver sl v done).cells = { s.cells with slice := none } := by
  simp only [Block.sliceOver, Block.bstNote, Block.modBst_cells, Block.put_cells, Block.putB_cells]

theorem Block.sliceOver_last (v : Nat) (done : Bool) : (s.sliceOver sl v done).f (Reg.CELL_STAT_LAST sl.cell) = v % 4 := by
  have hbusy (t : Block) : (t.put Reg.CELL_GLB_STAT_BUSY 0).f (Reg.CELL_STAT_LAST sl.cell) = t.f (Reg.CELL_STAT_LAST sl.cell) :=
    Block.f_put_other _ _ _ _ (by decide) (by simp [Fld.of_cell, Fld.of_device])
  rw [Block.sliceOver, Block.only_f (Block.only_bstNote _ 0 sl.cell v) (by simp), hbusy, Block.f_put_self _ _ _ (by simp [Fld.of_cell])]
  rfl

theorem Block.sliceCompleted_f (k : Nat) (x : Fld) : (s.sliceCompleted k).f x = s.f x := rfl

theorem Block.sliceCompleted_slice (k : Nat) : (s.sliceCompleted k).cells.slice = s.cells.slice := rfl

theorem Block.sliceCompleted_log (k : Nat) : (s.sliceCompleted k).sliceLog k = (s.cells.slice, s.cells.done + 1, (s.cell k).passed, s.cells.done + 1) := by
  rw [Block.sliceLog, Block.sliceCompleted, Block.cell_modCell_self]
  rfl

theorem Block.closeSlice_f (v : Nat) (done : Bool) (x : Fld) :
    (s.closeSlice sl v done).f x = ((s.sliceOver sl v done).verdictNoted sl v).f x := by
  rw [Block.closeSlice_eq]
  cases done
  · rw [Block.onlyIf_false]
  · rw [Block.onlyIf_true, Block.sliceCompleted_f]

/-- LAST shows the verdict (R65, R77). -/
theorem Block.closeSlice_last (v : Nat) (done : Bool) (h : sl.cell < 86) : (s.closeSlice sl v done).f (Reg.CELL_STAT_LAST sl.cell) = v % 4 := by
  rw [Block.closeSlice_f, Block.only_f (Block.only_verdictNoted _ sl v) (verdictFlds_apart h (.inr rfl) _), Block.sliceOver_last]

/-- The event of a verdict, 1 pass, 2 fail, 3 incomplete (R65). -/
def verdictEvent (g v : Nat) : Fld := if v = 1 then Reg.CELL_GRP_EVT_SLPASS g else if v = 2 then Reg.CELL_GRP_EVT_SLFAIL g else Reg.CELL_GRP_EVT_SLINC g

theorem Block.verdictNoted_event (v : Nat) (h : sl.group < 18) : (s.verdictNoted sl v).on (verdictEvent sl.group v) = true := by
  have hbump (t : Block) (x y : Fld) (hx : x.lo + x.width ≤ 32) (hy : x.addr ≠ y.addr) : (t.bump x).on y = t.on y :=
    Block.only_on (Block.only_bump (t.only_refl [x] []) x hx (by simp)) (by simpa [Fld.apart] using .inl hy)
  unfold Block.verdictNoted verdictEvent
  split
  · rw [hbump _ _ _ (by simp [Fld.of_group]) (by simp only [Fld.of_group]; omega)]
    exact Block.on_raise_self _ _ (by simp [Fld.of_group]) (by simp [Fld.of_group])
  · split
    · have hfault : ∀ x ∈ faultFlds, x.apart (Reg.CELL_GRP_EVT_SLFAIL sl.group) := by
        simp only [faultFlds, Fld.of_device, Fld.of_group, Fld.apart, List.forall_mem_cons, List.not_mem_nil, false_implies, implies_true, and_true]
        omega
      have hraise (t : Block) : (t.raise Reg.BST_EVT_FAIL).on (Reg.CELL_GRP_EVT_SLFAIL sl.group) = t.on (Reg.CELL_GRP_EVT_SLFAIL sl.group) :=
        Block.only_on (Block.only_raise (t.only_refl [Reg.BST_EVT_FAIL] []) _ (by decide) (by simp))
          (by simp only [Fld.of_device, Fld.of_group, Fld.apart, List.forall_mem_cons, List.not_mem_nil, false_implies, implies_true, and_true]; omega)
      rw [Block.only_on (Block.only_record (Block.only_refl _ faultFlds [.ledger]) (List.Subset.refl _) (by simp) _ _ _ _ _) hfault, hraise,
        hbump _ _ _ (by decide) (by simp only [Fld.of_device, Fld.of_group]; omega), hbump _ _ _ (by simp [Fld.of_group]) (by simp only [Fld.of_group]; omega)]
      exact Block.on_raise_self _ _ (by simp [Fld.of_group]) (by simp [Fld.of_group])
    · rw [hbump _ _ _ (by decide) (by simp only [Fld.of_device, Fld.of_group]; omega), hbump _ _ _ (by simp [Fld.of_group]) (by simp only [Fld.of_group]; omega)]
      exact Block.on_raise_self _ _ (by simp [Fld.of_group]) (by simp [Fld.of_group])

theorem Block.closeSlice_event (v : Nat) (done : Bool) (h : sl.group < 18) : (s.closeSlice sl v done).on (verdictEvent sl.group v) = true := by
  rw [Block.on, Block.closeSlice_f]
  exact Block.verdictNoted_event _ sl v h

/-- No slice runs once one has ended. -/
theorem Block.closeSlice_slice (v : Nat) (done : Bool) : (s.closeSlice sl v done).cells.slice = none := by
  have hnoted : ((s.sliceOver sl v done).verdictNoted sl v).cells.slice = none := by
    rw [(Block.only_verdictNoted _ sl v).2 .cells (by simp), Block.sliceOver_cells]
  rw [Block.closeSlice_eq]
  cases done
  · rw [Block.onlyIf_false, hnoted]
  · rw [Block.onlyIf_true, Block.sliceCompleted_slice, hnoted]

/-- A slice that has run to its end counts, and its cell counts as the latest (R60). -/
theorem Block.closeSlice_log (v : Nat) : (s.closeSlice sl v true).sliceLog sl.cell = (none, s.cells.done + 1, (s.cell sl.cell).passed, s.cells.done + 1) := by
  have hcells : ((s.sliceOver sl v true).verdictNoted sl v).cells = { s.cells with slice := none } := by
    rw [(Block.only_verdictNoted _ sl v).2 .cells (by simp), Block.sliceOver_cells]
  have hcell : ((s.sliceOver sl v true).verdictNoted sl v).cell sl.cell = s.cell sl.cell := by rw [Block.cell, hcells, Block.cell]
  rw [Block.closeSlice_eq, Block.onlyIf_true, Block.sliceCompleted_log, hcell, hcells]

end Close

/-! ## What follows for the cell and its group -/

/-- The fields of a group that is mended after a slice: its upkeep, and the hold of its output. -/
def mendFlds (g : Nat) : List Fld := Reg.CELL_GRP_STAT_HOLDZ g :: upkeepFlds g

theorem mendFlds_apart {y : Fld} (h : y.ofSlices) (g : Nat) : ∀ x ∈ mendFlds g, x.apart y :=
  List.forall_mem_cons.mpr ⟨holdz_apart h g, upkeepFlds_apart h g⟩

theorem Tended.of_mend {K : Nat → Prop} {g : Nat} {x : Fld} (h : x ∈ mendFlds g) : Tended K x :=
  (List.mem_cons.mp h).elim (Tended.hold g) (Tended.upkeep g)

section Mended

variable (s : Block) (sl : Slice)

/-- The care of a group after a slice: its skews, its spare, DEGRADED and its status (R47, R49, R72, R262). -/
def Block.upkept (s : Block) (g : Nat) : Block := (((s.recentre g).seekSpare g).redegrade g).refreshGroup g

theorem Block.only_upkept (g : Nat) : s.only (s.upkept g) (upkeepFlds g) [.cells, .ledger] := by
  have hcentred : s.only (s.recentre g) (upkeepFlds g) [.cells, .ledger] := Block.only_mono (s.only_recentre g) (List.Subset.refl _) (by simp)
  have hsought := Block.only_then hcentred (Block.only_seekSpare _ g) (List.Subset.refl _) (by simp)
  have hdegraded := Block.only_then hsought (Block.only_redegrade _ g) (List.Subset.refl _) (by simp)
  exact Block.only_then hdegraded (Block.only_refreshGroup _ g) (List.Subset.refl _) (by simp)

theorem Block.sliceLog_upkept (g k : Nat) : (s.upkept g).sliceLog k = s.sliceLog k := by
  rw [Block.upkept, Block.sliceLog_refreshGroup, Block.sliceLog_redegrade, Block.sliceLog_seekSpare, Block.sliceLog_recentre]

/-- What follows in the group of a cell that has failed its slice (R72, R262, R609). -/
def Block.mended (s : Block) (sl : Slice) : Block :=
  (s.onlyIf (sl.kind == .outPromotion && !(groupCells sl.group).any (fun k => (s.cell k).waitPromo)) (fun s => s.holdZero sl.group)).upkept sl.group

theorem Block.failedCell_eq : s.failedCell sl = (s.markFailed sl.cell).mended sl := rfl

theorem Block.only_mended : s.only (s.mended sl) (mendFlds sl.group) [.cells, .ledger] := by
  have hheld := Block.only_onlyIf (c := sl.kind == .outPromotion && !(groupCells sl.group).any (fun k => (s.cell k).waitPromo))
    (g := fun s => s.holdZero sl.group) (s.only_refl (mendFlds sl.group) [.cells, .ledger])
    (fun _ => Block.only_mono (s.only_holdZero sl.group) (by simp [mendFlds]) (by simp))
  exact Block.only_then hheld (Block.only_upkept _ sl.group) (List.subset_cons_self _ _) (List.Subset.refl _)

theorem Block.sliceLog_mended (k : Nat) : (s.mended sl).sliceLog k = s.sliceLog k := by
  rw [Block.mended, Block.sliceLog_upkept]
  exact Block.sliceLog_onlyIf s k _ _ (s.sliceLog_holdZero k sl.group)

/-- A field of the slices reads as after the mark. -/
theorem Block.failedCell_f {y : Fld} (h : y.ofSlices) : (s.failedCell sl).f y = (s.markFailed sl.cell).f y :=
  Block.only_f (Block.only_mended _ sl) (mendFlds_apart h sl.group)

theorem Block.failedCell_log (k : Nat) : (s.failedCell sl).sliceLog k = s.sliceLog k := by
  rw [Block.failedCell_eq, Block.sliceLog_mended, Block.sliceLog_markFailed]

/-- The cell of a slice that has failed is marked and out of service; LAST and the events of the slice stay (R59, R65). -/
theorem Block.failedCell_facts (hk : sl.cell < 86) (hg : sl.group < 18) :
    (s.failedCell sl).on (Reg.CELL_STAT_FAILED sl.cell) = true ∧ (s.failedCell sl).role sl.cell = roleOff ∧
    (s.failedCell sl).f (Reg.CELL_STAT_LAST sl.cell) = s.f (Reg.CELL_STAT_LAST sl.cell) ∧
    (s.failedCell sl).on (Reg.CELL_GRP_EVT_SLFAIL sl.group) = s.on (Reg.CELL_GRP_EVT_SLFAIL sl.group) := by
  refine ⟨?_, ?_, ?_, ?_⟩
  · rw [Block.on, Block.failedCell_f _ _ (ofSlices_failed hk)]
    exact s.markFailed_failed sl.cell
  · rw [Block.role, Block.failedCell_f _ _ (ofSlices_role hk)]
    exact s.markFailed_role sl.cell
  · rw [Block.failedCell_f _ _ (ofSlices_last hk)]
    refine Block.only_f (s.only_markFailed sl.cell) ?_
    simp only [failFlds, roleFlds, Fld.of_cell, Fld.apart, List.forall_mem_cons, List.not_mem_nil, false_implies, implies_true, and_true]
    omega
  · rw [Block.on, Block.on, Block.failedCell_f _ _ (ofSlices_event hg _ (by simp))]
    rw [Block.only_f (s.only_markFailed sl.cell) ?_]
    simp only [failFlds, roleFlds, Fld.of_cell, Fld.of_group, Fld.apart, List.forall_mem_cons, List.not_mem_nil, false_implies, implies_true, and_true]
    omega

theorem Block.tends_failedCell {s t : Block} (h : s.tends (fun _ => True) t) (sl : Slice) : s.tends (fun _ => True) (t.failedCell sl) :=
  Block.tends_of_only (Block.tends_markFailed h trivial) (Block.only_mended _ sl) (fun _ => Tended.of_mend) (by simp)

end Mended

/-! ## A cell that returns -/

/-- The fields of a cell that takes up a role after its slice. -/
def returnFlds (sl : Slice) : List Fld := Reg.CELL_GRP_STAT_HOLDZ sl.group :: roleFlds sl.cell

theorem Tended.of_return {K : Nat → Prop} {sl : Slice} {x : Fld} (h : x ∈ returnFlds sl) : Tended K x :=
  (List.mem_cons.mp h).elim (Tended.hold sl.group) (Tended.role sl.cell)

theorem returnFlds_apart {sl : Slice} {y : Fld} (h : y.ofSlices) (hy : ∀ k, y.addr ≠ Reg.CELL_CFG k) : ∀ x ∈ returnFlds sl, x.apart y := by
  refine List.forall_mem_cons.mpr ⟨holdz_apart h _, fun x hx => .inl ?_⟩
  simp only [roleFlds, List.mem_cons, List.not_mem_nil, or_false] at hx
  rcases hx with rfl | rfl <;> exact (hy sl.cell).symm

section Returned

variable (s : Block) (sl : Slice)

theorem Block.only_setRole_return (role slot : Nat) : s.only (s.setRole sl.cell role slot) (returnFlds sl) [.cells] :=
  Block.only_mono (s.only_setRole sl.cell role slot) (by simp [returnFlds]) (by simp)

theorem Block.only_zeroChecks_return {s t : Block} {sl : Slice} (h : s.only t (returnFlds sl) [.cells]) (now : Nat) :
    s.only (t.startZeroChecks sl.group now) (returnFlds sl) [.cells] :=
  Block.only_then h (t.only_startZeroChecks sl.group now) (by simp [returnFlds]) (by simp)

/-- What a returning cell moves, whatever it takes up, and that the log of slices stays (R54, R59, R63, R72, R608, R609). -/
theorem Block.takeOver_moves : s.only (s.takeOver sl) (returnFlds sl) [.cells] ∧ ∀ j, (s.takeOver sl).sliceLog j = s.sliceLog j := by
  have hrole (role slot : Nat) : s.only (s.setRole sl.cell role slot) (returnFlds sl) [.cells] ∧ ∀ j, (s.setRole sl.cell role slot).sliceLog j = s.sliceLog j :=
    ⟨s.only_setRole_return sl role slot, fun j => s.sliceLog_setRole j _ _ _⟩
  have hchecks {t : Block} (h : s.only t (returnFlds sl) [.cells] ∧ ∀ j, t.sliceLog j = s.sliceLog j) (now : Nat) :
      s.only (t.startZeroChecks sl.group now) (returnFlds sl) [.cells] ∧ ∀ j, (t.startZeroChecks sl.group now).sliceLog j = s.sliceLog j :=
    ⟨Block.only_zeroChecks_return h.1 now, fun j => (t.sliceLog_startZeroChecks j sl.group now).trans (h.2 j)⟩
  unfold Block.takeOver
  extract_lets g k
  split
  · refine ⟨Block.only_then (hrole _ _).1 (Block.only_startRetarget _ g k _ noCell false false) (by simp [k, returnFlds, roleFlds]) (by simp), fun j => ?_⟩
    rw [Block.sliceLog_startRetarget, (hrole _ _).2]
  · split
    · cases (s.withRole g roleMon).isSome
      · exact hrole roleOut 0
      · exact hchecks (hrole roleOut 0) _
    · split
      · exact hchecks (hrole roleMon 0) _
      · split
        · exact hrole _ _
        · exact hrole _ _

theorem Block.returnPeriodic_moves : s.only (s.returnPeriodic sl) (returnFlds sl) [.cells] ∧ ∀ j, (s.returnPeriodic sl).sliceLog j = s.sliceLog j := by
  unfold Block.returnPeriodic
  split <;> exact ⟨s.only_setRole_return sl _ _, fun j => s.sliceLog_setRole j _ _ _⟩

theorem Block.returnCell_moves : s.only (s.returnCell sl) (returnFlds sl) [.cells] ∧ ∀ j, (s.returnCell sl).sliceLog j = s.sliceLog j := by
  unfold Block.returnCell
  split
  · exact s.returnPeriodic_moves sl
  · have hrole : s.only (s.setRole sl.cell roleOut 0) (returnFlds sl) [.cells] := s.only_setRole_return sl roleOut 0
    refine ⟨Block.only_zeroChecks_return hrole _, fun j => ?_⟩
    rw [Block.sliceLog_startZeroChecks, Block.sliceLog_setRole]
  · exact s.takeOver_moves sl

/-- Where the cell of an incomplete slice goes: it returns as it was, or waits for its slice again (R62, R63). -/
def Block.returnIncomplete (s : Block) (sl : Slice) : Block :=
  match sl.kind with
  | .periodic => if sl.phase = 1 then s else s.returnPeriodic sl
  | .recovery => (s.setRole sl.cell roleOff 0).modCell sl.cell (fun c => { c with waitRec := true })
  | _ => (s.setRole sl.cell roleOff 0).modCell sl.cell (fun c => { c with waitPromo := true })

theorem Block.sliceIncomplete_eq {s : Block} {sl : Slice} (h : s.cells.slice = some sl) (done : Bool) :
    s.sliceIncomplete done = (((s.closeSlice sl 3 done).returnIncomplete sl).recentre sl.group).refreshGroup sl.group := by
  unfold Block.sliceIncomplete
  rw [h]
  refine congrArg (fun t : Block => (t.recentre sl.group).refreshGroup sl.group) ?_
  unfold Block.returnIncomplete
  cases sl.kind <;> rfl

theorem Block.returnIncomplete_moves :
    s.only (s.returnIncomplete sl) (returnFlds sl) [.cells] ∧ ∀ j, (s.returnIncomplete sl).sliceLog j = s.sliceLog j := by
  have hrole : s.only (s.setRole sl.cell roleOff 0) (returnFlds sl) [.cells] := s.only_setRole_return sl roleOff 0
  have hwait (f : CellSt → CellSt) (hf : ∀ c, (f c).passed = c.passed ∧ (f c).age = c.age) :
      s.only ((s.setRole sl.cell roleOff 0).modCell sl.cell f) (returnFlds sl) [.cells] ∧
      ∀ j, ((s.setRole sl.cell roleOff 0).modCell sl.cell f).sliceLog j = s.sliceLog j :=
    ⟨Block.only_modCell hrole _ _ (by simp), fun j => by rw [Block.sliceLog_modCell _ j _ hf, Block.sliceLog_setRole]⟩
  unfold Block.returnIncomplete
  split
  · split
    · exact ⟨s.only_refl _ _, fun _ => rfl⟩
    · exact s.returnPeriodic_moves sl
  · exact hwait (fun c => { c with waitRec := true }) (fun _ => ⟨rfl, rfl⟩)
  · exact hwait (fun c => { c with waitPromo := true }) (fun _ => ⟨rfl, rfl⟩)

/-- The measured coefficients and trims are stored as free values, unless frozen (R50, R64, R66). -/
theorem Block.applyMeasured_moves (k : Nat) : s.only (s.applyMeasured k) [Reg.CELL_OFS_OFS k, Reg.CELL_GAIN_GAIN k] [.cells, .free] ∧
    ∀ j, (s.applyMeasured k).sliceLog j = s.sliceLog j := by
  unfold Block.applyMeasured
  split
  · exact ⟨s.only_refl _ _, fun _ => rfl⟩
  · extract_lets offset gain
    have hoffset : s.only offset [Reg.CELL_OFS_OFS k, Reg.CELL_GAIN_GAIN k] [.free] :=
      Block.only_freeK (Block.only_put (s.only_refl _ _) _ _ (by simp [Fld.of_cell]) (by simp)) _ (by simp)
    have hgain : s.only gain [Reg.CELL_OFS_OFS k, Reg.CELL_GAIN_GAIN k] [.free] :=
      Block.only_freeK (Block.only_put hoffset _ _ (by simp [Fld.of_cell]) (by simp)) _ (by simp)
    have hlog (j : Nat) : gain.sliceLog j = s.sliceLog j := Block.sliceLog_congr (hgain.2 .cells (by simp)) j
    refine ⟨Block.only_forAll _ _ (fun i _ t ht => Block.only_freeK (Block.only_modCell ht _ _ (by simp)) _ (by simp))
      (Block.only_mono hgain (List.Subset.refl _) (by simp)), fun j => ?_⟩
    refine (Block.forAll_keeps (fun t => t.sliceLog j) _ _ (fun i t => ?_) gain).trans (hlog j)
    exact Block.sliceLog_modCell t j k (fun _ => ⟨rfl, rfl⟩)

end Returned

/-! ## SCARF_IN_END -/

/-- The slice whose ladder comparison failed ends, its spare marked failed (R69). -/
def Block.spareUnfit (s : Block) (sl : Slice) : Block :=
  ((((s.markFailed sl.spare).closeSlice sl 2 false).recentre sl.group).seekSpare sl.group).refreshGroup sl.group

/-- The roles and the phase in which the test phase of a slice begins (R64). -/
def Block.testBegun (s : Block) (sl : Slice) : Block :=
  let t := (s.setRole sl.spare sl.role sl.slot).setRole sl.cell roleTest 0
  ({ t with cells := { t.cells with slice := some { sl with phase := 2 } } } : Block).put (Reg.CELL_SLICE_PHASE sl.cell) 2

section ScarfIn

variable {s : Block} {sl : Slice} {ladders : Bool}

theorem Block.scarfInEndOp_none (h : s.cells.slice = none) : s.scarfInEndOp ladders = s := by
  unfold Block.scarfInEndOp
  rw [h]

theorem Block.scarfInEndOp_idle (h : s.cells.slice = some sl) (hp : sl.phase ≠ 1) : s.scarfInEndOp ladders = s := by
  unfold Block.scarfInEndOp
  rw [h]
  exact if_pos (by simpa using hp)

theorem Block.scarfInEndOp_unfit (h : s.cells.slice = some sl) (hp : sl.phase = 1) (hr : sl.role = roleOut) (hl : ladders = false) :
    s.scarfInEndOp ladders = s.spareUnfit sl := by
  unfold Block.scarfInEndOp
  rw [h]
  exact (if_neg (by simp [hp])).trans (if_pos (by simp [hr, hl]))

theorem Block.scarfInEndOp_fit (h : s.cells.slice = some sl) (hp : sl.phase = 1) (hr : sl.role ≠ roleOut ∨ ladders = true) :
    s.scarfInEndOp ladders = if s.reached (sl.start + ticks 3072) then ((s.testBegun sl).refreshGroup sl.group).refreshCalv sl.group else s := by
  unfold Block.scarfInEndOp
  rw [h]
  dsimp only
  rw [if_neg (by simp [hp]), if_neg (by rcases hr with hr | hr <;> simp [hr])]
  cases s.reached (sl.start + ticks 3072) <;> rfl

theorem Block.only_testBegun (s : Block) (sl : Slice) :
    s.only (s.testBegun sl) (Reg.CELL_SLICE_PHASE sl.cell :: (roleFlds sl.spare ++ roleFlds sl.cell)) [.cells] := by
  have hspare : s.only (s.setRole sl.spare sl.role sl.slot) (Reg.CELL_SLICE_PHASE sl.cell :: (roleFlds sl.spare ++ roleFlds sl.cell)) [.cells] :=
    Block.only_mono (s.only_setRole _ _ _) (by simp) (by simp)
  have hcell := Block.only_then hspare (Block.only_setRole _ sl.cell roleTest 0) (by simp) (by simp)
  exact Block.only_put (Block.only_cells hcell _ (by simp)) _ _ (by simp [Fld.of_cell]) (by simp)

theorem Block.testBegun_role (s : Block) (sl : Slice) (k : Nat) :
    (s.testBegun sl).role k = ((s.setRole sl.spare sl.role sl.slot).setRole sl.cell roleTest 0).role k := by
  rw [Block.role, Block.testBegun, Block.f_put_other _ _ _ _ (by simp [Fld.of_cell]) (by simp [Fld.of_cell])]
  rfl

/-- What the beginning of a test phase leaves (R64). -/
theorem Block.testBegun_facts (s : Block) (hk : sl.cell < 86) (hsp : sl.spare < 86) (hne : sl.spare ≠ sl.cell) (hr : sl.role < 8)
    {u : Block} (hu : u = ((s.testBegun sl).refreshGroup sl.group).refreshCalv sl.group) :
    u.role sl.cell = roleTest ∧ u.role sl.spare = sl.role ∧ u.cells.slice = some { sl with phase := 2 } ∧ u.f (Reg.CELL_SLICE_PHASE sl.cell) = 2 := by
  have hkept {y : Fld} (h : y.ofSlices) : u.f y = (s.testBegun sl).f y := by
    rw [hu, Block.only_f (Block.only_refreshCalv _ sl.group) (upkeepFlds_apart h _), Block.only_f (Block.only_refreshGroup _ sl.group) (upkeepFlds_apart h _)]
  refine ⟨?_, ?_, ?_, ?_⟩
  · rw [Block.role, hkept (ofSlices_role hk)]
    exact (s.testBegun_role sl sl.cell).trans (Block.setRole_role _ _ _ _)
  · rw [Block.role, hkept (ofSlices_role hsp)]
    refine (s.testBegun_role sl sl.spare).trans ?_
    rw [Block.setRole_role_other _ hne, Block.setRole_role, Nat.mod_eq_of_lt hr]
  · rw [hu, (Block.only_refreshCalv _ sl.group).2 .cells (by simp), Block.refreshGroup_cells, Block.testBegun, Block.put_cells]
  · rw [hkept (ofSlices_phase hk), Block.testBegun, Block.f_put_self _ _ _ (by simp [Fld.of_cell])]
    rfl

theorem testBegun_moved (sl : Slice) : ∀ x ∈ Reg.CELL_SLICE_PHASE sl.cell :: (roleFlds sl.spare ++ roleFlds sl.cell), faultMoves x.addr := by
  intro x hx
  rw [List.mem_cons, List.mem_append] at hx
  obtain rfl | hx | hx := hx
  · exact faultMoves_of_unit sl.cell (by simp [Reg.CELL_SLICE_PHASE])
  · exact roleFlds_moved sl.spare x hx
  · exact roleFlds_moved sl.cell x hx

theorem Block.within_testBegun (s : Block) (sl : Slice) (g : Nat) : s.within (((s.testBegun sl).refreshGroup g).refreshCalv g) faultMoves [.cells] := by
  have hbegun : s.within (s.testBegun sl) faultMoves [.cells] := Block.within_of_only (s.only_testBegun sl) (testBegun_moved sl)
  have hshown := Block.within_then hbegun (Block.only_refreshGroup _ g) (upkeepFlds_moved g) (by simp)
  exact Block.within_then hshown (Block.only_refreshCalv _ g) (upkeepFlds_moved g) (by simp)

theorem Block.spareUnfit_facts (s : Block) (hsp : sl.spare < 86) :
    (s.spareUnfit sl).cells.slice = none ∧ (s.spareUnfit sl).on (Reg.CELL_STAT_FAILED sl.spare) = true := by
  have hlog : (s.spareUnfit sl).sliceLog sl.cell = ((s.markFailed sl.spare).closeSlice sl 2 false).sliceLog sl.cell := by
    rw [Block.spareUnfit, Block.sliceLog_refreshGroup, Block.sliceLog_seekSpare, Block.sliceLog_recentre]
  have hupkeep := upkeepFlds_apart (ofSlices_failed hsp) sl.group
  have hprogress : ∀ x ∈ progressFlds sl.cell, x.apart (Reg.CELL_STAT_FAILED sl.spare) := by
    simp only [progressFlds, Fld.of_cell, Fld.of_device, Fld.apart, List.forall_mem_cons, List.not_mem_nil, false_implies, implies_true, and_true]
    omega
  have hclose : ∀ x ∈ closeFlds sl, x.apart (Reg.CELL_STAT_FAILED sl.spare) := fun x hx =>
    (List.mem_append.mp hx).elim (hprogress x) (verdictFlds_apart hsp (.inr rfl) sl.group x)
  refine ⟨(Block.slice_of_log hlog).trans (Block.closeSlice_slice _ sl 2 false), ?_⟩
  rw [Block.spareUnfit, Block.only_on (Block.only_refreshGroup _ _) hupkeep, Block.only_on (Block.only_seekSpare _ _) hupkeep,
    Block.only_on (Block.only_recentre _ _) hupkeep, Block.only_on (Block.only_closeSlice _ sl 2 false) hclose]
  exact s.markFailed_failed sl.spare

theorem Block.within_scarfInEndOp (s : Block) (ladders : Bool) : s.within (s.scarfInEndOp ladders) faultMoves [.cells, .ledger, .bst] := by
  cases h : s.cells.slice with
  | none => rw [Block.scarfInEndOp_none h]; exact s.within_refl _ _
  | some sl =>
    by_cases hp : sl.phase = 1
    · by_cases hr : sl.role ≠ roleOut ∨ ladders = true
      · rw [Block.scarfInEndOp_fit h hp hr]
        split
        · exact Block.within_mono (s.within_testBegun sl sl.group) (fun _ => id) (by simp)
        · exact s.within_refl _ _
      · simp only [not_or, ne_eq, not_not, Bool.not_eq_true] at hr
        rw [Block.scarfInEndOp_unfit h hp hr.1 hr.2]
        have hclosed : s.tends (fun _ => True) ((s.markFailed sl.spare).closeSlice sl 2 false) :=
          Block.tends_closeSlice (Block.tends_markFailed Block.tends_refl trivial) sl 2 false
        exact Block.tends_within (Block.tends_refreshGroup (Block.tends_seekSpare (Block.tends_recentre hclosed _) _) _)
    · rw [Block.scarfInEndOp_idle h hp]
      exact s.within_refl _ _

end ScarfIn

theorem scarfInEnd_gives (s : State) (ladders : Bool) : gives (.scarfInEnd ladders) s fun u =>
    (s.cells.slice = none → u = s.toBlock) ∧
    (∀ sl, s.cells.slice = some sl → (sl.phase ≠ 1 → u = s.toBlock) ∧
      (sl.phase = 1 → sl.cell < 86 → sl.spare < 86 → sl.spare ≠ sl.cell → sl.group < 18 → sl.role < 8 →
        (s.reached (sl.start + 16 * 3072) = true → (sl.role ≠ roleOut ∨ ladders = true) →
          u.role sl.cell = roleTest ∧ u.role sl.spare = sl.role ∧ u.cells.slice = some { sl with phase := 2 } ∧ u.f (Reg.CELL_SLICE_PHASE sl.cell) = 2 ∧
          s.within u cellMoves [.cells]) ∧
        (sl.role = roleOut → ladders = false → u.cells.slice = none ∧ u.on (Reg.CELL_STAT_FAILED sl.spare) = true))) ∧
    s.within u cellMoves [.cells, .ledger, .bst] := by
  refine gives_of_act (ok := true) (g := fun b => b.scarfInEndOp ladders) rfl rfl ⟨Block.scarfInEndOp_none, fun sl h => ⟨Block.scarfInEndOp_idle h,
    fun hp hk hsp hne _ hr => ⟨fun hdue hfit => ?_, fun hout hl => ?_⟩⟩,
    Block.within_mono (s.within_scarfInEndOp ladders) (fun _ => cellMoves_of_faultMoves) (List.Subset.refl _)⟩
  · have hop := Block.scarfInEndOp_fit h hp hfit
    rw [if_pos (by exact hdue)] at hop
    obtain ⟨hcell, hspare, hslice, hphase⟩ := Block.testBegun_facts s.toBlock hk hsp hne hr hop
    refine ⟨hcell, hspare, hslice, hphase, ?_⟩
    rw [hop]
    exact Block.within_mono (s.within_testBegun sl sl.group) (fun _ => cellMoves_of_faultMoves) (List.Subset.refl _)
  · rw [Block.scarfInEndOp_unfit h hp hout hl]
    exact s.spareUnfit_facts hsp

/-! ## The three ends of a slice -/

section Ends

variable (s : Block) (sl : Slice)

/-- The slice ends as failed, and its cell (R59, R65). -/
def Block.sliceFailed (s : Block) (sl : Slice) (done : Bool) : Block := (s.closeSlice sl 2 done).failedCell sl

/-- The slice passes: its cell returns with what was measured (R64, R65). -/
def Block.slicePassed (s : Block) (sl : Slice) : Block :=
  (((((s.applyMeasured sl.cell).closeSlice sl 1 true).returnCell sl).modCell sl.cell (fun c => { c with passed := true })).upkept sl.group).refreshCalv sl.group

theorem Block.sliceFailed_facts (done : Bool) (hk : sl.cell < 86) (hg : sl.group < 18) :
    (s.sliceFailed sl done).cells.slice = none ∧ (s.sliceFailed sl done).on (Reg.CELL_STAT_FAILED sl.cell) = true ∧
    (s.sliceFailed sl done).f (Reg.CELL_STAT_LAST sl.cell) = 2 ∧ (s.sliceFailed sl done).on (Reg.CELL_GRP_EVT_SLFAIL sl.group) = true ∧
    (s.sliceFailed sl done).role sl.cell = roleOff := by
  obtain ⟨hfailed, hrole, hlast, hevent⟩ := Block.failedCell_facts (s.closeSlice sl 2 done) sl hk hg
  exact ⟨(Block.slice_of_log (Block.failedCell_log _ sl 0)).trans (s.closeSlice_slice sl 2 done), hfailed,
    hlast.trans (s.closeSlice_last sl 2 done hk), hevent.trans (s.closeSlice_event sl 2 done hg), hrole⟩

theorem Block.tends_sliceFailed (done : Bool) : s.tends (fun _ => True) (s.sliceFailed sl done) :=
  Block.tends_failedCell (Block.tends_closeSlice Block.tends_refl sl 2 done) sl

variable {sl}

/-- A field of the slices that is no role reads through the return of a cell and the care of its group. -/
theorem Block.returned_f {t u : Block} {y : Fld} (h : y.ofSlices) (hy : ∀ k, y.addr ≠ Reg.CELL_CFG k)
    (hreturn : s.only t (returnFlds sl) [.cells]) (hcare : t.only u (upkeepFlds sl.group) [.cells, .ledger]) : u.f y = s.f y := by
  rw [Block.only_f hcare (upkeepFlds_apart h _), Block.only_f hreturn (returnFlds_apart h hy)]

theorem last_ne_role (k j : Nat) : (Reg.CELL_STAT_LAST k).addr ≠ Reg.CELL_CFG j := by simp only [Fld.of_cell, Reg.CELL_CFG]; omega

theorem event_ne_role (g v j : Nat) : (verdictEvent g v).addr ≠ Reg.CELL_CFG j := by
  have haddr : (verdictEvent g v).addr = Reg.CELL_GRP_EVT g := by unfold verdictEvent; split <;> [rfl; (split <;> rfl)]
  rw [haddr]
  simp only [Reg.CELL_GRP_EVT, Reg.CELL_CFG]
  omega

theorem verdictEvent_ofSlices {g : Nat} (hg : g < 18) (v : Nat) : (verdictEvent g v).ofSlices := by
  refine ofSlices_event hg _ ?_
  unfold verdictEvent
  split <;> [simp; (split <;> simp)]

theorem Block.returned_event {t u : Block} (hg : sl.group < 18) (v : Nat) (hreturn : s.only t (returnFlds sl) [.cells])
    (hcare : t.only u (upkeepFlds sl.group) [.cells, .ledger]) : u.on (verdictEvent sl.group v) = s.on (verdictEvent sl.group v) := by
  rw [Block.on, Block.on, Block.returned_f s (verdictEvent_ofSlices hg v) (event_ne_role _ v) hreturn hcare]

theorem Block.sliceIncomplete_facts (h : s.cells.slice = some sl) (done : Bool) (hk : sl.cell < 86) (hg : sl.group < 18) :
    (s.sliceIncomplete done).cells.slice = none ∧ (s.sliceIncomplete done).on (Reg.CELL_GRP_EVT_SLINC sl.group) = true ∧
    (s.sliceIncomplete done).f (Reg.CELL_STAT_LAST sl.cell) = 3 := by
  obtain ⟨hreturn, hlog⟩ := Block.returnIncomplete_moves (s.closeSlice sl 3 done) sl
  have hcare := Block.only_then (Block.only_mono (Block.only_recentre ((s.closeSlice sl 3 done).returnIncomplete sl) sl.group) (List.Subset.refl _)
    (List.nil_subset [.cells, .ledger])) (Block.only_refreshGroup _ sl.group) (List.Subset.refl _) (List.nil_subset _)
  rw [Block.sliceIncomplete_eq h]
  refine ⟨?_, ?_, ?_⟩
  · rw [Block.slice_of_log (Block.sliceLog_refreshGroup _ 0 _), Block.slice_of_log (Block.sliceLog_recentre _ 0 _), Block.slice_of_log (hlog 0)]
    exact s.closeSlice_slice sl 3 done
  · exact (Block.returned_event _ hg 3 hreturn hcare).trans (s.closeSlice_event sl 3 done hg)
  · rw [Block.returned_f _ (ofSlices_last hk) (last_ne_role _) hreturn hcare]
    exact s.closeSlice_last sl 3 done hk

theorem Block.passed_log (k : Nat) : (s.modCell k (fun c => { c with passed := true })).sliceLog k =
    (s.cells.slice, s.cells.done, true, (s.cell k).age) := by
  rw [Block.sliceLog, Block.cell_modCell_self]
  rfl

theorem Block.slicePassed_facts (hk : sl.cell < 86) (hg : sl.group < 18) :
    (s.slicePassed sl).sliceLog sl.cell = (none, s.cells.done + 1, true, s.cells.done + 1) ∧
    (s.slicePassed sl).f (Reg.CELL_STAT_LAST sl.cell) = 1 ∧ (s.slicePassed sl).on (Reg.CELL_GRP_EVT_SLPASS sl.group) = true := by
  obtain ⟨-, hmeasured⟩ := s.applyMeasured_moves sl.cell
  obtain ⟨hreturn, hlog⟩ := Block.returnCell_moves ((s.applyMeasured sl.cell).closeSlice sl 1 true) sl
  have hpassed := Block.only_modCell hreturn sl.cell (fun c => { c with passed := true }) (by simp)
  have hcare := Block.only_then (Block.only_upkept ((((s.applyMeasured sl.cell).closeSlice sl 1 true).returnCell sl).modCell sl.cell
    (fun c => { c with passed := true })) sl.group) (Block.only_refreshCalv _ sl.group) (List.Subset.refl _) (List.nil_subset _)
  refine ⟨?_, ?_, ?_⟩
  · have hreturned := (hlog sl.cell).trans (Block.closeSlice_log _ sl 1)
    have hdone := congrArg (fun l => l.2.1) (hmeasured sl.cell)
    simp only [Block.sliceLog, Prod.mk.injEq] at hreturned hdone
    obtain ⟨hslice, hcount, -, hage⟩ := hreturned
    rw [Block.slicePassed, Block.sliceLog_refreshCalv, Block.sliceLog_upkept, Block.passed_log, hslice, hcount, hage, hdone]
  · rw [Block.slicePassed, Block.returned_f _ (ofSlices_last hk) (last_ne_role _) hpassed hcare]
    exact Block.closeSlice_last _ sl 1 true hk
  · exact (Block.returned_event _ hg 1 hpassed hcare).trans (Block.closeSlice_event _ sl 1 true hg)

theorem Block.within_slicePassed (sl : Slice) : s.within (s.slicePassed sl) cellMoves [.cells, .ledger, .bst, .free] := by
  have hcoefs : ∀ x ∈ [Reg.CELL_OFS_OFS sl.cell, Reg.CELL_GAIN_GAIN sl.cell], cellMoves x.addr := by
    simp only [List.forall_mem_cons, List.not_mem_nil, false_implies, implies_true, and_true]
    exact ⟨.inr (.inr (.inr ⟨sl.cell, by simp [Reg.CELL_OFS_OFS]⟩)), .inr (.inr (.inr ⟨sl.cell, by simp [Reg.CELL_GAIN_GAIN]⟩))⟩
  have hmeasured : s.within (s.applyMeasured sl.cell) cellMoves [.cells, .ledger, .bst, .free] :=
    Block.within_then (s.within_refl _ _) (s.applyMeasured_moves sl.cell).1 hcoefs (by simp)
  have hclosed : (s.applyMeasured sl.cell).tends (fun _ => True) ((s.applyMeasured sl.cell).closeSlice sl 1 true) :=
    Block.tends_closeSlice Block.tends_refl sl 1 true
  have hreturned := Block.tends_of_only hclosed (Block.returnCell_moves _ sl).1 (fun _ => Tended.of_return) (by simp)
  have hpassed := Block.tends_modCell hreturned sl.cell (fun c => { c with passed := true })
  have hcared := Block.tends_of_only hpassed (Block.only_upkept _ sl.group) (fun _ => .upkeep sl.group) (by simp)
  have hall := Block.tends_within (Block.tends_refreshCalv hcared sl.group)
  exact Block.within_trans hmeasured (Block.within_mono hall (fun _ => cellMoves_of_faultMoves) (by simp))

end Ends

/-! ## SLICE_PATTERN -/

section Pattern

variable {s : Block} {sl : Slice} {matched : Bool}

theorem Block.slicePatternOp_none (h : s.cells.slice = none) : s.slicePatternOp matched = s := by
  unfold Block.slicePatternOp
  rw [h]

theorem Block.slicePatternOp_idle (h : s.cells.slice = some sl) (hp : sl.phase ≠ 2 ∨ 128 ≤ s.f (Reg.CELL_SLICE_PATTERNS sl.cell)) :
    s.slicePatternOp matched = s := by
  unfold Block.slicePatternOp
  rw [h]
  exact if_pos (by simpa using hp)

theorem Block.slicePatternOp_applied (h : s.cells.slice = some sl) (hp : sl.phase = 2) (hn : s.f (Reg.CELL_SLICE_PATTERNS sl.cell) < 128) :
    s.slicePatternOp matched = if matched then s.bump (Reg.CELL_SLICE_PATTERNS sl.cell)
      else (s.bump (Reg.CELL_SLICE_PATTERNS sl.cell)).sliceFailed sl false := by
  unfold Block.slicePatternOp
  rw [h]
  exact if_neg (by simp [hp, hn])

theorem Block.only_patternCounted (s : Block) (k : Nat) : s.only (s.bump (Reg.CELL_SLICE_PATTERNS k)) [Reg.CELL_SLICE_PATTERNS k] [] :=
  Block.only_bump (s.only_refl _ _) _ (by simp [Fld.of_cell]) (by simp)

theorem Block.patternCounted_f {k : Nat} (h : s.f (Reg.CELL_SLICE_PATTERNS k) < 128) :
    (s.bump (Reg.CELL_SLICE_PATTERNS k)).f (Reg.CELL_SLICE_PATTERNS k) = s.f (Reg.CELL_SLICE_PATTERNS k) + 1 := by
  have hroom : s.f (Reg.CELL_SLICE_PATTERNS k) + 1 < 2 ^ (Reg.CELL_SLICE_PATTERNS k).width := by
    have hwidth : (Reg.CELL_SLICE_PATTERNS k).width = 8 := rfl
    rw [hwidth]
    omega
  rw [Block.bump, if_pos hroom, Block.f_put_self _ _ _ (by simp [Fld.of_cell]), Nat.mod_eq_of_lt hroom]

theorem Block.within_slicePatternOp (s : Block) (matched : Bool) : s.within (s.slicePatternOp matched) faultMoves [.cells, .ledger, .bst] := by
  cases h : s.cells.slice with
  | none => rw [Block.slicePatternOp_none h]; exact s.within_refl _ _
  | some sl =>
    by_cases hp : sl.phase ≠ 2 ∨ 128 ≤ s.f (Reg.CELL_SLICE_PATTERNS sl.cell)
    · rw [Block.slicePatternOp_idle h hp]
      exact s.within_refl _ _
    · have hcounted : s.within (s.bump (Reg.CELL_SLICE_PATTERNS sl.cell)) faultMoves [.cells, .ledger, .bst] :=
        Block.within_then (s.within_refl _ _) (s.only_patternCounted sl.cell)
          (by simpa using faultMoves_of_unit sl.cell (by simp [Reg.CELL_SLICE_PATTERNS])) (List.nil_subset _)
      simp only [not_or, ne_eq, not_not, not_le] at hp
      rw [Block.slicePatternOp_applied h hp.1 hp.2]
      split
      · exact hcounted
      · exact Block.within_trans hcounted (Block.tends_within (Block.tends_sliceFailed _ sl false))

end Pattern

theorem slicePattern_gives (s : State) (matched : Bool) : gives (.slicePattern matched) s fun u =>
    (s.cells.slice = none → u = s.toBlock) ∧
    (∀ sl, s.cells.slice = some sl → sl.cell < 86 → sl.group < 18 →
      (sl.phase ≠ 2 ∨ 128 ≤ s.f (Reg.CELL_SLICE_PATTERNS sl.cell) → u = s.toBlock) ∧
      (sl.phase = 2 → s.f (Reg.CELL_SLICE_PATTERNS sl.cell) < 128 → matched = true →
        u.f (Reg.CELL_SLICE_PATTERNS sl.cell) = s.f (Reg.CELL_SLICE_PATTERNS sl.cell) + 1 ∧ s.only u [Reg.CELL_SLICE_PATTERNS sl.cell] []) ∧
      (sl.phase = 2 → s.f (Reg.CELL_SLICE_PATTERNS sl.cell) < 128 → matched = false →
        u.cells.slice = none ∧ u.on (Reg.CELL_STAT_FAILED sl.cell) = true ∧ u.f (Reg.CELL_STAT_LAST sl.cell) = 2 ∧
        u.on (Reg.CELL_GRP_EVT_SLFAIL sl.group) = true ∧ u.role sl.cell = roleOff)) ∧
    s.within u cellMoves [.cells, .ledger, .bst] := by
  refine gives_of_act (ok := true) (g := fun b => b.slicePatternOp matched) rfl rfl ⟨Block.slicePatternOp_none, fun sl h hk hg =>
    ⟨Block.slicePatternOp_idle h, fun hp hn hm => ?_, fun hp hn hm => ?_⟩,
    Block.within_mono (s.within_slicePatternOp matched) (fun _ => cellMoves_of_faultMoves) (List.Subset.refl _)⟩
  · rw [Block.slicePatternOp_applied h hp hn, if_pos hm]
    exact ⟨Block.patternCounted_f hn, s.only_patternCounted sl.cell⟩
  · rw [Block.slicePatternOp_applied h hp hn, if_neg (by simp [hm])]
    exact Block.sliceFailed_facts _ sl false hk hg

/-! ## TEST_PHASE_END -/

theorem testPhaseEnd_gives (s : State) : gives .testPhaseEnd s fun u =>
    (s.cells.slice = none → u = s.toBlock) ∧
    (∀ sl, s.cells.slice = some sl →
      if sl.phase = 2 && s.reached (sl.start + 16 * sl.testEnd) && sl.hasScarfOut then
        u.cells.slice = some { sl with
          phase := 3, shadow := none, tracks := true,
          target := (if sl.kind = .periodic then s.nextLeaving sl.group else s.nextServing sl.group).getD 0 } ∧ u.f (Reg.CELL_SLICE_PHASE sl.cell) = 3 ∧
        s.only u [Reg.CELL_SLICE_PHASE sl.cell, Reg.CELL_CFG_SLOT sl.cell] [.cells]
      else u = s.toBlock) := by
  refine gives_of_act (ok := true) (g := fun b => b.testPhaseEndOp) rfl rfl ⟨fun h => ?_, fun sl h => ?_⟩
  · unfold Block.testPhaseEndOp
    rw [h]
  · unfold Block.testPhaseEndOp
    rw [h]
    dsimp only
    split
    next hend =>
      simp only [Bool.and_eq_true, decide_eq_true_eq] at hend
      obtain ⟨⟨hp, hdue⟩, hout⟩ := hend
      have hdue' : s.reached (sl.start + ticks sl.testEnd) = true := hdue
      rw [if_neg (by simp [hp, hdue', hout])]
      refine ⟨by rw [Block.put_cells, Block.put_cells], ?_, ?_⟩
      · rw [Block.f_put_addr _ _ _ _ (by simp only [Fld.of_cell]; omega), Block.f_put_self _ _ _ (by simp [Fld.of_cell])]
        rfl
      · exact Block.only_put (Block.only_put (Block.only_cells (s.only_refl _ _) _ (by simp)) _ _ (by simp [Fld.of_cell]) (by simp)) _ _
          (by simp [Fld.of_cell]) (by simp)
    next hend =>
      refine if_pos ?_
      have hends : (sl.phase = 2 && s.reached (sl.start + 16 * sl.testEnd) && sl.hasScarfOut) = false := by simpa using hend
      simp only [Bool.and_eq_false_iff, decide_eq_false_iff_not] at hends
      simpa [or_assoc, ticks] using hends

/-! ## SLICE_END -/

section End

variable {s : Block} {sl : Slice} {tracked : Bool}

/-- A slice is at its end (R62, R64, R68). -/
def Block.sliceDue (s : Block) (sl : Slice) : Bool := s.reached (sl.start + 16 * sl.endTick) && sl.phase == (if sl.hasScarfOut then 3 else 2)

theorem Block.sliceEndOp_none (h : s.cells.slice = none) : s.sliceEndOp tracked = s := by
  unfold Block.sliceEndOp
  rw [h]

theorem Block.sliceEndOp_early (h : s.cells.slice = some sl) (hdue : s.sliceDue sl = false) : s.sliceEndOp tracked = s := by
  unfold Block.sliceEndOp
  rw [h]
  refine if_pos ?_
  unfold Block.sliceDue at hdue
  rw [Bool.and_eq_false_iff] at hdue
  rw [Bool.or_eq_true]
  exact hdue.imp (fun h => by rw [ticks, h]; rfl) (fun h => by rw [bne, h]; rfl)

theorem Block.sliceEndOp_due (h : s.cells.slice = some sl) (hdue : s.sliceDue sl = true) :
    s.sliceEndOp tracked = if !sl.hasScarfOut || tracked && sl.tracks then
      if s.f (Reg.CELL_SLICE_PATTERNS sl.cell) < 128 then s.sliceIncomplete true else s.slicePassed sl
    else s.sliceFailed sl true := by
  unfold Block.sliceDue at hdue
  rw [Bool.and_eq_true] at hdue
  unfold Block.sliceEndOp
  rw [h]
  refine (if_neg (by rw [ticks, bne, hdue.1, hdue.2]; simp)).trans ?_
  cases hgood : !sl.hasScarfOut || tracked && sl.tracks
  · rw [if_pos (by simpa [imp_iff_not_or] using hgood), if_neg (by decide), Block.sliceFailed]
  · rw [if_neg (by simpa [imp_iff_not_or] using hgood), if_pos rfl]
    rfl

theorem Block.within_sliceEndOp (s : Block) (tracked : Bool) : s.within (s.sliceEndOp tracked) cellMoves [.cells, .ledger, .bst, .free] := by
  have hcared {u : Block} (h : s.tends (fun _ => True) u) : s.within u cellMoves [.cells, .ledger, .bst, .free] :=
    Block.within_mono (Block.tends_within h) (fun _ => cellMoves_of_faultMoves) (by simp)
  cases h : s.cells.slice with
  | none => rw [Block.sliceEndOp_none h]; exact s.within_refl _ _
  | some sl =>
    cases hdue : s.sliceDue sl
    · rw [Block.sliceEndOp_early h hdue]
      exact s.within_refl _ _
    · rw [Block.sliceEndOp_due h hdue]
      split
      · split
        · exact hcared (Block.tends_sliceIncomplete Block.tends_refl true)
        · exact s.within_slicePassed sl
      · exact hcared (s.tends_sliceFailed sl true)

end End

theorem sliceEnd_gives (s : State) (tracked : Bool) : gives (.sliceEnd tracked) s fun u =>
    (s.cells.slice = none → u = s.toBlock) ∧
    (∀ sl, s.cells.slice = some sl → sl.cell < 86 → sl.group < 18 →
      let due : Bool := s.reached (sl.start + 16 * sl.endTick) && sl.phase == (if sl.hasScarfOut then 3 else 2)
      (due = false → u = s.toBlock) ∧
      let good : Bool := !sl.hasScarfOut || tracked && sl.tracks
      (due = true → good = false → u.cells.slice = none ∧ u.on (Reg.CELL_GRP_EVT_SLFAIL sl.group) = true ∧
        u.f (Reg.CELL_STAT_LAST sl.cell) = 2 ∧ u.on (Reg.CELL_STAT_FAILED sl.cell) = true ∧ u.role sl.cell = roleOff) ∧
      (due = true → good = true → s.f (Reg.CELL_SLICE_PATTERNS sl.cell) < 128 → u.cells.slice = none ∧ u.on (Reg.CELL_GRP_EVT_SLINC sl.group) = true ∧
        u.f (Reg.CELL_STAT_LAST sl.cell) = 3) ∧
      (due = true → good = true → 128 ≤ s.f (Reg.CELL_SLICE_PATTERNS sl.cell) →
        u.cells.slice = none ∧ u.f (Reg.CELL_STAT_LAST sl.cell) = 1 ∧ u.on (Reg.CELL_GRP_EVT_SLPASS sl.group) = true ∧
        (u.cell sl.cell).passed = true ∧ (u.cell sl.cell).age = s.cells.done + 1 ∧ u.cells.done = s.cells.done + 1)) ∧
    s.within u cellMoves [.cells, .ledger, .bst, .free] := by
  refine gives_of_act (ok := true) (g := fun b => b.sliceEndOp tracked) rfl rfl ⟨Block.sliceEndOp_none, fun sl h hk hg =>
    ⟨Block.sliceEndOp_early h, fun hdue hgood => ?_, fun hdue hgood hn => ?_, fun hdue hgood hn => ?_⟩, s.within_sliceEndOp tracked⟩
  · rw [Block.sliceEndOp_due h hdue, if_neg (by rw [hgood]; simp)]
    obtain ⟨hslice, hfailed, hlast, hevent, hrole⟩ := s.sliceFailed_facts sl true hk hg
    exact ⟨hslice, hevent, hlast, hfailed, hrole⟩
  · rw [Block.sliceEndOp_due h hdue, if_pos hgood, if_pos hn]
    exact s.sliceIncomplete_facts h true hk hg
  · rw [Block.sliceEndOp_due h hdue, if_pos hgood, if_neg (by omega)]
    obtain ⟨hlog, hlast, hevent⟩ := s.slicePassed_facts hk hg
    simp only [Block.sliceLog, Prod.mk.injEq] at hlog
    obtain ⟨hslice, hcount, hpassed, hage⟩ := hlog
    exact ⟨hslice, hlast, hevent, hpassed, hage, hcount⟩

/-- Settles O28, command by command: a slice's start changes the roles and opens its progress record, its ends close the record in one verdict, and the
care of the group that follows keeps the record, the roles and the marks of the slices. -/
theorem rotation : Obligations.Rotation :=
  ⟨⟨sliceQueue_gives, fun s g hg hc => rotNow_gives s g hg hc, sliceStart_gives, recoverySlice_gives, promotionSlice_gives⟩,
    scarfInEnd_gives, slicePattern_gives, testPhaseEnd_gives, sliceEnd_gives⟩

end Sys2Proof.Machine
end

section
/-! SUPPORT. A spare that is sent in its own place serves: the state against the recovery of cells (R58). -/

namespace Sys2Proof.Machine

/-- Input group 0 with its spare, cell 4, on its way to slot 0 in place of itself, its hold come. -/
def spareFailed : State := { toBlock := withGrp (inGroup []) 0 { retarget := some (0, 4, 0, false) } }

/-- The spare serves the slot it was sent to, though it is itself the failed cell. -/
theorem spareFailed_serves : (spareFailed.spareRetargetOp 0).role 4 = roleIn := by decide +kernel

theorem role_settle (s : Block) (k : Nat) : s.settle.role k = s.role k :=
  Block.settle_f s _ (by simp [Reg.CELL_CFG_ROLE, Reg.CELL_CFG, Reg.IRQ_CNT]; omega)

/-- What a command that runs an operation gives is what the operation makes, up to the settling. -/
theorem settle_of_gives_act {c : Instr} {s : State} (g : Block → Block) {P : Block → Prop} (h : gives c s P) (he : exec c s = s.act true g) :
    ∃ u : Block, u.settle = (g s.toBlock).settle ∧ P u := by
  obtain ⟨u, hu, hp⟩ := h
  rw [he, State.act_pos s g rfl, Host.Outcome.next.injEq] at hu
  exact ⟨u, (congrArg State.toBlock hu).symm, hp⟩

/-- Refutes O27: a spare that is sent in place of itself is IN after its hold, not OFF, since the operation asks for the role of the failed cell
before the spare takes the slot (R58). -/
theorem not_cellFaultRecovery : ¬ Obligations.CellFaultRecovery := by
  intro h
  obtain ⟨u, hu, -, hslot, -⟩ := settle_of_gives_act (fun b => b.spareRetargetOp 0) (h.1 spareFailed 0 (by decide)) rfl
  have hdue := hslot 0 4 0 false 4 (by decide +kernel) (by decide +kernel) (.inl (by decide))
  rw [if_pos (by decide +kernel)] at hdue
  obtain ⟨-, hoff, -⟩ := hdue
  have hserves : u.role 4 = roleIn := by rw [← role_settle u, hu, role_settle, spareFailed_serves]
  exact absurd (hserves.symm.trans (hoff rfl)) (by decide)

end Sys2Proof.Machine
end

section
/-! SUPPORT. Where the fields of the ports, the bias supplies, the cloche and the headphone lie, and how a field reads after stores to other fields. -/

namespace Sys2Proof.Machine

/-! ## Where the fields lie -/

/-- Where the fields of a port lie (R107). -/
theorem Fld.of_port (n : Nat) :
    Reg.UAP_CFG_DIR n = ⟨0x20000 + 0x100 * n, 0, 2⟩ ∧ Reg.UAP_CFG_MODE n = ⟨0x20000 + 0x100 * n, 2, 2⟩ ∧
    Reg.UAP_CFG_LP n = ⟨0x20000 + 0x100 * n, 4, 1⟩ ∧ Reg.UAP_CFG_TALK n = ⟨0x20000 + 0x100 * n, 5, 1⟩ ∧
    Reg.UAP_CFG_MBMAP n = ⟨0x20000 + 0x100 * n, 8, 1⟩ ∧
    Reg.UAP_IN_GAIN_TARGET n = ⟨0x20004 + 0x100 * n, 0, 6⟩ ∧ Reg.UAP_IN_GAIN_CUR n = ⟨0x20004 + 0x100 * n, 8, 6⟩ ∧
    Reg.UAP_IN_GAIN_PEND n = ⟨0x20004 + 0x100 * n, 16, 1⟩ ∧ Reg.UAP_IN_GAIN_COMP n = ⟨0x20004 + 0x100 * n, 17, 1⟩ ∧
    Reg.UAP_IN_CTRL_ZCTO n = ⟨0x20008 + 0x100 * n, 0, 8⟩ ∧ Reg.UAP_OUT_CTRL_RANGE n = ⟨0x2000C + 0x100 * n, 0, 1⟩ ∧
    Reg.UAP_STAT_CLOCHED n = ⟨0x20010 + 0x100 * n, 0, 1⟩ ∧ Reg.UAP_STAT_CM n = ⟨0x20010 + 0x100 * n, 2, 2⟩ ∧
    Reg.UAP_STAT_RNGBUSY n = ⟨0x20010 + 0x100 * n, 4, 1⟩ ∧ Reg.UAP_STAT_RNGPEND n = ⟨0x20010 + 0x100 * n, 5, 1⟩ ∧
    Reg.UAP_STAT_RANGE_NOW n = ⟨0x20010 + 0x100 * n, 7, 1⟩ ∧ Reg.UAP_EVT_GZC n = ⟨0x2001C + 0x100 * n, 0, 1⟩ ∧
    Reg.UAP_EVT_GTO n = ⟨0x2001C + 0x100 * n, 1, 1⟩ ∧ Reg.UAP_EVT_GOVR n = ⟨0x2001C + 0x100 * n, 2, 1⟩ ∧
    Reg.UAP_EVT_RNGDONE n = ⟨0x2001C + 0x100 * n, 3, 1⟩ ∧ Reg.UAP_EVT_CMUP n = ⟨0x2001C + 0x100 * n, 4, 1⟩ ∧
    Reg.UAP_EVT_CMDN n = ⟨0x2001C + 0x100 * n, 5, 1⟩ ∧ Reg.UAP_EVT_BIASZ n = ⟨0x2001C + 0x100 * n, 6, 1⟩ :=
  ⟨rfl, rfl, rfl, rfl, rfl, rfl, rfl, rfl, rfl, rfl, rfl, rfl, rfl, rfl, rfl, rfl, rfl, rfl, rfl, rfl, rfl, rfl, rfl⟩

/-! ## Reading a field after stores -/

section Read

variable (s : Block) {x y : Fld} (v : Nat)

/-- A store leaves a field that shares no bit with it alone. -/
theorem Block.f_put_apart (hd : x.apart y) (h : x.lo + x.width ≤ 32) : (s.put x v).f y = s.f y :=
  Block.only_f (Block.only_put (s.only_refl [x] []) x v h (by simp)) (by simpa using hd)

theorem Block.on_put_apart (hd : x.apart y) (h : x.lo + x.width ≤ 32) : (s.put x v).on y = s.on y := by
  rw [Block.on, Block.on, s.f_put_apart v hd h]

theorem Block.on_putB_self (b : Bool) (h : x.lo + x.width ≤ 32) (hw : 0 < x.width) : (s.putB x b).on x = b := by
  have hone : 1 % 2 ^ x.width = 1 := Nat.mod_eq_of_lt (Nat.one_lt_two_pow (by omega))
  rw [Block.on, Block.putB_eq, Block.f_put_self _ _ _ h]
  cases b <;> simp [hone]

/-- A field holds a number of its width. -/
theorem Block.f_lt (x : Fld) : s.f x < 2 ^ x.width := bitsOf_lt _ _ _

end Read

end Sys2Proof.Machine
end

section
/-! SUPPORT. Gain steps of an input: at a crossing, at the timeout, at the end of the compensation ramp (R81 to R84); and O29. -/

namespace Sys2Proof.Machine

/-! ## Steps and waits -/

/-- The fields that a step behind the compensation ramp moves (R83). -/
def gainJumpFlds (n : Nat) : List Fld := [Reg.UAP_IN_GAIN_CUR n, Reg.UAP_IN_GAIN_PEND n, Reg.UAP_IN_GAIN_COMP n, Reg.UAP_EVT_GTO n]

/-- The value of a step that a crossing takes: the target that triggered it (R82, R84). -/
def Block.gainStepTo (s : Block) (n : Nat) : Nat := (s.inp n).stepTo.getD (s.f (Reg.UAP_IN_GAIN_TARGET n))

/-- A difference that waits for a crossing, with its timeout counted from a core cycle (R82, R83). -/
def Block.gainWaiting (s : Block) (n frm : Nat) : Block :=
  ((s.raise (Reg.UAP_IN_GAIN_PEND n)).modGrp n (fun x => { x with crossed := false })).modIn n
    (fun x => { x with toAt := frm + 16 * 12288 * s.f (Reg.UAP_IN_CTRL_ZCTO n) })

theorem Block.modGrp_cells_congr {s t : Block} (h : t.cells = s.cells) (k : Nat) (f : GroupSt → GroupSt) :
    (t.modGrp k f).cells = (s.modGrp k f).cells := by
  rw [Block.modGrp, Block.modGrp, h]

section Steps

variable (s : Block) (n : Nat)

theorem Block.takeGainStep_eq : s.takeGainStep n =
    ((((s.put (Reg.UAP_IN_GAIN_CUR n) (s.gainStepTo n)).putB (Reg.UAP_IN_GAIN_PEND n) (s.f (Reg.UAP_IN_GAIN_TARGET n) != s.gainStepTo n)).raise
      (Reg.UAP_EVT_GZC n)).modIn n (fun x => { x with stepTo := none })).modGrp n (fun x => { x with crossed := false }) := rfl

theorem Block.takeGainStep_facts :
    (s.takeGainStep n).f (Reg.UAP_IN_GAIN_CUR n) = s.gainStepTo n % 64 ∧
    (s.takeGainStep n).on (Reg.UAP_IN_GAIN_PEND n) = (s.f (Reg.UAP_IN_GAIN_TARGET n) != s.gainStepTo n) ∧
    (s.takeGainStep n).on (Reg.UAP_EVT_GZC n) = true ∧
    (s.takeGainStep n).cells = (s.modGrp n (fun x => { x with crossed := false })).cells ∧ ((s.takeGainStep n).inp n).stepTo = none := by
  rw [Block.takeGainStep_eq]
  refine ⟨?_, ?_, ?_, Block.modGrp_cells_congr ?_ n _, ?_⟩
  · rw [Block.modGrp_f, Block.modIn_f, Block.raise_eq, Block.putB_eq, Block.f_put_apart, Block.f_put_apart, Block.f_put_self] <;>
      simp [Fld.apart, Fld.of_port]
  · rw [Block.modGrp_on, Block.modIn_on, Block.raise_eq, Block.on_put_apart, Block.on_putB_self] <;> simp [Fld.apart, Fld.of_port]
  · rw [Block.modGrp_on, Block.modIn_on, Block.on_raise_self] <;> simp [Fld.of_port]
  · rw [Block.modIn_cells, Block.raise_cells, Block.putB_cells, Block.put_cells]
  · rw [Block.inp_congr (Block.modGrp_ports _ _ _), Block.inp_modIn_self]

theorem Block.only_takeGainStep :
    s.only (s.takeGainStep n) [Reg.UAP_IN_GAIN_CUR n, Reg.UAP_IN_GAIN_PEND n, Reg.UAP_EVT_GZC n] [.cells, .ports] := by
  have hcur := Block.only_put (s.only_refl [Reg.UAP_IN_GAIN_CUR n, Reg.UAP_IN_GAIN_PEND n, Reg.UAP_EVT_GZC n] [.cells, .ports])
    (Reg.UAP_IN_GAIN_CUR n) (s.gainStepTo n) (by simp [Fld.of_port]) (by simp)
  have hpend := Block.only_putB hcur (Reg.UAP_IN_GAIN_PEND n) (s.f (Reg.UAP_IN_GAIN_TARGET n) != s.gainStepTo n) (by simp [Fld.of_port]) (by simp)
  have hevent := Block.only_raise hpend (Reg.UAP_EVT_GZC n) (by simp [Fld.of_port]) (by simp)
  rw [Block.takeGainStep_eq]
  exact Block.only_modGrp (Block.only_modIn hevent _ _ (by simp)) _ _ (by simp)

theorem Block.gainStepOp_due {s : Block} {n : Nat} (h : (s.on (Reg.UAP_IN_GAIN_PEND n) && (s.grp n).crossed && s.reached ((s.grp n).crossAt + 16) &&
    (!s.on (Reg.UAP_CFG_LP n) || s.time.tick % 2 == 0)) = true) : s.gainStepOp n = s.takeGainStep n := if_pos h

theorem Block.takeGainTimeout_eq : s.takeGainTimeout n =
    ((((s.put (Reg.UAP_IN_GAIN_CUR n) (s.f (Reg.UAP_IN_GAIN_TARGET n))).put (Reg.UAP_IN_GAIN_PEND n) 0).raise (Reg.UAP_IN_GAIN_COMP n)).raise
      (Reg.UAP_EVT_GTO n)).modIn n
        (fun x => { x with compDb := (s.f (Reg.UAP_IN_GAIN_CUR n) : Int) - s.f (Reg.UAP_IN_GAIN_TARGET n), compAt := s.time.now }) := by
  unfold Block.takeGainTimeout
  dsimp only
  rw [Block.raise_time, Block.raise_time, Block.put_time, Block.put_time]

theorem Block.takeGainTimeout_facts :
    (s.takeGainTimeout n).f (Reg.UAP_IN_GAIN_CUR n) = s.f (Reg.UAP_IN_GAIN_TARGET n) ∧ (s.takeGainTimeout n).f (Reg.UAP_IN_GAIN_PEND n) = 0 ∧
    (s.takeGainTimeout n).on (Reg.UAP_IN_GAIN_COMP n) = true ∧ (s.takeGainTimeout n).on (Reg.UAP_EVT_GTO n) = true ∧
    (s.takeGainTimeout n).inp n =
      { s.inp n with compDb := (s.f (Reg.UAP_IN_GAIN_CUR n) : Int) - s.f (Reg.UAP_IN_GAIN_TARGET n), compAt := s.time.now } ∧
    ∀ k, k ≠ n → (s.takeGainTimeout n).inp k = s.inp k := by
  have htarget : s.f (Reg.UAP_IN_GAIN_TARGET n) % 2 ^ (Reg.UAP_IN_GAIN_CUR n).width = s.f (Reg.UAP_IN_GAIN_TARGET n) :=
    Nat.mod_eq_of_lt (s.f_lt (Reg.UAP_IN_GAIN_TARGET n))
  rw [Block.takeGainTimeout_eq]
  refine ⟨?_, ?_, ?_, ?_, ?_, fun k hk => ?_⟩
  · rw [Block.modIn_f, Block.raise_eq, Block.f_put_apart, Block.raise_eq, Block.f_put_apart, Block.f_put_apart, Block.f_put_self, htarget] <;>
      simp [Fld.apart, Fld.of_port]
  · rw [Block.modIn_f, Block.raise_eq, Block.f_put_apart, Block.raise_eq, Block.f_put_apart, Block.f_put_self] <;> simp [Fld.apart, Fld.of_port]
  · rw [Block.modIn_on, Block.raise_eq, Block.on_put_apart, Block.on_raise_self] <;> simp [Fld.apart, Fld.of_port]
  · rw [Block.modIn_on, Block.on_raise_self] <;> simp [Fld.of_port]
  · rw [Block.inp_modIn_self, Block.inp_raise, Block.inp_raise, Block.inp_put, Block.inp_put]
  · rw [Block.inp_modIn_other _ _ hk, Block.inp_raise, Block.inp_raise, Block.inp_put, Block.inp_put]

theorem Block.only_takeGainTimeout : s.only (s.takeGainTimeout n) (gainJumpFlds n) [.ports] := by
  have hcur := Block.only_put (s.only_refl (gainJumpFlds n) [.ports]) (Reg.UAP_IN_GAIN_CUR n) (s.f (Reg.UAP_IN_GAIN_TARGET n))
    (by simp [Fld.of_port]) (by simp [gainJumpFlds])
  have hpend := Block.only_put hcur (Reg.UAP_IN_GAIN_PEND n) 0 (by simp [Fld.of_port]) (by simp [gainJumpFlds])
  have hcomp := Block.only_raise hpend (Reg.UAP_IN_GAIN_COMP n) (by simp [Fld.of_port]) (by simp [gainJumpFlds])
  have hevent := Block.only_raise hcomp (Reg.UAP_EVT_GTO n) (by simp [Fld.of_port]) (by simp [gainJumpFlds])
  rw [Block.takeGainTimeout_eq]
  exact Block.only_modIn hevent _ _ (by simp)

variable (frm : Nat)

theorem Block.only_gainWaiting : s.only (s.gainWaiting n frm) [Reg.UAP_IN_GAIN_PEND n] [.cells, .ports] :=
  Block.only_modIn (Block.only_modGrp (Block.only_raise (s.only_refl _ _) _ (by simp [Fld.of_port]) (by simp)) _ _ (by simp)) _ _ (by simp)

theorem Block.startGainWait_eq : s.startGainWait n frm =
    if s.f (Reg.UAP_IN_CTRL_ZCTO n) = 0 then (s.gainWaiting n frm).takeGainTimeout n else s.gainWaiting n frm := by
  have hz : (s.put (Reg.UAP_IN_GAIN_PEND n) 1).f (Reg.UAP_IN_CTRL_ZCTO n) = s.f (Reg.UAP_IN_CTRL_ZCTO n) :=
    s.f_put_apart 1 (by simp [Fld.apart, Fld.of_port]) (by simp [Fld.of_port])
  unfold Block.startGainWait Block.gainWaiting ticks msTicks
  dsimp only
  rw [Block.modGrp_f, Block.raise_eq, hz, Nat.mul_assoc]

theorem Block.startGainWait_waits (hz : s.f (Reg.UAP_IN_CTRL_ZCTO n) ≠ 0) :
    (s.startGainWait n frm).on (Reg.UAP_IN_GAIN_PEND n) = true ∧ ((s.startGainWait n frm).grp n).crossed = false ∧
    ((s.startGainWait n frm).inp n).toAt = frm + 16 * 12288 * s.f (Reg.UAP_IN_CTRL_ZCTO n) ∧
    s.only (s.startGainWait n frm) [Reg.UAP_IN_GAIN_PEND n] [.cells, .ports] := by
  rw [Block.startGainWait_eq, if_neg hz]
  refine ⟨?_, ?_, ?_, s.only_gainWaiting n frm⟩ <;> rw [Block.gainWaiting]
  · rw [Block.modIn_on, Block.modGrp_on, Block.on_raise_self] <;> simp [Fld.of_port]
  · rw [Block.grp_congr (Block.modIn_cells _ _ _), Block.grp_modGrp_self]
  · rw [Block.inp_modIn_self]

theorem Block.only_startGainWait : s.only (s.startGainWait n frm) (gainJumpFlds n) [.cells, .ports] := by
  have hwaiting : s.only (s.gainWaiting n frm) (gainJumpFlds n) [.cells, .ports] :=
    Block.only_mono (s.only_gainWaiting n frm) (by simp [gainJumpFlds]) (List.Subset.refl _)
  rw [Block.startGainWait_eq]
  split
  · exact Block.only_then hwaiting (Block.only_takeGainTimeout _ n) (List.Subset.refl _) (by simp)
  · exact hwaiting

/-- The end of the compensation ramp: TARGET has been rewritten or not (R84). -/
theorem Block.gainRampEndOp_eq : s.gainRampEndOp n =
    if s.on (Reg.UAP_IN_GAIN_COMP n) && s.reached ((s.inp n).compAt + 16 * 12288) then
      if s.f (Reg.UAP_IN_GAIN_TARGET n) = s.f (Reg.UAP_IN_GAIN_CUR n) then s.put (Reg.UAP_IN_GAIN_COMP n) 0
      else (s.put (Reg.UAP_IN_GAIN_COMP n) 0).startGainWait n ((s.inp n).compAt + 16 * 12288)
    else s := by
  have htarget : (s.put (Reg.UAP_IN_GAIN_COMP n) 0).f (Reg.UAP_IN_GAIN_TARGET n) = s.f (Reg.UAP_IN_GAIN_TARGET n) :=
    s.f_put_apart 0 (by simp [Fld.apart, Fld.of_port]) (by simp [Fld.of_port])
  have hcur : (s.put (Reg.UAP_IN_GAIN_COMP n) 0).f (Reg.UAP_IN_GAIN_CUR n) = s.f (Reg.UAP_IN_GAIN_CUR n) :=
    s.f_put_apart 0 (by simp [Fld.apart, Fld.of_port]) (by simp [Fld.of_port])
  unfold Block.gainRampEndOp ticks rampTicks
  dsimp only
  rw [htarget, hcur, Block.inp_put]

/-- A TARGET written during the ramp waits for a crossing with its timeout from the ramp's end (R84). -/
theorem Block.gainRampEndOp_waits (hramp : (s.on (Reg.UAP_IN_GAIN_COMP n) && s.reached ((s.inp n).compAt + 16 * 12288)) = true)
    (hnew : s.f (Reg.UAP_IN_GAIN_TARGET n) ≠ s.f (Reg.UAP_IN_GAIN_CUR n)) (hz : s.f (Reg.UAP_IN_CTRL_ZCTO n) ≠ 0) :
    (s.gainRampEndOp n).f (Reg.UAP_IN_GAIN_COMP n) = 0 ∧ (s.gainRampEndOp n).on (Reg.UAP_IN_GAIN_PEND n) = true ∧
    ((s.gainRampEndOp n).grp n).crossed = false ∧
    ((s.gainRampEndOp n).inp n).toAt = (s.inp n).compAt + 16 * 12288 + 16 * 12288 * s.f (Reg.UAP_IN_CTRL_ZCTO n) ∧
    s.only (s.gainRampEndOp n) [Reg.UAP_IN_GAIN_COMP n, Reg.UAP_IN_GAIN_PEND n] [.cells, .ports] := by
  have hzcto : (s.put (Reg.UAP_IN_GAIN_COMP n) 0).f (Reg.UAP_IN_CTRL_ZCTO n) = s.f (Reg.UAP_IN_CTRL_ZCTO n) :=
    s.f_put_apart 0 (by simp [Fld.apart, Fld.of_port]) (by simp [Fld.of_port])
  obtain ⟨hpend, hcrossed, hto, honly⟩ :=
    (s.put (Reg.UAP_IN_GAIN_COMP n) 0).startGainWait_waits n ((s.inp n).compAt + 16 * 12288) (by rwa [hzcto])
  have hcleared := Block.only_put (s.only_refl [Reg.UAP_IN_GAIN_COMP n, Reg.UAP_IN_GAIN_PEND n] [.cells, .ports]) (Reg.UAP_IN_GAIN_COMP n) 0
    (by simp [Fld.of_port]) (by simp)
  rw [hzcto] at hto
  rw [Block.gainRampEndOp_eq, if_pos hramp, if_neg hnew]
  refine ⟨?_, hpend, hcrossed, hto, Block.only_then hcleared honly (by simp) (by simp)⟩
  rw [Block.only_f honly (by simp [Fld.apart, Fld.of_port]), Block.f_put_self _ _ _ (by simp [Fld.of_port]), Nat.zero_mod]

end Steps

/-! ## GAIN_STEP, GAIN_TIMEOUT, GAIN_RAMP_END -/

theorem gainStep_gives (s : State) (n : Nat) (hn : n < 16) : gives (.gainStep n) s fun u =>
    if s.on (Reg.UAP_IN_GAIN_PEND n) && (s.grp n).crossed && s.reached ((s.grp n).crossAt + 16) && (!s.on (Reg.UAP_CFG_LP n) || s.time.tick % 2 == 0) then
      let v := (s.inp n).stepTo.getD (s.f (Reg.UAP_IN_GAIN_TARGET n))
      u.f (Reg.UAP_IN_GAIN_CUR n) = v % 64 ∧ u.on (Reg.UAP_IN_GAIN_PEND n) = (s.f (Reg.UAP_IN_GAIN_TARGET n) != v) ∧ u.on (Reg.UAP_EVT_GZC n) = true ∧
      u.cells = (s.modGrp n (fun x => { x with crossed := false })).cells ∧ (u.inp n).stepTo = none ∧
      s.only u [Reg.UAP_IN_GAIN_CUR n, Reg.UAP_IN_GAIN_PEND n, Reg.UAP_EVT_GZC n] [.cells, .ports]
    else u = s.toBlock := by
  refine gives_of_act (ok := decide (n < 16)) (g := fun b => b.gainStepOp n) rfl (by simpa using hn) ?_
  split
  · next hdue =>
    obtain ⟨hcur, hpend, hevent, hcells, hstep⟩ := s.takeGainStep_facts n
    rw [Block.gainStepOp_due hdue]
    exact ⟨hcur, hpend, hevent, hcells, hstep, s.only_takeGainStep n⟩
  · next hdue => exact if_neg hdue

theorem gainTimeout_gives (s : State) (n : Nat) (hn : n < 16) : gives (.gainTimeout n) s fun u =>
    if s.on (Reg.UAP_IN_GAIN_PEND n) && !(s.grp n).crossed && s.reached (s.inp n).toAt then
      u.f (Reg.UAP_IN_GAIN_CUR n) = s.f (Reg.UAP_IN_GAIN_TARGET n) ∧ u.f (Reg.UAP_IN_GAIN_PEND n) = 0 ∧
      u.on (Reg.UAP_IN_GAIN_COMP n) = true ∧ u.on (Reg.UAP_EVT_GTO n) = true ∧
      (u.inp n).compDb = (s.f (Reg.UAP_IN_GAIN_CUR n) : Int) - s.f (Reg.UAP_IN_GAIN_TARGET n) ∧ (u.inp n).compAt = s.time.now ∧
      (∀ k, k ≠ n → u.inp k = s.inp k) ∧
      s.only u [Reg.UAP_IN_GAIN_CUR n, Reg.UAP_IN_GAIN_PEND n, Reg.UAP_IN_GAIN_COMP n, Reg.UAP_EVT_GTO n] [.ports]
    else u = s.toBlock := by
  refine gives_of_act (ok := decide (n < 16)) (g := fun b => b.gainTimeoutOp n) rfl (by simpa using hn) ?_
  simp only [Block.gainTimeoutOp]
  split
  · obtain ⟨hcur, hpend, hcomp, hevent, hinp, hother⟩ := s.takeGainTimeout_facts n
    exact ⟨hcur, hpend, hcomp, hevent, by rw [hinp], by rw [hinp], hother, s.only_takeGainTimeout n⟩
  · rfl

theorem gainRampEnd_gives (s : State) (n : Nat) (hn : n < 16) : gives (.gainRampEnd n) s fun u =>
    if s.on (Reg.UAP_IN_GAIN_COMP n) && s.reached ((s.inp n).compAt + 16 * 12288) then
      (s.f (Reg.UAP_IN_GAIN_TARGET n) = s.f (Reg.UAP_IN_GAIN_CUR n) →
        u.f (Reg.UAP_IN_GAIN_COMP n) = 0 ∧ s.only u [Reg.UAP_IN_GAIN_COMP n] []) ∧
      (s.f (Reg.UAP_IN_GAIN_TARGET n) ≠ s.f (Reg.UAP_IN_GAIN_CUR n) ∧ s.f (Reg.UAP_IN_CTRL_ZCTO n) ≠ 0 →
        u.f (Reg.UAP_IN_GAIN_COMP n) = 0 ∧ u.on (Reg.UAP_IN_GAIN_PEND n) = true ∧ (u.grp n).crossed = false ∧
        (u.inp n).toAt = (s.inp n).compAt + 16 * 12288 + 16 * 12288 * s.f (Reg.UAP_IN_CTRL_ZCTO n) ∧
        s.only u [Reg.UAP_IN_GAIN_COMP n, Reg.UAP_IN_GAIN_PEND n] [.cells, .ports])
    else u = s.toBlock := by
  refine gives_of_act (ok := decide (n < 16)) (g := fun b => b.gainRampEndOp n) rfl (by simpa using hn) ?_
  split
  · next hramp =>
    refine ⟨fun hsame => ?_, fun ⟨hnew, hz⟩ => s.gainRampEndOp_waits n hramp hnew hz⟩
    rw [Block.gainRampEndOp_eq, if_pos hramp, if_pos hsame]
    exact ⟨Block.f_put_self _ _ _ (by simp [Fld.of_port]), Block.only_put (s.only_refl _ _) _ _ (by simp [Fld.of_port]) (by simp)⟩
  · next hramp => rw [Block.gainRampEndOp_eq, if_neg hramp]

/-- Settles O29, command by command: what a step takes at a crossing, at its timeout and at the end of its ramp. -/
theorem inputGainSteps : Obligations.InputGainSteps := ⟨gainStep_gives, gainTimeout_gives, gainRampEnd_gives⟩

end Sys2Proof.Machine
end

section
/-! SUPPORT. A gain write against a pending or running step (R84); and O30. -/

namespace Sys2Proof.Machine

/-! ## GAIN_WRITE -/

section Write

variable (s : Block) (n target : Nat)

/-- TARGET as a write of the host leaves it: the value, at most the maximum of the port's mode (R84). -/
def Block.targeted (s : Block) (n target : Nat) : Block := s.put (Reg.UAP_IN_GAIN_TARGET n) (min target (s.maxGain n))

theorem Block.maxGain_lt : s.maxGain n < 64 := by
  unfold Block.maxGain
  split <;> decide

theorem Block.targeted_target : (s.targeted n target).f (Reg.UAP_IN_GAIN_TARGET n) = min target (s.maxGain n) := by
  rw [Block.targeted, Block.f_put_self _ _ _ (by simp [Fld.of_port])]
  exact Nat.mod_eq_of_lt (lt_of_le_of_lt (Nat.min_le_right _ _) (s.maxGain_lt n))

/-- Every field apart from TARGET reads as before the write. -/
theorem Block.targeted_f {y : Fld} (h : (Reg.UAP_IN_GAIN_TARGET n).apart y) : (s.targeted n target).f y = s.f y :=
  s.f_put_apart _ h (by simp [Fld.of_port])

theorem Block.targeted_on {y : Fld} (h : (Reg.UAP_IN_GAIN_TARGET n).apart y) : (s.targeted n target).on y = s.on y :=
  s.on_put_apart _ h (by simp [Fld.of_port])

theorem Block.only_targeted : s.only (s.targeted n target) [Reg.UAP_IN_GAIN_TARGET n] [] :=
  Block.only_put (s.only_refl _ _) _ _ (by simp [Fld.of_port]) (by simp)

/-- A step that a crossing has triggered keeps the target it had, and the write waits on its own (R84). -/
def Block.gainQueued (s : Block) (n target : Nat) : Block :=
  (s.targeted n target).modIn n (fun x =>
    { x with stepTo := some (x.stepTo.getD (s.f (Reg.UAP_IN_GAIN_TARGET n))), toAt := s.time.now + 16 * 12288 * s.f (Reg.UAP_IN_CTRL_ZCTO n) })

/-- The table of R84: what a write meets decides what becomes of it. -/
theorem Block.gainWriteOp_eq {s : Block} {n : Nat} (hin : s.isInput n = true) (target : Nat) : s.gainWriteOp n target =
    if s.on (Reg.UAP_IN_GAIN_COMP n) then s.targeted n target
    else if s.on (Reg.UAP_IN_GAIN_PEND n) && (s.grp n).crossed then s.gainQueued n target
    else if s.on (Reg.UAP_IN_GAIN_PEND n) then
      if min target (s.maxGain n) = s.f (Reg.UAP_IN_GAIN_CUR n) then
        ((s.targeted n target).put (Reg.UAP_IN_GAIN_PEND n) 0).raise (Reg.UAP_EVT_GOVR n)
      else if min target (s.maxGain n) = s.f (Reg.UAP_IN_GAIN_TARGET n) then s.targeted n target
      else (s.targeted n target).raise (Reg.UAP_EVT_GOVR n)
    else if min target (s.maxGain n) = s.f (Reg.UAP_IN_GAIN_CUR n) then s.targeted n target
    else (s.targeted n target).startGainWait n s.time.now := by
  have hcomp := s.targeted_on n target (y := Reg.UAP_IN_GAIN_COMP n) (by simp [Fld.apart, Fld.of_port])
  have hcur := s.targeted_f n target (y := Reg.UAP_IN_GAIN_CUR n) (by simp [Fld.apart, Fld.of_port])
  have hz := s.targeted_f n target (y := Reg.UAP_IN_CTRL_ZCTO n) (by simp [Fld.apart, Fld.of_port])
  have hgrp : (s.targeted n target).grp n = s.grp n := Block.grp_put _ _ _ _
  have htime : (s.targeted n target).time = s.time := Block.put_time _ _ _
  unfold Block.gainWriteOp Block.gainQueued Block.after ticks msTicks
  rw [hin, Bool.not_true, if_neg Bool.false_ne_true]
  dsimp only
  rw [← Block.targeted, hcomp, hgrp, hcur, hz, htime, Nat.mul_assoc]

/-- The fields that a gain write may move (R84). -/
def gainWriteFlds (n : Nat) : List Fld := [Reg.UAP_IN_GAIN_TARGET n, Reg.UAP_IN_GAIN_CUR n, Reg.UAP_IN_GAIN_PEND n, Reg.UAP_IN_GAIN_COMP n,
  Reg.UAP_EVT_GTO n, Reg.UAP_EVT_GOVR n]

theorem Block.only_gainQueued : s.only (s.gainQueued n target) [Reg.UAP_IN_GAIN_TARGET n] [.ports] :=
  Block.only_modIn (Block.only_mono (s.only_targeted n target) (List.Subset.refl _) (List.nil_subset _)) _ _ (by simp)

theorem Block.only_overridden : s.only ((s.targeted n target).raise (Reg.UAP_EVT_GOVR n)) [Reg.UAP_IN_GAIN_TARGET n, Reg.UAP_EVT_GOVR n] [] :=
  Block.only_raise (Block.only_mono (s.only_targeted n target) (by simp) (List.Subset.refl _)) _ (by simp [Fld.of_port]) (by simp)

theorem Block.cancelled_facts :
    (((s.targeted n target).put (Reg.UAP_IN_GAIN_PEND n) 0).raise (Reg.UAP_EVT_GOVR n)).f (Reg.UAP_IN_GAIN_PEND n) = 0 ∧
    (((s.targeted n target).put (Reg.UAP_IN_GAIN_PEND n) 0).raise (Reg.UAP_EVT_GOVR n)).on (Reg.UAP_EVT_GOVR n) = true ∧
    (s.targeted n target).only (((s.targeted n target).put (Reg.UAP_IN_GAIN_PEND n) 0).raise (Reg.UAP_EVT_GOVR n))
      [Reg.UAP_IN_GAIN_PEND n, Reg.UAP_EVT_GOVR n] [] := by
  refine ⟨?_, ?_, ?_⟩
  · rw [Block.raise_eq, Block.f_put_apart, Block.f_put_self] <;> simp [Fld.apart, Fld.of_port]
  · rw [Block.on_raise_self] <;> simp [Fld.of_port]
  · exact Block.only_raise (Block.only_put (Block.only_refl _ _ _) _ _ (by simp [Fld.of_port]) (by simp)) _ (by simp [Fld.of_port]) (by simp)

/-- Whatever it meets, a write stores its target, and moves nothing outside the port's gain. -/
theorem Block.gainWriteOp_moves {s : Block} {n : Nat} (hin : s.isInput n = true) (target : Nat) :
    (s.gainWriteOp n target).f (Reg.UAP_IN_GAIN_TARGET n) = min target (s.maxGain n) ∧
    s.only (s.gainWriteOp n target) (gainWriteFlds n) [.cells, .ports] := by
  have hthen {t : Block} {l : List Fld} {ps : List Part} (h : (s.targeted n target).only t l ps) (hl : l ⊆ gainWriteFlds n) (hp : ps ⊆ [.cells, .ports])
      (hy : ∀ x ∈ l, x.apart (Reg.UAP_IN_GAIN_TARGET n)) :
      t.f (Reg.UAP_IN_GAIN_TARGET n) = min target (s.maxGain n) ∧ s.only t (gainWriteFlds n) [.cells, .ports] :=
    ⟨(Block.only_f h hy).trans (s.targeted_target n target),
      Block.only_then (Block.only_mono (s.only_targeted n target) (by simp [gainWriteFlds]) (List.nil_subset _)) h hl hp⟩
  have htargeted := hthen ((s.targeted n target).only_refl [] []) (List.nil_subset _) (List.nil_subset _) (by simp)
  rw [Block.gainWriteOp_eq hin]
  split
  · exact htargeted
  split
  · exact hthen (Block.only_modIn (Block.only_refl _ [] [.ports]) _ _ (by simp)) (List.nil_subset _) (by simp) (by simp)
  split
  · split
    · obtain ⟨-, -, honly⟩ := s.cancelled_facts n target
      exact hthen honly (by simp [gainWriteFlds]) (List.nil_subset _) (by simp [Fld.apart, Fld.of_port])
    split
    · exact htargeted
    · exact hthen (Block.only_raise (Block.only_refl _ [Reg.UAP_EVT_GOVR n] []) _ (by simp [Fld.of_port]) (by simp)) (by simp [gainWriteFlds])
        (List.nil_subset _) (by simp [Fld.apart, Fld.of_port])
  split
  · exact htargeted
  · exact hthen (Block.only_startGainWait _ n s.time.now) (by simp [gainWriteFlds, gainJumpFlds]) (List.Subset.refl _)
      (by simp [gainJumpFlds, Fld.apart, Fld.of_port])

end Write

theorem gainWrite_gives (s : State) (n target : Nat) (hn : n < 16) (ht : target < 64) (hc : s.coreOn = true) (hin : s.isInput n = true) :
    gives (.gainWrite n target) s (fun u =>
      let new := min target (s.maxGain n)
      let met := s.on (Reg.UAP_IN_GAIN_PEND n) && (s.grp n).crossed
      u.f (Reg.UAP_IN_GAIN_TARGET n) = new ∧
      s.only u [Reg.UAP_IN_GAIN_TARGET n, Reg.UAP_IN_GAIN_CUR n, Reg.UAP_IN_GAIN_PEND n, Reg.UAP_IN_GAIN_COMP n, Reg.UAP_EVT_GTO n,
        Reg.UAP_EVT_GOVR n] [.cells, .ports] ∧
      (s.on (Reg.UAP_IN_GAIN_COMP n) = true → s.only u [Reg.UAP_IN_GAIN_TARGET n] []) ∧
      (s.on (Reg.UAP_IN_GAIN_COMP n) = false → met = true →
        (u.inp n).stepTo = some ((s.inp n).stepTo.getD (s.f (Reg.UAP_IN_GAIN_TARGET n))) ∧
        (u.inp n).toAt = s.time.now + 16 * 12288 * s.f (Reg.UAP_IN_CTRL_ZCTO n) ∧ s.only u [Reg.UAP_IN_GAIN_TARGET n] [.ports]) ∧
      (s.on (Reg.UAP_IN_GAIN_COMP n) = false → met = false → s.on (Reg.UAP_IN_GAIN_PEND n) = true →
        (new = s.f (Reg.UAP_IN_GAIN_CUR n) → u.f (Reg.UAP_IN_GAIN_PEND n) = 0 ∧ u.on (Reg.UAP_EVT_GOVR n) = true) ∧
        (new ≠ s.f (Reg.UAP_IN_GAIN_CUR n) → new ≠ s.f (Reg.UAP_IN_GAIN_TARGET n) →
          u.on (Reg.UAP_IN_GAIN_PEND n) = true ∧ u.on (Reg.UAP_EVT_GOVR n) = true ∧ s.only u [Reg.UAP_IN_GAIN_TARGET n, Reg.UAP_EVT_GOVR n] [])) ∧
      (s.on (Reg.UAP_IN_GAIN_COMP n) = false → s.on (Reg.UAP_IN_GAIN_PEND n) = false → new ≠ s.f (Reg.UAP_IN_GAIN_CUR n) →
        s.f (Reg.UAP_IN_CTRL_ZCTO n) ≠ 0 → u.on (Reg.UAP_IN_GAIN_PEND n) = true ∧
        (u.inp n).toAt = s.time.now + 16 * 12288 * s.f (Reg.UAP_IN_CTRL_ZCTO n))) := by
  have hno {b : Bool} (h : b = false) : ¬ b = true := by simp [h]
  refine gives_of_hostWrite (ok := decide (n < 16) && decide (target < 64)) (g := fun b => b.gainWriteOp n target) rfl hc (by simp [hn, ht]) ?_
  obtain ⟨htarget, honly⟩ := Block.gainWriteOp_moves hin target
  refine ⟨htarget, honly, fun hcomp => ?_, fun hcomp hmet => ?_, fun hcomp hmet hpend => ⟨fun hback => ?_, fun hcur hnew => ?_⟩,
    fun hcomp hpend hcur hz => ?_⟩ <;> rw [Block.gainWriteOp_eq hin]
  · rw [if_pos hcomp]
    exact s.only_targeted n target
  · rw [if_neg (hno hcomp), if_pos hmet]
    refine ⟨?_, ?_, s.only_gainQueued n target⟩ <;> rw [Block.gainQueued, Block.inp_modIn_self]
    rw [Block.targeted, Block.inp_put]
  · rw [if_neg (hno hcomp), if_neg (hno hmet), if_pos hpend, if_pos hback]
    obtain ⟨hcleared, hevent, -⟩ := s.cancelled_facts n target
    exact ⟨hcleared, hevent⟩
  · rw [if_neg (hno hcomp), if_neg (hno hmet), if_pos hpend, if_neg hcur, if_neg hnew]
    have hkept : ((s.targeted n target).raise (Reg.UAP_EVT_GOVR n)).on (Reg.UAP_IN_GAIN_PEND n) = s.on (Reg.UAP_IN_GAIN_PEND n) :=
      Block.only_on (s.only_overridden n target) (by simp [Fld.apart, Fld.of_port])
    exact ⟨hkept.trans hpend, Block.on_raise_self _ _ (by simp [Fld.of_port]) (by simp [Fld.of_port]), s.only_overridden n target⟩
  · have hzcto := s.targeted_f n target (y := Reg.UAP_IN_CTRL_ZCTO n) (by simp [Fld.apart, Fld.of_port])
    obtain ⟨hwaits, -, hto, -⟩ := Block.startGainWait_waits (s.targeted n target) n s.time.now (by rwa [hzcto])
    rw [if_neg (hno hcomp), if_neg (by simp [hpend]), if_neg (hno hpend), if_neg hcur]
    rw [hzcto] at hto
    exact ⟨hwaits, hto⟩

/-- Settles O30 by the cases of R84: during the ramp, after a crossing, while a step waits, at rest. -/
theorem inputGainWrites : Obligations.InputGainWrites := by
  intro s n target hn ht hc hin
  refine ⟨gainWrite_gives s n target hn ht hc hin,
    gives_of_act (ok := decide (n < 16)) (g := fun b => b.gainRampEndOp n) rfl (by simpa using hn) fun hcomp hend hnew hz => ?_⟩
  obtain ⟨hcleared, hpend, -, hto, -⟩ := s.gainRampEndOp_waits n (by rw [hcomp, hend]; rfl) hnew hz
  exact ⟨hcleared, hpend, hto⟩

end Sys2Proof.Machine
end

section
/-! SUPPORT. Release and removal of an output, its held range, and the common mode (R92 to R94, R320, R323); and O32. -/

namespace Sys2Proof.Machine

/-! ## Where the fields of an output lie -/

/-- Where the fields of the headphone lie that follow its outputs (R330). -/
theorem Fld.of_headphone (i : Nat) :
    Reg.HP_CTRL_RANGE.bit i = ⟨0x22004, 0 + i, 1⟩ ∧ Reg.HP_STAT_REL.bit i = ⟨0x22008, 1 + i, 1⟩ ∧ Reg.HP_STAT_RANGE_NOW.bit i = ⟨0x22008, 5 + i, 1⟩ ∧
    Reg.HP_EVT_RNGDONE.bit i = ⟨0x2200C, 3 + i, 1⟩ := ⟨rfl, rfl, rfl, rfl⟩

/-- The marks of a range change of a port (R107). -/
def rangeMarks (o : Nat) : List Fld := if o < 16 then [Reg.UAP_STAT_RNGBUSY o, Reg.UAP_STAT_RNGPEND o] else []

theorem rangeFlds_bit {o : Nat} (h : o < 18) : (rangeReq o).width = 1 ∧ (rangeNow o).width = 1 ∧ (rangeDone o).width = 1 ∧
    (rangeReq o).lo + 1 ≤ 32 ∧ (rangeNow o).lo + 1 ≤ 32 ∧ (rangeDone o).lo + 1 ≤ 32 := by
  unfold rangeReq rangeNow rangeDone
  split
  · simp [Fld.of_port]
  · simp only [Fld.of_headphone, true_and]
    omega

theorem rangeReq_fits {o : Nat} (h : o < 18) : (rangeReq o).lo + (rangeReq o).width ≤ 32 := by
  obtain ⟨hw, -, -, hlo, -, -⟩ := rangeFlds_bit h
  rwa [hw]

theorem rangeNow_fits {o : Nat} (h : o < 18) : (rangeNow o).lo + (rangeNow o).width ≤ 32 := by
  obtain ⟨-, hw, -, -, hlo, -⟩ := rangeFlds_bit h
  rwa [hw]

theorem rangeDone_fits {o : Nat} (h : o < 18) : (rangeDone o).lo + (rangeDone o).width ≤ 32 := by
  obtain ⟨-, -, hw, -, -, hlo⟩ := rangeFlds_bit h
  rwa [hw]

/-- The request, the range in force, the event and the marks of a range change share no bit. -/
theorem rangeFlds_apart (o : Nat) : (rangeReq o).apart (rangeNow o) ∧ (rangeDone o).apart (rangeNow o) ∧
    (∀ x ∈ rangeMarks o, x.apart (rangeNow o) ∧ x.apart (rangeReq o) ∧ x.apart (rangeDone o) ∧ (rangeDone o).apart x) := by
  unfold rangeReq rangeNow rangeDone rangeMarks Fld.apart
  split <;> simp only [Fld.of_port, Fld.of_headphone, List.forall_mem_cons, List.not_mem_nil, false_implies, implies_true, and_true] <;> omega

/-! ## Release and weight -/

section Weight

variable (s : Block) (o : Nat)

/-- HP_STAT.REL of a headphone side; a port has no such bit. -/
def releaseFlds (o : Nat) : List Fld := if o < 16 then [] else [Reg.HP_STAT_REL.bit (o - 16)]

/-- An output at weight zero that does not move has weight zero. -/
theorem Block.outWeight_rest {s : Block} {o : Nat} (hw : (s.out o).w0 = 0) (hs : (s.out o).slope = 0) : s.outWeight o = 0 := by
  simp [Block.outWeight, weightAt, hw, hs]

theorem Block.only_setReleased (b : Bool) (h : o < 18) : s.only (s.setReleased o b) (releaseFlds o) [.ports] := by
  have hout := Block.only_modOut (s.only_refl (releaseFlds o) [.ports]) o (fun x => { x with released := b }) (by simp)
  unfold Block.setReleased releaseFlds at *
  split at hout
  · next ho => rwa [if_pos ho, if_pos ho]
  · next ho =>
    rw [if_neg ho, if_neg ho]
    exact Block.only_putB hout _ _ (by simp only [Fld.of_headphone]; omega) (by simp)

theorem Block.setReleased_out (b : Bool) (k : Nat) : (s.setReleased o b).out k = (s.modOut o (fun x => { x with released := b })).out k := by
  unfold Block.setReleased
  dsimp only
  split
  · rfl
  · rw [Block.out_putB]

theorem Block.setReleased_mark (b : Bool) (h : o < 18) (ho : 16 ≤ o) : (s.setReleased o b).on (Reg.HP_STAT_REL.bit (o - 16)) = b := by
  unfold Block.setReleased
  dsimp only
  rw [if_neg (by omega), Block.on_putB_self _ _ (by simp only [Fld.of_headphone]; omega) (by simp [Fld.of_headphone])]

/-- An output that is released: its weight rises from the one in force (R93, R323). -/
def Block.released (s : Block) (o : Nat) : Block := (s.rampOut o 1).setReleased o true

theorem Block.released_facts (h : o < 18) :
    (s.released o).out o = { s.out o with released := true, w0 := s.outWeight o, slope := 1, at' := s.time.now } ∧
    (16 ≤ o → (s.released o).on (Reg.HP_STAT_REL.bit (o - 16)) = true) ∧ (∀ k, k ≠ o → (s.released o).out k = s.out k) ∧
    s.only (s.released o) (releaseFlds o) [.ports] := by
  have hramp : s.only (s.rampOut o 1) (releaseFlds o) [.ports] := Block.only_modOut (s.only_refl _ _) _ _ (by simp)
  refine ⟨?_, Block.setReleased_mark _ o true h, fun k hk => ?_,
    Block.only_then hramp (Block.only_setReleased _ o true h) (List.Subset.refl _) (List.Subset.refl _)⟩ <;>
    rw [Block.released, Block.setReleased_out]
  · rw [Block.out_modOut_self, Block.rampOut, Block.out_modOut_self]
  · rw [Block.out_modOut_other _ _ hk, Block.rampOut, Block.out_modOut_other _ _ hk]

end Weight

theorem outputRelease_gives (s : State) (o : Nat) (ho : o < 18) : gives (.outputRelease o) s fun u =>
    if s.outReady o && !(s.out o).released then
      (u.out o).released = true ∧ (u.out o).w0 = s.outWeight o ∧ (u.out o).slope = 1 ∧ (u.out o).at' = s.time.now ∧
      (16 ≤ o → u.on (Reg.HP_STAT_REL.bit (o - 16)) = true) ∧ (∀ k, k ≠ o → u.out k = s.out k) ∧
      s.only u (if o < 16 then [] else [Reg.HP_STAT_REL.bit (o - 16)]) [.ports]
    else u = s.toBlock := by
  refine gives_of_act (ok := decide (o < 18)) (g := fun b => b.releaseOp o) rfl (by simpa using ho) ?_
  split
  · next hready =>
    have hop : s.releaseOp o = s.released o := if_pos hready
    obtain ⟨hout, hmark, hother, honly⟩ := s.released_facts o ho
    rw [hop, hout]
    exact ⟨rfl, rfl, rfl, rfl, hmark, hother, honly⟩
  · next hready => exact if_neg hready

/-! ## A range that is taken up -/

section Range

variable (s : Block) (o : Nat)

theorem Block.only_rangeBusy (b : Bool) : s.only (s.rangeBusy o b) (rangeMarks o) [] := by
  unfold Block.rangeBusy rangeMarks
  split
  · exact Block.only_putB (s.only_refl _ _) _ _ (by simp [Fld.of_port]) (by simp)
  · exact s.only_refl _ _

theorem Block.rangeBusy_out (b : Bool) (k : Nat) : (s.rangeBusy o b).out k = s.out k :=
  Block.out_congr ((s.only_rangeBusy o b).2 .ports (by simp)) k

theorem Block.rangeBusy_mark (b : Bool) (h : o < 16) : (s.rangeBusy o b).on (Reg.UAP_STAT_RNGBUSY o) = b := by
  rw [Block.rangeBusy, if_pos h, Block.on_putB_self] <;> simp [Fld.of_port]

theorem Block.startRange_facts :
    (s.startRange o).out o = { s.out o with rng := if (s.out o).released then 1 else 3, rngAt := s.time.now } ∧
    (∀ k, k ≠ o → (s.startRange o).out k = s.out k) ∧ (o < 16 → (s.startRange o).on (Reg.UAP_STAT_RNGBUSY o) = true) ∧
    s.only (s.startRange o) (rangeMarks o) [.ports] := by
  unfold Block.startRange
  refine ⟨?_, fun k hk => ?_, Block.rangeBusy_mark _ o true, Block.only_then (Block.only_modOut (s.only_refl _ _) _ _ (by simp))
    (Block.only_rangeBusy _ o true) (List.Subset.refl _) (List.nil_subset _)⟩ <;> rw [Block.rangeBusy_out]
  · rw [Block.out_modOut_self]
  · rw [Block.out_modOut_other _ _ hk]

/-- A held range that is taken up is no longer pending (R97). -/
def Block.heldTaken (s : Block) (o : Nat) : Block :=
  if o < 16 then (s.modOut o (fun x => { x with rngHeld := none })).put (Reg.UAP_STAT_RNGPEND o) 0 else s.modOut o (fun x => { x with rngHeld := none })

theorem Block.only_heldTaken : s.only (s.heldTaken o) (rangeMarks o) [.ports] := by
  have hout := Block.only_modOut (s.only_refl (rangeMarks o) [.ports]) o (fun x => { x with rngHeld := none }) (by simp)
  unfold Block.heldTaken
  split
  · next ho => exact Block.only_put hout _ _ (by simp [Fld.of_port]) (by simp [rangeMarks, ho])
  · exact hout

theorem Block.heldTaken_out (k : Nat) : (s.heldTaken o).out k = (s.modOut o (fun x => { x with rngHeld := none })).out k := by
  unfold Block.heldTaken
  split
  · rw [Block.out_put]
  · rfl

theorem Block.takeHeldRange_none {s : Block} {o : Nat} (h : (s.out o).rngHeld = none) : s.takeHeldRange o = s := by
  unfold Block.takeHeldRange
  rw [h]

theorem Block.takeHeldRange_some {s : Block} {o : Nat} {r : Bool} (h : (s.out o).rngHeld = some r) :
    s.takeHeldRange o = if r == s.on (rangeNow o) then s.heldTaken o else (s.heldTaken o).startRange o := by
  obtain ⟨-, -, hmarks⟩ := rangeFlds_apart o
  have hnow : (s.heldTaken o).on (rangeNow o) = s.on (rangeNow o) := Block.only_on (s.only_heldTaken o) (fun x hx => (hmarks x hx).1)
  rw [← hnow]
  unfold Block.takeHeldRange
  rw [h]
  rfl

/-- A held range that is the one in force changes nothing more. -/
theorem Block.takeHeldRange_same {s : Block} {o : Nat} {r : Bool} (h : (s.out o).rngHeld = some r) (hr : (r == s.on (rangeNow o)) = true) :
    (s.takeHeldRange o).out o = { s.out o with rngHeld := none } := by
  rw [Block.takeHeldRange_some h, if_pos hr, Block.heldTaken_out, Block.out_modOut_self]

/-- Another range starts a change (R95, R96). -/
theorem Block.takeHeldRange_other {s : Block} {o : Nat} {r : Bool} (h : (s.out o).rngHeld = some r) (hr : (r == s.on (rangeNow o)) = false) :
    (s.takeHeldRange o).out o = { s.out o with rng := if (s.out o).released then 1 else 3, rngAt := s.time.now, rngHeld := none } := by
  obtain ⟨hout, -⟩ := (s.heldTaken o).startRange_facts o
  have htime : (s.heldTaken o).time = s.time := (s.only_heldTaken o).2 .time (by simp)
  rw [Block.takeHeldRange_some h, if_neg (by simp [hr]), hout, Block.heldTaken_out, Block.out_modOut_self, htime]

/-- Whatever is held, the output's change of range alone moves. -/
theorem Block.takeHeldRange_moves : s.only (s.takeHeldRange o) (rangeMarks o) [.ports] ∧ (∀ k, k ≠ o → (s.takeHeldRange o).out k = s.out k) ∧
    ∃ rng at' held, (s.takeHeldRange o).out o = { s.out o with rng := rng, rngAt := at', rngHeld := held } := by
  have hother (k : Nat) (hk : k ≠ o) : (s.heldTaken o).out k = s.out k := by rw [Block.heldTaken_out, Block.out_modOut_other _ _ hk]
  cases hheld : (s.out o).rngHeld with
  | none =>
    rw [Block.takeHeldRange_none hheld]
    exact ⟨s.only_refl _ _, fun _ _ => rfl, _, _, _, rfl⟩
  | some r =>
    cases hr : r == s.on (rangeNow o) with
    | true =>
      refine ⟨?_, fun k hk => ?_, _, _, _, Block.takeHeldRange_same hheld hr⟩ <;> rw [Block.takeHeldRange_some hheld, if_pos hr]
      · exact s.only_heldTaken o
      · exact hother k hk
    | false =>
      obtain ⟨-, hothers, -, honly⟩ := (s.heldTaken o).startRange_facts o
      refine ⟨?_, fun k hk => ?_, _, _, _, Block.takeHeldRange_other hheld hr⟩ <;> rw [Block.takeHeldRange_some hheld, if_neg (by simp [hr])]
      · exact Block.only_then (s.only_heldTaken o) honly (List.Subset.refl _) (List.Subset.refl _)
      · rw [hothers k hk, hother k hk]

end Range

/-! ## REMOVAL_MUTE_END -/

/-- The removal mute is over: the output rests at zero scale (R320). -/
def Block.muteOver (s : Block) (o : Nat) : Block := s.modOut o (fun x => { x with removal := false, w0 := 0, slope := 0, at' := s.time.now })

theorem Block.removalEndOp_due {s : Block} {o : Nat} (h : ((s.out o).removal && decide (s.outWeight o = 0)) = true) :
    s.removalEndOp o = if (s.out o).rng = 0 then (s.muteOver o).takeHeldRange o else s.muteOver o := by
  have hrng : ((s.muteOver o).out o).rng = (s.out o).rng := by rw [Block.muteOver, Block.out_modOut_self]
  rw [← hrng]
  exact if_pos h

theorem removalMuteEnd_gives (s : State) (o : Nat) (ho : o < 18) : gives (.removalMuteEnd o) s fun u =>
    if (s.out o).removal && s.outWeight o = 0 then
      (u.out o).removal = false ∧ u.outWeight o = 0 ∧ (u.out o).slope = 0 ∧ (∀ k, k ≠ o → u.out k = s.out k) ∧
      ((s.out o).rngHeld = none → s.only u [] [.ports]) ∧
      (∀ h, (s.out o).rng = 0 → (s.out o).rngHeld = some h → (h == s.on (rangeNow o)) = false → (u.out o).rng = (if (s.out o).released then 1 else 3)) ∧
      s.only u (if o < 16 then [Reg.UAP_STAT_RNGPEND o, Reg.UAP_STAT_RNGBUSY o] else []) [.ports]
    else u = s.toBlock := by
  refine gives_of_act (ok := decide (o < 18)) (g := fun b => b.removalEndOp o) rfl (by simpa using ho) ?_
  split
  · next hdue =>
    have hself : (s.muteOver o).out o = { s.out o with removal := false, w0 := 0, slope := 0, at' := s.time.now } := Block.out_modOut_self _ _ _
    have hother (k : Nat) (hk : k ≠ o) : (s.muteOver o).out k = s.out k := Block.out_modOut_other _ _ hk
    have honly (l : List Fld) : s.toBlock.only (s.muteOver o) l [.ports] := Block.only_modOut (s.only_refl _ _) _ _ (by simp)
    have hmarks : rangeMarks o ⊆ if o < 16 then [Reg.UAP_STAT_RNGPEND o, Reg.UAP_STAT_RNGBUSY o] else [] := by
      unfold rangeMarks
      split <;> simp
    rw [Block.removalEndOp_due hdue]
    split
    · next hrng =>
      obtain ⟨hmoves, hothers, rng, at', held, hout⟩ := (s.muteOver o).takeHeldRange_moves o
      rw [hself] at hout
      refine ⟨by rw [hout], Block.outWeight_rest (by rw [hout]) (by rw [hout]), by rw [hout], fun k hk => (hothers k hk).trans (hother k hk), ?_, ?_,
        Block.only_then (honly _) hmoves hmarks (List.Subset.refl _)⟩
      · intro hnone
        rw [Block.takeHeldRange_none (by rw [hself]; exact hnone)]
        exact honly _
      · intro h _ hsome hnew
        have hheld : ((s.muteOver o).out o).rngHeld = some h := by rw [hself]; exact hsome
        rw [Block.takeHeldRange_other hheld (by rw [Block.muteOver, Block.modOut_on]; exact hnew), hself]
    · next hrng =>
      exact ⟨by rw [hself], Block.outWeight_rest (by rw [hself]) (by rw [hself]), by rw [hself], hother, fun _ => honly _,
        fun _ hidle => absurd hidle hrng, honly _⟩
  · next hdue => exact if_neg hdue

/-! ## CM_RISE_END and CM_FALL_END -/

theorem cmRiseEnd_gives (s : State) (n : Nat) (hn : n < 16) : gives (.cmRiseEnd n) s fun u =>
    if s.f (Reg.UAP_STAT_CM n) = 1 && s.reached ((s.out n).cmAt + 16 * 2457600) then
      u.f (Reg.UAP_STAT_CM n) = 2 ∧ u.on (Reg.UAP_EVT_CMUP n) = true ∧ s.only u [Reg.UAP_STAT_CM n, Reg.UAP_EVT_CMUP n] []
    else u = s.toBlock := by
  refine gives_of_act (ok := decide (n < 16)) (g := fun b => b.cmRiseEndOp n) rfl (by simpa using hn) ?_
  split
  · next hdue =>
    have hop : s.cmRiseEndOp n = (s.put (Reg.UAP_STAT_CM n) 2).raise (Reg.UAP_EVT_CMUP n) := if_pos hdue
    rw [hop]
    refine ⟨?_, ?_, Block.only_raise (Block.only_put (s.only_refl _ _) _ _ (by simp [Fld.of_port]) (by simp)) _ (by simp [Fld.of_port]) (by simp)⟩
    · rw [Block.raise_eq, Block.f_put_apart, Block.f_put_self] <;> simp [Fld.apart, Fld.of_port]
    · rw [Block.on_raise_self] <;> simp [Fld.of_port]
  · next hdue => exact if_neg hdue

theorem Block.zeroOut_facts (s : Block) {n : Nat} (h : n < 16) :
    (s.zeroOut n).out n = { s.out n with released := false, w0 := 0, slope := 0, at' := s.time.now, removal := false } ∧
    (∀ k, k ≠ n → (s.zeroOut n).out k = s.out k) ∧ s.only (s.zeroOut n) [] [.ports] := by
  have hop : s.zeroOut n = (s.modOut n (fun x => { x with released := false })).modOut n
      (fun x => { x with w0 := 0, slope := 0, at' := s.time.now, removal := false }) := by
    unfold Block.zeroOut Block.setReleased
    dsimp only
    rw [if_pos h]
  rw [hop]
  refine ⟨?_, fun k hk => ?_, Block.only_modOut (Block.only_modOut (s.only_refl _ _) _ _ (by simp)) _ _ (by simp)⟩
  · rw [Block.out_modOut_self, Block.out_modOut_self]
  · rw [Block.out_modOut_other _ _ hk, Block.out_modOut_other _ _ hk]

theorem cmFallEnd_gives (s : State) (n : Nat) (hn : n < 16) : gives (.cmFallEnd n) s fun u =>
    if s.f (Reg.UAP_STAT_CM n) = 3 && s.reached ((s.out n).cmAt + 16 * 2457600) then
      u.f (Reg.UAP_STAT_CM n) = 0 ∧ u.on (Reg.UAP_EVT_CMDN n) = true ∧ (u.out n).released = false ∧ u.outWeight n = 0 ∧
      (∀ k, k ≠ n → u.out k = s.out k) ∧ s.only u [Reg.UAP_STAT_CM n, Reg.UAP_EVT_CMDN n] [.ports]
    else u = s.toBlock := by
  refine gives_of_act (ok := decide (n < 16)) (g := fun b => b.cmFallEndOp n) rfl (by simpa using hn) ?_
  split
  · next hdue =>
    have hop : s.cmFallEndOp n = ((s.put (Reg.UAP_STAT_CM n) 0).raise (Reg.UAP_EVT_CMDN n)).zeroOut n := if_pos hdue
    obtain ⟨hout, hother, honly⟩ := ((s.put (Reg.UAP_STAT_CM n) 0).raise (Reg.UAP_EVT_CMDN n)).zeroOut_facts hn
    have hevent := Block.only_raise (Block.only_put (s.only_refl [Reg.UAP_STAT_CM n, Reg.UAP_EVT_CMDN n] [.ports]) (Reg.UAP_STAT_CM n) 0 (by simp [Fld.of_port])
      (by simp)) (Reg.UAP_EVT_CMDN n) (by simp [Fld.of_port]) (by simp)
    rw [hop]
    refine ⟨?_, ?_, by rw [hout], Block.outWeight_rest (by rw [hout]) (by rw [hout]), fun k hk => ?_,
      Block.only_then hevent honly (List.nil_subset _) (List.Subset.refl _)⟩
    · rw [Block.only_f honly (by simp), Block.raise_eq, Block.f_put_apart, Block.f_put_self] <;> simp [Fld.apart, Fld.of_port]
    · rw [Block.only_on honly (by simp), Block.on_raise_self] <;> simp [Fld.of_port]
    · rw [hother k hk, Block.out_raise, Block.out_put]
  · next hdue => exact if_neg hdue

/-- Settles O32, command by command: the release, the end of a removal mute with the range held meanwhile, the ends of the common mode's ramps. -/
theorem outputRamps : Obligations.OutputRamps := ⟨outputRelease_gives, removalMuteEnd_gives, cmRiseEnd_gives, cmFallEnd_gives⟩

end Sys2Proof.Machine
end

section
/-! SUPPORT. Range changes of an output: the write, the switch at zero scale, the end (R95 to R97); and O33. -/

namespace Sys2Proof.Machine

/-! ## RANGE_WRITE -/

section Write

variable (s : Block) (o : Nat) (high : Bool)

/-- RANGE as written (R95). -/
def Block.rangeAsked (s : Block) (o : Nat) (high : Bool) : Block := s.putB (rangeReq o) high

/-- A range that is held until the change or the mute that runs is over (R97). -/
def Block.rangeKept (s : Block) (o : Nat) (high : Bool) : Block :=
  if o < 16 then ((s.rangeAsked o high).modOut o (fun x => { x with rngHeld := some high })).raise (Reg.UAP_STAT_RNGPEND o)
  else (s.rangeAsked o high).modOut o (fun x => { x with rngHeld := some high })

variable {o}

theorem Block.only_rangeAsked (h : o < 18) : s.only (s.rangeAsked o high) [rangeReq o] [] :=
  Block.only_putB (s.only_refl _ _) _ _ (rangeReq_fits h) (by simp)

theorem Block.rangeAsked_request (h : o < 18) : (s.rangeAsked o high).on (rangeReq o) = high := by
  obtain ⟨hw, -⟩ := rangeFlds_bit h
  exact Block.on_putB_self _ high (rangeReq_fits h) (by rw [hw]; decide)

theorem Block.rangeAsked_out (k : Nat) : (s.rangeAsked o high).out k = s.out k := Block.out_putB _ _ _ _

theorem Block.only_rangeKept : (s.rangeAsked o high).only (s.rangeKept o high) (rangeMarks o) [.ports] := by
  have hheld := Block.only_modOut ((s.rangeAsked o high).only_refl (rangeMarks o) [.ports]) o (fun x => { x with rngHeld := some high }) (by simp)
  unfold Block.rangeKept
  split
  · next ho => exact Block.only_raise hheld _ (by simp [Fld.of_port]) (by simp [rangeMarks, ho])
  · exact hheld

theorem Block.rangeKept_out (k : Nat) :
    (s.rangeKept o high).out k = ((s.rangeAsked o high).modOut o (fun x => { x with rngHeld := some high })).out k := by
  unfold Block.rangeKept
  split
  · rw [Block.out_raise]
  · rfl

theorem Block.rangeKept_mark (ho : o < 16) : (s.rangeKept o high).on (Reg.UAP_STAT_RNGPEND o) = true := by
  rw [Block.rangeKept, if_pos ho, Block.on_raise_self] <;> simp [Fld.of_port]

variable {s high}

/-- What a write of RANGE to an output meets decides what becomes of it. -/
theorem Block.rangeWriteOp_eq (ho : o < 18) (hout : s.isOut o = true) : s.rangeWriteOp o high =
    if (s.out o).rng != 0 || (s.out o).removal then s.rangeKept o high
    else if high == s.on (rangeNow o) then s.rangeAsked o high
    else (s.rangeAsked o high).startRange o := by
  obtain ⟨hapart, -⟩ := rangeFlds_apart o
  have hnow : (s.rangeAsked o high).on (rangeNow o) = s.on (rangeNow o) := Block.only_on (s.only_rangeAsked high ho) (by simpa using hapart)
  unfold Block.rangeWriteOp
  rw [hout, Bool.not_true, if_neg Bool.false_ne_true]
  dsimp only
  rw [← Block.rangeAsked, Block.rangeAsked_out, hnow]
  rfl

end Write

theorem rangeWrite_gives (s : State) (o : Nat) (high : Bool) (ho : o < 18) (hc : s.coreOn = true) : gives (.rangeWrite o high) s fun u =>
    if s.isOut o then
      u.on (rangeReq o) = high ∧ (∀ k, k ≠ o → u.out k = s.out k) ∧
      ((s.out o).rng ≠ 0 ∨ (s.out o).removal = true →
        u.out o = { s.out o with rngHeld := some high } ∧ (o < 16 → u.on (Reg.UAP_STAT_RNGPEND o) = true)) ∧
      ((s.out o).rng = 0 → (s.out o).removal = false → (high == s.on (rangeNow o)) = true → s.only u [rangeReq o] []) ∧
      ((s.out o).rng = 0 → (s.out o).removal = false → (high == s.on (rangeNow o)) = false →
        u.out o = { s.out o with rng := if (s.out o).released then 1 else 3, rngAt := s.time.now } ∧ (o < 16 → u.on (Reg.UAP_STAT_RNGBUSY o) = true)) ∧
      s.only u (rangeReq o :: if o < 16 then [Reg.UAP_STAT_RNGBUSY o, Reg.UAP_STAT_RNGPEND o] else []) [.ports]
    else u = s.toBlock := by
  refine gives_of_hostWrite (ok := decide (o < 18)) (g := fun b => b.rangeWriteOp o high) rfl hc (by simpa using ho) ?_
  split
  · next hout =>
    obtain ⟨-, -, hmarks⟩ := rangeFlds_apart o
    have hasked : s.toBlock.only (s.rangeAsked o high) (rangeReq o :: rangeMarks o) [.ports] :=
      Block.only_mono (s.only_rangeAsked high ho) (by simp) (List.nil_subset _)
    have hkeeps {t : Block} (h : (s.rangeAsked o high).only t (rangeMarks o) [.ports]) : t.on (rangeReq o) = high :=
      (Block.only_on h (fun x hx => (hmarks x hx).2.1)).trans (s.rangeAsked_request high ho)
    have hother (k : Nat) : (s.rangeAsked o high).out k = s.out k := s.rangeAsked_out high k
    rw [Block.rangeWriteOp_eq ho hout]
    split
    · next hbusy =>
      have hbusy : (s.out o).rng ≠ 0 ∨ (s.out o).removal = true := by simpa using hbusy
      have hidle {p : Prop} (hrng : (s.out o).rng = 0) (hmute : (s.out o).removal = false) : p := by simp [hrng, hmute] at hbusy
      refine ⟨hkeeps (s.only_rangeKept high), fun k hk => ?_, fun _ => ⟨?_, s.rangeKept_mark high⟩, fun hrng hmute => hidle hrng hmute,
        fun hrng hmute => hidle hrng hmute, Block.only_then hasked (s.only_rangeKept high) (List.subset_cons_self _ _) (List.Subset.refl _)⟩ <;> rw [Block.rangeKept_out]
      · rw [Block.out_modOut_other _ _ hk, hother]
      · rw [Block.out_modOut_self, hother]
    · next hfree =>
      have hbusy {p : Prop} (h : (s.out o).rng ≠ 0 ∨ (s.out o).removal = true) : p := absurd (by simpa using h) hfree
      split
      · next hsame =>
        exact ⟨s.rangeAsked_request high ho, fun k _ => hother k, fun h => hbusy h, fun _ _ _ => s.only_rangeAsked high ho,
          fun _ _ hnew => absurd hsame (by simp [hnew]), hasked⟩
      · next hnew =>
        obtain ⟨hstarted, hothers, hmark, honly⟩ := (s.rangeAsked o high).startRange_facts o
        have htime : (s.rangeAsked o high).time = s.time := Block.putB_time _ _ _
        rw [hother, htime] at hstarted
        exact ⟨hkeeps honly, fun k hk => (hothers k hk).trans (hother k), fun h => hbusy h, fun _ _ hsame => absurd hsame hnew,
          fun _ _ _ => ⟨hstarted, hmark⟩, Block.only_then hasked honly (List.subset_cons_self _ _) (List.Subset.refl _)⟩
  · next hnone => exact if_pos (by simpa using hnone)

/-! ## RANGE_SWITCH -/

/-- The buffer takes the other range (R95, R96). -/
def Block.switched (s : Block) (o stage at' : Nat) : Block :=
  (s.putB (rangeNow o) (!s.on (rangeNow o))).modOut o (fun y => { y with rng := stage, rngAt := at' })

theorem Block.switched_facts (s : Block) {o : Nat} (h : o < 18) (stage at' : Nat) :
    (s.switched o stage at').on (rangeNow o) = !s.on (rangeNow o) ∧ (s.switched o stage at').out o = { s.out o with rng := stage, rngAt := at' } ∧
    (∀ k, k ≠ o → (s.switched o stage at').out k = s.out k) ∧ s.only (s.switched o stage at') [rangeNow o] [.ports] := by
  obtain ⟨-, hw, -⟩ := rangeFlds_bit h
  have hnow := Block.only_putB (s.only_refl [rangeNow o] [.ports]) _ (!s.on (rangeNow o)) (rangeNow_fits h) (by simp)
  unfold Block.switched
  refine ⟨?_, ?_, fun k hk => ?_, Block.only_modOut hnow _ _ (by simp)⟩
  · rw [Block.modOut_on, Block.on_putB_self _ _ (rangeNow_fits h) (by rw [hw]; decide)]
  · rw [Block.out_modOut_self, Block.out_putB]
  · rw [Block.out_modOut_other _ _ hk, Block.out_putB]

theorem Block.modOut_congr (s t : Block) (o : Nat) {f g : OutSt → OutSt} (ht : t.out o = s.out o) (h : f (s.out o) = g (s.out o)) :
    t.modOut o f = t.modOut o g := by
  rw [Block.modOut, Block.modOut, Tab.upd, Tab.upd]
  rw [show f (Tab.get _ t.ports.outs o) = g (Tab.get _ t.ports.outs o) from ht ▸ h]

/-- With ramps the buffer switches at the end of the ramp down, without them after a tick. -/
theorem Block.rangeSwitchOp_eq (s : Block) (o : Nat) : s.rangeSwitchOp o =
    if (s.out o).rng = 1 && s.reached ((s.out o).rngAt + 16 * 12288) then s.switched o 2 (s.out o).rngAt
    else if (s.out o).rng = 3 && s.reached ((s.out o).rngAt + 16) then s.switched o 4 ((s.out o).rngAt + 16)
    else s := by
  have hkept : (s.putB (rangeNow o) (!s.on (rangeNow o))).modOut o (fun y => { y with rng := 2 }) = s.switched o 2 (s.out o).rngAt :=
    Block.modOut_congr s _ o (Block.out_putB _ _ _ _) rfl
  rw [← hkept]
  rfl

theorem rangeSwitch_gives (s : State) (o : Nat) (ho : o < 18) : gives (.rangeSwitch o) s fun u =>
    if ((s.out o).rng = 1 && s.reached ((s.out o).rngAt + 16 * 12288)) || ((s.out o).rng = 3 && s.reached ((s.out o).rngAt + 16)) then
      u.on (rangeNow o) = !s.on (rangeNow o) ∧ (u.out o).rng = (if (s.out o).rng = 1 then 2 else 4) ∧
      (u.out o).rngAt = (if (s.out o).rng = 1 then (s.out o).rngAt else (s.out o).rngAt + 16) ∧
      (∀ k, k ≠ o → u.out k = s.out k) ∧ s.only u [rangeNow o] [.ports]
    else u = s.toBlock := by
  refine gives_of_act (ok := decide (o < 18)) (g := fun b => b.rangeSwitchOp o) rfl (by simpa using ho) ?_
  rw [Block.rangeSwitchOp_eq]
  by_cases hramp : (decide ((s.out o).rng = 1) && s.reached ((s.out o).rngAt + 16 * 12288)) = true
  · have hone : (s.out o).rng = 1 := by simp at hramp; exact hramp.1
    obtain ⟨hnow, hout, hother, honly⟩ := s.switched_facts ho 2 (s.out o).rngAt
    rw [if_pos hramp, if_pos (by rw [hramp]; rfl), if_pos hone, if_pos hone, hout]
    exact ⟨hnow, rfl, rfl, hother, honly⟩
  · by_cases htick : (decide ((s.out o).rng = 3) && s.reached ((s.out o).rngAt + 16)) = true
    · have hone : (s.out o).rng ≠ 1 := by simp at htick; omega
      obtain ⟨hnow, hout, hother, honly⟩ := s.switched_facts ho 4 ((s.out o).rngAt + 16)
      rw [if_neg hramp, if_pos htick, if_pos (by rw [htick, Bool.or_true]), if_neg hone, if_neg hone, hout]
      exact ⟨hnow, rfl, rfl, hother, honly⟩
    · rw [if_neg hramp, if_neg htick, if_neg (by rw [Bool.or_eq_true]; exact not_or.mpr ⟨hramp, htick⟩)]

/-! ## RANGE_CHANGE_END -/

section End

variable (s : Block) {o : Nat}

/-- A change of range is over (R95, R96). -/
def Block.rangeOver (s : Block) (o : Nat) : Block := ((s.raise (rangeDone o)).rangeBusy o false).modOut o (fun y => { y with rng := 0 })

theorem Block.rangeEndOp_due (h : (decide ((s.out o).rng = 2) && s.reached ((s.out o).rngAt + 16 * 24640) ||
    decide ((s.out o).rng = 4) && s.reached ((s.out o).rngAt + 16 * 64)) = true) :
    s.rangeEndOp o = if (s.out o).removal then s.rangeOver o else (s.rangeOver o).takeHeldRange o := by
  have hmute : ((s.rangeOver o).out o).removal = (s.out o).removal := by
    rw [Block.rangeOver, Block.out_modOut_self, Block.rangeBusy_out, Block.out_raise]
  rw [← hmute]
  exact if_pos h

theorem Block.only_rangeOver (h : o < 18) : s.only (s.rangeOver o) (rangeDone o :: rangeMarks o) [.ports] := by
  have hdone := Block.only_raise (s.only_refl (rangeDone o :: rangeMarks o) [.ports]) _ (rangeDone_fits h) (by simp)
  exact Block.only_modOut (Block.only_then hdone (Block.only_rangeBusy _ o false) (by simp) (List.nil_subset _)) _ _ (by simp)

theorem Block.rangeOver_facts (h : o < 18) : (s.rangeOver o).on (rangeDone o) = true ∧ (s.rangeOver o).on (rangeNow o) = s.on (rangeNow o) ∧
    (s.rangeOver o).out o = { s.out o with rng := 0 } ∧ (∀ k, k ≠ o → (s.rangeOver o).out k = s.out k) ∧
    (o < 16 → (s.rangeOver o).f (Reg.UAP_STAT_RNGBUSY o) = 0) := by
  obtain ⟨-, -, hw, -⟩ := rangeFlds_bit h
  obtain ⟨-, hdone, hmarks⟩ := rangeFlds_apart o
  refine ⟨?_, Block.only_on (s.only_rangeOver h) (List.forall_mem_cons.mpr ⟨hdone, fun x hx => (hmarks x hx).1⟩), ?_, fun k hk => ?_, fun ho => ?_⟩
  · rw [Block.rangeOver, Block.modOut_on, Block.only_on (Block.only_rangeBusy _ o false) (fun x hx => (hmarks x hx).2.2.1)]
    exact Block.on_raise_self _ _ (rangeDone_fits h) (by rw [hw]; decide)
  · rw [Block.rangeOver, Block.out_modOut_self, Block.rangeBusy_out, Block.out_raise]
  · rw [Block.rangeOver, Block.out_modOut_other _ _ hk, Block.rangeBusy_out, Block.out_raise]
  · have hbusy := Block.rangeBusy_mark (s.raise (rangeDone o)) o false ho
    rw [Block.rangeOver, Block.modOut_f]
    simpa [Block.on] using hbusy

end End

theorem rangeChangeEnd_gives (s : State) (o : Nat) (ho : o < 18) : gives (.rangeChangeEnd o) s fun u =>
    if ((s.out o).rng = 2 && s.reached ((s.out o).rngAt + 16 * 24640)) || ((s.out o).rng = 4 && s.reached ((s.out o).rngAt + 16 * 64)) then
      u.on (rangeDone o) = true ∧ (∀ k, k ≠ o → u.out k = s.out k) ∧
      ((s.out o).rngHeld = none ∨ (s.out o).removal = true → u.out o = { s.out o with rng := 0 } ∧ (o < 16 → u.f (Reg.UAP_STAT_RNGBUSY o) = 0)) ∧
      (∀ h, (s.out o).rngHeld = some h → (s.out o).removal = false → (h == s.on (rangeNow o)) = true →
        u.out o = { s.out o with rng := 0, rngHeld := none }) ∧
      (∀ h, (s.out o).rngHeld = some h → (s.out o).removal = false → (h == s.on (rangeNow o)) = false →
        u.out o = { s.out o with rng := if (s.out o).released then 1 else 3, rngAt := s.time.now, rngHeld := none }) ∧
      s.only u (rangeDone o :: if o < 16 then [Reg.UAP_STAT_RNGBUSY o, Reg.UAP_STAT_RNGPEND o] else []) [.ports]
    else u = s.toBlock := by
  refine gives_of_act (ok := decide (o < 18)) (g := fun b => b.rangeEndOp o) rfl (by simpa using ho) ?_
  split
  · next hdue =>
    obtain ⟨-, -, hmarks⟩ := rangeFlds_apart o
    obtain ⟨hdone, hnow, hout, hother, hbusy⟩ := s.rangeOver_facts ho
    have hover := s.only_rangeOver ho
    have htime : (s.rangeOver o).time = s.time := hover.2 .time (by simp)
    rw [Block.rangeEndOp_due _ hdue]
    split
    · next hmute =>
      have hnot {p : Prop} (h : (s.out o).removal = false) : p := absurd hmute (by simp [h])
      exact ⟨hdone, hother, fun _ => ⟨hout, hbusy⟩, fun _ _ h => hnot h, fun _ _ h => hnot h, hover⟩
    · next hmute =>
      obtain ⟨hmoves, hothers, -⟩ := (s.rangeOver o).takeHeldRange_moves o
      refine ⟨(Block.only_on hmoves (fun x hx => (hmarks x hx).2.2.1)).trans hdone, fun k hk => (hothers k hk).trans (hother k hk), fun hnone => ?_,
        fun h hheld _ hsame => ?_, fun h hheld _ hnew => ?_, Block.only_then hover hmoves (List.subset_cons_self _ _) (List.Subset.refl _)⟩
      · rw [Block.takeHeldRange_none (by rw [hout]; exact hnone.resolve_right hmute)]
        exact ⟨hout, hbusy⟩
      · have hheld' : ((s.rangeOver o).out o).rngHeld = some h := by rw [hout]; exact hheld
        rw [Block.takeHeldRange_same hheld' (by rw [hnow]; exact hsame), hout]
      · have hheld' : ((s.rangeOver o).out o).rngHeld = some h := by rw [hout]; exact hheld
        rw [Block.takeHeldRange_other hheld' (by rw [hnow]; exact hnew), hout, htime]
  · next hdue => exact if_neg hdue

/-- Settles O33, command by command: the write, the switch at zero scale, the end of the change. -/
theorem rangeChanges : Obligations.RangeChanges := ⟨rangeWrite_gives, rangeSwitch_gives, rangeChangeEnd_gives⟩

end Sys2Proof.Machine
end

section
/-! SUPPORT. Loops, held inputs, and the course of a bias supply (R88 to R90). -/

namespace Sys2Proof.Machine

/-! ## Loops -/

section Loops

variable {α β : Type}

/-- What holds before a loop and is kept by every step of it holds after it. -/
theorem Block.forAll_induct {P : Block → Prop} {s : Block} (l : List α) (g : α → Block → Block) (hs : P s) (hg : ∀ a ∈ l, ∀ t, P t → P (g a t)) :
    P (s.forAll l g) := by
  induction l generalizing s with
  | nil => exact hs
  | cons a l ih =>
    rw [Block.forAll_cons]
    exact ih (hg a List.mem_cons_self s hs) (fun b hb => hg b (List.mem_cons_of_mem _ hb))

/-- What only one step of a loop changes is after the loop what that step makes of it. -/
theorem Block.forAll_at (π : Block → β) {l : List α} (g : α → Block → Block) {n : α} (hn : n ∈ l) (hl : l.Nodup)
    (hkeep : ∀ a ∈ l, a ≠ n → ∀ t, π (g a t) = π t) (s : Block) : ∃ t, π t = π s ∧ π (s.forAll l g) = π (g n t) := by
  induction l generalizing s with
  | nil => simp at hn
  | cons a l ih =>
    obtain ⟨ha, hl⟩ := List.nodup_cons.mp hl
    rw [Block.forAll_cons]
    by_cases han : a = n
    · subst han
      refine ⟨s, rfl, ?_⟩
      exact Block.forAll_induct (P := fun t => π t = π (g a s)) l g rfl
        (fun b hb t ht => (hkeep b (List.mem_cons_of_mem _ hb) (fun he => ha (he ▸ hb)) t).trans ht)
    · obtain ⟨t, ht, hπ⟩ := ih ((List.mem_cons.mp hn).resolve_left (Ne.symm han)) hl (fun b hb => hkeep b (List.mem_cons_of_mem _ hb)) (g a s)
      exact ⟨t, ht.trans (hkeep a List.mem_cons_self han s), hπ⟩

end Loops

/-! ## Where the fields of the supplies lie -/

/-- Where the fields of a bias supply lie (R107). -/
theorem Fld.of_supply (m : Nat) :
    Reg.MB_CFG_VSET m = ⟨0x21000 + 8 * m, 0, 7⟩ ∧ Reg.MB_CFG_EN m = ⟨0x21000 + 8 * m, 7, 1⟩ ∧
    (∀ k, (Reg.MB_CFG_MAP m).bit k = ⟨0x21000 + 8 * m, 8 + k, 1⟩) ∧ Reg.MB_STAT_ILIM m = ⟨0x21004 + 8 * m, 2, 1⟩ ∧
    Reg.MB_STAT_CUT m = ⟨0x21004 + 8 * m, 3, 1⟩ ∧ Reg.CLOCHE_EVT_ILIM.bit m = ⟨0x21044, 4 + m, 1⟩ :=
  ⟨rfl, rfl, fun _ => rfl, rfl, rfl, rfl⟩

/-- The bias events of the inputs that supplies serve (R89). -/
def biasEvts : List Fld := (List.range 8).map Reg.UAP_EVT_BIASZ

theorem mem_biasEvts {x : Fld} : x ∈ biasEvts ↔ ∃ k < 8, x = ⟨0x2001C + 0x100 * k, 6, 1⟩ := by
  simp [biasEvts, Fld.of_port, eq_comm]

/-- The bias events share no bit with a field of another register than those of the events of the ports. -/
theorem biasEvts_apart {y : Fld} (h : ∀ k < 8, 0x2001C + 0x100 * k ≠ y.addr) : ∀ x ∈ biasEvts, x.apart y := by
  intro x hx
  obtain ⟨k, hk, rfl⟩ := mem_biasEvts.mp hx
  exact .inl (h k hk)

section Ports

variable {s t : Block} {m n : Nat} {l : List Fld} {ps : List Part}

theorem Block.biasPorts_nodup (s : Block) (m : Nat) : (s.biasPorts m).Nodup := List.nodup_range.filter _

theorem Block.lt_of_mem_biasPorts (h : n ∈ s.biasPorts m) : n < 8 := List.mem_range.mp (List.mem_of_mem_filter h)

/-- The ports that a supply serves stay where its map does. -/
theorem Block.biasPorts_of_only (h : s.only t l ps) (hl : ∀ x ∈ l, ∀ k < 8, x.apart ((Reg.MB_CFG_MAP m).bit k)) : t.biasPorts m = s.biasPorts m :=
  List.filter_congr (fun k hk => Block.only_on h (fun x hx => hl x hx k (List.mem_range.mp hk)))

theorem biasEvts_apart_map (m : Nat) : ∀ x ∈ biasEvts, ∀ k < 8, x.apart ((Reg.MB_CFG_MAP m).bit k) :=
  fun x hx k _ => biasEvts_apart (by simp only [Fld.of_supply]; omega) x hx

end Ports

/-! ## Inputs that are held, and inputs that ramp in -/

/-- An input that its bias holds at zero (R89). -/
def InSt.hold (x : InSt) : InSt := { x with held := true, rampAt := if x.waits then x.rampAt else none }

/-- A held input that ramps in from a core cycle, or from the later one that a graft has set (R89, R94). -/
def InSt.ramp (x : InSt) (when' : Nat) : InSt := { x with held := false, rampAt := some (if x.waits then max when' (x.rampAt.getD 0) else when') }

/-- Hold one input (R89). -/
def Block.heldInput (s : Block) (n : Nat) : Block := (s.modIn n InSt.hold).onlyIf (!(s.inp n).held) (fun s => s.raise (Reg.UAP_EVT_BIASZ n))

section Inputs

variable (s : Block) (l : List Nat) (w : Nat)

theorem Block.holdInputs_eq : s.holdInputs l = s.forAll (l.filter s.isInput) (fun n s => s.heldInput n) := rfl

theorem Block.rampIn_eq : s.rampIn l w = s.forAll (l.filter (fun n => (s.inp n).held)) (fun n s => s.modIn n (fun x => x.ramp w)) := rfl

/-- Of the ports, holding an input changes the record of that input alone. -/
theorem Block.heldInput_ports {β : Type} {π : Ports → β} (h : ∀ p ins, π { p with ins := ins } = π p) (n : Nat) : π (s.heldInput n).ports = π s.ports := by
  unfold Block.heldInput Block.onlyIf
  split
  · rw [Block.raise_ports]
    exact h _ _
  · exact h _ _

theorem Block.holdInputs_ports {β : Type} {π : Ports → β} (h : ∀ p ins, π { p with ins := ins } = π p) : π (s.holdInputs l).ports = π s.ports := by
  rw [Block.holdInputs_eq]
  exact Block.forAll_keeps (fun t => π t.ports) _ _ (fun n t => t.heldInput_ports h n) s

theorem Block.rampIn_ports {β : Type} {π : Ports → β} (h : ∀ p ins, π { p with ins := ins } = π p) : π (s.rampIn l w).ports = π s.ports := by
  rw [Block.rampIn_eq]
  exact Block.forAll_keeps (fun t : Block => π t.ports) (l.filter (fun n => (s.inp n).held)) (fun n t => t.modIn n (fun x => x.ramp w)) (fun _ _ => h _ _) s

/-- Holding an input sets its event where it was not held, and leaves the other inputs and events alone. -/
theorem Block.heldInput_record (a j : Nat) : ((s.heldInput a).inp j, (s.heldInput a).on (Reg.UAP_EVT_BIASZ j)) =
    if j = a then ((s.inp a).hold, s.on (Reg.UAP_EVT_BIASZ a) || !(s.inp a).held) else (s.inp j, s.on (Reg.UAP_EVT_BIASZ j)) := by
  unfold Block.heldInput
  split
  · next h =>
    subst h
    cases (s.inp j).held
    · rw [Bool.not_false, Block.onlyIf_true, Block.inp_raise, Block.inp_modIn_self, Bool.or_true, Block.on_raise_self] <;> simp [Fld.of_port]
    · rw [Bool.not_true, Block.onlyIf_false, Block.inp_modIn_self, Block.modIn_on, Bool.or_false]
  · next h =>
    cases (s.inp a).held
    · have hne : (Reg.UAP_EVT_BIASZ a).apart (Reg.UAP_EVT_BIASZ j) := .inl (by simp only [Fld.of_port]; omega)
      rw [Bool.not_false, Block.onlyIf_true, Block.inp_raise, Block.inp_modIn_other _ _ h, Block.raise_eq,
        Block.on_put_apart _ _ hne (by simp [Fld.of_port]), Block.modIn_on]
    · rw [Bool.not_true, Block.onlyIf_false, Block.inp_modIn_other _ _ h, Block.modIn_on]

variable {l}

theorem Block.holdInputs_record (hl : l.Nodup) (j : Nat) :
    ((s.holdInputs l).inp j, (s.holdInputs l).on (Reg.UAP_EVT_BIASZ j)) =
      if j ∈ l.filter s.isInput then ((s.inp j).hold, s.on (Reg.UAP_EVT_BIASZ j) || !(s.inp j).held) else (s.inp j, s.on (Reg.UAP_EVT_BIASZ j)) := by
  rw [Block.holdInputs_eq]
  exact Block.forAll_each (fun t j => (t.inp j, t.on (Reg.UAP_EVT_BIASZ j))) (fun _ r => (r.1.hold, r.2 || !r.1.held)) _
    (fun a t j => t.heldInput_record a j) _ (hl.filter _) s j

theorem Block.rampIn_inp (hl : l.Nodup) (j : Nat) :
    (s.rampIn l w).inp j = if j ∈ l.filter (fun n => (s.inp n).held) then (s.inp j).ramp w else s.inp j := by
  rw [Block.rampIn_eq]
  refine Block.forAll_each (fun t j => t.inp j) (fun _ x => x.ramp w) _ (fun a t j => ?_) _ (hl.filter _) s j
  split
  · next h => exact h ▸ Block.inp_modIn_self _ _ _
  · next h => exact Block.inp_modIn_other _ _ h

theorem Block.only_heldInput {s t : Block} {fs : List Fld} {ps : List Part} (h : s.only t fs ps) (hp : Part.ports ∈ ps) {n : Nat}
    (hn : Reg.UAP_EVT_BIASZ n ∈ fs) : s.only (t.heldInput n) fs ps :=
  have hheld := Block.only_modIn h n InSt.hold hp
  Block.only_onlyIf hheld (fun _ => Block.only_raise hheld _ (by simp [Fld.of_port]) hn)

theorem Block.only_rampIn : s.only (s.rampIn l w) [] [.ports] :=
  Block.only_forAll _ _ (fun _ _ _ ht => Block.only_modIn ht _ _ (by simp)) (s.only_refl _ _)

end Inputs

/-! ## The inputs of a supply -/

section Supply

variable (s : Block) (m : Nat)

theorem Block.only_holdBias : s.only (s.holdBias m) biasEvts [.ports] := by
  refine Block.only_forAll _ _ (fun n hn t ht => Block.only_heldInput ht (by simp) ?_) (s.only_refl _ _)
  exact List.mem_map_of_mem (List.mem_range.mpr (Block.lt_of_mem_biasPorts (List.mem_of_mem_filter hn)))

theorem Block.holdBias_biasSt (k : Nat) : (s.holdBias m).biasSt k = s.biasSt k :=
  congrArg (fun b => Tab.get _ b k) (s.holdInputs_ports _ (π := (·.bias)) (fun _ _ => rfl))

/-- Every input that the supply serves is held, with its event where it was not. -/
theorem Block.holdBias_holds {s : Block} {m n : Nat} (hn : n ∈ s.biasPorts m) (hin : s.isInput n = true) :
    ((s.holdBias m).inp n).held = true ∧ ((s.inp n).held = false → (s.holdBias m).on (Reg.UAP_EVT_BIASZ n) = true) := by
  have h := s.holdInputs_record (s.biasPorts_nodup m) n
  rw [if_pos (List.mem_filter.mpr ⟨hn, hin⟩), Prod.mk.injEq] at h
  obtain ⟨hinp, hevent⟩ := h
  refine ⟨by rw [Block.holdBias, hinp]; rfl, fun hfree => ?_⟩
  rw [Block.holdBias, hevent, hfree, Bool.not_false, Bool.or_true]

theorem Block.holdBias_other {n : Nat} (hn : n ∉ s.biasPorts m) : (s.holdBias m).inp n = s.inp n := by
  have h := s.holdInputs_record (s.biasPorts_nodup m) n
  rw [if_neg (fun hm => hn (List.mem_of_mem_filter hm)), Prod.mk.injEq] at h
  exact h.1

theorem Block.rampIn_ramps {s : Block} {m n : Nat} (w : Nat) (hn : n ∈ s.biasPorts m) (hheld : (s.inp n).held = true) :
    (s.rampIn (s.biasPorts m) w).inp n = (s.inp n).ramp w := by
  rw [s.rampIn_inp w (s.biasPorts_nodup m), if_pos (List.mem_filter.mpr ⟨hn, hheld⟩)]

theorem Block.rampIn_other {n : Nat} (w : Nat) (hn : n ∉ s.biasPorts m) : (s.rampIn (s.biasPorts m) w).inp n = s.inp n := by
  rw [s.rampIn_inp w (s.biasPorts_nodup m), if_neg (fun hm => hn (List.mem_of_mem_filter hm))]

theorem Block.rampIn_biasSt (l : List Nat) (w k : Nat) : (s.rampIn l w).biasSt k = s.biasSt k :=
  congrArg (fun b => Tab.get _ b k) (s.rampIn_ports l w (π := (·.bias)) (fun _ _ => rfl))

/-! ## The course of a supply -/

/-- The cycle at which a supply is within 2 % of its setting follows from where its course began and from the setting. -/
theorem Block.biasOkAt_congr {s t : Block} (hv : (t.biasSt m).v0 = (s.biasSt m).v0) (ha : (t.biasSt m).at' = (s.biasSt m).at')
    (hf : t.f (Reg.MB_CFG_VSET m) = s.f (Reg.MB_CFG_VSET m)) : t.biasOkAt m = s.biasOkAt m := by
  simp only [Block.biasOkAt, hv, ha, hf]

theorem Block.slewBias_biasSt (v : Rat) : (s.slewBias m v).biasSt m =
    { driven := true, v0 := v, at' := s.time.now, okAt := (s.slewBias m v).biasOkAt m } := by
  have hstart : (s.modBias m (fun _ => { driven := true, v0 := v, at' := s.time.now })).biasSt m = { driven := true, v0 := v, at' := s.time.now } :=
    Block.biasSt_modBias_self _ _ _
  have hok : (s.slewBias m v).biasOkAt m = (s.modBias m (fun _ => { driven := true, v0 := v, at' := s.time.now })).biasOkAt m := by
    apply Block.biasOkAt_congr <;> rw [Block.slewBias]
    · rw [Block.biasSt_modBias_self]
    · rw [Block.biasSt_modBias_self]
    · exact Block.modBias_f _ _ _ _
  rw [hok, Block.slewBias, Block.biasSt_modBias_self, hstart]

theorem Block.only_slewBias (v : Rat) : s.only (s.slewBias m v) [] [.ports] :=
  Block.only_modBias (Block.only_modBias (s.only_refl _ _) _ _ (by simp)) _ _ (by simp)

/-- Driving a supply from 0 V changes nothing that the map of the supply does not name, and its bias events. -/
theorem Block.only_driveBias : s.only (s.driveBias m) biasEvts [.ports] :=
  Block.only_then (Block.only_mono (s.only_slewBias m 0) (List.nil_subset _) (List.Subset.refl _)) (Block.only_holdBias _ m) (List.Subset.refl _)
    (List.Subset.refl _)

theorem Block.driveBias_biasSt : ((s.driveBias m).biasSt m).driven = true ∧ ((s.driveBias m).biasSt m).v0 = 0 ∧
    ((s.driveBias m).biasSt m).at' = s.time.now ∧ ((s.driveBias m).biasSt m).okAt = (s.driveBias m).biasOkAt m := by
  have hst : (s.driveBias m).biasSt m = (s.slewBias m 0).biasSt m := Block.holdBias_biasSt _ m m
  have hset : (s.driveBias m).f (Reg.MB_CFG_VSET m) = (s.slewBias m 0).f (Reg.MB_CFG_VSET m) :=
    Block.only_f (Block.only_holdBias _ m) (biasEvts_apart (by simp only [Fld.of_supply]; omega))
  have hok : (s.driveBias m).biasOkAt m = (s.slewBias m 0).biasOkAt m := Block.biasOkAt_congr m (by rw [hst]) (by rw [hst]) hset
  rw [hok, hst, Block.slewBias_biasSt]
  exact ⟨rfl, rfl, rfl, rfl⟩

theorem Block.slewBias_map (v : Rat) (k : Nat) : (s.slewBias m v).biasPorts k = s.biasPorts k := Block.biasPorts_of_only (s.only_slewBias m v) (by simp)

theorem Block.driveBias_holds {s : Block} {m n : Nat} (hn : n ∈ s.biasPorts m) (hin : s.isInput n = true) : ((s.driveBias m).inp n).held = true := by
  have hin' : (s.slewBias m 0).isInput n = true := by
    rw [Block.isInput, Block.only_f (s.only_slewBias m 0) (by simp)]
    exact hin
  exact (Block.holdBias_holds (s := s.slewBias m 0) (by rwa [Block.slewBias_map]) hin').1

end Supply

end Sys2Proof.Machine
end

section
/-! SUPPORT. The commands of a bias supply: its enable, the settled bias, the current limit, the loss of OK (R88 to R90). -/

namespace Sys2Proof.Machine

/-! ## MBIAS_ENABLE -/

/-- The registers that the commands of a supply move besides the event of a limit (R107). -/
def supplyFlds (m : Nat) : List Fld := [Reg.MB_CFG_VSET m, Reg.MB_CFG_EN m, Reg.MB_STAT_ILIM m] ++ biasEvts

theorem supplyFlds_apart_map (m : Nat) : ∀ x ∈ supplyFlds m, ∀ k < 8, x.apart ((Reg.MB_CFG_MAP m).bit k) := by
  intro x hx k hk
  rcases List.mem_append.mp hx with hx | hx
  · simp only [Fld.of_supply, List.mem_cons, List.not_mem_nil, or_false] at hx
    simp only [Fld.apart, Fld.of_supply]
    rcases hx with rfl | rfl | rfl <;> dsimp only <;> omega
  · exact biasEvts_apart_map m x hx k hk

section Enable

variable (s : Block) (m : Nat) (en : Bool) (vset : Nat)

/-- The setting and the enable as MBIAS_ENABLE stores them (R107). -/
def Block.biasSet : Block := (s.put (Reg.MB_CFG_VSET m) (clampVset vset)).putB (Reg.MB_CFG_EN m) en

theorem Block.only_biasSet : s.only (s.biasSet m en vset) [Reg.MB_CFG_VSET m, Reg.MB_CFG_EN m] [] :=
  Block.only_putB (Block.only_put (s.only_refl _ _) _ _ (by simp [Fld.of_supply]) (by simp)) _ _ (by simp [Fld.of_supply]) (by simp)

theorem Block.biasSet_ports : (s.biasSet m en vset).ports = s.ports := rfl

theorem Block.biasSet_stores : (s.biasSet m en vset).f (Reg.MB_CFG_VSET m) = clampVset vset ∧ (s.biasSet m en vset).on (Reg.MB_CFG_EN m) = en := by
  refine ⟨?_, Block.on_putB_self _ _ (by simp [Fld.of_supply]) (by simp [Fld.of_supply])⟩
  rw [Block.biasSet, Block.putB_eq, Block.f_put_apart _ _ (by simp [Fld.apart, Fld.of_supply]) (by simp [Fld.of_supply]),
    Block.f_put_self _ _ _ (by simp [Fld.of_supply])]
  simp only [Fld.of_supply, clampVset]
  omega

theorem Block.biasSet_biasPorts : (s.biasSet m en vset).biasPorts m = s.biasPorts m :=
  Block.biasPorts_of_only (s.only_biasSet m en vset) (fun x hx => supplyFlds_apart_map m x
    (List.mem_append_left _ (List.mem_append_left [_] hx)))

/-- A register outside those of the supplies keeps its fields. -/
theorem Block.biasSet_f {y : Fld} (hy : y.addr ≠ 0x21000 + 8 * m) : (s.biasSet m en vset).f y = s.f y :=
  Block.only_f (s.only_biasSet m en vset) (by simp [Fld.apart, Fld.of_supply, hy.symm])

theorem Block.biasSet_biasRuns : (s.biasSet m en vset).biasRuns m = s.biasRuns m := by
  have hbase : (s.biasSet m en vset).base = s.base := Block.biasSet_f _ _ _ _ (by simp [Reg.PWR_MODE_BASE, Reg.PWR_MODE]; omega)
  have hport : (s.biasSet m en vset).f Reg.PWR_LSN_CFG_PORT = s.f Reg.PWR_LSN_CFG_PORT :=
    Block.biasSet_f _ _ _ _ (by simp [Reg.PWR_LSN_CFG_PORT, Reg.PWR_LSN_CFG]; omega)
  have hlt : s.f Reg.PWR_LSN_CFG_PORT < 16 := s.f_lt _
  have hmode : (s.biasSet m en vset).f (Reg.UAP_CFG_MODE (s.f Reg.PWR_LSN_CFG_PORT)) = s.f (Reg.UAP_CFG_MODE (s.f Reg.PWR_LSN_CFG_PORT)) :=
    Block.biasSet_f _ _ _ _ (by simp only [Fld.of_port]; omega)
  simp only [Block.biasRuns, Block.audioOn, hbase, hport, hmode, Block.biasSet_biasPorts]

/-- A supply that EN = 0 turns off: ILIM clears, and it is no longer driven where the cloche does not cut it (R90). -/
def Block.biasDown : Block :=
  ((s.biasSet m false vset).put (Reg.MB_STAT_ILIM m) 0).onlyIf (!s.on (Reg.MB_STAT_CUT m)) (fun s => s.dropBias m)

theorem Block.only_biasDown : s.only (s.biasDown m vset) (supplyFlds m) [.ports] :=
  have hset := Block.only_mono (s.only_biasSet m false vset) (l' := supplyFlds m) (ps' := [.ports]) (by simp [supplyFlds]) (by simp)
  have hput := Block.only_put hset (Reg.MB_STAT_ILIM m) 0 (by simp [Fld.of_supply]) (by simp [supplyFlds])
  Block.only_onlyIf hput (fun _ => Block.only_modBias hput m _ (by simp))

theorem Block.mbiasEnableOp_off :
    s.mbiasEnableOp m false vset = if s.on (Reg.MB_CFG_EN m) then (s.biasDown m vset).rampIn (s.biasPorts m) s.time.now else s.biasDown m vset := by
  have hcut : ((s.biasSet m false vset).put (Reg.MB_STAT_ILIM m) 0).on (Reg.MB_STAT_CUT m) = s.on (Reg.MB_STAT_CUT m) := by
    rw [Block.on_put_apart, Block.only_on (s.only_biasSet m false vset)] <;> simp [Fld.apart, Fld.of_supply]
  have hports : (s.biasDown m vset).biasPorts m = s.biasPorts m := Block.biasPorts_of_only (s.only_biasDown m vset) (supplyFlds_apart_map m)
  have hnow : (s.biasDown m vset).time = s.time := (s.only_biasDown m vset).2 .time (by simp)
  unfold Block.mbiasEnableOp
  dsimp only
  simp only [Bool.not_false, Block.onlyIf_true, if_true]
  rw [← Block.biasSet, hcut, ← Block.biasDown, hports, hnow]

theorem Block.biasDown_facts : (s.biasDown m vset).f (Reg.MB_CFG_VSET m) = clampVset vset ∧ (s.biasDown m vset).on (Reg.MB_CFG_EN m) = false ∧
    (s.biasDown m vset).f (Reg.MB_STAT_ILIM m) = 0 ∧ (s.on (Reg.MB_STAT_CUT m) = false → (s.biasDown m vset).biasSt m = {}) ∧
    ∀ n, (s.biasDown m vset).inp n = s.inp n := by
  obtain ⟨hvset, hen⟩ := s.biasSet_stores m false vset
  have hdrop : ((s.biasSet m false vset).put (Reg.MB_STAT_ILIM m) 0).only (s.biasDown m vset) [] [.ports] :=
    Block.only_onlyIf (Block.only_refl _ _ _) (fun _ => Block.only_modBias (Block.only_refl _ _ _) m _ (by simp))
  refine ⟨?_, ?_, ?_, fun hcut => ?_, fun n => ?_⟩
  · rw [Block.only_f hdrop (by simp), Block.f_put_apart, hvset] <;> simp [Fld.apart, Fld.of_supply]
  · rw [Block.only_on hdrop (by simp), Block.on_put_apart, hen] <;> simp [Fld.apart, Fld.of_supply]
  · rw [Block.only_f hdrop (by simp), Block.f_put_self _ _ _ (by simp [Fld.of_supply]), Nat.zero_mod]
  · rw [Block.biasDown, hcut, Bool.not_false, Block.onlyIf_true, Block.dropBias, Block.biasSt_modBias_self]
  · have hset : ((s.biasSet m false vset).put (Reg.MB_STAT_ILIM m) 0).inp n = s.inp n := by
      rw [Block.inp_put]
      exact Block.inp_congr (s.biasSet_ports m false vset) n
    have hinp (t : Block) : (t.dropBias m).inp n = t.inp n := rfl
    rw [Block.biasDown]
    cases s.on (Reg.MB_STAT_CUT m)
    · rw [Bool.not_false, Block.onlyIf_true, hinp, hset]
    · rw [Bool.not_true, Block.onlyIf_false, hset]

theorem Block.mbiasEnableOp_raised (h : s.on (Reg.MB_CFG_EN m) = false) : s.mbiasEnableOp m true vset =
    if s.biasRuns m && !s.on (Reg.MB_STAT_CUT m) then (s.biasSet m true vset).driveBias m else (s.biasSet m true vset).holdBias m := by
  have hcut : (s.biasSet m true vset).on (Reg.MB_STAT_CUT m) = s.on (Reg.MB_STAT_CUT m) :=
    Block.only_on (s.only_biasSet m true vset) (by simp [Fld.apart, Fld.of_supply])
  unfold Block.mbiasEnableOp
  dsimp only
  simp only [h, Bool.not_true, Bool.not_false, Block.onlyIf_false, if_true, Bool.false_eq_true, if_false]
  rw [← Block.biasSet, hcut, Block.biasSet_biasRuns]

/-- What MBIAS_ENABLE does to an enabled supply whose setting stays (R107). -/
theorem Block.mbiasEnableOp_same (h : s.on (Reg.MB_CFG_EN m) = true) (hv : clampVset vset = s.f (Reg.MB_CFG_VSET m)) :
    s.mbiasEnableOp m true vset = s.biasSet m true vset := by
  unfold Block.mbiasEnableOp
  dsimp only
  simp only [h, hv, Bool.not_true, Block.onlyIf_false, Bool.false_eq_true, if_false, bne_self_eq_false, Bool.and_false]
  rw [← hv, ← Block.biasSet]

/-- An enabling that follows the store of VSET and EN moves only the bias events and the ports. -/
theorem Block.only_enabled : (s.biasSet m true vset).only (s.mbiasEnableOp m true vset) biasEvts [.ports] := by
  have hslew : (s.biasSet m true vset).only ((s.biasSet m true vset).slewBias m (s.biasVolt m)) biasEvts [.ports] :=
    Block.only_mono (Block.only_slewBias _ m _) (List.nil_subset _) (List.Subset.refl _)
  unfold Block.mbiasEnableOp
  dsimp only
  simp only [Bool.not_true, Block.onlyIf_false, Bool.false_eq_true, if_false]
  rw [← Block.biasSet]
  split
  · split
    · exact Block.only_driveBias _ m
    · exact Block.only_holdBias _ m
  · split
    · split
      · exact Block.only_modBias hslew m _ (by simp)
      · exact Block.only_trans hslew (Block.only_holdBias _ m)
    · exact Block.only_refl _ _ _

theorem Block.only_mbiasEnableOp : s.only (s.mbiasEnableOp m en vset) (supplyFlds m) [.ports] := by
  cases en
  · rw [Block.mbiasEnableOp_off]
    split
    · exact Block.only_then (s.only_biasDown m vset) (Block.only_rampIn _ _) (List.nil_subset _) (List.Subset.refl _)
    · exact s.only_biasDown m vset
  · have hset : s.only (s.biasSet m true vset) (supplyFlds m) [.ports] :=
      Block.only_mono (s.only_biasSet m true vset) (List.subset_append_of_subset_left _ (by simp)) (by simp)
    exact Block.only_then hset (s.only_enabled m vset) (List.subset_append_right _ _) (List.Subset.refl _)

/-- EN = 0: the supply is off, and the ports that it held ramp in (R89, R90). -/
theorem Block.mbiasEnableOp_off_facts : (s.mbiasEnableOp m false vset).f (Reg.MB_CFG_VSET m) = clampVset vset ∧
    (s.mbiasEnableOp m false vset).on (Reg.MB_CFG_EN m) = false ∧ (s.mbiasEnableOp m false vset).f (Reg.MB_STAT_ILIM m) = 0 ∧
    (s.on (Reg.MB_STAT_CUT m) = false → (s.mbiasEnableOp m false vset).biasSt m = {}) ∧
    (s.on (Reg.MB_CFG_EN m) = true → ∀ n, n ∈ s.biasPorts m → (s.inp n).held = true → (s.inp n).waits = false →
      ((s.mbiasEnableOp m false vset).inp n).held = false ∧ ((s.mbiasEnableOp m false vset).inp n).rampAt = some s.time.now) := by
  obtain ⟨hvset, hen, hilim, hdropped, hinp⟩ := s.biasDown_facts m vset
  rw [Block.mbiasEnableOp_off]
  split
  · next hwas =>
    have hramp := (s.biasDown m vset).only_rampIn s.time.now (l := s.biasPorts m)
    refine ⟨(Block.only_f hramp (by simp)).trans hvset, (Block.only_on hramp (by simp)).trans hen, (Block.only_f hramp (by simp)).trans hilim,
      fun hcut => (Block.rampIn_biasSt _ _ _ _).trans (hdropped hcut), fun _ n hn hheld hwaits => ?_⟩
    have hports : (s.biasDown m vset).biasPorts m = s.biasPorts m := Block.biasPorts_of_only (s.only_biasDown m vset) (supplyFlds_apart_map m)
    rw [← hinp] at hheld hwaits
    rw [← hports] at hn ⊢
    rw [Block.rampIn_ramps _ hn hheld, InSt.ramp, hwaits]
    exact ⟨rfl, rfl⟩
  · next hoff => exact ⟨hvset, hen, hilim, hdropped, fun hwas => absurd hwas hoff⟩

theorem Block.mbiasEnableOp_on_stores : (s.mbiasEnableOp m true vset).f (Reg.MB_CFG_VSET m) = clampVset vset ∧
    (s.mbiasEnableOp m true vset).on (Reg.MB_CFG_EN m) = true := by
  obtain ⟨hvset, hen⟩ := s.biasSet_stores m true vset
  refine ⟨(Block.only_f (s.only_enabled m vset) (biasEvts_apart ?_)).trans hvset, (Block.only_on (s.only_enabled m vset) (biasEvts_apart ?_)).trans hen⟩ <;>
    simp only [Fld.of_supply] <;> omega

/-- EN = 1 on a supply that was off: it is driven from 0 V where nothing keeps it off, and its inputs are held (R89, R606). -/
theorem Block.mbiasEnableOp_raised_facts (h : s.on (Reg.MB_CFG_EN m) = false) :
    (s.on (Reg.MB_STAT_CUT m) = false → s.biasRuns m = true →
      ((s.mbiasEnableOp m true vset).biasSt m).driven = true ∧ ((s.mbiasEnableOp m true vset).biasSt m).v0 = 0 ∧
      ((s.mbiasEnableOp m true vset).biasSt m).at' = s.time.now ∧
      ((s.mbiasEnableOp m true vset).biasSt m).okAt = (s.mbiasEnableOp m true vset).biasOkAt m) ∧
    ∀ n, n ∈ s.biasPorts m → s.isInput n = true → ((s.mbiasEnableOp m true vset).inp n).held = true := by
  rw [Block.mbiasEnableOp_raised _ _ _ h]
  refine ⟨fun hcut hruns => ?_, fun n hn hin => ?_⟩
  · have hnow : (s.biasSet m true vset).time = s.time := (s.only_biasSet m true vset).2 .time (by simp)
    rw [hcut, hruns, Bool.not_false, Bool.and_true, if_pos rfl, ← hnow]
    exact Block.driveBias_biasSt _ m
  · rw [← Block.biasSet_biasPorts s m true vset] at hn
    have hin' : (s.biasSet m true vset).isInput n = true := by
      rw [Block.isInput, Block.biasSet_f _ _ _ _ (by simp only [Fld.of_port]; have := Block.lt_of_mem_biasPorts hn; omega)]
      exact hin
    split
    · exact Block.driveBias_holds hn hin'
    · exact (Block.holdBias_holds hn hin').1

end Enable

theorem mbiasEnable_gives (s : State) (m : Nat) (en : Bool) (vset : Nat) (hm : m < 4) (hv : vset < 128) (hc : s.coreOn = true) :
    gives (.mbiasEnable m en vset) s fun u =>
    u.f (Reg.MB_CFG_VSET m) = clampVset vset ∧ u.on (Reg.MB_CFG_EN m) = en ∧ (en = false → u.f (Reg.MB_STAT_ILIM m) = 0) ∧
    (en = false → (s.on (Reg.MB_STAT_CUT m) = false → u.biasSt m = {}) ∧
      (s.on (Reg.MB_CFG_EN m) = true → ∀ n, n ∈ s.biasPorts m → (s.inp n).held = true → (s.inp n).waits = false →
        (u.inp n).held = false ∧ (u.inp n).rampAt = some s.time.now)) ∧
    (en = true → s.on (Reg.MB_CFG_EN m) = false →
      (s.on (Reg.MB_STAT_CUT m) = false → s.biasRuns m = true →
        (u.biasSt m).driven = true ∧ (u.biasSt m).v0 = 0 ∧ (u.biasSt m).at' = s.time.now ∧ (u.biasSt m).okAt = u.biasOkAt m) ∧
      ∀ n, n ∈ s.biasPorts m → s.isInput n = true → (u.inp n).held = true ∧ u.zhold n = true) ∧
    (en = true → s.on (Reg.MB_CFG_EN m) = true → clampVset vset = s.f (Reg.MB_CFG_VSET m) → u.ports = s.ports) ∧
    s.only u (supplyFlds m) [.ports] := by
  refine gives_of_hostWrite (ok := decide (m < 4) && decide (vset < 128)) (g := fun b => b.mbiasEnableOp m en vset) rfl hc (by simp [hm, hv]) ?_
  have honly := s.only_mbiasEnableOp m en vset
  cases en
  · obtain ⟨hvset, hen, hilim, hdropped, hramp⟩ := s.mbiasEnableOp_off_facts m vset
    exact ⟨hvset, hen, fun _ => hilim, fun _ => ⟨hdropped, hramp⟩, nofun, nofun, honly⟩
  · obtain ⟨hvset, hen⟩ := s.mbiasEnableOp_on_stores m vset
    refine ⟨hvset, hen, nofun, nofun, fun _ hwas => ?_, fun _ hwas hsame => ?_, honly⟩
    · obtain ⟨hdriven, hheld⟩ := s.mbiasEnableOp_raised_facts m vset hwas
      exact ⟨hdriven, fun n hn hin => ⟨hheld n hn hin, by rw [Block.zhold, hheld n hn hin, Bool.true_or]⟩⟩
    · rw [Block.mbiasEnableOp_same _ _ _ hwas hsame]
      exact s.biasSet_ports m true vset

/-! ## BIAS_SETTLED, MBIAS_CURRENT_LIMIT, MBIAS_OK_LOST -/

theorem biasSettled_gives (s : State) (m : Nat) (hm : m < 4) : gives (.biasSettled m) s fun u =>
    if (s.biasSt m).driven && s.reached ((s.biasSt m).okAt + 16 * (12288 * 50)) && !s.on (Reg.MB_STAT_CUT m) then
      (∀ n, n ∈ s.biasPorts m → (s.inp n).held = true → (u.inp n).held = false ∧
        (u.inp n).rampAt = some (if (s.inp n).waits then max s.time.now ((s.inp n).rampAt.getD 0) else s.time.now)) ∧
      (∀ n, n ∉ s.biasPorts m → u.inp n = s.inp n) ∧ u.ports.bias = s.ports.bias ∧ s.only u [] [.ports]
    else u = s.toBlock := by
  refine gives_of_act (ok := decide (m < 4)) (g := fun b => b.biasSettledOp m) rfl (by simpa using hm) ?_
  split
  · next hsettled =>
    rw [Block.biasSettledOp, if_pos (by exact hsettled)]
    refine ⟨fun n hn hheld => ?_, fun n hn => Block.rampIn_other _ _ _ hn, Block.rampIn_ports _ _ _ (fun _ _ => rfl), Block.only_rampIn _ _⟩
    rw [Block.rampIn_ramps _ hn hheld]
    exact ⟨rfl, rfl⟩
  · next hsettled => rw [Block.biasSettledOp, if_neg (by exact hsettled)]

/-- A supply that its current limit has switched off (R90). -/
def Block.limited (s : Block) (m : Nat) : Block := ((s.dropBias m).raise (Reg.MB_STAT_ILIM m)).raise (Reg.CLOCHE_EVT_ILIM.bit m)

theorem Block.only_limited (s : Block) (m : Nat) (hm : m < 4) : s.only (s.limited m) [Reg.MB_STAT_ILIM m, Reg.CLOCHE_EVT_ILIM.bit m] [.ports] :=
  Block.only_raise (Block.only_raise (Block.only_modBias (s.only_refl _ _) _ _ (by simp)) _ (by simp [Fld.of_supply]) (by simp)) _
    (by simp only [Fld.of_supply]; omega) (by simp)

theorem Block.limited_marks (s : Block) (m : Nat) (hm : m < 4) : (s.limited m).on (Reg.MB_STAT_ILIM m) = true ∧
    (s.limited m).on (Reg.CLOCHE_EVT_ILIM.bit m) = true := by
  have hfits : (Reg.CLOCHE_EVT_ILIM.bit m).lo + (Reg.CLOCHE_EVT_ILIM.bit m).width ≤ 32 := by simp only [Fld.of_supply]; omega
  refine ⟨?_, Block.on_raise_self _ _ hfits (by simp [Fld.of_supply])⟩
  rw [Block.limited, Block.raise_eq _ (Reg.CLOCHE_EVT_ILIM.bit m), Block.on_put_apart _ _ (.inl (by simp only [Fld.of_supply]; omega)) hfits]
  exact Block.on_raise_self _ _ (by simp [Fld.of_supply]) (by simp [Fld.of_supply])

theorem Block.limited_biasSt (s : Block) (m : Nat) : (s.limited m).biasSt m = {} := by
  rw [Block.limited, Block.biasSt_raise, Block.biasSt_raise, Block.dropBias, Block.biasSt_modBias_self]

theorem Block.limited_inp (s : Block) (m n : Nat) : (s.limited m).inp n = s.inp n := by
  rw [Block.limited, Block.inp_raise, Block.inp_raise]
  rfl

/-- The inputs of a supply are held where only what its map, the ports' directions and the inputs do not show has moved before. -/
theorem Block.holdBias_after {s t : Block} {l : List Fld} {ps : List Part} {m : Nat} (h : s.only t l ps) (hinp : ∀ n, t.inp n = s.inp n)
    (hmap : ∀ x ∈ l, ∀ k < 8, x.apart ((Reg.MB_CFG_MAP m).bit k)) (hdir : ∀ x ∈ l, ∀ k < 8, x.apart (Reg.UAP_CFG_DIR k)) :
    ∀ n, n ∈ s.biasPorts m → s.isInput n = true → ((t.holdBias m).inp n).held = true ∧
      ((s.inp n).held = false → (t.holdBias m).on (Reg.UAP_EVT_BIASZ n) = true) := by
  intro n hn hin
  have hdir' : t.f (Reg.UAP_CFG_DIR n) = s.f (Reg.UAP_CFG_DIR n) := Block.only_f h (fun x hx => hdir x hx n (Block.lt_of_mem_biasPorts hn))
  rw [← Block.biasPorts_of_only h hmap] at hn
  rw [Block.isInput, ← hdir'] at hin
  rw [← hinp]
  exact Block.holdBias_holds hn hin

theorem mbiasCurrentLimit_gives (s : State) (m : Nat) (hm : m < 4) : gives (.mbiasCurrentLimit m) s fun u =>
    if (s.biasSt m).driven then
      u.biasSt m = {} ∧ u.on (Reg.MB_STAT_ILIM m) = true ∧ u.on (Reg.CLOCHE_EVT_ILIM.bit m) = true ∧
      (∀ n, n ∈ s.biasPorts m → s.isInput n = true → (u.inp n).held = true ∧ ((s.inp n).held = false → u.on (Reg.UAP_EVT_BIASZ n) = true)) ∧
      s.only u ([Reg.MB_STAT_ILIM m, Reg.CLOCHE_EVT_ILIM.bit m] ++ biasEvts) [.ports]
    else u = s.toBlock := by
  refine gives_of_act (ok := decide (m < 4)) (g := fun b => b.mbiasLimitOp m) rfl (by simpa using hm) ?_
  simp only [Block.mbiasLimitOp]
  cases (s.biasSt m).driven
  · rfl
  · rw [Bool.not_true, if_neg Bool.false_ne_true, if_pos rfl, ← Block.limited]
    have hlimited := s.only_limited m hm
    have hhold := (s.limited m).only_holdBias m
    obtain ⟨hilim, hevent⟩ := s.limited_marks m hm
    refine ⟨(Block.holdBias_biasSt _ m m).trans (s.limited_biasSt m), (Block.only_on hhold (biasEvts_apart ?_)).trans hilim,
      (Block.only_on hhold (biasEvts_apart ?_)).trans hevent, Block.holdBias_after hlimited (s.limited_inp m) ?_ ?_,
      Block.only_then (Block.only_mono hlimited (by simp) (by simp)) hhold (List.subset_append_right _ _) (List.Subset.refl _)⟩
    · simp only [Fld.of_supply]; omega
    · simp only [Fld.of_supply]; omega
    · simp [Fld.apart, Fld.of_supply]; omega
    · simp [Fld.apart, Fld.of_supply, Fld.of_port]; omega

/-- A supply that its load draws off its setting, until a free moment (R90). -/
def Block.sagged (s : Block) (m : Nat) : Block := (s.modBias m (fun b => { b with okAt := s.after (s.free + 1) })).used

theorem Block.only_sagged (s : Block) (m : Nat) : s.only (s.sagged m) [] [.ports, .free] :=
  Block.only_freeK (Block.only_modBias (s.only_refl _ _) _ _ (by simp)) _ (by simp)

theorem Block.sagged_biasSt (s : Block) (m : Nat) : (s.sagged m).biasSt m = { s.biasSt m with okAt := s.after (s.free + 1) } :=
  Block.biasSt_modBias_self _ _ _

theorem Block.sagged_inp (s : Block) (m n : Nat) : (s.sagged m).inp n = s.inp n := rfl

theorem mbiasOkLost_gives (s : State) (m : Nat) (hm : m < 4) : gives (.mbiasOkLost m) s fun u =>
    if s.biasOk m then
      u.biasOk m = false ∧ (u.biasSt m).driven = true ∧ s.time.now < (u.biasSt m).okAt ∧
      (∀ n, n ∈ s.biasPorts m → s.isInput n = true → (u.inp n).held = true ∧ ((s.inp n).held = false → u.on (Reg.UAP_EVT_BIASZ n) = true)) ∧
      s.only u biasEvts [.ports, .free]
    else u = s.toBlock := by
  refine gives_of_act (ok := decide (m < 4)) (g := fun b => b.mbiasLostOp m) rfl (by simpa using hm) ?_
  simp only [Block.mbiasLostOp]
  cases hok : s.biasOk m
  · rfl
  · rw [Bool.not_true, if_neg Bool.false_ne_true, if_pos rfl, ← Block.sagged]
    have hst : ((s.sagged m).holdBias m).biasSt m = { s.biasSt m with okAt := s.after (s.free + 1) } :=
      (Block.holdBias_biasSt _ m m).trans (s.sagged_biasSt m)
    have honly : s.only ((s.sagged m).holdBias m) biasEvts [.ports, .free] :=
      Block.only_then (Block.only_mono (s.only_sagged m) (List.nil_subset _) (List.Subset.refl _)) (Block.only_holdBias _ m) (List.Subset.refl _) (by simp)
    have hlater : s.time.now < s.after (s.free + 1) := by simp only [Block.after, ticks]; omega
    have hdriven : (s.biasSt m).driven = true := (Bool.and_eq_true_iff.mp hok).1
    have hnow : ((s.sagged m).holdBias m).time = s.time := honly.2 .time (by simp)
    refine ⟨?_, by rw [hst]; exact hdriven, by rw [hst]; exact hlater, Block.holdBias_after (s.only_sagged m) (s.sagged_inp m) (by simp) (by simp), honly⟩
    rw [Block.biasOk, hst, Block.reached, hnow]
    simp [hlater]

end Sys2Proof.Machine
end

section
/-! SUPPORT. The cloche's marks, the end of a slice on a talkback port, and the shutting of the cloche (R63, R100). -/

namespace Sys2Proof.Machine

/-! ## The registers of the cloche -/

/-- Where the fields of the cloche lie (R107). -/
theorem Fld.of_cloche :
    Reg.CLOCHE_STAT_SHUT = ⟨0x21040, 0, 1⟩ ∧ Reg.CLOCHE_STAT_OPENING = ⟨0x21040, 1, 1⟩ ∧ Reg.CLOCHE_EVT_SHUT = ⟨0x21044, 0, 1⟩ ∧
    Reg.CLOCHE_EVT_OPEN = ⟨0x21044, 1, 1⟩ ∧ Reg.CLOCHE_CNT_SHUTS = ⟨0x2104C, 0, 16⟩ := ⟨rfl, rfl, rfl, rfl, rfl⟩

/-- The marks of the ports that are cloched (R100). -/
def clochedFlds : List Fld := (List.range 16).map Reg.UAP_STAT_CLOCHED

/-- The marks of the supplies that the cloche cuts (R100). -/
def cutFlds : List Fld := (List.range 4).map Reg.MB_STAT_CUT

theorem mem_clochedFlds {x : Fld} : x ∈ clochedFlds ↔ ∃ n < 16, x = ⟨0x20010 + 0x100 * n, 0, 1⟩ := by
  simp [clochedFlds, Fld.of_port, eq_comm]

theorem mem_cutFlds {x : Fld} : x ∈ cutFlds ↔ ∃ m < 4, x = ⟨0x21004 + 8 * m, 3, 1⟩ := by
  simp [cutFlds, Fld.of_supply, eq_comm]

theorem clochedFlds_apart {y : Fld} (h : ∀ n < 16, 0x20010 + 0x100 * n ≠ y.addr) : ∀ x ∈ clochedFlds, x.apart y := by
  intro x hx
  obtain ⟨n, hn, rfl⟩ := mem_clochedFlds.mp hx
  exact .inl (h n hn)

theorem cutFlds_apart {y : Fld} (h : ∀ m < 4, 0x21004 + 8 * m ≠ y.addr) : ∀ x ∈ cutFlds, x.apart y := by
  intro x hx
  obtain ⟨m, hm, rfl⟩ := mem_cutFlds.mp hx
  exact .inl (h m hm)

/-- A count stops at its largest value. -/
theorem Block.f_bump_self (s : Block) (x : Fld) (h : x.lo + x.width ≤ 32) : (s.bump x).f x = min (s.f x + 1) (2 ^ x.width - 1) := by
  have hlt := s.f_lt x
  unfold Block.bump
  split
  · next hroom => rw [Block.f_put_self _ _ _ h, Nat.mod_eq_of_lt hroom]; omega
  · omega

/-! ## The end of a slice on a group of the device -/

section Slice

variable {s : Block} {sl : Slice}

/-- The fields that the incomplete end of a slice moves (R62, R63, R65). -/
def incompleteFlds (sl : Slice) : List Fld := closeFlds sl ++ returnFlds sl ++ upkeepFlds sl.group

theorem Block.only_sliceIncomplete (h : s.cells.slice = some sl) (done : Bool) :
    s.only (s.sliceIncomplete done) (incompleteFlds sl) [.cells, .ledger, .bst] := by
  have hclose : s.only (s.closeSlice sl 3 done) (incompleteFlds sl) [.cells, .ledger, .bst] :=
    Block.only_mono (s.only_closeSlice sl 3 done) (by simp [incompleteFlds]) (List.Subset.refl _)
  have hreturn := Block.only_then hclose (Block.returnIncomplete_moves _ sl).1 (by simp [incompleteFlds]) (by simp)
  have hcentre := Block.only_then hreturn (Block.only_recentre _ sl.group) (by simp [incompleteFlds]) (by simp)
  rw [Block.sliceIncomplete_eq h]
  exact Block.only_then hcentre (Block.only_refreshGroup _ sl.group) (by simp [incompleteFlds]) (by simp)

/-- The cells, their groups, the ledger and the self-test have their registers below those of the ports. -/
theorem incompleteFlds_below (hk : sl.cell < 86) (hg : sl.group < 18) : ∀ x ∈ incompleteFlds sl, x.addr < 0x20000 := by
  have hskew : ∀ k ∈ groupCells sl.group, 0x10010 + 0x40 * k < 0x20000 := fun k h => by have := lt_of_mem_groupCells hg h; omega
  simp only [incompleteFlds, closeFlds, progressFlds, verdictFlds, faultFlds, returnFlds, roleFlds, upkeepFlds, Fld.of_cell, Fld.of_group,
    Fld.of_device, List.forall_mem_append, List.forall_mem_cons, List.forall_mem_map, List.not_mem_nil, false_implies, implies_true, and_true]
  refine ⟨?_, ?_, hskew⟩ <;> omega

end Slice

/-! ## Supplies that stop -/

section Lose

variable (s : Block) (m : Nat)

theorem Block.only_loseBias : s.only (s.loseBias m) biasEvts [.ports] :=
  have hdrop : s.only (s.dropBias m) biasEvts [.ports] := Block.only_modBias (s.only_refl _ _) m _ (by simp)
  Block.only_onlyIf hdrop (fun _ => Block.only_trans hdrop (Block.only_holdBias _ m))

theorem Block.loseBias_biasSt (j : Nat) : (s.loseBias m).biasSt j = if j = m then {} else s.biasSt j := by
  have hdrop : (s.dropBias m).biasSt j = if j = m then {} else s.biasSt j := by
    split
    · next h => rw [h, Block.dropBias, Block.biasSt_modBias_self]
    · next h => exact Block.biasSt_modBias_other _ _ h
  unfold Block.loseBias Block.onlyIf
  split
  · exact (Block.holdBias_biasSt _ m j).trans hdrop
  · exact hdrop

/-- What the ports keep beside the inputs and the supplies stays where a supply stops. -/
theorem Block.loseBias_ports {β : Type} {π : Ports → β} (hins : ∀ p x, π { p with ins := x } = π p) (hbias : ∀ p x, π { p with bias := x } = π p) :
    π (s.loseBias m).ports = π s.ports := by
  unfold Block.loseBias Block.onlyIf
  split
  · exact (Block.holdInputs_ports _ _ hins).trans (hbias _ _)
  · exact hbias _ _

theorem Block.driveBias_ports {β : Type} {π : Ports → β} (hins : ∀ p x, π { p with ins := x } = π p) (hbias : ∀ p x, π { p with bias := x } = π p) :
    π (s.driveBias m).ports = π s.ports :=
  (Block.holdInputs_ports _ _ hins).trans ((hbias _ _).trans (hbias _ _))

theorem Block.loseBias_inp {n : Nat} (hn : n ∉ s.biasPorts m) : (s.loseBias m).inp n = s.inp n := by
  unfold Block.loseBias Block.onlyIf
  split
  · exact Block.holdBias_other (s.dropBias m) m hn
  · rfl

theorem Block.driveBias_inp {n : Nat} (hn : n ∉ s.biasPorts m) : (s.driveBias m).inp n = s.inp n :=
  Block.holdBias_other (s.slewBias m 0) m (by rwa [Block.slewBias_map])

end Lose

/-! ## CLOCHE_SHUT -/

section Shut

variable (s : Block)

/-- The registers of the cloche as it shuts (R100, R107). -/
def Block.shutMarked : Block :=
  (((({ s with ports := { s.ports with shut := true, opening := none } } : Block).raise Reg.CLOCHE_STAT_SHUT).raise Reg.CLOCHE_EVT_SHUT).bump
    Reg.CLOCHE_CNT_SHUTS).put Reg.CLOCHE_STAT_OPENING 0

/-- A supply that the cloche cuts (R100). -/
def Block.cutSupply (m : Nat) : Block := (s.raise (Reg.MB_STAT_CUT m)).loseBias m

/-- The end of a slice on a talkback port (R63). -/
def Block.talkSliceEnded : Block :=
  match s.cells.slice with
  | some sl => if sl.group < 16 && s.on (Reg.UAP_CFG_TALK sl.group) then s.sliceIncomplete false else s
  | none => s

/-- The supplies of the talkback ports cut, and those ports marked (R100). -/
def Block.talkCut : Block :=
  (s.forAll s.talkSupplies (fun m t => t.cutSupply m)).forAll s.talkPorts (fun n t => t.raise (Reg.UAP_STAT_CLOCHED n))

variable {s} {t : Block} {l : List Fld} {ps : List Part}

theorem Block.talkPorts_of_only (h : s.only t l ps) (hl : ∀ x ∈ l, ∀ n, x.apart (Reg.UAP_CFG_TALK n)) : t.talkPorts = s.talkPorts :=
  List.filter_congr (fun n _ => Block.only_on h (fun x hx => hl x hx n))

theorem Block.talkSupplies_of_only (h : s.only t l ps) (hl : ∀ x ∈ l, ∀ n, x.apart (Reg.UAP_CFG_TALK n))
    (hmap : ∀ x ∈ l, ∀ m < 4, ∀ k < 8, x.apart ((Reg.MB_CFG_MAP m).bit k)) : t.talkSupplies = s.talkSupplies := by
  have htalk : (fun n => t.on (Reg.UAP_CFG_TALK n)) = fun n => s.on (Reg.UAP_CFG_TALK n) := funext (fun n => Block.only_on h (fun x hx => hl x hx n))
  refine List.filter_congr (fun m hm => ?_)
  rw [Block.biasPorts_of_only h (fun x hx k hk => hmap x hx m (List.mem_range.mp hm) k hk), htalk]

theorem biasEvts_apart_talk : ∀ x ∈ biasEvts, ∀ n, x.apart (Reg.UAP_CFG_TALK n) :=
  fun x hx n => biasEvts_apart (by simp only [Fld.of_port]; omega) x hx

theorem cutFlds_apart_talk : ∀ x ∈ cutFlds, ∀ n, x.apart (Reg.UAP_CFG_TALK n) :=
  fun x hx n => cutFlds_apart (by simp only [Fld.of_port]; omega) x hx

variable (s)

/-! ### The registers of the cloche -/

/-- What the cloche marks as it shuts. -/
def shutFlds : List Fld := [Reg.CLOCHE_STAT_SHUT, Reg.CLOCHE_EVT_SHUT, Reg.CLOCHE_CNT_SHUTS, Reg.CLOCHE_STAT_OPENING]

theorem Block.only_shutMarked : s.only s.shutMarked shutFlds [.ports] := by
  have hports : s.only ({ s with ports := { s.ports with shut := true, opening := none } } : Block) shutFlds [.ports] :=
    Block.only_ports (s.only_refl _ _) _ (by simp)
  have hshut := Block.only_raise hports Reg.CLOCHE_STAT_SHUT (by simp [Fld.of_cloche]) (by simp [shutFlds])
  have hevent := Block.only_raise hshut Reg.CLOCHE_EVT_SHUT (by simp [Fld.of_cloche]) (by simp [shutFlds])
  have hcount := Block.only_bump hevent Reg.CLOCHE_CNT_SHUTS (by simp [Fld.of_cloche]) (by simp [shutFlds])
  exact Block.only_put hcount Reg.CLOCHE_STAT_OPENING 0 (by simp [Fld.of_cloche]) (by simp [shutFlds])

theorem Block.shutMarked_facts : s.shutMarked.ports = { s.ports with shut := true, opening := none } ∧
    s.shutMarked.on Reg.CLOCHE_STAT_SHUT = true ∧ s.shutMarked.on Reg.CLOCHE_EVT_SHUT = true ∧ s.shutMarked.f Reg.CLOCHE_STAT_OPENING = 0 ∧
    s.shutMarked.f Reg.CLOCHE_CNT_SHUTS = min (s.f Reg.CLOCHE_CNT_SHUTS + 1) 0xFFFF := by
  have hbump (b : Block) {y : Fld} (hy : Reg.CLOCHE_CNT_SHUTS.apart y) : (b.bump Reg.CLOCHE_CNT_SHUTS).f y = b.f y :=
    Block.only_f (Block.only_bump (b.only_refl [Reg.CLOCHE_CNT_SHUTS] []) _ (by simp [Fld.of_cloche]) (by simp)) (by simpa using hy)
  unfold Block.shutMarked
  refine ⟨?_, ?_, ?_, ?_, ?_⟩
  · rw [Block.put_ports, Block.bump_ports, Block.raise_ports, Block.raise_ports]
  · rw [Block.on_put_apart, Block.on, hbump, ← Block.on, Block.raise_eq _ Reg.CLOCHE_EVT_SHUT, Block.on_put_apart, Block.on_raise_self] <;>
      simp [Fld.apart, Fld.of_cloche]
  · rw [Block.on_put_apart, Block.on, hbump, ← Block.on, Block.on_raise_self] <;> simp [Fld.apart, Fld.of_cloche]
  · rw [Block.f_put_self _ _ _ (by simp [Fld.of_cloche]), Nat.zero_mod]
  · rw [Block.f_put_apart, Block.f_bump_self, Block.raise_eq, Block.f_put_apart, Block.raise_eq, Block.f_put_apart]
    · rfl
    all_goals simp [Fld.apart, Fld.of_cloche]

/-! ### The cut -/

theorem Block.cutSupply_record (a j : Nat) : ((s.cutSupply a).on (Reg.MB_STAT_CUT j), ((s.cutSupply a).biasSt j).driven) =
    if j = a then (true, false) else (s.on (Reg.MB_STAT_CUT j), (s.biasSt j).driven) := by
  have hcut : (s.cutSupply a).on (Reg.MB_STAT_CUT j) = (s.raise (Reg.MB_STAT_CUT a)).on (Reg.MB_STAT_CUT j) :=
    Block.only_on (Block.only_loseBias _ a) (biasEvts_apart (by simp only [Fld.of_supply]; omega))
  rw [hcut, Block.cutSupply, Block.loseBias_biasSt, Block.biasSt_raise]
  split
  · next h => rw [h, Block.on_raise_self _ _ (by simp [Fld.of_supply]) (by simp [Fld.of_supply])]
  · next h => rw [Block.raise_eq, Block.on_put_apart _ _ (.inl (by simp only [Fld.of_supply]; omega)) (by simp [Fld.of_supply])]

theorem Block.only_cutSupplies : s.only (s.forAll s.talkSupplies (fun m t => t.cutSupply m)) (cutFlds ++ biasEvts) [.ports] := by
  refine Block.only_forAll _ _ (fun m hm t ht => ?_) (s.only_refl _ _)
  have hcut := Block.only_raise ht (Reg.MB_STAT_CUT m) (by simp [Fld.of_supply])
    (List.mem_append_left _ (List.mem_map_of_mem (List.mem_of_mem_filter hm)))
  exact Block.only_then hcut (Block.only_loseBias _ m) (by simp) (List.Subset.refl _)

theorem Block.only_talkMarked (t : Block) : t.only (t.forAll s.talkPorts (fun n b => b.raise (Reg.UAP_STAT_CLOCHED n))) clochedFlds [] :=
  Block.only_forAll _ _ (fun n hn _ hb => Block.only_raise hb (Reg.UAP_STAT_CLOCHED n) (by simp [Fld.of_port])
    (List.mem_map_of_mem (List.mem_of_mem_filter hn))) (t.only_refl _ _)

/-- What the cut moves of the registers, but for the end of a slice (R100). -/
theorem Block.only_talkCut : s.only s.talkCut (clochedFlds ++ (cutFlds ++ biasEvts)) [.ports] :=
  Block.only_then (Block.only_mono s.only_cutSupplies (List.subset_append_right _ _) (List.Subset.refl _)) (s.only_talkMarked _)
    (List.subset_append_left _ _) (by simp)

theorem Block.talkCut_cloched {n : Nat} (hn : n ∈ s.talkPorts) : s.talkCut.on (Reg.UAP_STAT_CLOCHED n) = true := by
  have h := Block.forAll_each (fun t j => t.on (Reg.UAP_STAT_CLOCHED j)) (fun _ _ => true) (fun n t => t.raise (Reg.UAP_STAT_CLOCHED n))
    (fun a t j => ?_) s.talkPorts (List.nodup_range.filter _) (s.forAll s.talkSupplies (fun m t => t.cutSupply m)) n
  · rwa [if_pos hn] at h
  · split
    · next h => rw [h, Block.on_raise_self _ _ (by simp [Fld.of_port]) (by simp [Fld.of_port])]
    · next h => rw [Block.raise_eq, Block.on_put_apart _ _ (.inl (by simp only [Fld.of_port]; omega)) (by simp [Fld.of_port])]

theorem Block.talkCut_supply {m : Nat} (hm : m ∈ s.talkSupplies) :
    s.talkCut.on (Reg.MB_STAT_CUT m) = true ∧ (s.talkCut.biasSt m).driven = false := by
  have hmarked := s.only_talkMarked (s.forAll s.talkSupplies (fun m t => t.cutSupply m))
  have h := Block.forAll_each (fun t j => (t.on (Reg.MB_STAT_CUT j), (t.biasSt j).driven)) (fun _ _ => (true, false)) (fun m t => t.cutSupply m)
    (fun a t j => t.cutSupply_record a j) s.talkSupplies (List.nodup_range.filter _) s m
  rw [if_pos hm, Prod.mk.injEq] at h
  obtain ⟨hcut, hdriven⟩ := h
  refine ⟨(Block.only_on hmarked (clochedFlds_apart (by simp only [Fld.of_supply]; omega))).trans hcut, ?_⟩
  rw [← hdriven]
  exact congrArg BiasSt.driven (Block.biasSt_congr (hmarked.2 .ports (by simp)) m)

/-- The cut leaves the cloche's own state alone. -/
theorem Block.talkCut_lid : (s.talkCut.ports.shut, s.talkCut.ports.opening) = (s.ports.shut, s.ports.opening) := by
  have hmarked : s.talkCut.ports = _ := (s.only_talkMarked (s.forAll s.talkSupplies (fun m t => t.cutSupply m))).2 .ports (by simp)
  rw [hmarked]
  exact Block.forAll_keeps (fun t : Block => (t.ports.shut, t.ports.opening)) s.talkSupplies (fun m t => t.cutSupply m)
    (fun m t => (Block.loseBias_ports (t.raise (Reg.MB_STAT_CUT m)) m (π := fun p => (p.shut, p.opening)) (fun _ _ => rfl) (fun _ _ => rfl)).trans
      (by rw [Block.raise_ports])) s

theorem Block.clocheCut_eq : s.clocheCut = s.talkCut.talkSliceEnded := by
  have htalk : (s.forAll s.talkSupplies (fun m t => t.cutSupply m)).talkPorts = s.talkPorts :=
    Block.talkPorts_of_only s.only_cutSupplies (fun x hx => (List.mem_append.mp hx).elim (cutFlds_apart_talk x) (biasEvts_apart_talk x))
  rw [Block.talkCut, ← htalk]
  rfl

/-- The end of the slice moves registers of the cells and the ledger only (R62, R63, R561). -/
theorem Block.talkSliceEnded_moves (h : ∀ sl, s.cells.slice = some sl → sl.cell < 86) :
    ∃ l, (∀ x ∈ l, x.addr < 0x20000) ∧ s.only s.talkSliceEnded l [.cells, .ledger, .bst] := by
  unfold Block.talkSliceEnded
  split
  · next sl hsl =>
    split
    · next hon =>
      have hg : sl.group < 16 := of_decide_eq_true (Bool.and_eq_true_iff.mp hon).1
      exact ⟨_, incompleteFlds_below (h sl hsl) (by omega), Block.only_sliceIncomplete hsl false⟩
    · exact ⟨[], by simp, s.only_refl _ _⟩
  · exact ⟨[], by simp, s.only_refl _ _⟩

end Shut

theorem Block.clocheShutOp_eq (s : Block) : s.clocheShutOp = if s.base = modeOff || s.ports.shut then s else s.shutMarked.clocheCut := by
  unfold Block.clocheShutOp
  dsimp only
  simp only [Bool.or_eq_true, decide_eq_true_eq]
  rfl

/-- The registers that the cut of the cloche moves: the marks of ports and supplies, the bias events, and those of the cells and the ledger. -/
def Fld.ofCut (x : Fld) : Prop := x.addr < 0x20000 ∨ x ∈ clochedFlds ++ (cutFlds ++ biasEvts)

theorem shutFlds_place {y : Fld} (hy : y ∈ shutFlds) : 0x21040 ≤ y.addr ∧ y.addr < 0x21050 := by
  simp only [shutFlds, Fld.of_cloche, List.mem_cons, List.not_mem_nil, or_false] at hy
  rcases hy with rfl | rfl | rfl | rfl <;> simp

theorem shutFlds_apart_talk : ∀ x ∈ shutFlds, ∀ n, x.apart (Reg.UAP_CFG_TALK n) :=
  fun x hx n => .inl (by have := shutFlds_place hx; simp only [Fld.of_port]; omega)

theorem Fld.ofCut_apart {x y : Fld} (hx : x.ofCut) (hy : y ∈ shutFlds) : x.apart y := by
  obtain ⟨hy, hy'⟩ := shutFlds_place hy
  refine hx.elim (fun h => .inl (by omega)) (fun h => ?_)
  simp only [List.mem_append] at h
  rcases h with h | h | h
  · exact clochedFlds_apart (by omega) x h
  · exact cutFlds_apart (by omega) x h
  · exact biasEvts_apart (by omega) x h

section Cut

variable {s : Block} (h : ∀ sl, s.cells.slice = some sl → sl.cell < 86)
include h

theorem Block.talkCut_slice : ∀ sl, s.talkCut.cells.slice = some sl → sl.cell < 86 := by
  have hcells : s.talkCut.cells = s.cells := s.only_talkCut.2 .cells (by simp)
  rwa [hcells]

theorem Block.clocheCut_moves : ∃ l, (∀ x ∈ l, x.ofCut) ∧ s.only s.clocheCut l [.bst, .cells, .ledger, .ports] := by
  obtain ⟨l, hl, hended⟩ := Block.talkSliceEnded_moves _ (Block.talkCut_slice h)
  refine ⟨clochedFlds ++ (cutFlds ++ biasEvts) ++ l, fun x hx => (List.mem_append.mp hx).elim .inr (fun hx => .inl (hl x hx)), ?_⟩
  rw [Block.clocheCut_eq]
  exact Block.only_then (Block.only_mono s.only_talkCut (List.subset_append_left _ _) (by simp)) hended (List.subset_append_right _ _) (by simp)

theorem Block.clocheCut_facts : (s.clocheCut.ports.shut, s.clocheCut.ports.opening) = (s.ports.shut, s.ports.opening) ∧
    (∀ n, n ∈ s.talkPorts → s.clocheCut.on (Reg.UAP_STAT_CLOCHED n) = true) ∧
    ∀ m, m ∈ s.talkSupplies → s.clocheCut.on (Reg.MB_STAT_CUT m) = true ∧ (s.clocheCut.biasSt m).driven = false := by
  obtain ⟨l, hl, hended⟩ := Block.talkSliceEnded_moves _ (Block.talkCut_slice h)
  have hports : s.talkCut.talkSliceEnded.ports = s.talkCut.ports := hended.2 .ports (by simp)
  have hkept {y : Fld} (hy : 0x20000 ≤ y.addr) : s.talkCut.talkSliceEnded.on y = s.talkCut.on y :=
    Block.only_on hended (fun x hx => .inl (by have := hl x hx; omega))
  rw [Block.clocheCut_eq]
  refine ⟨?_, fun n hn => ?_, fun m hm => ?_⟩
  · rw [hports, Block.talkCut_lid]
  · rw [hkept (by simp only [Fld.of_port]; omega)]
    exact s.talkCut_cloched hn
  · obtain ⟨hcut, hdriven⟩ := s.talkCut_supply hm
    rw [hkept (by simp only [Fld.of_supply]; omega), Block.biasSt_congr hports]
    exact ⟨hcut, hdriven⟩

end Cut

theorem clocheShut_gives (s : State) (h : ∀ sl, s.cells.slice = some sl → sl.cell < 86) : gives .clocheShut s fun u =>
    if s.base = modeOff || s.ports.shut then u = s.toBlock else
      u.ports.shut = true ∧ u.ports.opening = none ∧ u.on Reg.CLOCHE_STAT_SHUT = true ∧ u.on Reg.CLOCHE_EVT_SHUT = true ∧
      u.f Reg.CLOCHE_STAT_OPENING = 0 ∧ u.f Reg.CLOCHE_CNT_SHUTS = min (s.f Reg.CLOCHE_CNT_SHUTS + 1) 0xFFFF ∧ u.privLed = true ∧
      (∀ n, n ∈ s.talkPorts → u.on (Reg.UAP_STAT_CLOCHED n) = true) ∧
      (∀ m, m ∈ s.talkSupplies → u.on (Reg.MB_STAT_CUT m) = true ∧ (u.biasSt m).driven = false) ∧
      (∀ p : Part, p ∉ [Part.bst, Part.cells, Part.ledger, Part.ports] → p.same s.toBlock u) := by
  refine gives_of_act (ok := true) (g := fun b => b.clocheShutOp) rfl rfl ?_
  simp only [Block.clocheShutOp_eq]
  split
  · rfl
  · have hmarked := s.only_shutMarked
    obtain ⟨hports, hshut, hevent, hopening, hcount⟩ := s.shutMarked_facts
    have hcells : s.shutMarked.cells = s.cells := hmarked.2 .cells (by simp)
    have htalk : s.shutMarked.talkPorts = s.talkPorts := Block.talkPorts_of_only hmarked shutFlds_apart_talk
    have hsupplies : s.shutMarked.talkSupplies = s.talkSupplies :=
      Block.talkSupplies_of_only hmarked shutFlds_apart_talk
        (fun x hx m hm k hk => .inl (by have := shutFlds_place hx; simp only [Fld.of_supply]; omega))
    obtain ⟨l, hl, hcut⟩ := Block.clocheCut_moves (s := s.shutMarked) (by rwa [hcells])
    obtain ⟨hlid, hcloched, hsupply⟩ := Block.clocheCut_facts (s := s.shutMarked) (by rwa [hcells])
    rw [htalk] at hcloched
    rw [hsupplies] at hsupply
    rw [hports, Prod.mk.injEq] at hlid
    obtain ⟨hlidShut, hlidOpening⟩ := hlid
    have hf {y : Fld} (hy : y ∈ shutFlds) : s.shutMarked.clocheCut.f y = s.shutMarked.f y := Block.only_f hcut (fun x hx => Fld.ofCut_apart (hl x hx) hy)
    refine ⟨hlidShut, hlidOpening, ?_, ?_, (hf (by simp [shutFlds])).trans hopening, (hf (by simp [shutFlds])).trans hcount,
      by rw [Block.privLed, hlidShut, Bool.true_or], hcloched, hsupply, ?_⟩
    · rw [Block.on, hf (by simp [shutFlds])]; exact hshut
    · rw [Block.on, hf (by simp [shutFlds])]; exact hevent
    · exact (Block.only_then (Block.only_mono hmarked (List.subset_append_left _ l) (by simp)) hcut (List.subset_append_right _ _)
        (List.Subset.refl _)).2

end Sys2Proof.Machine
end

section
/-! SUPPORT. The opening of the cloche and its end (R101); and O31. -/

namespace Sys2Proof.Machine

/-! ## CLOCHE_OPEN -/

/-- The registers that an opening of the cloche moves (R101, R107). -/
def openFlds : List Fld := [Reg.CLOCHE_STAT_SHUT, Reg.CLOCHE_STAT_OPENING] ++ clochedFlds ++ cutFlds ++ biasEvts

/-- An input of a talkback port as the cloche opens: held for its bias, or ramping in after its discards (R101). -/
def InSt.opened (served waits : Bool) (when' : Nat) (x : InSt) : InSt :=
  if served then { x with held := true, waits := waits, rampAt := if waits then x.rampAt else none }
  else { x with held := false, waits := waits, rampAt := some (if waits then max when' (x.rampAt.getD 0) else when') }

section Open

variable (s : Block) (n : Nat)

/-- The registers of the cloche as it opens (R101, R107). -/
def Block.openMarked : Block :=
  (({ s with ports := { s.ports with shut := false, opening := some s.time.now } } : Block).put Reg.CLOCHE_STAT_SHUT 0).raise Reg.CLOCHE_STAT_OPENING

/-- The cells of a talkback port restart: they discard their conversions of 32 ticks (R101). -/
def Block.cellsRestarted : Block :=
  (s.put (Reg.UAP_STAT_CLOCHED n) 0).modGrp n (fun x => { x with discardTo := s.after 32, raws := [], filt := [], conv := none })

/-- Whether an enabled supply serves a port (R86). -/
def Block.served : Bool := s.on (Reg.UAP_CFG_MBMAP n) && s.on (Reg.MB_CFG_EN (s.f (Reg.UAP_CFG_MBSEL n)))

/-- A talkback port as the cloche opens (R101). -/
def Block.talkOpened : Block :=
  (s.cellsRestarted n).modIn n (InSt.opened ((s.cellsRestarted n).served n) (((s.cellsRestarted n).inp n).waits && (s.cellsRestarted n).rampAhead n)
    ((s.cellsRestarted n).after 40))

/-! ### The registers of the cloche -/

theorem Block.only_openMarked : s.only s.openMarked [Reg.CLOCHE_STAT_SHUT, Reg.CLOCHE_STAT_OPENING] [.ports] := by
  have hports : s.only ({ s with ports := { s.ports with shut := false, opening := some s.time.now } } : Block)
      [Reg.CLOCHE_STAT_SHUT, Reg.CLOCHE_STAT_OPENING] [.ports] := Block.only_ports (s.only_refl _ _) _ (by simp)
  exact Block.only_raise (Block.only_put hports _ _ (by simp [Fld.of_cloche]) (by simp)) _ (by simp [Fld.of_cloche]) (by simp)

theorem Block.openMarked_facts : s.openMarked.ports = { s.ports with shut := false, opening := some s.time.now } ∧
    s.openMarked.f Reg.CLOCHE_STAT_SHUT = 0 ∧ s.openMarked.on Reg.CLOCHE_STAT_OPENING = true := by
  unfold Block.openMarked
  refine ⟨by rw [Block.raise_ports, Block.put_ports], ?_, Block.on_raise_self _ _ (by simp [Fld.of_cloche]) (by simp [Fld.of_cloche])⟩
  rw [Block.raise_eq, Block.f_put_apart, Block.f_put_self, Nat.zero_mod] <;> simp [Fld.apart, Fld.of_cloche]

/-! ### A talkback port -/

theorem Block.only_cellsRestarted : s.only (s.cellsRestarted n) [Reg.UAP_STAT_CLOCHED n] [.cells] :=
  Block.only_modGrp (Block.only_put (s.only_refl _ _) _ _ (by simp [Fld.of_port]) (by simp)) _ _ (by simp)

theorem Block.only_talkOpened : s.only (s.talkOpened n) [Reg.UAP_STAT_CLOCHED n] [.cells, .ports] :=
  Block.only_modIn (Block.only_mono (s.only_cellsRestarted n) (List.Subset.refl _) (by simp)) _ _ (by simp)

/-- What a port that opens shows of itself. -/
def Block.talkView (k : Nat) : Nat × GroupSt × InSt × Bool × Nat :=
  (s.f (Reg.UAP_STAT_CLOCHED k), s.grp k, s.inp k, s.on (Reg.UAP_CFG_MBMAP k), s.time.now)

theorem Block.talkOpened_grp (k : Nat) : (s.talkOpened n).grp k = (s.cellsRestarted n).grp k := rfl

/-- A port that opens leaves the others alone. -/
theorem Block.talkOpened_other {k : Nat} (hk : n ≠ k) : (s.talkOpened n).talkView k = s.talkView k := by
  have honly := s.only_talkOpened n
  have hcloched : (s.talkOpened n).f (Reg.UAP_STAT_CLOCHED k) = s.f (Reg.UAP_STAT_CLOCHED k) :=
    Block.only_f honly (by simp only [List.mem_singleton, forall_eq, Fld.apart, Fld.of_port]; omega)
  have hmap : (s.talkOpened n).on (Reg.UAP_CFG_MBMAP k) = s.on (Reg.UAP_CFG_MBMAP k) :=
    Block.only_on honly (by simp only [List.mem_singleton, forall_eq, Fld.apart, Fld.of_port]; omega)
  have hgrp : (s.talkOpened n).grp k = s.grp k := by
    rw [Block.talkOpened_grp, Block.cellsRestarted, Block.grp_modGrp_other _ _ hk.symm, Block.grp_put]
  have hinp : (s.talkOpened n).inp k = s.inp k := by
    rw [Block.talkOpened, Block.inp_modIn_other _ _ hk.symm]
    exact Block.inp_congr ((s.only_cellsRestarted n).2 .ports (by simp)) k
  have hnow : (s.talkOpened n).time = s.time := honly.2 .time (by simp)
  simp only [Block.talkView, hcloched, hmap, hgrp, hinp, hnow]

/-- A port that opens: its mark clears, its cells restart, and without a bias to wait for it ramps in after their discards (R101). -/
theorem Block.talkOpened_self : (s.talkOpened n).f (Reg.UAP_STAT_CLOCHED n) = 0 ∧ ((s.talkOpened n).grp n).discardTo = s.time.now + 16 * 32 ∧
    ((s.talkOpened n).grp n).raws = [] ∧ ((s.talkOpened n).grp n).conv = none ∧
    (s.on (Reg.UAP_CFG_MBMAP n) = false → (s.inp n).waits = false →
      ((s.talkOpened n).inp n).held = false ∧ ((s.talkOpened n).inp n).rampAt = some (s.time.now + 16 * 40)) := by
  have honly := s.only_cellsRestarted n
  have hinp : (s.cellsRestarted n).inp n = s.inp n := Block.inp_congr (honly.2 .ports (by simp)) n
  have hnow : (s.cellsRestarted n).time = s.time := honly.2 .time (by simp)
  have hgrp : (s.cellsRestarted n).grp n = { s.grp n with discardTo := s.after 32, raws := [], filt := [], conv := none } := by
    rw [Block.cellsRestarted, Block.grp_modGrp_self, Block.grp_put]
  have hmap : (s.cellsRestarted n).on (Reg.UAP_CFG_MBMAP n) = s.on (Reg.UAP_CFG_MBMAP n) :=
    Block.only_on honly (by simp [Fld.apart, Fld.of_port])
  rw [Block.talkOpened_grp, hgrp]
  refine ⟨?_, rfl, rfl, rfl, fun hfree hwaits => ?_⟩
  · rw [Block.talkOpened, Block.modIn_f, Block.cellsRestarted, Block.modGrp_f, Block.f_put_self _ _ _ (by simp [Fld.of_port]), Nat.zero_mod]
  · rw [Block.talkOpened, Block.inp_modIn_self, Block.served, hmap, hfree, hinp, hwaits, Block.after, hnow]
    exact ⟨rfl, rfl⟩

/-! ### The opening -/

/-- The talkback ports opened and the cuts cleared (R101). -/
def Block.talkFreed : Block :=
  (s.openMarked.forAll s.talkPorts (fun n t => t.talkOpened n)).forAll (List.range 4) (fun m t => t.put (Reg.MB_STAT_CUT m) 0)

theorem Block.clocheOpenOp_eq : s.clocheOpenOp = if s.ports.shut then s.talkFreed.biasFollow else s := by
  have htalk : s.openMarked.talkPorts = s.talkPorts := by
    refine Block.talkPorts_of_only s.only_openMarked (fun x hx k => .inl ?_)
    have haddr : x.addr = 0x21040 := by
      simp only [Fld.of_cloche, List.mem_cons, List.not_mem_nil, or_false] at hx
      rcases hx with rfl | rfl <;> rfl
    simp only [haddr, Fld.of_port]
    omega
  rw [Block.talkFreed, ← htalk]
  unfold Block.clocheOpenOp
  cases s.ports.shut
  · rfl
  · rfl

/-- What the opening moves of the registers after those of the cloche itself, before the supplies rise. -/
theorem Block.only_talkFreed_openMarked : s.openMarked.only s.talkFreed (clochedFlds ++ cutFlds) [.cells, .ports] := by
  have hopened := Block.only_forAll s.talkPorts (fun n t => t.talkOpened n)
    (fun n hn t ht => Block.only_then ht (t.only_talkOpened n) (List.cons_subset.mpr ⟨List.mem_append_left _
      (List.mem_map_of_mem (List.mem_of_mem_filter hn)), List.nil_subset _⟩) (List.Subset.refl _))
    (s.openMarked.only_refl (clochedFlds ++ cutFlds) [.cells, .ports])
  exact Block.only_forAll _ _ (fun m hm _ ht => Block.only_put ht _ _ (by simp [Fld.of_supply]) (List.mem_append_right _ (List.mem_map_of_mem hm))) hopened

theorem Block.only_talkFreed : s.only s.talkFreed ([Reg.CLOCHE_STAT_SHUT, Reg.CLOCHE_STAT_OPENING] ++ clochedFlds ++ cutFlds) [.cells, .ports] := by
  rw [List.append_assoc]
  exact Block.only_then (Block.only_mono s.only_openMarked (List.subset_append_left _ _) (by simp)) s.only_talkFreed_openMarked
    (List.subset_append_right _ _) (List.Subset.refl _)

/-- The marks of the cloche stay as the ports are freed and the supplies rise. -/
theorem Block.talkFreed_mark {y : Fld} (hy : y.addr = 0x21040) : s.talkFreed.f y = s.openMarked.f y :=
  Block.only_f s.only_talkFreed_openMarked (fun x hx => (List.mem_append.mp hx).elim (clochedFlds_apart (by omega) x) (cutFlds_apart (by omega) x))

/-- The maps of the supplies stay. -/
theorem Block.talkFreed_biasPorts {m : Nat} (hm : m < 4) : s.talkFreed.biasPorts m = s.biasPorts m := by
  refine Block.biasPorts_of_only s.only_talkFreed (fun x hx k hk => .inl ?_)
  simp only [List.mem_append, List.mem_cons, List.not_mem_nil, or_false, mem_clochedFlds, mem_cutFlds, Fld.of_cloche] at hx
  simp only [Fld.of_supply]
  rcases hx with ((rfl | rfl) | ⟨n, hn, rfl⟩) | ⟨j, hj, rfl⟩ <;> dsimp only <;> omega

theorem Block.only_cutsCleared (t : Block) : t.only (t.forAll (List.range 4) (fun m b => b.put (Reg.MB_STAT_CUT m) 0)) cutFlds [] :=
  Block.only_forAll _ _ (fun m hm _ hb => Block.only_put hb _ _ (by simp [Fld.of_supply]) (List.mem_map_of_mem hm)) (t.only_refl _ _)

theorem Block.talkFreed_lid : (s.talkFreed.ports.shut, s.talkFreed.ports.opening) = (false, some s.time.now) := by
  have hcleared : s.talkFreed.ports = _ := (Block.only_cutsCleared (s.openMarked.forAll s.talkPorts (fun n t => t.talkOpened n))).2 .ports (by simp)
  have hstep (n : Nat) (t : Block) : ((t.talkOpened n).ports.shut, (t.talkOpened n).ports.opening) = (t.ports.shut, t.ports.opening) := by
    have hports : (t.cellsRestarted n).ports = t.ports := (t.only_cellsRestarted n).2 .ports (by simp)
    rw [← hports]
    rfl
  obtain ⟨hports, -, -⟩ := s.openMarked_facts
  rw [hcleared]
  refine (Block.forAll_keeps (fun t : Block => (t.ports.shut, t.ports.opening)) s.talkPorts (fun n t => t.talkOpened n) hstep s.openMarked).trans ?_
  rw [hports]

theorem Block.talkFreed_cut {m : Nat} (hm : m < 4) : s.talkFreed.f (Reg.MB_STAT_CUT m) = 0 := by
  have h := Block.forAll_each (fun t j => t.f (Reg.MB_STAT_CUT j)) (fun _ _ => 0) (fun m t => t.put (Reg.MB_STAT_CUT m) 0)
    (fun a t j => ?_) (List.range 4) List.nodup_range (s.openMarked.forAll s.talkPorts (fun n t => t.talkOpened n)) m
  · rwa [if_pos (List.mem_range.mpr hm)] at h
  · split
    · next h => rw [h, Block.f_put_self _ _ _ (by simp [Fld.of_supply]), Nat.zero_mod]
    · next h => rw [Block.f_put_apart _ _ (.inl (by simp only [Fld.of_supply]; omega)) (by simp [Fld.of_supply])]

variable {n} in
/-- Every talkback port restarts its cells; without a bias to wait for it ramps in after their discards (R101). -/
theorem Block.talkFreed_port (hn : n ∈ s.talkPorts) : s.talkFreed.f (Reg.UAP_STAT_CLOCHED n) = 0 ∧
    (s.talkFreed.grp n).discardTo = s.time.now + 16 * 32 ∧ (s.talkFreed.grp n).raws = [] ∧ (s.talkFreed.grp n).conv = none ∧
    (s.on (Reg.UAP_CFG_MBMAP n) = false → (s.inp n).waits = false →
      (s.talkFreed.inp n).held = false ∧ (s.talkFreed.inp n).rampAt = some (s.time.now + 16 * 40)) := by
  have hcleared := Block.only_cutsCleared (s.openMarked.forAll s.talkPorts (fun n t => t.talkOpened n))
  obtain ⟨t, ht, hopened⟩ := Block.forAll_at (fun t => t.talkView n) (fun n t => t.talkOpened n) hn (List.nodup_range.filter _)
    (fun a _ ha t => t.talkOpened_other a ha) s.openMarked
  obtain ⟨hports, -, -⟩ := s.openMarked_facts
  have hmarked := s.only_openMarked
  have hstart : s.openMarked.inp n = s.inp n := by unfold Block.inp; rw [hports]
  have hnow : s.openMarked.time = s.time := hmarked.2 .time (by simp)
  have hmap : s.openMarked.on (Reg.UAP_CFG_MBMAP n) = s.on (Reg.UAP_CFG_MBMAP n) :=
    Block.only_on hmarked (by simp [Fld.apart, Fld.of_cloche, Fld.of_port])
  simp only [Block.talkView, Prod.mk.injEq, hstart, hnow, hmap] at ht hopened
  obtain ⟨-, -, hinp, htmap, htnow⟩ := ht
  obtain ⟨hcloched, hgrp, hinpLoop, -, -⟩ := hopened
  have hself := t.talkOpened_self n
  rw [htmap, hinp, htnow, ← hcloched, ← hgrp, ← hinpLoop] at hself
  rw [Block.talkFreed, Block.only_f hcleared (cutFlds_apart (by simp only [Fld.of_port]; omega)),
    Block.grp_congr (hcleared.2 .cells (by simp)), Block.inp_congr (hcleared.2 .ports (by simp))]
  exact hself

end Open

/-! ### The supplies that rise -/

section Follow

variable (s : Block)

/-- One supply as the pump follows the mode (R606). -/
def Block.supplyFollowed (m : Nat) : Block :=
  if s.on (Reg.MB_CFG_EN m) && !s.on (Reg.MB_STAT_ILIM m) && !s.on (Reg.MB_STAT_CUT m) && s.biasRuns m && !(s.biasSt m).driven then s.driveBias m
  else if !(s.on (Reg.MB_CFG_EN m) && !s.on (Reg.MB_STAT_ILIM m) && !s.on (Reg.MB_STAT_CUT m) && s.biasRuns m) && (s.biasSt m).driven then s.loseBias m
  else s

theorem Block.biasFollow_eq : s.biasFollow = s.forAll (List.range 4) (fun m t => t.supplyFollowed m) := rfl

theorem Block.only_supplyFollowed (m : Nat) : s.only (s.supplyFollowed m) biasEvts [.ports] := by
  unfold Block.supplyFollowed
  split
  · exact s.only_driveBias m
  · split
    · exact s.only_loseBias m
    · exact s.only_refl _ _

theorem Block.only_biasFollow : s.only s.biasFollow biasEvts [.ports] := by
  rw [Block.biasFollow_eq]
  exact Block.only_forAll _ _ (fun m _ t ht => Block.only_trans ht (t.only_supplyFollowed m)) (s.only_refl _ _)

/-- What the ports keep beside the inputs and the supplies stays as the supplies follow the mode. -/
theorem Block.biasFollow_ports {β : Type} {π : Ports → β} (hins : ∀ p x, π { p with ins := x } = π p) (hbias : ∀ p x, π { p with bias := x } = π p) :
    π s.biasFollow.ports = π s.ports := by
  rw [Block.biasFollow_eq]
  refine Block.forAll_keeps (fun t : Block => π t.ports) (List.range 4) (fun m t => t.supplyFollowed m) (fun m t => ?_) s
  unfold Block.supplyFollowed
  split
  · exact t.driveBias_ports m hins hbias
  · split
    · exact t.loseBias_ports m hins hbias
    · rfl

/-- An input that no supply serves stays as the supplies follow the mode. -/
theorem Block.biasFollow_inp {n : Nat} (hn : ∀ m, m < 4 → n ∉ s.biasPorts m) : s.biasFollow.inp n = s.inp n := by
  have h : s.only s.biasFollow biasEvts [.ports] ∧ s.biasFollow.inp n = s.inp n := by
    rw [Block.biasFollow_eq]
    refine Block.forAll_induct (P := fun t => s.only t biasEvts [.ports] ∧ t.inp n = s.inp n) (List.range 4)
      (fun m t => t.supplyFollowed m) ⟨s.only_refl _ _, rfl⟩ ?_
    intro m hm t ⟨honly, hinp⟩
    refine ⟨Block.only_trans honly (t.only_supplyFollowed m), ?_⟩
    have hfree : n ∉ t.biasPorts m := by
      rw [Block.biasPorts_of_only honly (biasEvts_apart_map m)]
      exact hn m (List.mem_range.mp hm)
    rw [← hinp]
    unfold Block.supplyFollowed
    split
    · exact t.driveBias_inp m hfree
    · split
      · exact t.loseBias_inp m hfree
      · rfl
  exact h.2

end Follow

theorem clocheOpen_gives (s : State) : gives .clocheOpen s fun u =>
    if s.ports.shut then
      u.ports.shut = false ∧ u.ports.opening = some s.time.now ∧ u.f Reg.CLOCHE_STAT_SHUT = 0 ∧ u.on Reg.CLOCHE_STAT_OPENING = true ∧
      (∀ n, n ∈ s.talkPorts → u.f (Reg.UAP_STAT_CLOCHED n) = 0 ∧ (u.grp n).discardTo = s.time.now + 16 * 32 ∧ (u.grp n).raws = [] ∧ (u.grp n).conv = none) ∧
      (∀ n, n ∈ s.talkPorts → s.on (Reg.UAP_CFG_MBMAP n) = false → (s.inp n).waits = false → (∀ m, m < 4 → n ∉ s.biasPorts m) →
        (u.inp n).held = false ∧ (u.inp n).rampAt = some (s.time.now + 16 * 40)) ∧
      (∀ m, m < 4 → u.f (Reg.MB_STAT_CUT m) = 0) ∧
      s.only u openFlds [.cells, .ports]
    else u = s.toBlock := by
  refine gives_of_act (ok := true) (g := fun b => b.clocheOpenOp) rfl rfl ?_
  simp only [Block.clocheOpenOp_eq]
  split
  · have hfollow := s.talkFreed.only_biasFollow
    have hfreed := s.only_talkFreed
    have hlid := (s.talkFreed.biasFollow_ports (π := fun p => (p.shut, p.opening)) (fun _ _ => rfl) (fun _ _ => rfl)).trans s.talkFreed_lid
    rw [Prod.mk.injEq] at hlid
    obtain ⟨hshut, hopening⟩ := hlid
    obtain ⟨-, hmark, hmarkOpening⟩ := s.openMarked_facts
    refine ⟨hshut, hopening, ?_, ?_, fun n hn => ?_, fun n hn hfree hwaits hserved => ?_, fun m hm => ?_,
      Block.only_then (Block.only_mono hfreed (List.subset_append_left _ _) (List.Subset.refl _)) hfollow (List.subset_append_right _ _) (by simp)⟩
    · rw [Block.only_f hfollow (biasEvts_apart (by simp only [Fld.of_cloche]; omega)), Block.talkFreed_mark _ (by simp [Fld.of_cloche])]
      exact hmark
    · rw [Block.only_on hfollow (biasEvts_apart (by simp only [Fld.of_cloche]; omega)), Block.on, Block.talkFreed_mark _ (by simp [Fld.of_cloche])]
      exact hmarkOpening
    · obtain ⟨hcloched, hgrp⟩ := s.talkFreed_port hn
      rw [Block.only_f hfollow (biasEvts_apart (by simp only [Fld.of_port]; omega)), Block.grp_congr (hfollow.2 .cells (by simp))]
      exact ⟨hcloched, hgrp.1, hgrp.2.1, hgrp.2.2.1⟩
    · obtain ⟨-, -, -, -, hramp⟩ := s.talkFreed_port hn
      rw [Block.biasFollow_inp _ (fun m hm => ?_)]
      · exact hramp hfree hwaits
      · rw [Block.talkFreed_biasPorts _ hm]
        exact hserved m hm
    · rw [Block.only_f hfollow (biasEvts_apart (by simp only [Fld.of_supply]; omega))]
      exact s.talkFreed_cut hm
  · rfl

/-! ## CLOCHE_OPEN_DONE -/

section Done

variable (s : Block)

/-- Whether an input has ramped in since the cloche opened (R101). -/
def Block.rampedIn (n : Nat) : Bool := !(s.inp n).held && match (s.inp n).rampAt with
  | some t => s.reached (t + ticks rampTicks)
  | none => true

/-- The registers of the cloche once it has opened (R101, R107). -/
def Block.opened : Block :=
  (({ s with ports := { s.ports with opening := none } } : Block).put Reg.CLOCHE_STAT_OPENING 0).raise Reg.CLOCHE_EVT_OPEN

theorem Block.clocheOpenDoneOp_eq :
    s.clocheOpenDoneOp = if s.ports.opening.isSome && s.talkPorts.all (fun n => s.rampedIn n) then s.opened else s := by
  unfold Block.clocheOpenDoneOp
  cases s.ports.opening with
  | none => rfl
  | some _ => rfl

theorem Block.opened_facts : s.opened.ports = { s.ports with opening := none } ∧ s.opened.f Reg.CLOCHE_STAT_OPENING = 0 ∧
    s.opened.on Reg.CLOCHE_EVT_OPEN = true ∧ s.only s.opened [Reg.CLOCHE_STAT_OPENING, Reg.CLOCHE_EVT_OPEN] [.ports] := by
  have hports : s.only ({ s with ports := { s.ports with opening := none } } : Block) [Reg.CLOCHE_STAT_OPENING, Reg.CLOCHE_EVT_OPEN] [.ports] :=
    Block.only_ports (s.only_refl _ _) _ (by simp)
  unfold Block.opened
  refine ⟨by rw [Block.raise_ports, Block.put_ports], ?_, Block.on_raise_self _ _ (by simp [Fld.of_cloche]) (by simp [Fld.of_cloche]),
    Block.only_raise (Block.only_put hports _ _ (by simp [Fld.of_cloche]) (by simp)) _ (by simp [Fld.of_cloche]) (by simp)⟩
  rw [Block.raise_eq, Block.f_put_apart, Block.f_put_self, Nat.zero_mod] <;> simp [Fld.apart, Fld.of_cloche]

end Done

theorem clocheOpenDone_gives (s : State) : gives .clocheOpenDone s fun u =>
    if s.ports.opening.isSome && s.talkPorts.all (fun n => s.rampedIn n) then
      u.ports = { s.ports with opening := none } ∧ u.f Reg.CLOCHE_STAT_OPENING = 0 ∧ u.on Reg.CLOCHE_EVT_OPEN = true ∧
      s.only u [Reg.CLOCHE_STAT_OPENING, Reg.CLOCHE_EVT_OPEN] [.ports]
    else u = s.toBlock := by
  refine gives_of_act (ok := true) (g := fun b => b.clocheOpenDoneOp) rfl rfl ?_
  simp only [Block.clocheOpenDoneOp_eq]
  split
  · exact s.opened_facts
  · rfl

/-- Settles O31, command by command: the supplies' by the course of one supply and the inputs it holds, the cloche's by the loops over the talkback
ports and their supplies. -/
theorem microphoneSupplies : Obligations.MicrophoneSupplies :=
  ⟨⟨mbiasEnable_gives, biasSettled_gives, mbiasCurrentLimit_gives, mbiasOkLost_gives⟩, clocheShut_gives, clocheOpen_gives, clocheOpenDone_gives⟩

end Sys2Proof.Machine
end

section
/-! SUPPORT. Half-band chains: where their fields lie, what a step of one chain moves, its inputs, its counts of U, its restart, SRST and shift
writes (R108 to R131). -/

namespace Sys2Proof.Machine

/-! ## Where the fields of a chain lie -/

/-- The first register of a chain (R132). -/
def chainBase : ChainId → Nat
  | .dec n => 0x30000 + 0x40 * n
  | .int m => 0x30800 + 0x40 * m

/-- Where the fields lie that both kinds of chain have. -/
theorem Fld.of_chain (c : ChainId) :
    chainShift c = ⟨chainBase c + 0x4, 0, 24⟩ ∧ chainUnset c = ⟨chainBase c + 0x8, 0, 1⟩ ∧ chainLeft c = ⟨chainBase c + 0x8, 16, 15⟩ ∧
    chainDly c = ⟨chainBase c + 0xC, 0, 16⟩ ∧ chainSat c = ⟨chainBase c + 0x10, 0, 32⟩ ∧ chainSettled c = ⟨chainBase c + 0x18, 0, 1⟩ ∧
    chainSatEvt c = ⟨chainBase c + 0x18, 1, 1⟩ ∧ chainShiftEvt c = ⟨chainBase c + 0x18, 2, 1⟩ ∧
    chainRestarted c = ⟨chainBase c + 0x18, 3, 1⟩ := by
  cases c <;> and_intros <;> refine congrArg (Fld.mk · _ _) ?_ <;>
    simp only [chainBase, Reg.CHAIN_DSHIFT, Reg.CHAIN_DSTAT, Reg.CHAIN_DDLY, Reg.CHAIN_DSAT, Reg.CHAIN_DEVT, Reg.CHAIN_ISHIFT, Reg.CHAIN_ISTAT,
      Reg.CHAIN_IDLY, Reg.CHAIN_ISAT, Reg.CHAIN_IEVT] <;> omega

/-- OFS of a decimation chain. -/
theorem Fld.of_chainOfs (n : Nat) : Reg.CHAIN_DSTAT_OFS n = ⟨chainBase (.dec n) + 0x8, 8, 8⟩ :=
  congrArg (Fld.mk · _ _) (by simp only [chainBase, Reg.CHAIN_DSTAT]; omega)

/-- The chains' registers lie between those of the outputs and CHAIN_GLB. -/
theorem chainBase_bounds {c : ChainId} (h : chainOk c = true) : 0x30000 ≤ chainBase c ∧ chainBase c + 0x18 < 0x30F00 := by
  cases c <;> simp only [chainOk, decide_eq_true_eq] at h <;> simp only [chainBase] <;> omega

theorem Block.chain_congr {s t : Block} (h : t.chains = s.chains) (c : ChainId) : t.chain c = s.chain c := by unfold Block.chain; rw [h]

/-! ## What a step of one chain moves -/

/-- A step of chain `c`: other chains stay, registers outside `l` and other components stay, and `π` of the chain's record does. -/
structure Block.chainStep {β : Type} (c : ChainId) (l : List Fld) (π : ChainSt → β) (s u : Block) : Prop where
  kept : π (u.chain c) = π (s.chain c)
  others : ∀ d, chainIx d ≠ chainIx c → u.chain d = s.chain d
  frame : s.only u l [.chains]

namespace Block.chainStep

variable {β : Type} {c : ChainId} {l l' : List Fld} {π : ChainSt → β} {s t u : Block}

theorem refl (c : ChainId) (l : List Fld) (π : ChainSt → β) (s : Block) : s.chainStep c l π s := ⟨rfl, fun _ _ => rfl, s.only_refl _ _⟩

theorem trans (h : s.chainStep c l π t) (h' : t.chainStep c l' π u) (hl : l' ⊆ l) : s.chainStep c l π u :=
  ⟨h'.kept.trans h.kept, fun d hd => (h'.others d hd).trans (h.others d hd), Block.only_then h.frame h'.frame hl (List.Subset.refl _)⟩

theorem mono (h : s.chainStep c l π t) (hl : l ⊆ l') : s.chainStep c l' π t :=
  ⟨h.kept, h.others, Block.only_mono h.frame hl (List.Subset.refl _)⟩

/-- What is read from what a step keeps is kept. -/
theorem comp {γ : Type} (h : s.chainStep c l π t) (g : β → γ) : s.chainStep c l (fun x => g (π x)) t :=
  ⟨congrArg g h.kept, h.others, h.frame⟩

theorem modChain (h : s.chainStep c l π t) (g : ChainSt → ChainSt) (hg : ∀ x, π (g x) = π x) : s.chainStep c l π (t.modChain c g) :=
  ⟨by rw [Block.chain_modChain_self, hg, h.kept], fun d hd => (Block.chain_modChain_other _ _ hd).trans (h.others d hd),
    Block.only_modChain h.frame _ _ (by simp)⟩

theorem put (h : s.chainStep c l π t) (x : Fld) (v : Nat) (hw : x.lo + x.width ≤ 32) (hx : x ∈ l) : s.chainStep c l π (t.put x v) :=
  ⟨h.kept, h.others, Block.only_put h.frame x v hw hx⟩

theorem raise (h : s.chainStep c l π t) (x : Fld) (hw : x.lo + x.width ≤ 32) (hx : x ∈ l) : s.chainStep c l π (t.raise x) := h.put x 1 hw hx

theorem bump (h : s.chainStep c l π t) (x : Fld) (hw : x.lo + x.width ≤ 32) (hx : x ∈ l) : s.chainStep c l π (t.bump x) := by
  unfold Block.bump
  split
  · exact h.put x _ hw hx
  · exact h

theorem onlyIf (h : s.chainStep c l π t) {b : Bool} {g : Block → Block} (hg : b = true → s.chainStep c l π (g t)) :
    s.chainStep c l π (t.onlyIf b g) := by
  cases b
  · exact h
  · exact hg rfl

theorem time (h : s.chainStep c l π t) : t.time = s.time := h.frame.2 .time (by simp)

theorem tickNo (h : s.chainStep c l π t) : t.tickNo = s.tickNo := by rw [Block.tickNo, Block.tickNo, h.time]

end Block.chainStep

/-! ## Inputs of a chain -/

/-- The registers of a saturation (R110). -/
def chainSatFlds (c : ChainId) : List Fld := [chainSat c, chainSatEvt c]

/-- When a chain starts, and the restart that waits. -/
def ChainSt.phase (x : ChainSt) : Nat × Option (Nat × Bool) := (x.start, x.restart)

section Feed

variable {s t : Block}

theorem Block.countSat_step {c : ChainId} (h : s.chainStep c (chainSatFlds c) ChainSt.phase t) (sat : Bool) :
    s.chainStep c (chainSatFlds c) ChainSt.phase (t.countSat c sat) :=
  h.onlyIf fun _ => (h.bump _ (by simp [Fld.of_chain]) (by simp [chainSatFlds])).raise _ (by simp [Fld.of_chain]) (by simp [chainSatFlds])

theorem Block.pushStage_step {c : ChainId} (h : s.chainStep c (chainSatFlds c) ChainSt.phase t) (k : Nat) (item : Int × Byte) :
    s.chainStep c (chainSatFlds c) ChainSt.phase (t.pushStage c k item) := h.modChain _ fun _ => rfl

theorem Block.setTap_step {n : Nat} (h : s.chainStep (.dec n) (chainSatFlds (.dec n)) ChainSt.phase t) (v : Int) (tag : Byte) :
    s.chainStep (.dec n) (chainSatFlds (.dec n)) ChainSt.phase (t.setTap n v tag) := by
  unfold Block.setTap
  split
  · exact h
  · exact (Block.countSat_step h _).modChain _ fun _ => rfl

theorem Block.decRun_step {n : Nat} (h : s.chainStep (.dec n) (chainSatFlds (.dec n)) ChainSt.phase t) (i : Nat) (item : Int × Byte) (ks : List Nat) :
    s.chainStep (.dec n) (chainSatFlds (.dec n)) ChainSt.phase (t.decRun n i item ks) := by
  induction ks generalizing t item with
  | nil => exact h
  | cons k ks ih =>
    have hpush := Block.pushStage_step h k item
    rw [Block.decRun]
    dsimp only
    split
    · exact hpush
    · have hsat := Block.countSat_step hpush
      split
      · split
        · exact (Block.setTap_step (hsat _) _ _).modChain _ fun _ => rfl
        · exact (hsat _).modChain _ fun _ => rfl
      · split
        · exact ih (Block.setTap_step (hsat _) _ _) _
        · exact ih (hsat _) _

theorem Block.decFeed_step {n : Nat} (h : s.chainStep (.dec n) (chainSatFlds (.dec n)) ChainSt.phase t) (i : Nat) :
    s.chainStep (.dec n) (chainSatFlds (.dec n)) ChainSt.phase (t.decFeed n i) := by
  unfold Block.decFeed
  split
  · exact h
  · exact Block.decRun_step h _ _ _

theorem Block.intRun_step {m : Nat} (h : s.chainStep (.int m) (chainSatFlds (.int m)) ChainSt.phase t) (i : Nat) (ks : List Nat) :
    s.chainStep (.int m) (chainSatFlds (.int m)) ChainSt.phase (t.intRun m i ks) := by
  induction ks generalizing t with
  | nil => exact h
  | cons k ks ih =>
    rw [Block.intRun]
    refine ih ?_
    split
    · exact h
    · cases ks <;> exact (Block.countSat_step h _).modChain _ fun _ => rfl

theorem Block.intFeed_step {m : Nat} (h : s.chainStep (.int m) (chainSatFlds (.int m)) ChainSt.phase t) :
    s.chainStep (.int m) (chainSatFlds (.int m)) ChainSt.phase (t.intFeed m) := by
  unfold Block.intFeed
  dsimp only
  split
  · exact h
  · exact Block.intRun_step (Block.pushStage_step h _ _) _ _

end Feed

/-! ## Counts of U -/

/-- The registers in which a chain shows that its outputs are marked (R127, R128). -/
def chainCountFlds (c : ChainId) : List Fld := [chainLeft c, chainUnset c]

/-- A count of outputs tagged U begins: from tick `v`, where one is given, and until then `old` outputs of an earlier count (R127, R129). -/
def Block.countBegin (s : Block) (c : ChainId) (n : Nat) (v : Option Nat) (old : Nat) : Block :=
  ((s.put (chainLeft c) n).raise (chainUnset c)).modChain c (fun x => { x with uAt := v, uOld := old })

/-- The high-rate tap of a decimation chain counts its own outputs (R127). -/
def Block.tapCount (s : Block) (c : ChainId) (b : Bool) : Block :=
  match c with
  | .dec n => s.onlyIf b (fun s => s.modChain c (fun x => { x with tapLeft := s.tapNU n }))
  | .int _ => s

section Count

variable {β : Type} {c : ChainId} {l : List Fld} {π : ChainSt → β} {s t : Block} {n old : Nat} {v : Option Nat} {b : Bool}

theorem Block.startU_eq (s : Block) (c : ChainId) : s.startU c = (s.countBegin c (s.chainNU c) none 0).tapCount c true := by
  cases c <;> rfl

theorem Block.shiftU_eq (s : Block) (c : ChainId) (changed : List Nat) :
    ∃ n v old, s.shiftU c changed = (s.countBegin c n (some v) old).tapCount c (changed.any (· ≤ 6)) := by
  cases c <;> exact ⟨_, _, _, rfl⟩

/-- The beginning of a count moves only the chain's counts of U. -/
theorem Block.countBegin_step (h : s.chainStep c l π t) (hl : chainCountFlds c ⊆ l)
    (hπ : ∀ x v old k, π { x with uAt := v, uOld := old, tapLeft := k } = π x) :
    s.chainStep c l π ((t.countBegin c n v old).tapCount c b) := by
  have hleft := h.put (chainLeft c) n (by simp [Fld.of_chain]) (hl (by simp [chainCountFlds]))
  have hunset := hleft.raise (chainUnset c) (by simp [Fld.of_chain]) (hl (by simp [chainCountFlds]))
  have hcount : s.chainStep c l π (t.countBegin c n v old) := hunset.modChain _ fun x => hπ x v old x.tapLeft
  cases c with
  | dec i =>
    cases b with
    | false => exact hcount
    | true => exact hcount.modChain _ fun x => hπ x x.uAt x.uOld _
  | int m => exact hcount

theorem Block.tapCount_on (x : Fld) : (s.tapCount c b).on x = s.on x := by
  cases c <;> cases b <;> rfl

theorem Block.tapCount_uAt : ((s.tapCount c b).chain c).uAt = (s.chain c).uAt := by
  cases c <;> cases b <;> simp [Block.tapCount]

theorem Block.countBegin_unset : ((s.countBegin c n v old).tapCount c b).on (chainUnset c) = true := by
  rw [Block.tapCount_on, Block.countBegin, Block.modChain_on]
  exact Block.on_raise_self _ _ (by simp [Fld.of_chain]) (by simp [Fld.of_chain])

theorem Block.countBegin_uAt : (((s.countBegin c n v old).tapCount c b).chain c).uAt = v := by
  rw [Block.tapCount_uAt, Block.countBegin, Block.chain_modChain_self]

end Count

/-! ## Restarts -/

/-- The registers of a chain's delay (R117, R123). -/
def chainDelayFlds (c : ChainId) : List Fld := chainDly c :: (match c with
  | .dec n => [Reg.CHAIN_DSTAT_OFS n]
  | .int _ => [])

section Restart

variable {β : Type} {l : List Fld} {π : ChainSt → β} {s t : Block} (c : ChainId) (i : Nat) (graft : Bool)

theorem Block.setChainDelay_step (h : s.chainStep c l π t) (hl : chainDelayFlds c ⊆ l) : s.chainStep c l π (t.setChainDelay c i graft) := by
  cases c with
  | dec n =>
    unfold Block.setChainDelay
    dsimp only
    refine (h.put (Reg.CHAIN_DSTAT_OFS n) _ ?_ (hl ?_)).put (chainDly (.dec n)) _ ?_ (hl ?_) <;> simp [Fld.of_chain, Fld.of_chainOfs, chainDelayFlds]
  | int m => exact h.put (chainDly (.int m)) _ (by simp [Fld.of_chain]) (hl (by simp [chainDelayFlds]))

/-- What a restart does to a chain's record: cleared state and a new phase (R119 to R121). -/
def Block.chainCleared (s : Block) : Block := (s.clearChain c).modChain c (fun x => { x with start := i, restart := none })

/-- A chain that has restarted, before its first input (R119 to R125). -/
def Block.chainAnew (s : Block) : Block :=
  (((s.chainCleared c i).startU c).setChainDelay c i graft).onlyIf graft (fun s => s.raise (chainRestarted c))

/-- The first input of a chain that restarts, where its tick is the one that runs. -/
def Block.chainFirstInput (s : Block) : Block :=
  if i ≠ s.tickNo || !s.audioOn then s else
  match c with
  | .dec n => s.decFeed n i
  | .int m => s.onlyIf (s.on (Reg.CHAIN_ICFG_HRT m) || !s.time.graphDue) (fun s => s.intFeed m)

theorem Block.restartChain_eq (s : Block) : s.restartChain c i graft = (s.chainAnew c i graft).chainFirstInput c i := rfl

/-- The registers that a restart moves (R119 to R125, R128). -/
def chainRestartFlds (c : ChainId) : List Fld :=
  [chainLeft c, chainUnset c, chainRestarted c, chainDly c, chainSat c, chainSatEvt c] ++ (match c with
    | .dec n => [Reg.CHAIN_DSTAT_OFS n]
    | .int _ => [])

theorem chainRestartFlds_parts : chainCountFlds c ⊆ chainRestartFlds c ∧ chainDelayFlds c ⊆ chainRestartFlds c ∧
    chainSatFlds c ⊆ chainRestartFlds c := by
  cases c <;> simp [chainCountFlds, chainDelayFlds, chainSatFlds, chainRestartFlds]

/-- A chain's phase, its state and the output it has formed. -/
def ChainSt.fresh (x : ChainSt) : (Nat × Option (Nat × Bool)) × Tab (List (Int × Byte)) × Option Sample := (x.phase, x.hist, x.ready)

theorem Block.chainCleared_fresh (s : Block) : ((s.chainCleared c i).chain c).fresh = ((i, none), [], none) := by
  simp [Block.chainCleared, Block.clearChain, ChainSt.fresh, ChainSt.phase]

theorem Block.chainCleared_step (s : Block) : s.chainStep c (chainRestartFlds c) (fun _ => ()) (s.chainCleared c i) :=
  have hclear : s.chainStep c (chainRestartFlds c) (fun _ => ()) (s.clearChain c) := (Block.chainStep.refl c _ _ s).modChain _ fun _ => rfl
  hclear.modChain _ fun _ => rfl

/-- From its cleared state on, a restart keeps the chain's phase and state. -/
theorem Block.chainAnew_step (s : Block) : (s.chainCleared c i).chainStep c (chainRestartFlds c) ChainSt.fresh (s.chainAnew c i graft) := by
  obtain ⟨hcount, hdelay, -⟩ := chainRestartFlds_parts c
  have hstart : (s.chainCleared c i).chainStep c (chainRestartFlds c) ChainSt.fresh ((s.chainCleared c i).startU c) := by
    rw [Block.startU_eq]
    exact Block.countBegin_step (.refl c _ _ _) hcount fun _ _ _ _ => rfl
  have hdone := Block.setChainDelay_step c i graft hstart hdelay
  exact hdone.onlyIf fun _ => hdone.raise _ (by simp [Fld.of_chain]) (by simp [chainRestartFlds])

theorem Block.chainAnew_restarted (s : Block) : (s.chainAnew c i true).on (chainRestarted c) = true :=
  Block.on_raise_self _ _ (by simp [Fld.of_chain]) (by simp [Fld.of_chain])

/-- UNSET shares no bit with the registers of the delay and the saturations, nor with RESTART. -/
theorem chainUnset_apart : ∀ x ∈ chainRestarted c :: (chainDelayFlds c ++ chainSatFlds c), x.apart (chainUnset c) := by
  cases c <;> simp [chainDelayFlds, chainSatFlds, Fld.apart, Fld.of_chain, Fld.of_chainOfs]

theorem Block.chainAnew_unset (s : Block) : (s.chainAnew c i graft).on (chainUnset c) = true := by
  have hdelay := Block.setChainDelay_step c i graft (.refl c (chainRestarted c :: chainDelayFlds c) ChainSt.phase ((s.chainCleared c i).startU c))
    (List.subset_cons_self _ _)
  have hdone := hdelay.onlyIf (b := graft) (g := fun s => s.raise (chainRestarted c)) fun _ =>
    hdelay.raise (chainRestarted c) (by simp [Fld.of_chain]) (by simp)
  have hunset : ((s.chainCleared c i).startU c).on (chainUnset c) = true := by rw [Block.startU_eq, Block.countBegin_unset]
  rw [← hunset]
  exact Block.only_on hdone.frame fun x hx => chainUnset_apart c x (List.mem_append_left (chainSatFlds c) hx)

theorem Block.chainFirstInput_step {s t : Block} (h : s.chainStep c (chainSatFlds c) ChainSt.phase t) :
    s.chainStep c (chainSatFlds c) ChainSt.phase (t.chainFirstInput c i) := by
  unfold Block.chainFirstInput
  split
  · exact h
  · cases c with
    | dec n => exact Block.decFeed_step h i
    | int m => exact h.onlyIf fun _ => Block.intFeed_step h

/-- No input is taken behind the restart's tick, or where the audio paths rest. -/
theorem Block.chainFirstInput_idle (s : Block) (h : i < s.tickNo ∨ s.audioOn = false) : s.chainFirstInput c i = s := by
  refine if_pos ?_
  rcases h with h | h
  · simp [h.ne]
  · simp [h]

end Restart

section Restarted

variable (c : ChainId) (i : Nat) (graft : Bool) (s : Block)

/-- The mode in force stays across a step of a chain. -/
theorem Block.chainStep.audioOn {β : Type} {c : ChainId} {l : List Fld} {π : ChainSt → β} {s t : Block} (h : s.chainStep c l π t)
    (hl : ∀ x ∈ l, 0x30000 ≤ x.addr) : t.audioOn = s.audioOn := by
  have hbase : t.base = s.base := Block.only_f h.frame fun x hx => .inl fun he => by
    have hx := hl x hx
    simp [he, Reg.PWR_MODE_BASE, Reg.PWR_MODE] at hx
  simp only [Block.audioOn, hbase]

theorem chainRestartFlds_high {c : ChainId} (hc : chainOk c = true) : ∀ x ∈ chainRestartFlds c, 0x30000 ≤ x.addr := by
  have hbounds := chainBase_bounds hc
  cases c <;> simp [chainRestartFlds, Fld.of_chain, Fld.of_chainOfs] <;> omega

theorem Block.restartChain_step : s.chainStep c (chainRestartFlds c) (fun _ => ()) (s.restartChain c i graft) := by
  obtain ⟨-, -, hsat⟩ := chainRestartFlds_parts c
  have hanew := s.chainAnew_step c i graft
  have hfed := Block.chainFirstInput_step c i (.refl c _ _ (s.chainAnew c i graft))
  have hcleared := s.chainCleared_step c i
  rw [Block.restartChain_eq]
  exact ⟨rfl, fun d hd => by rw [hfed.others d hd, hanew.others d hd, hcleared.others d hd],
    Block.only_then (Block.only_trans hcleared.frame hanew.frame) hfed.frame hsat (List.Subset.refl _)⟩

theorem Block.restartChain_phase : ((s.restartChain c i graft).chain c).phase = (i, none) := by
  have hanew := (s.chainAnew_step c i graft).kept
  rw [s.chainCleared_fresh c i] at hanew
  rw [Block.restartChain_eq, (Block.chainFirstInput_step c i (.refl c _ _ _)).kept]
  exact congrArg Prod.fst hanew

/-- Without an input of this tick the chain stands at zero state. -/
theorem Block.restartChain_idle (hc : chainOk c = true) (h : i < s.tickNo ∨ s.audioOn = false) :
    ((s.restartChain c i graft).chain c).hist = [] ∧ ((s.restartChain c i graft).chain c).ready = none := by
  have hanew := s.chainAnew_step c i graft
  have hcleared := s.chainCleared_step c i
  have htick : (s.chainAnew c i graft).tickNo = s.tickNo := hanew.tickNo.trans hcleared.tickNo
  have haudio : (s.chainAnew c i graft).audioOn = s.audioOn := by
    rw [hanew.audioOn (chainRestartFlds_high hc), hcleared.audioOn (chainRestartFlds_high hc)]
  have hfresh := hanew.kept
  rw [s.chainCleared_fresh c i] at hfresh
  rw [Block.restartChain_eq, Block.chainFirstInput_idle _ _ _ (by rwa [htick, haudio])]
  exact ⟨congrArg (·.2.1) hfresh, congrArg (·.2.2) hfresh⟩

/-- A field that a restart's first input leaves alone reads as it does before. -/
theorem Block.restartChain_on {x : Fld} (hx : ∀ y ∈ chainSatFlds c, y.apart x) :
    (s.restartChain c i graft).on x = (s.chainAnew c i graft).on x := by
  rw [Block.restartChain_eq, Block.only_on (Block.chainFirstInput_step c i (.refl c _ _ (s.chainAnew c i graft))).frame hx]

theorem Block.restartChain_marks : (s.restartChain c i graft).on (chainUnset c) = true ∧
    (graft = true → (s.restartChain c i graft).on (chainRestarted c) = true) := by
  refine ⟨?_, ?_⟩
  · rw [s.restartChain_on c i graft fun y hy => chainUnset_apart c y (by simp [hy]), s.chainAnew_unset]
  · rintro rfl
    rw [s.restartChain_on c i true (by simp [chainSatFlds, Fld.apart, Fld.of_chain]), s.chainAnew_restarted]

end Restarted

/-! ## CHAIN_RESTART -/

theorem Block.chainRestartOp_eq {s : Block} {c : ChainId} {i : Nat} {graft : Bool} (h : (s.chain c).restart = some (i, graft)) :
    s.chainRestartOp c = if i ≤ s.tickNo then (s.modChain c (fun x => { x with restart := none })).restartChain c i graft else s := by
  rw [Block.chainRestartOp, h]

theorem Block.chainRestartOp_none {s : Block} {c : ChainId} (h : (s.chain c).restart = none) : s.chainRestartOp c = s := by
  rw [Block.chainRestartOp, h]

theorem chainRestart_gives (s : State) (c : ChainId) (hc : chainOk c = true) : gives (.chainRestart c) s fun u =>
    ((s.chain c).restart = none → u = s.toBlock) ∧
    (∀ t graft, (s.chain c).restart = some (t, graft) →
      if t ≤ s.tickNo then
        (u.chain c).start = t ∧ (u.chain c).restart = none ∧ u.on (chainUnset c) = true ∧
        (t < s.tickNo ∨ s.audioOn = false → (u.chain c).hist = [] ∧ (u.chain c).ready = none) ∧
        (graft = true → u.on (chainRestarted c) = true) ∧ (∀ d, chainIx d ≠ chainIx c → u.chain d = s.chain d) ∧
        s.only u (chainRestartFlds c) [.chains]
      else u = s.toBlock) := by
  refine gives_of_act (g := fun b => b.chainRestartOp c) rfl hc ⟨Block.chainRestartOp_none, fun t graft h => ?_⟩
  have hop := Block.chainRestartOp_eq h
  split
  · next hdue =>
    rw [if_pos hdue] at hop
    have hfirst : s.chainStep c (chainRestartFlds c) (fun _ => ()) (s.modChain c fun x => { x with restart := none }) :=
      (Block.chainStep.refl c _ _ s.toBlock).modChain _ fun _ => rfl
    have hstep := hfirst.trans (Block.restartChain_step c t graft _) (List.Subset.refl _)
    have hphase := Block.restartChain_phase c t graft (s.modChain c fun x => { x with restart := none })
    obtain ⟨hunset, hgraft⟩ := Block.restartChain_marks c t graft (s.modChain c fun x => { x with restart := none })
    have hidle := Block.restartChain_idle c t graft (s.modChain c fun x => { x with restart := none }) hc
    rw [hfirst.tickNo, hfirst.audioOn (chainRestartFlds_high hc)] at hidle
    rw [hop]
    exact ⟨congrArg Prod.fst hphase, congrArg Prod.snd hphase, hunset, hidle, hgraft, hstep.others, hstep.frame⟩
  · next hdue => rwa [if_neg hdue] at hop

/-! ## SRST and CHAIN_SHIFT_WRITE -/

theorem srst_gives (s : State) (c : ChainId) (hc : chainOk c = true) (hcore : s.coreOn = true) : gives (.srst c) s fun u =>
    if s.chainRuns c && (s.chain c).restart.isNone && !((s.chain c).start = s.tickNo && (s.chain c).cut.isSome) then
      u.chain c = { s.chain c with srst := true } ∧ (∀ d, chainIx d ≠ chainIx c → u.chain d = s.chain d) ∧ s.only u [] [.chains]
    else u = s.toBlock := by
  refine gives_of_hostWrite (g := fun b => b.srstOp c) rfl hcore hc ?_
  have hstep : s.chainStep c [] (fun _ => ()) (s.modChain c fun x => { x with srst := true }) :=
    (Block.chainStep.refl c _ _ s.toBlock).modChain _ fun _ => rfl
  split
  · next hfree =>
    have hop : s.srstOp c = s.modChain c fun x => { x with srst := true } := if_neg (by simpa [imp_iff_not_or] using hfree)
    rw [hop]
    exact ⟨Block.chain_modChain_self _ _ _, hstep.others, hstep.frame⟩
  · next hbusy => exact if_pos (by simpa [Option.isSome_iff_ne_none, or_iff_not_imp_left] using hbusy)

section Shift

variable (s : Block) (c : ChainId) (w : Nat)

/-- The stages that a chain runs stay where its shift is stored: their number and order come from other registers (R113 to R116). -/
theorem Block.chainStages_shift {c : ChainId} (hc : chainOk c = true) : (s.put (chainShift c) w).chainStages c = s.chainStages c := by
  have hbounds := chainBase_bounds hc
  have hput {y : Fld} (hy : chainBase c + 4 ≠ y.addr) : (s.put (chainShift c) w).f y = s.f y :=
    Block.f_put_addr _ _ _ _ (by rw [(Fld.of_chain c).1]; exact hy.symm)
  have hfg : (s.put (chainShift c) w).on Reg.CHAIN_GLB_CFG_FG = s.on Reg.CHAIN_GLB_CFG_FG :=
    congrArg (· != 0) (hput (by simp only [Reg.CHAIN_GLB_CFG_FG, Reg.CHAIN_GLB_CFG]; omega))
  unfold Block.chainStages
  rw [hfg]
  cases c with
  | dec n =>
    have hentry : (s.put (chainShift (.dec n)) w).on (Reg.CHAIN_DCFG_ENTRY n) = s.on (Reg.CHAIN_DCFG_ENTRY n) :=
      congrArg (· != 0) (hput (by simp only [chainBase, Reg.CHAIN_DCFG_ENTRY, Reg.CHAIN_DCFG]; omega))
    dsimp only
    rw [hentry]
  | int m =>
    have hhrt : (s.put (chainShift (.int m)) w).on (Reg.CHAIN_ICFG_HRT m) = s.on (Reg.CHAIN_ICFG_HRT m) :=
      congrArg (· != 0) (hput (by simp only [chainBase, Reg.CHAIN_ICFG_HRT, Reg.CHAIN_ICFG]; omega))
    have hsink : (s.put (chainShift (.int m)) w).f (Reg.CHAIN_ICFG_SINK m) = s.f (Reg.CHAIN_ICFG_SINK m) :=
      hput (by simp only [chainBase, Reg.CHAIN_ICFG_SINK, Reg.CHAIN_ICFG]; omega)
    dsimp only
    rw [hhrt, hsink]

/-- A stage takes a new shift (R109). -/
def Block.shiftMoves (k : Nat) : Bool := w % 2 ^ 24 / 2 ^ (3 * (k - 1)) % 8 != s.stageShift c k

theorem Block.chainShift_put : (s.put (chainShift c) w).f (chainShift c) = w % 2 ^ 24 := by
  rw [Block.f_put_self _ _ _ (by simp [Fld.of_chain]), (Fld.of_chain c).1]

theorem Block.stageShift_put (k : Nat) : (s.put (chainShift c) (w % 2 ^ 24)).stageShift c k = w % 2 ^ 24 / 2 ^ (3 * (k - 1)) % 8 := by
  rw [Block.stageShift, Block.chainShift_put, Nat.mod_mod]

/-- A shift write that stages of the chain take: a count of U begins, and SHIFT is set (R129). -/
def Block.shiftTaken (changed : List Nat) : Block := ((s.put (chainShift c) w).shiftU c changed).raise (chainShiftEvt c)

/-- A shift write on a running chain: the shifts are stored, and a stage of the chain that takes a new one begins a count of U (R129). -/
theorem Block.shiftWriteOp_eq {s : Block} {c : ChainId} (hc : chainOk c = true) (hruns : s.chainRuns c = true) : s.shiftWriteOp c (w % 2 ^ 24) =
    if (s.chainStages c).any (s.shiftMoves c w) then
      s.shiftTaken c (w % 2 ^ 24) ((s.chainStages c).filter (s.shiftMoves c w))
    else s.put (chainShift c) (w % 2 ^ 24) := by
  have hchanged : (s.chainStages c).filter (fun k => (s.put (chainShift c) (w % 2 ^ 24)).stageShift c k != s.f (chainShift c) / 2 ^ (3 * (k - 1)) % 8) =
      (s.chainStages c).filter (s.shiftMoves c w) := List.filter_congr fun k _ => by rw [Block.stageShift_put]; rfl
  have hempty : ((s.chainStages c).filter (s.shiftMoves c w)).isEmpty = !(s.chainStages c).any (s.shiftMoves c w) := by
    rw [Bool.eq_iff_iff, List.isEmpty_iff, List.filter_eq_nil_iff]
    simp
  unfold Block.shiftWriteOp
  simp only [hruns, Block.chainStages_shift _ _ hc, hchanged, hempty, Bool.not_true, Bool.false_eq_true, if_false]
  cases (s.chainStages c).any (s.shiftMoves c w) <;> rfl

theorem Block.shiftTaken_step (changed : List Nat) :
    s.chainStep c [chainShift c, chainLeft c, chainUnset c, chainShiftEvt c] ChainSt.hist (s.shiftTaken c w changed) := by
  obtain ⟨n, v, old, hcount⟩ := (s.put (chainShift c) w).shiftU_eq c changed
  rw [Block.shiftTaken, hcount]
  exact (Block.countBegin_step ((Block.chainStep.refl c _ _ s).put _ _ (by simp [Fld.of_chain]) (by simp)) (by simp [chainCountFlds])
    fun _ _ _ _ => rfl).raise _ (by simp [Fld.of_chain]) (by simp)

theorem Block.shiftTaken_marks (changed : List Nat) :
    (s.shiftTaken c w changed).f (chainShift c) = w % 2 ^ 24 ∧ (s.shiftTaken c w changed).on (chainUnset c) = true ∧
    (s.shiftTaken c w changed).on (chainShiftEvt c) = true ∧ ((s.shiftTaken c w changed).chain c).uAt.isSome = true := by
  obtain ⟨n, v, old, hcount⟩ := (s.put (chainShift c) w).shiftU_eq c changed
  have hcounted := Block.countBegin_step (n := n) (v := some v) (old := old) (b := changed.any (· ≤ 6))
    (.refl c (chainCountFlds c) ChainSt.hist (s.put (chainShift c) w)) (List.Subset.refl _) fun _ _ _ _ => rfl
  rw [Block.shiftTaken, hcount]
  refine ⟨?_, ?_, Block.on_raise_self _ _ (by simp [Fld.of_chain]) (by simp [Fld.of_chain]), ?_⟩
  · rw [Block.raise_eq, Block.f_put_apart _ _ (by simp [Fld.apart, Fld.of_chain]) (by simp [Fld.of_chain]),
      Block.only_f hcounted.frame (by simp [chainCountFlds, Fld.apart, Fld.of_chain]), Block.chainShift_put]
  · rw [Block.raise_eq, Block.on_put_apart _ _ (by simp [Fld.apart, Fld.of_chain]) (by simp [Fld.of_chain]), Block.countBegin_unset]
  · rw [Block.chain_raise, Block.countBegin_uAt]
    rfl

end Shift

theorem chainShiftWrite_gives (s : State) (c : ChainId) (w : Word) (hc : chainOk c = true) (hcore : s.coreOn = true) :
    gives (.chainShiftWrite c w) s fun u =>
    if s.chainRuns c then
      u.f (chainShift c) = w.toNat % 2 ^ 24 ∧
      ((s.chainStages c).any (fun k => w.toNat % 2 ^ 24 / 2 ^ (3 * (k - 1)) % 8 != s.stageShift c k) = false → s.only u [chainShift c] []) ∧
      ((s.chainStages c).any (fun k => w.toNat % 2 ^ 24 / 2 ^ (3 * (k - 1)) % 8 != s.stageShift c k) = true →
        u.on (chainUnset c) = true ∧ u.on (chainShiftEvt c) = true ∧ (u.chain c).uAt.isSome = true ∧ (u.chain c).hist = (s.chain c).hist) ∧
      (∀ d, chainIx d ≠ chainIx c → u.chain d = s.chain d) ∧
      s.only u [chainShift c, chainLeft c, chainUnset c, chainShiftEvt c] [.chains]
    else u = s.toBlock := by
  refine gives_of_hostWrite (g := fun b => b.shiftWriteOp c (w.toNat % 2 ^ 24)) rfl hcore hc ?_
  split
  · next hruns =>
    have hop := Block.shiftWriteOp_eq w.toNat hc hruns
    cases hany : (s.chainStages c).any (s.shiftMoves c w.toNat) with
    | false =>
      rw [hany, if_neg Bool.false_ne_true] at hop
      have hput : s.only (s.put (chainShift c) (w.toNat % 2 ^ 24)) [chainShift c] [] :=
        Block.only_put (s.only_refl _ _) _ _ (by simp [Fld.of_chain]) (by simp)
      rw [hop]
      exact ⟨by rw [Block.chainShift_put, Nat.mod_mod], fun _ => hput, fun h => absurd (hany.symm.trans h) (by simp), fun _ _ => rfl,
        Block.only_mono hput (by simp) (by simp)⟩
    | true =>
      rw [hany, if_pos rfl] at hop
      obtain ⟨hstored, hunset, hevent, hcount⟩ := s.shiftTaken_marks c (w.toNat % 2 ^ 24) ((s.chainStages c).filter (s.shiftMoves c w.toNat))
      have hstep := s.shiftTaken_step c (w.toNat % 2 ^ 24) ((s.chainStages c).filter (s.shiftMoves c w.toNat))
      rw [hop]
      exact ⟨by rw [hstored, Nat.mod_mod], fun h => absurd (hany.symm.trans h) (by simp), fun _ => ⟨hunset, hevent, hcount, hstep.kept⟩,
        hstep.others, hstep.frame⟩
  · next hoff => exact if_pos (by simpa using hoff)

end Sys2Proof.Machine
end

section
/-! SUPPORT. The output of a half-band chain: the count of U, the settling, and what takes the output (R121, R127, R128, R135, R288, R540); and O38. -/

namespace Sys2Proof.Machine

/-! ## The count and the settling -/

/-- The state of a chain, an SRST that waits, the output formed and the cut. -/
def ChainSt.held (x : ChainSt) : Tab (List (Int × Byte)) × Bool × Option Sample × Option Fade := (x.hist, x.srst, x.ready, x.cut)

section Counted

variable {s : Block} {c : ChainId}

theorem Block.countU_marked (hu : (s.chain c).uAt = none) (hl : s.f (chainLeft c) ≠ 0) :
    s.countU c = (s.put (chainLeft c) (s.f (chainLeft c) - 1), true) := by
  simp [Block.countU, hu, hl]

theorem Block.countU_clear (hu : (s.chain c).uAt = none) (hl : s.f (chainLeft c) = 0) : s.countU c = (s, false) := by
  simp [Block.countU, hu, hl]

theorem Block.countU_before {v : Nat} (hu : (s.chain c).uAt = some v) (hv : s.tickNo < v) :
    s.countU c = (s.modChain c (fun y => { y with uOld := y.uOld - 1 }), decide ((s.chain c).uOld ≠ 0)) := by
  simp [Block.countU, hu, hv]

theorem Block.countU_from {v : Nat} (hu : (s.chain c).uAt = some v) (hv : ¬ s.tickNo < v) :
    s.countU c = ((s.modChain c (fun y => { y with uAt := none, uOld := 0 })).put (chainLeft c) (s.f (chainLeft c) - 1),
      decide (s.f (chainLeft c) ≠ 0)) := by
  simp [Block.countU, hu, hv]

theorem Block.countU_step (s : Block) (c : ChainId) : s.chainStep c [chainLeft c] ChainSt.held (s.countU c).1 := by
  have hrefl := Block.chainStep.refl c [chainLeft c] ChainSt.held s
  cases hu : (s.chain c).uAt with
  | none =>
    by_cases hl : s.f (chainLeft c) = 0
    · rw [Block.countU_clear hu hl]
      exact hrefl
    · rw [Block.countU_marked hu hl]
      exact hrefl.put _ _ (by simp [Fld.of_chain]) (by simp)
  | some v =>
    by_cases hv : s.tickNo < v
    · rw [Block.countU_before hu hv]
      exact hrefl.modChain _ fun _ => rfl
    · rw [Block.countU_from hu hv]
      have hmod : s.chainStep c [chainLeft c] ChainSt.held (s.modChain c fun y => { y with uAt := none, uOld := 0 }) := hrefl.modChain _ fun _ => rfl
      exact hmod.put _ _ (by simp [Fld.of_chain]) (by simp)

/-- One output taken off the counts; the first without U, with no count to come, settles the chain (R127, R128). -/
def Block.outputCounted (s : Block) (c : ChainId) : Block :=
  (s.countU c).1.onlyIf (!(s.countU c).2 && ((s.countU c).1.chain c).uAt.isNone && (s.countU c).1.on (chainUnset c))
    (fun s => (s.put (chainUnset c) 0).raise (chainSettled c))

theorem Block.outputCounted_step (s : Block) (c : ChainId) :
    s.chainStep c [chainLeft c, chainUnset c, chainSettled c] ChainSt.held (s.outputCounted c) := by
  have hcount := (s.countU_step c).mono (l' := [chainLeft c, chainUnset c, chainSettled c]) (by simp)
  exact hcount.onlyIf fun _ => (hcount.put _ 0 (by simp [Fld.of_chain]) (by simp)).raise _ (by simp [Fld.of_chain]) (by simp)

theorem Block.outputCounted_marked (hu : (s.chain c).uAt = none) (hl : s.f (chainLeft c) ≠ 0) :
    s.outputCounted c = s.put (chainLeft c) (s.f (chainLeft c) - 1) := by
  rw [Block.outputCounted, Block.countU_marked hu hl]
  rfl

theorem Block.outputCounted_clear (hu : (s.chain c).uAt = none) (hl : s.f (chainLeft c) = 0) :
    s.outputCounted c = s.onlyIf (s.on (chainUnset c)) (fun s => (s.put (chainUnset c) 0).raise (chainSettled c)) := by
  rw [Block.outputCounted, Block.countU_clear hu hl]
  simp [hu]

theorem Block.outputCounted_before {v : Nat} (hu : (s.chain c).uAt = some v) (hv : s.tickNo < v) :
    s.outputCounted c = s.modChain c (fun y => { y with uOld := y.uOld - 1 }) := by
  rw [Block.outputCounted, Block.countU_before hu hv]
  simp [hu]

end Counted

/-! ## The output -/

section Output

variable (s : Block) (c : ChainId) (x : Sample)

/-- The chain as its output is taken; an SRST clears it first (R121). -/
def Block.outputTaken : Block := if (s.chain c).srst then (s.clearChain c).startU c else s.modChain c (fun y => { y with ready := none })

/-- The chain before its output is tagged: counted, and the fade-in of a cut begun (R127, R258, R259). -/
def Block.outputDue : Block :=
  let t := (s.outputTaken c).outputCounted c
  t.modChain c (fun y => { y with cut := y.cut.map (fun f => { f with at' := some (f.at'.getD t.time.now) }) })

/-- The output `x` as it is delivered (R121, R127, R259). -/
def Block.outputSample : Sample :=
  (s.outputDue c).faded ((s.outputDue c).chain c).cut (match c with | .int _ => true | .dec _ => false)
    (if ((s.outputTaken c).countU c).2 then (if (s.chain c).srst then Sample.zero else x).withTag tagU else if (s.chain c).srst then Sample.zero else x)

/-- The chain with its output delivered. -/
def Block.outputDone : Block := (s.outputDue c).modChain c (fun y => { y with out := s.outputSample c x })

/-- The ring of the Listen path, or a speaker's graph feed, takes the output (R288, R540). -/
def Block.outputOnward : Block :=
  match c with
  | .dec n => if s.lsn.running && s.f Reg.PWR_LSN_CFG_PORT = n then { s with lsn := { s.lsn with chain := (x :: s.lsn.chain).take 256 } } else s
  | .int m =>
    let sink := s.f (Reg.CHAIN_ICFG_SINK m)
    if sink = 0x12 || sink = 0x13 then s.modSpk (sink - 0x12) (fun y => { y with graph := x }) else s

end Output

section Delivered

variable {s : Block} {c : ChainId} {x : Sample}

theorem Block.chainOutputOp_idle (h : s.chainRuns c = false ∨ (s.chain c).ready = none) : s.chainOutputOp c = s := by
  rcases h with h | h <;> simp [Block.chainOutputOp, h]

theorem Block.chainOutputOp_eq (hruns : s.chainRuns c = true) (hready : (s.chain c).ready = some x) :
    s.chainOutputOp c = (s.outputDone c x).outputOnward c (s.outputSample c x) := by
  unfold Block.chainOutputOp
  simp only [hruns, hready]
  rfl

/-- The registers of an output (R127, R128). -/
def chainOutputFlds (c : ChainId) : List Fld := [chainLeft c, chainUnset c, chainSettled c]

theorem Block.outputTaken_of_srst (h : (s.chain c).srst = true) : s.outputTaken c = (s.clearChain c).startU c := if_pos h

theorem Block.outputTaken_plain (h : (s.chain c).srst = false) : s.outputTaken c = s.modChain c (fun y => { y with ready := none }) := by
  rw [Block.outputTaken, h]
  rfl

/-- An SRST: the state is zero, and the SRST is done (R121). -/
theorem Block.outputTaken_cleared (h : (s.chain c).srst = true) :
    ((s.outputTaken c).chain c).hist = [] ∧ ((s.outputTaken c).chain c).srst = false := by
  have hstart := (Block.countBegin_step (n := (s.clearChain c).chainNU c) (v := none) (old := 0) (b := true)
    (.refl c (chainCountFlds c) ChainSt.held (s.clearChain c)) (List.Subset.refl _) fun _ _ _ _ => rfl).kept
  have hclear : (s.clearChain c).chain c = { s.chain c with hist := [], ready := none, srst := false } := Block.chain_modChain_self _ _ _
  rw [← Block.startU_eq, ← Block.outputTaken_of_srst h, hclear] at hstart
  exact ⟨congrArg (·.1) hstart, congrArg (·.2.1) hstart⟩

theorem Block.outputTaken_step (s : Block) (c : ChainId) : s.chainStep c (chainOutputFlds c) (fun _ => ()) (s.outputTaken c) := by
  have hrefl := Block.chainStep.refl c (chainOutputFlds c) (fun _ => ()) s
  cases h : (s.chain c).srst with
  | true =>
    rw [Block.outputTaken_of_srst h, Block.startU_eq]
    exact Block.countBegin_step (hrefl.modChain _ fun _ => rfl) (by simp [chainCountFlds, chainOutputFlds]) fun _ _ _ _ => rfl
  | false =>
    rw [Block.outputTaken_plain h]
    exact hrefl.modChain _ fun _ => rfl

/-- Once its output is taken, a chain delivers it without a change of its state. -/
theorem Block.outputDone_step (s : Block) (c : ChainId) (x : Sample) :
    (s.outputTaken c).chainStep c (chainOutputFlds c) (fun y => (y.hist, y.srst, y.ready)) (s.outputDone c x) := by
  have hcounted := ((s.outputTaken c).outputCounted_step c).comp fun y => (y.1, y.2.1, y.2.2.1)
  have hdue : (s.outputTaken c).chainStep c (chainOutputFlds c) (fun y => (y.hist, y.srst, y.ready)) (s.outputDue c) := hcounted.modChain _ fun _ => rfl
  exact hdue.modChain _ fun _ => rfl

theorem Block.outputDone_f (y : Fld) : (s.outputDone c x).f y = ((s.outputTaken c).outputCounted c).f y := rfl

theorem Block.outputDone_out : ((s.outputDone c x).chain c).out = s.outputSample c x := by
  rw [Block.outputDone, Block.chain_modChain_self]

/-- An output under no cut and no SRST is the one formed, tagged U while a count tells. -/
theorem Block.outputSample_plain (hsrst : (s.chain c).srst = false) (hcut : (s.chain c).cut = none) :
    s.outputSample c x = if ((s.outputTaken c).countU c).2 then x.withTag tagU else x := by
  have hheld := ((s.outputTaken c).outputCounted_step c).kept
  have hcounted : (((s.outputTaken c).outputCounted c).chain c).cut = none := by
    rw [show (((s.outputTaken c).outputCounted c).chain c).cut = ((s.outputTaken c).chain c).cut from congrArg (·.2.2.2) hheld,
      Block.outputTaken_plain hsrst, Block.chain_modChain_self, hcut]
  have hdue : ((s.outputDue c).chain c).cut = none := by rw [Block.outputDue, Block.chain_modChain_self, hcounted, Option.map_none]
  unfold Block.outputSample
  rw [hdue, hsrst]
  rfl

/-! ## What follows the output -/

theorem Block.only_outputOnward (s : Block) (c : ChainId) (x : Sample) (l : List Fld) : s.only (s.outputOnward c x) l [.lsn, .spk, .dir] := by
  have hrefl := s.only_refl l [.lsn, .spk, .dir]
  cases c with
  | dec n =>
    unfold Block.outputOnward
    dsimp only
    split
    · exact Block.only_lsn hrefl _ (by simp)
    · exact hrefl
  | int m =>
    unfold Block.outputOnward
    dsimp only
    split
    · exact Block.only_modSpk hrefl _ _ (by simp)
    · exact hrefl

/-- The registers in which the matrix notes S and F of its inputs (R159). -/
def inputNoteFlds : List Fld := Reg.DIR_EVT_INSF :: (List.range 24).map Reg.DIR_GLB_INSF_IN.bit

theorem Block.only_presentOne {s t : Block} {ps : List Part} (h : s.only t inputNoteFlds ps) {i : Nat} (hi : i < 24) (x : Sample)
    (hp : Part.dir ∈ ps) : s.only (t.presentOne i x) inputNoteFlds ps := by
  unfold Block.presentOne
  refine Block.only_dir (Block.only_onlyIf h fun _ => ?_) _ hp
  refine Block.only_raise (Block.only_raise h _ ?_ ?_) _ (by decide) (by simp [inputNoteFlds])
  · simp only [Fld.bit, Reg.DIR_GLB_INSF_IN]
    omega
  · exact List.mem_cons_of_mem _ (List.mem_map_of_mem (List.mem_range.mpr hi))

theorem Block.presentOne_input (s : Block) {i : Nat} (hi : i < 24) (x : Sample) : (s.presentOne i x).dir.inputs.getD i {} = x := by
  simp [Block.presentOne, List.getD_eq_getElem?_getD, hi]

theorem inputNoteFlds_apart {y : Fld} (h : y.addr < 0x61810) : ∀ x ∈ inputNoteFlds, x.apart y := by
  intro x hx
  have hhigh : 0x61810 ≤ x.addr := by
    rcases List.mem_cons.mp hx with rfl | hx
    · decide
    · obtain ⟨i, -, rfl⟩ := List.mem_map.mp hx
      exact (by decide : 0x61810 ≤ Reg.DIR_GLB_INSF_IN.addr)
  exact .inl (by omega)

theorem Block.deliverOp_idle (h : s.chainRuns c = false ∨ (s.chain c).ready = none) : s.deliverOp c = s := by
  unfold Block.deliverOp
  rw [Block.chainOutputOp_idle h]
  cases c with
  | dec n => rfl
  | int m => rcases h with h | h <;> simp [h]

/-- What follows an output moves the Listen record, a speaker's graph feed and the matrix inputs alone. -/
theorem Block.deliverOp_only (hruns : s.chainRuns c = true) (hready : (s.chain c).ready = some x) :
    (s.outputDone c x).only (s.deliverOp c) inputNoteFlds [.lsn, .spk, .dir] := by
  have honward := (s.outputDone c x).only_outputOnward c (s.outputSample c x) inputNoteFlds
  unfold Block.deliverOp
  rw [Block.chainOutputOp_eq hruns hready]
  cases c with
  | dec n => exact honward
  | int m =>
    refine Block.only_onlyIf honward fun hsink => Block.only_presentOne honward ?_ _ (by simp)
    simp only [Bool.and_eq_true, decide_eq_true_eq] at hsink
    omega

/-- A chain that feeds a graph inject presents its output to the matrix (R135). -/
theorem Block.deliverOp_inject {m k : Nat} (hruns : s.chainRuns (.int m) = true) (hready : (s.chain (.int m)).ready = some x) (hk : k < 4)
    (hsink : s.f (Reg.CHAIN_ICFG_SINK m) = 0x14 + k) :
    (s.deliverOp (.int m)).dir.inputs.getD (20 + k) {} = ((s.deliverOp (.int m)).chain (.int m)).out := by
  have hop : s.deliverOp (.int m) = (s.chainOutputOp (.int m)).presentOne (20 + k) ((s.chainOutputOp (.int m)).chain (.int m)).out := by
    unfold Block.deliverOp
    simp [hruns, hready, hsink, Nat.add_comm, show k + 20 < 24 by omega]
  have hpresent := Block.only_presentOne ((s.chainOutputOp (.int m)).only_refl _ [.dir]) (show 20 + k < 24 by omega)
    ((s.chainOutputOp (.int m)).chain (.int m)).out (by simp)
  rw [hop, Block.presentOne_input _ (by omega), Block.chain_congr (hpresent.2 .chains (by simp))]

end Delivered

/-! ## CHAIN_OUTPUT -/

section Deliver

variable {s : Block} {c : ChainId} {x : Sample}

theorem Block.deliverOp_chain (hruns : s.chainRuns c = true) (hready : (s.chain c).ready = some x) (d : ChainId) :
    (s.deliverOp c).chain d = (s.outputDone c x).chain d :=
  Block.chain_congr ((Block.deliverOp_only hruns hready).2 .chains (by simp)) d

/-- A chain's register reads after CHAIN_OUTPUT as it does once the output has been counted. -/
theorem Block.deliverOp_f (hruns : s.chainRuns c = true) (hready : (s.chain c).ready = some x) {y : Fld} (hy : y.addr < 0x61810) :
    (s.deliverOp c).f y = ((s.outputTaken c).outputCounted c).f y :=
  (Block.only_f (Block.deliverOp_only hruns hready) (inputNoteFlds_apart hy)).trans (Block.outputDone_f y)

theorem chainOutputFlds_low (hc : chainOk c = true) :
    (chainLeft c).addr < 0x61810 ∧ (chainUnset c).addr < 0x61810 ∧ (chainSettled c).addr < 0x61810 := by
  have hbounds := chainBase_bounds hc
  simp only [Fld.of_chain]
  omega

theorem Block.deliverOp_step (s : Block) (c : ChainId) : (∀ d, chainIx d ≠ chainIx c → (s.deliverOp c).chain d = s.chain d) ∧
    s.only (s.deliverOp c) (chainOutputFlds c ++ inputNoteFlds) [.chains, .lsn, .spk, .dir] := by
  by_cases hidle : s.chainRuns c = false ∨ (s.chain c).ready = none
  · rw [Block.deliverOp_idle hidle]
    exact ⟨fun _ _ => rfl, s.only_refl _ _⟩
  · obtain ⟨hruns, hready⟩ := not_or.mp hidle
    obtain ⟨x, hready⟩ := Option.ne_none_iff_exists'.mp hready
    have hruns : s.chainRuns c = true := by simpa using hruns
    have htaken := s.outputTaken_step c
    have hdone := s.outputDone_step c x
    refine ⟨fun d hd => by rw [Block.deliverOp_chain hruns hready, hdone.others d hd, htaken.others d hd], ?_⟩
    exact Block.only_trans (Block.only_mono (Block.only_then htaken.frame hdone.frame (List.Subset.refl _) (List.Subset.refl _)) (by simp) (by simp))
      (Block.only_mono (Block.deliverOp_only hruns hready) (by simp) (by simp))

/-! ### An output with no SRST -/

section Plain

variable (hruns : s.chainRuns c = true) (hready : (s.chain c).ready = some x) (hsrst : (s.chain c).srst = false)
include hsrst

theorem Block.outputTaken_chain : (s.outputTaken c).chain c = { s.chain c with ready := none } := by
  rw [Block.outputTaken_plain hsrst, Block.chain_modChain_self]

theorem Block.outputTaken_f (y : Fld) : (s.outputTaken c).f y = s.f y := by
  rw [Block.outputTaken_plain hsrst, Block.modChain_f]

theorem Block.outputTaken_uAt : ((s.outputTaken c).chain c).uAt = (s.chain c).uAt := by
  rw [Block.outputTaken_chain hsrst]

include hruns hready

theorem Block.deliverOp_ready : ((s.deliverOp c).chain c).ready = none := by
  rw [Block.deliverOp_chain hruns hready,
    show ((s.outputDone c x).chain c).ready = ((s.outputTaken c).chain c).ready from congrArg (·.2.2) (s.outputDone_step c x).kept,
    Block.outputTaken_chain hsrst]

theorem Block.deliverOp_out (hcut : (s.chain c).cut = none) :
    ((s.deliverOp c).chain c).out = if ((s.outputTaken c).countU c).2 then x.withTag tagU else x := by
  rw [Block.deliverOp_chain hruns hready, Block.outputDone_out, Block.outputSample_plain hsrst hcut]

variable (hc : chainOk c = true)
include hc

/-- An output that LEFT still marks (R127). -/
theorem Block.deliverOp_marked (hu : (s.chain c).uAt = none) (hl : s.f (chainLeft c) ≠ 0) :
    (s.deliverOp c).f (chainLeft c) = s.f (chainLeft c) - 1 ∧ ((s.chain c).cut = none → ((s.deliverOp c).chain c).out = x.withTag tagU) := by
  obtain ⟨hlow, -, -⟩ := chainOutputFlds_low hc
  rw [← Block.outputTaken_uAt hsrst] at hu
  rw [← Block.outputTaken_f hsrst] at hl ⊢
  refine ⟨?_, fun hcut => by rw [Block.deliverOp_out hruns hready hsrst hcut, Block.countU_marked hu hl, if_pos rfl]⟩
  have hlt := (s.outputTaken c).f_lt (chainLeft c)
  rw [Block.deliverOp_f hruns hready hlow, Block.outputCounted_marked hu hl, Block.f_put_self _ _ _ (by simp [Fld.of_chain])]
  exact Nat.mod_eq_of_lt (by omega)

/-- An output that no count marks; the first one settles the chain (R128). -/
theorem Block.deliverOp_clear (hu : (s.chain c).uAt = none) (hl : s.f (chainLeft c) = 0) :
    (s.on (chainUnset c) = true → (s.deliverOp c).f (chainUnset c) = 0 ∧ (s.deliverOp c).on (chainSettled c) = true) ∧
    ((s.chain c).cut = none → ((s.deliverOp c).chain c).out = x) := by
  obtain ⟨-, hunset, hsettled⟩ := chainOutputFlds_low hc
  rw [← Block.outputTaken_uAt hsrst] at hu
  rw [← Block.outputTaken_f hsrst] at hl
  refine ⟨fun hon => ?_, fun hcut => by rw [Block.deliverOp_out hruns hready hsrst hcut, Block.countU_clear hu hl, if_neg Bool.false_ne_true]⟩
  rw [Block.on, ← Block.outputTaken_f hsrst, ← Block.on] at hon
  rw [Block.on, Block.deliverOp_f hruns hready hunset, Block.deliverOp_f hruns hready hsettled, ← Block.on, Block.outputCounted_clear hu hl, hon,
    Block.onlyIf_true]
  refine ⟨?_, Block.on_raise_self _ _ (by simp [Fld.of_chain]) (by simp [Fld.of_chain])⟩
  rw [Block.raise_eq, Block.f_put_apart _ _ (by simp [Fld.apart, Fld.of_chain]) (by simp [Fld.of_chain]),
    Block.f_put_self _ _ _ (by simp [Fld.of_chain]), Nat.zero_mod]

/-- An output before the first at a new shift: the earlier count marks it (R129). -/
theorem Block.deliverOp_before {v : Nat} (hu : (s.chain c).uAt = some v) (hv : s.tickNo < v) :
    (s.deliverOp c).f (chainLeft c) = s.f (chainLeft c) ∧ ((s.deliverOp c).chain c).uAt = some v ∧
    ((s.deliverOp c).chain c).uOld = (s.chain c).uOld - 1 ∧
    ((s.chain c).cut = none → ((s.deliverOp c).chain c).out = if (s.chain c).uOld = 0 then x else x.withTag tagU) := by
  obtain ⟨hlow, -, -⟩ := chainOutputFlds_low hc
  have htaken := Block.outputTaken_chain hsrst
  have huT : ((s.outputTaken c).chain c).uAt = some v := by rw [Block.outputTaken_uAt hsrst, hu]
  have hvT : (s.outputTaken c).tickNo < v := by rwa [(s.outputTaken_step c).tickNo]
  have hcounted := Block.outputCounted_before huT hvT
  have hdone : ((s.outputDone c x).chain c).uAt = some v ∧ ((s.outputDone c x).chain c).uOld = (s.chain c).uOld - 1 := by
    simp [Block.outputDone, Block.outputDue, hcounted, htaken, hu]
  rw [Block.deliverOp_f hruns hready hlow, hcounted, Block.modChain_f, Block.outputTaken_f hsrst]
  refine ⟨rfl, ?_, ?_, fun hcut => ?_⟩
  · rw [Block.deliverOp_chain hruns hready, hdone.1]
  · rw [Block.deliverOp_chain hruns hready, hdone.2]
  · rw [Block.deliverOp_out hruns hready hsrst hcut, Block.countU_before huT hvT, htaken]
    simp

end Plain

/-- After an SRST the output leaves the chain at zero state (R121). -/
theorem Block.deliverOp_cleared (hruns : s.chainRuns c = true) (hready : (s.chain c).ready = some x) (hsrst : (s.chain c).srst = true) :
    ((s.deliverOp c).chain c).hist = [] ∧ ((s.deliverOp c).chain c).srst = false := by
  obtain ⟨hhist, hsrst⟩ := Block.outputTaken_cleared hsrst
  have hdone := (s.outputDone_step c x).kept
  rw [Block.deliverOp_chain hruns hready, ← hsrst, ← hhist]
  exact ⟨congrArg (·.1) hdone, congrArg (·.2.1) hdone⟩

end Deliver

theorem chainOutput_gives (s : State) (c : ChainId) (hc : chainOk c = true) : gives (.chainOutput c) s fun u =>
    (s.chainRuns c = false ∨ (s.chain c).ready = none → u = s.toBlock) ∧
    (∀ x, s.chainRuns c = true → (s.chain c).ready = some x → (s.chain c).srst = false → (s.chain c).uAt = none →
      (u.chain c).ready = none ∧
      (s.f (chainLeft c) ≠ 0 → u.f (chainLeft c) = s.f (chainLeft c) - 1 ∧ ((s.chain c).cut = none → (u.chain c).out = x.withTag tagU)) ∧
      (s.f (chainLeft c) = 0 → (s.on (chainUnset c) = true → u.f (chainUnset c) = 0 ∧ u.on (chainSettled c) = true) ∧
        ((s.chain c).cut = none → (u.chain c).out = x))) ∧
    (∀ x v, s.chainRuns c = true → (s.chain c).ready = some x → (s.chain c).srst = false → (s.chain c).uAt = some v → s.tickNo < v →
      u.f (chainLeft c) = s.f (chainLeft c) ∧ (u.chain c).uAt = some v ∧ (u.chain c).uOld = (s.chain c).uOld - 1 ∧
      ((s.chain c).cut = none → (u.chain c).out = if (s.chain c).uOld = 0 then x else x.withTag tagU)) ∧
    (s.chainRuns c = true → (s.chain c).ready.isSome = true → (s.chain c).srst = true → (u.chain c).hist = [] ∧ (u.chain c).srst = false) ∧
    (∀ m k, c = .int m → k < 4 → s.f (Reg.CHAIN_ICFG_SINK m) = 0x14 + k → s.chainRuns c = true → (s.chain c).ready.isSome = true →
      u.dir.inputs.getD (20 + k) {} = (u.chain c).out) ∧
    (∀ d, chainIx d ≠ chainIx c → u.chain d = s.chain d) ∧
    s.only u (chainOutputFlds c ++ inputNoteFlds) [.chains, .lsn, .spk, .dir] := by
  obtain ⟨hothers, hframe⟩ := s.deliverOp_step c
  refine gives_of_act (g := fun b => b.deliverOp c) rfl hc ⟨Block.deliverOp_idle, ?_, ?_, ?_, ?_, hothers, hframe⟩
  · intro x hruns hready hsrst hu
    exact ⟨Block.deliverOp_ready hruns hready hsrst, Block.deliverOp_marked hruns hready hsrst hc hu,
      Block.deliverOp_clear hruns hready hsrst hc hu⟩
  · intro x v hruns hready hsrst
    exact Block.deliverOp_before hruns hready hsrst hc
  · intro hruns hready
    obtain ⟨x, hready⟩ := Option.isSome_iff_exists.mp hready
    exact Block.deliverOp_cleared hruns hready
  · rintro m k rfl hk hsink hruns hready
    obtain ⟨x, hready⟩ := Option.isSome_iff_exists.mp hready
    exact Block.deliverOp_inject hruns hready hk hsink

/-- Settles O38, command by command: an output by its count and what follows it, a restart by the cleared chain and its first input, a shift write by
the stages that take a new shift. -/
theorem halfBandChains : Obligations.HalfBandChains :=
  ⟨chainOutput_gives, srst_gives, chainShiftWrite_gives, chainRestart_gives⟩

end Sys2Proof.Machine
end

section
/-! SUPPORT. Crosspoints: what a request to act on a target does by what it meets, and the frame of every step of a crosspoint (R139 to R146). -/

namespace Sys2Proof.Machine

/-! ## Where the fields of a crosspoint lie -/

/-- Where the fields lie that a crosspoint's gain depends on (R162). -/
theorem Fld.of_xp (o i : Nat) :
    Reg.DIR_XP_GAIN o i = ⟨0x60000 + 0x80 * o + 4 * i, 0, 18⟩ ∧ Reg.DIR_XP_EN o i = ⟨0x60000 + 0x80 * o + 4 * i, 24, 1⟩ ∧
    Reg.DIR_OCTRL_ZCMODE o = ⟨0x61004 + 0x40 * o, 0, 1⟩ ∧ Reg.DIR_GLB_CTRL_HOLD = ⟨0x61800, 0, 1⟩ ∧ Reg.DIR_GLB_CTRL_ZCTO = ⟨0x61800, 8, 8⟩ ∧
    Reg.DIR_EVT_GTO = ⟨0x61810, 0, 1⟩ ∧ Reg.DIR_EVT_GOVR = ⟨0x61810, 1, 1⟩ :=
  ⟨rfl, rfl, rfl, rfl, rfl, rfl, rfl⟩

/-- GAIN shares no bit with the other fields that a gain write reads. -/
theorem xpGain_apart {o i : Nat} (ho : o < 24) (hi : i < 24) :
    ∀ y ∈ [Reg.DIR_OCTRL_ZCMODE o, Reg.DIR_GLB_CTRL_HOLD, Reg.DIR_GLB_CTRL_ZCTO], (Reg.DIR_XP_GAIN o i).apart y := by
  simp only [List.forall_mem_cons, Fld.apart, Fld.of_xp o i]
  simp
  omega

/-- GOVR shares no bit with the fields that a request reads, nor with HOLD. -/
theorem govr_apart {o i : Nat} (ho : o < 24) (hi : i < 24) :
    ∀ y ∈ [Reg.DIR_XP_GAIN o i, Reg.DIR_OCTRL_ZCMODE o, Reg.DIR_GLB_CTRL_ZCTO, Reg.DIR_GLB_CTRL_HOLD], Reg.DIR_EVT_GOVR.apart y := by
  simp only [List.forall_mem_cons, Fld.apart, Fld.of_xp o i]
  simp
  omega

/-! ## What a step of one crosspoint moves -/

/-- A step of crosspoint (o, i): the records of the other crosspoints stay, and so do registers outside `l` and other components. -/
structure Block.xpMoves (o i : Nat) (l : List Fld) (s u : Block) : Prop where
  others : ∀ p j, 24 * p + j ≠ 24 * o + i → u.xp p j = s.xp p j
  frame : s.only u l [.dir]

namespace Block.xpMoves

variable {o i : Nat} {l l' : List Fld} {s t u : Block}

theorem refl (o i : Nat) (l : List Fld) (s : Block) : s.xpMoves o i l s := ⟨fun _ _ _ => rfl, s.only_refl _ _⟩

theorem trans (h : s.xpMoves o i l t) (h' : t.xpMoves o i l' u) (hl : l' ⊆ l) : s.xpMoves o i l u :=
  ⟨fun p j hp => (h'.others p j hp).trans (h.others p j hp), Block.only_then h.frame h'.frame hl (List.Subset.refl _)⟩

theorem mono (h : s.xpMoves o i l t) (hl : l ⊆ l') : s.xpMoves o i l' t := ⟨h.others, Block.only_mono h.frame hl (List.Subset.refl _)⟩

theorem modXp (h : s.xpMoves o i l t) (g : XpSt → XpSt) : s.xpMoves o i l (t.modXp o i g) :=
  ⟨fun p j hp => (Block.xp_modXp_other _ _ hp).trans (h.others p j hp), Block.only_modXp h.frame _ _ _ (by simp)⟩

theorem put (h : s.xpMoves o i l t) (x : Fld) (v : Nat) (hw : x.lo + x.width ≤ 32) (hx : x ∈ l) : s.xpMoves o i l (t.put x v) :=
  ⟨h.others, Block.only_put h.frame x v hw hx⟩

theorem raise (h : s.xpMoves o i l t) (x : Fld) (hw : x.lo + x.width ≤ 32) (hx : x ∈ l) : s.xpMoves o i l (t.raise x) := h.put x 1 hw hx

/-- The records of the crosspoints of the matrix, (o, i) apart, stay. -/
theorem others_in (h : s.xpMoves o i l t) (hi : i < 24) : ∀ p j, p < 24 → j < 24 → (p ≠ o ∨ j ≠ i) → t.xp p j = s.xp p j :=
  fun p j _ hj hne => h.others p j (by omega)

theorem time (h : s.xpMoves o i l t) : t.time = s.time := h.frame.2 .time (by simp)

/-- What a request reads stays where GOVR alone is raised. -/
theorem reads (h : s.xpMoves o i [Reg.DIR_EVT_GOVR] t) {p j : Nat} (hp : p < 24) (hj : j < 24) {y : Fld}
    (hy : y ∈ [Reg.DIR_XP_GAIN p j, Reg.DIR_OCTRL_ZCMODE p, Reg.DIR_GLB_CTRL_ZCTO, Reg.DIR_GLB_CTRL_HOLD]) : t.f y = s.f y :=
  Block.only_f h.frame (by simpa using govr_apart hp hj y hy)

end Block.xpMoves

@[simp] theorem Block.xpTarget_modXp (s : Block) (o i p j : Nat) (h : XpSt → XpSt) : (s.modXp o i h).xpTarget p j = s.xpTarget p j := rfl

/-! ## A request to act on a target -/

/-- A request takes the target out of HOLD. -/
def Block.xpFreed (s : Block) (o i : Nat) : Block := s.modXp o i (fun x => { x with held := false })

/-- A target that meets a wait for a crossing: it cancels the wait, stands, or replaces the target that waits (R145). -/
def Block.xpRewrite (s : Block) (o i : Nat) : Block :=
  let g := s.xpTarget o i
  if g = (s.xp o i).cur then (s.modXp o i (fun y => { y with toAt := none, crossed := false, goal := g })).raise Reg.DIR_EVT_GOVR
  else if g = (s.xp o i).goal then s
  else (s.modXp o i (fun y => { y with goal := g })).raise Reg.DIR_EVT_GOVR

/-- A target that meets no change: nothing to do, a ramp, or a wait for a crossing (R141, R143). -/
def Block.xpAnew (s : Block) (o i at' : Nat) (seen : Bool) : Block :=
  let g := s.xpTarget o i
  let t := s.modXp o i (fun y => { y with goal := g })
  if g = (s.xp o i).cur then t
  else if s.on (Reg.DIR_OCTRL_ZCMODE o) || s.f Reg.DIR_GLB_CTRL_ZCTO = 0 then t.xpRamp o i (at' + 16)
  else t.modXp o i (fun y => { y with toAt := some (at' + 16 * (12288 * s.f Reg.DIR_GLB_CTRL_ZCTO)), crossed := seen })

section Request

variable (s : Block) (o i at' : Nat) (seen : Bool)

/-- The table of R145: what a target meets decides what becomes of it. -/
theorem Block.xpRequest_eq : s.xpRequest o i at' seen =
    if (s.xp o i).rampAt.isSome then s.xpFreed o i
    else if (s.xp o i).toAt.isSome && (s.xp o i).crossed then ((s.xpFreed o i).xpStep o i).xpAnew o i at' seen
    else if (s.xp o i).toAt.isSome then (s.xpFreed o i).xpRewrite o i
    else (s.xpFreed o i).xpAnew o i at' seen := by
  have hstep : (((s.xpFreed o i).xpStep o i).xp o i).toAt = none := by rw [Block.xpStep, Block.xp_modXp_self]
  have hfreed : (s.xpFreed o i).xp o i = { s.xp o i with held := false } := Block.xp_modXp_self ..
  have hramp : (s.xp o i).rampAt = ((s.xpFreed o i).xp o i).rampAt := by rw [hfreed]
  have hto : (s.xp o i).toAt = ((s.xpFreed o i).xp o i).toAt := by rw [hfreed]
  have hcrossed : (s.xp o i).crossed = ((s.xpFreed o i).xp o i).crossed := by rw [hfreed]
  rw [hramp, hto, hcrossed]
  unfold Block.xpRequest
  dsimp only
  rw [← Block.xpFreed]
  split
  · rfl
  split
  · rw [hstep]
    rfl
  · rfl

theorem Block.xpRewrite_moves : s.xpMoves o i [Reg.DIR_EVT_GOVR] (s.xpRewrite o i) := by
  have hset (g : XpSt → XpSt) : s.xpMoves o i [Reg.DIR_EVT_GOVR] ((s.modXp o i g).raise Reg.DIR_EVT_GOVR) :=
    ((Block.xpMoves.refl o i _ s).modXp g).raise _ (by decide) (by simp)
  unfold Block.xpRewrite
  dsimp only
  split
  · exact hset _
  split
  · exact .refl o i _ s
  · exact hset _

theorem Block.xpAnew_moves : s.xpMoves o i [] (s.xpAnew o i at' seen) := by
  have hgoal (g : XpSt → XpSt) : s.xpMoves o i [] (s.modXp o i g) := (Block.xpMoves.refl o i _ s).modXp g
  unfold Block.xpAnew Block.xpRamp
  dsimp only
  split
  · exact hgoal _
  split <;> exact (hgoal _).modXp _

theorem Block.xpRequest_moves : s.xpMoves o i [Reg.DIR_EVT_GOVR] (s.xpRequest o i at' seen) := by
  have hfreed : s.xpMoves o i [Reg.DIR_EVT_GOVR] (s.xpFreed o i) := (Block.xpMoves.refl o i _ s).modXp _
  rw [Block.xpRequest_eq]
  split
  · exact hfreed
  split
  · exact (hfreed.modXp _).trans (Block.xpAnew_moves ..) (List.nil_subset _)
  split
  · exact hfreed.trans (Block.xpRewrite_moves ..) (List.Subset.refl _)
  · exact hfreed.trans (Block.xpAnew_moves ..) (List.nil_subset _)

end Request

section Met

variable {s : Block} {o i at' : Nat} {seen : Bool}

/-! ### With no change met -/

theorem Block.xpAnew_same (h : s.xpTarget o i = (s.xp o i).cur) :
    (s.xpAnew o i at' seen).xp o i = { s.xp o i with goal := s.xpTarget o i } := by
  rw [Block.xpAnew, if_pos h, Block.xp_modXp_self]

theorem Block.xpAnew_ramps (h : s.xpTarget o i ≠ (s.xp o i).cur) (hz : s.on (Reg.DIR_OCTRL_ZCMODE o) = true ∨ s.f Reg.DIR_GLB_CTRL_ZCTO = 0) :
    (s.xpAnew o i at' seen).xp o i =
      { s.xp o i with goal := s.xpTarget o i, toAt := none, crossed := false, rampAt := some (at' + 16) } := by
  rw [Block.xpAnew, if_neg h, if_pos (by simpa using hz), Block.xpRamp, Block.xp_modXp_self, Block.xp_modXp_self]

theorem Block.xpAnew_waits (h : s.xpTarget o i ≠ (s.xp o i).cur) (hz : s.on (Reg.DIR_OCTRL_ZCMODE o) = false)
    (hzcto : s.f Reg.DIR_GLB_CTRL_ZCTO ≠ 0) : (s.xpAnew o i at' seen).xp o i =
      { s.xp o i with goal := s.xpTarget o i, toAt := some (at' + 16 * (12288 * s.f Reg.DIR_GLB_CTRL_ZCTO)), crossed := seen } := by
  rw [Block.xpAnew, if_neg h, if_neg (by simp [hz, hzcto]), Block.xp_modXp_self, Block.xp_modXp_self]

/-- Whatever comes of a target, the gain in force stays for now, and HOLD is not of its concern. -/
theorem Block.xpAnew_keeps : ((s.xpAnew o i at' seen).xp o i).cur = (s.xp o i).cur ∧ ((s.xpAnew o i at' seen).xp o i).held = (s.xp o i).held := by
  by_cases h : s.xpTarget o i = (s.xp o i).cur
  · simp [Block.xpAnew_same h]
  by_cases hz : s.on (Reg.DIR_OCTRL_ZCMODE o) = true ∨ s.f Reg.DIR_GLB_CTRL_ZCTO = 0
  · simp [Block.xpAnew_ramps h hz]
  · obtain ⟨hz, hzcto⟩ := not_or.mp hz
    simp [Block.xpAnew_waits h (by simpa using hz) hzcto]

theorem Block.xpAnew_goal : ((s.xpAnew o i at' seen).xp o i).goal = s.xpTarget o i := by
  by_cases h : s.xpTarget o i = (s.xp o i).cur
  · rw [Block.xpAnew_same h]
  by_cases hz : s.on (Reg.DIR_OCTRL_ZCMODE o) = true ∨ s.f Reg.DIR_GLB_CTRL_ZCTO = 0
  · rw [Block.xpAnew_ramps h hz]
  · obtain ⟨hz, hzcto⟩ := not_or.mp hz
    rw [Block.xpAnew_waits h (by simpa using hz) hzcto]

/-! ### With a wait met -/

theorem Block.xpRewrite_back (h : s.xpTarget o i = (s.xp o i).cur) :
    (s.xpRewrite o i).xp o i = { s.xp o i with toAt := none, crossed := false, goal := s.xpTarget o i } ∧
    (s.xpRewrite o i).on Reg.DIR_EVT_GOVR = true := by
  rw [Block.xpRewrite, if_pos h, Block.xp_raise, Block.xp_modXp_self]
  exact ⟨rfl, Block.on_raise_self _ _ (by decide) (by decide)⟩

theorem Block.xpRewrite_new (h : s.xpTarget o i ≠ (s.xp o i).cur) (hg : s.xpTarget o i ≠ (s.xp o i).goal) :
    (s.xpRewrite o i).xp o i = { s.xp o i with goal := s.xpTarget o i } ∧ (s.xpRewrite o i).on Reg.DIR_EVT_GOVR = true := by
  rw [Block.xpRewrite, if_neg h, if_neg hg, Block.xp_raise, Block.xp_modXp_self]
  exact ⟨rfl, Block.on_raise_self _ _ (by decide) (by decide)⟩

theorem Block.xpRewrite_held : ((s.xpRewrite o i).xp o i).held = (s.xp o i).held := by
  by_cases h : s.xpTarget o i = (s.xp o i).cur
  · rw [(Block.xpRewrite_back h).1]
  by_cases hg : s.xpTarget o i = (s.xp o i).goal
  · rw [Block.xpRewrite, if_neg h, if_pos hg]
  · rw [(Block.xpRewrite_new h hg).1]

/-! ### The request by what it meets -/

theorem Block.xp_xpFreed (s : Block) (o i : Nat) : (s.xpFreed o i).xp o i = { s.xp o i with held := false } := Block.xp_modXp_self ..

theorem Block.xpRequest_ramping (h : (s.xp o i).rampAt.isSome = true) : s.xpRequest o i at' seen = s.xpFreed o i := by
  rw [Block.xpRequest_eq, if_pos h]

theorem Block.xpRequest_rest (hr : (s.xp o i).rampAt = none) (ht : (s.xp o i).toAt = none) :
    s.xpRequest o i at' seen = (s.xpFreed o i).xpAnew o i at' seen := by
  simp [Block.xpRequest_eq, hr, ht]

theorem Block.xpRequest_waiting (hr : (s.xp o i).rampAt = none) (ht : (s.xp o i).toAt.isSome = true) (hc : (s.xp o i).crossed = false) :
    s.xpRequest o i at' seen = (s.xpFreed o i).xpRewrite o i := by
  simp [Block.xpRequest_eq, hr, ht, hc]

theorem Block.xpRequest_crossed (hr : (s.xp o i).rampAt = none) (ht : (s.xp o i).toAt.isSome = true) (hc : (s.xp o i).crossed = true) :
    s.xpRequest o i at' seen = ((s.xpFreed o i).xpStep o i).xpAnew o i at' seen := by
  simp [Block.xpRequest_eq, hr, ht, hc]

/-- A target that has been acted on is held no more. -/
theorem Block.xpRequest_held : ((s.xpRequest o i at' seen).xp o i).held = false := by
  rw [Block.xpRequest_eq]
  split
  · rw [Block.xp_xpFreed]
  split
  · rw [Block.xpAnew_keeps.2, Block.xpStep, Block.xp_modXp_self, Block.xp_xpFreed]
  split
  · rw [Block.xpRewrite_held, Block.xp_xpFreed]
  · rw [Block.xpAnew_keeps.2, Block.xp_xpFreed]

end Met

/-! ## The end of a ramp -/

section RampEnd

variable {s : Block} {o i : Nat}

/-- Before its 64 ticks are over, and with no ramp, nothing ends. -/
theorem Block.xpRampEndOp_idle (h : (s.xp o i).rampAt.any (fun t => s.reached (t + 16 * 64)) = false) : s.xpRampEndOp o i = s := by
  unfold Block.xpRampEndOp
  split
  · next t ht =>
    rw [ht] at h
    exact if_pos (by simpa [ticks] using h)
  · rfl

/-- The record of a crosspoint whose ramp is over (R142). -/
def Block.xpRamped (s : Block) (o i : Nat) : Block := s.modXp o i (fun x => { x with cur := x.goal, rampAt := none, crossed := false })

theorem Block.xp_xpRamped (s : Block) (o i : Nat) :
    (s.xpRamped o i).xp o i = { s.xp o i with cur := (s.xp o i).goal, rampAt := none, crossed := false } := Block.xp_modXp_self ..

theorem Block.xpRampEndOp_due {t : Nat} (hr : (s.xp o i).rampAt = some t) (h : s.reached (t + 16 * 64) = true) : s.xpRampEndOp o i =
    if (s.xp o i).held then s.xpRamped o i else (s.xpRamped o i).xpRequest o i (t + 16 * 63) (s.xp o i).crossed := by
  have hheld : ((s.xpRamped o i).xp o i).held = (s.xp o i).held := by rw [Block.xp_xpRamped]
  rw [← hheld, Block.xpRampEndOp, hr]
  exact if_neg (by simpa [ticks] using h)

theorem Block.xpRampEndOp_moves (s : Block) (o i : Nat) : s.xpMoves o i [Reg.DIR_EVT_GOVR] (s.xpRampEndOp o i) := by
  have hramped : s.xpMoves o i [Reg.DIR_EVT_GOVR] (s.xpRamped o i) := (Block.xpMoves.refl o i _ s).modXp _
  cases hdue : (s.xp o i).rampAt.any (fun t => s.reached (t + 16 * 64)) with
  | false =>
    rw [Block.xpRampEndOp_idle hdue]
    exact .refl o i _ s
  | true =>
    obtain ⟨t, hr, hreached⟩ := (Option.any_eq_true _ _).mp hdue
    rw [Block.xpRampEndOp_due hr hreached]
    split
    · exact hramped
    · exact hramped.trans (Block.xpRequest_moves ..) (List.Subset.refl _)

end RampEnd

end Sys2Proof.Machine
end

section
/-! SUPPORT. Gain writes and ramp ends of a crosspoint (R139 to R146); and O39. -/

namespace Sys2Proof.Machine

/-! ## A stored target -/

/-- A crosspoint with a target stored, and nothing done about it yet (R139). -/
def Block.xpWritten (s : Block) (o i : Nat) (g : BitVec 18) : Block := s.put (Reg.DIR_XP_GAIN o i) g.toNat

section Written

variable (s : Block) {o i : Nat} (g : BitVec 18)

theorem Block.xpWritten_gain : (s.xpWritten o i g).f (Reg.DIR_XP_GAIN o i) = g.toNat :=
  (Block.f_put_self _ _ _ (by simp [Fld.of_xp o i])).trans (Nat.mod_eq_of_lt g.isLt)

theorem Block.xpWritten_target : (s.xpWritten o i g).xpTarget o i = g.toInt := by
  rw [Block.xpTarget, Block.fInt, s.xpWritten_gain g]
  exact congrArg BitVec.toInt ((BitVec.ofNat_toNat _ _).trans (BitVec.setWidth_eq g))

theorem Block.xpWritten_moves : s.xpMoves o i [Reg.DIR_XP_GAIN o i] (s.xpWritten o i g) :=
  (Block.xpMoves.refl o i _ s).put _ _ (by simp [Fld.of_xp o i]) (by simp)

theorem Block.xp_xpWritten (p j : Nat) : (s.xpWritten o i g).xp p j = s.xp p j := Block.xp_put ..

/-- The mode and the timeout of crossings, and HOLD, read as before a target is stored. -/
theorem Block.xpWritten_f {y : Fld} (ho : o < 24) (hi : i < 24)
    (hy : y ∈ [Reg.DIR_OCTRL_ZCMODE o, Reg.DIR_GLB_CTRL_HOLD, Reg.DIR_GLB_CTRL_ZCTO]) : (s.xpWritten o i g).f y = s.f y :=
  s.f_put_apart _ (xpGain_apart ho hi y hy) (by simp [Fld.of_xp o i])

theorem Block.xpWritten_on {y : Fld} (ho : o < 24) (hi : i < 24)
    (hy : y ∈ [Reg.DIR_OCTRL_ZCMODE o, Reg.DIR_GLB_CTRL_HOLD, Reg.DIR_GLB_CTRL_ZCTO]) : (s.xpWritten o i g).on y = s.on y := by
  rw [Block.on, Block.on, s.xpWritten_f g ho hi hy]

end Written

/-! ## XP_GAIN_WRITE -/

section Write

variable {s : Block} {o i : Nat} (g : BitVec 18)

theorem Block.xpGainWriteOp_off (hen : s.on (Reg.DIR_XP_EN o i) = false) : s.xpGainWriteOp o i g = s := if_pos (by simp [hen])

/-- A ramp that is past ends before the target is stored; under HOLD nothing more is done (R144, R145). -/
theorem Block.xpGainWriteOp_eq (hen : s.on (Reg.DIR_XP_EN o i) = true) : s.xpGainWriteOp o i g =
    if ((s.xpRampEndOp o i).xpWritten o i g).on Reg.DIR_GLB_CTRL_HOLD then
      ((s.xpRampEndOp o i).xpWritten o i g).modXp o i (fun x => { x with held := true })
    else ((s.xpRampEndOp o i).xpWritten o i g).xpRequest o i s.time.now false := by
  have htime : ((s.xpRampEndOp o i).xpWritten o i g).time = s.time := by
    rw [Block.xpWritten, Block.put_time, (s.xpRampEndOp_moves o i).time]
  unfold Block.xpGainWriteOp
  rw [hen, Bool.not_true, if_neg Bool.false_ne_true]
  dsimp only
  rw [← Block.xpWritten, htime]

/-- Every write of an enabled crosspoint stores its target, and moves nothing but that crosspoint. -/
theorem Block.xpGainWriteOp_stores (ho : o < 24) (hi : i < 24) (hen : s.on (Reg.DIR_XP_EN o i) = true) :
    (s.xpGainWriteOp o i g).f (Reg.DIR_XP_GAIN o i) = g.toNat ∧
    s.xpMoves o i [Reg.DIR_XP_GAIN o i, Reg.DIR_EVT_GOVR] (s.xpGainWriteOp o i g) := by
  have hwritten : s.xpMoves o i [Reg.DIR_XP_GAIN o i, Reg.DIR_EVT_GOVR] ((s.xpRampEndOp o i).xpWritten o i g) :=
    ((s.xpRampEndOp_moves o i).mono (by simp)).trans (Block.xpWritten_moves _ g) (by simp)
  have hgain := (s.xpRampEndOp o i).xpWritten_gain (o := o) (i := i) g
  rw [Block.xpGainWriteOp_eq g hen]
  split
  · exact ⟨by rw [Block.modXp_f, hgain], hwritten.modXp _⟩
  · have hrequest := ((s.xpRampEndOp o i).xpWritten o i g).xpRequest_moves o i s.time.now false
    refine ⟨?_, hwritten.trans hrequest (by simp)⟩
    rw [hrequest.reads ho hi (by simp), hgain]

/-! ### A write that meets no ramp that is past -/

/-- A target that is stored and not under HOLD, before it meets anything. -/
def Block.xpAsked (s : Block) (o i : Nat) (g : BitVec 18) : Block := (s.xpWritten o i g).xpFreed o i

theorem Block.xp_xpAsked (s : Block) (o i : Nat) (g : BitVec 18) : (s.xpAsked o i g).xp o i = { s.xp o i with held := false } := by
  rw [Block.xpAsked, Block.xp_xpFreed, Block.xp_xpWritten]

theorem Block.xpAsked_target (s : Block) (o i : Nat) (g : BitVec 18) : (s.xpAsked o i g).xpTarget o i = g.toInt := by
  rw [Block.xpAsked, Block.xpFreed, Block.xpTarget_modXp, Block.xpWritten_target]

theorem Block.xpAsked_moves (s : Block) (o i : Nat) (g : BitVec 18) : s.xpMoves o i [Reg.DIR_XP_GAIN o i] (s.xpAsked o i g) :=
  (s.xpWritten_moves g).modXp _

/-- The mode and the timeout of crossings read as before the write. -/
theorem Block.xpAsked_mode (ho : o < 24) (hi : i < 24) : (s.xpAsked o i g).on (Reg.DIR_OCTRL_ZCMODE o) = s.on (Reg.DIR_OCTRL_ZCMODE o) ∧
    (s.xpAsked o i g).f Reg.DIR_GLB_CTRL_ZCTO = s.f Reg.DIR_GLB_CTRL_ZCTO := by
  rw [Block.xpAsked, Block.xpFreed, Block.modXp_on, Block.modXp_f, s.xpWritten_on g ho hi (by simp), s.xpWritten_f g ho hi (by simp)]
  exact ⟨rfl, rfl⟩

variable (ho : o < 24) (hi : i < 24) (hen : s.on (Reg.DIR_XP_EN o i) = true)
  (hramp : (s.xp o i).rampAt.any (fun t => s.reached (t + 16 * 64)) = false)
include ho hi hen hramp

theorem Block.xpGainWriteOp_held (hhold : s.on Reg.DIR_GLB_CTRL_HOLD = true) :
    s.xpGainWriteOp o i g = (s.xpWritten o i g).modXp o i (fun x => { x with held := true }) := by
  rw [Block.xpGainWriteOp_eq g hen, Block.xpRampEndOp_idle hramp, if_pos (by rw [s.xpWritten_on g ho hi (by simp), hhold])]

theorem Block.xpGainWriteOp_acts (hhold : s.on Reg.DIR_GLB_CTRL_HOLD = false) :
    s.xpGainWriteOp o i g = (s.xpWritten o i g).xpRequest o i s.time.now false := by
  rw [Block.xpGainWriteOp_eq g hen, Block.xpRampEndOp_idle hramp, if_neg]
  simpa [s.xpWritten_on g ho hi (y := Reg.DIR_GLB_CTRL_HOLD) (by simp)] using hhold

end Write

/-! ### The rows of R145 -/

section Rows

variable {s : Block} {o i : Nat} (g : BitVec 18) (ho : o < 24) (hi : i < 24) (hen : s.on (Reg.DIR_XP_EN o i) = true)
  (hhold : s.on Reg.DIR_GLB_CTRL_HOLD = false)
include ho hi hen hhold

/-- A write during a ramp is only stored. -/
theorem Block.xpGainWriteOp_ramping {t : Nat} (hr : (s.xp o i).rampAt = some t) (ht : s.reached (t + 16 * 64) = false) :
    s.xpGainWriteOp o i g = s.xpAsked o i g := by
  rw [Block.xpGainWriteOp_acts g ho hi hen (by simp [hr, ht]) hhold]
  exact Block.xpRequest_ramping (by rw [Block.xp_xpWritten, hr]; rfl)

variable (hr : (s.xp o i).rampAt = none)
include hr

theorem Block.xpGainWriteOp_rest (ht : (s.xp o i).toAt = none) : s.xpGainWriteOp o i g = (s.xpAsked o i g).xpAnew o i s.time.now false := by
  rw [Block.xpGainWriteOp_acts g ho hi hen (by rw [hr]; rfl) hhold]
  exact Block.xpRequest_rest (by rwa [Block.xp_xpWritten]) (by rwa [Block.xp_xpWritten])

theorem Block.xpGainWriteOp_waiting {t : Nat} (ht : (s.xp o i).toAt = some t) (hc : (s.xp o i).crossed = false) :
    s.xpGainWriteOp o i g = (s.xpAsked o i g).xpRewrite o i := by
  rw [Block.xpGainWriteOp_acts g ho hi hen (by rw [hr]; rfl) hhold]
  exact Block.xpRequest_waiting (by rwa [Block.xp_xpWritten]) (by rw [Block.xp_xpWritten, ht]; rfl) (by rwa [Block.xp_xpWritten])

theorem Block.xpGainWriteOp_crossed {t : Nat} (ht : (s.xp o i).toAt = some t) (hc : (s.xp o i).crossed = true) :
    s.xpGainWriteOp o i g = ((s.xpAsked o i g).xpStep o i).xpAnew o i s.time.now false := by
  rw [Block.xpGainWriteOp_acts g ho hi hen (by rw [hr]; rfl) hhold]
  exact Block.xpRequest_crossed (by rwa [Block.xp_xpWritten]) (by rw [Block.xp_xpWritten, ht]; rfl) (by rwa [Block.xp_xpWritten])

/-- A write that meets a wait whose crossing has not come (R145). -/
theorem Block.xpGainWriteOp_meets_wait {t : Nat} (ht : (s.xp o i).toAt = some t) (hc : (s.xp o i).crossed = false) :
    (g.toInt = (s.xp o i).cur → ((s.xpGainWriteOp o i g).xp o i).toAt = none ∧ ((s.xpGainWriteOp o i g).xp o i).cur = (s.xp o i).cur ∧
      (s.xpGainWriteOp o i g).on Reg.DIR_EVT_GOVR = true) ∧
    (g.toInt ≠ (s.xp o i).cur → g.toInt ≠ (s.xp o i).goal → ((s.xpGainWriteOp o i g).xp o i).goal = g.toInt ∧
      ((s.xpGainWriteOp o i g).xp o i).toAt = some t ∧ (s.xpGainWriteOp o i g).on Reg.DIR_EVT_GOVR = true) := by
  have hx := s.xp_xpAsked o i g
  have hg := s.xpAsked_target o i g
  rw [Block.xpGainWriteOp_waiting g ho hi hen hhold hr ht hc]
  refine ⟨fun hback => ?_, fun hcur hgoal => ?_⟩
  · obtain ⟨hxp, hevent⟩ := Block.xpRewrite_back (s := s.xpAsked o i g) (o := o) (i := i) (by rw [hg, hx, hback])
    exact ⟨by rw [hxp], by rw [hxp, hx], hevent⟩
  · obtain ⟨hxp, hevent⟩ := Block.xpRewrite_new (s := s.xpAsked o i g) (o := o) (i := i) (by rwa [hg, hx]) (by rwa [hg, hx])
    exact ⟨by rw [hxp, hg], by rw [hxp, hx, ht], hevent⟩

/-- A write on the tick of a detected crossing: the step takes the target held before, and the write is a request of its own (R145). -/
theorem Block.xpGainWriteOp_meets_crossing {t : Nat} (ht : (s.xp o i).toAt = some t) (hc : (s.xp o i).crossed = true) :
    ((s.xpGainWriteOp o i g).xp o i).cur = (s.xp o i).goal ∧
    (g.toInt = (s.xp o i).goal → ((s.xpGainWriteOp o i g).xp o i).toAt = none) ∧
    (g.toInt ≠ (s.xp o i).goal → s.on (Reg.DIR_OCTRL_ZCMODE o) = false → s.f Reg.DIR_GLB_CTRL_ZCTO ≠ 0 →
      ((s.xpGainWriteOp o i g).xp o i).goal = g.toInt ∧
      ((s.xpGainWriteOp o i g).xp o i).toAt = some (s.time.now + 16 * (12288 * s.f Reg.DIR_GLB_CTRL_ZCTO))) := by
  have hx : ((s.xpAsked o i g).xpStep o i).xp o i = { s.xp o i with held := false, cur := (s.xp o i).goal, toAt := none, crossed := false } := by
    rw [Block.xpStep, Block.xp_modXp_self, Block.xp_xpAsked]
  have hg : ((s.xpAsked o i g).xpStep o i).xpTarget o i = g.toInt := by
    rw [Block.xpStep, Block.xpTarget_modXp, Block.xpAsked_target]
  obtain ⟨hmode, hzcto⟩ := s.xpAsked_mode g ho hi
  rw [Block.xpGainWriteOp_crossed g ho hi hen hhold hr ht hc]
  refine ⟨by rw [Block.xpAnew_keeps.1, hx], fun hsame => ?_, fun hnew hz hz0 => ?_⟩
  · rw [Block.xpAnew_same (by rw [hg, hx, hsame]), hx]
  · have hz' : ((s.xpAsked o i g).xpStep o i).on (Reg.DIR_OCTRL_ZCMODE o) = false := by rw [Block.xpStep, Block.modXp_on, hmode, hz]
    have hzcto' : ((s.xpAsked o i g).xpStep o i).f Reg.DIR_GLB_CTRL_ZCTO = s.f Reg.DIR_GLB_CTRL_ZCTO := by
      rw [Block.xpStep, Block.modXp_f, hzcto]
    rw [Block.xpAnew_waits (by rwa [hg, hx]) hz' (by rwa [hzcto']), hg, hzcto']
    exact ⟨rfl, rfl⟩

end Rows

/-- XP_GAIN_WRITE against a pending or running change (R145). -/
theorem xpGainWrite_meets (s : State) (o i : Nat) (g : BitVec 18) (ho : o < 24) (hi : i < 24) (hcore : s.coreOn = true)
    (hen : s.on (Reg.DIR_XP_EN o i) = true) (hhold : s.on Reg.DIR_GLB_CTRL_HOLD = false) :
    gives (.xpGainWrite o i g) s fun u =>
      u.f (Reg.DIR_XP_GAIN o i) = g.toNat ∧
      (∀ t, (s.xp o i).rampAt = none → (s.xp o i).toAt = some t → (s.xp o i).crossed = false →
        (g.toInt = (s.xp o i).cur → (u.xp o i).toAt = none ∧ (u.xp o i).cur = (s.xp o i).cur ∧ u.on Reg.DIR_EVT_GOVR = true) ∧
        (g.toInt ≠ (s.xp o i).cur → g.toInt ≠ (s.xp o i).goal → (u.xp o i).goal = g.toInt ∧ (u.xp o i).toAt = some t ∧ u.on Reg.DIR_EVT_GOVR = true)) ∧
      (∀ t, (s.xp o i).rampAt = none → (s.xp o i).toAt = some t → (s.xp o i).crossed = true →
        (u.xp o i).cur = (s.xp o i).goal ∧ (g.toInt = (s.xp o i).goal → (u.xp o i).toAt = none) ∧
        (g.toInt ≠ (s.xp o i).goal → s.on (Reg.DIR_OCTRL_ZCMODE o) = false → s.f Reg.DIR_GLB_CTRL_ZCTO ≠ 0 →
          (u.xp o i).goal = g.toInt ∧ (u.xp o i).toAt = some (s.time.now + 16 * (12288 * s.f Reg.DIR_GLB_CTRL_ZCTO)))) ∧
      (∀ t, (s.xp o i).rampAt = some t → s.reached (t + 16 * 64) = false →
        u.xp o i = { s.xp o i with held := false } ∧ s.only u [Reg.DIR_XP_GAIN o i] [.dir]) ∧
      (∀ p j, p < 24 → j < 24 → (p ≠ o ∨ j ≠ i) → u.xp p j = s.xp p j) ∧ s.only u [Reg.DIR_XP_GAIN o i, Reg.DIR_EVT_GOVR] [.dir] := by
  obtain ⟨hgain, hmoves⟩ := s.xpGainWriteOp_stores g ho hi hen
  refine gives_of_hostWrite (g := fun b => b.xpGainWriteOp o i g) rfl hcore (by simp [ho, hi]) ⟨hgain, ?_, ?_, ?_, hmoves.others_in hi, hmoves.frame⟩
  · exact fun t hr ht hc => Block.xpGainWriteOp_meets_wait g ho hi hen hhold hr ht hc
  · exact fun t hr ht hc => Block.xpGainWriteOp_meets_crossing g ho hi hen hhold hr ht hc
  · intro t hr ht
    rw [Block.xpGainWriteOp_ramping g ho hi hen hhold hr ht]
    exact ⟨s.xp_xpAsked o i g, (s.xpAsked_moves o i g).frame⟩

/-! ## XP_RAMP_END -/

/-- A crosspoint whose ramp is over, with the target that the register now holds to be acted on (R145). -/
def Block.xpTaken (s : Block) (o i : Nat) : Block := (s.xpRamped o i).xpFreed o i

theorem Block.xp_xpTaken (s : Block) (o i : Nat) : (s.xpTaken o i).xp o i =
    { s.xp o i with cur := (s.xp o i).goal, rampAt := none, crossed := false, held := false } := by
  rw [Block.xpTaken, Block.xp_xpFreed, Block.xp_xpRamped]

theorem Block.xpTaken_target (s : Block) (o i : Nat) : (s.xpTaken o i).xpTarget o i = s.xpTarget o i := rfl

theorem Block.xpTaken_f (s : Block) (o i : Nat) (y : Fld) : (s.xpTaken o i).f y = s.f y := rfl

theorem Block.xpTaken_on (s : Block) (o i : Nat) (y : Fld) : (s.xpTaken o i).on y = s.on y := rfl

theorem xpRampEnd_meets (s : State) (o i t : Nat) (ho : o < 24) (hi : i < 24) (hr : (s.xp o i).rampAt = some t) (ht : s.reached (t + 16 * 64) = true)
    (hheld : (s.xp o i).held = false) (hto : (s.xp o i).toAt = none) : gives (.xpRampEnd o i) s fun u =>
      (u.xp o i).cur = (s.xp o i).goal ∧
      (s.xpTarget o i = (s.xp o i).goal → (u.xp o i).rampAt = none ∧ (u.xp o i).toAt = none) ∧
      (s.xpTarget o i ≠ (s.xp o i).goal → s.on (Reg.DIR_OCTRL_ZCMODE o) = false → s.f Reg.DIR_GLB_CTRL_ZCTO ≠ 0 →
        (u.xp o i).goal = s.xpTarget o i ∧ (u.xp o i).toAt = some (t + 16 * 63 + 16 * (12288 * s.f Reg.DIR_GLB_CTRL_ZCTO)) ∧
        (u.xp o i).crossed = (s.xp o i).crossed) ∧
      (s.xpTarget o i ≠ (s.xp o i).goal → (s.on (Reg.DIR_OCTRL_ZCMODE o) = true ∨ s.f Reg.DIR_GLB_CTRL_ZCTO = 0) →
        (u.xp o i).goal = s.xpTarget o i ∧ (u.xp o i).rampAt = some (t + 16 * 64)) ∧
      s.only u [Reg.DIR_EVT_GOVR] [.dir] := by
  have hop : s.xpRampEndOp o i = (s.xpTaken o i).xpAnew o i (t + 16 * 63) (s.xp o i).crossed := by
    rw [Block.xpRampEndOp_due hr ht, if_neg (by simp [hheld])]
    exact Block.xpRequest_rest (by rw [Block.xp_xpRamped]) (by rw [Block.xp_xpRamped]; exact hto)
  have hx := s.xp_xpTaken o i
  have hmet : s.xpTarget o i ≠ (s.xp o i).goal → (s.xpTaken o i).xpTarget o i ≠ ((s.xpTaken o i).xp o i).cur := by
    rw [hx, Block.xpTaken_target]
    exact id
  refine gives_of_act (g := fun b => b.xpRampEndOp o i) rfl (by simp [ho, hi]) ⟨?_, fun hsame => ?_, fun hnew hz hzcto => ?_, fun hnew hz => ?_,
    (s.xpRampEndOp_moves o i).frame⟩ <;> rw [hop]
  · rw [Block.xpAnew_keeps.1, hx]
  · rw [Block.xpAnew_same (by rw [hx, Block.xpTaken_target, hsame]), hx]
    exact ⟨rfl, hto⟩
  · rw [Block.xpAnew_waits (hmet hnew) (by rwa [Block.xpTaken_on]) (by rwa [Block.xpTaken_f]), Block.xpTaken_target, Block.xpTaken_f]
    exact ⟨rfl, rfl, rfl⟩
  · rw [Block.xpAnew_ramps (hmet hnew) (by rwa [Block.xpTaken_on, Block.xpTaken_f]), Block.xpTaken_target]
    exact ⟨rfl, rfl⟩

/-- Settles O39: a gain write by the rows of R145, and the end of a ramp by the target written meanwhile. -/
theorem crosspointWrites : Obligations.CrosspointWrites := ⟨xpGainWrite_meets, xpRampEnd_meets⟩

end Sys2Proof.Machine
end

section
/-! SUPPORT. Gain writes at rest and under HOLD, crossings, timeouts and the release of HOLD (R141 to R144). -/

namespace Sys2Proof.Machine

/-! ## XP_GAIN_WRITE with no change pending or running -/

/-- XP_GAIN_WRITE on a crosspoint that is not enabled, under HOLD, and at rest (R139, R141, R143, R144). -/
theorem xpGainWrite_gives (s : State) (o i : Nat) (g : BitVec 18) (ho : o < 24) (hi : i < 24) (hcore : s.coreOn = true) :
    gives (.xpGainWrite o i g) s fun u =>
    (s.on (Reg.DIR_XP_EN o i) = false → u = s.toBlock) ∧
    (s.on (Reg.DIR_XP_EN o i) = true → s.on Reg.DIR_GLB_CTRL_HOLD = true → (s.xp o i).rampAt.any (fun t => s.reached (t + 16 * 64)) = false →
      u.f (Reg.DIR_XP_GAIN o i) = g.toNat ∧ u.xp o i = { s.xp o i with held := true } ∧ s.only u [Reg.DIR_XP_GAIN o i] [.dir]) ∧
    (s.on (Reg.DIR_XP_EN o i) = true → s.on Reg.DIR_GLB_CTRL_HOLD = false → (s.xp o i).rampAt = none → (s.xp o i).toAt = none → g.toInt ≠ (s.xp o i).cur →
      (u.xp o i).goal = g.toInt ∧ (u.xp o i).cur = (s.xp o i).cur ∧
      (s.on (Reg.DIR_OCTRL_ZCMODE o) = false ∧ s.f Reg.DIR_GLB_CTRL_ZCTO ≠ 0 →
        (u.xp o i).toAt = some (s.time.now + 16 * (12288 * s.f Reg.DIR_GLB_CTRL_ZCTO)) ∧ (u.xp o i).crossed = false) ∧
      (s.on (Reg.DIR_OCTRL_ZCMODE o) = true ∨ s.f Reg.DIR_GLB_CTRL_ZCTO = 0 → (u.xp o i).rampAt = some (s.time.now + 16)) ∧
      s.only u [Reg.DIR_XP_GAIN o i] [.dir]) := by
  refine gives_of_hostWrite (g := fun b => b.xpGainWriteOp o i g) rfl hcore (by simp [ho, hi])
    ⟨Block.xpGainWriteOp_off g, fun hen hhold hramp => ?_, fun hen hhold hr ht hnew => ?_⟩
  · have hop := Block.xpGainWriteOp_held g ho hi hen hramp hhold
    refine ⟨(Block.xpGainWriteOp_stores g ho hi hen).1, ?_, ?_⟩ <;> rw [hop]
    · rw [Block.xp_modXp_self, Block.xp_xpWritten]
    · exact ((s.xpWritten_moves g).modXp _).frame
  · have hx := s.xp_xpAsked o i g
    have hg := s.xpAsked_target o i g
    have hmet : (s.xpAsked o i g).xpTarget o i ≠ ((s.xpAsked o i g).xp o i).cur := by rwa [hg, hx]
    obtain ⟨hmode, hzcto⟩ := s.xpAsked_mode g ho hi
    have hmoves := (s.xpAsked_moves o i g).trans ((s.xpAsked o i g).xpAnew_moves o i s.time.now false) (List.nil_subset _)
    rw [Block.xpGainWriteOp_rest g ho hi hen hhold hr ht]
    refine ⟨by rw [Block.xpAnew_goal, hg], by rw [Block.xpAnew_keeps.1, hx], fun ⟨hz, hz0⟩ => ?_, fun hz => ?_, hmoves.frame⟩
    · rw [Block.xpAnew_waits hmet (hmode.trans hz) (by rwa [hzcto]), hzcto]
      exact ⟨rfl, rfl⟩
    · rw [Block.xpAnew_ramps hmet (by rwa [hmode, hzcto])]

/-! ## XP_CROSSING_STEP, XP_GAIN_TIMEOUT, XP_RAMP_END -/

section Events

variable (s : State) (o i : Nat) (ho : o < 24) (hi : i < 24)
include ho hi

theorem xpCrossingStep_gives : gives (.xpCrossingStep o i) s fun u =>
    if (s.xp o i).toAt.isSome && (s.xp o i).crossed then
      u.xp o i = { s.xp o i with cur := (s.xp o i).goal, toAt := none, crossed := false } ∧
      (∀ p j, p < 24 → j < 24 → (p ≠ o ∨ j ≠ i) → u.xp p j = s.xp p j) ∧ s.only u [] [.dir]
    else u = s.toBlock := by
  have hmoves : s.xpMoves o i [] (s.xpStep o i) := (Block.xpMoves.refl o i _ s.toBlock).modXp _
  refine gives_of_act (g := fun b => b.xpCrossingOp o i) rfl (by simp [ho, hi]) ?_
  dsimp only [Block.xpCrossingOp]
  split
  · exact ⟨Block.xp_modXp_self .., hmoves.others_in hi, hmoves.frame⟩
  · rfl

theorem xpGainTimeout_gives : gives (.xpGainTimeout o i) s fun u =>
    (∀ t, (s.xp o i).toAt = some t → s.reached t = true → (s.xp o i).crossed = false →
      (u.xp o i).rampAt = some t ∧ (u.xp o i).toAt = none ∧ (u.xp o i).goal = (s.xp o i).goal ∧ u.on Reg.DIR_EVT_GTO = true ∧
      s.only u [Reg.DIR_EVT_GTO] [.dir]) ∧
    ((s.xp o i).toAt.any s.reached = false ∨ (s.xp o i).crossed = true → u = s.toBlock) := by
  refine gives_of_act (g := fun b => b.xpTimeoutOp o i) rfl (by simp [ho, hi]) ⟨fun t ht hdue hc => ?_, fun hidle => ?_⟩
  · have hop : s.xpTimeoutOp o i = (s.xpRamp o i t).raise Reg.DIR_EVT_GTO := by simp [Block.xpTimeoutOp, ht, hdue, hc]
    have hx : ((s.xpRamp o i t).raise Reg.DIR_EVT_GTO).xp o i = { s.xp o i with toAt := none, crossed := false, rampAt := some t } := by
      rw [Block.xp_raise, Block.xpRamp, Block.xp_modXp_self]
    have hmoves : s.xpMoves o i [Reg.DIR_EVT_GTO] (s.xpRamp o i t) := (Block.xpMoves.refl o i _ s.toBlock).modXp _
    rw [hop, hx]
    exact ⟨rfl, rfl, rfl, Block.on_raise_self _ _ (by decide) (by decide), (hmoves.raise _ (by decide) (by simp)).frame⟩
  · cases ht : (s.xp o i).toAt with
    | none => simp [Block.xpTimeoutOp, ht]
    | some t =>
      have hearly : s.reached t = true → (s.xp o i).crossed = true := by simpa [ht, ← Bool.not_eq_true, imp_iff_not_or] using hidle
      simp only [Block.xpTimeoutOp, ht]
      exact if_neg (by simpa using hearly)

theorem xpRampEnd_idle (hramp : (s.xp o i).rampAt.any (fun t => s.reached (t + 16 * 64)) = false) :
    gives (.xpRampEnd o i) s fun u => u = s.toBlock :=
  gives_of_act (g := fun b => b.xpRampEndOp o i) rfl (by simp [ho, hi]) (Block.xpRampEndOp_idle hramp)

end Events

/-! ## DIR_HOLD_RELEASE -/

theorem allXps_eq : allXps = List.range 24 ×ˢ List.range 24 := rfl

theorem mem_allXps {x : Nat × Nat} : x ∈ allXps ↔ x.1 < 24 ∧ x.2 < 24 := by
  rw [allXps_eq, List.mem_product, List.mem_range, List.mem_range]

theorem allXps_nodup : allXps.Nodup := by
  rw [allXps_eq]
  exact List.nodup_range.product List.nodup_range

/-- The target of a crosspoint acted on now, behind a ramp that is past (R144, R145). -/
def Block.xpActed (s : Block) (o i : Nat) : Block := (s.xpRampEndOp o i).xpRequest o i s.time.now false

/-- What acting on a target reads. -/
def Block.xpView (s : Block) (o i : Nat) : XpSt × Int × Bool × Nat × Time :=
  (s.xp o i, s.xpTarget o i, s.on (Reg.DIR_OCTRL_ZCMODE o), s.f Reg.DIR_GLB_CTRL_ZCTO, s.time)

/-- HOLD written to 0. -/
def Block.unheld (s : Block) : Block := s.put Reg.DIR_GLB_CTRL_HOLD 0

section Acted

variable {s t : Block} {o i : Nat}

theorem Block.xpActed_moves (s : Block) (o i : Nat) : s.xpMoves o i [Reg.DIR_EVT_GOVR] (s.xpActed o i) :=
  (s.xpRampEndOp_moves o i).trans (Block.xpRequest_moves ..) (List.Subset.refl _)

/-- At rest a target other than the gain in force waits for a crossing (R141, R143). -/
theorem Block.xpActed_waits (hr : (s.xp o i).rampAt = none) (ht : (s.xp o i).toAt = none) (hnew : s.xpTarget o i ≠ (s.xp o i).cur)
    (hz : s.on (Reg.DIR_OCTRL_ZCMODE o) = false) (hzcto : s.f Reg.DIR_GLB_CTRL_ZCTO ≠ 0) :
    ((s.xpActed o i).xp o i).toAt = some (s.time.now + 16 * (12288 * s.f Reg.DIR_GLB_CTRL_ZCTO)) := by
  have hx := s.xp_xpFreed o i
  have htarget : (s.xpFreed o i).xpTarget o i = s.xpTarget o i := rfl
  rw [Block.xpActed, Block.xpRampEndOp_idle (by rw [hr]; rfl), Block.xpRequest_rest hr ht,
    Block.xpAnew_waits (s := s.xpFreed o i) (by rwa [hx, htarget]) hz hzcto]
  rfl

/-- Acting on another crosspoint leaves what a target's request reads alone. -/
theorem Block.xpMoves.view {p j : Nat} (h : s.xpMoves p j [Reg.DIR_EVT_GOVR] t) (ho : o < 24) (hi : i < 24) (hne : 24 * o + i ≠ 24 * p + j) :
    t.xpView o i = s.xpView o i := by
  simp only [Block.xpView, Block.xpTarget, Block.fInt, Block.on, h.others o i hne, h.time, h.reads ho hi (y := Reg.DIR_XP_GAIN o i) (by simp),
    h.reads ho hi (y := Reg.DIR_OCTRL_ZCMODE o) (by simp), h.reads ho hi (y := Reg.DIR_GLB_CTRL_ZCTO) (by simp)]

theorem Block.xp_unheld (s : Block) (o i : Nat) : s.unheld.xp o i = s.xp o i := Block.xp_put ..

theorem Block.only_unheld (s : Block) : s.only s.unheld [Reg.DIR_GLB_CTRL_HOLD] [] := Block.only_put (s.only_refl _ _) _ _ (by decide) (by simp)

theorem Block.unheld_view (s : Block) (ho : o < 24) (hi : i < 24) : s.unheld.xpView o i = s.xpView o i := by
  have hkept {y : Fld} (hy : y ∈ [Reg.DIR_XP_GAIN o i, Reg.DIR_OCTRL_ZCMODE o, Reg.DIR_GLB_CTRL_ZCTO]) : s.unheld.f y = s.f y := by
    refine Block.only_f s.only_unheld ?_
    simp only [List.mem_cons, List.not_mem_nil, or_false] at hy
    rcases hy with rfl | rfl | rfl <;> simp [Fld.apart, Fld.of_xp o i] <;> omega
  have htime : s.unheld.time = s.time := Block.put_time ..
  simp only [Block.xpView, Block.xpTarget, Block.fInt, Block.on, s.xp_unheld, htime, hkept (y := Reg.DIR_XP_GAIN o i) (by simp),
    hkept (y := Reg.DIR_OCTRL_ZCMODE o) (by simp), hkept (y := Reg.DIR_GLB_CTRL_ZCTO) (by simp)]

/-- The crosspoints whose targets are held. -/
def Block.heldXps (s : Block) : List (Nat × Nat) := allXps.filter (fun p => (s.xp p.1 p.2).held)

theorem Block.mem_heldXps {x : Nat × Nat} : x ∈ s.heldXps ↔ (x.1 < 24 ∧ x.2 < 24) ∧ (s.xp x.1 x.2).held = true := by
  rw [Block.heldXps, List.mem_filter, mem_allXps]

theorem Block.holdReleaseOp_eq (s : Block) : s.holdReleaseOp = s.unheld.forAll s.heldXps (fun p t => t.xpActed p.1 p.2) := by
  unfold Block.holdReleaseOp Block.unheld Block.heldXps Block.xpActed
  simp only [Block.xp_put]

theorem Block.holdReleaseOp_only (s : Block) : s.unheld.only s.holdReleaseOp [Reg.DIR_EVT_GOVR] [.dir] := by
  rw [Block.holdReleaseOp_eq]
  refine Block.only_forAll _ _ (fun p _ t h => ?_) (Block.only_refl _ _ _)
  exact Block.only_trans h (t.xpActed_moves p.1 p.2).frame

/-- A crosspoint with nothing held stays. -/
theorem Block.holdReleaseOp_other (hi : i < 24) (hheld : (s.xp o i).held = false) : s.holdReleaseOp.xp o i = s.xp o i := by
  rw [Block.holdReleaseOp_eq]
  refine Block.forAll_induct (P := fun t => t.xp o i = s.xp o i) _ _ (s.xp_unheld o i) fun p hp t ht => ?_
  obtain ⟨⟨-, hp2⟩, hpheld⟩ := Block.mem_heldXps.mp hp
  have hne : 24 * o + i ≠ 24 * p.1 + p.2 := by
    intro he
    have ho : p.1 = o := by omega
    have hi : p.2 = i := by omega
    simp [ho, hi, hheld] at hpheld
  exact ((t.xpActed_moves p.1 p.2).others o i hne).trans ht

/-- A held target is acted on as if its crosspoint stood alone. -/
theorem Block.holdReleaseOp_at (ho : o < 24) (hi : i < 24) (hheld : (s.xp o i).held = true) :
    ∃ t : Block, t.xpView o i = s.xpView o i ∧ s.holdReleaseOp.xp o i = (t.xpActed o i).xp o i := by
  have hmem : (o, i) ∈ s.heldXps := Block.mem_heldXps.mpr ⟨⟨ho, hi⟩, hheld⟩
  obtain ⟨t, ht, hop⟩ := Block.forAll_at (fun b => b.xpView o i) (fun p t => t.xpActed p.1 p.2) hmem (allXps_nodup.filter _)
    (fun p hp hne t => by
      obtain ⟨⟨-, hp2⟩, -⟩ := Block.mem_heldXps.mp hp
      refine (t.xpActed_moves p.1 p.2).view ho hi fun he => hne (Prod.ext ?_ ?_) <;> dsimp only <;> omega) s.unheld
  rw [← Block.holdReleaseOp_eq] at hop
  exact ⟨t, ht.trans (s.unheld_view ho hi), congrArg Prod.fst hop⟩

end Acted

theorem dirHoldRelease_gives (s : State) (hcore : s.coreOn = true) : gives .dirHoldRelease s fun u =>
    u.f Reg.DIR_GLB_CTRL_HOLD = 0 ∧
    (∀ o i, o < 24 → i < 24 → (s.xp o i).held = false → u.xp o i = s.xp o i) ∧
    (∀ o i, o < 24 → i < 24 → (s.xp o i).held = true → (u.xp o i).held = false ∧
      ((s.xp o i).rampAt = none → (s.xp o i).toAt = none → s.xpTarget o i ≠ (s.xp o i).cur → s.on (Reg.DIR_OCTRL_ZCMODE o) = false →
        s.f Reg.DIR_GLB_CTRL_ZCTO ≠ 0 → (u.xp o i).toAt = some (s.time.now + 16 * (12288 * s.f Reg.DIR_GLB_CTRL_ZCTO)))) ∧
    s.only u [Reg.DIR_GLB_CTRL_HOLD, Reg.DIR_EVT_GOVR] [.dir] := by
  have honly := s.holdReleaseOp_only
  refine gives_of_hostWrite (g := fun b => b.holdReleaseOp) rfl hcore rfl
    ⟨?_, fun o i _ hi hheld => Block.holdReleaseOp_other hi hheld, fun o i ho hi hheld => ?_, ?_⟩
  · rw [Block.only_f honly (by simp [Fld.apart, Fld.of_xp 0 0]), Block.unheld, Block.f_put_self _ _ _ (by decide), Nat.zero_mod]
  · obtain ⟨t, hview, hop⟩ := Block.holdReleaseOp_at ho hi hheld
    simp only [Block.xpView, Prod.mk.injEq] at hview
    obtain ⟨hx, htarget, hmode, hzcto, htime⟩ := hview
    rw [hop, ← hx, ← htarget, ← hmode, ← hzcto, ← htime]
    exact ⟨Block.xpRequest_held, Block.xpActed_waits⟩
  · exact Block.only_then (Block.only_mono s.only_unheld (by simp) (List.nil_subset _)) honly (by simp) (List.Subset.refl _)

end Sys2Proof.Machine
end

section
/-! SUPPORT. Swaps of the Direct biquads and the end of a route scarf (R150, R151, R160); and O40. -/

namespace Sys2Proof.Machine

/-- Where the fields lie that swaps and route scarfs move (R162). -/
theorem Fld.of_dirOut (o : Nat) :
    Reg.DIR_OSTAT_BQSET o = ⟨0x61008 + 0x40 * o, 0, 1⟩ ∧ Reg.DIR_OSTAT_BQXF o = ⟨0x61008 + 0x40 * o, 1, 1⟩ ∧
    Reg.DIR_OSTAT_BQPEND o = ⟨0x61008 + 0x40 * o, 2, 1⟩ ∧ Reg.DIR_OSTAT_RSCARF o = ⟨0x61008 + 0x40 * o, 4, 1⟩ ∧
    Reg.DIR_EVT_BQDONE = ⟨0x61810, 3, 1⟩ ∧ Reg.DIR_EVT_BQOVR = ⟨0x61810, 4, 1⟩ :=
  ⟨rfl, rfl, rfl, rfl, rfl, rfl⟩

/-! ## BQ_SWAP -/

section Request

variable (s : Block) (o : Nat)

/-- A swap requested behind another change waits; a second request is only noted (R151). -/
def Block.swapQueued : Block := if s.on (Reg.DIR_OSTAT_BQPEND o) then s.raise Reg.DIR_EVT_BQOVR else s.raise (Reg.DIR_OSTAT_BQPEND o)

theorem Block.bqSwapOp_eq : s.bqSwapOp o =
    if (s.dout o).swap.isSome || s.on Reg.GRF_SCARF_STAT_FREEZE || (s.dout o).old.isSome then s.swapQueued o
    else (s.raise (Reg.DIR_OSTAT_BQXF o)).modDout o (fun x => { x with swap := some { at' := s.time.now + 16 } }) := rfl

theorem Block.swapQueued_facts :
    (s.swapQueued o).on (Reg.DIR_OSTAT_BQPEND o) = true ∧
    (s.on (Reg.DIR_OSTAT_BQPEND o) = true → (s.swapQueued o).on Reg.DIR_EVT_BQOVR = true) ∧
    (s.on (Reg.DIR_OSTAT_BQPEND o) = false → s.only (s.swapQueued o) [Reg.DIR_OSTAT_BQPEND o] []) ∧
    s.only (s.swapQueued o) [Reg.DIR_OSTAT_BQPEND o, Reg.DIR_EVT_BQOVR] [] := by
  have hpend {l : List Fld} (hl : Reg.DIR_OSTAT_BQPEND o ∈ l) : s.only (s.raise (Reg.DIR_OSTAT_BQPEND o)) l [] :=
    Block.only_raise (s.only_refl _ _) _ (by simp [Fld.of_dirOut o]) hl
  cases h : s.on (Reg.DIR_OSTAT_BQPEND o) with
  | true =>
    have hapart : Reg.DIR_EVT_BQOVR.apart (Reg.DIR_OSTAT_BQPEND o) := .inl (by simp [Fld.of_dirOut o]; omega)
    rw [Block.swapQueued, if_pos h]
    exact ⟨(s.on_put_apart 1 hapart (by decide)).trans h, fun _ => Block.on_raise_self _ _ (by decide) (by decide), by simp,
      Block.only_raise (s.only_refl _ _) _ (by decide) (by simp)⟩
  | false =>
    rw [Block.swapQueued, if_neg (by simp [h])]
    exact ⟨Block.on_raise_self _ _ (by simp [Fld.of_dirOut o]) (by simp [Fld.of_dirOut o]), by simp, fun _ => hpend (by simp), hpend (by simp)⟩

end Request

theorem bqSwap_gives (s : State) (o : Nat) (ho : o < 24) (hcore : s.coreOn = true) : gives (.bqSwap o) s fun u =>
    if (s.dout o).swap.isSome || s.on Reg.GRF_SCARF_STAT_FREEZE || (s.dout o).old.isSome then
      u.on (Reg.DIR_OSTAT_BQPEND o) = true ∧ (s.on (Reg.DIR_OSTAT_BQPEND o) = true → u.on Reg.DIR_EVT_BQOVR = true) ∧
      (s.on (Reg.DIR_OSTAT_BQPEND o) = false → s.only u [Reg.DIR_OSTAT_BQPEND o] []) ∧ s.only u [Reg.DIR_OSTAT_BQPEND o, Reg.DIR_EVT_BQOVR] []
    else
      u.on (Reg.DIR_OSTAT_BQXF o) = true ∧ u.dout o = { s.dout o with swap := some { at' := s.time.now + 16 } } ∧
      (∀ k, k ≠ o → u.dout k = s.dout k) ∧ s.only u [Reg.DIR_OSTAT_BQXF o] [.dir] := by
  refine gives_of_hostWrite (g := fun b => b.bqSwapOp o) rfl hcore (by simpa using ho) ?_
  dsimp only
  rw [Block.bqSwapOp_eq]
  split
  · exact s.swapQueued_facts o
  · refine ⟨?_, ?_, fun k hk => ?_, ?_⟩
    · rw [Block.modDout_on, Block.on_raise_self] <;> simp [Fld.of_dirOut o]
    · rw [Block.dout_modDout_self, Block.dout_raise]
    · rw [Block.dout_modDout_other _ _ hk, Block.dout_raise]
    · exact Block.only_modDout (Block.only_raise (s.only_refl _ _) _ (by simp [Fld.of_dirOut o]) (by simp)) _ _ (by simp)

/-! ## The first tick of a swap -/

/-- Before its first tick a swap waits; at its first tick the new chain takes the staging sets as they then stand (R150). -/
theorem Block.beginSwaps_first (b : Block) (o : Nat) (w : DirSwap) (hw : (b.dout o).swap = some w) (hlive : w.live = false) :
    (b.time.now < w.at' → b.beginSwaps o = b) ∧
    (w.at' ≤ b.time.now → (b.beginSwaps o).dout o = { b.dout o with swap := some { w with live := true, pipe := b.newChain o (b.dout o).pipe } }) := by
  have hop : b.beginSwaps o = if b.time.now < w.at' then b else
      b.modDout o (fun y => { y with swap := some { w with live := true, pipe := b.newChain o y.pipe } }) := by
    simp only [Block.beginSwaps, hw, hlive, Bool.not_false, if_true]
  refine ⟨fun hearly => by rw [hop, if_pos hearly], fun hdue => ?_⟩
  rw [hop, if_neg (Nat.not_lt.mpr hdue), Block.dout_modDout_self]

/-! ## BQ_SWAP_END -/

section End

variable {s : Block} {o : Nat} {w : DirSwap}

/-- The record of an output whose swap has ended: its new sets in force, and the swap that has begun behind it (R150, R151). -/
def Block.swapEnded (s : Block) (o : Nat) (w : DirSwap) (x : DirOut) : DirOut :=
  { x with pipe := if w.live then w.pipe else s.newChain o x.pipe, swap := w.next.map (fun p => { at' := p.1, live := true, pipe := p.2 }) }

theorem Block.endSwap_eq (hw : (s.dout o).swap = some w) : s.endSwap o =
    (((s.modDout o (s.swapEnded o w)).putB (Reg.DIR_OSTAT_BQXF o) w.next.isSome).put (Reg.DIR_OSTAT_BQSET o) (s.f (Reg.DIR_OSTAT_BQSET o) + 1)).raise
      Reg.DIR_EVT_BQDONE := by
  rw [Block.endSwap, hw]
  rfl

theorem Block.bqSwapEndOp_due (hw : (s.dout o).swap = some w) (hdue : s.reached (w.at' + 16 * 256) = true) : s.bqSwapEndOp o = s.endSwap o := by
  simp only [Block.bqSwapEndOp, hw]
  exact if_pos hdue

theorem Block.bqSwapEndOp_idle (h : (s.dout o).swap.any (fun x => s.reached (x.at' + 16 * 256)) = false) : s.bqSwapEndOp o = s := by
  cases hw : (s.dout o).swap with
  | none => simp only [Block.bqSwapEndOp, hw]
  | some w =>
    rw [hw] at h
    simp only [Block.bqSwapEndOp, hw]
    exact if_neg (by simpa [ticks] using h)

theorem Block.endSwap_dout (hw : (s.dout o).swap = some w) : (s.endSwap o).dout o = s.swapEnded o w (s.dout o) := by
  rw [Block.endSwap_eq hw, Block.dout_raise, Block.dout_put, Block.dout_putB, Block.dout_modDout_self]

theorem Block.endSwap_flds (hw : (s.dout o).swap = some w) : (s.endSwap o).on Reg.DIR_EVT_BQDONE = true ∧
    (s.endSwap o).f (Reg.DIR_OSTAT_BQSET o) = (s.f (Reg.DIR_OSTAT_BQSET o) + 1) % 2 ^ (Reg.DIR_OSTAT_BQSET o).width ∧
    (s.endSwap o).on (Reg.DIR_OSTAT_BQXF o) = w.next.isSome := by
  have hevent (y : Fld) (hy : y.addr = 0x61008 + 0x40 * o) : Reg.DIR_EVT_BQDONE.apart y := .inl (by simp [Fld.of_dirOut o]; omega)
  rw [Block.endSwap_eq hw]
  refine ⟨Block.on_raise_self _ _ (by decide) (by decide), ?_, ?_⟩
  · rw [Block.raise_eq, Block.f_put_apart _ _ (hevent _ (by simp [Fld.of_dirOut o])) (by decide),
      Block.f_put_self _ _ _ (by simp [Fld.of_dirOut o])]
  · rw [Block.raise_eq, Block.on_put_apart _ _ (hevent _ (by simp [Fld.of_dirOut o])) (by decide), Block.on_put_apart, Block.on_putB_self] <;>
      simp [Fld.apart, Fld.of_dirOut o]

/-- The fields that the end of a swap moves. -/
def swapEndFlds (o : Nat) : List Fld := [Reg.DIR_OSTAT_BQXF o, Reg.DIR_OSTAT_BQSET o, Reg.DIR_EVT_BQDONE]

theorem Block.bqSwapEndOp_frame (s : Block) (o : Nat) : (∀ k, k ≠ o → (s.bqSwapEndOp o).dout k = s.dout k) ∧
    s.only (s.bqSwapEndOp o) (swapEndFlds o) [.dir] := by
  cases hdue : (s.dout o).swap.any (fun x => s.reached (x.at' + 16 * 256)) with
  | false =>
    rw [Block.bqSwapEndOp_idle hdue]
    exact ⟨fun _ _ => rfl, s.only_refl _ _⟩
  | true =>
    obtain ⟨w, hw, hreached⟩ := (Option.any_eq_true _ _).mp hdue
    have hrecord := Block.only_modDout (s.only_refl (swapEndFlds o) [.dir]) o (s.swapEnded o w) (by simp)
    have hxf := Block.only_putB hrecord (Reg.DIR_OSTAT_BQXF o) w.next.isSome (by simp [Fld.of_dirOut o]) (by simp [swapEndFlds])
    have hset := Block.only_put hxf (Reg.DIR_OSTAT_BQSET o) (s.f (Reg.DIR_OSTAT_BQSET o) + 1) (by simp [Fld.of_dirOut o]) (by simp [swapEndFlds])
    rw [Block.bqSwapEndOp_due hw hreached, Block.endSwap_eq hw]
    refine ⟨fun k hk => ?_, Block.only_raise hset _ (by decide) (by simp [swapEndFlds])⟩
    rw [Block.dout_raise, Block.dout_put, Block.dout_putB, Block.dout_modDout_other _ _ hk]

end End

theorem bqSwapEnd_gives (s : State) (o : Nat) (ho : o < 24) : gives (.bqSwapEnd o) s fun u =>
    (∀ w, (s.dout o).swap = some w → s.reached (w.at' + 16 * 256) = true →
      (u.dout o).pipe = (if w.live then w.pipe else s.newChain o (s.dout o).pipe) ∧ u.on Reg.DIR_EVT_BQDONE = true ∧
      u.f (Reg.DIR_OSTAT_BQSET o) = (s.f (Reg.DIR_OSTAT_BQSET o) + 1) % 2 ^ (Reg.DIR_OSTAT_BQSET o).width ∧
      (w.next = none → (u.dout o).swap = none ∧ u.f (Reg.DIR_OSTAT_BQXF o) = 0) ∧
      (∀ t p, w.next = some (t, p) → (u.dout o).swap = some { at' := t, live := true, pipe := p } ∧ u.on (Reg.DIR_OSTAT_BQXF o) = true)) ∧
    ((s.dout o).swap.any (fun x => s.reached (x.at' + 16 * 256)) = false → u = s.toBlock) ∧
    (∀ k, k ≠ o → u.dout k = s.dout k) ∧
    s.only u [Reg.DIR_OSTAT_BQXF o, Reg.DIR_OSTAT_BQSET o, Reg.DIR_EVT_BQDONE] [.dir] := by
  obtain ⟨hothers, hframe⟩ := s.bqSwapEndOp_frame o
  refine gives_of_act (g := fun b => b.bqSwapEndOp o) rfl (by simpa using ho) ⟨fun w hw hdue => ?_, Block.bqSwapEndOp_idle, hothers, hframe⟩
  obtain ⟨hdone, hset, hxf⟩ := Block.endSwap_flds hw
  rw [Block.bqSwapEndOp_due hw hdue, Block.endSwap_dout hw]
  refine ⟨rfl, hdone, hset, fun hnext => ⟨?_, ?_⟩, fun t p hnext => ⟨?_, ?_⟩⟩
  · rw [Block.swapEnded, hnext, Option.map_none]
  · simpa [hnext, Block.on] using hxf
  · rw [Block.swapEnded, hnext, Option.map_some]
  · rw [hxf, hnext, Option.isSome_some]

/-! ## ROUTE_SCARF_END -/

section RouteScarf

variable {s : Block} {o : Nat}

/-- The record of an output whose route scarf has ended: the old route of a leaving port goes at once (R160). -/
def DirOut.routed (leaving : Bool) (x : DirOut) : DirOut := if leaving then { x with old := none } else x

theorem Block.routeScarfEndOp_due {y : OldRoute} (hy : (s.dout o).old = some y)
    (hdue : s.reached (y.at' + 16 * (if y.leaving then 12288 else 3072)) = true) :
    s.routeScarfEndOp o = (s.put (Reg.DIR_OSTAT_RSCARF o) 0).modDout o (DirOut.routed y.leaving) := by
  simp only [Block.routeScarfEndOp, hy]
  exact if_pos hdue

theorem Block.routeScarfEndOp_idle
    (h : (s.dout o).old.any (fun y => s.reached (y.at' + 16 * (if y.leaving then 12288 else 3072))) = false) : s.routeScarfEndOp o = s := by
  cases hy : (s.dout o).old with
  | none => simp only [Block.routeScarfEndOp, hy]
  | some y =>
    rw [hy] at h
    simp only [Block.routeScarfEndOp, hy]
    exact if_neg (by simpa [ticks] using h)

theorem Block.routeScarfEndOp_frame (s : Block) (o : Nat) : (∀ k, k ≠ o → (s.routeScarfEndOp o).dout k = s.dout k) ∧
    s.only (s.routeScarfEndOp o) [Reg.DIR_OSTAT_RSCARF o] [.dir] := by
  cases hdue : (s.dout o).old.any (fun y => s.reached (y.at' + 16 * (if y.leaving then 12288 else 3072))) with
  | false =>
    rw [Block.routeScarfEndOp_idle hdue]
    exact ⟨fun _ _ => rfl, s.only_refl _ _⟩
  | true =>
    obtain ⟨y, hy, hreached⟩ := (Option.any_eq_true _ _).mp hdue
    rw [Block.routeScarfEndOp_due hy hreached]
    refine ⟨fun k hk => ?_, ?_⟩
    · rw [Block.dout_modDout_other _ _ hk, Block.dout_put]
    · exact Block.only_modDout (Block.only_put (s.only_refl _ _) _ _ (by simp [Fld.of_dirOut o]) (by simp)) _ _ (by simp)

end RouteScarf

theorem routeScarfEnd_gives (s : State) (o : Nat) (ho : o < 24) : gives (.routeScarfEnd o) s fun u =>
    (∀ y, (s.dout o).old = some y → s.reached (y.at' + 16 * (if y.leaving then 12288 else 3072)) = true →
      u.f (Reg.DIR_OSTAT_RSCARF o) = 0 ∧ u.dout o = (if y.leaving then { s.dout o with old := none } else s.dout o)) ∧
    ((s.dout o).old.any (fun y => s.reached (y.at' + 16 * (if y.leaving then 12288 else 3072))) = false → u = s.toBlock) ∧
    (∀ k, k ≠ o → u.dout k = s.dout k) ∧ s.only u [Reg.DIR_OSTAT_RSCARF o] [.dir] := by
  obtain ⟨hothers, hframe⟩ := s.routeScarfEndOp_frame o
  refine gives_of_act (g := fun b => b.routeScarfEndOp o) rfl (by simpa using ho) ⟨fun y hy hdue => ?_, Block.routeScarfEndOp_idle, hothers, hframe⟩
  rw [Block.routeScarfEndOp_due hy hdue]
  refine ⟨?_, ?_⟩
  · rw [Block.modDout_f, Block.f_put_self _ _ _ (by simp [Fld.of_dirOut o]), Nat.zero_mod]
  · rw [Block.dout_modDout_self, Block.dout_put, DirOut.routed]

/-- Settles O40, command by command: crosspoints by what a target meets, swaps and route scarfs by their first and last ticks. -/
theorem directPath : Obligations.DirectPath :=
  ⟨⟨xpGainWrite_gives, xpCrossingStep_gives, xpGainTimeout_gives, dirHoldRelease_gives, xpRampEnd_idle⟩,
    bqSwap_gives, Block.beginSwaps_first, bqSwapEnd_gives, routeScarfEnd_gives⟩

end Sys2Proof.Machine
end

section
/-! SUPPORT. Requests for a scarf of a block: by the commands that make them, at rest, behind another change, refused (R184, R201, R223, R229, R231,
R244, R245); and O42. -/

namespace Sys2Proof.Machine

/-! ## Where the fields lie -/

/-- Where the fields lie that a request for a scarf reads and moves (R198, R264). -/
theorem Fld.of_block (b : Nat) :
    Reg.GRF_BLK_CFG_PRESENT b = ⟨0x42000 + 0x10 * b, 0, 1⟩ ∧ Reg.GRF_BLK_CFG_XF b = ⟨0x42000 + 0x10 * b, 1, 1⟩ ∧
    Reg.GRF_SCARF_STAT_FREEZE = ⟨0x40024, 16, 1⟩ ∧ Reg.GRF_EVT_XFREF = ⟨0x40018, 3, 1⟩ ∧ Reg.GRF_SCARF_EVT_OVR = ⟨0x40028, 1, 1⟩ :=
  ⟨rfl, rfl, rfl, rfl, rfl⟩

/-- Where the fields lie of the two writes that request a scarf themselves (R238). -/
theorem Fld.of_blockWrite (n ch : Nat) :
    Reg.DLY_TIME_TIME n ch = ⟨0x46B08 + 0x40 * n + 0x4 * ch, 0, 26⟩ ∧ Reg.DLY_CTRL_MODE n = ⟨0x46B1C + 0x40 * n, 0, 1⟩ ∧
    Reg.RVB_PRE_PRE n = ⟨0x46C04 + 0x100 * n, 0, 13⟩ := ⟨rfl, rfl, rfl⟩

/-- The events of a request. -/
def requestEvts : List Fld := [Reg.GRF_EVT_XFREF, Reg.GRF_SCARF_EVT_OVR]

/-- The events of a request share no bit with a field of another register. -/
theorem requestEvts_apart {y : Fld} (h : 0x42000 ≤ y.addr) : ∀ x ∈ requestEvts, x.apart y := by
  simp only [requestEvts, List.forall_mem_cons, Fld.apart, Fld.of_block 0]
  simp
  omega

/-! ## A request -/

section Request

variable (s : Block) (b kind : Nat)

/-- The block has another change running or waiting, or new requests are held (R244, R254). -/
def Block.scarfWaits : Bool := (s.blk b).next.isSome || (s.blk b).fade.isSome || s.frozen || (s.blk b).pend.isSome

/-- A request has come since the last graph instant. -/
def Block.freshen : Block := s.modBlk b (fun x => { x with fresh := true })

/-- A request behind another change is pending; behind a pending one it only sets OVR, once an instant (R244, R245). -/
def Block.scarfQueued : Block :=
  if (s.blk b).pend.isSome then (s.freshen b).onlyIf (!(s.blk b).fresh) (fun t => t.raise Reg.GRF_SCARF_EVT_OVR)
  else (s.freshen b).modBlk b (fun x => { x with pend := some kind })

/-- A request with no other change waits for the next graph instant, unless one waits already (R244). -/
def Block.scarfAsked : Block :=
  if (s.blk b).req.isSome then s.freshen b else (s.freshen b).modBlk b (fun x => { x with req := some (kind, s.time.now) })

theorem Block.scarfRequest_eq : s.scarfRequest b kind =
    if s.present b = false then s
    else if s.crossfadable b = false then s.raise Reg.GRF_EVT_XFREF
    else if s.scarfWaits b then s.scarfQueued b kind else s.scarfAsked b kind := by
  unfold Block.scarfRequest
  simp only [Bool.not_eq_true']
  rfl

theorem Block.scarfQueued_frame :
    (∀ j, j ≠ b → (s.scarfQueued b kind).blk j = s.blk j) ∧ s.only (s.scarfQueued b kind) requestEvts [.graph] := by
  have hfresh : s.only (s.freshen b) requestEvts [.graph] := Block.only_modBlk (s.only_refl _ _) _ _ (by simp)
  have hothers (j : Nat) (hj : j ≠ b) : (s.freshen b).blk j = s.blk j := Block.blk_modBlk_other _ _ hj
  unfold Block.scarfQueued
  split
  · cases (s.blk b).fresh
    · exact ⟨hothers, Block.only_raise hfresh _ (by decide) (by simp [requestEvts])⟩
    · exact ⟨hothers, hfresh⟩
  · exact ⟨fun j hj => (Block.blk_modBlk_other _ _ hj).trans (hothers j hj), Block.only_modBlk hfresh _ _ (by simp)⟩

theorem Block.scarfAsked_frame : (∀ j, j ≠ b → (s.scarfAsked b kind).blk j = s.blk j) ∧ s.only (s.scarfAsked b kind) [] [.graph] := by
  have hfresh : s.only (s.freshen b) [] [.graph] := Block.only_modBlk (s.only_refl _ _) _ _ (by simp)
  have hothers (j : Nat) (hj : j ≠ b) : (s.freshen b).blk j = s.blk j := Block.blk_modBlk_other _ _ hj
  unfold Block.scarfAsked
  split
  · exact ⟨hothers, hfresh⟩
  · exact ⟨fun j hj => (Block.blk_modBlk_other _ _ hj).trans (hothers j hj), Block.only_modBlk hfresh _ _ (by simp)⟩

theorem Block.scarfRequest_frame :
    (∀ j, j ≠ b → (s.scarfRequest b kind).blk j = s.blk j) ∧ s.only (s.scarfRequest b kind) requestEvts [.graph] := by
  rw [Block.scarfRequest_eq]
  split
  · exact ⟨fun _ _ => rfl, s.only_refl _ _⟩
  split
  · exact ⟨fun _ _ => rfl, Block.only_raise (s.only_refl _ _) _ (by decide) (by simp [requestEvts])⟩
  split
  · exact s.scarfQueued_frame b kind
  · obtain ⟨hothers, hframe⟩ := s.scarfAsked_frame b kind
    exact ⟨hothers, Block.only_mono hframe (List.nil_subset _) (List.Subset.refl _)⟩

end Request

section Met

variable {s : Block} {b kind : Nat}

/-- A block with nothing running, pending or waiting, and nothing frozen. -/
structure Block.scarfRest (s : Block) (b : Nat) : Prop where
  next : (s.blk b).next = none
  fade : (s.blk b).fade = none
  frozen : s.frozen = false
  pend : (s.blk b).pend = none
  req : (s.blk b).req = none

theorem Block.scarfRequest_absent (hp : s.present b = false) : s.scarfRequest b kind = s := by
  rw [Block.scarfRequest_eq, if_pos hp]

theorem Block.scarfRequest_refused (hp : s.present b = true) (hx : s.crossfadable b = false) :
    s.scarfRequest b kind = s.raise Reg.GRF_EVT_XFREF := by
  rw [Block.scarfRequest_eq, if_neg (by simp [hp]), if_pos hx]

theorem Block.scarfRequest_queued (hp : s.present b = true) (hx : s.crossfadable b = true) (hw : s.scarfWaits b = true) :
    s.scarfRequest b kind = s.scarfQueued b kind := by
  rw [Block.scarfRequest_eq, if_neg (by simp [hp]), if_neg (by simp [hx]), if_pos hw]

theorem Block.scarfRequest_rest (hp : s.present b = true) (hx : s.crossfadable b = true) (hr : s.scarfRest b) :
    s.scarfRequest b kind = (s.freshen b).modBlk b (fun x => { x with req := some (kind, s.time.now) }) := by
  have hw : s.scarfWaits b = false := by simp [Block.scarfWaits, hr.next, hr.fade, hr.frozen, hr.pend]
  rw [Block.scarfRequest_eq, if_neg (by simp [hp]), if_neg (by simp [hx]), if_neg (by simp [hw]), Block.scarfAsked, if_neg (by simp [hr.req])]

theorem Block.freshen_blk : (s.freshen b).blk b = { s.blk b with fresh := true } := Block.blk_modBlk_self _ _ _

theorem Block.scarfRequest_rest_blk (hp : s.present b = true) (hx : s.crossfadable b = true) (hr : s.scarfRest b) :
    (s.scarfRequest b kind).blk b = { s.blk b with fresh := true, req := some (kind, s.time.now) } := by
  rw [Block.scarfRequest_rest hp hx hr, Block.blk_modBlk_self, Block.freshen_blk]

/-- At rest a request sets no event. -/
theorem Block.scarfRequest_rest_only (hp : s.present b = true) (hx : s.crossfadable b = true) (hr : s.scarfRest b) :
    s.only (s.scarfRequest b kind) [] [.graph] := by
  rw [Block.scarfRequest_rest hp hx hr]
  exact Block.only_modBlk (Block.only_modBlk (s.only_refl _ _) _ _ (by simp)) _ _ (by simp)

/-- What a request for a scarf of a present block makes of it, by what it meets (R184, R244, R245). -/
def Block.scarfMeets (s : Block) (b kind : Nat) (u : Block) : Prop :=
  (s.crossfadable b = false → u.on Reg.GRF_EVT_XFREF = true ∧ u.blk b = s.blk b) ∧
  (s.crossfadable b = true → (s.blk b).next = none → (s.blk b).fade = none → s.frozen = false → (s.blk b).pend = none → (s.blk b).req = none →
    u.blk b = { s.blk b with fresh := true, req := some (kind, s.time.now) }) ∧
  (s.crossfadable b = true → (s.blk b).next.isSome = true → (s.blk b).pend = none → u.blk b = { s.blk b with fresh := true, pend := some kind }) ∧
  (s.crossfadable b = true → (s.blk b).pend.isSome = true → (s.blk b).fresh = false → u.on Reg.GRF_SCARF_EVT_OVR = true)

theorem Block.scarfRequest_meets (hp : s.present b = true) : s.scarfMeets b kind (s.scarfRequest b kind) := by
  refine ⟨fun hx => ?_, fun hx hnext hfade hfrozen hpend hreq => ?_, fun hx hnext hpend => ?_, fun hx hpend hfresh => ?_⟩
  · rw [Block.scarfRequest_refused hp hx]
    exact ⟨Block.on_raise_self _ _ (by decide) (by decide), rfl⟩
  · exact Block.scarfRequest_rest_blk hp hx ⟨hnext, hfade, hfrozen, hpend, hreq⟩
  · rw [Block.scarfRequest_queued hp hx (by simp [Block.scarfWaits, hnext]), Block.scarfQueued, if_neg (by simp [hpend]), Block.blk_modBlk_self,
      Block.freshen_blk]
  · rw [Block.scarfRequest_queued hp hx (by simp [Block.scarfWaits, hpend]), Block.scarfQueued, if_pos hpend, hfresh]
    exact Block.on_raise_self _ _ (by decide) (by decide)

end Met

/-! ## A write that requests a scarf -/

/-- A write of the fields `l`, none of which a request reads or moves: records of blocks stay. -/
structure Block.stages (l : List Fld) (s t : Block) : Prop where
  blks : ∀ j, t.blk j = s.blk j
  frame : s.only t l [.graph]
  outside : ∀ x ∈ l, 0x46000 ≤ x.addr

section Staged

variable {s t : Block} {l : List Fld} {b kind : Nat}

theorem Block.stages.refl (s : Block) : s.stages [] s := ⟨fun _ => rfl, s.only_refl _ _, by simp⟩

theorem Block.stages.reads (h : s.stages l t) {y : Fld} (hy : y.addr < 0x46000) : t.on y = s.on y :=
  Block.only_on h.frame (fun x hx => .inl (by have := h.outside x hx; omega))

theorem Block.stages.present (h : s.stages l t) (hb : b < 62) : t.present b = s.present b :=
  h.reads (by simp only [Fld.of_block]; omega)

theorem Block.stages.crossfadable (h : s.stages l t) (hb : b < 62) : t.crossfadable b = s.crossfadable b :=
  h.reads (by simp only [Fld.of_block]; omega)

theorem Block.stages.frozen (h : s.stages l t) : t.frozen = s.frozen := h.reads (by decide)

theorem Block.stages.time (h : s.stages l t) : t.time = s.time := h.frame.2 .time (by simp)

theorem Block.stages.scarfRest (h : s.stages l t) (hr : s.scarfRest b) : t.scarfRest b :=
  ⟨by rw [h.blks, hr.next], by rw [h.blks, hr.fade], by rw [h.frozen, hr.frozen], by rw [h.blks, hr.pend], by rw [h.blks, hr.req]⟩

/-- A request after the write meets what it would have met before. -/
theorem Block.stages.meets (h : s.stages l t) (hb : b < 62) (hp : s.present b = true) : s.scarfMeets b kind (t.scarfRequest b kind) := by
  have hmeets := Block.scarfRequest_meets (kind := kind) ((h.present hb).trans hp)
  unfold Block.scarfMeets at hmeets
  rwa [h.crossfadable hb, h.blks b, h.frozen, h.time] at hmeets

theorem Block.stages.frame_request (h : s.stages l t) : (∀ j, j ≠ b → (t.scarfRequest b kind).blk j = s.blk j) ∧
    s.only (t.scarfRequest b kind) (l ++ requestEvts) [.graph] := by
  obtain ⟨hothers, hframe⟩ := t.scarfRequest_frame b kind
  exact ⟨fun j hj => (hothers j hj).trans (h.blks j),
    Block.only_trans (Block.only_mono h.frame (by simp) (by simp)) (Block.only_mono hframe (by simp) (by simp))⟩

/-- What the write stored stays. -/
theorem Block.stages.f_request (h : s.stages l t) {x : Fld} (hx : x ∈ l) : (t.scarfRequest b kind).f x = t.f x :=
  Block.only_f (t.scarfRequest_frame b kind).2 (requestEvts_apart (by have := h.outside x hx; omega))

/-- At rest the request waits for the next graph instant, and only what was written and the block's record have changed. -/
theorem Block.stages.rest (h : s.stages l t) (hb : b < 62) (hp : s.present b = true) (hx : s.crossfadable b = true) (hr : s.scarfRest b) :
    (t.scarfRequest b kind).blk b = { s.blk b with fresh := true, req := some (kind, s.time.now) } ∧
    (∀ j, j ≠ b → (t.scarfRequest b kind).blk j = s.blk j) ∧ s.only (t.scarfRequest b kind) l [.graph] := by
  have hp' := (h.present hb).trans hp
  have hx' := (h.crossfadable hb).trans hx
  refine ⟨?_, h.frame_request.1, Block.only_then h.frame (Block.scarfRequest_rest_only hp' hx' (h.scarfRest hr)) (by simp) (by simp)⟩
  rw [Block.scarfRequest_rest_blk hp' hx' (h.scarfRest hr), h.blks, h.time]

end Staged

/-! ## The commands -/

section Writes

variable (s : Block) (d ch v n : Nat)

/-- TIME of a delay channel is stored, and counts from the next graph instant (R199, R229). -/
def Block.timeStored : Block := (s.parWrite (Reg.DLY_TIME d ch) (s.word (Reg.DLY_TIME d ch))).put (Reg.DLY_TIME_TIME d ch) n

theorem Block.timeStored_stages : s.stages [Reg.DLY_TIME_TIME d ch] (s.timeStored d ch n) :=
  ⟨Block.blk_put _ _ _, Block.only_put (Block.only_modGraph (s.only_refl _ _) _ (by simp)) _ _ (by simp [Fld.of_blockWrite]) (by simp),
    by simp only [List.forall_mem_singleton, Fld.of_blockWrite]; omega⟩

theorem Block.timeStored_f (h : n < 2 ^ 26) : (s.timeStored d ch n).f (Reg.DLY_TIME_TIME d ch) = n := by
  rw [Block.timeStored, Block.f_put_self _ _ _ (by simp [Fld.of_blockWrite])]
  exact Nat.mod_eq_of_lt h

theorem Block.timeStored_mode (hch : ch < 2) : (s.timeStored d ch n).on (Reg.DLY_CTRL_MODE d) = s.on (Reg.DLY_CTRL_MODE d) :=
  Block.only_on (s.timeStored_stages d ch n).frame (by simp only [List.forall_mem_singleton, Fld.apart, Fld.of_blockWrite d ch]; omega)

theorem Block.preStored_stages : s.stages [Reg.RVB_PRE_PRE v] (s.put (Reg.RVB_PRE_PRE v) n) :=
  ⟨s.blk_put _ _, Block.only_put (s.only_refl _ _) _ _ (by simp [Fld.of_blockWrite v 0]) (by simp),
    by simp only [List.forall_mem_singleton, Fld.of_blockWrite v 0]; omega⟩

theorem Block.preStored_f (h : n < 2 ^ 13) : (s.put (Reg.RVB_PRE_PRE v) n).f (Reg.RVB_PRE_PRE v) = n := by
  rw [Block.f_put_self _ _ _ (by simp [Fld.of_blockWrite v 0])]
  exact Nat.mod_eq_of_lt h

end Writes

section Ops

variable {s : Block} {d ch n v : Nat}

theorem Block.applyOp_eq (h : n < 40 ∨ 54 ≤ n ∧ n < 62) : s.applyOp n = s.scarfRequest n 1 := by
  simp [Block.applyOp, h]

theorem Block.timeWriteOp_absent (h : s.present (48 + d) = false) : s.timeWriteOp d ch n = s := by
  simp [Block.timeWriteOp, h]

/-- In jump mode a write of TIME requests a scarf (R229). -/
theorem Block.timeWriteOp_jump (hch : ch < 2) (hp : s.present (48 + d) = true) (hm : s.on (Reg.DLY_CTRL_MODE d) = true) :
    s.timeWriteOp d ch n = (s.timeStored d ch n).scarfRequest (48 + d) 3 := by
  have hmode := (s.timeStored_mode d ch n hch).trans hm
  unfold Block.timeWriteOp
  rw [if_neg (by simp [hp])]
  exact if_pos hmode

theorem Block.timeWriteOp_glide (hch : ch < 2) (hp : s.present (48 + d) = true) (hm : s.on (Reg.DLY_CTRL_MODE d) = false) :
    s.timeWriteOp d ch n = s.timeStored d ch n := by
  have hmode := (s.timeStored_mode d ch n hch).trans hm
  unfold Block.timeWriteOp
  rw [if_neg (by simp [hp])]
  exact if_neg (ne_true_of_eq_false hmode)

theorem Block.preWriteOp_absent (h : s.present (52 + v) = false) : s.preWriteOp v n = s := by
  simp [Block.preWriteOp, h]

theorem Block.preWriteOp_present (h : s.present (52 + v) = true) :
    s.preWriteOp v n = (s.put (Reg.RVB_PRE_PRE v) n).scarfRequest (52 + v) 4 := by
  simp [Block.preWriteOp, h]

end Ops

/-- What the command `c`, which stores the fields `stored` and requests a scarf of block `b`, gives. -/
def Block.requested (s : Block) (c : Instr) (b kind : Nat) (stored : List Fld) (u : Block) : Prop :=
  (s.present b = false → u = s) ∧
  (∀ d ch time, c = .delayJump d ch time → s.present b = true → u.f (Reg.DLY_TIME_TIME d ch) = time) ∧
  (∀ v pre, c = .preDelayWrite v pre → s.present b = true → u.f (Reg.RVB_PRE_PRE v) = pre) ∧
  (s.present b = true → (∀ d ch time, c = .delayJump d ch time → s.on (Reg.DLY_CTRL_MODE d) = true) → s.scarfMeets b kind u) ∧
  (∀ j, j ≠ b → u.blk j = s.blk j) ∧ s.only u (stored ++ requestEvts) [.graph]

section Commands

variable {s : Block} {c : Instr} {b kind d ch n v : Nat}

/-- A command that stores nothing. -/
theorem Block.requested_of_request (hb : b < 62) (hd : ∀ d ch time, c ≠ .delayJump d ch time) (hv : ∀ v pre, c ≠ .preDelayWrite v pre) :
    s.requested c b kind [] (s.scarfRequest b kind) := by
  have hframe := (Block.stages.refl s).frame_request (b := b) (kind := kind)
  exact ⟨Block.scarfRequest_absent, fun d ch time h => absurd h (hd d ch time), fun v pre h => absurd h (hv v pre),
    fun hp _ => (Block.stages.refl s).meets hb hp, hframe.1, hframe.2⟩

theorem Block.requested_of_absent {l : List Fld} (h : s.present b = false) : s.requested c b kind l s :=
  ⟨fun _ => rfl, fun _ _ _ _ hp => absurd hp (by simp [h]), fun _ _ _ hp => absurd hp (by simp [h]), fun hp => absurd hp (by simp [h]),
    fun _ _ => rfl, s.only_refl _ _⟩

theorem Block.timeWriteOp_requested (hd : d < 4) (hch : ch < 2) (hn : n < 2 ^ 26) :
    s.requested (.delayJump d ch n) (48 + d) 3 [Reg.DLY_TIME_TIME d ch] (s.timeWriteOp d ch n) := by
  have hstored := s.timeStored_stages d ch n
  cases hp : s.present (48 + d) with
  | false =>
    rw [Block.timeWriteOp_absent hp]
    exact Block.requested_of_absent hp
  | true =>
    cases hm : s.on (Reg.DLY_CTRL_MODE d) with
    | false =>
      rw [Block.timeWriteOp_glide hch hp hm]
      refine ⟨by simp [hp], ?_, nofun, fun _ hjump => absurd (hjump d ch n rfl) (by simp [hm]), fun j _ => hstored.blks j,
        Block.only_mono hstored.frame (by simp) (by simp)⟩
      rintro _ _ _ ⟨⟩ -
      exact s.timeStored_f d ch n hn
    | true =>
      rw [Block.timeWriteOp_jump hch hp hm]
      refine ⟨by simp [hp], ?_, nofun, fun hp _ => hstored.meets (by omega) hp, hstored.frame_request.1, hstored.frame_request.2⟩
      rintro _ _ _ ⟨⟩ -
      exact (hstored.f_request (by simp)).trans (s.timeStored_f d ch n hn)

theorem Block.preWriteOp_requested (hv : v < 2) (hn : n < 2 ^ 13) :
    s.requested (.preDelayWrite v n) (52 + v) 4 [Reg.RVB_PRE_PRE v] (s.preWriteOp v n) := by
  have hstored := s.preStored_stages v n
  cases hp : s.present (52 + v) with
  | false =>
    rw [Block.preWriteOp_absent hp]
    exact Block.requested_of_absent hp
  | true =>
    rw [Block.preWriteOp_present hp]
    refine ⟨by simp [hp], nofun, ?_, fun hp _ => hstored.meets (by omega) hp, hstored.frame_request.1, hstored.frame_request.2⟩
    rintro _ _ ⟨⟩ -
    exact (hstored.f_request (by simp)).trans (s.preStored_f v n hn)

end Commands

section Give

variable {s : State} {P : Block → Prop} {n d ch v : Nat}

theorem apply_gives (hcore : s.coreOn = true) (hn : n < 40 ∨ 54 ≤ n ∧ n < 62) (hp : P (s.scarfRequest n 1)) : gives (.apply n) s P :=
  gives_of_hostWrite (g := fun x => x.applyOp n) rfl hcore (by simpa using hn) (by rwa [Block.applyOp_eq hn])

theorem cnvSwap_gives (hcore : s.coreOn = true) (hn : n < 4) (hp : P (s.scarfRequest (40 + n) 2)) : gives (.cnvSwap n) s P :=
  gives_of_hostWrite (g := fun x => x.scarfRequest (40 + n) 2) rfl hcore (by simpa using hn) hp

theorem delayJump_gives (hcore : s.coreOn = true) (hd : d < 4) (hch : ch < 2) (hn : n < 2 ^ 26) (hp : P (s.timeWriteOp d ch n)) :
    gives (.delayJump d ch n) s P :=
  gives_of_hostWrite (g := fun x => x.timeWriteOp d ch n) rfl hcore (by rw [decide_eq_true hd, decide_eq_true hch, decide_eq_true hn]; rfl) hp

theorem preDelayWrite_gives (hcore : s.coreOn = true) (hv : v < 2) (hn : n < 2 ^ 13) (hp : P (s.preWriteOp v n)) :
    gives (.preDelayWrite v n) s P :=
  gives_of_hostWrite (g := fun x => x.preWriteOp v n) rfl hcore (by rw [decide_eq_true hv, decide_eq_true hn]; rfl) hp

end Give

/-- Settles O42: each command is a store, or none, and then a request, which meets what it would have met before the store. -/
theorem blockScarfRequests : Obligations.BlockScarfRequests := by
  constructor
  · rintro s c b kind stored hcore (⟨n, hn, rfl, rfl, rfl, rfl⟩ | ⟨n, hn, rfl, rfl, rfl, rfl⟩ | ⟨d, ch, time, hd, hch, ht, rfl, rfl, rfl, rfl⟩ |
      ⟨v, pre, hv, ht, rfl, rfl, rfl, rfl⟩)
    · exact apply_gives hcore hn (Block.requested_of_request (by omega) nofun nofun)
    · exact cnvSwap_gives hcore hn (Block.requested_of_request (by omega) nofun nofun)
    · exact delayJump_gives hcore hd hch ht (Block.timeWriteOp_requested hd hch ht)
    · exact preDelayWrite_gives hcore hv ht (Block.preWriteOp_requested hv ht)
  · intro s b hcore hp hx hfrozen hnext hfade hpend hreq
    have hr : s.scarfRest b := ⟨hnext, hfade, hfrozen, hpend, hreq⟩
    refine ⟨fun hb => ?_, fun n hn hb => ?_, fun d ch time hd hch ht hb hm => ?_, fun v pre hv ht hb => ?_⟩
    · exact apply_gives hcore hb ((Block.stages.refl s.toBlock).rest (by omega) hp hx hr)
    · subst hb
      exact cnvSwap_gives hcore hn ((Block.stages.refl s.toBlock).rest (by omega) hp hx hr)
    · subst hb
      have hstored := s.timeStored_stages d ch time
      refine delayJump_gives hcore hd hch ht ?_
      rw [Block.timeWriteOp_jump hch hp hm]
      exact ⟨(hstored.f_request (by simp)).trans (s.timeStored_f d ch time ht), hstored.rest (by omega) hp hx hr⟩
    · subst hb
      have hstored := s.preStored_stages v pre
      refine preDelayWrite_gives hcore hv ht ?_
      rw [Block.preWriteOp_present hp]
      exact ⟨(hstored.f_request (by simp)).trans (s.preStored_f v pre ht), hstored.rest (by omega) hp hx hr⟩

end Sys2Proof.Machine
end

section
/-! SUPPORT. Selects: requests for an alternative, the release of SELHOLD, the end of a switch (R174 to R176, R240, R248); and the host's indices of
the stream rings (R195). -/

namespace Sys2Proof.Machine

/-! ## Where the fields of a select lie -/

/-- Where the fields lie that select commands read and move (R198, R264). -/
theorem Fld.of_select (k : Nat) :
    Reg.GRF_SEL_ALT k = ⟨0x40400 + 0x10 * k, 0, 2⟩ ∧ Reg.GRF_SEL_CUR k = ⟨0x40400 + 0x10 * k, 16, 10⟩ ∧
    Reg.GRF_SEL_ALT01_ALT0 k = ⟨0x40404 + 0x10 * k, 0, 10⟩ ∧ Reg.GRF_SEL_ALT01_ALT1 k = ⟨0x40404 + 0x10 * k, 16, 10⟩ ∧
    Reg.GRF_SEL_ALT23_ALT2 k = ⟨0x40408 + 0x10 * k, 0, 10⟩ ∧ Reg.GRF_SEL_ALT23_ALT3 k = ⟨0x40408 + 0x10 * k, 16, 10⟩ ∧
    Reg.GRF_GLB_CTRL_SELHOLD = ⟨0x40004, 0, 1⟩ ∧ Reg.GRF_SCARF_STAT_FREEZE = ⟨0x40024, 16, 1⟩ ∧
    Reg.GRF_EVT_SELDONE = ⟨0x40018, 1, 1⟩ ∧ Reg.GRF_EVT_SELOVR = ⟨0x40018, 2, 1⟩ ∧ Reg.GRF_EVT_ALTERR = ⟨0x40018, 5, 1⟩ :=
  ⟨rfl, rfl, rfl, rfl, rfl, rfl, rfl, rfl, rfl, rfl, rfl⟩

/-- A select's register lies above those of the graph as a whole. -/
theorem selFld_apart (k : Nat) {y : Fld} (h : y.addr < 0x40400) : (Reg.GRF_SEL_ALT k).apart y ∧ (Reg.GRF_SEL_CUR k).apart y := by
  simp only [Fld.apart, Fld.of_select k]
  omega

/-! ## A request for an alternative -/

/-- What waits after a request: nothing where the alternative is the one in force (R174, R248). -/
def SelSt.goal (x : SelSt) (alt : Nat) : Option Nat := if alt = x.alt then none else some alt

section Request

variable {s : Block} {k alt : Nat}

/-- The alternative waits, or nothing does. -/
def Block.selAsked (s : Block) (k alt : Nat) : Block := s.modSel k (fun y => { y with wait := (s.sel k).goal alt })

theorem Block.selRequest_rest (hrun : (s.sel k).run = none) (hfrozen : s.frozen = false) : s.selRequest k alt = s.selAsked k alt := by
  unfold Block.selRequest
  exact if_neg (by simp [hrun, hfrozen])

/-- A request behind one that waits takes its place and sets SELOVR (R248). -/
theorem Block.selRequest_behind (hbusy : ((s.sel k).run.isSome || s.frozen) = true) (hwait : (s.sel k).wait.isSome = true) :
    s.selRequest k alt = (s.raise Reg.GRF_EVT_SELOVR).selAsked k alt := by
  obtain ⟨w, hw⟩ := Option.isSome_iff_exists.mp hwait
  unfold Block.selRequest
  dsimp only
  rw [if_pos hbusy, hw]
  rfl

theorem Block.selRequest_first (hbusy : ((s.sel k).run.isSome || s.frozen) = true) (hwait : (s.sel k).wait = none) :
    s.selRequest k alt = if alt = (s.sel k).alt then s else s.selAsked k alt := by
  unfold Block.selRequest Block.selAsked SelSt.goal
  dsimp only
  rw [if_pos hbusy, hwait]
  dsimp only
  split
  · rfl
  · rfl

/-- A request leaves the block as it was, with nothing waiting, or lets the alternative wait, SELOVR set or not. -/
theorem Block.selRequest_cases (s : Block) (k alt : Nat) :
    s.selRequest k alt = s ∧ (s.sel k).wait = (s.sel k).goal alt ∨ s.selRequest k alt = s.selAsked k alt ∨
    s.selRequest k alt = (s.raise Reg.GRF_EVT_SELOVR).selAsked k alt := by
  cases hbusy : (s.sel k).run.isSome || s.frozen with
  | false =>
    obtain ⟨hrun, hfrozen⟩ := Bool.or_eq_false_iff.mp hbusy
    exact .inr (.inl (Block.selRequest_rest (by simpa using hrun) hfrozen))
  | true =>
    cases hwait : (s.sel k).wait with
    | some w => exact .inr (.inr (Block.selRequest_behind hbusy (by simp [hwait])))
    | none =>
      rw [Block.selRequest_first hbusy hwait]
      split
      · next h => exact .inl ⟨rfl, (if_pos h).symm⟩
      · exact .inr (.inl rfl)

/-- Whatever it meets, after a request its alternative waits, or nothing where it is the one in force. -/
theorem Block.selRequest_sel (s : Block) (k alt : Nat) : (s.selRequest k alt).sel k = { s.sel k with wait := (s.sel k).goal alt } := by
  obtain ⟨h, hwait⟩ | h | h := s.selRequest_cases k alt
  · rw [h, ← hwait]
  · rw [h, Block.selAsked, Block.sel_modSel_self]
  · rw [h, Block.selAsked, Block.sel_modSel_self, Block.sel_raise]

theorem Block.selRequest_others (s : Block) (alt : Nat) {j k : Nat} (hj : j ≠ k) : (s.selRequest k alt).sel j = s.sel j := by
  obtain ⟨h, -⟩ | h | h := s.selRequest_cases k alt
  · rw [h]
  · rw [h, Block.selAsked, Block.sel_modSel_other _ _ hj]
  · rw [h, Block.selAsked, Block.sel_modSel_other _ _ hj, Block.sel_raise]

theorem Block.only_selRequest (s : Block) (k alt : Nat) : s.only (s.selRequest k alt) [Reg.GRF_EVT_SELOVR] [.graph] := by
  obtain ⟨h, -⟩ | h | h := s.selRequest_cases k alt <;> rw [h]
  · exact s.only_refl _ _
  · exact Block.only_modSel (s.only_refl _ _) _ _ (by simp)
  · exact Block.only_modSel (Block.only_raise (s.only_refl _ _) _ (by decide) (by simp)) _ _ (by simp)

end Request

/-! ## ALT_WRITE -/

section AltWrite

variable {s : Block} {k alt : Nat}

theorem Block.altWriteOp_over (h : s.f (Reg.GRF_SEL_NALT k) < alt) : s.altWriteOp k alt = s.raise Reg.GRF_EVT_ALTERR := if_pos h

theorem Block.altWriteOp_single (h : alt ≤ s.f (Reg.GRF_SEL_NALT k)) (h0 : s.f (Reg.GRF_SEL_NALT k) = 0) : s.altWriteOp k alt = s := by
  unfold Block.altWriteOp
  dsimp only
  rw [if_neg (Nat.not_lt.mpr h), if_pos h0]

/-- ALT is stored. -/
def Block.altStored (s : Block) (k alt : Nat) : Block := s.put (Reg.GRF_SEL_ALT k) alt

theorem Block.only_altStored (s : Block) (k alt : Nat) : s.only (s.altStored k alt) [Reg.GRF_SEL_ALT k] [.graph] :=
  Block.only_put (s.only_refl _ _) _ _ (by simp [Fld.of_select k]) (by simp)

theorem Block.altStored_on (s : Block) (k alt : Nat) {y : Fld} (hy : y.addr < 0x40400) : (s.altStored k alt).on y = s.on y :=
  Block.only_on (s.only_altStored k alt) (by simpa using (selFld_apart k hy).1)

theorem Block.altStored_f (s : Block) (k : Nat) (halt : alt < 4) : (s.altStored k alt).f (Reg.GRF_SEL_ALT k) = alt := by
  rw [Block.altStored, Block.f_put_self _ _ _ (by simp [Fld.of_select k])]
  exact Nat.mod_eq_of_lt halt

/-- Under SELHOLD the stored alternative is held (R176). -/
theorem Block.altWriteOp_held (h : alt ≤ s.f (Reg.GRF_SEL_NALT k)) (h0 : s.f (Reg.GRF_SEL_NALT k) ≠ 0) (hhold : s.on Reg.GRF_GLB_CTRL_SELHOLD = true) :
    s.altWriteOp k alt = (s.altStored k alt).modSel k (fun x => { x with held := some alt }) := by
  have hstored := (s.altStored_on k alt (y := Reg.GRF_GLB_CTRL_SELHOLD) (by decide)).trans hhold
  unfold Block.altWriteOp
  dsimp only
  rw [if_neg (Nat.not_lt.mpr h), if_neg h0]
  exact if_pos hstored

theorem Block.altWriteOp_request (h : alt ≤ s.f (Reg.GRF_SEL_NALT k)) (h0 : s.f (Reg.GRF_SEL_NALT k) ≠ 0)
    (hhold : s.on Reg.GRF_GLB_CTRL_SELHOLD = false) : s.altWriteOp k alt = (s.altStored k alt).selRequest k alt := by
  have hstored := (s.altStored_on k alt (y := Reg.GRF_GLB_CTRL_SELHOLD) (by decide)).trans hhold
  unfold Block.altWriteOp
  dsimp only
  rw [if_neg (Nat.not_lt.mpr h), if_neg h0]
  exact if_neg (ne_true_of_eq_false hstored)

/-- The registers of ALT_WRITE. -/
def altWriteFlds (k : Nat) : List Fld := [Reg.GRF_SEL_ALT k, Reg.GRF_EVT_ALTERR, Reg.GRF_EVT_SELOVR]

theorem Block.altWriteOp_frame (s : Block) (k alt : Nat) :
    (∀ j, j ≠ k → (s.altWriteOp k alt).sel j = s.sel j) ∧ s.only (s.altWriteOp k alt) (altWriteFlds k) [.graph] := by
  have hstored : s.only (s.altStored k alt) (altWriteFlds k) [.graph] :=
    Block.only_mono (s.only_altStored k alt) (by simp [altWriteFlds]) (List.Subset.refl _)
  by_cases h : s.f (Reg.GRF_SEL_NALT k) < alt
  · rw [Block.altWriteOp_over h]
    exact ⟨fun _ _ => rfl, Block.only_raise (s.only_refl _ _) _ (by decide) (by simp [altWriteFlds])⟩
  by_cases h0 : s.f (Reg.GRF_SEL_NALT k) = 0
  · rw [Block.altWriteOp_single (Nat.not_lt.mp h) h0]
    exact ⟨fun _ _ => rfl, s.only_refl _ _⟩
  cases hhold : s.on Reg.GRF_GLB_CTRL_SELHOLD with
  | true =>
    rw [Block.altWriteOp_held (Nat.not_lt.mp h) h0 hhold]
    exact ⟨fun j hj => Block.sel_modSel_other _ _ hj, Block.only_modSel hstored _ _ (by simp)⟩
  | false =>
    rw [Block.altWriteOp_request (Nat.not_lt.mp h) h0 hhold]
    exact ⟨fun j hj => Block.selRequest_others _ _ hj, Block.only_then hstored (Block.only_selRequest _ k alt) (by simp [altWriteFlds]) (by simp)⟩

/-- A request after the store: what it does to a select at rest, and behind an alternative that waits (R174, R248). -/
theorem Block.altStored_request (s : Block) (k : Nat) (halt : alt < 4) :
    ((s.altStored k alt).selRequest k alt).f (Reg.GRF_SEL_ALT k) = alt ∧
    ((s.sel k).run = none → s.frozen = false →
      ((s.altStored k alt).selRequest k alt).sel k = { s.sel k with wait := (s.sel k).goal alt } ∧
      s.only ((s.altStored k alt).selRequest k alt) [Reg.GRF_SEL_ALT k] [.graph]) ∧
    ((s.sel k).run.isSome = true → (s.sel k).wait.isSome = true → ((s.altStored k alt).selRequest k alt).on Reg.GRF_EVT_SELOVR = true) := by
  refine ⟨?_, fun hrun hfrozen => ⟨(s.altStored k alt).selRequest_sel k alt, ?_⟩, fun hrun hwait => ?_⟩
  · rw [Block.only_f ((s.altStored k alt).only_selRequest k alt), s.altStored_f k halt]
    simp only [List.forall_mem_singleton, Fld.apart, Fld.of_select k]
    omega
  · have hfrozen' : (s.altStored k alt).frozen = false := (s.altStored_on k alt (by decide)).trans hfrozen
    rw [Block.selRequest_rest (s := s.altStored k alt) hrun hfrozen']
    exact Block.only_modSel (s.only_altStored k alt) _ _ (by simp)
  · have hbusy : (((s.altStored k alt).sel k).run.isSome || (s.altStored k alt).frozen) = true := Bool.or_eq_true_iff.mpr (.inl hrun)
    rw [Block.selRequest_behind hbusy hwait]
    exact Block.on_raise_self _ _ (by decide) (by decide)

end AltWrite

theorem altWrite_gives (s : State) (k alt : Nat) (hk : k < 196) (halt : alt < 4) (hcore : s.coreOn = true) : gives (.altWrite k alt) s fun u =>
    (s.f (Reg.GRF_SEL_NALT k) < alt → u.on Reg.GRF_EVT_ALTERR = true ∧ s.only u [Reg.GRF_EVT_ALTERR] []) ∧
    (alt ≤ s.f (Reg.GRF_SEL_NALT k) → s.f (Reg.GRF_SEL_NALT k) = 0 → u = s.toBlock) ∧
    (alt ≤ s.f (Reg.GRF_SEL_NALT k) → s.f (Reg.GRF_SEL_NALT k) ≠ 0 →
      u.f (Reg.GRF_SEL_ALT k) = alt ∧
      (s.on Reg.GRF_GLB_CTRL_SELHOLD = true → u.sel k = { s.sel k with held := some alt } ∧ s.only u [Reg.GRF_SEL_ALT k] [.graph]) ∧
      (s.on Reg.GRF_GLB_CTRL_SELHOLD = false → (s.sel k).run = none → s.frozen = false →
        u.sel k = { s.sel k with wait := (s.sel k).goal alt } ∧ s.only u [Reg.GRF_SEL_ALT k] [.graph]) ∧
      (s.on Reg.GRF_GLB_CTRL_SELHOLD = false → (s.sel k).run.isSome = true → (s.sel k).wait.isSome = true → u.on Reg.GRF_EVT_SELOVR = true)) ∧
    (∀ j, j ≠ k → u.sel j = s.sel j) ∧ s.only u (altWriteFlds k) [.graph] := by
  refine gives_of_hostWrite (g := fun b => b.altWriteOp k alt) rfl hcore (by simp [hk, halt])
    ⟨fun h => ?_, Block.altWriteOp_single, fun h h0 => ?_, s.altWriteOp_frame k alt⟩
  · rw [Block.altWriteOp_over h]
    exact ⟨Block.on_raise_self _ _ (by decide) (by decide), Block.only_raise (s.only_refl _ _) _ (by decide) (by simp)⟩
  · cases hhold : s.on Reg.GRF_GLB_CTRL_SELHOLD with
    | true =>
      rw [Block.altWriteOp_held h h0 hhold]
      exact ⟨s.altStored_f k halt, fun _ => ⟨Block.sel_modSel_self _ _ _, Block.only_modSel (s.only_altStored k alt) _ _ (by simp)⟩, nofun, nofun⟩
    | false =>
      rw [Block.altWriteOp_request h h0 hhold]
      obtain ⟨hstored, hrest, hbehind⟩ := s.altStored_request k halt
      exact ⟨hstored, nofun, fun _ => hrest, fun _ => hbehind⟩

/-! ## SELHOLD_RELEASE -/

/-- The record of a select when SELHOLD is released: a held alternative is requested (R176). -/
def SelSt.released (x : SelSt) : SelSt :=
  match x.held with
  | none => x
  | some alt => { x with held := none, wait := x.goal alt }

/-- A held alternative of a select is requested. -/
def Block.selRelease (k : Nat) (s : Block) : Block :=
  match (s.sel k).held with
  | none => s
  | some alt => (s.modSel k (fun x => { x with held := none })).selRequest k alt

section Release

variable (s : Block)

theorem Block.selRelease_sel (k : Nat) (s : Block) (j : Nat) : (s.selRelease k).sel j = if j = k then (s.sel k).released else s.sel j := by
  unfold Block.selRelease SelSt.released
  split
  · next h => split <;> simp_all
  · next alt h =>
    split
    · next hj =>
      subst hj
      rw [Block.selRequest_sel, Block.sel_modSel_self]
      rfl
    · next hj => rw [Block.selRequest_others _ _ hj, Block.sel_modSel_other _ _ hj]

theorem Block.only_selRelease {l : List Fld} {t : Block} (h : s.only t l [.graph]) (hl : Reg.GRF_EVT_SELOVR ∈ l) (k : Nat) :
    s.only (t.selRelease k) l [.graph] := by
  unfold Block.selRelease
  split
  · exact h
  · exact Block.only_then (Block.only_modSel h _ _ (by simp)) (Block.only_selRequest _ k _) (by simpa using hl) (by simp)

theorem Block.selholdReleaseOp_eq : s.selholdReleaseOp = (s.put Reg.GRF_GLB_CTRL_SELHOLD 0).forAll (List.range 196) Block.selRelease := rfl

theorem Block.selholdReleaseOp_sel (k : Nat) : s.selholdReleaseOp.sel k = if k < 196 then (s.sel k).released else s.sel k := by
  have heach := Block.forAll_each Block.sel (fun _ x => x.released) Block.selRelease Block.selRelease_sel (List.range 196) List.nodup_range
    (s.put Reg.GRF_GLB_CTRL_SELHOLD 0) k
  simpa [Block.selholdReleaseOp_eq] using heach

theorem Block.selholdReleaseOp_selhold : s.selholdReleaseOp.f Reg.GRF_GLB_CTRL_SELHOLD = 0 := by
  have hloop : (s.put Reg.GRF_GLB_CTRL_SELHOLD 0).only s.selholdReleaseOp [Reg.GRF_EVT_SELOVR] [.graph] :=
    Block.only_forAll _ _ (fun k _ t ht => Block.only_selRelease _ ht (by simp) k) (Block.only_refl _ _ _)
  rw [Block.only_f hloop (by simp [Fld.apart, Fld.of_select 0]), Block.f_put_self _ _ _ (by decide), Nat.zero_mod]

theorem Block.only_selholdReleaseOp : s.only s.selholdReleaseOp [Reg.GRF_GLB_CTRL_SELHOLD, Reg.GRF_EVT_SELOVR] [.graph] :=
  Block.only_forAll _ _ (fun k _ t ht => Block.only_selRelease _ ht (by simp) k) (Block.only_put (s.only_refl _ _) _ _ (by decide) (by simp))

end Release

theorem SelSt.released_held (x : SelSt) : x.released.held = none := by
  unfold SelSt.released
  split
  · assumption
  · rfl

theorem SelSt.released_of_none {x : SelSt} (h : x.held = none) : x.released = x := by simp only [SelSt.released, h]

theorem SelSt.released_of_some {x : SelSt} {alt : Nat} (h : x.held = some alt) : x.released = { x with held := none, wait := x.goal alt } := by
  simp only [SelSt.released, h]

theorem selholdRelease_gives (s : State) (hcore : s.coreOn = true) : gives .selholdRelease s fun u =>
    u.f Reg.GRF_GLB_CTRL_SELHOLD = 0 ∧ (∀ k, k < 196 → (u.sel k).held = none) ∧
    (∀ k, (s.sel k).held = none → u.sel k = s.sel k) ∧
    (∀ k alt, k < 196 → (s.sel k).held = some alt → (s.sel k).run = none → s.frozen = false → (u.sel k).wait = (s.sel k).goal alt) ∧
    s.only u [Reg.GRF_GLB_CTRL_SELHOLD, Reg.GRF_EVT_SELOVR] [.graph] := by
  refine gives_of_hostWrite (g := fun b => b.selholdReleaseOp) rfl hcore rfl
    ⟨s.selholdReleaseOp_selhold, fun k hk => ?_, fun k hheld => ?_, fun k alt hk hheld _ _ => ?_, s.only_selholdReleaseOp⟩
  · rw [Block.selholdReleaseOp_sel, if_pos hk, SelSt.released_held]
  · rw [Block.selholdReleaseOp_sel, SelSt.released_of_none hheld, ite_self]
  · rw [Block.selholdReleaseOp_sel, if_pos hk, SelSt.released_of_some hheld]

/-! ## SELECT_SWITCH_END -/

section SwitchEnd

variable {s : Block} {k : Nat}

/-- The switch of a select has reached its last sample (R240). -/
def SelSt.over (x : SelSt) : Bool := x.run.any (fun p => decide (p.2.n ≤ p.2.k))

theorem Block.selectSwitchEndOp_idle (h : (s.sel k).over = false) : s.selectSwitchEndOp k = s := by
  unfold Block.selectSwitchEndOp
  split
  · rfl
  · next old sc hrun =>
    rw [SelSt.over, hrun] at h
    exact if_pos (Nat.lt_of_not_le (of_decide_eq_false h))

/-- A switch that is over ends; an alternative that waits is switched to at once, but under a freeze (R248, R254). -/
theorem Block.selectSwitchEndOp_over (h : (s.sel k).over = true) : s.selectSwitchEndOp k =
    match (s.sel k).wait with
    | some alt => if s.frozen then s.endSwitch k else (s.endSwitch k).startSwitch k alt
    | none => s.endSwitch k := by
  have hfrozen : (s.endSwitch k).frozen = s.frozen := Block.on_put_apart _ _ (by simp [Fld.apart, Fld.of_select 0]) (by decide)
  have hwait : ((s.endSwitch k).sel k).wait = (s.sel k).wait := by rw [Block.endSwitch, Block.sel_raise, Block.sel_modSel_self]
  obtain ⟨⟨old, sc⟩, hrun, hend⟩ := (Option.any_eq_true _ _).mp h
  simp only [Block.selectSwitchEndOp, hrun, hwait, hfrozen]
  exact if_neg (Nat.not_lt.mpr (of_decide_eq_true hend))

theorem Block.only_endSwitch (s : Block) (k : Nat) : s.only (s.endSwitch k) [Reg.GRF_EVT_SELDONE] [.graph] :=
  Block.only_raise (Block.only_modSel (s.only_refl _ _) _ _ (by simp)) _ (by decide) (by simp)

theorem Block.endSwitch_sel (s : Block) (k : Nat) : (s.endSwitch k).sel k = { s.sel k with run := none } := by
  rw [Block.endSwitch, Block.sel_raise, Block.sel_modSel_self]

theorem Block.endSwitch_done (s : Block) (k : Nat) : (s.endSwitch k).on Reg.GRF_EVT_SELDONE = true :=
  Block.on_raise_self _ _ (by decide) (by decide)

theorem Block.endSwitch_others (s : Block) {j k : Nat} (hj : j ≠ k) : (s.endSwitch k).sel j = s.sel j := by
  rw [Block.endSwitch, Block.sel_raise, Block.sel_modSel_other _ _ hj]

/-- The alternatives of a select lie outside the events. -/
theorem Block.endSwitch_altSource (s : Block) (k alt : Nat) : (s.endSwitch k).altSource k alt = s.altSource k alt := by
  have hf {y : Fld} (hy : 0x40400 ≤ y.addr) : (s.endSwitch k).f y = s.f y :=
    Block.only_f (s.only_endSwitch k) (by simp only [List.forall_mem_singleton, Fld.apart, Fld.of_select 0]; omega)
  unfold Block.altSource
  split <;> exact hf (by simp only [Fld.of_select k]; omega)

theorem Block.startSwitch_frame (s : Block) (k alt : Nat) : (∀ j, j ≠ k → (s.startSwitch k alt).sel j = s.sel j) ∧
    s.only (s.startSwitch k alt) [Reg.GRF_SEL_CUR k] [.graph] :=
  ⟨fun j hj => (Block.sel_modSel_other _ _ hj).trans (s.sel_put _ _ j),
    Block.only_modSel (Block.only_put (s.only_refl _ _) _ _ (by simp [Fld.of_select k]) (by simp)) _ _ (by simp)⟩

/-- A switch runs to the alternative, and CUR shows its source (R174). -/
theorem Block.startSwitch_facts (s : Block) (k alt : Nat) : ((s.startSwitch k alt).sel k).alt = alt ∧ ((s.startSwitch k alt).sel k).wait = none ∧
    ((s.startSwitch k alt).sel k).run.isSome = true ∧
    (s.startSwitch k alt).f (Reg.GRF_SEL_CUR k) = s.altSource k alt % 2 ^ (Reg.GRF_SEL_CUR k).width := by
  unfold Block.startSwitch
  dsimp only
  rw [Block.sel_modSel_self, Block.modSel_f, Block.f_put_self _ _ _ (by simp [Fld.of_select k])]
  exact ⟨rfl, rfl, rfl, rfl⟩

theorem Block.selectSwitchEndOp_frame (s : Block) (k : Nat) : (∀ j, j ≠ k → (s.selectSwitchEndOp k).sel j = s.sel j) ∧
    s.only (s.selectSwitchEndOp k) [Reg.GRF_EVT_SELDONE, Reg.GRF_SEL_CUR k] [.graph] := by
  have hend : s.only (s.endSwitch k) [Reg.GRF_EVT_SELDONE, Reg.GRF_SEL_CUR k] [.graph] :=
    Block.only_mono (s.only_endSwitch k) (by simp) (List.Subset.refl _)
  have hothers (j : Nat) (hj : j ≠ k) : (s.endSwitch k).sel j = s.sel j := Block.endSwitch_others s hj
  cases h : (s.sel k).over with
  | false =>
    rw [Block.selectSwitchEndOp_idle h]
    exact ⟨fun _ _ => rfl, s.only_refl _ _⟩
  | true =>
    rw [Block.selectSwitchEndOp_over h]
    split
    · split
      · exact ⟨hothers, hend⟩
      · obtain ⟨hstart, hframe⟩ := (s.endSwitch k).startSwitch_frame k _
        exact ⟨fun j hj => (hstart j hj).trans (hothers j hj), Block.only_then hend hframe (by simp) (by simp)⟩
    · exact ⟨hothers, hend⟩

theorem Block.selectSwitchEndOp_done (h : (s.sel k).over = true) : (s.selectSwitchEndOp k).on Reg.GRF_EVT_SELDONE = true := by
  rw [Block.selectSwitchEndOp_over h]
  split
  · split
    · exact s.endSwitch_done k
    · next alt _ _ =>
      rw [Block.only_on ((s.endSwitch k).startSwitch_frame k alt).2, s.endSwitch_done]
      simpa using (selFld_apart k (y := Reg.GRF_EVT_SELDONE) (by decide)).2
  · exact s.endSwitch_done k

end SwitchEnd

theorem selectSwitchEnd_gives (s : State) (k : Nat) (hk : k < 196) : gives (.selectSwitchEnd k) s fun u =>
    ((s.sel k).over = false → u = s.toBlock) ∧
    ((s.sel k).over = true → u.on Reg.GRF_EVT_SELDONE = true ∧
      ((s.sel k).wait = none → u.sel k = { s.sel k with run := none } ∧ s.only u [Reg.GRF_EVT_SELDONE] [.graph]) ∧
      (∀ alt, (s.sel k).wait = some alt → s.frozen = false → (u.sel k).alt = alt ∧ (u.sel k).wait = none ∧ (u.sel k).run.isSome = true ∧
        u.f (Reg.GRF_SEL_CUR k) = s.altSource k alt % 2 ^ (Reg.GRF_SEL_CUR k).width)) ∧
    (∀ j, j ≠ k → u.sel j = s.sel j) ∧ s.only u [Reg.GRF_EVT_SELDONE, Reg.GRF_SEL_CUR k] [.graph] := by
  refine gives_of_act (g := fun b => b.selectSwitchEndOp k) rfl (by simpa using hk)
    ⟨Block.selectSwitchEndOp_idle, fun h => ⟨Block.selectSwitchEndOp_done h, fun hwait => ?_, fun alt hwait hfrozen => ?_⟩,
      s.selectSwitchEndOp_frame k⟩
  · rw [Block.selectSwitchEndOp_over h, hwait]
    exact ⟨s.endSwitch_sel k, s.only_endSwitch k⟩
  · rw [Block.selectSwitchEndOp_over h, hwait]
    dsimp only
    rw [if_neg (ne_true_of_eq_false hfrozen), ← s.endSwitch_altSource k alt]
    exact (s.endSwitch k).startSwitch_facts k alt

/-! ## RING_INDEX_WRITE -/

section Ring

variable (s : Block) (t : Nat) (v : Word)

/-- Where the fields of a ring lie (R198). -/
theorem Fld.of_ring : Reg.GRF_RING_WR_WR t = ⟨0x41C04 + 0x20 * t, 0, 32⟩ ∧ Reg.GRF_RING_RD_RD t = ⟨0x41C08 + 0x20 * t, 0, 32⟩ ∧
    Reg.GRF_RING_EVT_IDXERR t = ⟨0x41C18 + 0x20 * t, 2, 1⟩ := ⟨rfl, rfl, rfl⟩

/-- The distance of two indices is their difference as words (R191). -/
theorem ringDistance (x : Nat) (h : x < 2 ^ 32) : (v - BitVec.ofNat 32 x).toNat = (v.toNat + 2 ^ 32 - x) % 2 ^ 32 := by
  have := v.isLt
  simp only [BitVec.toNat_sub, BitVec.toNat_ofNat]
  omega

theorem ringDistance' (x : Nat) (h : x < 2 ^ 32) : (BitVec.ofNat 32 x - v).toNat = (x + 2 ^ 32 - v.toNat) % 2 ^ 32 := by
  have := v.isLt
  simp only [BitVec.toNat_sub, BitVec.toNat_ofNat]
  omega

/-- An index that is stored, or refused with IDXERR (R195). -/
theorem Block.ringIndex_stored {x : Fld} (hx : x.lo = 0) (hw : x.width = 32) : (s.put x v.toNat).f x = v.toNat ∧ s.only (s.put x v.toNat) [x] [] := by
  have hfit : x.lo + x.width ≤ 32 := by omega
  refine ⟨?_, Block.only_put (s.only_refl _ _) _ _ hfit (by simp)⟩
  rw [Block.f_put_self _ _ _ hfit, hw]
  exact Nat.mod_eq_of_lt v.isLt

theorem Block.ringIndex_refused : (s.raise (Reg.GRF_RING_EVT_IDXERR t)).on (Reg.GRF_RING_EVT_IDXERR t) = true ∧
    s.only (s.raise (Reg.GRF_RING_EVT_IDXERR t)) [Reg.GRF_RING_EVT_IDXERR t] [] :=
  ⟨Block.on_raise_self _ _ (by simp [Fld.of_ring]) (by simp [Fld.of_ring]), Block.only_raise (s.only_refl _ _) _ (by simp [Fld.of_ring]) (by simp)⟩

theorem Block.ringIndexOp_own {isWr : Bool} (h : t < 8 ∧ isWr = false ∨ 8 ≤ t ∧ isWr = true) (n : Nat) : s.ringIndexOp t isWr n = s := by
  unfold Block.ringIndexOp
  obtain ⟨ht, rfl⟩ | ⟨ht, rfl⟩ := h
  · rw [if_pos ht]; rfl
  · rw [if_neg (Nat.not_lt.mpr ht)]; rfl

theorem Block.ringIndexOp_in (ht : t < 8) : s.ringIndexOp t true v.toNat =
    if (v - BitVec.ofNat 32 (s.f (Reg.GRF_RING_RD_RD t))).toNat ≤ s.ringLen t then s.put (Reg.GRF_RING_WR_WR t) v.toNat
    else s.raise (Reg.GRF_RING_EVT_IDXERR t) := by
  rw [ringDistance v _ (s.f_lt _), ← ite_not]
  simp only [Nat.not_le]
  unfold Block.ringIndexOp
  rw [if_pos ht]
  exact if_neg (by decide)

theorem Block.ringIndexOp_out (ht : 8 ≤ t) : s.ringIndexOp t false v.toNat =
    if (BitVec.ofNat 32 (s.f (Reg.GRF_RING_WR_WR t)) - v).toNat < 2 ^ 31 then s.put (Reg.GRF_RING_RD_RD t) v.toNat
    else s.raise (Reg.GRF_RING_EVT_IDXERR t) := by
  rw [ringDistance' v _ (s.f_lt _), ← ite_not]
  simp only [Nat.not_lt]
  unfold Block.ringIndexOp
  rw [if_neg (Nat.not_lt.mpr ht)]
  exact if_neg (by decide)

end Ring

theorem ringIndexWrite_gives (s : State) (t : Nat) (isWr : Bool) (v : Word) (ht : t < 16) (hcore : s.coreOn = true) :
    gives (.ringIndexWrite t isWr v) s fun u =>
    (t < 8 → isWr = false → u = s.toBlock) ∧ (8 ≤ t → isWr = true → u = s.toBlock) ∧
    (t < 8 → isWr = true → (if (v - BitVec.ofNat 32 (s.f (Reg.GRF_RING_RD_RD t))).toNat ≤ s.ringLen t then
      u.f (Reg.GRF_RING_WR_WR t) = v.toNat ∧ s.only u [Reg.GRF_RING_WR_WR t] []
      else u.on (Reg.GRF_RING_EVT_IDXERR t) = true ∧ s.only u [Reg.GRF_RING_EVT_IDXERR t] [])) ∧
    (8 ≤ t → isWr = false → (if (BitVec.ofNat 32 (s.f (Reg.GRF_RING_WR_WR t)) - v).toNat < 2 ^ 31 then
      u.f (Reg.GRF_RING_RD_RD t) = v.toNat ∧ s.only u [Reg.GRF_RING_RD_RD t] []
      else u.on (Reg.GRF_RING_EVT_IDXERR t) = true ∧ s.only u [Reg.GRF_RING_EVT_IDXERR t] [])) := by
  refine gives_of_hostWrite (g := fun b => b.ringIndexOp t isWr v.toNat) rfl hcore (by simpa using ht)
    ⟨fun h hr => s.ringIndexOp_own t (.inl ⟨h, hr⟩) _, fun h hr => s.ringIndexOp_own t (.inr ⟨h, hr⟩) _, ?_, ?_⟩
  · rintro h rfl
    rw [Block.ringIndexOp_in _ _ _ h]
    split
    · exact s.ringIndex_stored v rfl rfl
    · exact s.ringIndex_refused t
  · rintro h rfl
    rw [Block.ringIndexOp_out _ _ _ h]
    split
    · exact s.ringIndex_stored v rfl rfl
    · exact s.ringIndex_refused t

end Sys2Proof.Machine
end

section
/-! SUPPORT. What no step of the graph moves: the components beside those of the sound's way, the grid, and the sinks that wait for release; here for
the updates and the memories (R165, R179). -/

namespace Sys2Proof.Machine

/-- The block with everything blanked that the processing of a graph sample may move: what is left are the bystanders, and of the graph the sinks that
wait for release (R179). -/
def Block.bystanders (s : Block) : Block :=
  { s with regs := [], freeK := 0, ledger := {}, ports := {}, chains := {}, graph := { work := s.graph.work, buf := s.graph.buf }, sap := {},
           mem := {}, bst := {} }

/-- The components that the processing of a graph sample may move. -/
def soundParts : List Part := [.free, .ledger, .ports, .chains, .graph, .sap, .mem, .bst]

/-- The bystanders are the components beside those of the sound's way, and the sinks of the graph. -/
theorem Block.bystanders_eq_iff {s t : Block} : t.bystanders = s.bystanders ↔
    (∀ p, p ∉ soundParts → p.same s t) ∧ t.graph.work = s.graph.work ∧ t.graph.buf = s.graph.buf := by
  constructor
  · intro h
    refine ⟨fun p hp => ?_, (congrArg (·.graph.work) h :), (congrArg (·.graph.buf) h :)⟩
    cases p with
    | time => exact (congrArg Block.time h :)
    | host => exact (congrArg Block.host h :)
    | core => exact (congrArg Block.core h :)
    | cells => exact (congrArg Block.cells h :)
    | dir => exact (congrArg Block.dir h :)
    | spk => exact (congrArg Block.spk h :)
    | csc => exact (congrArg Block.csc h :)
    | clk => exact (congrArg Block.clk h :)
    | net => exact (congrArg Block.net h :)
    | img => exact (congrArg Block.img h :)
    | pwr => exact (congrArg Block.pwr h :)
    | lsn => exact (congrArg Block.lsn h :)
    | otp => exact (congrArg Block.otp h :)
    | free | ledger | ports | chains | graph | sap | mem | bst => exact absurd hp (by decide)
  · rintro ⟨hp, hwork, hbuf⟩
    simp only [Block.bystanders, Block.mk.injEq, hwork, hbuf, true_and]
    exact ⟨hp .time (by decide), hp .host (by decide), hp .core (by decide), hp .cells (by decide), hp .dir (by decide), hp .spk (by decide),
      hp .csc (by decide), hp .clk (by decide), hp .net (by decide), hp .img (by decide), hp .pwr (by decide), hp .lsn (by decide), hp .otp (by decide)⟩

section Updates

variable (s : Block)

@[simp] theorem Block.bystanders_setW (a : Nat) (w : Word) : (s.setW a w).bystanders = s.bystanders := rfl
@[simp] theorem Block.bystanders_put (x : Fld) (v : Nat) : (s.put x v).bystanders = s.bystanders := s.bystanders_setW _ _
@[simp] theorem Block.bystanders_putB (x : Fld) (v : Bool) : (s.putB x v).bystanders = s.bystanders := s.bystanders_setW _ _
@[simp] theorem Block.bystanders_raise (x : Fld) : (s.raise x).bystanders = s.bystanders := s.bystanders_setW _ _
@[simp] theorem Block.bystanders_bumpWrap (x : Fld) : (s.bumpWrap x).bystanders = s.bystanders := s.bystanders_setW _ _
@[simp] theorem Block.bystanders_bump (x : Fld) : (s.bump x).bystanders = s.bystanders := by
  unfold Block.bump
  split
  · exact s.bystanders_put x _
  · rfl

@[simp] theorem Block.bystanders_ite (c : Prop) [Decidable c] (t : Block) :
    (if c then s else t).bystanders = if c then s.bystanders else t.bystanders := apply_ite Block.bystanders c s t

/-- The same for a branch beside a result. -/
@[simp] theorem Block.bystanders_ite_snd {α : Type} (c : Prop) [Decidable c] (p q : α × Block) :
    (if c then p else q).2.bystanders = if c then p.2.bystanders else q.2.bystanders := apply_ite (fun r : α × Block => r.2.bystanders) c p q

@[simp] theorem Block.bystanders_ite_snd_snd {α β : Type} (c : Prop) [Decidable c] (p q : α × β × Block) :
    (if c then p else q).2.2.bystanders = if c then p.2.2.bystanders else q.2.2.bystanders :=
  apply_ite (fun r : α × β × Block => r.2.2.bystanders) c p q

theorem Block.bystanders_either {s t u : Block} {c : Prop} [Decidable c] (hs : s.bystanders = u.bystanders) (ht : t.bystanders = u.bystanders) :
    (if c then s else t).bystanders = u.bystanders := by
  rw [Block.bystanders_ite, hs, ht, ite_self]

@[simp] theorem Block.bystanders_onlyIf (c : Bool) (g : Block → Block) (h : (g s).bystanders = s.bystanders) :
    (s.onlyIf c g).bystanders = s.bystanders := by
  cases c
  · rfl
  · exact h

@[simp] theorem Block.bystanders_forAll {α : Type} (l : List α) (g : α → Block → Block) (h : ∀ a t, (g a t).bystanders = t.bystanders) :
    (s.forAll l g).bystanders = s.bystanders := Block.forAll_keeps Block.bystanders l g h s

/-- A loop over a block and a result beside it. -/
theorem Block.bystanders_foldl {α β : Type} (π : β → Block) (l : List α) (g : β → α → β) (h : ∀ r a, (π (g r a)).bystanders = (π r).bystanders)
    (r : β) : (π (l.foldl g r)).bystanders = (π r).bystanders := by
  induction l generalizing r with
  | nil => rfl
  | cons a l ih => rw [List.foldl_cons, ih, h]

@[simp] theorem Block.bystanders_used : s.used.bystanders = s.bystanders := rfl
@[simp] theorem Block.bystanders_ledger (x : Ledger) : ({ s with ledger := x } : Block).bystanders = s.bystanders := rfl
@[simp] theorem Block.bystanders_sap (x : Serial) : ({ s with sap := x } : Block).bystanders = s.bystanders := rfl
@[simp] theorem Block.bystanders_setEntry (n : Nat) (x : Option LedgerEntry) : (s.setEntry n x).bystanders = s.bystanders := rfl
@[simp] theorem Block.bystanders_modMem (g : Mem → Mem) : (s.modMem g).bystanders = s.bystanders := rfl
@[simp] theorem Block.bystanders_modBst (g : Bst → Bst) : (s.modBst g).bystanders = s.bystanders := rfl
@[simp] theorem Block.bystanders_modBlk (b : Nat) (g : BlkSt → BlkSt) : (s.modBlk b g).bystanders = s.bystanders := rfl
@[simp] theorem Block.bystanders_modSel (k : Nat) (g : SelSt → SelSt) : (s.modSel k g).bystanders = s.bystanders := rfl
@[simp] theorem Block.bystanders_modSrc (c : Nat) (g : SrcSt → SrcSt) : (s.modSrc c g).bystanders = s.bystanders := rfl
@[simp] theorem Block.bystanders_modSap (p : Nat) (g : SapSt → SapSt) : (s.modSap p g).bystanders = s.bystanders := rfl
@[simp] theorem Block.bystanders_modChain (c : ChainId) (g : ChainSt → ChainSt) : (s.modChain c g).bystanders = s.bystanders := rfl
@[simp] theorem Block.bystanders_modIn (n : Nat) (g : InSt → InSt) : (s.modIn n g).bystanders = s.bystanders := rfl

/-- A change of the graph beside its sinks. -/
@[simp] theorem Block.bystanders_modGraph (h : Graph → Graph) (hw : (h s.graph).work = s.graph.work) (hb : (h s.graph).buf = s.graph.buf) :
    (s.modGraph h).bystanders = s.bystanders := by
  simp only [Block.bystanders, Block.modGraph, hw, hb]

end Updates

section Memory

variable (s : Block) (x reader : Nat) (snap : List Word)

@[simp] theorem Block.bystanders_newEntry (cause block inst : Nat) (detail : Word) :
    (s.newEntry cause block inst detail snap).bystanders = s.bystanders := by
  simp [Block.newEntry]

@[simp] theorem Block.bystanders_record (cause block inst : Nat) (detail : Word) : (s.record cause block inst detail snap).bystanders = s.bystanders := by
  unfold Block.record
  split <;> simp

@[simp] theorem Block.bystanders_failBank : (s.failBank x).bystanders = s.bystanders := by
  simp [Block.failBank]

@[simp] theorem Block.bystanders_corrected : (s.corrected x).bystanders = s.bystanders := by
  simp [Block.corrected]

@[simp] theorem Block.bystanders_uncorrectable : (s.uncorrectable x reader snap).bystanders = s.bystanders := by
  have hlocated : ((((s.bump Reg.MEM_UE_CNT_UE).raise Reg.MEM_EVT_UE).put Reg.MEM_UE_ADDR_ADDR x).put Reg.MEM_UE_ADDR_RDR reader).bystanders =
      s.bystanders := by simp
  have hnoted (l : List (Nat × Nat)) := (Block.bystanders_modMem _ (fun m => { m with ueSeen := l })).trans hlocated
  unfold Block.uncorrectable
  refine Block.bystanders_either ((Block.bystanders_record ..).trans hlocated) ?_
  exact Block.bystanders_either ((Block.bystanders_failBank ..).trans ((Block.bystanders_record ..).trans (hnoted _)))
    ((Block.bystanders_record ..).trans (hnoted _))

@[simp] theorem Block.bystanders_sramRead : (s.sramRead x reader snap).2.2.bystanders = s.bystanders := by
  unfold Block.sramRead
  dsimp only
  split
  · rfl
  · split <;> simp

@[simp] theorem Block.bystanders_sramWrite (w : Word) : (s.sramWrite x w).bystanders = s.bystanders := by
  simp [Block.sramWrite]

@[simp] theorem Block.bystanders_coefRead (c : Nat) : (s.coefRead x c).2.2.bystanders = s.bystanders := by
  unfold Block.coefRead
  dsimp only
  split <;> simp

@[simp] theorem Block.bystanders_lineRead (b base len behind : Nat) : (s.lineRead b base len behind).2.bystanders = s.bystanders := by
  unfold Block.lineRead
  dsimp only
  split
  · rfl
  · simp

@[simp] theorem Block.bystanders_lineWrite (b base len : Nat) (y : Sample) : (s.lineWrite b base len y).bystanders = s.bystanders := by
  simp [Block.lineWrite]

end Memory

section Blocks

variable (s : Block) (b : Nat)

@[simp] theorem Block.bystanders_moveGain (x : Fld) (goal : Rat) (n : Nat) : (s.moveGain x goal n).2.bystanders = s.bystanders := by
  unfold Block.moveGain
  dsimp only
  split
  · rfl
  split
  · rfl
  · simp

@[simp] theorem Block.bystanders_blkSat (sat : Bool) : (s.blkSat b sat).bystanders = s.bystanders := by
  simp [Block.blkSat]

@[simp] theorem Block.bystanders_runVersions (f : Ver → (Int × Byte) × Ver × Nat) : (s.runVersions b f).2.bystanders = s.bystanders := by
  unfold Block.runVersions
  dsimp only
  split <;> simp

@[simp] theorem Block.bystanders_runStrip (n : Nat) (x : Sample) (key : KeyIn) : (s.runStrip n x key).2.2.bystanders = s.bystanders := by
  simp [Block.runStrip]

@[simp] theorem Block.bystanders_sendSingle (n k : Nat) (pre : Int × Byte) (out : Sample) :
    (s.sendSingle n k pre out).2.bystanders = s.bystanders := by
  simp [Block.sendSingle]

@[simp] theorem Block.bystanders_sendStereo (n k : Nat) (preA preB : Int × Byte) (outA outB : Sample) :
    (s.sendStereo n k preA preB outA outB).2.bystanders = s.bystanders := by
  simp [Block.sendStereo]

@[simp] theorem Block.bystanders_movePan (n : Nat) : (s.movePan n).bystanders = s.bystanders := by
  simp [Block.movePan]

@[simp] theorem Block.bystanders_runBus (bus : Nat) (sends : List (Nat × Rat × Sample)) : (s.runBus bus sends).2.bystanders = s.bystanders := by
  simp [Block.runBus]

@[simp] theorem Block.bystanders_runBusProc (p : Nat) (x : Sample) (key : KeyIn) : (s.runBusProc p x key).2.bystanders = s.bystanders := by
  simp [Block.runBusProc]

@[simp] theorem Block.bystanders_convolve (c bank taps : Nat) (hist : List Sample) : (s.convolve c bank taps hist).2.bystanders = s.bystanders := by
  unfold Block.convolve
  dsimp only
  rw [Block.bystanders_blkSat, Block.bystanders_foldl (fun r : (Int × Bool) × Byte × Block => r.2.2)]
  simp

@[simp] theorem Block.bystanders_runConv (c : Nat) (x : Sample) : (s.runConv c x).2.bystanders = s.bystanders := by
  unfold Block.runConv
  dsimp only
  split <;> simp

@[simp] theorem Block.bystanders_modRead (base len : Nat) (x : Sample) (pos : Rat) : (s.modRead b base len x pos).2.bystanders = s.bystanders := by
  unfold Block.modRead
  dsimp only
  rw [Block.bystanders_blkSat, Block.bystanders_foldl (fun r : List Rat × Byte × Block => r.2.2)]
  intro r w
  split
  · rfl
  · simp

@[simp] theorem Block.bystanders_runModChan (m e : Nat) (x : Sample) (l dry wet p0 p1 : Rat) :
    (s.runModChan m e x l dry wet p0 p1).2.bystanders = s.bystanders := by
  simp [Block.runModChan]

@[simp] theorem Block.bystanders_runMod (m : Nat) (xl xr : Sample) : (s.runMod m xl xr).2.2.bystanders = s.bystanders := by
  simp [Block.runMod]

@[simp] theorem Block.bystanders_delayRead (base len pos : Nat) : (s.delayRead b base len pos).2.bystanders = s.bystanders := by
  simp [Block.delayRead]

@[simp] theorem Block.bystanders_delayOut (d : Nat) : (s.delayOut d).2.2.bystanders = s.bystanders := by
  unfold Block.delayOut
  dsimp -zeta only
  extract_lets b moved chan
  have hmoved : moved.bystanders = s.bystanders := by simp [moved]
  have hchan (t : Block) (ch : Nat) : (chan t ch).2.bystanders = t.bystanders := by
    cases h : (t.blk b).next <;> simp [chan, h]
  rw [hchan, hchan, hmoved]

@[simp] theorem Block.bystanders_delayIn (d : Nat) (xl xr : Sample) : (s.delayIn d xl xr).bystanders = s.bystanders := by
  simp [Block.delayIn]

@[simp] theorem Block.bystanders_reverbOut (v : Nat) : (s.reverbOut v).2.2.bystanders = s.bystanders := by
  unfold Block.reverbOut
  dsimp -zeta only
  extract_lets b old x r heard side
  have hr : r.2.2.2.bystanders = s.bystanders := by
    refine (Block.bystanders_foldl (fun r : List Int × List Int × List Byte × Block => r.2.2.2) _ _ (fun r i => ?_) _).trans ?_ <;> simp
  simp [heard, hr]

@[simp] theorem Block.bystanders_reverbIn (v : Nat) (xl xr : Sample) : (s.reverbIn v xl xr).bystanders = s.bystanders := by
  unfold Block.reverbIn
  dsimp -zeta only
  extract_lets b y premax pre written
  have hpre (t : Block) (side : Nat) : (pre t side).2.bystanders = t.bystanders := by
    cases h : y.next <;> simp [pre, h]
  simp [written, hpre]

@[simp] theorem Block.bystanders_runTone (g : Nat) : (s.runTone g).2.bystanders = s.bystanders := by
  simp [Block.runTone]

@[simp] theorem Block.bystanders_calibrate (n : Nat) (x : Sample) : (s.calibrate n x).2.bystanders = s.bystanders := by
  unfold Block.calibrate
  split
  · rfl
  · simp

end Blocks

end Sys2Proof.Machine
end

section
/-! SUPPORT. What no step of the graph moves: serial ports and resamplers, chains, rings, the schedule, the starts and the progress of scarfs and
switches (R165, R179, R185). -/

namespace Sys2Proof.Machine

/-! ## Serial ports, resamplers and chains -/

section Serial

variable (s : Block) (c : Nat)

@[simp] theorem Block.bystanders_srcXrun : (s.srcXrun c).bystanders = s.bystanders := by
  simp [Block.srcXrun]

@[simp] theorem Block.bystanders_srcPush (x : Sample) (t : Rat) : (s.srcPush c x t).bystanders = s.bystanders := by
  simp [Block.srcPush]

@[simp] theorem Block.bystanders_srcTake (t period : Rat) : (s.srcTake c t period).2.2.bystanders = s.bystanders := by
  simp [Block.srcTake]

@[simp] theorem Block.bystanders_srcOutput (t period : Rat) : (s.srcOutput c t period).2.2.bystanders = s.bystanders := by
  unfold Block.srcOutput
  split <;> simp

@[simp] theorem Block.bystanders_srcGate (x : Sample) (lost : Bool) : (s.srcGate c x lost).2.bystanders = s.bystanders := by
  unfold Block.srcGate
  dsimp only
  split
  · simp
  split
  · simp
  split
  · simp
  · simp

@[simp] theorem Block.bystanders_srcToGraph : (s.srcToGraph c).2.bystanders = s.bystanders := by
  unfold Block.srcToGraph
  dsimp only
  split
  · simp
  · split <;> simp

@[simp] theorem Block.bystanders_srcFromGraph (x : Sample) : (s.srcFromGraph c x).bystanders = s.bystanders := by
  simp [Block.srcFromGraph]

@[simp] theorem Block.bystanders_takeFresh (p code : Nat) : (s.takeFresh p code).2.bystanders = s.bystanders := by
  simp [Block.takeFresh]

@[simp] theorem Block.bystanders_sapRelease (slot : Nat → Sample) : (s.sapRelease slot).bystanders = s.bystanders :=
  s.bystanders_forAll _ _ fun _ _ => by simp

@[simp] theorem Block.bystanders_sapInstant : s.sapInstant.bystanders = s.bystanders := by
  unfold Block.sapInstant
  dsimp only
  rw [Block.bystanders_forAll _ _ _ fun _ _ => by simp]
  refine s.bystanders_forAll _ _ fun k t => ?_
  split <;> simp

/-- What moves chains alone leaves the bystanders. -/
theorem Block.bystanders_of_chains {s t : Block} {l : List Fld} (h : s.only t l [.chains]) : t.bystanders = s.bystanders :=
  Block.bystanders_eq_iff.mpr ⟨fun p hp => h.2 p (fun hc => hp (by simp_all [soundParts])), congrArg Graph.work (h.2 .graph (by decide)),
    congrArg Graph.buf (h.2 .graph (by decide))⟩

@[simp] theorem Block.bystanders_intFeed (m : Nat) : (s.intFeed m).bystanders = s.bystanders :=
  Block.bystanders_of_chains (Block.intFeed_step (.refl _ _ _ s)).frame

@[simp] theorem Block.bystanders_chainInstant (sink : Nat → Sample) : (s.chainInstant sink).bystanders = s.bystanders :=
  s.bystanders_forAll _ _ fun m t => (Block.bystanders_onlyIf _ _ _ (Block.bystanders_intFeed _ m)).trans (t.bystanders_modChain _ _)

end Serial

/-! ## Rings -/

section Rings

variable (s : Block) (t : Nat)

@[simp] theorem Block.bystanders_ringNote : (s.ringNote t).bystanders = s.bystanders := by
  unfold Block.ringNote
  refine (Block.bystanders_onlyIf _ _ _ (Block.bystanders_raise _ _)).trans ((Block.bystanders_modGraph _ _ rfl rfl).trans ?_)
  rw [Block.bystanders_putB, Block.bystanders_putB, Block.bystanders_put]

@[simp] theorem Block.bystanders_ringXrun : (s.ringXrun t).bystanders = s.bystanders := by
  simp [Block.ringXrun]

@[simp] theorem Block.bystanders_streamIn : (s.streamIn t).2.bystanders = s.bystanders := by
  simp [Block.streamIn]

@[simp] theorem Block.bystanders_streamOut (x : Sample) : (s.streamOut t x).bystanders = s.bystanders := by
  simp [Block.streamOut]

end Rings

/-! ## The schedule -/

section Schedule

variable (s : Block) (c : Sched)

@[simp] theorem Block.bystanders_directReturn (r : Nat) : (s.directReturn c r).2.bystanders = s.bystanders := by
  simp [Block.directReturn]

/-- A loop that gathers something beside a block. -/
@[simp] theorem Block.bystanders_gather {α β : Type} (l : List α) (g : β × Block → α → β × Block)
    (h : ∀ r a, (g r a).2.bystanders = r.2.bystanders) (r : β × Block) : (l.foldl g r).2.bystanders = r.2.bystanders :=
  Block.bystanders_foldl (fun r : β × Block => r.2) l g h r

/-- The same loop, its step given by what it answers: nothing has to evaluate the step to see that. -/
theorem Block.bystanders_gather_of {α β : Type} (l : List α) (g : β × Block → α → β × Block)
    (h : ∀ r a p, g r a = p → p.2.bystanders = r.2.bystanders) (c : β) (t : Block) : (l.foldl g (c, t)).2.bystanders = t.bystanders :=
  Block.bystanders_gather l g (fun r a => h r a _ rfl) (c, t)

@[simp] theorem Block.bystanders_runSends (n : Nat) : (s.runSends c n).2.bystanders = s.bystanders := by
  unfold Block.runSends
  dsimp only
  split
  · simp
  · simp

@[simp] theorem Block.bystanders_runBlock (b : Nat) : (s.runBlock c b).2.bystanders = s.bystanders := by
  simp [Block.runBlock]

@[simp] theorem Block.bystanders_runAll (fuel : Nat) : (Block.runAll fuel c s).2.bystanders = s.bystanders := by
  induction fuel generalizing c s with
  | zero => rfl
  | succ fuel ih =>
    unfold Block.runAll
    split
    · rfl
    · dsimp only
      rw [ih, Block.bystanders_runBlock]

/-- The sources outside the schedule: from the outside in, the reverbs, the delays, the generators, the returns, the rings and the inputs. -/
@[simp] theorem Block.bystanders_latch : s.latch.2.bystanders = s.bystanders := by
  unfold Block.latch
  refine (Block.bystanders_gather _ _ (fun _ _ => by exact Block.bystanders_reverbOut ..) _).trans ?_
  refine (Block.bystanders_gather _ _ (fun _ _ => by exact Block.bystanders_delayOut ..) _).trans ?_
  refine (Block.bystanders_gather _ _ (fun _ _ => by exact Block.bystanders_runTone ..) _).trans ?_
  refine (Block.bystanders_gather _ _ (fun _ _ => by exact Block.bystanders_directReturn ..) _).trans ?_
  refine (Block.bystanders_gather_of _ _ (fun r t p hp => ?ring) _ _).trans
    (Block.bystanders_gather _ _ (fun _ _ => by exact Block.bystanders_calibrate ..) _)
  case ring =>
    have hring := r.2.bystanders_streamIn t
    generalize r.2.streamIn t = q at hp hring
    obtain ⟨x, b⟩ := q
    subst hp
    exact hring

@[simp] theorem Block.bystanders_schedule : s.schedule.2.bystanders = s.bystanders := by
  unfold Block.schedule
  refine (Block.bystanders_forAll _ _ _ fun v t => Block.bystanders_reverbIn ..).trans ?_
  refine (Block.bystanders_forAll _ _ _ fun d t => Block.bystanders_delayIn ..).trans ?_
  rw [Block.bystanders_runAll, Block.bystanders_latch]

end Schedule

/-! ## Starts and progress -/

section Progress

variable (s : Block)

@[simp] theorem Block.bystanders_bstClose (t item verdict applied note : Nat) : (s.bstClose t item verdict applied note).bystanders = s.bystanders := by
  simp [Block.bstClose, Block.bstNote]

@[simp] theorem Block.bystanders_scrambleChunk (chunk : Nat) : (s.scrambleChunk chunk).bystanders = s.bystanders :=
  s.bystanders_forAll (List.range 1024) (fun i s => s.used.sramWrite (4096 * chunk + 4 * i) (BitVec.ofNat 32 s.free)) fun _ t =>
    (Block.bystanders_sramWrite ..).trans (Block.bystanders_used t)

@[simp] theorem Block.bystanders_bstCut (sel : Nat → Bool) (restarted : Bool) : (s.bstCut sel restarted).bystanders = s.bystanders := by
  unfold Block.bstCut
  split
  · simp
  · rfl

@[simp] theorem Block.bystanders_startScarf (b kind : Nat) : (s.startScarf b kind).bystanders = s.bystanders := by
  simp [Block.startScarf]

@[simp] theorem Block.bystanders_startSwitch (k alt : Nat) : (s.startSwitch k alt).bystanders = s.bystanders := by
  unfold Block.startSwitch
  rw [Block.bystanders_modSel, Block.bystanders_put]

@[simp] theorem Block.bystanders_takeWrites (addrs : List Nat) : (s.takeWrites addrs).bystanders = s.bystanders := by
  simp [Block.takeWrites]

@[simp] theorem Block.bystanders_takeLate : s.takeLate.bystanders = s.bystanders := by
  simp [Block.takeLate]

@[simp] theorem Block.bystanders_startRequests : s.startRequests.bystanders = s.bystanders := by
  unfold Block.startRequests
  refine (Block.bystanders_forAll _ _ _ fun k t => ?selects).trans ((Block.bystanders_forAll _ _ _ fun b t => ?blocks).trans s.bystanders_takeLate)
  case selects =>
    split
    · split
      · rfl
      · exact t.bystanders_startSwitch k _
    · rfl
  case blocks =>
    extract_lets x fresh osc ph
    have hosc : osc.bystanders = t.bystanders := by simp [osc, fresh]
    have hph : ph.bystanders = t.bystanders := by simp [ph, hosc]
    split
    · exact Block.bystanders_either ((Block.bystanders_startScarf ..).trans hph) hph
    · split
      · exact Block.bystanders_either ((Block.bystanders_startScarf ..).trans hph) hph
      · exact hph

@[simp] theorem Block.bystanders_advanceScarfs : s.advanceScarfs.bystanders = s.bystanders := by
  unfold Block.advanceScarfs
  refine (Block.bystanders_forAll _ _ _ fun k t => t.bystanders_modSel k _).trans (s.bystanders_forAll _ _ fun b t => ?_)
  extract_lets u
  have hu : u.bystanders = t.bystanders := t.bystanders_modBlk b _
  split
  · exact Block.bystanders_either (((Block.bystanders_put ..).trans (Block.bystanders_modBlk ..)).trans hu) hu
  · split
    · exact hu
    · extract_lets k done
      have hdone : done.bystanders = t.bystanders := (Block.bystanders_put ..).trans hu
      have hrest := (done.bystanders_put (Reg.GRF_BLK_PROG_ACTIVE b) 0).trans hdone
      exact Block.bystanders_either ((Block.bystanders_modBlk ..).trans hrest) (Block.bystanders_either hrest hdone)
  · exact hu

@[simp] theorem Block.bystanders_takeUpsets (us : List Upset) : (s.takeUpsets us).bystanders = s.bystanders :=
  s.bystanders_forAll _ _ fun _ _ => rfl

end Progress
end Sys2Proof.Machine
end

section
/-! SUPPORT. The graph instant as a whole, and what it moves (R165, R179); with it the graph's instants, selects and rings are settled. -/

namespace Sys2Proof.Machine

/-! ## The upsets that an instant takes in -/

section Upsets

variable (s : Block) (us : List Upset)

@[simp] theorem Block.takeUpsets_regs : (s.takeUpsets us).regs = s.regs :=
  Block.forAll_keeps Block.regs us _ (fun _ t => t.modMem_regs _) s

@[simp] theorem Block.takeUpsets_graph : (s.takeUpsets us).graph = s.graph := by
  unfold Block.takeUpsets
  refine Block.forAll_keeps Block.graph us _ (fun _ _ => ?_) s
  rfl

@[simp] theorem Block.takeUpsets_img : (s.takeUpsets us).img = s.img := by
  unfold Block.takeUpsets
  refine Block.forAll_keeps Block.img us _ (fun _ _ => ?_) s
  rfl

@[simp] theorem Block.takeUpsets_sram : (s.takeUpsets us).mem.sram = s.mem.sram := by
  unfold Block.takeUpsets
  refine Block.forAll_keeps (fun t => t.mem.sram) us _ (fun _ _ => ?_) s
  rfl

end Upsets

/-- The graph runs by the mode and the active image alone. -/
theorem Block.graphOn_of {s t : Block} (hregs : t.regs = s.regs) (himg : t.img = s.img) : t.graphOn = s.graphOn := by
  have hbase : t.base = s.base := congrArg (fun regs => bitsOf (Tab.get resetWord regs Reg.PWR_MODE_BASE.addr) _ _) hregs
  unfold Block.graphOn Block.audioOn
  rw [hbase, himg]

/-! ## The instant -/

/-- The block at its graph instant: the instant is due no longer, and the memory errors are taken in (R179). -/
def Block.atInstant (s : Block) (us : List Upset) : Block :=
  ({ s with time := { s.time with graphDue := false } } : Block).takeUpsets us

/-- The block with the instant served, and these samples as the sinks that wait for release and those in the output buffer. -/
def Block.withSinks (s : Block) (work buf : List Sample) : Block :=
  { s with time := { s.time with graphDue := false }, graph := { work, buf } }

section Instant

variable (s : Block) (us : List Upset)

theorem Block.atInstant_word (a : Nat) : (s.atInstant us).word a = s.word a :=
  congrArg (fun regs => Tab.get resetWord regs a) (Block.takeUpsets_regs _ us)

theorem Block.atInstant_graph : (s.atInstant us).graph = s.graph := Block.takeUpsets_graph _ us

theorem Block.atInstant_sram : (s.atInstant us).mem.sram = s.mem.sram := Block.takeUpsets_sram _ us

theorem Block.atInstant_graphOn : (s.atInstant us).graphOn = s.graphOn :=
  Block.graphOn_of (Block.takeUpsets_regs _ us) (Block.takeUpsets_img _ us)

theorem Block.atInstant_bystanders : (s.atInstant us).bystanders = (s.withSinks s.graph.work s.graph.buf).bystanders :=
  Block.bystanders_takeUpsets _ us

theorem Block.graphInstantOp_idle (h : s.time.graphDue = false) : s.graphInstantOp us = s := by
  simp [Block.graphInstantOp, h]

theorem Block.graphInstantOp_stopped (h : s.time.graphDue = true) (hoff : s.graphOn = false) : s.graphInstantOp us = s.atInstant us := by
  have hoff' := (s.atInstant_graphOn us).trans hoff
  unfold Block.atInstant at hoff' ⊢
  simp [Block.graphInstantOp, h, hoff']

/-- What the instant does with a graph that runs: the starts, the release of the sinks, the serial ports, the schedule with its new sinks, and the
progress (R165). -/
theorem Block.graphInstantOp_running (h : s.time.graphDue = true) (hon : s.graphOn = true) :
    ∃ (work : List Sample) (t : Block), t.bystanders = (s.atInstant us).startRequests.present'.bystanders ∧
      s.graphInstantOp us = (t.modGraph (fun g => { g with work })).advanceScarfs := by
  have hon' := (s.atInstant_graphOn us).trans hon
  have hsched := (s.atInstant us).startRequests.present'.sapInstant.bystanders_schedule
  rw [Block.bystanders_sapInstant] at hsched
  unfold Block.atInstant at hon' hsched ⊢
  simp only [Block.graphInstantOp, h, hon', Bool.not_true, Bool.false_eq_true, if_false]
  generalize Block.schedule _ = r at hsched ⊢
  obtain ⟨work, t⟩ := r
  exact ⟨work, t, hsched, rfl⟩

/-- Release: the sinks computed at the instant before pass to the output buffer, and nothing else of the bystanders moves. -/
theorem Block.bystanders_present : s.present'.bystanders = { s.bystanders with graph := { work := s.graph.work, buf := s.graph.work } } := by
  unfold Block.present'
  refine (Block.bystanders_onlyIf _ _ _ (Block.bystanders_forAll _ _ _ fun j t => Block.bystanders_streamOut ..)).trans ?_
  rw [Block.bystanders_sapRelease, Block.bystanders_chainInstant]
  rfl

/-- The sinks that the schedule answers are what waits for the next release. -/
theorem Block.bystanders_work (x : List Sample) :
    (s.modGraph (fun g => { g with work := x })).bystanders = { s.bystanders with graph := { work := x, buf := s.bystanders.graph.buf } } := rfl

/-- What an instant that is due leaves of the bystanders: all of them, but for the sinks; with the graph running those of before stand in the output
buffer. -/
theorem Block.graphInstantOp_bystanders (h : s.time.graphDue = true) :
    ∃ work buf, (s.graphInstantOp us).bystanders = (s.withSinks work buf).bystanders ∧ (s.graphOn = true → buf = s.graph.work) := by
  cases hon : s.graphOn with
  | false => exact ⟨_, _, by rw [s.graphInstantOp_stopped us h hon, s.atInstant_bystanders us], nofun⟩
  | true =>
    obtain ⟨work, t, ht, heq⟩ := s.graphInstantOp_running us h hon
    have hstarts := (s.atInstant us).bystanders_startRequests.trans (s.atInstant_bystanders us)
    have hwork : (s.atInstant us).startRequests.graph.work = s.graph.work := (Block.bystanders_eq_iff.mp hstarts).2.1
    refine ⟨work, s.graph.work, ?_, fun _ => rfl⟩
    rw [heq, Block.bystanders_advanceScarfs, Block.bystanders_work, ht, Block.bystanders_present, hstarts, hwork]
    rfl

/-- A bystander of the served instant is one of the block, but for the grid's flag. -/
theorem Block.withSinks_same {u : Block} {work buf : List Sample} {p : Part} (hp : p ∉ Part.time :: soundParts) (h : p.same (s.withSinks work buf) u) :
    p.same s u := by
  cases p with
  | time | free | ledger | ports | chains | graph | sap | mem | bst => exact absurd (by decide) hp
  | host | core | cells | dir | spk | csc | clk | net | img | pwr | lsn | otp => exact h

end Instant

theorem graphInstant_gives (s : State) (us : List Upset) : gives (.graphInstant us) s fun u =>
    (s.time.graphDue = false → u = s.toBlock) ∧
    u.time.graphDue = false ∧ u.time = { s.time with graphDue := false } ∧
    (s.time.graphDue = true → s.graphOn = false → u.graph = s.graph ∧ u.mem.sram = s.mem.sram ∧ ∀ a, u.word a = s.word a) ∧
    (s.time.graphDue = true → s.graphOn = true → u.graph.buf = s.graph.work) ∧
    (∀ p : Part, p ∉ [Part.bst, Part.chains, Part.free, Part.graph, Part.ledger, Part.mem, Part.ports, Part.sap, Part.time] → p.same s.toBlock u) := by
  refine gives_of_act (g := fun b => b.graphInstantOp us) rfl rfl ?_
  cases hdue : s.time.graphDue with
  | false =>
    dsimp only
    rw [s.graphInstantOp_idle us hdue]
    exact ⟨fun _ => rfl, hdue, by rw [← hdue], nofun, nofun, fun p _ => (s.only_refl [] []).2 p List.not_mem_nil⟩
  | true =>
    obtain ⟨work, buf, hkept, hbuf⟩ := s.graphInstantOp_bystanders us hdue
    obtain ⟨hparts, -, hu⟩ := Block.bystanders_eq_iff.mp hkept
    have htime : (s.graphInstantOp us).time = { s.time with graphDue := false } := hparts .time (by decide)
    refine ⟨nofun, congrArg Time.graphDue htime, htime, fun _ hoff => ?_, fun _ hon => hu.trans (hbuf hon), fun p hp => ?_⟩
    · rw [s.graphInstantOp_stopped us hdue hoff]
      exact ⟨s.atInstant_graph us, s.atInstant_sram us, s.atInstant_word us⟩
    · have hpart : p ∉ Part.time :: soundParts := fun hmem => hp (by revert hmem; cases p <;> decide)
      exact s.withSinks_same hpart (hparts p (List.not_mem_of_not_mem_cons hpart))

/-- Settles O41: the instant keeps everything beside the sound's way and hands on the sinks (R165, R179); the selects and the rings follow by one lemma
for each command (R174 to R176, R195, R248). -/
theorem graphAndSelects : Obligations.GraphAndSelects :=
  ⟨graphInstant_gives, altWrite_gives, selholdRelease_gives, selectSwitchEnd_gives, ringIndexWrite_gives⟩

end Sys2Proof.Machine
end
